-- ==== Sys2Proof/Word.lean ====
section
/-! DEFINITION. The word types of the register space and the table type of every sparse store. -/

namespace Sys2Proof

/-- A register word (R24: every register table is 32 bits wide). -/
abbrev Word := BitVec 32

/-- One byte (R2: multi-byte values are little-endian sequences of these). -/
abbrev Byte := BitVec 8

/-- A sparse table from a number (an address, an index, an endpoint ID) to a value. Canonical form: keys
strictly rising, and no entry equal to the default that an unlisted key reads as. -/
abbrev Tbl (α : Type) := List (Nat × α)

end Sys2Proof
end

