-- ==== Sys2Proof/Syntax.lean ====
section
/-! DEFINITION. The commands of the block, one constructor for each row of the table, and the operands they carry:
what a host writes, what a Lace peer sends and what the board shows. -/

namespace Sys2Proof

/-- The two host interfaces (R125). -/
inductive Iface where
  | twb0 | spi
  deriving DecidableEq, Repr

/-- The sources of update commands (R583). -/
inductive Src where
  | twb0 | spi | parent
  deriving DecidableEq, Repr

/-- The level of a FIN input (R259): low, high, or between the thresholds. -/
inductive FinLvl where
  | low | high | mid
  deriving DecidableEq, Repr

/-- What isolates a lane before its word reaches a voter (R286). -/
inductive CheckKind where
  | memory | checker | regulator
  deriving DecidableEq, Repr

/-- The clock sources that are counted against each other (R300). -/
inductive ClkSrc where
  | xtal | rc | wdosc
  deriving DecidableEq, Repr

/-- The supplies watched under R309. -/
inductive Supply where
  | vdrv | buck (n : Fin 8) | ldo (n : Fin 8)
  deriving DecidableEq, Repr

/-- The packet error check of a TWB0 transaction (R544). -/
inductive Pec where
  | absent | good | bad
  deriving DecidableEq, Repr

/-- A PMBus read or write of a byte or word command (R546). -/
inductive PmTx where
  | read
  | write (v : Nat) (pec : Pec)
  deriving DecidableEq, Repr

/-- How the copy of R587 ends: good, or a failed read-back of NOR copy A or B. -/
inductive CopyFail where
  | none | copyA | copyB
  deriving DecidableEq, Repr

/-- Instructions of the test access port (R321). -/
inductive TapCode where
  | bypass | idcode | samplePreload | extest | otherPinDriving | other
  deriving DecidableEq, Repr

/-- Four 32-bit words: a request (R86), a completion (R112) or a ledger entry (R31). -/
structure Words4 where
  w0 : Word
  w1 : Word
  w2 : Word
  w3 : Word
  deriving DecidableEq, Repr

/-- The supply voltages at a moment, in mV (R251, R253). -/
structure SupplyMv where
  vinA : Nat
  vinB : Nat
  vhold : Nat
  ka : Nat
  deriving DecidableEq, Repr

/-- How long a warm start takes (R334): its length in core cycles from the trigger to step 6. -/
structure WarmIn where
  len : Nat
  deriving DecidableEq, Repr

/-- What the board and the two NOR copies show during a cold start (R322 to R330, R540, R595). -/
structure StartEnv where
  /-- Results of the mask ROM check of step 2 and of its one repeat (R327). -/
  rom1 : Bool
  rom2 : Bool
  /-- Lane self-test results, one row of three lanes per attempt (R326). -/
  bist : List (BitVec 3)
  /-- A serial NOR flash with the parameter table of R596 answers. -/
  norFound : Bool
  /-- The bytes of copy A and copy B (R595). -/
  copyA : List Byte
  copyB : List Byte
  /-- Codes of ADDR0 and ADDR1 (R540). -/
  addr0 : Fin 3
  addr1 : Fin 3
  /-- A 25 MHz clock is seen, and PLL A has held lock for 1 ms at step 13 (R325). -/
  xtal : Bool
  pllA : Bool
  /-- Slice calibrations of step 13: offset and gain per slice 0 to 16 (R403). -/
  cals : List (Int × Nat)
  /-- VOUT_MODE of the foreign items, index 16 d + i (R396). -/
  vmodes : List (Nat × Byte)
  /-- A HELLO with TAKEOVER was received before the first committed epoch (R387). -/
  takeoverHello : Bool
  /-- Supply levels, pack presence and the clock bits at the first committed epoch (R25, R442). -/
  mv : SupplyMv
  packPresent : Bool
  /-- PACK_ID in mV at the start (R482, R486). -/
  packIdMv : Nat
  /-- The check codes of the learned metering values and of the gauge's saved content pass (R420, R485). -/
  learnedOk : Bool
  gaugeOk : Bool
  /-- Time from the trigger to step 14, µs (GLB_START_T). -/
  startUs : Nat
  deriving DecidableEq, Repr

/-- What one loop sample brings (R180 to R182, R187, R191, R196). -/
structure LoopIn where
  /-- V_sense at each of the 2^k conversions, in µV, oldest first (R180, R181). -/
  senses : List Nat
  /-- Currents in mA at which the rail's phases, or its buck, ended their high-side pulses since the previous sample (R138,
  R191). -/
  peaks : List Int
  deriving DecidableEq, Repr

/-- A raw temperature input as its converter delivers it (R424). -/
inductive SensorRaw where
  /-- Die sensor: temperature in m°C. -/
  | milliC (t : Int)
  /-- TMON of a phase: its voltage in µV (R131). -/
  | tmon (uv : Int)
  /-- NTC: the ratio that the thermal sequencer's last result gave, or the charger's conversion of PACK_NTC. -/
  | ratio
  deriving DecidableEq, Repr

/-- What the pins and the PWM of one phase bring to a current sample (R130, R138, R167, R177). -/
structure PhaseIn where
  /-- Current into PHnn_IMON in nA. -/
  imon : Int
  /-- Currents in mA at which the high-side pulses of the switching cycles since the previous sample ended, oldest first
  (R138). -/
  cycles : List Int
  deriving DecidableEq, Repr

/-- Input voltages of the source selection in mV, and the filters of R444. -/
structure SourceMeas where
  solar : Nat
  net : Nat
  /-- SOLAR has been inside its window for 100 ms without interruption. -/
  solarHeld : Bool
  deriving DecidableEq, Repr

/-- HELLO payload (R355). -/
structure Hello where
  role : Fin 16
  eyelet : Fin 16
  hop : Byte
  offer : Bool
  takeover : Bool
  epochLen : Nat
  uid : BitVec 64
  rootUid : BitVec 64
  stamp : BitVec 16
  echo : BitVec 16
  turn : BitVec 16
  epoch : BitVec 48
  deriving DecidableEq, Repr

/-- JOIN_REQ and JOIN_GRANT payload (R357). -/
structure Join where
  uid : BitVec 64
  slot : Fin 64
  /-- GLB_ROLE in a request, refusal cause in a grant. -/
  role : Fin 16
  epoch : BitVec 48
  deriving DecidableEq, Repr

/-- The fixed part of an epoch marker (R357, R361). -/
structure Marker where
  epoch : BitVec 48
  countdown : BitVec 16
  jump : Bool
  ddiv : Fin 8
  takeover : Bool
  /-- Symbol 10, the CRC-8 over symbols 1 to 9 (R357). -/
  crc : Byte
  deriving DecidableEq, Repr

/-- DELTA payload: epoch of the set, its bits, and (local index, entry) records (R357). -/
structure DeltaFrame where
  epoch : BitVec 48
  last : Bool
  full : Bool
  parked : Bool
  recs : List (Fin 2048 × Words4)
  deriving DecidableEq, Repr

/-- MIRROR payload (R357): entries by endpoint ID, or slot-table records (slot, presentation, identity). -/
structure MirrorFrame where
  epoch : BitVec 48
  last : Bool
  recs : List (Fin 131072 × Words4)
  slots : List (Fin 64 × Fin 3 × BitVec 64)
  deriving DecidableEq, Repr

/-- BULK payload (R357). -/
structure BulkFrame where
  kind : Fin 8
  ofs : Nat
  data : List Byte
  deriving DecidableEq, Repr

/-- The frame types that a relay forwards (R354, R360). -/
inductive FrameKind where
  | joinReq | joinGrant | leave | lost | op | cpl | delta | mirror | bulk
  deriving DecidableEq, Repr

/-- A frame that is not addressed to this unit's slot (R352, R360). -/
structure Frame where
  kind : FrameKind
  dst : Fin 64
  src : Fin 64
  /-- OTAG of an OP or CPL (R357). -/
  otag : BitVec 10
  /-- Slot granted, of a JOIN_GRANT. -/
  slot : Fin 64
  payload : List Byte
  /-- NOSLOT of the header: the sender holds no slot yet (R352). -/
  noSlot : Bool := false
  deriving DecidableEq, Repr

/-- How a TWB1 transaction ends (R398, R400, R563). -/
inductive Twb1Result where
  /-- Not acknowledged, abandoned, or its PEC failed. -/
  | failed
  /-- The operation in progress is written and read back: the OPERATION byte or the VOUT_COMMAND word, and STATUS_WORD. -/
  | opDone (readback status : BitVec 16)
  /-- A poll answered: the word read of each item (R397), and the OPERATION byte of output items. -/
  | pollDone (values : List (Fin 16 × BitVec 16)) (outs : List (Fin 16 × Byte))
  deriving DecidableEq, Repr

/-- The commands of the block: one constructor for each row of the table of operations and events. Some commands without
operands stand last, because the runtime numbers only the first 245 constructors that carry operands. -/
inductive Instr where
  /-- R314: VHOLD holds at or above the start threshold for its filter time while in COLD with PORST_N high, and the unit moves to STARTING. -/
  | vholdStart
  /-- R315: VHOLD stays below its brown-out threshold for its filter time, and the unit enters COLD with every output in its cold state. -/
  | vholdBrownOut
  /-- R314: A supply source crosses its source brown-out threshold after its filter time, which changes the count behind GLB_AV_SRC2. -/
  | sourceBrownOut (src : Fin 3) (up : Bool)
  /-- R319: PORST_N is low for 1 µs, the unit enters HELD, and within 2 µs every output is made safe. -/
  | porstNLow
  /-- R318: PORST_N is high for 10 µs, and the unit leaves HELD for STARTING. -/
  | porstNRelease
  /-- R322: The unit enters STARTING and runs the cold-start steps through the first committed epoch. -/
  | coldStart (env : StartEnv)
  /-- R332: Ten seconds in NO_IMAGE expire, and the unit makes a recovery cold start. -/
  | recoveryColdStart
  /-- R334: A pending warm start begins after a qualifying tick, swaps microcode, adopts warm sections and resumes intake. -/
  | warmStart (w : WarmIn)
  /-- R340: At the tick that publishes a committed PARK, the Lathe idles, the clocks move to RC and PARKED is entered. -/
  | parkEntry
  /-- R342: A wake condition in PARKED relocks the PLLs, recalibrates and returns the unit to RUN. -/
  | wake (pllaLocked : Bool) (cals : List (Int × Nat))
  /-- R344: A host write of 1 to GLB_WAKE_CMD is a wake condition, or is ignored in RUN. -/
  | wakeCommand (i : Iface)
  /-- R559: A host write of PIPE_REQ0, or a write to a governing register, raises one P4 request, or is refused when the queue is full. -/
  | requestSubmit (i : Iface) (w0 : Word)
  /-- R89: Awl captures a completed request from one of its eight ports into its class queue. -/
  | requestCapture (p : Fin 8)
  /-- R116: A host bundle member is staged in the interface buffer, handed to Awl on LAST, or empties the buffer on a mismatch. -/
  | bundleMemberStage (i : Iface) (w0 : Word)
  /-- R116: 10 ms pass without a new member, and the host bundle buffer empties with refusals. -/
  | bundleBufferTimeout (i : Iface)
  /-- R116: A write of 1 to PIPE_BND_CLR empties the interface's bundle buffer. -/
  | bundleBufferClear (i : Iface)
  /-- R93: Shank takes the next request by precedence and stamps it, and Welt then checks it. -/
  | shankOrder
  /-- R100: Stitch obtains a Tack slot and issues an operation to an actuator, to TWB1 or to an eyelet. -/
  | stitchIssue (fast : Bool)
  /-- R104: A completion is captured and matched to its Tack slot, which confirms the operation. -/
  | tackConfirm (slot : Fin 1024) (seq : Word)
  /-- R106: An operation's time limit expires, and it completes TIMEOUT with its slot freed. -/
  | timeLimitExpiry (slot : Fin 1024)
  /-- R109: Sole writes a confirmed operation's commit to the journal and the mirror, or defers it past the per-epoch limit. -/
  | soleCommit
  /-- R119: With every member confirmed, Sole writes the final states of the bundle when room remains before the tick. -/
  | bundleCommit
  /-- R49: The epoch length elapses, and the tick swaps the ledger copies and publishes the epoch. -/
  | epochTick
  /-- R64: The catch-up replay of a former pinned copy completes, so the next tick may swap. -/
  | catchUpComplete (bad : Bool)
  /-- R79: In the epoch after a protection releases, a clamped request is submitted again. -/
  | recheckResubmit (li : Fin 2048)
  /-- R80: In the epoch after an envelope change, a value outside the new envelope is committed to the nearer bound. -/
  | envelopeCorrection (li : Fin 2048)
  /-- R54: A faceplate read returns entry words and loads the interface's entry latch. -/
  | faceplateRead (i : Iface) (word : Fin 524288) (eccErr : Bool)
  /-- R57: A write of 1 to PIPE_SNAP_PIN freezes the faceplate on the shown publication. -/
  | snapshotPinSet (i : Iface)
  /-- R61: A write of 0 to PIPE_SNAP_PIN by the setting interface requests release at the next tick. -/
  | snapshotPinClear (i : Iface)
  /-- R126: A read of an epoch register's low word latches its high word for the interface. -/
  | epochLowRead (i : Iface) (k : Fin 3)
  /-- R114: A read of PIPE_CPL0 removes the oldest completion from the FIFO and latches it. -/
  | completionPop (i : Iface)
  /-- R126: A write of 1 to PIPE_PEAK_CLR reloads the Tack and commit peak registers. -/
  | peakClr
  /-- R114: A write of 1 to PIPE_CPL_LOST_CLR clears the lost-completion count. -/
  | cplLostClr (i : Iface)
  /-- R5: A host write to a register without a row of its own is stored, ignored or acted on by its access code. -/
  | registerWrite (i : Iface) (addr : BitVec 24) (w : Word)
  /-- R132: PHnn_TMON lies out of range for 200 ns, the phase is driven to mid and its stage-fault source asserts. -/
  | stageFault (p : Fin 48) (low : Bool)
  /-- R140: A phase ends its pulse at the limit for RAIL_CL_PERSIST consecutive cycles. -/
  | persistentCurrentLimit (p : Fin 48) (limited : Nat)
  /-- R141: Fewer than half of the phases are limited for RAIL_CL_PERSIST cycles, and PROT_ACTIVE is cleared. -/
  | overloadEnd (p : Fin 48)
  /-- R148: The spare gives its first high pulse at the failed phase's position, and the substitution is confirmed. -/
  | spareFirstPulse (p : Fin 48)
  /-- R145: One millisecond after a phase commits FAILED, it is committed LATCHED_OFF. -/
  | phaseLatch (p : Fin 48)
  /-- R136: A phase deviates beyond RAIL_IMB_PCT for 100 evaluations, and an event is raised. -/
  | phaseImbalance (p : Fin 48)
  /-- R149: The shedding loop's 10 µs evaluation may request more or fewer phases. -/
  | shedEvaluation (r : Fin 24)
  /-- R201: The load-line loop's 10 µs evaluation may submit a SETPOINT. -/
  | loadLineEvaluation (r : Fin 32)
  /-- R152: A started rail gives its first pulse, and its reference begins its ramp. -/
  | railFirstPulse (r : Fin 40) (vout : Nat)
  /-- R156: A starting rail is declared shorted, its phases go to mid and its UV source asserts with cause short. -/
  | shortDetect (r : Fin 40) (vout : Nat) (limitedAt30 : Bool)
  /-- R158: The output exceeds its OV threshold for RAIL_OV_DG, the die acts and the OV source asserts. -/
  | overvoltage (r : Fin 40) (abs : Bool) (vout : Nat)
  /-- R159: The output stays below its UV threshold for RAIL_UV_DG, and the UV source asserts. -/
  | undervoltage (r : Fin 40) (vout : Nat)
  /-- R162: A stopping rail falls below RAIL_OFF_THR and commits OFF. -/
  | outputDischarged (r : Fin 40)
  /-- R163: The output is not below its off threshold within RAIL_DIS_TMAX, and the UV source asserts. -/
  | dischargeTimeout (r : Fin 40)
  /-- R234: RAIL_PGOOD holds for SEQ_PG_DG after the ramp, and the rail's start is confirmed. -/
  | powerGood (r : Fin 40)
  /-- R235: SEQ_PG_TO expires without power-good, and the UV source asserts with its cause. -/
  | powerGoodTimeout (r : Fin 40)
  /-- R167: The voltage and current streams of each rail take a 1 µs sample and update means and extremes. -/
  | telemetrySample (r : Fin 40) (pins : List PhaseIn) (sense : Int)
  /-- R168: A write of 1 to RAIL_PK_CLR clears a rail's voltage and current extremes. -/
  | railPkClr (r : Fin 40)
  /-- R168: A write of 1 to RAIL_LS_PK_CLR clears LS_IPK of every switch. -/
  | railLsPkClr
  /-- R169: A switch reaches its on conditions and commits ON. -/
  | inrushComplete (sw : Fin 32)
  /-- R169: Inrush does not complete within LS_INRUSH_MS, the gate is pulled and the source asserts. -/
  | inrushTimeout (sw : Fin 32)
  /-- R171: The shunt current is at or above LS_ISHORT for 300 ns, the gate is pulled and the switch fails. -/
  | switchShort (sw : Fin 32)
  /-- R172: The gate drive of an ON switch stays below 6 V for 10 µs, and its source asserts. -/
  | gateFault (sw : Fin 32)
  /-- R173: The switch's thermal account is updated every 10 µs and may warn or trip. -/
  | i2tUpdate (sw : Fin 32) (iMean : Int) (dtUs : Nat)
  /-- R186: At a rail's sample instant, the Lathe computes its compensator and delivers a new demand. -/
  | loopSample (r : Fin 40) (inp : LoopIn)
  /-- R210: A write of 1 to LOOP_TRC_ARM discards the buffer and arms it. -/
  | loopTrcArm (b : Fin 16)
  /-- R209: A write of 1 to LOOP_TRC_FORCE forces a trigger at the next loop sample. -/
  | loopTrcForce (b : Fin 16)
  /-- R210: A write of 1 to LOOP_TRC_STOP ends recording and enters DONE. -/
  | loopTrcStop (b : Fin 16)
  /-- R210: A LOOP_TRC_GARM write arms the named buffers in one core cycle. -/
  | loopTrcGarm (mask : BitVec 16)
  /-- R209: A LOOP_TRC_GFORCE write forces the named buffers. -/
  | loopTrcGforce (mask : BitVec 16)
  /-- R189: A write of 1 to LOOP_SAT_CLR clears LOOP_SATCNT. -/
  | loopSatClr (r : Fin 32)
  /-- R221: A DELAY step's time elapses, and the step completes. -/
  | delayEnd (g : Fin 16)
  /-- R225: A WAIT_GROUP or WAIT_INPUT condition becomes true, and the step completes. -/
  | waitSatisfied (g : Fin 16)
  /-- R225: A WAIT step's time-out expires, and the step fails with cause 6. -/
  | waitTimeout (g : Fin 16)
  /-- R238: A group's back-off wait ends, and the retry restarts the power-up program. -/
  | retryBegin (g : Fin 16)
  /-- R245: VIN_A or VIN_B stays below SEQ_IN_THR for SEQ_IN_DG, which may declare input loss and power-fail. -/
  | inputLost (b : Bool) (mv : SupplyMv)
  /-- R245: A lost input rises to its return level, and input loss ends. -/
  | inputReturn (b : Bool)
  /-- R245: A returned input holds for 10 ms, and groups may resume. -/
  | inputsStable
  /-- R248: SEQ_RESUME_MAX elapses in a held group, and power-down continues. -/
  | resumeTimeout (g : Fin 16)
  /-- R251: A write of 1 to SEQ_SNAP_CMD captures a snapshot record. -/
  | snapshotCommand (i : Iface) (mv : SupplyMv)
  /-- R251: The snapshot record reaches the MRAM ring and SEQ_SNAP_BUSY clears. -/
  | snapshotWritten
  /-- R258: A decoded fault line changes, and the collector decides an occurrence in the next cycle. -/
  | faultLineChange (n : Fin 512) (asserted : Bool) (cause : Fin 1024)
  /-- R260: A dual-rail line stays equal for 8 cycles, and the source commits FAILED. -/
  | integrityLost (n : Fin 512)
  /-- R257: A line's turn in the rotation inverts it and checks that the inversion is seen. -/
  | lineTest (n : Fin 512) (seen : Bool)
  /-- R259: A FIN input holds a level or the mid band long enough to set its decoded value or lose integrity. -/
  | finLevel (f : Fin 16) (lvl : FinLvl)
  /-- R262: A source stays asserted for FLT_PERSIST and qualifies. -/
  | persistQualify (n : Fin 512)
  /-- R261: An occurrence ages out of the counting window. -/
  | occurrenceExpire (n : Fin 512)
  /-- R276: A deferred change of a source entry is committed in the next epoch. -/
  | sourceEntryCommit (n : Fin 512)
  /-- R270: In the epoch after a FAILED commit, the collector submits LATCHED_OFF for a latching source. -/
  | latchSubmit (li : Fin 2048)
  /-- R657: A discharged output with no asserted source is returned from FAILED to OFF. -/
  | failedRecovery (li : Fin 2048)
  /-- R265: A write of 1 to FLT_FSET forces a source asserted when forcing is enabled. -/
  | fltFset (k : Fin 16) (mask : Word)
  /-- R265: A write of 1 to FLT_FCLR removes a force. -/
  | fltFclr (k : Fin 16) (mask : Word)
  /-- R266: A write of 1 to FLT_SW_SET asserts a software-defined source. -/
  | fltSwSet (mask : BitVec 16)
  /-- R266: A write of 1 to FLT_SW_CLR clears a software-defined source. -/
  | fltSwClr (mask : BitVec 16)
  /-- R274: A write of 1 to FLT_FAULTN_REL releases FAULT_N when no SAFE source is asserted. -/
  | fltFaultnRel
  /-- R278: A write of 1 to EVT_ACK raises a P4 STATE CLEAR for the event. -/
  | evtAck (i : Iface) (k : Fin 8) (mask : Word)
  /-- R285: One lane's word differs from the other two at a voting point, and the lane is isolated. -/
  | voteMismatch (l : Fin 3)
  /-- R286: A lane's checker, memory ECC or regulator reports an error, and the lane is isolated. -/
  | laneCheckerError (l : Fin 3) (kind : CheckKind)
  /-- R284: A word copy fails its die-to-die CRC and is excluded from the vote. -/
  | linkCopyCrcFail
  /-- R287: Every 256 core cycles, the lanes store and agree a checkpoint. -/
  | checkpoint (agree : Bool) (joinOk : Bool)
  /-- R289: No majority exists at a voting point, so the outputs hold and the lanes stall. -/
  | chuckHold (three : Bool)
  /-- R292: The checker stage completes and may isolate reporting lanes to end the hold. -/
  | holdCheckerStage (reports : BitVec 3) (len : Nat)
  /-- R292: Replay from the agreed checkpoint completes, and agreement ends the hold as transient. -/
  | holdReplayStage (agree : Bool) (len : Nat)
  /-- R292: The self-test stage completes and isolates failing lanes, or governing stops. -/
  | holdSelfTestStage (fails : BitVec 3) (len : Nat)
  /-- R296: A re-forming lane completes its self-test, or the attempt fails. -/
  | reformSelfTestDone (l : Fin 3) (ok : Bool)
  /-- R296: The working memory copy to the re-forming lane completes. -/
  | reformCopyDone (l : Fin 3)
  /-- R300: No crystal edge arrives within 160 ns, and the clock switches to PLL B. -/
  | crystalStop
  /-- R300: A PLL loses lock, and a switch to PLL B follows when the core runs on PLL A. -/
  | pllLockLoss (b : Bool)
  /-- R300: A 10 µs count window finds the crystal, RC or WDOSC out of range. -/
  | clockOutOfRange (c : ClkSrc)
  /-- R300: The 32.768 kHz oscillator shows no edge within 122 µs, and RTC_OSF is set. -/
  | x32Stop
  /-- R301: PWM counters re-align to the new clock, and the hold of a clock switch ends. -/
  | clockSwitchDone (len : Nat)
  /-- R302: PLL A has held lock for 100 ms with LANE_CLK_RET set, and the clock switches back. -/
  | pllReturn
  /-- R304: A reference differs from the other two for 2 µs, and its consumers move. -/
  | referenceDisagree (k : Fin 3) (othersAgree : Bool)
  /-- R306: Current reverses through an ideal-diode pair, which is turned off. -/
  | reverseCurrent (b : Bool)
  /-- R306: The input exceeds VHOLD by 50 mV, and the pair is turned on again. -/
  | idealDiodeReenable (b : Bool)
  /-- R307: An input exceeds LANE_VIN_OV for 1 µs, and its pair turns off. -/
  | vinOvervoltage (b : Bool)
  /-- R307: The input stays below the release level for 1 ms, and the pair turns on. -/
  | vinOvRelease (b : Bool)
  /-- R308: A pair's gate voltage is wrong for 10 µs, and its source asserts with cause 0. -/
  | idealDiodeGateFault (b : Bool)
  /-- R309: A watched regulator supply crosses its threshold or release level for 10 µs. -/
  | supplyUndervoltage (sup : Supply) (low : Bool)
  /-- R313: A write of 1 to LANE_HOLD_PK_CLR clears LANE_HOLD_MAX. -/
  | laneHoldPkClr
  /-- R350: An eyelet receiver locks, and the eyelet enters TRAIN. -/
  | eyeletLock (e : Fin 4)
  /-- R350: Lock is lost for 10 µs, and the eyelet goes DOWN. -/
  | eyeletLockLoss (e : Fin 4)
  /-- R350: 3 ms pass without a valid HELLO, and the eyelet goes DOWN. -/
  | helloTimeout (e : Fin 4)
  /-- R356: An eyelet sends its periodic or changed HELLO. -/
  | helloSend (e : Fin 4)
  /-- R356: A received HELLO updates the round trip, trains the eyelet to UP or makes it FOREIGN. -/
  | hello (e : Fin 4) (h : Hello) (arrival : BitVec 16)
  /-- R357: An UP eyelet sends its LINK frame at least every 10 µs. -/
  | linkSend (e : Fin 4)
  /-- R357: A received LINK frame updates acknowledgements, NAK and credit limits. -/
  | link (e : Fin 4) (ack : Byte) (nak : Bool) (credits : List Byte)
  /-- R353: A received frame with a bad CRC, TYPE or LEN is discarded and counted. -/
  | frameDiscard (e : Fin 4)
  /-- R355: A frame with an unexpected SEQ is discarded and NAK is set. -/
  | sequenceReject (e : Fin 4)
  /-- R355: The acknowledgement has not advanced for 20 µs, and unacknowledged frames are resent. -/
  | resendTimeout (e : Fin 4)
  /-- R357: A class waits without credit for LACE_CRED_TO, and FS322 asserts. -/
  | creditTimeout (e : Fin 4) (cls : Fin 4)
  /-- R360: A relay forwards a frame not addressed to its own slot. -/
  | frameForward (e : Fin 4) (f : Frame)
  /-- R361: 50 µs before a tick, the domain head sends its epoch marker on child eyelets. -/
  | markerSend
  /-- R361: A received marker re-anchors the tick grid, jumps numbering and is forwarded. -/
  | epochMarker (e : Fin 4) (m : Marker)
  /-- R381: No valid marker arrives for 3 epochs or the parent eyelet goes DOWN, and the unit becomes an orphan. -/
  | parentLost
  /-- R365: A unit without a slot chooses a parent and sends JOIN_REQ. -/
  | joinRequest
  /-- R367: A refused unit repeats its JOIN_REQ after 1 s. -/
  | joinRetry
  /-- R367: A domain head grants or refuses a JOIN_REQ and assigns a slot. -/
  | joinReq (e : Fin 4) (src : Fin 64) (j : Join) (epochLen : Nat) (hops : Nat)
  /-- R369: A received grant gives the unit its slot, and a FULL set is sent. -/
  | joinGrant (e : Fin 4) (j : Join)
  /-- R370: A received LEAVE frees the slot as FREE. -/
  | leave (e : Fin 4) (uid : BitVec 64)
  /-- R377: A received LOST frame marks its slots for declaration at the next tick. -/
  | lost (e : Fin 4) (slots : BitVec 64)
  /-- R380: A received OP is captured as P3, rewritten at a group head, or forwarded. -/
  | op (e : Fin 4) (dst : Fin 64) (ws : Words4) (otag : BitVec 10)
  /-- R103: A received completion frame closes a Tack slot or relay slot. -/
  | cpl (e : Fin 4) (ws : Words4) (otag : BitVec 10)
  /-- R375: A received DELTA fragment is staged, and a LAST fragment delivers its set. -/
  | delta (e : Fin 4) (src : Fin 64) (d : DeltaFrame)
  /-- R384: A standby root stores the MIRROR frames into its shadow. -/
  | mirror (e : Fin 4) (m : MirrorFrame)
  /-- R585: A received BULK frame delivers recorder, image-block, update-command or answer data. -/
  | bulk (e : Fin 4) (src : Fin 64) (b : BulkFrame)
  /-- R370: A write of 1 to LACE_LEAVE sends LEAVE and makes the unit standalone. -/
  | leaveCommand (i : Iface)
  /-- R371: A slot stays UNREACHABLE for LACE_HOLD_S, and it is freed. -/
  | slotHoldExpire (sl : Fin 64)
  /-- R386: A standby root without markers for LACE_TAKE_EP epochs takes over as root. -/
  | takeover
  /-- R391: A write of a slot to LACE_WAKE_SLOT sends IDLE for 100 µs toward it. -/
  | wakeSlotCommand (i : Iface) (sl : Fin 64)
  /-- R391: A parked unit sees 20 µs of signal on its parent eyelet, which is wake condition 2. -/
  | laceWakeDetect
  /-- R394: An energy order's time limit expires, and the order ends. -/
  | energyTimeLimit
  /-- R395: NET stays below LACE_COVER_V for 100 µs during a DRAIN, and the sink end turns to SOURCE. -/
  | netCoverLoss
  /-- R462: NET is not reached in 5 ms, or overcurrent occurs in reverse mode, and the converter stops. -/
  | reverseModeFault (overCurrent : Bool)
  /-- R399: A foreign device's poll period elapses, and its items are read and published. -/
  | foreignPoll (d : Fin 32)
  /-- R398: A TWB1 transaction ends, confirming an operation or counting a failure toward unreachability. -/
  | twb1TransactionDone (d : Fin 32) (t : Twb1Result)
  /-- R404: The free slice is calibrated every ADC_CAL_INT and swapped into a position, or retired. -/
  | sliceCalibration (ofs : Int) (gain : Nat)
  /-- R409: A sequencer starts a conversion in its 200 ns step. -/
  | conversionStep (q : Fin 8)
  /-- R412: An entry's last conversion ends, and its result and value are formed and queued. -/
  | conversionResult (q : Fin 8) (codes : List Nat)
  /-- R415: A read of the pop window returns and removes the oldest entry. -/
  | resultQueuePop (i : Iface)
  /-- R415: A write of 1 to ADC_RQ_FLUSH empties the result queue. -/
  | adcRqFlush
  /-- R418: A metering channel delivers its 250 µs raw result, which also feeds the gauge count. -/
  | meteringResult (m : Fin 2) (raw : Int)
  /-- R419: ADC_MTR_CMD 1 starts a zero calibration. -/
  | mtrZero (m : Fin 2)
  /-- R419: ADC_MTR_CMD 2 starts a full-scale calibration. -/
  | mtrFullScale (m : Fin 2)
  /-- R419: ADC_MTR_CMD 3 restores the image coefficients. -/
  | mtrRestore (m : Fin 2)
  /-- R422: Every ADC_PARK_INT in PARKED, a park sequencer runs its list once. -/
  | parkedListRun (q : Fin 8)
  /-- R424: A raw temperature input is refreshed and judged valid, lost or idle. -/
  | sensorRefresh (n : Fin 112) (x : SensorRaw)
  /-- R428: A zone is evaluated and its state, fast mode and band are decided. -/
  | zoneEvaluation (z : Fin 48)
  /-- R431: A zone stays below its fast-mode threshold for 100 ms, and it leaves fast mode. -/
  | fastModeExit (z : Fin 48)
  /-- R430: Every 100 ms, each zone's rate of rise is formed and judged. -/
  | rateOfRise
  /-- R443: The charger converts PACK_ID and PACK_NTC every 10 µs. -/
  | packConversion (idMv : Nat) (ntc : Nat)
  /-- R444: Every 1 ms, the charger selects its input source. -/
  | sourceSelect (m : SourceMeas)
  /-- R441: 20 µs after the old pair turns off, the new source pair turns on and ramps. -/
  | sourceSwitchOn
  /-- R446: SOLAR or NET is over its limit for 10 µs, and its pair turns off. -/
  | sourceOvervoltage (net : Bool)
  /-- R447: Every 1 ms, the charger evaluates the pack voltage and moves between charge phases. -/
  | chargeEvaluation (vpack : Nat) (ivr : Bool)
  /-- R447: The current stays below CHG_ITERM for CHG_TERM_T, the charger commits OFF and raises EV233. -/
  | chargeTermination
  /-- R448: The pack stays below the recharge level for 1 s, and a new charge begins. -/
  | rechargeStart
  /-- R449: The pack exceeds CHG_VOV for 100 µs, and the charger latches off. -/
  | packOvervoltage
  /-- R449: The pack temperature reaches or clears CHG_POT, and the charger holds or resumes. -/
  | packOvertemp (hot : Bool)
  /-- R453: Every CHG_TRK_T, the tracking loop compares power and submits a new tracking LIMIT. -/
  | trackingStep (pMean : Nat) (iOut : Nat)
  /-- R454: Every 10 ms, both safety-timer counts advance and may expire. -/
  | safetyTimerUpdate (iActual : Nat)
  /-- R456: Pack removal is declared, the charger enters supply mode and the gauge marks the pack absent. -/
  | packRemoval
  /-- R458: The pack is present for 100 ms, the charger leaves supply mode and the gauge rebinds. -/
  | packInsertion (idMv : Nat)
  /-- R469: Every 1 s, or 60 s in HELD, the gauge makes one observer model step. -/
  | gaugeModelStep (held60 : Bool)
  /-- R474: Every 10 ms, the gauge decides empty or disagreement. -/
  | gaugeEvaluation
  /-- R493: VBKUP crosses RTC_VBK_THR or its release level for 1 ms, and FS360 changes. -/
  | vbkupLow (low : Bool)
  /-- R497: A read of RTC_FRAC latches the seconds for the interface. -/
  | rtcFracRead (i : Iface)
  /-- R498: A write of 1 to RTC_SET_GO requests a load of the set registers. -/
  | rtcSetGo (i : Iface)
  /-- R501: A write to RTC_HALT raises a P4 STATE HELD or VALID request for the clock. -/
  | rtcHaltWrite (i : Iface) (v : Bool)
  /-- R508: At each 100 µs tick, a watchdog evaluates expiry, check-ins, services and period writes. -/
  | watchdogTick (w : Fin 8)
  /-- R507: A host write to WDG_KEY is stamped for judgement at the next tick. -/
  | wdgKey (i : Iface) (w : Fin 8) (key : Word)
  /-- R510: A host write to WDG_CHECKIN is stamped as a task check-in. -/
  | wdgCheckin (i : Iface) (w : Fin 8) (bits : BitVec 16)
  /-- R511: A host write to WDG_PERIOD_NEW is stamped and judged as a pending period. -/
  | wdgPeriodNew (i : Iface) (w : Fin 8) (p : BitVec 16)
  /-- R513: The reset pulse ends, and a first period begins with the watchdog ACTIVE. -/
  | resetPulseEnd (w : Fin 8)
  /-- R524: A flush trigger moves the buffered records into the MRAM ring and writes the pointers. -/
  | flush (failAt : Option Nat)
  /-- R524: A write of 1 to REC_FLUSH triggers a flush. -/
  | recFlush (i : Iface)
  /-- R531: A write to REC_RD_SEEK starts placing the interface cursor at a record. -/
  | recordSeek (i : Iface) (k : Word)
  /-- R531: The seek finishes and REC_RD_BUSY clears. -/
  | seekComplete (i : Iface)
  /-- R532: A read of REC_RD_DATA returns the word at the cursor and advances it. -/
  | recordRead (i : Iface) (bad : Bool)
  /-- R533: A write to REC_ACK advances REC_SEQ_UNREAD. -/
  | recordAck (i : Iface) (k : Word)
  /-- R534: A write of 1 to REC_FREEZE protects the unread records from flush discards. -/
  | freezeBegin (i : Iface)
  /-- R535: A write of 0 to REC_FREEZE by the setting interface ends the freeze. -/
  | freezeEnd (i : Iface)
  /-- R536: A write to REC_REM_SLOT sends a recorder read request to a member. -/
  | remoteReadRequest (i : Iface) (sl : Fin 64)
  /-- R536: A read of REC_REM_DATA returns the next word of the remote receive buffer. -/
  | remoteDataRead (i : Iface)
  /-- R537: A write to REC_CLR with a valid ticket empties the ring and writes a CLEAR record. -/
  | recorderClear (i : Iface) (ticket : Word)
  /-- R546: PMBus PAGE selects or reports the paged rail. -/
  | page (t : PmTx)
  /-- R546: PMBus OPERATION raises a P4 STATE ON/OFF request, or reads the on state. -/
  | operation (t : PmTx)
  /-- R551: PMBus CLEAR_FAULTS clears the latched status bits whose condition has ended. -/
  | clearFaults (pec : Pec)
  /-- R548: PMBus WRITE_PROTECT sets or reports the write protection level. -/
  | writeProtect (t : PmTx)
  /-- R546: PMBus VOUT_COMMAND raises a P4 SETPOINT, or reads the committed set-point. -/
  | voutCommand (t : PmTx)
  /-- R550: MFR_QREAD reads n words from ascending addresses, with their side effects. -/
  | mfrQread (addr : BitVec 24) (n : Nat) (fetched : Nat) (bad : List Bool)
  /-- R550: MFR_QWRITE writes n words at STOP, with PIPE_REQ0 placed last. -/
  | mfrQwrite (addr : BitVec 24) (ws : List Word) (pec : Pec)
  /-- R550: MFR_QFIFO reads n words from one address, with their side effects. -/
  | mfrQfifo (addr : BitVec 24) (n : Nat) (fetched : Nat) (bad : List Bool)
  /-- R549: MFR_QREQ submits one 16-byte request. -/
  | mfrQreq (ws : List Word) (pec : Pec)
  /-- R549: MFR_QENTRY returns the faceplate entry of the paged rail. -/
  | mfrQentry (eccErr : Bool)
  /-- R547: An unsupported PMBus command is not acknowledged or reads 0xFF, and STATUS_CML is set. -/
  | invalidCommand (isWrite : Bool)
  /-- R552: A read of the Alert Response Address returns the unit's address. -/
  | alertResponse (arbWon : Bool)
  /-- R553: INT0_N goes low, and the unit sends Host Notify as bus controller. -/
  | hostNotify (ok : Bool)
  /-- R553: After a failed Host Notify, a retry follows 1 ms later. -/
  | hostNotifyRetry (ok : Bool)
  /-- R558: An SPI read frame returns status and data words, with side effects when READY. -/
  | spiReadFrame (bytes : List Byte) (avail : Bool) (bad : List Bool)
  /-- R557: An SPI write frame is accepted at HSPI_CS_N rising and applies its words, or is rejected. -/
  | spiWriteFrame (bytes : List Byte)
  /-- R625: A filtered GPIO level changes, feeding WAIT_INPUT steps and wake inputs. -/
  | gpioChange (n : Fin 32) (level : Bool)
  /-- R620: The filtered motion input changes, and the motion entry commits its state. -/
  | motionChange (moving : Bool) (pulses : Nat)
  /-- R572: OTP PROGRAM ORs data into a word and optionally seals it. -/
  | program (i : Iface) (w : Word)
  /-- R572: OTP SEAL programs a word's check bits. -/
  | sealWord (i : Iface) (w : Word)
  /-- R572: OTP LC_ADVANCE raises the lifecycle by one. -/
  | lcAdvance (i : Iface) (w : Word)
  /-- R572: OTP REVOKE sets a key slot's revocation bit. -/
  | revoke (i : Iface) (w : Word)
  /-- R572: OTP CTR_RAISE raises counter 1 to a value. -/
  | ctrRaise (i : Iface) (w : Word)
  /-- R573: A programming pulse ends, the bit is read back and the next pulse or a failure follows. -/
  | otpPulseDone (reads1 : Bool)
  /-- R583: UPD_CMD 1 OPEN starts a staging session in LOADING. -/
  | openSession (src : Src)
  /-- R586: UPD_CMD 2 VERIFY starts the checks of the staged package. -/
  | verify (src : Src)
  /-- R587: The staging copy completes, and the state becomes READY. -/
  | copyDone (fail : CopyFail)
  /-- R589: UPD_CMD 3 ACTIVATE decides activation and makes a warm start pending. -/
  | activate (src : Src)
  /-- R583: UPD_CMD 4 ABORT returns the session to IDLE. -/
  | abort (src : Src)
  /-- R591: UPD_CMD 5 LOCK sets UPD_LOCK under authorisation. -/
  | lock (i : Iface)
  /-- R591: UPD_CMD 6 UNLOCK clears UPD_LOCK under authorisation. -/
  | unlock (i : Iface)
  /-- R578: UPD_CMD 7 starts the check of an authorisation token. -/
  | tokenVerify (i : Iface)
  /-- R578: The token check ends, arming the authorisation or failing it, and renews the nonce. -/
  | tokenCheckDone (i : Iface)
  /-- R579: An armed authorisation expires after UPD_AUTH_T. -/
  | authExpire (i : Iface)
  /-- R584: A write to UPD_BLK_IDX selects the block being loaded. -/
  | blockIndex (i : Iface) (k : BitVec 9)
  /-- R584: A write to UPD_BLK_DATA appends a word of the block. -/
  | blockData (i : Iface) (w : Word)
  /-- R584: A write to UPD_BLK_CRC stores the block or discards it with FS467. -/
  | blockCrc (i : Iface) (crc : Word)
  /-- R584: A write to UPD_REM_SLOT sends OPEN, every block and VERIFY to a slot. -/
  | remoteStage (i : Iface) (sl : Fin 64)
  /-- R585: A write of 3 to UPD_REM_CMD sends ACTIVATE to the slot. -/
  | remoteActivate (i : Iface)
  /-- R585: A write of 4 to UPD_REM_CMD sends ABORT to the slot. -/
  | remoteAbort (i : Iface)
  /-- R246: The keep-alive node crosses SEQ_KA_THR, which updates SEQ_KA_OK and declares power-fail when input loss is already declared. -/
  | keepAliveCrossing (up : Bool) (mv : SupplyMv)
  /-- R248: VHOLD crosses SEQ_HOLD_THR, which updates GLB_AV_HOLDUP, SEQ_HOLD_OK and FS358 and lets a group held with SEQ_INWAIT resume. -/
  | vholdHoldCrossing (up : Bool)
  /-- R302: A PLL regains lock, which starts the 100 ms count for the return to PLL A and makes PLL B available again after its fault clears. -/
  | pllRelock (b : Bool)
  /-- R321: An instruction shifted into the test access port is executed as EXTEST and the other pin-driving instructions in HELD and NO_IMAGE, and is otherwise treated as BYPASS, IDCODE or SAMPLE/PRELOAD. -/
  | tapInstruction (code : TapCode)
  /-- R449: The stage fault detector reports, and the charger latches off. -/
  | chargerStageFault
  /-- R449: The pack stays below CHG_VUV for 100 ms, and FS425 asserts. -/
  | packUndervoltage
  /-- R471: The rest current holds for GAU_REST_T, and a clean state-of-charge reference is taken. -/
  | cleanReference
  /-- R473: GAU_REF_AGE reaches 72 h, and the gauge commits STALE. -/
  | referenceStale
  /-- R478: A learning cycle runs GAU_LRN_TMAX days and ends without result. -/
  | learningTimeout
  /-- R483: The pack current stays low for GAU_HIB_T, and the gauge commits HELD. -/
  | hibernationEnter
  /-- R483: The current exceeds GAU_WAKE_I for 10 ms, and the gauge leaves HELD. -/
  | hibernationExit
  /-- R485: Every 60 s, the gauge writes its persistent state to MRAM. -/
  | gaugeSave
  /-- R491: The backup supply falls below 1.5 V, and the backup domain resets. -/
  | backupReset
  /-- R494: An oscillator cycle advances the clock fraction, with trim and carry. -/
  | rtcIncrement
  /-- R499: Outside RUN and PARKED, the backup detector sees no edge for 4 ms and sets RTC_OSF. -/
  | oscillatorStopDetect
  /-- R498: At the oscillator edge after the request, the clock loads and RTC_OSF clears. -/
  | rtcLoad
  /-- R535: REC_FRZ_MAX elapses, the freeze ends and REC_FRZ_LOST is set. -/
  | freezeTimeout
  /-- R546: PMBus CAPABILITY returns 0xD0. -/
  | capability
  /-- R546: PMBus VOUT_MODE returns 0x14. -/
  | voutMode
  /-- R551: PMBus STATUS_BYTE returns the low byte of STATUS_WORD. -/
  | statusByte
  /-- R551: PMBus STATUS_WORD returns the rail's status word. -/
  | statusWord
  /-- R551: PMBus STATUS_VOUT returns the rail's output voltage status. -/
  | statusVout
  /-- R551: PMBus STATUS_IOUT returns the rail's output current status. -/
  | statusIout
  /-- R551: PMBus STATUS_CML returns the communication status. -/
  | statusCml
  /-- R546: PMBus READ_VOUT returns RAIL_VAVG. -/
  | readVout
  /-- R546: PMBus READ_IOUT returns RAIL_IAVG in LINEAR11. -/
  | readIout
  /-- R546: PMBus READ_TEMPERATURE_1 returns the hottest stage or die temperature. -/
  | readTemperature1
  /-- R546: PMBus PMBUS_REVISION returns 0x33. -/
  | pmbusRevision
  /-- R546: PMBus MFR_ID returns QUOMUS. -/
  | mfrId
  /-- R546: PMBus MFR_MODEL returns KV9840. -/
  | mfrModel
  /-- R546: PMBus MFR_REVISION returns B1. -/
  | mfrRevision
  /-- R549: MFR_QCPL removes and returns the oldest completion. -/
  | mfrQcpl
  /-- R542: SCL or SDA is held low too long, and TWB0 abandons the transaction. -/
  | twb0Timeout
  /-- R586: The verify checks complete, and the session moves to COPYING or back. -/
  | verifyDone
  /-- R39: The motion input is not refreshed within its limit, and its entry moves from ACTIVE or CLEAR to STALE. -/
  | motionRefreshLimit
  deriving DecidableEq, Repr

end Sys2Proof
end

