-- ==== Sys2Proof/Machine/Bits.lean ====
section
/-! DEFINITION. Bit fields, byte order, check codes, saturating counters and the sparse table's two operations. -/

namespace Sys2Proof

/-- Bits hi to lo of a number (R2, the bit ranges of every register table). -/
def bitsOf (x hi lo : Nat) : Nat := x / 2 ^ lo % 2 ^ (hi + 1 - lo)

/-- Bit i of a number. -/
def bitOf (x i : Nat) : Bool := x / 2 ^ i % 2 == 1

/-- A field value placed at bit lo, cut to its width. -/
def placeAt (v hi lo : Nat) : Nat := v % 2 ^ (hi + 1 - lo) * 2 ^ lo

/-- The two's complement reading of an n-bit number. -/
def toSigned (n x : Nat) : Int := if x % 2 ^ n < 2 ^ (n - 1) then (x % 2 ^ n : Nat) else (x % 2 ^ n : Nat) - 2 ^ n

/-- The n-bit two's complement form of an integer. -/
def ofSigned (n : Nat) (x : Int) : Nat := (x % 2 ^ n).toNat

/-- A 0 or 1 for a truth value. -/
def b2n (b : Bool) : Nat := if b then 1 else 0

/-- The low 32 bits of a number as a register word. -/
def wordOf (n : Nat) : Word := BitVec.ofNat 32 n

/-- The two's complement register word of an integer (R31). -/
def wordOfInt (n : Int) : Word := BitVec.ofInt 32 n

/-- Addition that stays at a maximum ("saturating" in every register table). -/
def satAdd (m x d : Nat) : Nat := min m (x + d)

/-- A value limited to a closed range. -/
def clampInt (lo hi x : Int) : Int := max lo (min hi x)

/-- Floor division by a power of two of an integer (arithmetic right shift). -/
def asr (x : Int) (s : Nat) : Int := x.fdiv (2 ^ s)

/-- The entry of a table, or the default for a key it does not list. -/
def Tbl.get {α : Type} (d : α) : Tbl α → Nat → α
  | [], _ => d
  | (j, v) :: t, k => if j = k then v else Tbl.get d t k

/-- Insert in ascending key order, replacing an entry of the same key. -/
def Tbl.ins {α : Type} (k : Nat) (v : α) : Tbl α → Tbl α
  | [] => [(k, v)]
  | (j, w) :: t => if k < j then (k, v) :: (j, w) :: t else if k = j then (k, v) :: t else (j, w) :: Tbl.ins k v t

/-- Remove a key wherever it stands. -/
def Tbl.del {α : Type} (k : Nat) : Tbl α → Tbl α
  | [] => []
  | (j, w) :: t => if j = k then Tbl.del k t else (j, w) :: Tbl.del k t

/-- Write an entry; an entry equal to the default is not listed. -/
def Tbl.set {α : Type} [DecidableEq α] (d : α) (t : Tbl α) (k : Nat) (v : α) : Tbl α :=
  if v = d then Tbl.del k t else Tbl.ins k v t

/-- The canonical form: keys strictly rising, no entry equal to the default. -/
def Tbl.wf {α : Type} [DecidableEq α] (d : α) : Tbl α → Bool
  | [] => true
  | [(_, v)] => v != d
  | (j, v) :: (k, w) :: t => v != d && decide (j < k) && Tbl.wf d ((k, w) :: t)

/-- The keys of a table in ascending order. -/
def Tbl.keys {α : Type} (t : Tbl α) : List Nat := t.map (·.1)

/-- Little-endian bytes of a number (R2). -/
def leBytes : Nat → Nat → List Byte
  | 0, _ => []
  | n + 1, x => BitVec.ofNat 8 x :: leBytes n (x / 256)

/-- The number that little-endian bytes spell (R2). -/
def leNat : List Byte → Nat
  | [] => 0
  | b :: t => b.toNat + 256 * leNat t

/-- The bytes at offset o, n of them. -/
def bytesAt (l : List Byte) (o n : Nat) : List Byte := (l.drop o).take n

/-- The little-endian number at offset o. -/
def numAt (l : List Byte) (o n : Nat) : Nat := leNat (bytesAt l o n)

/-- The little-endian words of a byte list. -/
def wordsOf : List Byte → List Word
  | a :: b :: c :: d :: t => wordOf (leNat [a, b, c, d]) :: wordsOf t
  | [] => []
  | l => [wordOf (leNat l)]

/-- One reflected CRC step of w bits with a reflected polynomial. -/
def crcStepR {w : Nat} (poly c : BitVec w) : BitVec w :=
  if c.getLsbD 0 then (c >>> 1) ^^^ poly else c >>> 1

/-- CRC-32C of a byte list (R599). The manual names the code; its reflected polynomial 0x82F63B78 and its initial and
final values of all ones are PRESUMED, assumption 10. -/
def crc32c (l : List Byte) : Word :=
  ~~~ l.foldl (fun c b =>
    let x := c ^^^ b.zeroExtend 32
    crcStepR 0x82F63B78#32 (crcStepR 0x82F63B78#32 (crcStepR 0x82F63B78#32 (crcStepR 0x82F63B78#32
      (crcStepR 0x82F63B78#32 (crcStepR 0x82F63B78#32 (crcStepR 0x82F63B78#32 (crcStepR 0x82F63B78#32 x)))))))) 0xFFFFFFFF#32

/-- One CRC step of w bits, most significant bit first. -/
def crcStepL {w : Nat} (poly c : BitVec w) : BitVec w :=
  if c.getMsbD 0 then (c <<< 1) ^^^ poly else c <<< 1

/-- CRC-8 of SPI frames: polynomial 0x2F, initial value 0xFF, most significant bit first (R556). -/
def crc8 (l : List Byte) : Byte :=
  l.foldl (fun c b =>
    let x := c ^^^ b
    crcStepL 0x2F#8 (crcStepL 0x2F#8 (crcStepL 0x2F#8 (crcStepL 0x2F#8
      (crcStepL 0x2F#8 (crcStepL 0x2F#8 (crcStepL 0x2F#8 (crcStepL 0x2F#8 x)))))))) 0xFF#8

/-- CRC-16/CCITT-FALSE of records: polynomial 0x1021, initial value 0xFFFF, most significant bit first (R519). -/
def crc16 (l : List Byte) : BitVec 16 :=
  l.foldl (fun c b =>
    let x := c ^^^ (BitVec.zeroExtend 16 b).shiftLeft 8
    crcStepL 0x1021#16 (crcStepL 0x1021#16 (crcStepL 0x1021#16 (crcStepL 0x1021#16
      (crcStepL 0x1021#16 (crcStepL 0x1021#16 (crcStepL 0x1021#16 (crcStepL 0x1021#16 x)))))))) 0xFFFF#16

/-- Keep the last n elements of a list. -/
def takeLast {α : Type} (n : Nat) (l : List α) : List α := l.drop (l.length - n)

/-- Replace element i of a list. -/
def setAt {α : Type} : List α → Nat → α → List α
  | [], _, _ => []
  | _ :: t, 0, v => v :: t
  | a :: t, n + 1, v => a :: setAt t n v

/-- Integer division of a sum by a count, rounded toward minus infinity. -/
def meanFloor (l : List Int) : Int := if l.length = 0 then 0 else l.foldl (· + ·) 0 |>.fdiv l.length

end Sys2Proof
end

