-- ==== Sys2Proof/Config.lean ====
section
/-! DEFINITION. What the manual leaves open (free values, no body: no proof can see what they are) and the
constants that the manual fixes for every unit. -/

namespace Sys2Proof.Config

/-- A fresh random word: nonces and tickets of R578 and the reset values of UPD_NONCE (R594). Assumption 3. -/
opaque freeWord : Nat → BitVec 32

/-- The (72,64) SECDED check bits of a data word (R565, R566): the manual names the code and no matrix. Assumption 5. -/
opaque secdedCheck : BitVec 64 → BitVec 8

/-- The data that the (72,64) SECDED decoder answers for stored data and check bits: corrected data, or nothing when
uncorrectable; the flag says whether a bit was corrected (R566). Assumption 5. -/
opaque secdedDecode : BitVec 64 → BitVec 8 → Option (BitVec 64 × Bool)

/-- The temperature in m°C that R425 gives where it divides by zero: an R25 or a beta of 0, which the image may hold. By ratio,
R25 and beta. Assumption 6. -/
opaque ntcOpen : Nat → Nat → Nat → Int

/-- The relaxation factor of R469 in 2^-32 with a time constant of 0, where the formula divides by zero. By step time.
Assumption 7. -/
opaque expOpen : Nat → Nat

/-- ΔS of R468 in units of 2^-16 counts where its quotient divides by zero, with a capacity Q of 0. By the M0 result. Assumption
149. -/
opaque countOpen : Int → Int

/-- The next value of the 15-bit LFSR of R166: the manual names its length and seed and no taps. Assumption 8. -/
opaque lfsr15 : BitVec 15 → BitVec 15

/-- The unrounded step of a commanded demand during the analogue shadow amplifier's drive (R137): the demand code that the
amplifier holds at the end of a hold, per hold number and rail. Assumption 9. -/
opaque shadowDemand : Nat → Nat → BitVec 16

/-- The voltage at BKn_IN in mV, of which the set-point range of a buck takes 85 % (R127): the manual gives no reading that
Welt takes for it. Per buck and core cycle. Assumption 128. -/
opaque buckInMv : Nat → Nat → Nat

/-- Units of GAU_UNC as it is kept: a count in which a second's growth and the growth by 2^-16 of a count of charge are whole
(R472). -/
def uncUnit : Nat := 589824000
/-- The number of commits that R109 admits in one epoch. -/
def commitLimit : Nat := 4096
/-- The number of commits after which only P0, P1 and compensating operations commit (R109). -/
def commitSoftLimit : Nat := 3840
/-- Tack slots of R99. -/
def tackSlots : Nat := 1024
/-- Tack slots that P2 to P5 operations may hold together (R99). -/
def tackNormal : Nat := 960
/-- Retained journal entries past which a pin is released (R61). -/
def pinJournalLimit : Nat := 57344
/-- Entries of the completion FIFO of a host interface (R114). -/
def cplFifoDepth : Nat := 64
/-- Bytes of the recorder's SRAM buffer (R522). -/
def recBufBytes : Nat := 32768
/-- Bytes of the recorder's MRAM ring (R519). -/
def recRingBytes : Nat := 4194304
/-- Entries of the measurement result queue (R414). -/
def rqDepth : Nat := 16384
/-- Samples of one trace buffer (R207). -/
def traceDepth : Nat := 8192
/-- The capacity of class queue c (R90). -/
def classDepth : Nat → Nat
  | 0 => 32 | 1 => 64 | 2 => 64 | 3 => 128 | 4 => 64 | _ => 64

/-- The level that the boundary register gives a ball while EXTEST or its like is in force, by free-value counter and ball; none
for high impedance (R321, assumption 140). -/
opaque scanLevel : Nat → Nat → Option Bool

end Sys2Proof.Config
end

