-- ==== Sys2Proof/Machine/State.lean ====
section
/-! DEFINITION. The state of the block as plain data, its outcomes that are no next state, and the state after reset.
Each field's comment reads: what it is; width; rule of the manual; value at reset. -/

namespace Sys2Proof.Machine

/-- Device modes (R14). -/
inductive Mode where
  | cold | starting | held | noImage | run | parked
  deriving DecidableEq, Repr

/-- State codes of a ledger entry (R35). -/
inductive EState where
  | absent | off | starting | on | stopping | derated | failed | latchedOff
  | spare | unreachable | valid | stale | active | clear | held
  deriving DecidableEq, Repr

/-- Completion codes (R36). -/
inductive Code where
  | applied | superseded | refusedInterlock | clamped | timeout | aborted | unreachable
  deriving DecidableEq, Repr

/-- Operation kinds (R87). -/
inductive Kind where
  | state | setpoint | limit | phases | envelope | phEnvelope | unfreeze | clear
  | publish | substitute | park | energy | none (code : Fin 16)
  deriving DecidableEq, Repr

/-- Presentation of a slot or foreign device (R44). -/
inductive Pres where
  | present | unreachable (epoch : Nat) | free
  deriving DecidableEq, Repr

/-- One ledger entry (R31). -/
structure Entry where
  /-- State code; 8 bits; R31; reset ABSENT -/
  st : EState := .absent
  /-- Endpoint type; 8 bits; R37; reset 0 -/
  ty : Nat := 0
  /-- Flags; 16 bits; R32; reset 0 -/
  flags : BitVec 16 := 0
  /-- Value, signed; 32 bits; R31; reset 0 -/
  val : BitVec 32 := 0
  /-- Epoch of last change; 48 bits; R31; reset 0 -/
  epoch : Nat := 0
  /-- Last writer, class and requester; 16 bits; R34; reset 0 -/
  writer : BitVec 16 := 0
  deriving DecidableEq, Repr

/-- One request as the pipeline carries it (R86), with what its source adds. -/
structure Req where
  /-- Endpoint ID; 17 bits; R86; reset none -/
  ep : Nat := 0
  /-- Operation kind; 4 bits; R87; reset none -/
  kind : Kind := .state
  /-- BND; 1 bit; R86; reset none -/
  bnd : Bool := false
  /-- LAST; 1 bit; R86; reset none -/
  last : Bool := false
  /-- BSIZE; 5 bits; R86; reset none -/
  bsize : Nat := 0
  /-- VAL; 32 bits; R86; reset none -/
  val : BitVec 32 := 0
  /-- REQR; 13 bits; R88; reset none -/
  reqr : Nat := 0
  /-- CLS; 3 bits; R86; reset none -/
  cls : Nat := 0
  /-- TAG; 8 bits; R86; reset none -/
  tag : BitVec 8 := 0
  /-- VAL2; 32 bits; R86; reset none -/
  val2 : BitVec 32 := 0
  /-- OTAG of the OP frame that brought a P3 request; 10 bits; R357; reset none -/
  otag : Nat := 0
  /-- BND of the OP frame that brought a P3 request; 1 bit; R69, R86; reset none -/
  tree : Bool := false
  /-- Index that the EP of that OP frame names; 11 bits; R380; reset none -/
  fep : Nat := 0
  /-- Derating target t whose limit a derating request asks, as t + 1; 8 bits; R435; reset none -/
  dt : Nat := 0
  /-- A forced stop calls for discharge; 1 bit; R233; reset none -/
  disch : Bool := false
  /-- An overload operation sets or clears PROT_ACTIVE; 2 bits; R141; reset none -/
  prot : Option Bool := none
  /-- The operation belongs to the gauge's TYPE_FLAGS commit; 1 bit; R480; reset none -/
  typeFlags : Option (BitVec 4) := none
  deriving DecidableEq, Repr

/-- One operation between Welt and its completion (R85, R97). -/
structure Op where
  /-- The request; 16 bytes; R86; reset none -/
  req : Req := {}
  /-- Sequence number; 32 bits; R94; reset none -/
  seq : BitVec 32 := 0
  /-- Epoch stamped by Shank; 48 bits; R94; reset none -/
  epoch : Nat := 0
  /-- Value to issue, after clamping; 32 bits; R97; reset none -/
  val : BitVec 32 := 0
  /-- Clamped at Welt; 1 bit; R97; reset none -/
  clamped : Bool := false
  /-- Sets RECHECK; 1 bit; R77; reset none -/
  recheck : Bool := false
  /-- Links of the chain still to commit; list of states; R40; reset none -/
  links : List EState := []
  /-- Bundle number, for a member; natural number; R115; reset none -/
  bundle : Option Nat := none
  /-- Completes APPLIED with nothing committed; 1 bit; R97; reset none -/
  noop : Bool := false
  /-- A compensating operation; 1 bit; R71; reset none -/
  comp : Bool := false
  deriving DecidableEq, Repr

/-- A Tack slot in use (R99). -/
structure TackSlot where
  /-- The operation held; record; R100; reset none -/
  op : Op := {}
  /-- Confirmed; 1 bit; R104; reset none -/
  confirmed : Bool := false
  /-- Sequence number of the operation that replaces this one; 32 bits; R101; reset none -/
  replacedBy : Option (BitVec 32) := none
  /-- The answer of the aborted member that this slot held is still to come; 1 bit; R107, R121; reset none -/
  stale : Bool := false
  /-- Its place in the order of issue; natural number; R398; reset 0 -/
  issued : Nat := 0
  /-- The completion frame of a bundle member has come with a refusal, which confirms nothing; 1 bit; R120; reset none -/
  refused : Bool := false
  deriving DecidableEq, Repr

/-- One commit waiting for Sole (R108, R109). -/
structure PCommit where
  /-- Operation that commits; record; R102; reset none -/
  op : Op := {}
  /-- State link written, for STATE and CLEAR; state code; R40; reset none -/
  link : Option EState := none
  /-- The commit is the request's last; 1 bit; R40; reset none -/
  final : Bool := false
  /-- Tack slot to free; 10 bits; R99; reset none -/
  slot : Option Nat := none
  /-- The tick has deferred this commit already; 1 bit; R109; reset none -/
  deferred : Bool := false
  /-- Core cycle from which the commit waits; natural number; R108; reset none -/
  cyc : Nat := 0
  deriving DecidableEq, Repr

/-- One completion (R112). -/
structure Cpl where
  /-- Endpoint ID; 17 bits; R112; reset none -/
  ep : Nat := 0
  /-- Completion code; 3 bits; R36; reset none -/
  code : Code := .applied
  /-- KIND; 4 bits; R112; reset none -/
  kind : Kind := .state
  /-- TAG; 8 bits; R112; reset none -/
  tag : BitVec 8 := 0
  /-- Word 1, the value; 32 bits; R112; reset none -/
  val : BitVec 32 := 0
  /-- Epoch of the outcome; 48 bits; R112; reset none -/
  epoch : Nat := 0
  /-- Requester; 13 bits; R112; reset none -/
  reqr : Nat := 0
  /-- Class; 3 bits; R112; reset none -/
  cls : Nat := 0
  /-- Sequence number, the delivery order; 32 bits; R111; reset none -/
  seq : BitVec 32 := 0
  /-- OTAG of the OP answered; 10 bits; R357; reset none -/
  otag : Nat := 0
  /-- Index that the OP answered named; 11 bits; R380; reset none -/
  fep : Nat := 0
  /-- The request was a member of a bundle; 1 bit; R224; reset none -/
  bnd : Bool := false
  deriving DecidableEq, Repr

/-- One bundle between Shank and its outcome (R115 to R121). -/
structure Bundle where
  /-- Sequence numbers of its members; list of 32-bit numbers; R117; reset none -/
  seqs : List (BitVec 32) := []
  /-- Endpoints and states before the bundle, for compensation; list; R71; reset none -/
  before : List (Nat × Entry) := []
  /-- Members confirmed; list of 32-bit numbers; R119; reset none -/
  confirmed : List (BitVec 32) := []
  /-- The bundle is aborting; 1 bit; R120; reset none -/
  aborting : Bool := false
  /-- Endpoints whose own failure caused the abort; list of IDs; R71; reset none -/
  causes : List Nat := []
  /-- The members, for their completions; list of operations; R71; reset none -/
  members : List Op := []
  /-- Codes that Welt gave refused members, by sequence number; list; R117; reset none -/
  codes : List (BitVec 32 × Code) := []
  /-- Welt has passed every member; 1 bit; R117; reset none -/
  passed : Bool := false
  /-- Its commits have been counted as deferred; 1 bit; R109, R119; reset none -/
  deferred : Bool := false
  deriving DecidableEq, Repr

/-- What one commit writes (R102, R655). -/
structure Cm where
  /-- State written; state code; R102; reset none -/
  st : Option EState := none
  /-- Value written; 32 bits; R102; reset none -/
  val : Option (BitVec 32) := none
  /-- Class of the writer; 3 bits; R34; reset none -/
  cls : Nat := 7
  /-- Requester of the writer; 13 bits; R34; reset none -/
  reqr : Nat := 0
  /-- Flags set; 16 bits; R32; reset none -/
  set : BitVec 16 := 0
  /-- Flags cleared; 16 bits; R32; reset none -/
  clr : BitVec 16 := 0
  /-- The commit is clamped; 1 bit; R32; reset none -/
  clamped : Bool := false
  /-- The commit is a compensating operation's; 1 bit; R32; reset none -/
  comp : Bool := false
  /-- The commit writes flags alone; 1 bit; R655; reset none -/
  flagsOnly : Bool := false
  deriving DecidableEq, Repr

/-- One commit that the per-epoch limit defers to the next epoch (R109, R655). -/
inductive Deferred where
  | entry (id : Nat) (c : Cm)
  | slot (sl : Nat) (p : Pres)
  | device (d : Nat) (p : Pres)
  deriving DecidableEq, Repr

/-- One entry of the journal (R48, R44); set: an entry of a slot's set, which a tick takes from its staging buffer and which
takes no place in the journal (R375). -/
inductive JEntry where
  | entry (epoch id : Nat) (e : Entry)
  | set (epoch id : Nat) (e : Entry)
  | slot (epoch sl : Nat) (p : Pres)
  | device (epoch d : Nat) (p : Pres)
  deriving DecidableEq, Repr

/-- The ledger and its publication (R27 to R68). -/
structure Ledger where
  /-- Working copy: every commit; 131,072 entries of 16 bytes; R48; reset all ABSENT -/
  cur : Tbl Entry := []
  /-- Publication that the faceplate shows; 131,072 entries of 16 bytes; R49; reset all ABSENT -/
  fp : Tbl Entry := []
  /-- Retained journal entries, at most 65,536, and the sets' entries among them, oldest first; R48, R375; reset empty -/
  journal : List JEntry := []
  /-- Presentation of slots 0 to 63 in committed state; 64 values; R44; reset PRESENT -/
  slotPres : Tbl Pres := []
  /-- Presentation of foreign devices 0 to 31; 32 values; R44; reset PRESENT -/
  devPres : Tbl Pres := []
  /-- Slot presentation in the publication shown; 64 values; R66; reset PRESENT -/
  fpSlotPres : Tbl Pres := []
  /-- Device presentation in the publication shown; 32 values; R66; reset PRESENT -/
  fpDevPres : Tbl Pres := []
  /-- Number of the epoch in progress; 48 bits; R47; reset 0 -/
  epoch : Nat := 0
  /-- PIPE_PUB_EPOCH, the latest tick; 48 bits; R126; reset 0 -/
  pubEpoch : Nat := 0
  /-- PIPE_FP_EPOCH, the publication shown; 48 bits; R126; reset 0 -/
  fpEpoch : Nat := 0
  /-- PIPE_SNAP_EPOCH, the pinned publication; 48 bits; R57; reset 0 -/
  snapEpoch : Nat := 0
  /-- PIPE_SNAP_PIN, a pin holds; 1 bit; R57; reset 0 -/
  pinned : Bool := false
  /-- PIPE_PIN_IF, interface of the current or last pin; 1 bit; R126; reset 0 -/
  pinIf : Iface := .twb0
  /-- PIPE_PIN_LOST; 1 bit; R62; reset 0 -/
  pinLost : Bool := false
  /-- The setting interface has written 0; 1 bit; R62; reset 0 -/
  pinRelReq : Bool := false
  /-- Time at which the pin took effect, 4 ns; natural number; R61; reset 0 -/
  pinCyc : Nat := 0
  /-- A catch-up replay runs; 1 bit; R63; reset 0 -/
  catchUp : Bool := false
  /-- Journal entries at the oldest end that the publication shown holds and a running catch-up still needs; natural number; R61, R63; reset 0 -/
  catchUpLen : Nat := 0
  /-- A pin release waits for an earlier catch-up; 1 bit; R660; reset 0 -/
  relWaits : Bool := false
  /-- Commits of the epoch in progress; 13 bits; R109; reset 0 -/
  cmtNow : Nat := 0
  /-- Entries as the last tick published them, of those that a commit has reached since; list; R52; reset empty -/
  was : List (Nat × Entry) := []
  /-- Commits that wait for the next epoch under the limits, oldest first; list; R109; reset empty -/
  late : List Deferred := []
  /-- Their share of PIPE_DEFER_CNT; 32 bits; R109; reset 0 -/
  deferred : Word := 0
  /-- PIPE_CMT_LAST; 13 bits; R126; reset 0 -/
  cmtLast : Nat := 0
  /-- PIPE_CMT_PEAK; 13 bits; R126; reset 0 -/
  cmtPeak : Nat := 0
  deriving DecidableEq, Repr

/-- What exists once for each host interface (R125, R126, R497, R538, R594). -/
structure HostIf where
  /-- PIPE_REQ_W1 to PIPE_REQ_W3 last written; 3 words; R126; reset 0 -/
  w1 : Word := 0
  /-- PIPE_REQ_W2; 32 bits; R126; reset 0 -/
  w2 : Word := 0
  /-- PIPE_REQ_W3; 32 bits; R126; reset 0 -/
  w3 : Word := 0
  /-- PIPE_LAST_TAG; 8 bits; R126; reset 0 -/
  lastTag : BitVec 8 := 0
  /-- PIPE_REQ_REJ; 1 bit; R126; reset 0 -/
  reqRej : Bool := false
  /-- Bundle buffer, oldest first; at most 32 requests; R115; reset empty -/
  bndBuf : List Req := []
  /-- Completion FIFO, oldest first; at most 64; R114; reset empty -/
  cplFifo : List Cpl := []
  /-- PIPE_CPL_W1 to W3 latched; 3 words; R126; reset 0 -/
  cplLatch : List Word := []
  /-- PIPE_CPL_LOST; 16 bits; R114; reset 0 -/
  cplLost : Nat := 0
  /-- PIPE_CPL_IE; 1 bit; R126; reset 0 -/
  cplIe : Bool := false
  /-- Latched high words of SNAP, PUB and FP epoch; 3 x 16 bits; R126; reset 0 -/
  epochHigh : Tbl Nat := []
  /-- Entry latch of the faceplate: endpoint ID and entry words; 4 words; R54; reset none -/
  entryLatch : Option (Nat × List Word) := none
  /-- RTC_SEC latched by RTC_FRAC; 48 bits; R497; reset 0 -/
  rtcLatch : Nat := 0
  /-- Recorder cursor: record SEQ and byte offset in it; 32 + 11 bits; R531; reset none -/
  cursor : Option (BitVec 32 × Nat) := none
  /-- REC_RD_BUSY and the seek target; 1 + 32 bits; R531; reset none -/
  seek : Option (BitVec 32) := none
  /-- REC_RD_LOST; 1 bit; R538; reset 0 -/
  rdLost : Bool := false
  /-- UPD_AUTH buffer; 24 words; R594; reset 0 -/
  authBuf : Tbl Word := []
  /-- UPD_NONCE, low and high words; 64 bits; R594; reset random -/
  nonceLo : Word := 0
  /-- UPD_NONCE high word; 32 bits; R594; reset random -/
  nonceHi : Word := 0
  /-- UPD_AUTH_BUSY; 1 bit; R578; reset 0 -/
  authBusy : Bool := false
  /-- UPD_AUTH_FAIL; 1 bit; R578; reset 0 -/
  authFail : Bool := false
  /-- Armed authorisation: action, argument, key slot; 16 + 32 + 3 bits; R578; reset none -/
  armed : Option (Nat × Word × Nat) := none
  /-- UPD_TICKET; 32 bits; R578; reset 0 -/
  ticket : Word := 0
  /-- Words of the last read reply; list of words; R550; reset empty -/
  reply : List Word := []
  /-- Bytes of the last read reply of a PMBus command or SPI frame; list of bytes; R546; reset empty -/
  replyBytes : List Byte := []
  /-- The last transaction's data byte was not acknowledged; 1 bit; R547; reset 0 -/
  nacked : Bool := false
  deriving DecidableEq, Repr

/-- The commit pipeline between the ports and the journal (R85 to R126). -/
structure Pipe where
  /-- Requests complete at a port and not yet captured: port, bundle or single request; list; R89; reset empty -/
  offers : List (Nat × List Req) := []
  /-- Core cycle of the latest offer at ports 0 and 1; 64 bits; R272; reset 0 -/
  decCyc : Nat := 0
  /-- Offers made at port 0 in that core cycle; natural number; R272; reset 0 -/
  dec0 : Nat := 0
  /-- Offers made at port 1 in that core cycle; natural number; R272; reset 0 -/
  dec1 : Nat := 0
  /-- Class queues P0 to P5, oldest first: capture cycle and bundle or single request; 32, 64, 64, 128, 64, 64 entries; R90; reset empty -/
  queues : Tbl (List (Nat × List Req)) := []
  /-- Next sequence number; 32 bits; R94; reset 0 -/
  seqNo : BitVec 32 := 0
  /-- Members of the bundle that Shank is taking; list; R95; reset empty -/
  taking : List (Nat × Req) := []
  /-- Number of the bundle being taken, and of the next bundle; natural numbers; R115; reset 0 -/
  bundleNo : Nat := 0
  /-- Operations at the normal path of Welt and Stitch; list; R98; reset empty -/
  normQ : List Op := []
  /-- Operations at the fast path; list; R98; reset empty -/
  fastQ : List Op := []
  /-- Tack slots in use, by slot number; 1,024 slots; R99; reset empty -/
  tack : Tbl (Option TackSlot) := []
  /-- Bundles between Shank and their outcome, by number; list; R115; reset empty -/
  bundles : Tbl (Option Bundle) := []
  /-- Operations issued; natural number; R398; reset 0 -/
  issueNo : Nat := 0
  /-- Commits waiting for Sole, oldest first; list; R108; reset empty -/
  soleQ : List PCommit := []
  /-- Completions decided in the epoch in progress; list; R111; reset empty -/
  done : List Cpl := []
  /-- PIPE_TACK_PEAK; 11 bits; R126; reset 0 -/
  tackPeak : Nat := 0
  /-- PIPE_CODE_CNT0 to 6; 7 x 32 bits; R126; reset 0 -/
  codeCnt : Tbl Word := []
  /-- PIPE_LATE_CNT; 32 bits; R107; reset 0 -/
  lateCnt : Word := 0
  /-- PIPE_DEFER_CNT; 32 bits; R109; reset 0 -/
  deferCnt : Word := 0
  /-- Requests that wait under RECHECK: released flag and request; list; R79; reset empty -/
  rechecks : List (Bool × Req) := []
  /-- Local operations that their time limit has ended, whose confirmation may still come; list; R107; reset empty -/
  expired : List Op := []
  /-- Endpoints whose committed envelope left their value outside; list of local indices; R80; reset empty -/
  corrections : List Nat := []
  deriving DecidableEq, Repr

/-- Committed bounds, limits and the policy value of one endpoint (R75 to R83). -/
structure Policy where
  /-- ENVELOPE bounds once committed, lower and upper; 2 x 32 bits; R75; reset img -/
  env : Option (Int × Int) := none
  /-- PH_ENVELOPE bounds once committed; 2 x 5 bits; R75; reset img -/
  phEnv : Option (Nat × Nat) := none
  /-- Committed LIMIT, mA; 32 bits; R138; reset 0 -/
  limit : Int := 0
  /-- LIMIT of the latest commit of a class other than P5; 32 bits; R434; reset 0 -/
  polLimit : Int := 0
  /-- Class and requester of the latest LIMIT commit; 16 bits; R139; reset 0 -/
  limWriter : BitVec 16 := 0
  /-- Class and requester of the request that committed FAILED; 16 bits; R657; reset 0 -/
  failWriter : BitVec 16 := 0
  /-- Epoch of the FAILED commit; 48 bits; R657; reset 0 -/
  failEpoch : Nat := 0
  /-- A fault source of the endpoint with FLT_LATCH has occurred since it left OFF, lowest number; 9 bits; R270; reset none -/
  latchSrc : Option Nat := none
  deriving DecidableEq, Repr

/-- One adaptive loop's clamp count and freeze (R81 to R83). -/
structure Loop where
  /-- Epochs of the clamps within the window; list; R81; reset empty -/
  clamps : List Nat := []
  /-- Frozen; 1 bit; R81; reset 0 -/
  frozen : Bool := false
  deriving DecidableEq, Repr

/-- One rail (R127 to R177, R186 to R206, R213). -/
structure Rail where
  /-- Reference accumulator, 0.5 mV / 65,536; 32 bits; R196; reset 0 -/
  acc : Int := 0
  /-- Target in accumulator units (LOOP_TARGET); 32 bits; R196; reset 0 -/
  target : Int := 0
  /-- Target of the running start, for the ramp's rate, mV; 16 bits; R198; reset 0 -/
  rampMv : Nat := 0
  /-- V_nom (LOOP_VNOM) once a commit sets it, mV; 16 bits; R201; reset none -/
  vnom : Option Nat := none
  /-- RAILnn_EN is high; 1 bit; R133; reset 0 -/
  en : Bool := false
  /-- The rail gives pulses and its loop slot is in use (LOOP_RUN); 1 bit; R184; reset 0 -/
  running : Bool := false
  /-- The reference has reached the target of the start; 1 bit; R234; reset 0 -/
  ramped : Bool := false
  /-- A new target takes effect at the next sample; 32 bits; R199; reset none -/
  newTarget : Option Int := none
  /-- Core cycle in which the new target arrived; 64 bits; R199; reset 0 -/
  newCyc : Nat := 0
  /-- No phase switches low-side on: the reference has not exceeded the output since the first pulse; 1 bit; R153; reset 0 -/
  lowHeld : Bool := false
  /-- Highest output of the window comparators since the first pulse, µV; natural number; R154, R155; reset 0 -/
  vTop : Nat := 0
  /-- The reference had reached the target of the start before the latest sample; 1 bit; R155; reset 0 -/
  rampOver : Bool := false
  /-- RAIL_PGOOD; 1 bit; R177; reset 0 -/
  pgood : Bool := false
  /-- RAIL_CL, a phase was limited in the last epoch; 1 bit; R177; reset 0 -/
  cl : Bool := false
  /-- A phase was limited in the epoch in progress; 1 bit; R177; reset 0 -/
  clNow : Bool := false
  /-- A phase that is ON ended a pulse at its limit since the last shedding evaluation; 1 bit; R149; reset 0 -/
  clEval : Bool := false
  /-- RAIL_OV_HW; 1 bit; R177; reset 0 -/
  ovHw : Bool := false
  /-- Core cycle of the latest over-voltage action or short declaration, and whether it was an over-voltage; 64 bits; R161; reset none -/
  hwCyc : Option (Nat × Bool) := none
  /-- RAIL_SHORT; 1 bit; R177; reset 0 -/
  short : Bool := false
  /-- RAIL_DISCH, discharge runs; 1 bit; R177; reset 0 -/
  disch : Bool := false
  /-- RAIL_HOLD, the shadow amplifier drives the demand; 1 bit; R177; reset 0 -/
  hold : Bool := false
  /-- State of the LFSR of modulation mode 2; 15 bits; R166; reset rail number -/
  lfsr : BitVec 15 := 0
  /-- Place in the modulation period, in 1/1,000 of it; 10 bits; R166; reset 0 -/
  sscPh : Nat := 0
  /-- PROT_ACTIVE overload in force, by phase source; 9 bits; R141; reset none -/
  overload : Option Nat := none
  /-- Output is below RAIL_OFF_THR; 1 bit; R162; reset 1 -/
  discharged : Bool := true
  /-- Dwell counts up and down of the shedding loop; 2 x 16 bits; R149; reset 0 -/
  dwellUp : Nat := 0
  /-- Dwell count down; 16 bits; R149; reset 0 -/
  dwellDn : Nat := 0
  /-- RAIL_VMAX, 0.25 mV; 16 bits; R177; reset 0 -/
  vmax : Nat := 0
  /-- RAIL_VMIN, 0.25 mV; 16 bits; R177; reset 0xFFFF -/
  vmin : Nat := 65535
  /-- RAIL_IPK, mA; 32 bits; R177; reset 0 -/
  ipk : Int := 0
  /-- A current sample has loaded RAIL_IPK since the last clear; 1 bit; R168; reset 0 -/
  ipkSet : Bool := false
  /-- Latest voltage samples, newest first, at most 2^15; R167; reset empty -/
  vsamp : List Nat := []
  /-- Latest current samples, newest first, at most 2^15; R167; reset empty -/
  isamp : List Int := []
  /-- RAIL_VAVG, 0.25 mV; 16 bits; R167; reset 0 -/
  vavg : Nat := 0
  /-- RAIL_IAVG, mA; 32 bits; R167; reset 0 -/
  iavg : Int := 0
  /-- Core cycle of the latest sample that the extremes took; 64 bits; R168; reset none -/
  sampCyc : Option Nat := none
  /-- Voltage of the latest error conversion, 0.25 mV; 16 bits; R167; reset 0 -/
  verr : Nat := 0
  deriving DecidableEq, Repr

/-- The Lathe's histories and live values of one rail (R186 to R206, R213). -/
structure LoopSt where
  /-- LOOP_E, e[n]; 32 bits; R213; reset 0 -/
  e : Int := 0
  /-- Last conversion code; 9 bits; R180; reset 0 -/
  code : Int := 0
  /-- LOOP_INT, I[n]; 32 bits; R213; reset 0 -/
  integ : Int := 0
  /-- v of the latest sample; 32 bits; R186; reset 0 -/
  v : Int := 0
  /-- Section outputs y1 to y4 at n-1 and n-2, and inputs x at n-1 and n-2: per section (x1, x2, y1, y2); R186; reset 0 -/
  secs : List (Int × Int × Int × Int) := []
  /-- f of the latest sample; 32 bits; R186; reset 0 -/
  f : Int := 0
  /-- LOOP_W; 32 bits; R213; reset 0 -/
  w : Int := 0
  /-- LOOP_DEM, q; 16 bits; R213; reset 0 -/
  q : Int := 0
  /-- Accumulator at the previous sample; 32 bits; R187; reset 0 -/
  accPrev : Int := 0
  /-- LOOP_LIM; 1 bit; R213; reset 0 -/
  lim : Bool := false
  /-- w of the latest sample was limited at LOOP_WMAX; 1 bit; R191; reset 0 -/
  limHi : Bool := false
  /-- w of the latest sample was limited at LOOP_WMIN; 1 bit; R191; reset 0 -/
  limLo : Bool := false
  /-- LOOP_AWH; 1 bit; R213; reset 0 -/
  awh : Bool := false
  /-- LOOP_ICLAMP; 1 bit; R213; reset 0 -/
  iclamp : Bool := false
  /-- LOOP_ERR_OOR; 1 bit; R213; reset 0 -/
  oor : Bool := false
  /-- A phase was limited since the previous sample; 1 bit; R207; reset 0 -/
  limited : Bool := false
  /-- LOOP_SATF; 1 bit; R213; reset 0 -/
  satf : Bool := false
  /-- LOOP_SATCNT; 32 bits; R213; reset 0 -/
  satcnt : Nat := 0
  /-- LOOP_NFAC; 21 bits; R213; reset 0x1_0000 -/
  nfac : Nat := 65536
  /-- Transfer offset now; 32 bits; R204; reset 0 -/
  ofs : Int := 0
  /-- offset_0 of the running transfer; 32 bits; R204; reset 0 -/
  ofs0 : Int := 0
  /-- Updates made of the running transfer; 8 bits; R204; reset 0 -/
  ofsK : Nat := 0
  /-- A transfer from this demand code begins at the next update; 16 bits; R204; reset none -/
  transfer : Option Int := none
  deriving DecidableEq, Repr

/-- State of a trace buffer (R210). -/
inductive TrcState where
  | idle | armed | triggered | done
  deriving DecidableEq, Repr

/-- One trace buffer (R207 to R215). -/
structure Trace where
  /-- LOOP_TRC_STATE; 2 bits; R213; reset IDLE -/
  st : TrcState := .idle
  /-- Samples recorded, newest first; at most 8,192 words; R210; reset empty -/
  samples : List Word := []
  /-- Loop samples since arming; natural number; R208; reset 0 -/
  count : Nat := 0
  /-- Samples recorded since the trigger, the trigger sample included; 14 bits; R210; reset 0 -/
  post : Nat := 0
  /-- Samples kept from before the trigger; 13 bits; R210; reset 0 -/
  pre : Nat := 0
  /-- LOOP_TRC_TIDX; 13 bits; R213; reset 0 -/
  tidx : Nat := 0
  /-- LOOP_TRC_EP; 48 bits; R213; reset 0 -/
  ep : Nat := 0
  /-- LOOP_TRC_CYC; 18 bits; R213; reset 0 -/
  cyc : Nat := 0
  /-- Core cycle in which the buffer entered DONE; 64 bits; R215; reset 0 -/
  doneCyc : Nat := 0
  /-- Node at the previous sample; 32 bits; R209; reset none -/
  prev : Option Int := none
  /-- A host force or group trigger waits for the next sample; 1 bit; R209, R211; reset 0 -/
  force : Bool := false
  /-- A trigger condition of another block waits for the next sample; 1 bit; R209; reset 0 -/
  ext : Bool := false
  /-- LOOP_TRC_DONE; 1 bit; R213; reset 0 -/
  done : Bool := false
  deriving DecidableEq, Repr

/-- One phase (R129 to R148, R177). -/
structure Phase where
  /-- Holds the spare role; 1 bit; R146; reset img -/
  spareRole : Bool := false
  /-- PH_SUBST, stands in for a failed phase; 1 bit; R177; reset 0 -/
  subst : Bool := false
  /-- PWM is driven to mid by the die; 1 bit; R142; reset 1 -/
  mid : Bool := true
  /-- PH_CL_CNT; 16 bits; R177; reset 0 -/
  clCnt : Nat := 0
  /-- PH_CL_NOW; 1 bit; R177; reset 0 -/
  clNow : Bool := false
  /-- PH_TFAULT, the condition of R132 holds; 1 bit; R177; reset 0 -/
  tfault : Bool := false
  /-- PH_TEMP, stage temperature + 50 °C; 8 bits; R177; reset 0 -/
  temp : Nat := 0
  /-- PH_I, mA; 32 bits; R177; reset 0 -/
  cur : Int := 0
  /-- Current samples of the last 10 µs, mA, newest first; at most 10; R177; reset empty -/
  samp : List Int := []
  /-- A substitute took this phase's place, and it has not been cleared since; 1 bit; R146; reset 0 -/
  replaced : Bool := false
  /-- PH_ANGLE, spacing position; 16 bits; R177; reset 0 -/
  angle : Nat := 0
  /-- The phase ended its pulse at the limit in the last epoch; 1 bit; R33; reset 0 -/
  limEpoch : Bool := false
  /-- The phase has ended its pulse at the limit in the epoch in progress; 1 bit; R33; reset 0 -/
  limNow : Bool := false
  deriving DecidableEq, Repr

/-- One load switch (R169 to R177). -/
structure Switch where
  /-- LS_GATE_ON; 1 bit; R177; reset 0 -/
  gate : Bool := false
  /-- LS_INRUSH; 1 bit; R177; reset 0 -/
  inrush : Bool := false
  /-- LS_SHORT; 1 bit; R177; reset 0 -/
  short : Bool := false
  /-- The die has acted on a short in a hold, and the lanes still have to take it; 1 bit; R290; reset 0 -/
  shortWait : Bool := false
  /-- LS_I2T_TRIP, the i²t protection holds the switch off; 1 bit; R175; reset 0 -/
  trip : Bool := false
  /-- TYPE_FLAGS bit 9 condition, i²t above warning; 1 bit; R174; reset 0 -/
  warn : Bool := false
  /-- Thermal account A, in mA² µs; 96 bits; R173; reset 0 -/
  acct : Int := 0
  /-- LS_I, mA; 32 bits; R177; reset 0 -/
  cur : Int := 0
  /-- LS_IPK, mA; 32 bits; R177; reset 0 -/
  ipk : Int := 0
  /-- A current value has loaded LS_IPK since the last clear; 1 bit; R168; reset 0 -/
  ipkSet : Bool := false
  /-- Core cycle of the latest current value; 64 bits; R168; reset none -/
  sampCyc : Option Nat := none
  deriving DecidableEq, Repr

/-- What a step of a group's program is doing (R221). -/
inductive StepRun where
  | none | bundle | delay | waitGroup | waitInput | reset
  deriving DecidableEq, Repr

/-- One sequence group (R216 to R249, R255). -/
structure Group where
  /-- SEQ_STEP; 8 bits; R255; reset 0 -/
  step : Nat := 0
  /-- SEQ_DIR, the power-down program runs; 1 bit; R255; reset 0 -/
  dir : Bool := false
  /-- A program runs; 1 bit; R223; reset 0 -/
  running : Bool := false
  /-- Kind of the running step; R221; reset none -/
  run : StepRun := .none
  /-- Completions still awaited by the running BUNDLE step; 6 bits; R224; reset 0 -/
  await : Nat := 0
  /-- Completions still to come of BUNDLE steps that a forced shutdown has ended; natural number; R224, R244; reset 0 -/
  stale : Nat := 0
  /-- First failed member of the running BUNDLE step: cause and endpoint; 3 + 17 bits; R224; reset none -/
  firstFail : Option (Nat × Nat) := none
  /-- SEQ_LINK; 8 bits; R255; reset 0 -/
  link : Nat := 0
  /-- LINK of the last linked power-up step completed since the group left OFF, and that step; 8 + 8 bits; R229; reset none -/
  unwindPt : Option (Nat × Nat) := none
  /-- LINK of the last linked power-down step completed, with no unlinked BUNDLE or RESET after it; 8 bits; R229; reset none -/
  resumePt : Option Nat := none
  /-- A BUNDLE or RESET step of power-down has completed since it was entered; 1 bit; R229; reset 0 -/
  dnMoved : Bool := false
  /-- SEQ_RETRIES; 3 bits; R255; reset 0 -/
  retries : Nat := 0
  /-- SEQ_BACKOFF; 1 bit; R255; reset 0 -/
  backoff : Bool := false
  /-- SEQ_UNWIND; 1 bit; R255; reset 0 -/
  unwind : Bool := false
  /-- SEQ_INWAIT; 1 bit; R255; reset 0 -/
  inwait : Bool := false
  /-- SEQ_FORCED: endpoints forced off and not yet OFF or FAILED; list of local indices; R233; reset empty -/
  forced : List Nat := []
  /-- Retries end by a P1 request; 1 bit; R218; reset 0 -/
  endRetries : Bool := false
  /-- Decision waiting for the step boundary: target of an accepted request; R218; reset none -/
  turn : Option EState := none
  /-- The group shuts down under input loss; 1 bit; R247; reset 0 -/
  ilShut : Bool := false
  /-- A forced shutdown of R247 action 2 waits for the running BUNDLE step; 1 bit; R247; reset 0 -/
  ilForce : Bool := false
  /-- Reached OFF under R247 and may restart; 1 bit; R249; reset 0 -/
  ilOff : Bool := false
  /-- A forced shutdown of the IMMEDIATE row runs until its endpoints are off; 1 bit; R244; reset 0 -/
  immed : Bool := false
  /-- Resume has committed HELD and commits STARTING in the next epoch; 1 bit; R248; reset 0 -/
  resuming : Bool := false
  /-- Power-down continues to END and then power-up begins from step 0; 1 bit; R229; reset 0 -/
  restart : Bool := false
  /-- The retry's wait ended while an input loss was declared; 1 bit; R240; reset 0 -/
  retryHeld : Bool := false
  /-- The running power-down BUNDLE step has a member whose FAILED commit was counted; 1 bit; R242; reset 0 -/
  dnCounted : Bool := false
  /-- The collector's latest request to the group: core cycle, severity and source; natural number + 2 + 9 bits; R273; reset none -/
  asked : Option (Nat × Nat × Nat) := none
  /-- The group is STOPPING under a fault reaction, or HELD under the KEEP row; 1 bit; R273; reset 0 -/
  react : Bool := false
  /-- SEQ_GTMR, time left when the running wait began, µs; 32 bits; R255; reset 0 -/
  tmr : Nat := 0
  /-- Time at which that wait began, 4 ns; natural number; R255; reset 0 -/
  tmrCyc : Nat := 0
  /-- SEQ_FAIL_STEP; 8 bits; R255; reset 0 -/
  failStep : Nat := 0
  /-- SEQ_FAIL_CAUSE; 3 bits; R255; reset 0 -/
  failCause : Nat := 0
  /-- SEQ_FAIL_EP; 17 bits; R255; reset 0 -/
  failEp : Nat := 0
  /-- SEQ_UP_FAILS; 16 bits; R255; reset 0 -/
  upFails : Nat := 0
  /-- SEQ_DN_FAILS; 16 bits; R255; reset 0 -/
  dnFails : Nat := 0
  deriving DecidableEq, Repr

/-- The input and power-fail judgement, RSTO pins and the snapshot (R226, R245 to R255). -/
structure SeqSt where
  /-- SEQ_VINA_OK negated: VIN_A is lost; 1 bit; R245; reset 1 (SEQ_VINA_OK 0) -/
  lostA : Bool := true
  /-- VIN_B is lost; 1 bit; R245; reset 1 (SEQ_VINB_OK 0) -/
  lostB : Bool := true
  /-- SEQ_IL; 1 bit; R255; reset 0 -/
  il : Bool := false
  /-- SEQ_PF; 1 bit; R255; reset 0 -/
  pf : Bool := false
  /-- SEQ_PF_CNT; 16 bits; R255; reset 0 -/
  pfCnt : Nat := 0
  /-- SEQ_IN_STABLE; 1 bit; R255; reset 0 -/
  stable : Bool := false
  /-- Time at which VIN_A last returned, 4 ns; natural number; R245; reset 0 -/
  retA : Nat := 0
  /-- Time at which VIN_B last returned, 4 ns; natural number; R245; reset 0 -/
  retB : Nat := 0
  /-- SEQ_HOLD_OK; 1 bit; R255; reset 0 -/
  holdOk : Bool := false
  /-- SEQ_KA_OK; 1 bit; R255; reset 0 -/
  kaOk : Bool := false
  /-- The input that changed last is VIN_B; 1 bit; R280; reset 0 -/
  lastB : Bool := false
  /-- SEQ_RSTO_SEQ; 16 bits; R255; reset 0xFFFF -/
  rsto : BitVec 16 := 0xFFFF
  /-- SEQ_SNAP_BUSY; 1 bit; R255; reset 0 -/
  snapBusy : Bool := false
  /-- SEQ_SNAP_CNT; 16 bits; R255; reset 0 -/
  snapCnt : BitVec 16 := 0
  /-- The captured snapshot record, waiting to be written: payload, power-fail bit, epoch, clock; R251; reset none -/
  snap : Option (List Byte × Bool × Nat × Nat × Nat) := none
  deriving DecidableEq, Repr

/-- One fault source (R256 to R281). -/
structure Source where
  /-- Decoded line value; 1 bit; R256; reset 0 -/
  line : Bool := false
  /-- FLT_FORCED; 1 bit; R281; reset 0 -/
  forced : Bool := false
  /-- FLT_INTEG_LOST; 1 bit; R281; reset 0 -/
  lost : Bool := false
  /-- FLT_STICKY; 1 bit; R281; reset 0 -/
  sticky : Bool := false
  /-- FLT_QUAL; 1 bit; R281; reset 0 -/
  qual : Bool := false
  /-- Times of the occurrences that count, 4 ns, oldest first; list; R261; reset empty -/
  occ : List Nat := []
  /-- Core cycle in which an occurrence drove out those that had left the count; 64 bits; R261; reset none -/
  leftCyc : Option Nat := none
  /-- FLT_CAUSE; 10 bits; R281; reset 0 -/
  cause : Nat := 0
  /-- FLT_PEND; 1 bit; R281; reset 0 -/
  pend : Bool := false
  /-- Core cycle that set FLT_PEND; natural number; R275; reset 0 -/
  pendCyc : Nat := 0
  /-- An entry commit has been submitted in this epoch; 1 bit; R276; reset 0 -/
  committed : Bool := false
  /-- A change of the entry waits for the next epoch; 1 bit; R276; reset 0 -/
  dirty : Bool := false
  /-- State and count of the entry submitted last, or that a CLEAR left; state code and 4 bits; R276; reset (CLEAR, 0) -/
  sent : EState × Nat := (.clear, 0)
  /-- It has failed during STARTING, with this cause; 10 bits; R329; reset none -/
  early : Option Nat := none
  /-- Causes that hold, for a source with several conditions; bit mask of cause numbers; R430, R659; reset 0 -/
  holds : BitVec 16 := 0
  deriving DecidableEq, Repr

/-- One event (R277, R280, R281). -/
structure Event where
  /-- EVT_CNT; 32 bits; R281; reset 0 -/
  cnt : Nat := 0
  /-- EVT_PEND; 1 bit; R281; reset 0 -/
  pend : Bool := false
  /-- Core cycle that set EVT_PEND; natural number; R275; reset 0 -/
  pendCyc : Nat := 0
  /-- Raises submitted and not yet committed; natural number; R277; reset 0 -/
  inFlight : Nat := 0
  deriving DecidableEq, Repr

/-- Stage of a chuck hold (R292). -/
inductive HoldStage where
  | checker | replay | selfTest
  deriving DecidableEq, Repr

/-- Lanes, holds, clocks, references and supply paths (R282 to R313). -/
structure Lane where
  /-- LANE_VOTE; 3 bits; R312; reset 0b111 -/
  vote : BitVec 3 := 7
  /-- LANE_PERM; 3 bits; R312; reset 0 -/
  perm : BitVec 3 := 0
  /-- LANE_REFORM; 3 bits; R312; reset 0 -/
  reform : BitVec 3 := 0
  /-- Re-form step reached per lane, 1 to 5; 3 x 3 bits; R296; reset 0 -/
  rfStep : Tbl Nat := []
  /-- LANE_RF_ATT0 to 2; 3 x 4 bits; R312; reset 0 -/
  rfAtt : Tbl Nat := []
  /-- Lane that a re-form copies from; 3 x 2 bits; R296, R298; reset 0 -/
  rfSrc : Tbl Nat := []
  /-- Core cycle of the checkpoint stored last; natural number; R287; reset none -/
  ckpt : Option Nat := none
  /-- Core cycle of the agreed checkpoint; natural number; R287; reset none -/
  agreed : Option Nat := none
  /-- Core cycle since which the undo log holds the working-memory writes, that of the checkpoint before the last; natural number; R287; reset none -/
  undo : Option Nat := none
  /-- Time at which the lane's re-form began, 4 ns; natural numbers; R312; reset 0 -/
  rfStart : Tbl Nat := []
  /-- LANE_RF_LAST, µs; 12 bits; R312; reset 0 -/
  rfLast : Nat := 0
  /-- A re-formed lane has joined the vote: the time, 4 ns; natural numbers; R297; reset none -/
  joinCyc : Tbl Nat := []
  /-- A chuck hold is in progress and waits for this stage; R289; reset none -/
  hold : Option HoldStage := none
  /-- A clock switch is in progress; 1 bit; R301; reset 0 -/
  switching : Bool := false
  /-- The clock switch in progress is a return; 1 bit; R302; reset 0 -/
  returning : Bool := false
  /-- Source whose fault began the clock switch in progress or ended last; 9 bits; R301, R303; reset 0 -/
  swSrc : Nat := 0
  /-- Core cycle in which the last hold ended; natural number; R313; reset none -/
  endCyc : Option Nat := none
  /-- Ticks that fell inside the hold; natural number; R291; reset 0 -/
  tickHeld : Nat := 0
  /-- Arrivals that the boundary buffers keep during a hold or a warm start, oldest first, each with its time, 4 ns; list; R290,
  R334; reset empty -/
  boundary : List (Nat × Instr) := []
  /-- Lanes that a settled chuck hold has isolated, while the records of its end wait for an overlapping clock switch; list; R294; reset none -/
  settled : Option (List Nat) := none
  /-- The records of an ended clock switch wait for an overlapping chuck hold; 1 bit; R294; reset 0 -/
  switched : Bool := false
  /-- LANE_GOV_STOP; 1 bit; R312; reset 0 -/
  govStop : Bool := false
  /-- LANE_HOLD_CNT; 16 bits; R312; reset 0 -/
  holdCnt : Nat := 0
  /-- LANE_ISO_CNT; 16 bits; R312; reset 0 -/
  isoCnt : Nat := 0
  /-- LANE_HOLD_CAUSE; 4 bits; R312; reset 0 -/
  holdCause : Nat := 0
  /-- LANE_HOLD_RES; 2 bits; R312; reset 0 -/
  holdRes : Nat := 0
  /-- LANE_HOLD_LEN, 4 ns; 16 bits; R312; reset 0 -/
  holdLen : Nat := 0
  /-- LANE_HOLD_MAX, 4 ns; 16 bits; R312; reset 0 -/
  holdMax : Nat := 0
  /-- LANE_CLK_SRC; 2 bits; R312; reset 0 -/
  clkSrc : Nat := 0
  /-- LANE_PLLB_PERM; 1 bit; R312; reset 0 -/
  pllbPerm : Bool := false
  /-- LANE_PLLA_LOCK; 1 bit; R312; reset 1 -/
  pllaLock : Bool := true
  /-- LANE_PLLB_LOCK; 1 bit; R312; reset 1 -/
  pllbLock : Bool := true
  /-- LANE_XTAL_OK; 1 bit; R312; reset 1 -/
  xtalOk : Bool := true
  /-- LANE_X32_OK; 1 bit; R312; reset 1 -/
  x32Ok : Bool := true
  /-- LANE_RC_OK; 1 bit; R312; reset 1 -/
  rcOk : Bool := true
  /-- LANE_WDOSC_OK; 1 bit; R312; reset 1 -/
  wdoscOk : Bool := true
  /-- LANE_REF_OK; 3 bits; R312; reset 0b111 -/
  refOk : BitVec 3 := 7
  /-- LANE_REF_MAP_DAC; 2 bits; R312; reset 0 -/
  refDac : Nat := 0
  /-- LANE_REF_MAP_ADC; 2 bits; R312; reset 1 -/
  refAdc : Nat := 1
  /-- LANE_REF_MAP_PROT; 2 bits; R312; reset 2 -/
  refProt : Nat := 2
  /-- Supply voltages last measured (LANE_VINA_MV, VINB, VHOLD, KA); 4 x 16 bits; R312; reset 0 -/
  mv : SupplyMv := ⟨0, 0, 0, 0⟩
  /-- Sources at or above the source brown-out threshold: VIN_A, VIN_B, keep-alive; 3 bits; R314; reset 0 -/
  srcOk : BitVec 3 := 0
  /-- LANE_IDA_ON and LANE_IDB_ON; 2 bits; R312; reset 0 -/
  pairOn : BitVec 2 := 0
  /-- LANE_IDA_RC and LANE_IDB_RC; 2 bits; R312; reset 0 -/
  pairRc : BitVec 2 := 0
  /-- LANE_IDA_OV and LANE_IDB_OV; 2 bits; R312; reset 0 -/
  pairOv : BitVec 2 := 0
  /-- LANE_KA_FEED; 1 bit; R312; reset 0 -/
  kaFeed : Bool := false
  /-- Watched supplies below their threshold: VDRV bit 0, buck n bit 1+n, LDO n bit 9+n; 17 bits; R309; reset 0 -/
  supLow : BitVec 17 := 0
  /-- LANE_SRAM_CORR; 16 bits; R312; reset 0 -/
  sramCorr : Nat := 0
  /-- LANE_MRAM_CORR; 16 bits; R312; reset 0 -/
  mramCorr : Nat := 0
  /-- Time at which the running 1 s window of the corrections began, 4 ns; natural number; R312; reset 0 -/
  corrAt : Nat := 0
  deriving DecidableEq, Repr

/-- Identity, mode, starts, parking, image and pads (R14, R24, R314 to R348, R611 to R626). -/
structure Glb where
  /-- GLB_MODE; 4 bits; R14; reset COLD -/
  mode : Mode := .cold
  /-- GLB_ROLE; 4 bits; R24; reset img -/
  role : Nat := 0
  /-- GLB_TAKEN_OVER; 1 bit; R24; reset 0 -/
  takenOver : Bool := false
  /-- GLB_AVAIL bits 4 to 0: XTAL, LANES3, LIMITS, HOLDUP, SRC2; 5 bits; R24; reset 0 -/
  avail : BitVec 5 := 0
  /-- GLB_AV_LOST; 1 bit; R24; reset 0 -/
  avLost : Bool := false
  /-- Core cycle in which a condition last stopped holding; natural number; R26; reset none -/
  avCyc : Option Nat := none
  /-- Core cycle at which the mode last went to or from PARKED; natural number; R6; reset 0 -/
  modeCyc : Nat := 0
  /-- Time at that core cycle, 4 ns; natural number; R6; reset 0 -/
  modeTime : Nat := 0
  /-- GLB_EP_FLOOR; 1 bit; R347; reset 0 -/
  epFloor : Bool := false
  /-- GLB_IMG_USED; 4 bits; R347; reset 0 -/
  imgUsed : Nat := 0
  /-- GLB_HALT_CAUSE; 4 bits; R347; reset 0 -/
  haltCause : Nat := 0
  /-- GLB_BIST_OK; 3 bits; R347; reset 0 -/
  bistOk : BitVec 3 := 0
  /-- GLB_START_STEP; 4 bits; R347; reset 0 -/
  startStep : Nat := 0
  /-- GLB_START_T, µs; 32 bits; R347; reset 0 -/
  startT : Nat := 0
  /-- GLB_RECOV_CNT; 16 bits; R347; reset 0 -/
  recovCnt : Nat := 0
  /-- GLB_WARM_CNT; 12 bits; R347; reset 0 -/
  warmCnt : Nat := 0
  /-- GLB_WARM_LEN, 4 ns; 12 bits; R347; reset 0 -/
  warmLen : Nat := 0
  /-- GLB_WARM_CAUSE; 2 bits; R347; reset 0 -/
  warmCause : Nat := 0
  /-- GLB_WARM_BUSY; 1 bit; R347; reset 0 -/
  warmBusy : Bool := false
  /-- Causes of a pending warm start (GLB_WARM_PEND while not 0): 1 activation, 2 adoption; 2 bits; R333; reset 0 -/
  warmPend : BitVec 2 := 0
  /-- The tick of R333 has qualified; 1 bit; R333; reset 0 -/
  warmTick : Bool := false
  /-- Core cycle of the trigger of the warm start in progress, moved on by the holds inside it; natural number; R334, R337;
  reset 0 -/
  warmAt : Nat := 0
  /-- Its length from the trigger to step 6, core cycles; 12 bits; R334; reset 0 -/
  warmFor : Nat := 0
  /-- Steps 3 to 5 of it that are done; 2 bits; R334; reset 0 -/
  warmStage : Nat := 0
  /-- Causes of the warm start in progress, as in GLB_WARM_PEND's; 2 bits; R334, R337; reset 0 -/
  warmIs : BitVec 2 := 0
  /-- Time of arrival of the fault line that is decided after a warm start, 4 ns; natural number; R338; reset none -/
  lineAt : Option Nat := none
  /-- GLB_PARK_CNT; 16 bits; R347; reset 0 -/
  parkCnt : Nat := 0
  /-- GLB_WAKE_SRC; 4 bits; R347; reset 0 -/
  wakeSrc : Nat := 0
  /-- GLB_PARK_PEND; 1 bit; R347; reset 0 -/
  parkPend : Bool := false
  /-- Core cycle of the PARK commit; natural number; R18; reset none -/
  parkCyc : Option Nat := none
  /-- The tick that publishes the PARK has passed; 1 bit; R339; reset 0 -/
  parkTick : Bool := false
  /-- A wake condition of PARKED waits for its WAKE step: its code and core cycle; 4 bits and a natural number; R342, R344; reset none -/
  waking : Option (Nat × Nat) := none
  /-- GLB_WAKE_AUTO groups begin at the next tick; 1 bit; R342; reset 0 -/
  wakeAuto : Bool := false
  /-- SEQ_AUTO groups begin in the epoch after the first committed epoch; 1 bit; R220; reset 0 -/
  firstEpoch : Bool := false
  /-- GLB_IMG_REL; 32 bits; R614; reset img -/
  imgRel : Word := 0
  /-- GLB_IMG_SVN; 9 bits; R614; reset img -/
  imgSvn : Nat := 0
  /-- GLB_COLD_SECT bits 12 to 1; 13 bits; R614; reset 0 -/
  coldSect : BitVec 13 := 0
  /-- GLB_ADOPT_SECT bits 12 to 1; 13 bits; R614; reset 0 -/
  adoptSect : BitVec 13 := 0
  /-- Patch entries wait for the next cold start; 1 bit; R611; reset 0 -/
  patchWait : Bool := false
  /-- A role change waits for the next cold start; 1 bit; R13; reset 0 -/
  rolePend : Bool := false
  /-- PORST_N is treated as low; 1 bit; R318; reset 0 -/
  porstLow : Bool := false
  /-- GLB_GPIO_IN, filtered levels; 32 bits; R626; reset 0 -/
  gpioIn : BitVec 32 := 0
  /-- Codes of ADDR0 and ADDR1; 2 x 2 bits; R540; reset pins -/
  addr0 : Nat := 0
  /-- Code of ADDR1; 2 bits; R540; reset pins -/
  addr1 : Nat := 0
  /-- Instruction in force in the test access port; R321; reset BYPASS -/
  tap : TapCode := .bypass
  /-- Replacement words of the mask ROM in force, by word index; at most 256 of 32 bits; R576; reset empty -/
  romPatch : Tbl Word := []
  deriving DecidableEq, Repr

/-- State of an eyelet (R350). -/
inductive EyeState where
  | down | train | up | foreign
  deriving DecidableEq, Repr

/-- One eyelet (R349 to R360, R401). -/
structure Eyelet where
  /-- LACE_E_STATE; 2 bits; R401; reset DOWN -/
  st : EyeState := .down
  /-- LACE_E_RTT, 4 ns; 16 bits; R401; reset 0 -/
  rtt : Nat := 0
  /-- LACE_E_CRC; 32 bits; R401; reset 0 -/
  crc : Word := 0
  /-- Frames discarded in the running 1 s window; natural number; R353; reset 0 -/
  crcWin : Nat := 0
  /-- LACE_E_RETX; 32 bits; R401; reset 0 -/
  retx : Word := 0
  /-- LACE_E_PEER; 64 bits; R401; reset 0 -/
  peer : BitVec 64 := 0
  /-- Peer's hop count, OFFER, TAKEOVER, epoch length and root identity from its last HELLO; R355; reset none -/
  last : Option Hello := none
  /-- Transmit time stamps of HELLOs sent, newest first; 16 bits each; R350; reset empty -/
  sent : List (BitVec 16) := []
  /-- Arrival cycle of the last HELLO; 16 bits; R355; reset 0 -/
  lastArr : BitVec 16 := 0
  /-- Next SEQ to send; 8 bits; R355; reset 0 -/
  txSeq : BitVec 8 := 0
  /-- Next SEQ expected; 8 bits; R355; reset 0 -/
  rxSeq : BitVec 8 := 0
  /-- NAK is set for the next LINK frame; 1 bit; R355; reset 0 -/
  nak : Bool := false
  /-- Unacknowledged frames, oldest first, SEQ and frame; at most 32; R355; reset empty -/
  unacked : List (BitVec 8 × Frame) := []
  /-- Frames waiting to be sent; list; R358; reset empty -/
  txQ : List Frame := []
  /-- Frames of each credited class sent since UP, modulo 256 (operation, delta, control, bulk); 4 x 8 bits; R357; reset 0 -/
  sentCls : Tbl Nat := []
  /-- Latest credit limits received, same order; 4 x 8 bits; R357; reset 0 -/
  limits : Tbl Nat := []
  /-- Cumulative credit limits granted to the peer, same order; 4 x 8 bits; R359; reset 0 -/
  granted : Tbl Nat := []
  /-- LINK frames sent; natural number; R357; reset 0 -/
  links : Nat := 0
  /-- The last LINK frame sent: acknowledgement, NAK and the four credit limits; 8, 1 and 4 x 8 bits; R357; reset none -/
  link : Option (BitVec 8 × Bool × List Nat) := none
  /-- The last HELLO sent; R355, R356; reset none -/
  hello : Option Hello := none
  /-- Operation frames received since UP, modulo 256; 8 bits; R359; reset 0 -/
  opRcvd : Nat := 0
  /-- Time at which the running 1 s window of discards began, 4 ns; natural number; R353; reset 0 -/
  crcStart : Nat := 0
  /-- Time until which a wake order holds IDLE on this eyelet, 4 ns; natural number; R391; reset 0 -/
  idleUntil : Nat := 0
  /-- A unit has joined through this eyelet: it is a child eyelet; 1 bit; R360; reset 0 -/
  child : Bool := false
  deriving DecidableEq, Repr

/-- State of a slot window (R401). -/
inductive SlotState where
  | free | joining | counted | unreachable | parked
  deriving DecidableEq, Repr

/-- One slot of the domain head's table (R366 to R377, R401). -/
structure SlotRec where
  /-- LACE_SLOT_STATE; 3 bits; R401; reset free -/
  st : SlotState := .free
  /-- LACE_SLOT_ID while held; 64 bits; R401; reset 0 or img -/
  uid : BitVec 64 := 0
  /-- LACE_SLOT_E; 2 bits; R401; reset 0 -/
  eye : Nat := 0
  /-- LACE_SLOT_HOP; 8 bits; R401; reset 0 -/
  hop : Nat := 0
  /-- LACE_SLOT_GH; 1 bit; R401; reset 0 -/
  gh : Bool := false
  /-- The unit joined as standby root: MIRROR frames go to it; 1 bit; R384; reset 0 -/
  sb : Bool := false
  /-- LACE_SLOT_EP, last delivered epoch; 48 bits; R374; reset 0 -/
  ep : Nat := 0
  /-- Delivered epoch that a cut may count, before the sets of `coming`; 48 bits; R374, R375; reset 0 -/
  counts : Nat := 0
  /-- Complete sets with the core cycle from which a tick counts them, oldest first; list; R375; reset empty -/
  coming : List (Nat × Nat) := []
  /-- Declare at the next tick; 1 bit; R377; reset 0 -/
  lost : Bool := false
  deriving DecidableEq, Repr

/-- The delivered epoch that a tick at core cycle c counts: a set that completed too late waits for the tick after (R375). -/
def SlotRec.deliveredBy (x : SlotRec) (c : Nat) : Nat :=
  x.coming.foldl (fun m y => if y.2 ≤ c then max m y.1 else m) x.counts

/-- An energy-transfer order in force at this unit's charger (R392 to R395). -/
structure Energy where
  /-- ORDER: 1 SOURCE, 2 SINK, 3 DRAIN; 3 bits; R392; reset none -/
  order : Nat
  /-- PARTNER; 6 bits; R392; reset none -/
  partner : Nat
  /-- ILIM, 0.25 A; 6 bits; R392; reset none -/
  ilim : Nat
  /-- VNET, 100 mV; 9 bits; R392; reset none -/
  vnet : Nat
  /-- TLIM, min; 7 bits; R392; reset none -/
  tlim : Nat
  deriving DecidableEq, Repr

/-- The Lace link and the tree (R349 to R401). -/
structure Lace where
  /-- LACE_MY_SLOT; 6 bits; R401; reset 0 -/
  mySlot : Nat := 0
  /-- LACE_HOP; 8 bits; R401; reset 0xFF -/
  hop : Nat := 255
  /-- LACE_PARENT_E while a parent is held (LACE_HAS_PARENT); 2 bits; R401; reset none -/
  parent : Option Nat := none
  /-- Identity of this unit's root; 64 bits; R355; reset 0 -/
  rootUid : BitVec 64 := 0
  /-- The unit has left the tree; 1 bit; R370; reset 0 -/
  left : Bool := false
  /-- A JOIN_REQ is outstanding: slot asked for; 6 bits; R365; reset none -/
  joining : Option Nat := none
  /-- The last JOIN_REQ was refused; 1 bit; R367; reset 0 -/
  refused : Bool := false
  /-- Slot held before the parent was lost; 6 bits; R383; reset 0 -/
  formerSlot : Nat := 0
  /-- The next set is FULL; 1 bit; R369; reset 0 -/
  fullSet : Bool := false
  /-- DDIV of the latest marker; 3 bits; R372; reset 0 -/
  ddiv : Nat := 0
  /-- Epoch of the last set sent; 48 bits; R372; reset 0 -/
  lastSet : Nat := 0
  /-- Cut epoch C of the latest tick; 48 bits; R65; reset 0 -/
  lastCut : Nat := 0
  /-- A group head that has left marks its slots FREE in the next epoch; 1 bit; R370; reset 0 -/
  freeAll : Bool := false
  /-- JUMP markers still to send; 2 bits; R364; reset 0 -/
  jump : Nat := 0
  /-- Number to which the numbering is raised; 48 bits; R364; reset none -/
  raiseTo : Option Nat := none
  /-- Ticks that come before the tick that takes that number; natural number; R364; reset 0 -/
  raiseIn : Nat := 0
  /-- Ticks since the last valid marker, or since the parent was chosen; natural number; R381; reset 0 -/
  noMarker : Nat := 0
  /-- Ticks since the last valid marker; natural number; R385; reset 0 -/
  sinceMarker : Nat := 0
  /-- The epoch in progress when the slot was granted, or when the unit woke; 48 bits; R369, R391; reset 0 -/
  grantEp : Nat := 0
  /-- Epoch of the latest marker; 48 bits; R384; reset 0 -/
  markerEpoch : Nat := 0
  /-- LACE_MIRROR_OK at the last marker; 1 bit; R385; reset 0 -/
  mirrorOkAtMarker : Bool := false
  /-- Epoch of the mirror content held completely; 48 bits; R384; reset none -/
  mirrorEpoch : Option Nat := none
  /-- Shadow of slots 0 to 63 held by a standby root; 131,072 entries; R384; reset empty -/
  shadow : Tbl Entry := []
  /-- Shadow slot table: presentation and identity; 64 records; R384; reset empty -/
  shadowSlots : Tbl (Option (Pres × BitVec 64)) := []
  /-- Publication the root last mirrored; 48 bits; R384; reset 0 -/
  mirrored : Nat := 0
  /-- Slot table last sent in a SLOTTAB set: presentation code and identity; 64 x (2 + 64 bits); R384; reset empty -/
  sentTab : Tbl (Nat × BitVec 64) := []
  /-- Entry that each index showed in the sets sent; 2,048 entries; R372, R373; reset ABSENT -/
  sentSet : Tbl Entry := []
  /-- Eyelets; 4; R350; reset DOWN -/
  eyes : Tbl Eyelet := []
  /-- Slot table; 64; R366; reset free -/
  slots : Tbl SlotRec := []
  /-- Staging store: slot, set epoch, complete, entries; at most 65,536 entries; R375; reset empty -/
  staged : List (Nat × Nat × Bool × List (Nat × Entry)) := []
  /-- Relay slots reserved for OPs passed on, by OTAG and eyelet; at most 256; R360; reset empty -/
  relays : List (Nat × Nat) := []
  /-- JOIN_REQs passed on: identity, eyelet on which it arrived, hops and group head; list; R366, R401; reset empty -/
  joinPaths : List (BitVec 64 × Nat × Nat × Bool) := []
  /-- Foreign device whose poll TWB1 carries out; 5 bits; R398; reset none -/
  twb1 : Option Nat := none
  /-- LACE_CPL_DROP, completions dropped for want of a parent; 16 bits; R401; reset 0 -/
  cplDrop : Nat := 0
  /-- LACE_JOIN_REF; 16 bits; R401; reset 0 -/
  joinRef : Nat := 0
  /-- LACE_DRAIN_ON with draining and sinking slots; 1 + 6 + 6 bits; R401; reset none -/
  drain : Option (Nat × Nat) := none
  /-- Active pairs of energy orders known at the root: slots; list; R394; reset empty -/
  pairs : List (Nat × Nat) := []
  /-- Energy order in force at this unit's charger; record; R394; reset none -/
  energy : Option Energy := none
  /-- Markers sent or forwarded; natural number; R361; reset 0 -/
  markers : Nat := 0
  /-- Marker last sent or forwarded; record; R361; reset none -/
  lastMarker : Option Marker := none
  deriving DecidableEq, Repr

/-- One foreign device on TWB1 (R396 to R400, R563, R564). -/
structure Foreign where
  /-- TWB1_D_FAILS; 2 bits; R564; reset 0 -/
  fails : Nat := 0
  /-- TWB1_D_NACK; 16 bits; R564; reset 0 -/
  nack : Nat := 0
  /-- Consecutive polls answered while unreachable; 2 bits; R400; reset 0 -/
  polls : Nat := 0
  /-- PAGE last written to the device; 8 bits; R397; reset none -/
  page : Option Nat := none
  /-- A poll of this device is due or in progress; 1 bit; R399; reset 0 -/
  polling : Bool := false
  /-- PMBus accesses of the last transaction, command byte first; list; R397; reset empty -/
  wire : List (List Byte) := []
  /-- OPERATION read back last is off, by item; 1 bit each; R398, R400, R657; reset 0 -/
  outOff : Tbl Bool := []
  /-- Poll periods since each item was refreshed, by item; R399; reset 0 -/
  miss : Tbl Nat := []
  deriving DecidableEq, Repr

/-- One measurement sequencer (R408 to R411, R423). -/
structure AdcSeq where
  /-- ADC_SEQ_IDX; 10 bits; R423; reset 0 -/
  idx : Nat := 0
  /-- ADC_SEQ_RUN; 1 bit; R423; reset 0 -/
  run : Bool := false
  /-- ADC_SEQ_LOOPS; 16 bits; R423; reset 0 -/
  loops : BitVec 16 := 0
  /-- Steps taken in the running list, 200 ns each (LOOP_T in 20 ns); natural number; R423; reset 0 -/
  steps : Nat := 0
  /-- ADC_SEQ_LOOP_T, 20 ns; 32 bits; R423; reset 0 -/
  loopT : Nat := 0
  /-- Conversions started of the entry in progress; 5 bits; R409; reset 0 -/
  conv : Nat := 0
  /-- DELAY steps left after the entry; 12 bits; R408; reset 0 -/
  delay : Nat := 0
  /-- The END entry has started since the last tick; 1 bit; R410; reset 0 -/
  ended : Bool := false
  /-- The list has been completed since the last tick; 1 bit; R410; reset 0 -/
  whole : Bool := false
  /-- The list was late at a tick and has not been completed by one since; 1 bit; R410; reset 0 -/
  late : Bool := false
  /-- The next conversion starts on the second of two occupied positions; 1 bit; R409; reset 0 -/
  turn : Bool := false
  /-- Slices of the conversions started of the entry in progress, oldest first; R409; reset empty -/
  slices : List Nat := []
  /-- Entries whose last conversion has started and whose result is awaited, oldest first; table indices, each with the value that a derived source gave in its step and the slices of its conversions; R409; reset empty -/
  due : List (Nat × Int × List Nat) := []
  deriving DecidableEq, Repr

/-- One measured channel (R416, R417, R423). -/
structure Chan where
  /-- ADC_CH_VAL; 32 bits; R423; reset 0 -/
  val : Int := 0
  /-- ADC_CH_CLIP; 1 bit; R423; reset 0 -/
  clip : Bool := false
  /-- ADC_CH_NEW; 1 bit; R423; reset 0 -/
  new : Bool := false
  /-- A result arrived since the last tick; 1 bit; R417; reset 0 -/
  fresh : Bool := false
  /-- Epochs without a new result; 8 bits; R417; reset 0 -/
  quiet : Nat := 0
  /-- Last published value; 32 bits; R417; reset 0 -/
  pubVal : Int := 0
  /-- Epochs since the last publication; 8 bits; R417; reset 0 -/
  pubAge : Nat := 0
  /-- ADC_CH_STALE_NOW; 1 bit; R423; reset 0 -/
  stale : Bool := false
  /-- Exempt from the stale row until its first result after a wake; 1 bit; R422; reset 0 -/
  exempt : Bool := false
  deriving DecidableEq, Repr

/-- One metering channel (R418 to R421, R423). -/
structure Meter where
  /-- ADC_MTR_RAW; 24 bits; R423; reset 0 -/
  raw : Int := 0
  /-- ADC_MTR_VAL; 24 bits; R423; reset 0 -/
  val : Int := 0
  /-- ADC_MTR_OFS in force; 32 bits; R423; reset img -/
  ofs : Int := 0
  /-- ADC_MTR_GAIN in force; 32 bits; R423; reset img -/
  gain : Nat := 0
  /-- Calibration command in progress with its raw results (ADC_MTR_BUSY); 64 x 24 bits; R419; reset none -/
  cal : Option (Nat × List Int) := none
  /-- ADC_MTR_REJ; 1 bit; R423; reset 0 -/
  rej : Bool := false
  /-- ADC_MTR_OVL; 1 bit; R421; reset 0 -/
  ovl : Bool := false
  /-- Consecutive results at, or inside, full scale; 3 bits; R421; reset 0 -/
  ovlRun : Nat := 0
  /-- ADC_MTR_CAL_SRC; 1 bit; R423; reset 0 -/
  calSrc : Bool := false
  deriving DecidableEq, Repr

/-- The measurement bank (R402 to R423). -/
structure Adc where
  /-- Slice at each position 0 to 15, by position (ADC_SL_POS read the other way); 16 x 5 bits; R402; reset slice p at position p -/
  pos : Tbl (Option Nat) := (List.range 16).map fun p => (p, some p)
  /-- ADC_FREE_SLICE; 5 bits; R423; reset 16 -/
  free : Option Nat := some 16
  /-- ADC_RETIRED; 17 bits; R423; reset 0 -/
  retired : BitVec 17 := 0
  /-- ADC_CAL_POS; 4 bits; R423; reset 0 -/
  calPos : Nat := 0
  /-- Calibrations in the running round; 5 bits; R404; reset 0 -/
  calRound : Nat := 0
  /-- ADC_CAL_ROUNDS; 16 bits; R423; reset 0 -/
  rounds : BitVec 16 := 0
  /-- OFS_k and G_k per slice; 17 x (8 + 16 bits); R403; reset 0 and 0x8000 -/
  slices : Tbl (Int × Nat) := []
  /-- Sequencers; 8; R408; reset stopped -/
  seqs : Tbl AdcSeq := []
  /-- Channels; 256; R416; reset 0 -/
  chans : Tbl Chan := []
  /-- Metering channels; 2; R418; reset 0 -/
  meters : Tbl Meter := []
  /-- Result queue, oldest first; at most 16,384 words; R414; reset empty -/
  rq : List Word := []
  /-- Bank tag of the next queued result; 6 bits; R413; reset 0 -/
  bankTag : Nat := 0
  /-- ADC_RQ_OVF; 1 bit; R423; reset 0 -/
  rqOvf : Bool := false
  /-- ADC_RQ_DROP; 32 bits; R423; reset 0 -/
  rqDrop : Word := 0
  /-- ADC_PUB_DROP; 32 bits; R423; reset 0 -/
  pubDrop : Word := 0
  /-- ADC_PUB_CNT; 32 bits; R423; reset 0 -/
  pubCnt : Word := 0
  /-- Learned offset and gain of each metering channel in MRAM, with a passing check code; R420; reset none -/
  learned : Tbl (Option (Int × Nat)) := []
  deriving DecidableEq, Repr

/-- One raw temperature input (R424, R426). -/
structure ThmIn where
  /-- THM_IN_VALID; 1 bit; R439; reset 0 -/
  valid : Bool := false
  /-- THM_IN_IDLE; 1 bit; R439; reset 0 -/
  idle : Bool := false
  /-- Latest temperature, m°C (THM_IN_T in 0.1 °C); 32 bits; R439; reset 0 -/
  t : Int := 0
  /-- A valid temperature has been held; 1 bit; R432; reset 0 -/
  had : Bool := false
  /-- Ratio of an NTC's last result in 1/65,536; 16 bits; R424, R425; reset none -/
  ratio : Option Nat := none
  deriving DecidableEq, Repr

/-- One thermal zone (R427 to R437). -/
structure Zone where
  /-- Zone temperature, m°C (THM_Z_T); 32 bits; R439; reset 0 -/
  t : Int := 0
  /-- THM_Z_F; 11 bits; R439; reset 0 -/
  f : Nat := 0
  /-- THM_Z_FAST; 1 bit; R439; reset 0 -/
  fast : Bool := false
  /-- THM_Z_NVAL; 3 bits; R439; reset 0 -/
  nval : Nat := 0
  /-- THM_Z_RATE, 0.1 °C/s; 16 bits; R439; reset 0 -/
  rate : Int := 0
  /-- Consecutive evaluations at or above THM_Z_TLIM; 8 bits; R428; reset 0 -/
  nLim : Nat := 0
  /-- Consecutive evaluations at or above THM_Z_TDER; 8 bits; R428; reset 0 -/
  nDer : Nat := 0
  /-- Consecutive evaluations below THM_Z_TDER − THM_Z_HYS; 8 bits; R428; reset 0 -/
  nRel : Nat := 0
  /-- STALE: so committed at the start, then as the thermal block last published it; 1 bit; R37, R428; reset 1 -/
  stalePub : Bool := true
  /-- Last published value, m°C, and epochs since; R429; reset 0 -/
  pubVal : Int := 0
  /-- Epochs since the last publication; natural number; R429; reset 0 -/
  pubAge : Nat := 0
  /-- A publication has been made; 1 bit; R429; reset 0 -/
  pubbed : Bool := false
  /-- Epoch in which the zone was last published STALE; natural number; R429; reset none -/
  staleEp : Option Nat := none
  /-- Temperatures of the last THM_ROR_WIN 100 ms samples, newest first; at most 101; R430; reset empty -/
  hist : List Int := []
  /-- What the last 100 ms sample found of the rate, for the next evaluation; 2 bits; R430; reset none -/
  ror : Option Bool := none
  deriving DecidableEq, Repr

/-- The thermal block (R424 to R439). -/
structure Thm where
  /-- Raw inputs; 112; R424; reset lost -/
  ins : Tbl ThmIn := []
  /-- Zones; 48; R427; reset 0 -/
  zones : Tbl Zone := []
  /-- THM_BAND; 3 bits; R439; reset THM_BAND_STALE -/
  band : Nat := 0
  /-- THM_BAND_STALE_NOW; 1 bit; R439; reset 1 -/
  bandStale : Bool := true
  /-- THM_BAND_CNT; 16 bits; R439; reset 0 -/
  bandCnt : Nat := 0
  deriving DecidableEq, Repr

/-- The charger (R440 to R465). -/
structure Chg where
  /-- CHG_RUN; 1 bit; R465; reset img -/
  run : Bool := false
  /-- CHG_MODE, TYPE_FLAGS [10:8]; 3 bits; R33; reset 0 -/
  mode : Nat := 0
  /-- Source pair on: SOLAR; 1 bit (CHG_SRC_SOL); R465; reset 0 -/
  solOn : Bool := false
  /-- Source pair on: NET; 1 bit (CHG_SRC_NET); R465; reset 0 -/
  netOn : Bool := false
  /-- Source to be switched on after the 20 µs of R441: some true SOLAR, some false NET; 2 bits; R441; reset none -/
  switchTo : Option Bool := none
  /-- Selected source: some true SOLAR, some false NET; 2 bits; R444; reset none -/
  source : Option Bool := none
  /-- Over-voltage holds SOLAR or NET off; 2 bits; R446; reset 0 -/
  ovOff : BitVec 2 := 0
  /-- Converter runs; 1 bit; R441; reset 0 -/
  conv : Bool := false
  /-- Time at which the converter began its ramp after a change of source, 4 ns; natural number; R441; reset none -/
  rampAt : Option Nat := none
  /-- CHG_PACK_PRES; 1 bit; R465; reset 0 -/
  present : Bool := false
  /-- PACK_ID, mV, and PACK_NTC ratio in 1/65,536, last converted; R443; reset 0 -/
  idMv : Nat := 0
  /-- PACK_NTC ratio; 16 bits; R443; reset 0 -/
  ntc : Nat := 0
  /-- PACK_NTC temperature, m°C; 32 bits; R443; reset 0 -/
  ntcT : Int := 0
  /-- A removal is being handled; 1 bit; R456; reset 0 -/
  removed : Bool := false
  /-- CHG_IVR; 1 bit; R465; reset 0 -/
  ivr : Bool := false
  /-- CHG_BAND_NOW; 3 bits; R465; reset 0 -/
  bandNow : Nat := 0
  /-- CHG_REM_CNT; 16 bits; R465; reset 0 -/
  remCnt : Nat := 0
  /-- Evaluations at or above the leaving threshold of modes 1 and 2; 4 bits; R447; reset 0 -/
  evals : Nat := 0
  /-- CHG_LIM_POL, mA; 32 bits; R450; reset 0 -/
  limPol : Int := 0
  /-- CHG_LIM_THM, mA; 32 bits; R450; reset 0 -/
  limThm : Int := 0
  /-- CHG_LIM_TRK, mA; 32 bits; R450; reset 0 -/
  limTrk : Int := 0
  /-- CHG_TMR_EQ in 10 ms × 65,536; 48 bits; R454; reset 0 -/
  tmrEq : Nat := 0
  /-- CHG_TMR_ABS, 10 ms; 32 bits; R454; reset 0 -/
  tmrAbs : Nat := 0
  /-- CHG_IOUT, mA; 32 bits; R465; reset 0 -/
  iout : Int := 0
  /-- CHG_POUT, mW; 32 bits; R465; reset 0 -/
  pout : Nat := 0
  /-- Tracking steps in a row whose mean output power was below CHG_SOL_PMIN, up to 10; 4 bits; R444; reset 0 -/
  lowSteps : Nat := 0
  /-- The inputs as the last source selection measured them; R444, R456; reset 0 -/
  meas : SourceMeas := { solar := 0, net := 0, solarHeld := false }
  /-- Pack voltage of the last evaluation, mV; 16 bits; R447, R460; reset 0 -/
  vpack : Nat := 0
  /-- Tracking has a previous step and goes upward; 2 bits; R453; reset none -/
  trkUp : Option Bool := none
  /-- A termination holds the charger OFF; 1 bit; R448; reset 0 -/
  terminated : Bool := false
  /-- A host HELD request holds the charger HELD; 1 bit; R459; reset 0 -/
  hostHeld : Bool := false
  /-- Pack over-temperature holds; 1 bit; R449; reset 0 -/
  hot : Bool := false
  /-- Last published value, mA, and epochs since; R464; reset 0 -/
  pubVal : Int := 0
  /-- Epochs since the last publication; natural number; R464; reset 0 -/
  pubAge : Nat := 0
  deriving DecidableEq, Repr

/-- The gauge's content saved in MRAM (R485). -/
structure GauSave where
  /-- S_i, 2^-16 counts; 30 bits; R485; reset none -/
  si : Int
  /-- GAU_UNC, counts × 589,824,000; R485; reset none -/
  unc : Nat
  /-- GAU_REF_AGE; 32 bits; R485; reset none -/
  refAge : Nat
  /-- Q, 10 mAh; 16 bits; R485; reset none -/
  q : Nat
  /-- GAU_ID_STORED, 10 Ω; 16 bits; R485; reset none -/
  idStored : Nat
  /-- GAU_LRN_CNT; 16 bits; R485; reset none -/
  lrnCnt : Nat
  /-- Real-time clock seconds; 48 bits; R485; reset none -/
  rtcSec : Nat
  deriving DecidableEq, Repr

/-- The gauge (R466 to R489). -/
structure Gau where
  /-- S_i, 2^-16 of 0.01 %; 30 bits; R467; reset 0 -/
  si : Int := 0
  /-- S_r, 2^-16 of 0.01 %; 30 bits; R467; reset 0 -/
  sr : Int := 0
  /-- Remainder of the charge count below 2^-16 of a count, numerator of R468's quotient; natural number; R468; reset 0 -/
  rem : Int := 0
  /-- v1 of the model, mV × 2^16; 32 bits; R469; reset 0 -/
  v1 : Int := 0
  /-- v2 of the model, mV × 2^16; 32 bits; R469; reset 0 -/
  v2 : Int := 0
  /-- Q (GAU_QLRN), 10 mAh; 16 bits; R488; reset GAU_QDES -/
  q : Nat := 0
  /-- I, mA, mean of 10 ms; 32 bits; R466; reset 0 -/
  iMa : Int := 0
  /-- V, mV per cell, mean of 10 ms; 32 bits; R466; reset 0 -/
  vCell : Int := 0
  /-- Sums of the M0 results and of the voltage channel's values at them since the last evaluation; 32 bits each; R466; reset 0 -/
  sumI : Int := 0
  /-- Sum of the voltage channel's values; 32 bits; R466; reset 0 -/
  sumV : Int := 0
  /-- M0 results since the last evaluation; natural number; R466; reset 0 -/
  sums : Nat := 0
  /-- The first 10 ms means decide whether a long rest gives a clean reference; 1 bit; R484, R486; reset 0 -/
  restDue : Bool := false
  /-- GAU_UNC, counts × 589,824,000; R472; reset 10,000 counts -/
  unc : Nat := 10000 * Config.uncUnit
  /-- GAU_REF_AGE, s; 32 bits; R488; reset 0 -/
  refAge : Nat := 0
  /-- GAU_PRES; 1 bit; R488; reset 0 -/
  pres : Bool := false
  /-- GAU_HIB_NOW, HELD; 1 bit; R488; reset 0 -/
  hib : Bool := false
  /-- HELD because of a park entry with ADC_MTR_PARK 0; 1 bit; R483; reset 0 -/
  hibPark : Bool := false
  /-- GAU_REST_NOW; 1 bit; R488; reset 0 -/
  rest : Bool := false
  /-- GAU_DISAGREE; 1 bit; R488; reset 0 -/
  disagree : Bool := false
  /-- GAU_EMPTY; 1 bit; R488; reset 0 -/
  empty : Bool := false
  /-- GAU_LOW; 1 bit; R488; reset 0 -/
  low : Bool := false
  /-- Learning cycle (GAU_LEARN): net charge removed and charge into the pack in M0 counts of 250 µs, and seconds run; R477; reset none -/
  learn : Option (Int × Int × Nat) := none
  /-- GAU_LRN_CNT; 16 bits; R488; reset 0 -/
  lrnCnt : Nat := 0
  /-- GAU_LRN_LAST, 10 mAh; 16 bits; R488; reset 0 -/
  lrnLast : Nat := 0
  /-- GAU_ID_STORED, 10 Ω; 16 bits; R488; reset 0 -/
  idStored : Nat := 0
  /-- GAU_RESID, mV; 16 bits; R488; reset 0 -/
  resid : Int := 0
  /-- GAU_VC, mV per cell; 16 bits; R488; reset 0 -/
  vc : Int := 0
  /-- Reference stale: the 72 h limit has passed; 1 bit; R473; reset 0 -/
  stale : Bool := false
  /-- GAU_IE; 4 bits; R488; reset 0 -/
  ie : BitVec 4 := 0
  /-- GAU_INT_F; 4 bits; R488; reset 0 -/
  intF : BitVec 4 := 0
  /-- Last published value, counts, and epochs since; R487; reset 0 -/
  pubVal : Int := 0
  /-- Epochs since the last publication; natural number; R487; reset 0 -/
  pubAge : Nat := 0
  /-- Saved content in MRAM with a passing check code; record; R485; reset none -/
  saved : Option GauSave := none
  /-- Pack insertion found: the first 10 ms means are awaited; 1 bit; R482; reset 0 -/
  binding : Bool := false
  deriving DecidableEq, Repr

/-- The backup domain and the real-time clock (R490 to R503, R516). -/
structure Rtc where
  /-- RTC_FRAC; 16 bits; R516; reset 0, kept -/
  frac : BitVec 16 := 0
  /-- Seconds; 48 bits; R494; reset 0, kept -/
  sec : BitVec 48 := 0
  /-- RTC_SET_FRAC; 16 bits; R516; reset 0 -/
  setFrac : BitVec 16 := 0
  /-- RTC_SET_LO and RTC_SET_HI; 48 bits; R516; reset 0 -/
  setSec : BitVec 48 := 0
  /-- RTC_SET_BUSY: the load waits, with what it loads and the interface; R498; reset none -/
  busy : Option (BitVec 16 × BitVec 48 × Iface) := none
  /-- RTC_HALT in force; 1 bit; R501; reset 0, kept -/
  halt : Bool := false
  /-- The entry commits HELD in the epoch after a load, with its interface; 1 bit; R500; reset none -/
  heldNext : Option Iface := none
  /-- RTC_TRIM; 8 bits; R516; reset 0, kept -/
  trim : BitVec 8 := 0
  /-- Trim in force for the running 32 s interval; 8 bits; R496; reset 0 -/
  trimNow : BitVec 8 := 0
  /-- Oscillator cycles since the interval began; 21 bits; R496; reset none -/
  trimCyc : Option Nat := none
  /-- RTC_OSF; 1 bit; R516; reset 1, kept -/
  osf : Bool := true
  /-- RTC_BOR; 1 bit; R516; reset 1, kept -/
  bor : Bool := true
  /-- The oscillator is stopped; 1 bit; R495; reset 0 -/
  stopped : Bool := false
  /-- RTC_ON_VBK; 1 bit; R516; reset 1 in COLD -/
  onVbk : Bool := true
  /-- RTC_ALMa_CMP, {seconds, fraction}; 2 x 64 bits; R516; reset 0, kept -/
  cmp0 : BitVec 64 := 0
  /-- RTC_ALM1_CMP; 64 bits; R516; reset 0, kept -/
  cmp1 : BitVec 64 := 0
  /-- RTC_ALM0_MSK; 64 bits; R516; reset 0, kept -/
  msk0 : BitVec 64 := 0
  /-- RTC_ALM1_MSK; 64 bits; R516; reset 0, kept -/
  msk1 : BitVec 64 := 0
  /-- RTC_ALMa_EN; 2 bits; R516; reset 0, kept -/
  almEn : BitVec 2 := 0
  /-- RTC_ALMa_WAKE; 2 bits; R516; reset 0, kept -/
  almWake : BitVec 2 := 0
  /-- RTC_ALM_F; 2 bits; R516; reset 0, kept -/
  almF : BitVec 2 := 0
  /-- An alarm with RTC_ALM_WAKE has fired and the lanes have not yet heard of it; 1 bit; R503; reset 0 -/
  wakeDue : Bool := false
  /-- RTC_IE; 2 bits; R516; reset 0 -/
  ie : BitVec 2 := 0
  /-- RTC_BKUP words; 32 x 32 bits; R516; reset 0, kept -/
  bkup : Tbl Word := []
  deriving DecidableEq, Repr

/-- A host write waiting for its watchdog tick (R507). -/
inductive WdgWrite where
  | key (v : Word) | checkin (b : BitVec 16) | period (p : BitVec 16)
  deriving DecidableEq, Repr

/-- One watchdog (R504 to R517). -/
structure Wdg where
  /-- n, ticks since the period began; 16 bits; R506; reset 0 -/
  n : Nat := 0
  /-- P in force (WDG_PERIOD), once it differs from the image; 16 bits; R517; reset img -/
  per : Nat := 0
  /-- WDG_FIRST_NOW; 1 bit; R517; reset 0 -/
  first : Bool := false
  /-- WDG_PULSE; 1 bit; R517; reset 0 -/
  pulse : Bool := false
  /-- WDG_PAUSED; 1 bit; R517; reset 0 -/
  paused : Bool := false
  /-- WDG_CHECKIN; 16 bits; R517; reset 0 -/
  checkin : BitVec 16 := 0
  /-- WDG_PERIOD_NEW pending (WDG_PPEND); 16 bits; R517; reset none -/
  pnew : Option Nat := none
  /-- WDG_PREJ; 1 bit; R517; reset 0 -/
  prej : Bool := false
  /-- WDG_PREJ_CNT; 8 bits; R517; reset 0 -/
  prejCnt : Nat := 0
  /-- WDG_EXP_CNT; 16 bits; R517; reset 0 -/
  expCnt : Nat := 0
  /-- WDG_SVC_FLT; 8 bits; R517; reset 0 -/
  svcFlt : Nat := 0
  /-- Writes stamped and not yet judged, in order of arrival; list; R507; reset empty -/
  writes : List WdgWrite := []
  /-- Runs: ACTIVE or in its pulse; 1 bit; R514; reset 0 -/
  active : Bool := false
  deriving DecidableEq, Repr

/-- One record (R519, R521). -/
structure Record where
  /-- TYPE; 8 bits; R521; reset none -/
  ty : Nat
  /-- Written during power-fail; 1 bit; R519; reset none -/
  pf : Bool
  /-- SEQ, once written; 32 bits; R520; reset none -/
  seq : BitVec 32
  /-- Epoch at the cause; 48 bits; R519; reset none -/
  epoch : Nat
  /-- Real-time clock fraction at the cause; 16 bits; R519; reset none -/
  frac : BitVec 16
  /-- Real-time clock seconds at the cause; 48 bits; R519; reset none -/
  sec : BitVec 48
  /-- Payload of LEN bytes; R521; reset none -/
  payload : List Byte
  /-- Written as it stands but failed its read-back; 1 bit; R527; reset none -/
  bad : Bool
  deriving DecidableEq, Repr

/-- The recorder (R519 to R539). -/
structure RecSt where
  /-- SRAM buffer, oldest first; 32,768 bytes; R522; reset empty -/
  buf : List Record := []
  /-- MRAM ring, oldest first; 4,194,304 bytes; R519; reset empty -/
  ring : List Record := []
  /-- REC_SEQ_NEXT; 32 bits; R538; reset 0 -/
  seqNext : BitVec 32 := 0
  /-- REC_SEQ_UNREAD; 32 bits; R538; reset 0 -/
  unread : BitVec 32 := 0
  /-- REC_DROP; 32 bits; R538; reset 0 -/
  drop : Word := 0
  /-- REC_OVW; 32 bits; R538; reset 0 -/
  ovw : Word := 0
  /-- REC_WFAIL; 32 bits; R538; reset 0 -/
  wfail : Word := 0
  /-- REC_FLUSH_CNT; 32 bits; R538; reset 0 -/
  flushCnt : Word := 0
  /-- Records dropped and unread records overwritten since the previous LOSS record; 2 x 32 bits; R521; reset 0 -/
  lossDrop : Nat := 0
  /-- Unread records overwritten since the previous LOSS record; 32 bits; R521; reset 0 -/
  lossOvw : Nat := 0
  /-- A flush trigger waits (REC_FLUSHING while a flush is stopped by a freeze); 1 bit; R524; reset 0 -/
  trigger : Bool := false
  /-- A flush was stopped by a freeze; 1 bit; R534; reset 0 -/
  stopped : Bool := false
  /-- Time at which the last flush began, 4 ns; natural number; R524; reset 0 -/
  flushT : Nat := 0
  /-- Core cycle in which the last record entered the buffer; natural number; R522; reset none -/
  inCyc : Option Nat := none
  /-- Records at the newest end of the buffer that entered in that cycle; natural number; R522; reset 0 -/
  inNum : Nat := 0
  /-- Freeze in force: interface, or none for a remote reply, and the unread mark it protects; R534; reset none -/
  freeze : Option (Iface × BitVec 32) := none
  /-- REC_FRZ_IF; 1 bit; R538; reset 0 -/
  frzIf : Iface := .twb0
  /-- REC_FRZ_LOST; 1 bit; R538; reset 0 -/
  frzLost : Bool := false
  /-- REC_CLR_REJ; 1 bit; R538; reset 0 -/
  clrRej : Bool := false
  /-- REC_INCOMPLETE; 1 bit; R538; reset 0 -/
  incomplete : Bool := false
  /-- A record was cut short in the ring by entry to COLD: its SEQ; 32 bits; R529; reset none -/
  cut : Option (BitVec 32) := none
  /-- Ring pointer copies whose check code passes; 2 bits; R529; reset 0b11 -/
  ptrOk : BitVec 2 := 3
  /-- REC_REM_OFS; 32 bits; R538; reset 0 -/
  remOfs : Word := 0
  /-- Remote receive buffer, oldest byte first; 65,536 bytes; R536; reset empty -/
  remBuf : List Byte := []
  deriving DecidableEq, Repr

/-- The PMBus and SPI front ends (R540 to R564). -/
structure HostSt where
  /-- TWB0 interface; record; R125; reset 0 -/
  twb0 : HostIf := {}
  /-- SPI target interface; record; R125; reset 0 -/
  spi : HostIf := {}
  /-- TWB_PAGE; 8 bits; R564; reset 0 -/
  page : Nat := 0
  /-- TWB_WP; 8 bits; R564; reset 0 -/
  wp : Nat := 0
  /-- TWB_CML; 8 bits; R564; reset 0 -/
  cml : BitVec 8 := 0
  /-- Latched status bits per rail, STATUS_VOUT and STATUS_IOUT; 40 x 16 bits; R551; reset 0 -/
  latched : Tbl (BitVec 16) := []
  /-- TWB0_TMO_CNT; 8 bits; R564; reset 0 -/
  tmo : Nat := 0
  /-- TWB0_PEC_CNT; 8 bits; R564; reset 0 -/
  pec : Nat := 0
  /-- TWB_SPI_ERR; 8 bits; R564; reset 0 -/
  spiErr : Nat := 0
  /-- A write frame was rejected since the last status byte; 1 bit; R555; reset 0 -/
  spiRej : Bool := false
  /-- TWB_HN_FAIL; 8 bits; R564; reset 0 -/
  hnFail : Nat := 0
  /-- Retries made of the Host Notify in progress; 2 bits; R553; reset none -/
  hnRetry : Option Nat := none
  /-- Host Notify word last sent; 16 bits; R553; reset 0 -/
  hnWord : BitVec 16 := 0
  deriving DecidableEq, Repr

/-- A one-time memory word (R565). -/
structure OtpWord where
  /-- Data bits; 64 bits; R565; reset 0 -/
  data : BitVec 64 := 0
  /-- Check bits; 8 bits; R565; reset 0 -/
  chk : BitVec 8 := 0
  deriving DecidableEq, Repr

/-- One-time memory and its programmer (R565 to R576, R592). -/
structure Otp where
  /-- Words; 1,024 x 72 bits; R565; reset BLANK -/
  words : Tbl OtpWord := []
  /-- OTP_DATA_LO and OTP_DATA_HI; 64 bits; R592; reset 0 -/
  dataLo : Word := 0
  /-- OTP_DATA_HI; 32 bits; R592; reset 0 -/
  dataHi : Word := 0
  /-- Bits still to program, in order: word and bit 0 to 71 (OTP_BUSY while not empty); R573; reset empty -/
  bits : List (Nat × Nat) := []
  /-- Failed pulses of the bit in progress; 4 bits; R573; reset 0 -/
  pulses : Nat := 0
  /-- Sealing waits for the data bits of this word; 10 bits; R573; reset none -/
  sealNext : Option Nat := none
  /-- OTP_REJ; 1 bit; R592; reset 0 -/
  rej : Bool := false
  /-- OTP_FAIL; 1 bit; R592; reset 0 -/
  fail : Bool := false
  /-- OTP_VPP_OK; 1 bit; R592; reset 0 -/
  vpp : Bool := false
  /-- OTP_CORR_CNT; 16 bits; R592; reset 0 -/
  corr : Nat := 0
  /-- OTP_ERR_WORD; 10 bits; R592; reset 0 -/
  errWord : Nat := 0
  /-- The command belongs to an activation: class; 2 bits; R590; reset none -/
  activation : Option Nat := none
  /-- Patch entries that the activation has still to program; list of 64-bit words; R590; reset empty -/
  patchLeft : List (BitVec 64) := []
  deriving DecidableEq, Repr

/-- State of a staging session (R594). -/
inductive UpdState where
  | idle | loading | verifying | copying | ready | pending
  deriving DecidableEq, Repr

/-- A firmware bank in MRAM (R581, R582). -/
structure Bank where
  /-- Bytes held by the bank with a passing CRC-32C (header and payload); R582; reset empty -/
  bytes : List Byte := []
  /-- Security version; 9 bits; R581; reset 0 -/
  svn : Nat := 0
  deriving DecidableEq, Repr

/-- Updates and authorisation (R577 to R594). -/
structure Upd where
  /-- UPD_STATE; 3 bits; R594; reset IDLE, kept in MRAM as R588 says -/
  st : UpdState := .idle
  /-- UPD_OWNER_SRC; 2 bits; R594; reset 0 -/
  owner : Src := .twb0
  /-- UPD_BANK; 1 bit; R594; reset MRAM -/
  bank : Bool := false
  /-- Firmware banks 0 and 1; MRAM; R582; reset empty -/
  banks : Tbl Bank := []
  /-- No bank passed: the mask ROM code runs; 1 bit; R582; reset 1 -/
  romCode : Bool := true
  /-- UPD_LOCK; 1 bit; R594; reset MRAM -/
  lock : Bool := false
  /-- UPD_REJ; 1 bit; R594; reset 0 -/
  rej : Bool := false
  /-- UPD_REF_CAUSE; 4 bits; R594; reset 0 -/
  refCause : Nat := 0
  /-- Staging bank: blocks stored, by index; at most 512 blocks of 4,096 bytes; R584; reset empty -/
  blocks : Tbl (List Byte) := []
  /-- Block index selected; 9 bits; R584; reset 0 -/
  blkIdx : Nat := 0
  /-- Bytes of the block being loaded; R584; reset empty -/
  blkBuf : List Byte := []
  /-- Slot last written to UPD_REM_SLOT; 6 bits; R585; reset 0 -/
  remSlot : Nat := 0
  /-- UPD_REM_STAT: answering slot, code, refused, state, cause; R594; reset 0 -/
  remStat : Nat × Nat × Bool × Nat × Nat := (0, 0, false, 0, 0)
  /-- UPD_REM_CNT; 8 bits; R594; reset 0 -/
  remCnt : BitVec 8 := 0
  /-- CONFIG copies written: copy B, copy A; 2 bits; R587; reset 0 -/
  copied : BitVec 2 := 0
  deriving DecidableEq, Repr

/-- The MRAM state that outlasts a power cycle beside the blocks above (R47, R328). -/
structure Mram where
  /-- Epoch watermarks whose check code passes, two copies; 2 x 48 bits; R328; reset 0 -/
  wm0 : Option Nat := some 0
  /-- Second watermark; 48 bits; R328; reset 0 -/
  wm1 : Option Nat := some 0
  deriving DecidableEq, Repr

/-- The state of the block. -/
structure State where
  /-- Commands waiting, oldest first; the model's own queue; R85; reset empty -/
  pending : List Instr := []
  /-- Free values taken so far; the model's own counter, not the manual's; R578; reset 0 (DESIGN CHOICE, assumption 3) -/
  freeCtr : Nat := 0
  /-- Core cycles since the first committed epoch; natural number; R257; reset 0 -/
  cyc : Nat := 0
  /-- Core cycle of the next tick; natural number; R45; reset 0 -/
  tickAt : Nat := 0
  /-- Running configuration: register words by address; R609; reset empty (no image) -/
  img : Tbl Word := []
  /-- Configuration of the image that waits for adoption or a cold start: register words by address; R609; reset empty -/
  newImg : Tbl Word := []
  /-- Registers that only store what a host writes (RW), by address; R5; reset per register table -/
  rw : Tbl Word := [(0x6C, 0x0A000682)]
  /-- Identity, mode, starts; record; R24; reset as its fields -/
  glb : Glb := {}
  /-- Ledger; record; R27; reset as its fields -/
  led : Ledger := {}
  /-- Commit pipeline; record; R85; reset as its fields -/
  pipe : Pipe := {}
  /-- Committed bounds and limits by local index; 2,048 records; R75; reset img -/
  pol : Tbl Policy := []
  /-- Adaptive loops: shedding by rail, load line 64 + rail, derating 128 + target, tracking 256, observer 257; R81; reset not frozen -/
  loops : Tbl Loop := []
  /-- Rails; 40; R127; reset as its fields -/
  rails : Tbl Rail := []
  /-- Lathe state per rail; 32; R186; reset as its fields -/
  lathe : Tbl LoopSt := []
  /-- Trace buffers; 16; R207; reset IDLE -/
  traces : Tbl Trace := []
  /-- Phases; 48; R134; reset as its fields -/
  phases : Tbl Phase := []
  /-- Load switches; 32; R169; reset as its fields -/
  switches : Tbl Switch := []
  /-- Sequence groups; 16; R216; reset as its fields -/
  groups : Tbl Group := []
  /-- Inputs, power-fail, RSTO, snapshot; record; R245; reset as its fields -/
  seq : SeqSt := {}
  /-- Fault sources; 512; R256; reset clear -/
  srcs : Tbl Source := []
  /-- FAULT_N is held low by a SAFE qualification; 1 bit; R274; reset 0 -/
  faultN : Bool := false
  /-- Events; 256; R277; reset clear -/
  evts : Tbl Event := []
  /-- Lanes, clocks, supplies; record; R283; reset as its fields -/
  lane : Lane := {}
  /-- Lace and the tree; record; R349; reset as its fields -/
  lace : Lace := {}
  /-- Foreign devices; 32; R396; reset as its fields -/
  foreign : Tbl Foreign := []
  /-- VOUT_MODE of foreign items, by 16 d + i; 512 x 8 bits; R396; reset 0 -/
  vmodes : Tbl Nat := []
  /-- Measurement bank; record; R402; reset as its fields -/
  adc : Adc := {}
  /-- Thermal block; record; R424; reset as its fields -/
  thm : Thm := {}
  /-- Charger; record; R440; reset as its fields -/
  chg : Chg := {}
  /-- Gauge; record; R466; reset as its fields -/
  gau : Gau := {}
  /-- Real-time clock and backup domain; record; R490; reset as its fields -/
  rtc : Rtc := {}
  /-- Watchdogs; 8; R504; reset OFF -/
  wdgs : Tbl Wdg := []
  /-- WDG_TB_RC; 1 bit; R505; reset 0 -/
  tbRc : Bool := false
  /-- Recorder; record; R519; reset as its fields -/
  recd : RecSt := {}
  /-- Host front ends; record; R540; reset as its fields -/
  host : HostSt := {}
  /-- One-time memory; record; R565; reset as its fields -/
  otp : Otp := {}
  /-- Updates and authorisation; record; R577; reset as its fields -/
  upd : Upd := {}
  /-- Other MRAM content; record; R47; reset as its fields -/
  mram : Mram := {}
  /-- Core cycle, plus 1, in which each bit of a same-cycle rule was last set, by its number; natural numbers; R489, R503, R518, R539, R593; reset none -/
  setAt : Tbl Nat := []
  deriving DecidableEq, Repr

/-- The bits that stay set when a 1 is written to them in the core cycle that sets them (R489, R503, R518, R539, R593). -/
inductive Sticky where
  | gauge (k : Fin 4) | alarm (a : Fin 2) | period (w : Fin 8) | backup | freezeLost | clearRej | readLost (spi : Bool)
  | otpRej | otpFail | updRej | authFail (spi : Bool)
  deriving DecidableEq, Repr

/-- Number of such a bit. -/
def Sticky.num : Sticky → Nat
  | .gauge k => k | .alarm a => 4 + a | .period w => 6 + w | .backup => 14 | .freezeLost => 15 | .clearRej => 16
  | .readLost b => 17 + b.toNat | .otpRej => 19 | .otpFail => 20 | .updRej => 21 | .authFail b => 22 + b.toNat

/-- The block has no step that stops the machine: every abnormal condition of the manual is a fault source, a status bit
or a completion code, so no meaning raises this. It is kept for a checker that asks for a value of the type; safe. -/
inductive Fault where
  | unreachableStep
  deriving DecidableEq, Repr

/-- Why a command has no next state. -/
inductive Refusal where
  /-- Raised only by an arm of `exec` that has no meaning yet; safe. -/
  | notModelled (mnemonic : String)
  deriving DecidableEq, Repr

/-- The state at power-on: mode COLD, no image applied, one-time memory BLANK, MRAM and backup domain as their fields
say. Values that the manual does not give are named in assumptions 1 and 2. -/
def State.reset : State := {}

end Sys2Proof.Machine
end

