-- ==== Sys2Proof/Machine/Fields.lean ====
section
/-! DEFINITION. The fields of the register tables whose Reset column reads img: where each lies, its range and when it
binds (R603, R653), and how a field of the running configuration is read. -/

namespace Sys2Proof.Machine

/-- One field of the configuration image: register address of instance 0, distance of instances, bits (R603). -/
structure Fld where
  base : Nat
  stride : Nat
  hi : Nat
  lo : Nat
  signed : Bool := false
  deriving DecidableEq, Repr

/-- When a field binds (R653). -/
inductive Bind where
  | always
  | used (f : Fld) (div : Nat)
  | railPh
  | railSsc
  | anyRailPh
  | loopLl
  | anyDt
  | chgSol
  | eye
  | anyEye
  | anyGroup
  | item
  | fin
  deriving DecidableEq, Repr

/-- One row of the image field table: field, number of instances, range, binding. -/
structure FldRow where
  fld : Fld
  idx : List Nat
  min : Int
  max : Int
  bind : Bind
  deriving DecidableEq, Repr

namespace Img
/-- GLB_ROLE. -/
def glbRole : Fld := ⟨0x000010, 0, 7, 4, false⟩
/-- WAKE_AUTO_F. -/
def wakeAutoF : Fld := ⟨0x000034, 0, 7, 7, false⟩
/-- WAKE_MOTION. -/
def wakeMotion : Fld := ⟨0x000034, 0, 6, 6, false⟩
/-- WAKE_RTC. -/
def wakeRtc : Fld := ⟨0x000034, 0, 5, 5, false⟩
/-- WAKE_VIN. -/
def wakeVin : Fld := ⟨0x000034, 0, 4, 4, false⟩
/-- WAKE_FLT. -/
def wakeFlt : Fld := ⟨0x000034, 0, 3, 3, false⟩
/-- WAKE_GPIO. -/
def wakeGpio : Fld := ⟨0x000038, 0, 31, 0, false⟩
/-- EPOCH_US. -/
def epochUs : Fld := ⟨0x010020, 0, 9, 0, false⟩
/-- TWB_PEC_REQ. -/
def twbPecReq : Fld := ⟨0x100000, 0, 31, 31, false⟩
/-- TWB_HN_EN. -/
def twbHnEn : Fld := ⟨0x100000, 0, 30, 30, false⟩
/-- TWB_SPI_CRC_REQ. -/
def twbSpiCrcReq : Fld := ⟨0x100000, 0, 29, 29, false⟩
/-- TWB_SPI_DUMMY. -/
def twbSpiDummy : Fld := ⟨0x100000, 0, 28, 27, false⟩
/-- TWB_HINT_SEL. -/
def twbHintSel : Fld := ⟨0x100000, 0, 26, 25, false⟩
/-- TWB1_SPEED. -/
def twb1Speed : Fld := ⟨0x100000, 0, 24, 23, false⟩
/-- TWB_ADDR_BASE. -/
def twbAddrBase : Fld := ⟨0x100000, 0, 14, 8, false⟩
/-- CLK_RET. -/
def clkRet : Fld := ⟨0x070020, 0, 1, 1, false⟩
/-- REF_WIN. -/
def refWin : Fld := ⟨0x070030, 0, 3, 0, false⟩
/-- VIN_OV. -/
def vinOv : Fld := ⟨0x07004C, 0, 25, 16, false⟩
/-- CORR_THR. -/
def corrThr : Fld := ⟨0x070054, 0, 15, 0, false⟩
/-- VBK_THR. -/
def vbkThr : Fld := ⟨0x0D0084, 0, 8, 0, false⟩
/-- UPD_SOC_MIN. -/
def updSocMin : Fld := ⟨0x12001C, 0, 31, 24, false⟩
/-- UPD_AUTH_T. -/
def updAuthT : Fld := ⟨0x12001C, 0, 23, 8, false⟩
/-- REC_WM. -/
def recWm : Fld := ⟨0x0F0000, 0, 31, 24, false⟩
/-- REC_FLUSH_S. -/
def recFlushS : Fld := ⟨0x0F0000, 0, 23, 16, false⟩
/-- REC_FRZ_MAX. -/
def recFrzMax : Fld := ⟨0x0F0000, 0, 15, 0, false⟩
/-- RAIL_USED. -/
def railUsed : Fld := ⟨0x020000, 64, 31, 31, false⟩
/-- RAIL_PROT. -/
def railProt : Fld := ⟨0x020000, 64, 30, 30, false⟩
/-- RAIL_KIND. -/
def railKind : Fld := ⟨0x020000, 64, 29, 28, false⟩
/-- RAIL_NPH. -/
def railNph : Fld := ⟨0x020000, 64, 22, 18, false⟩
/-- RAIL_NSP. -/
def railNsp : Fld := ⟨0x020000, 64, 17, 16, false⟩
/-- RAIL_PH_MINRUN. -/
def railPhMinrun : Fld := ⟨0x020000, 64, 12, 8, false⟩
/-- RAIL_OV_ACT. -/
def railOvAct : Fld := ⟨0x020000, 64, 7, 7, false⟩
/-- RAIL_DIS. -/
def railDis : Fld := ⟨0x020000, 64, 6, 6, false⟩
/-- RAIL_IMB_PCT. -/
def railImbPct : Fld := ⟨0x020000, 64, 5, 0, false⟩
/-- RAIL_RAMP_T. -/
def railRampT : Fld := ⟨0x020004, 64, 31, 16, false⟩
/-- RAIL_DIS_TMAX. -/
def railDisTmax : Fld := ⟨0x020004, 64, 15, 0, false⟩
/-- RAIL_OV_PCT. -/
def railOvPct : Fld := ⟨0x020008, 64, 31, 24, false⟩
/-- RAIL_UV_PCT. -/
def railUvPct : Fld := ⟨0x020008, 64, 23, 16, false⟩
/-- RAIL_REG_HI. -/
def railRegHi : Fld := ⟨0x020008, 64, 15, 8, false⟩
/-- RAIL_REG_LO. -/
def railRegLo : Fld := ⟨0x020008, 64, 7, 0, false⟩
/-- RAIL_OV_ABS. -/
def railOvAbs : Fld := ⟨0x02000C, 64, 31, 16, false⟩
/-- RAIL_OV_DG. -/
def railOvDg : Fld := ⟨0x02000C, 64, 15, 8, false⟩
/-- RAIL_UV_DG. -/
def railUvDg : Fld := ⟨0x02000C, 64, 7, 0, false⟩
/-- RAIL_PH_ILIM. -/
def railPhIlim : Fld := ⟨0x020010, 64, 31, 16, false⟩
/-- RAIL_CL_PERSIST. -/
def railClPersist : Fld := ⟨0x020010, 64, 15, 8, false⟩
/-- RAIL_OFF_THR. -/
def railOffThr : Fld := ⟨0x020010, 64, 7, 0, false⟩
/-- RAIL_SHED_DN. -/
def railShedDn : Fld := ⟨0x020014, 64, 31, 16, false⟩
/-- RAIL_SHED_UP. -/
def railShedUp : Fld := ⟨0x020014, 64, 15, 0, false⟩
/-- RAIL_DWELL_DN. -/
def railDwellDn : Fld := ⟨0x020018, 64, 31, 16, false⟩
/-- RAIL_DWELL_UP. -/
def railDwellUp : Fld := ⟨0x020018, 64, 15, 0, false⟩
/-- RAIL_FSW_KHZ. -/
def railFswKhz : Fld := ⟨0x02001C, 64, 31, 16, false⟩
/-- RAIL_SSC_RATE. -/
def railSscRate : Fld := ⟨0x02001C, 64, 15, 10, false⟩
/-- RAIL_SSC_SPREAD. -/
def railSscSpread : Fld := ⟨0x02001C, 64, 9, 4, false⟩
/-- RAIL_SSC_MODE. -/
def railSscMode : Fld := ⟨0x02001C, 64, 1, 0, false⟩
/-- RAIL_ENV_VHI. -/
def railEnvVhi : Fld := ⟨0x020020, 64, 31, 16, false⟩
/-- RAIL_ENV_VLO. -/
def railEnvVlo : Fld := ⟨0x020020, 64, 15, 0, false⟩
/-- RAIL_ENV_PHMAX. -/
def railEnvPhmax : Fld := ⟨0x02002C, 64, 28, 24, false⟩
/-- RAIL_ENV_PHMIN. -/
def railEnvPhmin : Fld := ⟨0x02002C, 64, 20, 16, false⟩
/-- RAIL_AVG_K. -/
def railAvgK : Fld := ⟨0x020038, 64, 3, 0, false⟩
/-- PH_USED. -/
def phUsed : Fld := ⟨0x021000, 16, 31, 31, false⟩
/-- PH_SPARE. -/
def phSpare : Fld := ⟨0x021000, 16, 30, 30, false⟩
/-- PH_RAIL. -/
def phRail : Fld := ⟨0x021000, 16, 29, 24, false⟩
/-- PH_TRIM. -/
def phTrim : Fld := ⟨0x021000, 16, 23, 16, true⟩
/-- PH_IMON_OFS. -/
def phImonOfs : Fld := ⟨0x021000, 16, 15, 8, false⟩
/-- LS_USED. -/
def lsUsed : Fld := ⟨0x022000, 32, 31, 31, false⟩
/-- LS_NET48. -/
def lsNet48 : Fld := ⟨0x022000, 32, 30, 30, false⟩
/-- LS_INRUSH_MODE. -/
def lsInrushMode : Fld := ⟨0x022000, 32, 29, 28, false⟩
/-- LS_SHUNT. -/
def lsShunt : Fld := ⟨0x022000, 32, 23, 16, false⟩
/-- LS_GATE_UA. -/
def lsGateUa : Fld := ⟨0x022000, 32, 15, 8, false⟩
/-- LS_INRUSH_MS. -/
def lsInrushMs : Fld := ⟨0x022000, 32, 7, 0, false⟩
/-- LS_ICONT. -/
def lsIcont : Fld := ⟨0x022004, 32, 31, 16, false⟩
/-- LS_IINRUSH. -/
def lsIinrush : Fld := ⟨0x022004, 32, 15, 0, false⟩
/-- LS_I2T_K. -/
def lsI2tK : Fld := ⟨0x022008, 32, 31, 0, false⟩
/-- LS_ISHORT. -/
def lsIshort : Fld := ⟨0x02200C, 32, 31, 16, false⟩
/-- LS_I2T_WARN. -/
def lsI2tWarn : Fld := ⟨0x02200C, 32, 15, 8, false⟩
/-- LS_ENV_IHI. -/
def lsEnvIhi : Fld := ⟨0x022010, 32, 31, 16, false⟩
/-- LS_ENV_ILO. -/
def lsEnvIlo : Fld := ⟨0x022010, 32, 15, 0, false⟩
/-- RAIL_SHED_W. -/
def railShedW : Fld := ⟨0x023004, 0, 31, 16, false⟩
/-- RAIL_SHED_K. -/
def railShedK : Fld := ⟨0x023004, 0, 7, 0, false⟩
/-- LOOP_DIV. -/
def loopDiv : Fld := ⟨0x030000, 256, 31, 25, false⟩
/-- LOOP_DEC. -/
def loopDec : Fld := ⟨0x030000, 256, 24, 22, false⟩
/-- LOOP_NSOS. -/
def loopNsos : Fld := ⟨0x030000, 256, 21, 19, false⟩
/-- LOOP_AW. -/
def loopAw : Fld := ⟨0x030000, 256, 18, 17, false⟩
/-- LOOP_NNORM. -/
def loopNnorm : Fld := ⟨0x030000, 256, 16, 16, false⟩
/-- LOOP_FF1_SRC. -/
def loopFf1Src : Fld := ⟨0x030000, 256, 15, 14, false⟩
/-- LOOP_BT_N. -/
def loopBtN : Fld := ⟨0x030000, 256, 7, 0, false⟩
/-- LOOP_IFS. -/
def loopIfs : Fld := ⟨0x030004, 256, 31, 16, false⟩
/-- LOOP_FF1_CH. -/
def loopFf1Ch : Fld := ⟨0x030004, 256, 15, 8, false⟩
/-- LOOP_SLEW. -/
def loopSlew : Fld := ⟨0x030008, 256, 12, 0, false⟩
/-- LOOP_LL_UOHM. -/
def loopLlUohm : Fld := ⟨0x03000C, 256, 31, 16, false⟩
/-- LOOP_LL_DB. -/
def loopLlDb : Fld := ⟨0x03000C, 256, 15, 8, false⟩
/-- LOOP_LL_K. -/
def loopLlK : Fld := ⟨0x03000C, 256, 7, 0, false⟩
/-- LOOP_COEF. -/
def loopCoef : Fld := ⟨0x030010, 4, 31, 0, true⟩
/-- LOOP_SH. -/
def loopSh : Fld := ⟨0x030080, 4, 29, 0, false⟩
/-- LOOP_LL_W. -/
def loopLlW : Fld := ⟨0x030094, 256, 15, 0, false⟩
/-- LOOP_I0. -/
def loopI0 : Fld := ⟨0x030098, 256, 31, 0, true⟩
/-- LOOP_IMIN. -/
def loopImin : Fld := ⟨0x0300A0, 256, 31, 0, true⟩
/-- LOOP_IMAX. -/
def loopImax : Fld := ⟨0x0300A4, 256, 31, 0, true⟩
/-- LOOP_WMIN. -/
def loopWmin : Fld := ⟨0x0300A8, 256, 31, 0, true⟩
/-- LOOP_WMAX. -/
def loopWmax : Fld := ⟨0x0300AC, 256, 31, 0, true⟩
/-- SEQ_USED. -/
def seqUsed : Fld := ⟨0x040000, 32, 31, 31, false⟩
/-- SEQ_AUTO. -/
def seqAuto : Fld := ⟨0x040000, 32, 30, 30, false⟩
/-- SEQ_SAFE. -/
def seqSafe : Fld := ⟨0x040000, 32, 29, 28, false⟩
/-- SEQ_IL_ACT. -/
def seqIlAct : Fld := ⟨0x040000, 32, 27, 26, false⟩
/-- SEQ_RETRY_N. -/
def seqRetryN : Fld := ⟨0x040000, 32, 25, 23, false⟩
/-- SEQ_DN_BASE. -/
def seqDnBase : Fld := ⟨0x040000, 32, 21, 11, false⟩
/-- SEQ_UP_BASE. -/
def seqUpBase : Fld := ⟨0x040000, 32, 10, 0, false⟩
/-- SEQ_PG_TO. -/
def seqPgTo : Fld := ⟨0x040400, 4, 31, 16, false⟩
/-- SEQ_PG_DG. -/
def seqPgDg : Fld := ⟨0x040400, 4, 7, 0, false⟩
/-- SEQ_IN_THR. -/
def seqInThr : Fld := ⟨0x040500, 0, 24, 16, false⟩
/-- SEQ_IN_HYS. -/
def seqInHys : Fld := ⟨0x040500, 0, 15, 8, false⟩
/-- SEQ_IN_DG. -/
def seqInDg : Fld := ⟨0x040504, 0, 12, 0, false⟩
/-- SEQ_KA_THR. -/
def seqKaThr : Fld := ⟨0x040508, 0, 24, 16, false⟩
/-- SEQ_HOLD_THR. -/
def seqHoldThr : Fld := ⟨0x040508, 0, 8, 0, false⟩
/-- SEQ_RESUME_MAX. -/
def seqResumeMax : Fld := ⟨0x04050C, 0, 13, 0, false⟩
/-- SEQ_EDGE_CNT. -/
def seqEdgeCnt : Fld := ⟨0x04051C, 0, 9, 0, false⟩
/-- SEQ_EDGE_B. -/
def seqEdgeB : Fld := ⟨0x041000, 4, 26, 16, false⟩
/-- SEQ_EDGE_A. -/
def seqEdgeA : Fld := ⟨0x041000, 4, 10, 0, false⟩
/-- SEQ_PROG. -/
def seqProg : Fld := ⟨0x042000, 4, 31, 0, false⟩
/-- FLT_USED. -/
def fltUsed : Fld := ⟨0x050000, 4, 31, 31, false⟩
/-- FLT_SEV. -/
def fltSev : Fld := ⟨0x050000, 4, 30, 29, false⟩
/-- FLT_LATCH. -/
def fltLatch : Fld := ⟨0x050000, 4, 28, 28, false⟩
/-- FLT_ILOSS. -/
def fltIloss : Fld := ⟨0x050000, 4, 27, 27, false⟩
/-- FLT_FORCE_EN. -/
def fltForceEn : Fld := ⟨0x050000, 4, 26, 26, false⟩
/-- FLT_ROUTE. -/
def fltRoute : Fld := ⟨0x050000, 4, 25, 23, false⟩
/-- FLT_GRP_V. -/
def fltGrpV : Fld := ⟨0x050000, 4, 22, 22, false⟩
/-- FLT_GRP. -/
def fltGrp : Fld := ⟨0x050000, 4, 21, 18, false⟩
/-- FLT_CNT_N. -/
def fltCntN : Fld := ⟨0x050000, 4, 17, 14, false⟩
/-- FLT_CNT_W. -/
def fltCntW : Fld := ⟨0x050000, 4, 13, 0, false⟩
/-- FLT_PERSIST. -/
def fltPersist : Fld := ⟨0x050800, 4, 15, 0, false⟩
/-- FLT_DUPSEV. -/
def fltDupsev : Fld := ⟨0x052000, 0, 3, 2, false⟩
/-- FLT_FAULTN_MODE. -/
def fltFaultnMode : Fld := ⟨0x052000, 0, 0, 0, false⟩
/-- FLT_FIN_POL. -/
def fltFinPol : Fld := ⟨0x052040, 4, 8, 8, false⟩
/-- FLT_FIN_DG. -/
def fltFinDg : Fld := ⟨0x052040, 4, 7, 0, false⟩
/-- EVT_USED. -/
def evtUsed : Fld := ⟨0x060000, 4, 31, 31, false⟩
/-- EVT_ROUTE. -/
def evtRoute : Fld := ⟨0x060000, 4, 30, 28, false⟩
/-- EVT_ESC. -/
def evtEsc : Fld := ⟨0x060000, 4, 4, 0, false⟩
/-- ADC_CAL_INT. -/
def adcCalInt : Fld := ⟨0x090000, 0, 31, 24, false⟩
/-- ADC_PARK_INT. -/
def adcParkInt : Fld := ⟨0x090000, 0, 23, 16, false⟩
/-- ADC_RQ_MODE. -/
def adcRqMode : Fld := ⟨0x090000, 0, 0, 0, false⟩
/-- ADC_SEQ_USED. -/
def adcSeqUsed : Fld := ⟨0x090100, 16, 31, 31, false⟩
/-- ADC_SEQ_SYNC. -/
def adcSeqSync : Fld := ⟨0x090100, 16, 30, 30, false⟩
/-- ADC_SEQ_PARK. -/
def adcSeqPark : Fld := ⟨0x090100, 16, 29, 29, false⟩
/-- ADC_SEQ_THM. -/
def adcSeqThm : Fld := ⟨0x090100, 16, 28, 28, false⟩
/-- ADC_SEQ_FIRST. -/
def adcSeqFirst : Fld := ⟨0x090100, 16, 25, 16, false⟩
/-- ADC_MTR_USED. -/
def adcMtrUsed : Fld := ⟨0x090300, 32, 31, 31, false⟩
/-- ADC_MTR_PARK. -/
def adcMtrPark : Fld := ⟨0x090300, 32, 30, 30, false⟩
/-- ADC_MTR_OFS. -/
def adcMtrOfs : Fld := ⟨0x09030C, 32, 31, 0, true⟩
/-- ADC_MTR_GAIN. -/
def adcMtrGain : Fld := ⟨0x090310, 32, 31, 0, false⟩
/-- ADC_CH_USED. -/
def adcChUsed : Fld := ⟨0x091000, 32, 31, 31, false⟩
/-- ADC_CH_TYPE. -/
def adcChType : Fld := ⟨0x091000, 32, 30, 28, false⟩
/-- ADC_CH_QFMT. -/
def adcChQfmt : Fld := ⟨0x091000, 32, 27, 26, false⟩
/-- ADC_CH_PUB. -/
def adcChPub : Fld := ⟨0x091000, 32, 25, 25, false⟩
/-- ADC_CH_SRC. -/
def adcChSrc : Fld := ⟨0x091000, 32, 15, 8, false⟩
/-- ADC_CH_STALE. -/
def adcChStale : Fld := ⟨0x091000, 32, 7, 0, false⟩
/-- ADC_CH_GAIN. -/
def adcChGain : Fld := ⟨0x091004, 32, 31, 0, true⟩
/-- ADC_CH_OFS. -/
def adcChOfs : Fld := ⟨0x091008, 32, 31, 16, true⟩
/-- ADC_CH_SHIFT. -/
def adcChShift : Fld := ⟨0x091008, 32, 4, 0, false⟩
/-- ADC_CH_PDB. -/
def adcChPdb : Fld := ⟨0x09100C, 32, 31, 16, false⟩
/-- ADC_CH_PMAX. -/
def adcChPmax : Fld := ⟨0x09100C, 32, 15, 8, false⟩
/-- ADC_SEQ_ENTRY. -/
def adcSeqEntry : Fld := ⟨0x094000, 4, 31, 0, false⟩
/-- THM_BAND_STALE. -/
def thmBandStale : Fld := ⟨0x0A0000, 0, 31, 29, false⟩
/-- THM_NTC15_PACK. -/
def thmNtc15Pack : Fld := ⟨0x0A0000, 0, 28, 28, false⟩
/-- THM_BAND_Z. -/
def thmBandZ : Fld := ⟨0x0A0000, 0, 27, 22, false⟩
/-- THM_ROR_WIN. -/
def thmRorWin : Fld := ⟨0x0A0000, 0, 15, 8, false⟩
/-- THM_DER_STEP. -/
def thmDerStep : Fld := ⟨0x0A0000, 0, 7, 0, false⟩
/-- THM_DER_W. -/
def thmDerW : Fld := ⟨0x0A0008, 0, 31, 16, false⟩
/-- THM_DER_K. -/
def thmDerK : Fld := ⟨0x0A0008, 0, 7, 0, false⟩
/-- THM_BAND_HYS. -/
def thmBandHys : Fld := ⟨0x0A000C, 0, 7, 0, false⟩
/-- THM_BAND_T. -/
def thmBandT : Fld := ⟨0x0A0010, 4, 15, 0, true⟩
/-- THM_NTC_R25. -/
def thmNtcR25 : Fld := ⟨0x0A0300, 4, 31, 16, false⟩
/-- THM_NTC_BETA. -/
def thmNtcBeta : Fld := ⟨0x0A0300, 4, 15, 0, false⟩
/-- THM_Z_USED. -/
def thmZUsed : Fld := ⟨0x0A0400, 32, 31, 31, false⟩
/-- THM_Z_AGG. -/
def thmZAgg : Fld := ⟨0x0A0400, 32, 30, 30, false⟩
/-- THM_Z_STALE_ACT. -/
def thmZStaleAct : Fld := ⟨0x0A0400, 32, 29, 29, false⟩
/-- THM_Z_DG. -/
def thmZDg : Fld := ⟨0x0A0400, 32, 23, 16, false⟩
/-- THM_Z_ROR. -/
def thmZRor : Fld := ⟨0x0A0400, 32, 15, 0, false⟩
/-- THM_Z_NMIN. -/
def thmZNmin : Fld := ⟨0x0A0404, 32, 31, 30, false⟩
/-- THM_Z_MEM. -/
def thmZMem : Fld := ⟨0x0A0404, 32, 27, 0, false⟩
/-- THM_Z_TDER. -/
def thmZTder : Fld := ⟨0x0A0408, 32, 31, 16, true⟩
/-- THM_Z_TLIM. -/
def thmZTlim : Fld := ⟨0x0A0408, 32, 15, 0, true⟩
/-- THM_Z_TREL. -/
def thmZTrel : Fld := ⟨0x0A040C, 32, 31, 16, true⟩
/-- THM_Z_HYS. -/
def thmZHys : Fld := ⟨0x0A040C, 32, 15, 8, false⟩
/-- THM_Z_FASTM. -/
def thmZFastm : Fld := ⟨0x0A040C, 32, 7, 0, false⟩
/-- THM_DT_USED. -/
def thmDtUsed : Fld := ⟨0x0A1000, 8, 31, 31, false⟩
/-- THM_DT_ZONE. -/
def thmDtZone : Fld := ⟨0x0A1000, 8, 30, 25, false⟩
/-- THM_DT_EP. -/
def thmDtEp : Fld := ⟨0x0A1000, 8, 10, 0, false⟩
/-- THM_DT_INOM. -/
def thmDtInom : Fld := ⟨0x0A1004, 8, 31, 16, false⟩
/-- THM_DT_FLOOR. -/
def thmDtFloor : Fld := ⟨0x0A1004, 8, 15, 8, false⟩
/-- CHG_USED. -/
def chgUsed : Fld := ⟨0x0B0000, 0, 31, 31, false⟩
/-- CHG_AUTO. -/
def chgAuto : Fld := ⟨0x0B0000, 0, 30, 30, false⟩
/-- CHG_IPACK_SRC. -/
def chgIpackSrc : Fld := ⟨0x0B0000, 0, 29, 29, false⟩
/-- CHG_SOL_EN. -/
def chgSolEn : Fld := ⟨0x0B0000, 0, 28, 28, false⟩
/-- CHG_NET_EN. -/
def chgNetEn : Fld := ⟨0x0B0000, 0, 27, 27, false⟩
/-- CHG_CELLS. -/
def chgCells : Fld := ⟨0x0B0000, 0, 26, 23, false⟩
/-- CHG_SHUNT_M. -/
def chgShuntM : Fld := ⟨0x0B0000, 0, 22, 16, false⟩
/-- CHG_PUB_DB. -/
def chgPubDb : Fld := ⟨0x0B0000, 0, 15, 0, false⟩
/-- CHG_VCV. -/
def chgVcv : Fld := ⟨0x0B0004, 0, 31, 16, false⟩
/-- CHG_VRCH. -/
def chgVrch : Fld := ⟨0x0B0004, 0, 15, 8, false⟩
/-- CHG_TERM_T. -/
def chgTermT : Fld := ⟨0x0B0004, 0, 7, 0, false⟩
/-- CHG_VPRE. -/
def chgVpre : Fld := ⟨0x0B0008, 0, 31, 16, false⟩
/-- CHG_VTRK. -/
def chgVtrk : Fld := ⟨0x0B0008, 0, 15, 0, false⟩
/-- CHG_VOV. -/
def chgVov : Fld := ⟨0x0B000C, 0, 31, 16, false⟩
/-- CHG_VUV. -/
def chgVuv : Fld := ⟨0x0B000C, 0, 15, 0, false⟩
/-- CHG_ICC. -/
def chgIcc : Fld := ⟨0x0B0010, 0, 31, 16, false⟩
/-- CHG_IPRE. -/
def chgIpre : Fld := ⟨0x0B0010, 0, 15, 0, false⟩
/-- CHG_ITRK. -/
def chgItrk : Fld := ⟨0x0B0014, 0, 31, 16, false⟩
/-- CHG_ITERM. -/
def chgIterm : Fld := ⟨0x0B0014, 0, 15, 0, false⟩
/-- CHG_TMR_MIN. -/
def chgTmrMin : Fld := ⟨0x0B0018, 0, 31, 16, false⟩
/-- CHG_POT. -/
def chgPot : Fld := ⟨0x0B0018, 0, 15, 0, true⟩
/-- CHG_VSUP. -/
def chgVsup : Fld := ⟨0x0B001C, 0, 31, 16, false⟩
/-- CHG_ISUP. -/
def chgIsup : Fld := ⟨0x0B001C, 0, 15, 0, false⟩
/-- CHG_SOL_MIN. -/
def chgSolMin : Fld := ⟨0x0B0020, 0, 31, 24, false⟩
/-- CHG_NET_MIN. -/
def chgNetMin : Fld := ⟨0x0B0020, 0, 23, 16, false⟩
/-- CHG_NET_VREG. -/
def chgNetVreg : Fld := ⟨0x0B0020, 0, 15, 8, false⟩
/-- CHG_SOL_VFLOOR. -/
def chgSolVfloor : Fld := ⟨0x0B0020, 0, 7, 0, false⟩
/-- CHG_SOL_OV. -/
def chgSolOv : Fld := ⟨0x0B0024, 0, 31, 24, false⟩
/-- CHG_NET_OV. -/
def chgNetOv : Fld := ⟨0x0B0024, 0, 23, 16, false⟩
/-- CHG_SOL_PMIN. -/
def chgSolPmin : Fld := ⟨0x0B0024, 0, 15, 0, false⟩
/-- CHG_TRK_T. -/
def chgTrkT : Fld := ⟨0x0B0028, 0, 31, 24, false⟩
/-- CHG_TRK_STEP. -/
def chgTrkStep : Fld := ⟨0x0B0028, 0, 23, 16, false⟩
/-- CHG_TRK_K. -/
def chgTrkK : Fld := ⟨0x0B0028, 0, 15, 8, false⟩
/-- CHG_VSTEP. -/
def chgVstep : Fld := ⟨0x0B0028, 0, 7, 0, false⟩
/-- CHG_TRK_W. -/
def chgTrkW : Fld := ⟨0x0B002C, 0, 31, 16, false⟩
/-- CHG_REV_VMIN. -/
def chgRevVmin : Fld := ⟨0x0B002C, 0, 15, 0, false⟩
/-- CHG_PNTC_R25. -/
def chgPntcR25 : Fld := ⟨0x0B0030, 0, 31, 16, false⟩
/-- CHG_PNTC_BETA. -/
def chgPntcBeta : Fld := ⟨0x0B0030, 0, 15, 0, false⟩
/-- CHG_B_EN. -/
def chgBEn : Fld := ⟨0x0B0040, 4, 31, 31, false⟩
/-- CHG_B_ICC. -/
def chgBIcc : Fld := ⟨0x0B0040, 4, 30, 16, false⟩
/-- CHG_B_VDROP. -/
def chgBVdrop : Fld := ⟨0x0B0040, 4, 15, 8, false⟩
/-- CHG_ENV_IHI. -/
def chgEnvIhi : Fld := ⟨0x0B0070, 0, 31, 16, false⟩
/-- CHG_ENV_ILO. -/
def chgEnvIlo : Fld := ⟨0x0B0070, 0, 15, 0, false⟩
/-- GAU_USED. -/
def gauUsed : Fld := ⟨0x0C0000, 0, 31, 31, false⟩
/-- GAU_V_CH. -/
def gauVCh : Fld := ⟨0x0C0000, 0, 30, 23, false⟩
/-- GAU_CONV. -/
def gauConv : Fld := ⟨0x0C0000, 0, 22, 16, false⟩
/-- GAU_PUB_DB. -/
def gauPubDb : Fld := ⟨0x0C0000, 0, 15, 8, false⟩
/-- GAU_ID_TOL. -/
def gauIdTol : Fld := ⟨0x0C0000, 0, 7, 0, false⟩
/-- GAU_QDES. -/
def gauQdes : Fld := ⟨0x0C0004, 0, 31, 16, false⟩
/-- GAU_V_EMPTY. -/
def gauVEmpty : Fld := ⟨0x0C0008, 0, 31, 16, false⟩
/-- GAU_V_MARGIN. -/
def gauVMargin : Fld := ⟨0x0C0008, 0, 15, 8, false⟩
/-- GAU_WARN_LO. -/
def gauWarnLo : Fld := ⟨0x0C000C, 0, 31, 24, false⟩
/-- GAU_WARN_HYS. -/
def gauWarnHys : Fld := ⟨0x0C000C, 0, 23, 16, false⟩
/-- GAU_REST_I. -/
def gauRestI : Fld := ⟨0x0C000C, 0, 15, 0, false⟩
/-- GAU_REST_T. -/
def gauRestT : Fld := ⟨0x0C0010, 0, 31, 16, false⟩
/-- GAU_HIB_I. -/
def gauHibI : Fld := ⟨0x0C0010, 0, 15, 0, false⟩
/-- GAU_HIB_T. -/
def gauHibT : Fld := ⟨0x0C0014, 0, 31, 16, false⟩
/-- GAU_WAKE_I. -/
def gauWakeI : Fld := ⟨0x0C0014, 0, 15, 0, false⟩
/-- GAU_OBS_K. -/
def gauObsK : Fld := ⟨0x0C0018, 0, 31, 16, false⟩
/-- GAU_OBS_MAX. -/
def gauObsMax : Fld := ⟨0x0C0018, 0, 15, 8, false⟩
/-- GAU_K. -/
def gauK : Fld := ⟨0x0C0018, 0, 7, 0, false⟩
/-- GAU_W. -/
def gauW : Fld := ⟨0x0C001C, 0, 31, 16, false⟩
/-- GAU_U_RATE. -/
def gauURate : Fld := ⟨0x0C001C, 0, 15, 8, false⟩
/-- GAU_U_QPCT. -/
def gauUQpct : Fld := ⟨0x0C001C, 0, 7, 0, false⟩
/-- GAU_LRN_BANDS. -/
def gauLrnBands : Fld := ⟨0x0C0020, 0, 31, 24, false⟩
/-- GAU_LRN_LIM. -/
def gauLrnLim : Fld := ⟨0x0C0020, 0, 23, 16, false⟩
/-- GAU_LRN_W. -/
def gauLrnW : Fld := ⟨0x0C0020, 0, 15, 12, false⟩
/-- GAU_LRN_QIN. -/
def gauLrnQin : Fld := ⟨0x0C0020, 0, 11, 8, false⟩
/-- GAU_LRN_TMAX. -/
def gauLrnTmax : Fld := ⟨0x0C0020, 0, 7, 0, false⟩
/-- GAU_OCV_W. -/
def gauOcvW : Fld := ⟨0x0C0200, 4, 31, 0, false⟩
/-- GAU_R0. -/
def gauR0 : Fld := ⟨0x0C022C, 64, 31, 16, false⟩
/-- GAU_R1. -/
def gauR1 : Fld := ⟨0x0C022C, 64, 15, 0, false⟩
/-- GAU_R2. -/
def gauR2 : Fld := ⟨0x0C0230, 64, 31, 16, false⟩
/-- GAU_TAU1. -/
def gauTau1 : Fld := ⟨0x0C0230, 64, 15, 0, false⟩
/-- GAU_TAU2. -/
def gauTau2 : Fld := ⟨0x0C0234, 64, 31, 16, false⟩
/-- WDG_USED. -/
def wdgUsed : Fld := ⟨0x0E0000, 64, 31, 31, false⟩
/-- WDG_AUTO. -/
def wdgAuto : Fld := ⟨0x0E0000, 64, 30, 30, false⟩
/-- WDG_PARK_RUN. -/
def wdgParkRun : Fld := ⟨0x0E0000, 64, 29, 29, false⟩
/-- WDG_GRP_V. -/
def wdgGrpV : Fld := ⟨0x0E0000, 64, 28, 28, false⟩
/-- WDG_GRP. -/
def wdgGrp : Fld := ⟨0x0E0000, 64, 27, 24, false⟩
/-- WDG_RST_LEN. -/
def wdgRstLen : Fld := ⟨0x0E0000, 64, 23, 16, false⟩
/-- WDG_RSTO_MASK. -/
def wdgRstoMask : Fld := ⟨0x0E0000, 64, 15, 0, false⟩
/-- WDG_FIRST. -/
def wdgFirst : Fld := ⟨0x0E0004, 64, 31, 16, false⟩
/-- WDG_PERIOD. -/
def wdgPeriod : Fld := ⟨0x0E0004, 64, 15, 0, false⟩
/-- WDG_PMAX. -/
def wdgPmax : Fld := ⟨0x0E000C, 64, 31, 16, false⟩
/-- WDG_PMIN. -/
def wdgPmin : Fld := ⟨0x0E000C, 64, 15, 0, false⟩
/-- WDG_TASK_EN. -/
def wdgTaskEn : Fld := ⟨0x0E0010, 64, 15, 0, false⟩
/-- LACE_LAG_MAX. -/
def laceLagMax : Fld := ⟨0x080000, 0, 31, 24, false⟩
/-- LACE_LAG_WARN. -/
def laceLagWarn : Fld := ⟨0x080000, 0, 23, 16, false⟩
/-- LACE_DDIV. -/
def laceDdiv : Fld := ⟨0x080000, 0, 15, 13, false⟩
/-- LACE_TAKE_EP. -/
def laceTakeEp : Fld := ⟨0x080000, 0, 12, 8, false⟩
/-- LACE_EN. -/
def laceEn : Fld := ⟨0x080000, 0, 7, 4, false⟩
/-- LACE_TAKE_EN. -/
def laceTakeEn : Fld := ⟨0x080000, 0, 3, 3, false⟩
/-- LACE_HOLD_S. -/
def laceHoldS : Fld := ⟨0x080004, 0, 31, 16, false⟩
/-- LACE_OP_TMO. -/
def laceOpTmo : Fld := ⟨0x080004, 0, 9, 0, false⟩
/-- LACE_EN_SOCMIN. -/
def laceEnSocmin : Fld := ⟨0x080010, 0, 31, 24, false⟩
/-- LACE_COVER_V. -/
def laceCoverV : Fld := ⟨0x080010, 0, 23, 16, false⟩
/-- LACE_CRC_THR. -/
def laceCrcThr : Fld := ⟨0x080118, 32, 31, 16, false⟩
/-- LACE_CRED_TO. -/
def laceCredTo : Fld := ⟨0x080118, 32, 15, 0, false⟩
/-- LACE_SLOT_ID_LO. -/
def laceSlotIdLo : Fld := ⟨0x080400, 16, 31, 0, false⟩
/-- LACE_SLOT_ID_HI. -/
def laceSlotIdHi : Fld := ⟨0x080404, 16, 31, 0, false⟩
/-- LACE_SLOT_RSV. -/
def laceSlotRsv : Fld := ⟨0x080408, 16, 31, 31, false⟩
/-- LACE_FOLD_V. -/
def laceFoldV : Fld := ⟨0x082000, 4, 31, 31, false⟩
/-- LACE_FOLD_EP. -/
def laceFoldEp : Fld := ⟨0x082000, 4, 16, 0, false⟩
/-- TWB1_D_USED. -/
def twb1DUsed : Fld := ⟨0x100200, 16, 31, 31, false⟩
/-- TWB1_D_PEC. -/
def twb1DPec : Fld := ⟨0x100200, 16, 30, 30, false⟩
/-- TWB1_D_ADDR. -/
def twb1DAddr : Fld := ⟨0x100200, 16, 22, 16, false⟩
/-- TWB1_D_POLL. -/
def twb1DPoll : Fld := ⟨0x100204, 16, 31, 16, false⟩
/-- TWB1_D_LAT. -/
def twb1DLat : Fld := ⟨0x100204, 16, 15, 0, false⟩
/-- TWB1_I_TYPE. -/
def twb1IType : Fld := ⟨0x100400, 4, 10, 8, false⟩
/-- TWB1_I_PAGE. -/
def twb1IPage : Fld := ⟨0x100400, 4, 7, 0, false⟩
end Img

open Img in
/-- Rows 0 and on of the image field table. -/
def imgRows1 : List FldRow :=
  [⟨glbRole, (List.range 1), 0, 4, .always⟩,
   ⟨wakeAutoF, (List.range 1), 0, 1, .always⟩,
   ⟨wakeMotion, (List.range 1), 0, 1, .always⟩,
   ⟨wakeRtc, (List.range 1), 0, 1, .always⟩,
   ⟨wakeVin, (List.range 1), 0, 1, .always⟩,
   ⟨wakeFlt, (List.range 1), 0, 1, .always⟩,
   ⟨wakeGpio, (List.range 1), 0, 4294967295, .always⟩,
   ⟨epochUs, (List.range 1), 10, 1000, .always⟩,
   ⟨twbPecReq, (List.range 1), 0, 1, .always⟩,
   ⟨twbHnEn, (List.range 1), 0, 1, .always⟩,
   ⟨twbSpiCrcReq, (List.range 1), 0, 1, .always⟩,
   ⟨twbSpiDummy, (List.range 1), 0, 3, .always⟩,
   ⟨twbHintSel, (List.range 1), 0, 2, .always⟩,
   ⟨twb1Speed, (List.range 1), 0, 2, .always⟩,
   ⟨twbAddrBase, (List.range 1), 0, 127, .always⟩,
   ⟨clkRet, (List.range 1), 0, 1, .always⟩,
   ⟨refWin, (List.range 1), 2, 10, .always⟩,
   ⟨vinOv, (List.range 1), 300, 700, .always⟩,
   ⟨corrThr, (List.range 1), 0, 65535, .always⟩,
   ⟨vbkThr, (List.range 1), 170, 300, .always⟩,
   ⟨updSocMin, (List.range 1), 0, 255, .always⟩,
   ⟨updAuthT, (List.range 1), 1, 65535, .always⟩,
   ⟨recWm, (List.range 1), 1, 32, .always⟩,
   ⟨recFlushS, (List.range 1), 1, 255, .always⟩,
   ⟨recFrzMax, (List.range 1), 1, 3600, .always⟩,
   ⟨railUsed, (List.range 40), 0, 1, .always⟩,
   ⟨railProt, (List.range 40), 0, 1, .used railUsed 1⟩,
   ⟨railKind, (List.range 40), 0, 3, .used railUsed 1⟩,
   ⟨railNph, (List.range 40), 1, 16, .used railUsed 1⟩,
   ⟨railNsp, (List.range 40), 0, 2, .used railUsed 1⟩,
   ⟨railPhMinrun, (List.range 40), 0, 31, .used railUsed 1⟩,
   ⟨railOvAct, (List.range 40), 0, 1, .used railUsed 1⟩,
   ⟨railDis, (List.range 40), 0, 1, .used railUsed 1⟩,
   ⟨railImbPct, (List.range 40), 0, 63, .used railUsed 1⟩,
   ⟨railRampT, (List.range 40), 10, 5000, .used railUsed 1⟩,
   ⟨railDisTmax, (List.range 40), 1, 65535, .used railUsed 1⟩,
   ⟨railOvPct, (List.range 40), 0, 255, .used railUsed 1⟩,
   ⟨railUvPct, (List.range 40), 0, 255, .used railUsed 1⟩,
   ⟨railRegHi, (List.range 40), 0, 255, .used railUsed 1⟩,
   ⟨railRegLo, (List.range 40), 0, 255, .used railUsed 1⟩]

open Img in
/-- Rows 40 and on of the image field table. -/
def imgRows2 : List FldRow :=
  [⟨railOvAbs, (List.range 40), 0, 65535, .used railUsed 1⟩,
   ⟨railOvDg, (List.range 40), 1, 80, .used railUsed 1⟩,
   ⟨railUvDg, (List.range 40), 1, 255, .used railUsed 1⟩,
   ⟨railPhIlim, (List.range 40), 0, 65535, .used railUsed 1⟩,
   ⟨railClPersist, (List.range 40), 1, 255, .used railUsed 1⟩,
   ⟨railOffThr, (List.range 40), 1, 255, .used railUsed 1⟩,
   ⟨railShedDn, (List.range 40), 0, 65535, .railPh⟩,
   ⟨railShedUp, (List.range 40), 0, 65535, .railPh⟩,
   ⟨railDwellDn, (List.range 40), 1, 65535, .railPh⟩,
   ⟨railDwellUp, (List.range 40), 1, 65535, .railPh⟩,
   ⟨railFswKhz, (List.range 40), 0, 65535, .used railUsed 1⟩,
   ⟨railSscRate, (List.range 40), 1, 50, .railSsc⟩,
   ⟨railSscSpread, (List.range 40), 0, 20, .railSsc⟩,
   ⟨railSscMode, (List.range 40), 0, 2, .used railUsed 1⟩,
   ⟨railEnvVhi, (List.range 40), 0, 65535, .used railUsed 1⟩,
   ⟨railEnvVlo, (List.range 40), 0, 65535, .used railUsed 1⟩,
   ⟨railEnvPhmax, (List.range 40), 0, 31, .railPh⟩,
   ⟨railEnvPhmin, (List.range 40), 0, 31, .railPh⟩,
   ⟨railAvgK, (List.range 40), 0, 15, .used railUsed 1⟩,
   ⟨phUsed, (List.range 48), 0, 1, .always⟩,
   ⟨phSpare, (List.range 48), 0, 1, .used phUsed 1⟩,
   ⟨phRail, (List.range 48), 0, 23, .used phUsed 1⟩,
   ⟨phTrim, (List.range 48), -128, 127, .used phUsed 1⟩,
   ⟨phImonOfs, (List.range 48), 0, 255, .used phUsed 1⟩,
   ⟨lsUsed, (List.range 32), 0, 1, .always⟩,
   ⟨lsNet48, (List.range 32), 0, 1, .used lsUsed 1⟩,
   ⟨lsInrushMode, (List.range 32), 0, 1, .used lsUsed 1⟩,
   ⟨lsShunt, (List.range 32), 1, 255, .used lsUsed 1⟩,
   ⟨lsGateUa, (List.range 32), 10, 100, .used lsUsed 1⟩,
   ⟨lsInrushMs, (List.range 32), 1, 255, .used lsUsed 1⟩,
   ⟨lsIcont, (List.range 32), 0, 65535, .used lsUsed 1⟩,
   ⟨lsIinrush, (List.range 32), 0, 65535, .used lsUsed 1⟩,
   ⟨lsI2tK, (List.range 32), 0, 4294967295, .used lsUsed 1⟩,
   ⟨lsIshort, (List.range 32), 0, 65535, .used lsUsed 1⟩,
   ⟨lsI2tWarn, (List.range 32), 10, 100, .used lsUsed 1⟩,
   ⟨lsEnvIhi, (List.range 32), 0, 65535, .used lsUsed 1⟩,
   ⟨lsEnvIlo, (List.range 32), 0, 65535, .used lsUsed 1⟩,
   ⟨railShedW, (List.range 1), 1, 65535, .anyRailPh⟩,
   ⟨railShedK, (List.range 1), 1, 255, .anyRailPh⟩,
   ⟨loopDiv, (List.range 32), 1, 80, .used railUsed 1⟩]

open Img in
/-- Rows 80 and on of the image field table. -/
def imgRows3 : List FldRow :=
  [⟨loopDec, (List.range 32), 0, 7, .used railUsed 1⟩,
   ⟨loopNsos, (List.range 32), 0, 4, .used railUsed 1⟩,
   ⟨loopAw, (List.range 32), 0, 2, .used railUsed 1⟩,
   ⟨loopNnorm, (List.range 32), 0, 1, .used railUsed 1⟩,
   ⟨loopFf1Src, (List.range 32), 0, 2, .used railUsed 1⟩,
   ⟨loopBtN, (List.range 32), 1, 255, .used railUsed 1⟩,
   ⟨loopIfs, (List.range 32), 0, 65535, .used railUsed 1⟩,
   ⟨loopFf1Ch, (List.range 32), 0, 255, .used railUsed 1⟩,
   ⟨loopSlew, (List.range 32), 1, 5000, .used railUsed 1⟩,
   ⟨loopLlUohm, (List.range 32), 0, 65535, .used railUsed 1⟩,
   ⟨loopLlDb, (List.range 32), 1, 255, .loopLl⟩,
   ⟨loopLlK, (List.range 32), 1, 255, .loopLl⟩,
   ⟨loopCoef, ((List.range 32).flatMap fun k => (List.range 25).map (fun j => 64 * k + j)), -2147483648, 2147483647, .used railUsed 64⟩,
   ⟨loopSh, ((List.range 32).flatMap fun k => (List.range 5).map (fun j => 64 * k + j)), 0, 1073741823, .used railUsed 64⟩,
   ⟨loopLlW, (List.range 32), 1, 65535, .loopLl⟩,
   ⟨loopI0, (List.range 32), -2147483648, 2147483647, .used railUsed 1⟩,
   ⟨loopImin, (List.range 32), -2147483648, 2147483647, .used railUsed 1⟩,
   ⟨loopImax, (List.range 32), -2147483648, 2147483647, .used railUsed 1⟩,
   ⟨loopWmin, (List.range 32), -2147483648, 2147483647, .used railUsed 1⟩,
   ⟨loopWmax, (List.range 32), -2147483648, 2147483647, .used railUsed 1⟩,
   ⟨seqUsed, (List.range 16), 0, 1, .always⟩,
   ⟨seqAuto, (List.range 16), 0, 1, .used seqUsed 1⟩,
   ⟨seqSafe, (List.range 16), 0, 2, .used seqUsed 1⟩,
   ⟨seqIlAct, (List.range 16), 0, 2, .used seqUsed 1⟩,
   ⟨seqRetryN, (List.range 16), 0, 7, .used seqUsed 1⟩,
   ⟨seqDnBase, (List.range 16), 0, 2047, .used seqUsed 1⟩,
   ⟨seqUpBase, (List.range 16), 0, 2047, .used seqUsed 1⟩,
   ⟨seqPgTo, (List.range 40), 1, 65535, .used railUsed 1⟩,
   ⟨seqPgDg, (List.range 40), 1, 255, .used railUsed 1⟩,
   ⟨seqInThr, (List.range 1), 60, 400, .anyGroup⟩,
   ⟨seqInHys, (List.range 1), 1, 50, .anyGroup⟩,
   ⟨seqInDg, (List.range 1), 10, 5000, .anyGroup⟩,
   ⟨seqKaThr, (List.range 1), 0, 511, .always⟩,
   ⟨seqHoldThr, (List.range 1), 0, 511, .always⟩,
   ⟨seqResumeMax, (List.range 1), 10, 10000, .anyGroup⟩,
   ⟨seqEdgeCnt, (List.range 1), 0, 512, .always⟩,
   ⟨seqEdgeB, (List.range 512), 0, 2047, .always⟩,
   ⟨seqEdgeA, (List.range 512), 0, 2047, .always⟩,
   ⟨seqProg, (List.range 2048), 0, 4294967295, .always⟩,
   ⟨fltUsed, (List.range 512), 0, 1, .always⟩]

open Img in
/-- Rows 120 and on of the image field table. -/
def imgRows4 : List FldRow :=
  [⟨fltSev, (List.range 512), 0, 3, .used fltUsed 1⟩,
   ⟨fltLatch, (List.range 512), 0, 1, .used fltUsed 1⟩,
   ⟨fltIloss, (List.range 512), 0, 1, .used fltUsed 1⟩,
   ⟨fltForceEn, (List.range 512), 0, 1, .used fltUsed 1⟩,
   ⟨fltRoute, (List.range 512), 0, 7, .used fltUsed 1⟩,
   ⟨fltGrpV, (List.range 512), 0, 1, .used fltUsed 1⟩,
   ⟨fltGrp, (List.range 512), 0, 15, .used fltUsed 1⟩,
   ⟨fltCntN, (List.range 512), 1, 15, .used fltUsed 1⟩,
   ⟨fltCntW, (List.range 512), 1, 16383, .used fltUsed 1⟩,
   ⟨fltPersist, (List.range 512), 0, 65535, .used fltUsed 1⟩,
   ⟨fltDupsev, (List.range 1), 0, 3, .always⟩,
   ⟨fltFaultnMode, (List.range 1), 0, 1, .always⟩,
   ⟨fltFinPol, (List.range 16), 0, 1, .always⟩,
   ⟨fltFinDg, (List.range 16), 1, 255, .fin⟩,
   ⟨evtUsed, (List.range 256), 0, 1, .always⟩,
   ⟨evtRoute, (List.range 256), 0, 7, .used evtUsed 1⟩,
   ⟨evtEsc, (List.range 256), 0, 16, .used evtUsed 1⟩,
   ⟨adcCalInt, (List.range 1), 1, 255, .always⟩,
   ⟨adcParkInt, (List.range 1), 1, 255, .always⟩,
   ⟨adcRqMode, (List.range 1), 0, 1, .always⟩,
   ⟨adcSeqUsed, (List.range 8), 0, 1, .always⟩,
   ⟨adcSeqSync, (List.range 8), 0, 1, .used adcSeqUsed 1⟩,
   ⟨adcSeqPark, (List.range 8), 0, 1, .used adcSeqUsed 1⟩,
   ⟨adcSeqThm, (List.range 8), 0, 1, .used adcSeqUsed 1⟩,
   ⟨adcSeqFirst, (List.range 8), 0, 1023, .used adcSeqUsed 1⟩,
   ⟨adcMtrUsed, (List.range 2), 0, 1, .always⟩,
   ⟨adcMtrPark, (List.range 2), 0, 1, .used adcMtrUsed 1⟩,
   ⟨adcMtrOfs, (List.range 2), -2147483648, 2147483647, .used adcMtrUsed 1⟩,
   ⟨adcMtrGain, (List.range 2), 0, 4294967295, .used adcMtrUsed 1⟩,
   ⟨adcChUsed, (List.range 256), 0, 1, .always⟩,
   ⟨adcChType, (List.range 256), 0, 4, .used adcChUsed 1⟩,
   ⟨adcChQfmt, (List.range 256), 0, 2, .used adcChUsed 1⟩,
   ⟨adcChPub, (List.range 256), 0, 1, .used adcChUsed 1⟩,
   ⟨adcChSrc, (List.range 256), 0, 255, .used adcChUsed 1⟩,
   ⟨adcChStale, (List.range 256), 1, 255, .used adcChUsed 1⟩,
   ⟨adcChGain, (List.range 256), -2147483648, 2147483647, .used adcChUsed 1⟩,
   ⟨adcChOfs, (List.range 256), -32768, 32767, .used adcChUsed 1⟩,
   ⟨adcChShift, (List.range 256), 0, 31, .used adcChUsed 1⟩,
   ⟨adcChPdb, (List.range 256), 0, 65535, .used adcChUsed 1⟩,
   ⟨adcChPmax, (List.range 256), 1, 255, .used adcChUsed 1⟩]

open Img in
/-- Rows 160 and on of the image field table. -/
def imgRows5 : List FldRow :=
  [⟨adcSeqEntry, (List.range 1024), 0, 4294967295, .always⟩,
   ⟨thmBandStale, (List.range 1), 0, 7, .always⟩,
   ⟨thmNtc15Pack, (List.range 1), 0, 1, .always⟩,
   ⟨thmBandZ, (List.range 1), 0, 47, .always⟩,
   ⟨thmRorWin, (List.range 1), 1, 100, .always⟩,
   ⟨thmDerStep, (List.range 1), 1, 50, .anyDt⟩,
   ⟨thmDerW, (List.range 1), 1, 65535, .anyDt⟩,
   ⟨thmDerK, (List.range 1), 1, 255, .anyDt⟩,
   ⟨thmBandHys, (List.range 1), 0, 255, .always⟩,
   ⟨thmBandT, (List.range 7), -32768, 32767, .always⟩,
   ⟨thmNtcR25, (List.range 16), 0, 65535, .always⟩,
   ⟨thmNtcBeta, (List.range 16), 0, 65535, .always⟩,
   ⟨thmZUsed, (List.range 48), 0, 1, .always⟩,
   ⟨thmZAgg, (List.range 48), 0, 1, .used thmZUsed 1⟩,
   ⟨thmZStaleAct, (List.range 48), 0, 1, .used thmZUsed 1⟩,
   ⟨thmZDg, (List.range 48), 1, 255, .used thmZUsed 1⟩,
   ⟨thmZRor, (List.range 48), 0, 65535, .used thmZUsed 1⟩,
   ⟨thmZNmin, (List.range 48), 0, 3, .used thmZUsed 1⟩,
   ⟨thmZMem, (List.range 48), 0, 268435455, .used thmZUsed 1⟩,
   ⟨thmZTder, (List.range 48), -32768, 32767, .used thmZUsed 1⟩,
   ⟨thmZTlim, (List.range 48), -32768, 32767, .used thmZUsed 1⟩,
   ⟨thmZTrel, (List.range 48), -32768, 32767, .used thmZUsed 1⟩,
   ⟨thmZHys, (List.range 48), 0, 255, .used thmZUsed 1⟩,
   ⟨thmZFastm, (List.range 48), 0, 255, .used thmZUsed 1⟩,
   ⟨thmDtUsed, (List.range 128), 0, 1, .always⟩,
   ⟨thmDtZone, (List.range 128), 0, 47, .used thmDtUsed 1⟩,
   ⟨thmDtEp, (List.range 128), 0, 2047, .used thmDtUsed 1⟩,
   ⟨thmDtInom, (List.range 128), 0, 65535, .used thmDtUsed 1⟩,
   ⟨thmDtFloor, (List.range 128), 0, 100, .used thmDtUsed 1⟩,
   ⟨chgUsed, (List.range 1), 0, 1, .always⟩,
   ⟨chgAuto, (List.range 1), 0, 1, .used chgUsed 1⟩,
   ⟨chgIpackSrc, (List.range 1), 0, 1, .used chgUsed 1⟩,
   ⟨chgSolEn, (List.range 1), 0, 1, .used chgUsed 1⟩,
   ⟨chgNetEn, (List.range 1), 0, 1, .used chgUsed 1⟩,
   ⟨chgCells, (List.range 1), 2, 8, .used chgUsed 1⟩,
   ⟨chgShuntM, (List.range 1), 1, 127, .used chgUsed 1⟩,
   ⟨chgPubDb, (List.range 1), 0, 65535, .used chgUsed 1⟩,
   ⟨chgVcv, (List.range 1), 3400, 4400, .used chgUsed 1⟩,
   ⟨chgVrch, (List.range 1), 1, 40, .used chgUsed 1⟩,
   ⟨chgTermT, (List.range 1), 1, 255, .used chgUsed 1⟩]

open Img in
/-- Rows 200 and on of the image field table. -/
def imgRows6 : List FldRow :=
  [⟨chgVpre, (List.range 1), 0, 65535, .used chgUsed 1⟩,
   ⟨chgVtrk, (List.range 1), 0, 65535, .used chgUsed 1⟩,
   ⟨chgVov, (List.range 1), 0, 65535, .used chgUsed 1⟩,
   ⟨chgVuv, (List.range 1), 0, 65535, .used chgUsed 1⟩,
   ⟨chgIcc, (List.range 1), 0, 65535, .used chgUsed 1⟩,
   ⟨chgIpre, (List.range 1), 0, 65535, .used chgUsed 1⟩,
   ⟨chgItrk, (List.range 1), 0, 65535, .used chgUsed 1⟩,
   ⟨chgIterm, (List.range 1), 0, 65535, .used chgUsed 1⟩,
   ⟨chgTmrMin, (List.range 1), 10, 1440, .used chgUsed 1⟩,
   ⟨chgPot, (List.range 1), -32768, 32767, .used chgUsed 1⟩,
   ⟨chgVsup, (List.range 1), 0, 65535, .used chgUsed 1⟩,
   ⟨chgIsup, (List.range 1), 0, 65535, .used chgUsed 1⟩,
   ⟨chgSolMin, (List.range 1), 32, 240, .used chgUsed 1⟩,
   ⟨chgNetMin, (List.range 1), 32, 240, .used chgUsed 1⟩,
   ⟨chgNetVreg, (List.range 1), 32, 240, .used chgUsed 1⟩,
   ⟨chgSolVfloor, (List.range 1), 32, 240, .used chgUsed 1⟩,
   ⟨chgSolOv, (List.range 1), 33, 255, .used chgUsed 1⟩,
   ⟨chgNetOv, (List.range 1), 33, 255, .used chgUsed 1⟩,
   ⟨chgSolPmin, (List.range 1), 0, 65535, .used chgUsed 1⟩,
   ⟨chgTrkT, (List.range 1), 1, 255, .chgSol⟩,
   ⟨chgTrkStep, (List.range 1), 1, 255, .chgSol⟩,
   ⟨chgTrkK, (List.range 1), 1, 255, .chgSol⟩,
   ⟨chgVstep, (List.range 1), 0, 255, .used chgUsed 1⟩,
   ⟨chgTrkW, (List.range 1), 1, 65535, .chgSol⟩,
   ⟨chgRevVmin, (List.range 1), 0, 65535, .used chgUsed 1⟩,
   ⟨chgPntcR25, (List.range 1), 0, 65535, .used chgUsed 1⟩,
   ⟨chgPntcBeta, (List.range 1), 0, 65535, .used chgUsed 1⟩,
   ⟨chgBEn, (List.range 8), 0, 1, .used chgUsed 1⟩,
   ⟨chgBIcc, (List.range 8), 0, 32767, .used chgUsed 1⟩,
   ⟨chgBVdrop, (List.range 8), 0, 255, .used chgUsed 1⟩,
   ⟨chgEnvIhi, (List.range 1), 0, 65535, .used chgUsed 1⟩,
   ⟨chgEnvIlo, (List.range 1), 0, 65535, .used chgUsed 1⟩,
   ⟨gauUsed, (List.range 1), 0, 1, .always⟩,
   ⟨gauVCh, (List.range 1), 0, 255, .used gauUsed 1⟩,
   ⟨gauConv, (List.range 1), 1, 127, .used gauUsed 1⟩,
   ⟨gauPubDb, (List.range 1), 1, 255, .used gauUsed 1⟩,
   ⟨gauIdTol, (List.range 1), 1, 50, .used gauUsed 1⟩,
   ⟨gauQdes, (List.range 1), 0, 65535, .used gauUsed 1⟩,
   ⟨gauVEmpty, (List.range 1), 0, 65535, .used gauUsed 1⟩,
   ⟨gauVMargin, (List.range 1), 1, 255, .used gauUsed 1⟩]

open Img in
/-- Rows 240 and on of the image field table. -/
def imgRows7 : List FldRow :=
  [⟨gauWarnLo, (List.range 1), 0, 255, .used gauUsed 1⟩,
   ⟨gauWarnHys, (List.range 1), 1, 255, .used gauUsed 1⟩,
   ⟨gauRestI, (List.range 1), 0, 65535, .used gauUsed 1⟩,
   ⟨gauRestT, (List.range 1), 60, 65535, .used gauUsed 1⟩,
   ⟨gauHibI, (List.range 1), 0, 65535, .used gauUsed 1⟩,
   ⟨gauHibT, (List.range 1), 1, 65535, .used gauUsed 1⟩,
   ⟨gauWakeI, (List.range 1), 0, 65535, .used gauUsed 1⟩,
   ⟨gauObsK, (List.range 1), 0, 65535, .used gauUsed 1⟩,
   ⟨gauObsMax, (List.range 1), 0, 255, .used gauUsed 1⟩,
   ⟨gauK, (List.range 1), 1, 255, .used gauUsed 1⟩,
   ⟨gauW, (List.range 1), 1, 65535, .used gauUsed 1⟩,
   ⟨gauURate, (List.range 1), 0, 255, .used gauUsed 1⟩,
   ⟨gauUQpct, (List.range 1), 0, 255, .used gauUsed 1⟩,
   ⟨gauLrnBands, (List.range 1), 0, 255, .used gauUsed 1⟩,
   ⟨gauLrnLim, (List.range 1), 1, 50, .used gauUsed 1⟩,
   ⟨gauLrnW, (List.range 1), 1, 8, .used gauUsed 1⟩,
   ⟨gauLrnQin, (List.range 1), 1, 15, .used gauUsed 1⟩,
   ⟨gauLrnTmax, (List.range 1), 1, 255, .used gauUsed 1⟩,
   ⟨gauOcvW, ((List.range 8).flatMap fun k => (List.range 11).map (fun j => 16 * k + j)), 0, 4294967295, .used gauUsed 16⟩,
   ⟨gauR0, (List.range 8), 0, 65535, .used gauUsed 1⟩,
   ⟨gauR1, (List.range 8), 0, 65535, .used gauUsed 1⟩,
   ⟨gauR2, (List.range 8), 0, 65535, .used gauUsed 1⟩,
   ⟨gauTau1, (List.range 8), 0, 65535, .used gauUsed 1⟩,
   ⟨gauTau2, (List.range 8), 0, 65535, .used gauUsed 1⟩,
   ⟨wdgUsed, (List.range 8), 0, 1, .always⟩,
   ⟨wdgAuto, (List.range 8), 0, 1, .used wdgUsed 1⟩,
   ⟨wdgParkRun, (List.range 8), 0, 1, .used wdgUsed 1⟩,
   ⟨wdgGrpV, (List.range 8), 0, 1, .used wdgUsed 1⟩,
   ⟨wdgGrp, (List.range 8), 0, 15, .used wdgUsed 1⟩,
   ⟨wdgRstLen, (List.range 8), 1, 255, .used wdgUsed 1⟩,
   ⟨wdgRstoMask, (List.range 8), 0, 65535, .used wdgUsed 1⟩,
   ⟨wdgFirst, (List.range 8), 10, 65535, .used wdgUsed 1⟩,
   ⟨wdgPeriod, (List.range 8), 0, 65535, .used wdgUsed 1⟩,
   ⟨wdgPmax, (List.range 8), 0, 65535, .used wdgUsed 1⟩,
   ⟨wdgPmin, (List.range 8), 10, 65535, .used wdgUsed 1⟩,
   ⟨wdgTaskEn, (List.range 8), 0, 65535, .used wdgUsed 1⟩,
   ⟨laceLagMax, (List.range 1), 3, 255, .anyEye⟩,
   ⟨laceLagWarn, (List.range 1), 0, 255, .anyEye⟩,
   ⟨laceDdiv, (List.range 1), 0, 7, .anyEye⟩,
   ⟨laceTakeEp, (List.range 1), 3, 31, .anyEye⟩]

open Img in
/-- Rows 280 and on of the image field table. -/
def imgRows8 : List FldRow :=
  [⟨laceEn, (List.range 1), 0, 15, .always⟩,
   ⟨laceTakeEn, (List.range 1), 0, 1, .anyEye⟩,
   ⟨laceHoldS, (List.range 1), 0, 65535, .anyEye⟩,
   ⟨laceOpTmo, (List.range 1), 1, 1000, .anyEye⟩,
   ⟨laceEnSocmin, (List.range 1), 0, 255, .anyEye⟩,
   ⟨laceCoverV, (List.range 1), 80, 200, .anyEye⟩,
   ⟨laceCrcThr, (List.range 4), 0, 65535, .eye⟩,
   ⟨laceCredTo, (List.range 4), 0, 65535, .eye⟩,
   ⟨laceSlotIdLo, ((List.range 63).map (· + 1)), 0, 4294967295, .used laceSlotRsv 1⟩,
   ⟨laceSlotIdHi, ((List.range 63).map (· + 1)), 0, 4294967295, .used laceSlotRsv 1⟩,
   ⟨laceSlotRsv, ((List.range 63).map (· + 1)), 0, 1, .always⟩,
   ⟨laceFoldV, (List.range 2048), 0, 1, .always⟩,
   ⟨laceFoldEp, (List.range 2048), 0, 131071, .used laceFoldV 1⟩,
   ⟨twb1DUsed, (List.range 32), 0, 1, .always⟩,
   ⟨twb1DPec, (List.range 32), 0, 1, .used twb1DUsed 1⟩,
   ⟨twb1DAddr, (List.range 32), 0, 127, .used twb1DUsed 1⟩,
   ⟨twb1DPoll, (List.range 32), 1, 1000, .used twb1DUsed 1⟩,
   ⟨twb1DLat, (List.range 32), 1, 1000, .used twb1DUsed 1⟩,
   ⟨twb1IType, (List.range 512), 0, 5, .item⟩,
   ⟨twb1IPage, (List.range 512), 0, 255, .item⟩]

/-- The image field table (R603, R653). -/
def imgRows : List FldRow :=
  imgRows1 ++ imgRows2 ++ imgRows3 ++ imgRows4 ++ imgRows5 ++ imgRows6 ++ imgRows7 ++ imgRows8

/-- The register address of instance i of a field. -/
def Fld.addr (f : Fld) (i : Nat) : Nat := f.base + f.stride * i

/-- A field of a configuration: its bits, as the register layout places them (R603); words not listed are 0 (R605). -/
def Fld.read (f : Fld) (img : Tbl Word) (i : Nat) : Nat := bitsOf (img.get 0 (f.addr i)).toNat f.hi f.lo

/-- A field of the running configuration, unsigned (R609). -/
def State.im (s : State) (f : Fld) (i : Nat := 0) : Nat := f.read s.img i

/-- A field of the running configuration, in two's complement. -/
def State.ims (s : State) (f : Fld) (i : Nat := 0) : Int := toSigned (f.hi + 1 - f.lo) (s.im f i)

/-- A one-bit field of the running configuration. -/
def State.imb (s : State) (f : Fld) (i : Nat := 0) : Bool := s.im f i == 1

end Sys2Proof.Machine
end

