-- ==== Sys2Proof/Machine/Operands.lean ====
section
/-! DEFINITION. How endpoints are named and typed (R27, R37), how requests, completions and entries are laid out in
words (R31, R86, R112), and how program words are read (R221, R222). -/

namespace Sys2Proof.Machine

/-- What a local index names (R27). -/
inductive EpK where
  | rail (r : Nat) | phase (p : Nat) | switch (n : Nat) | chan (c : Nat) | source (n : Nat) | event (e : Nat)
  | watchdog (w : Nat) | zone (z : Nat) | charger | gauge | rtc | group (g : Nat) | motion | foreign (k : Nat)
  | nothing
  deriving DecidableEq, Repr

/-- The map of local indices (R27). -/
def kindOf (li : Nat) : EpK :=
  if li < 0x28 then .rail li
  else if 0x40 ≤ li ∧ li < 0x70 then .phase (li - 0x40)
  else if 0x80 ≤ li ∧ li < 0xA0 then .switch (li - 0x80)
  else if 0x100 ≤ li ∧ li < 0x200 then .chan (li - 0x100)
  else if 0x200 ≤ li ∧ li < 0x400 then .source (li - 0x200)
  else if 0x400 ≤ li ∧ li < 0x500 then .event (li - 0x400)
  else if 0x500 ≤ li ∧ li < 0x508 then .watchdog (li - 0x500)
  else if 0x510 ≤ li ∧ li < 0x540 then .zone (li - 0x510)
  else if li = 0x540 then .charger
  else if li = 0x541 then .gauge
  else if li = 0x542 then .rtc
  else if 0x550 ≤ li ∧ li < 0x560 then .group (li - 0x550)
  else if li = 0x560 then .motion
  else if 0x600 ≤ li ∧ li < 0x800 then .foreign (li - 0x600)
  else .nothing

/-- Local index of phase p (R27). -/
def liPhase (p : Nat) : Nat := 0x40 + p
/-- Local index of load switch n (R27). -/
def liSwitch (n : Nat) : Nat := 0x80 + n
/-- Local index of measured channel c (R27). -/
def liChan (c : Nat) : Nat := 0x100 + c
/-- Local index of fault source n (R27). -/
def liSource (n : Nat) : Nat := 0x200 + n
/-- Local index of event e (R27). -/
def liEvent (e : Nat) : Nat := 0x400 + e
/-- Local index of watchdog w (R27). -/
def liWdg (w : Nat) : Nat := 0x500 + w
/-- Local index of thermal zone z (R27). -/
def liZone (z : Nat) : Nat := 0x510 + z
/-- Local index of the charger (R27). -/
def liCharger : Nat := 0x540
/-- Local index of the gauge (R27). -/
def liGauge : Nat := 0x541
/-- Local index of the real-time clock (R27). -/
def liRtc : Nat := 0x542
/-- Local index of sequence group g (R27). -/
def liGroup (g : Nat) : Nat := 0x550 + g
/-- Local index of the motion input (R27). -/
def liMotion : Nat := 0x560
/-- Local index of foreign item k = 16 d + i (R27). -/
def liForeign (k : Nat) : Nat := 0x600 + k

/-- Slot of an endpoint ID (R27: bits 16 to 11). -/
def slotOf (id : Nat) : Nat := id / 2048 % 64
/-- Local index of an endpoint ID (R27: bits 10 to 0). -/
def liOf (id : Nat) : Nat := id % 2048
/-- Endpoint ID of a slot and a local index (R27). -/
def epId (slot li : Nat) : Nat := slot * 2048 + li

/-- Sources that R279 marks reserved. -/
def reservedSource (n : Nat) : Bool :=
  (282 ≤ n && n ≤ 319) || (339 ≤ n && n ≤ 351) || (367 ≤ n && n ≤ 383) || (406 ≤ n && n ≤ 415) ||
  (426 ≤ n && n ≤ 431) || (436 ≤ n && n ≤ 447) || (477 ≤ n && n ≤ 479)

/-- Events that R280 marks reserved. -/
def reservedEvent (e : Nat) : Bool := e == 211 || 252 ≤ e

/-- A fault source is enabled (R28, R279). -/
def State.srcUsed (s : State) (n : Nat) : Bool := s.imb Img.fltUsed n && !reservedSource n && n < 512

/-- An event is enabled (R28, R280). -/
def State.evtUsed (s : State) (e : Nat) : Bool := s.imb Img.evtUsed e && !reservedEvent e && e < 256

/-- Whether the image enables what a local index names (R28). The real-time clock and the motion input have no enable
and always hold an entry (DEDUCED, assumption 11). -/
def State.enabled (s : State) (li : Nat) : Bool :=
  match kindOf li with
  | .rail r => s.imb Img.railUsed r
  | .phase p => s.imb Img.phUsed p
  | .switch n => s.imb Img.lsUsed n
  | .chan c => s.imb Img.adcChUsed c
  | .source n => s.srcUsed n
  | .event e => s.evtUsed e
  | .watchdog w => s.imb Img.wdgUsed w
  | .zone z => s.imb Img.thmZUsed z
  | .charger => s.imb Img.chgUsed
  | .gauge => s.imb Img.gauUsed
  | .rtc => true
  | .group g => s.imb Img.seqUsed g
  | .motion => true
  | .foreign k => s.imb Img.twb1DUsed (k / 16) && s.im Img.twb1IType k != 0
  | .nothing => false

/-- Endpoint type of a local index (R37). -/
def State.typeOf (s : State) (li : Nat) : Nat :=
  match kindOf li with
  | .rail r => if r < 24 then 1 else if r < 32 then 2 else 3
  | .phase _ => 4
  | .switch _ => 5
  | .chan c => 6 + s.im Img.adcChType c
  | .source _ => 0x0B
  | .event _ => 0x0C
  | .watchdog _ => 0x0D
  | .zone _ => 0x0E
  | .charger => 0x0F
  | .gauge => 0x10
  | .rtc => 0x11
  | .group _ => 0x12
  | .motion => 0x13
  | .foreign k => 0x13 + s.im Img.twb1IType k
  | .nothing => 0

/-- Foreign item k is an output (R37). -/
def State.isForeignOut (s : State) (k : Nat) : Bool := s.im Img.twb1IType k == 1

/-- Number of a state code (R35). -/
def EState.code : EState → Nat
  | .absent => 0 | .off => 1 | .starting => 2 | .on => 3 | .stopping => 4 | .derated => 5 | .failed => 6
  | .latchedOff => 7 | .spare => 8 | .unreachable => 9 | .valid => 10 | .stale => 11 | .active => 12 | .clear => 13
  | .held => 14

/-- The state that a code names (R35). -/
def EState.ofCode : Nat → Option EState
  | 0 => some .absent | 1 => some .off | 2 => some .starting | 3 => some .on | 4 => some .stopping
  | 5 => some .derated | 6 => some .failed | 7 => some .latchedOff | 8 => some .spare | 9 => some .unreachable
  | 10 => some .valid | 11 => some .stale | 12 => some .active | 13 => some .clear | 14 => some .held
  | _ => none

/-- Number of a completion code (R36). -/
def Code.num : Code → Nat
  | .applied => 0 | .superseded => 1 | .refusedInterlock => 2 | .clamped => 3 | .timeout => 4 | .aborted => 5
  | .unreachable => 6

/-- The completion that a code number names (R36). -/
def Code.ofNum : Nat → Code
  | 0 => .applied | 1 => .superseded | 2 => .refusedInterlock | 3 => .clamped | 4 => .timeout | 5 => .aborted
  | _ => .unreachable

/-- Number of an operation kind (R87). -/
def Kind.num : Kind → Nat
  | .state => 0 | .setpoint => 1 | .limit => 2 | .phases => 3 | .envelope => 4 | .phEnvelope => 5 | .unfreeze => 6
  | .clear => 7 | .publish => 8 | .substitute => 9 | .park => 10 | .energy => 11 | .none c => c.val

/-- The kind that a number names (R87). -/
def Kind.ofNum (n : Nat) : Kind :=
  match n % 16 with
  | 0 => .state | 1 => .setpoint | 2 => .limit | 3 => .phases | 4 => .envelope | 5 => .phEnvelope | 6 => .unfreeze
  | 7 => .clear | 8 => .publish | 9 => .substitute | 10 => .park | 11 => .energy
  | m => .none (Fin.ofNat 16 m)

/-- A request read from its four words (R86). -/
def Req.ofWords (w0 w1 w2 w3 : Word) : Req :=
  { ep := bitsOf w0.toNat 16 0, kind := Kind.ofNum (bitsOf w0.toNat 20 17), bnd := bitOf w0.toNat 21,
    last := bitOf w0.toNat 22, bsize := bitsOf w0.toNat 28 24, val := w1, reqr := bitsOf w2.toNat 12 0,
    cls := bitsOf w2.toNat 15 13, tag := BitVec.ofNat 8 (bitsOf w2.toNat 23 16), val2 := w3 }

/-- The four words of a request (R86). -/
def Req.words (r : Req) : Words4 :=
  { w0 := wordOf (placeAt r.ep 16 0 + placeAt r.kind.num 20 17 + placeAt (b2n (r.bnd || r.tree)) 21 21 +
      placeAt (b2n r.last) 22 22 + placeAt r.bsize 28 24),
    w1 := r.val,
    w2 := wordOf (placeAt r.reqr 12 0 + placeAt r.cls 15 13 + placeAt r.tag.toNat 23 16),
    w3 := r.val2 }

/-- The four words of a completion (R112). -/
def Cpl.words (c : Cpl) : Words4 :=
  { w0 := wordOf (placeAt c.ep 16 0 + placeAt c.code.num 19 17 + placeAt c.kind.num 23 20 + placeAt c.tag.toNat 31 24),
    w1 := c.val,
    w2 := wordOf c.epoch,
    w3 := wordOf (placeAt (c.epoch / 2 ^ 32) 15 0 + placeAt c.reqr 28 16 + placeAt c.cls 31 29) }

/-- A completion read from its four words (R112). -/
def Cpl.ofWords (w : Words4) (otag : Nat) : Cpl :=
  { ep := bitsOf w.w0.toNat 16 0, code := Code.ofNum (bitsOf w.w0.toNat 19 17), kind := Kind.ofNum (bitsOf w.w0.toNat 23 20),
    tag := BitVec.ofNat 8 (bitsOf w.w0.toNat 31 24), val := w.w1,
    epoch := w.w2.toNat + bitsOf w.w3.toNat 15 0 * 2 ^ 32, reqr := bitsOf w.w3.toNat 28 16,
    cls := bitsOf w.w3.toNat 31 29, otag := otag }

/-- The four words of a ledger entry (R31). -/
def Entry.words (e : Entry) : Words4 :=
  { w0 := wordOf (e.st.code + placeAt e.ty 15 8 + placeAt e.flags.toNat 31 16),
    w1 := e.val,
    w2 := wordOf e.epoch,
    w3 := wordOf (placeAt (e.epoch / 2 ^ 32) 15 0 + placeAt e.writer.toNat 31 16) }

/-- A ledger entry read from its four words (R31). -/
def Entry.ofWords (w : Words4) : Entry :=
  { st := (EState.ofCode (bitsOf w.w0.toNat 7 0)).getD .absent, ty := bitsOf w.w0.toNat 15 8,
    flags := BitVec.ofNat 16 (bitsOf w.w0.toNat 31 16), val := w.w1,
    epoch := w.w2.toNat + bitsOf w.w3.toNat 15 0 * 2 ^ 32, writer := BitVec.ofNat 16 (bitsOf w.w3.toNat 31 16) }

/-- Word k of four words. -/
def Words4.get (w : Words4) (k : Nat) : Word :=
  match k with
  | 0 => w.w0 | 1 => w.w1 | 2 => w.w2 | _ => w.w3

/-- The writer field of a class and a requester (R31). -/
def writerOf (cls reqr : Nat) : BitVec 16 := BitVec.ofNat 16 (placeAt cls 15 13 + placeAt reqr 12 0)
/-- Class of a writer field (R31). -/
def writerCls (w : BitVec 16) : Nat := w.toNat / 2 ^ 13
/-- Requester of a writer field (R31). -/
def writerReqr (w : BitVec 16) : Nat := w.toNat % 2 ^ 13

/-- A flag of an entry (R32). -/
def Entry.flag (e : Entry) (b : Nat) : Bool := e.flags.getLsbD b

/-- One flag's mask (R32). -/
def flagMask (b : Nat) : BitVec 16 := BitVec.ofNat 16 (2 ^ b)
/-- CLAMPED (R32). -/
def fCLAMPED : Nat := 0
/-- PROTECTED (R32). -/
def fPROTECTED : Nat := 1
/-- ADAPT_FROZEN (R32). -/
def fFROZEN : Nat := 2
/-- IN_BUNDLE (R32). -/
def fINBUNDLE : Nat := 3
/-- COMPENSATED (R32). -/
def fCOMP : Nat := 4
/-- PROT_ACTIVE (R32). -/
def fPROT : Nat := 5
/-- SUBSTITUTED (R32). -/
def fSUBST : Nat := 6
/-- RECHECK (R32). -/
def fRECHECK : Nat := 7

/-- Requester numbers of R88. -/
def reqrSource (n : Nat) : Nat := 0x200 + n
/-- Requester of sequence group g (R88). -/
def reqrGroup (g : Nat) : Nat := 0x10 + g
/-- Requester of a host interface (R88). -/
def reqrIface : Iface → Nat | .twb0 => 0x40 | .spi => 0x41

/-- Operation of a step header (R221). -/
inductive StepOp where
  | fin | bundle | delay | waitGroup | waitInput | reset | unused
  deriving DecidableEq, Repr

/-- A step header word (R221). -/
structure StepHdr where
  op : StepOp
  nops : Nat
  link : Nat
  linkV : Bool
  arg : Nat
  deriving DecidableEq, Repr

/-- A step header read from a program word (R221). -/
def StepHdr.ofWord (w : Nat) : StepHdr :=
  { op := match bitsOf w 31 28 with
      | 0 => .fin | 1 => .bundle | 2 => .delay | 3 => .waitGroup | 4 => .waitInput | 5 => .reset | _ => .unused,
    nops := bitsOf w 27 22, link := bitsOf w 21 14, linkV := bitOf w 13, arg := bitsOf w 12 0 }

/-- Position of the header of step k from program word base, and that header; none past the end of the program (R221).
The table has 2,048 words, which bounds the walk. -/
def stepAt (prog : Nat → Nat) (base : Nat) : Nat → Option (Nat × StepHdr)
  | 0 => if base < 2048 then some (base, StepHdr.ofWord (prog base)) else none
  | k + 1 =>
    if base < 2048 then
      let h := StepHdr.ofWord (prog base)
      if h.op = .fin ∨ h.op = .unused then none
      else stepAt prog (base + 1 + (if h.op = .bundle then h.nops else 0)) k
    else none

/-- A word of the program table (R255). -/
def State.prog (s : State) (i : Nat) : Nat := s.im Img.seqProg i

/-- Base word of a group's program: power-down or power-up (R255). -/
def State.progBase (s : State) (g : Nat) (down : Bool) : Nat :=
  if down then s.im Img.seqDnBase g else s.im Img.seqUpBase g

/-- Step k of a program of group g (R221). -/
def State.step? (s : State) (g : Nat) (down : Bool) (k : Nat) : Option (Nat × StepHdr) :=
  stepAt s.prog (s.progBase g down) k

/-- The operation words of a BUNDLE step whose header stands at word b (R221, R222). -/
def State.opWords (s : State) (b : Nat) (h : StepHdr) : List Nat :=
  if h.op = .bundle then (List.range h.nops).map (fun j => s.prog (b + 1 + j)) else []

/-- Endpoints named by a program walked for at most n steps (R216). -/
def progEps (prog : Nat → Nat) : Nat → Nat → List Nat
  | 0, _ => []
  | n + 1, base =>
    if base < 2048 then
      let h := StepHdr.ofWord (prog base)
      if h.op = .fin ∨ h.op = .unused then []
      else if h.op = .bundle then
        (List.range h.nops).map (fun j => bitsOf (prog (base + 1 + j)) 10 0) ++ progEps prog n (base + 1 + h.nops)
      else progEps prog n (base + 1)
    else []

/-- The endpoints that the programs of group g name (R216), ascending and without repeats. -/
def State.groupEps (s : State) (g : Nat) : List Nat :=
  let l := progEps s.prog 256 (s.progBase g false) ++ progEps s.prog 256 (s.progBase g true)
  (List.range 2048).filter (fun li => l.contains li)

/-- The enabled group whose programs name an endpoint (R216). -/
def State.ownerOf (s : State) (li : Nat) : Option Nat :=
  (List.range 16).find? (fun g => s.imb Img.seqUsed g &&
    (progEps s.prog 256 (s.progBase g false) ++ progEps s.prog 256 (s.progBase g true)).contains li)

/-- The interlock edges in use, as pairs A before B (R230). -/
def State.edges (s : State) : List (Nat × Nat) :=
  (List.range (min 512 (s.im Img.seqEdgeCnt))).map (fun e => (s.im Img.seqEdgeA e, s.im Img.seqEdgeB e))

/-- Endpoints reached from a set along edges in at most n rounds (R233). -/
def reachFrom (edges : List (Nat × Nat)) : Nat → List Nat → List Nat
  | 0, l => l
  | n + 1, l =>
    let more := (edges.filter (fun e => l.contains e.1 && !l.contains e.2)).map (·.2)
    if more.isEmpty then l else reachFrom edges n (l ++ more)

/-- Endpoints reachable from A along edges, A excluded, ascending (R233). -/
def State.dependents (s : State) (a : Nat) : List Nat :=
  let l := reachFrom s.edges 512 [a]
  (List.range 2048).filter (fun li => li ≠ a && l.contains li)

/-- The rail that a phase serves (R134). -/
def State.phaseRail (s : State) (p : Nat) : Nat := s.im Img.phRail p

/-- The enabled phases of a rail, ascending (R134). -/
def State.railPhases (s : State) (r : Nat) : List Nat :=
  (List.range 48).filter (fun p => s.imb Img.phUsed p && s.phaseRail p == r)

end Sys2Proof.Machine
end

