-- ==== Sys2Proof/Machine/Flags.lean ====
section
/-! DEFINITION. Access to the tables of the state, one entry at a time, and the type flags of ledger entries (R33). -/

namespace Sys2Proof.Machine

/-- Rail r. -/
def State.rail (s : State) (r : Nat) : Rail := s.rails.get {} r
/-- Change rail r. -/
def State.modRail (s : State) (r : Nat) (f : Rail → Rail) : State := { s with rails := s.rails.set {} r (f (s.rail r)) }
/-- Phase p. -/
def State.phase (s : State) (p : Nat) : Phase := s.phases.get {} p
/-- Change phase p. -/
def State.modPhase (s : State) (p : Nat) (f : Phase → Phase) : State := { s with phases := s.phases.set {} p (f (s.phase p)) }
/-- Load switch n. -/
def State.switch (s : State) (n : Nat) : Switch := s.switches.get {} n
/-- Change load switch n. -/
def State.modSwitch (s : State) (n : Nat) (f : Switch → Switch) : State := { s with switches := s.switches.set {} n (f (s.switch n)) }
/-- Sequence group g. -/
def State.group (s : State) (g : Nat) : Group := s.groups.get {} g
/-- Change sequence group g. -/
def State.modGroup (s : State) (g : Nat) (f : Group → Group) : State := { s with groups := s.groups.set {} g (f (s.group g)) }
/-- Fault source n. -/
def State.src (s : State) (n : Nat) : Source := s.srcs.get {} n
/-- Change fault source n. -/
def State.modSrc (s : State) (n : Nat) (f : Source → Source) : State := { s with srcs := s.srcs.set {} n (f (s.src n)) }
/-- Event e. -/
def State.evt (s : State) (e : Nat) : Event := s.evts.get {} e
/-- Change event e. -/
def State.modEvt (s : State) (e : Nat) (f : Event → Event) : State := { s with evts := s.evts.set {} e (f (s.evt e)) }
/-- Bounds, limit and policy of local index li. -/
def State.policy (s : State) (li : Nat) : Policy := s.pol.get {} li
/-- Change bounds, limit and policy of local index li. -/
def State.modPolicy (s : State) (li : Nat) (f : Policy → Policy) : State := { s with pol := s.pol.set {} li (f (s.policy li)) }
/-- Adaptive loop k. -/
def State.loop (s : State) (k : Nat) : Loop := s.loops.get {} k
/-- Change adaptive loop k. -/
def State.modLoop (s : State) (k : Nat) (f : Loop → Loop) : State := { s with loops := s.loops.set {} k (f (s.loop k)) }
/-- Lathe state of rail r. -/
def State.loopSt (s : State) (r : Nat) : LoopSt := s.lathe.get {} r
/-- Change the Lathe state of rail r. -/
def State.modLoopSt (s : State) (r : Nat) (f : LoopSt → LoopSt) : State := { s with lathe := s.lathe.set {} r (f (s.loopSt r)) }
/-- Trace buffer b. -/
def State.trace (s : State) (b : Nat) : Trace := s.traces.get {} b
/-- Change trace buffer b. -/
def State.modTrace (s : State) (b : Nat) (f : Trace → Trace) : State := { s with traces := s.traces.set {} b (f (s.trace b)) }
/-- Watchdog w. -/
def State.wdg (s : State) (w : Nat) : Wdg := s.wdgs.get {} w
/-- Change watchdog w. -/
def State.modWdg (s : State) (w : Nat) (f : Wdg → Wdg) : State := { s with wdgs := s.wdgs.set {} w (f (s.wdg w)) }
/-- Foreign device d. -/
def State.fdev (s : State) (d : Nat) : Foreign := s.foreign.get {} d
/-- Change foreign device d. -/
def State.modFdev (s : State) (d : Nat) (f : Foreign → Foreign) : State := { s with foreign := s.foreign.set {} d (f (s.fdev d)) }
/-- Change the ledger. -/
def State.modLed (s : State) (f : Ledger → Ledger) : State := { s with led := f s.led }
/-- Change the pipeline. -/
def State.modPipe (s : State) (f : Pipe → Pipe) : State := { s with pipe := f s.pipe }
/-- Such a bit is set in this core cycle. -/
def State.setNow (s : State) (k : Sticky) : State := { s with setAt := s.setAt.set 0 k.num (s.cyc + 1) }
/-- Such a bit was set in this core cycle, so a 1 written to it leaves it set. -/
def State.justSet (s : State) (k : Sticky) : Bool := s.setAt.get 0 k.num == s.cyc + 1
/-- Change identity, mode and starts. -/
def State.modGlb (s : State) (f : Glb → Glb) : State := { s with glb := f s.glb }
/-- Change lanes, clocks and supplies. -/
def State.modLane (s : State) (f : Lane → Lane) : State := { s with lane := f s.lane }
/-- Change the sequencer's inputs and pins. -/
def State.modSeq (s : State) (f : SeqSt → SeqSt) : State := { s with seq := f s.seq }
/-- Change Lace. -/
def State.modLace (s : State) (f : Lace → Lace) : State := { s with lace := f s.lace }
/-- Change the measurement bank. -/
def State.modAdc (s : State) (f : Adc → Adc) : State := { s with adc := f s.adc }
/-- Change the thermal block. -/
def State.modThm (s : State) (f : Thm → Thm) : State := { s with thm := f s.thm }
/-- Change the charger. -/
def State.modChg (s : State) (f : Chg → Chg) : State := { s with chg := f s.chg }
/-- Change the gauge. -/
def State.modGau (s : State) (f : Gau → Gau) : State := { s with gau := f s.gau }
/-- Change the backup domain. -/
def State.modRtc (s : State) (f : Rtc → Rtc) : State := { s with rtc := f s.rtc }
/-- Change the recorder. -/
def State.modRec (s : State) (f : RecSt → RecSt) : State := { s with recd := f s.recd }
/-- Change the host front ends. -/
def State.modHost (s : State) (f : HostSt → HostSt) : State := { s with host := f s.host }
/-- Change the one-time memory block. -/
def State.modOtp (s : State) (f : Otp → Otp) : State := { s with otp := f s.otp }
/-- Change the update block. -/
def State.modUpd (s : State) (f : Upd → Upd) : State := { s with upd := f s.upd }

/-- One host interface. -/
def State.iface (s : State) (i : Iface) : HostIf :=
  match i with
  | .twb0 => s.host.twb0
  | .spi => s.host.spi
/-- Change one host interface. -/
def State.modIface (s : State) (i : Iface) (f : HostIf → HostIf) : State :=
  match i with
  | .twb0 => { s with host := { s.host with twb0 := f s.host.twb0 } }
  | .spi => { s with host := { s.host with spi := f s.host.spi } }
/-- The other host interface. -/
def Iface.other : Iface → Iface
  | .twb0 => .spi
  | .spi => .twb0
/-- Number of an interface (PIPE_PIN_IF, REC_FRZ_IF). -/
def Iface.num : Iface → Nat
  | .twb0 => 0
  | .spi => 1

/-- Eyelet e. -/
def State.eye (s : State) (e : Nat) : Eyelet := s.lace.eyes.get {} e
/-- Change eyelet e. -/
def State.modEye (s : State) (e : Nat) (f : Eyelet → Eyelet) : State :=
  s.modLace fun l => { l with eyes := l.eyes.set {} e (f (l.eyes.get {} e)) }
/-- Slot record of the domain head's table. -/
def State.slotRec (s : State) (sl : Nat) : SlotRec := s.lace.slots.get {} sl
/-- Change a slot record. -/
def State.modSlot (s : State) (sl : Nat) (f : SlotRec → SlotRec) : State :=
  s.modLace fun l => { l with slots := l.slots.set {} sl (f (l.slots.get {} sl)) }
/-- Measurement sequencer q. -/
def State.aseq (s : State) (q : Nat) : AdcSeq := s.adc.seqs.get {} q
/-- Change measurement sequencer q. -/
def State.modAseq (s : State) (q : Nat) (f : AdcSeq → AdcSeq) : State :=
  s.modAdc fun a => { a with seqs := a.seqs.set {} q (f (a.seqs.get {} q)) }
/-- Measured channel c. -/
def State.chanOf (s : State) (c : Nat) : Chan := s.adc.chans.get {} c
/-- Change measured channel c. -/
def State.modChan (s : State) (c : Nat) (f : Chan → Chan) : State :=
  s.modAdc fun a => { a with chans := a.chans.set {} c (f (a.chans.get {} c)) }
/-- Metering channel m. -/
def State.meter (s : State) (m : Nat) : Meter := s.adc.meters.get {} m
/-- Change metering channel m. -/
def State.modMeter (s : State) (m : Nat) (f : Meter → Meter) : State :=
  s.modAdc fun a => { a with meters := a.meters.set {} m (f (a.meters.get {} m)) }
/-- Raw temperature input n. -/
def State.thmIn (s : State) (n : Nat) : ThmIn := s.thm.ins.get {} n
/-- Thermal zone z. -/
def State.zoneOf (s : State) (z : Nat) : Zone := s.thm.zones.get {} z
/-- Change thermal zone z. -/
def State.modZone (s : State) (z : Nat) (f : Zone → Zone) : State :=
  s.modThm fun t => { t with zones := t.zones.set {} z (f (t.zones.get {} z)) }

/-- A register that only stores what a host writes (RW). -/
def State.rwWord (s : State) (a : Nat) : Word := s.rw.get 0 a
/-- Write such a register. -/
def State.setRw (s : State) (a : Nat) (w : Word) : State := { s with rw := s.rw.set 0 a w }

/-- The stored entry of an endpoint, whatever its slot's presentation (R31). -/
def State.stored (s : State) (id : Nat) : Entry := s.led.cur.get {} id

/-- Presentation of an endpoint: its slot's, or its device's in slot 0 (R44). -/
def Ledger.presOf (l : Ledger) (id : Nat) : Pres :=
  if slotOf id ≠ 0 then l.slotPres.get .present (slotOf id)
  else match kindOf (liOf id) with
    | .foreign k => l.devPres.get .present (k / 16)
    | _ => .present

/-- How a stored entry reads under a presentation (R44). -/
def presentAs (p : Pres) (e : Entry) : Entry :=
  match p with
  | .present => e
  | .free => {}
  | .unreachable ep =>
    if e.st = .absent then e
    else { e with st := .unreachable, flags := (e.flags &&& 0x0FFF#16) ||| BitVec.ofNat 16 (placeAt e.st.code 15 12),
                  epoch := ep, writer := writerOf 7 0 }

/-- The committed state of an endpoint as every block reads it (R44, R52). -/
def State.ent (s : State) (id : Nat) : Entry := presentAs (s.led.presOf id) (s.stored id)

/-- The committed state code of a slot-0 endpoint. -/
def State.st (s : State) (li : Nat) : EState := (s.ent li).st

/-- The entry as the last tick published it: what a block that evaluates on its own takes for committed (R52). -/
def State.seen (s : State) (id : Nat) : Entry :=
  presentAs (s.led.presOf id) (match s.led.was.find? (fun x => x.1 == id) with
    | some x => x.2
    | none => s.stored id)

/-- The state code of a slot-0 endpoint as the last tick published it (R52). -/
def State.seenSt (s : State) (li : Nat) : EState := (s.seen li).st

/-- Phases of a rail that are ON as the last tick published them (R52, R149). -/
def State.phasesSeen (s : State) (r : Nat) : List Nat := (s.railPhases r).filter (fun p => s.seenSt (liPhase p) == .on)

/-- Phases of a rail that are ON (R135). -/
def State.phasesOn (s : State) (r : Nat) : List Nat := (s.railPhases r).filter (fun p => s.st (liPhase p) == .on)

/-- A rail state in which the rail runs (R149). -/
def EState.running : EState → Bool
  | .on | .derated => true
  | _ => false

/-- STARTING, ON or DERATED (R233, R658). -/
def EState.alive : EState → Bool
  | .starting | .on | .derated => true
  | _ => false

/-- A SUBSTITUTE operation for the rail is in flight (R166). -/
def State.substInFlight (s : State) (r : Nat) : Bool :=
  s.pipe.tack.any fun x => match x.2 with
    | some t => t.op.req.kind == .substitute && (match kindOf (liOf t.op.req.ep) with
        | .phase p => s.phaseRail p == r
        | _ => false)
    | none => false

/-- Spread spectrum runs on a rail whose committed state is st (R166). -/
def State.sscOn (s : State) (r : Nat) (st : EState) : Bool :=
  r < 32 && s.im Img.railSscMode r != 0 && s.im Img.railSscMode r != 3 && st.running && !s.substInFlight r

/-- Phases of a rail that are shed: they hold the assigned role and are OFF while the rail is STARTING, ON or DERATED
(R146, R151). -/
def State.shedPhases (s : State) (r : Nat) (st : EState) : List Nat :=
  if st.alive then (s.railPhases r).filter (fun p => !(s.phase p).spareRole && s.st (liPhase p) == .off) else []

/-- TYPE_FLAGS of a slot-0 endpoint that commits or holds state st (R33). -/
def State.typeFlags (s : State) (li : Nat) (st : EState) : Nat :=
  match kindOf li with
  | .rail r => 4 * b2n (s.rail r).disch + 2 * b2n (s.sscOn r st) + b2n (!(s.shedPhases r st).isEmpty)
  | .phase p => 2 * b2n (s.phase p).limEpoch +
      b2n (st == .off && !(s.phase p).spareRole && (s.st (s.phaseRail p)).alive)
  | .switch n => 2 * b2n (s.switch n).warn + b2n (s.switch n).inrush
  | .charger => 8 * b2n s.chg.solOn + s.chg.mode % 8
  | .gauge => 2 * b2n s.gau.learn.isSome + b2n s.gau.disagree
  | .group g => 2 * ((s.group g).retries % 8) + b2n (s.group g).dir
  | _ => 0

/-- PROTECTED: the image marks a rail as protected; 0 for other types (R32, R177). -/
def State.protFlag (s : State) (li : Nat) : BitVec 16 :=
  match kindOf li with
  | .rail r => if s.imb Img.railProt r then 0x0002#16 else 0
  | _ => 0

/-- The type flags that follow a hardware condition (R655): rails [10:8], phases [9], load switches [9:8]. -/
def hwFlagMask (li : Nat) : Nat :=
  match kindOf li with
  | .rail _ => 7
  | .phase _ => 2
  | .switch _ => 3
  | _ => 0

/-- The mean of a rail's current stream over the last 10 µs, in mA, over the samples present where there are fewer than ten, a
case that no rule names (R149, R201, R407; DESIGN CHOICE, assumption 131). -/
def Rail.mean10 (x : Rail) : Int := meanFloor (x.isamp.take 10)

/-- Tracking steps: SOLAR is the source, the mode is 3 and the loop is not frozen (R453). -/
def State.tracks (s : State) : Bool := s.chg.source == some true && s.chg.solOn && s.chg.mode == 3 && !(s.loop 256).frozen

/-- Some zone is in fast mode (R431, THM_FAST_ANY). -/
def State.fastAny (s : State) : Bool := (List.range 48).any fun z => (s.zoneOf z).fast

/-- F that zone z contributes: 1,024 from a STALE zone with THM_Z_STALE_ACT 1, else the last F (R433). -/
def State.zoneF (s : State) (z : Nat) : Nat := if (s.zoneOf z).stalePub && s.imb Img.thmZStaleAct z then 1024 else (s.zoneOf z).f

/-- Raw input n is idle: a phase whose rail's enable is low (R426). -/
def State.thmIdle (s : State) (n : Nat) : Bool := decide (64 ≤ n) && decide (n < 112) && !(s.rail (s.phaseRail (n - 64))).en

end Sys2Proof.Machine
end

