-- ==== Sys2Proof/Machine/Ops.lean ====
section
/-! DEFINITION. The operations that every block shares: commits to the ledger, requests offered at a port, completions,
recorder records, fault sources, events and wake conditions. -/

namespace Sys2Proof.Machine

/-- The block governs: it has committed its first epoch (R14, R38). -/
def State.live (s : State) : Bool := s.glb.mode == .run || s.glb.mode == .parked

/-- Length of a core cycle in units of 4 ns: 4 ns, in PARKED 40 ns (R6). -/
def State.cycTime (s : State) : Nat := if s.glb.mode = .parked then 10 else 1

/-- Time since the last start, in units of 4 ns (R6). -/
def State.time (s : State) : Nat := s.glb.modeTime + (s.cyc - s.glb.modeCyc) * s.cycTime

/-- Units of State.time in a microsecond. -/
def usTime : Nat := 250

/-- The core clock changes its rate here (R6, R340, R342). -/
def State.clockStep (s : State) : State :=
  let t := s.time
  let n := s.cyc
  s.modGlb fun g => { g with modeCyc := n, modeTime := t }

/-- The entry that a commit leaves (R31, R32). PRIOR_STATE changes only with the state; CLAMPED and COMPENSATED speak of
this commit, and a commit of flags alone keeps them (DEDUCED, assumption 12). -/
def State.entryAfter (s : State) (id : Nat) (c : Cm) : Entry :=
  let e := s.stored id
  let st := c.st.getD e.st
  let prior := if st = e.st then bitsOf e.flags.toNat 15 12 else e.st.code
  let tf := if slotOf id = 0 then s.typeFlags (liOf id) st else bitsOf e.flags.toNat 11 8
  let kept := (((e.flags ||| c.set) &&& ~~~c.clr) &&& 0x00EC#16) ||| (if slotOf id = 0 then s.protFlag (liOf id) else e.flags &&& 0x0002#16)
  let own := if c.flagsOnly then e.flags &&& 0x0011#16
    else BitVec.ofNat 16 (b2n c.clamped + 16 * b2n c.comp)
  { st := st, ty := e.ty, flags := BitVec.ofNat 16 (placeAt prior 15 12 + placeAt tf 11 8) ||| kept ||| own,
    val := c.val.getD e.val, epoch := s.led.epoch, writer := writerOf c.cls c.reqr }

/-- Journal entries retained (R110, PIPE_JRNL_USED): the entries of sets stay in staging buffers (R375). -/
def Ledger.used (l : Ledger) : Nat := (l.journal.filter fun j => match j with
  | .set .. => false
  | _ => true).length

/-- Note an entry as the last tick published it, once an epoch (R52). -/
def Ledger.note (l : Ledger) (id : Nat) : Ledger :=
  if l.was.any (fun x => x.1 == id) then l else { l with was := (id, l.cur.get {} id) :: l.was }

/-- One entry goes to the journal and the mirror (R48). -/
def Ledger.put (l : Ledger) (id : Nat) (e : Entry) : Ledger :=
  { l.note id with cur := l.cur.set {} id e, journal := l.journal ++ [.entry l.epoch id e], cmtNow := l.cmtNow + 1 }

/-- A commit of this class finds room in the epoch (R109). -/
def Ledger.room (l : Ledger) (urgent : Bool) : Bool :=
  decide (l.cmtNow < (if urgent then Config.commitLimit else Config.commitSoftLimit))

/-- A commit that must wait for the next epoch (R109). -/
def Ledger.defer (l : Ledger) (d : Deferred) : Ledger := { l with late := l.late ++ [d], deferred := l.deferred + 1 }

/-- Write one commit to the journal and the mirror (R48); one that the epoch has no room for waits for the next (R109,
R655). An ABSENT entry takes no commit (R28). -/
def State.commit (s : State) (id : Nat) (c : Cm) : State :=
  if (s.stored id).st = .absent then s
  else if s.led.room (decide (c.cls ≤ 1) || c.comp) then
    let e := s.entryAfter id c
    s.modLed fun l => l.put id e
  else s.modLed fun l => l.defer (.entry id c)

/-- Write an entry whole: the initial commit of R38. -/
def State.writeEntry (s : State) (id : Nat) (e : Entry) : State := s.modLed fun l => l.put id e

/-- The slot-level commit of R44, under the limit of R109. -/
def State.commitSlot (s : State) (sl : Nat) (p : Pres) : State :=
  if s.led.room false then
    s.modLed fun l => { l with slotPres := l.slotPres.set .present sl p, journal := l.journal ++ [.slot l.epoch sl p], cmtNow := l.cmtNow + 1 }
  else s.modLed fun l => l.defer (.slot sl p)

/-- The device-level commit of R44, under the limit of R109. -/
def State.commitDev (s : State) (d : Nat) (p : Pres) : State :=
  if s.led.room false then
    s.modLed fun l => { l with devPres := l.devPres.set .present d p, journal := l.journal ++ [.device l.epoch d p], cmtNow := l.cmtNow + 1 }
  else s.modLed fun l => l.defer (.device d p)

/-- Flags, alone (R655). -/
def State.commitFlags (s : State) (id cls reqr : Nat) (set clr : BitVec 16) : State :=
  s.commit id { cls := cls, reqr := reqr, set := set, clr := clr, flagsOnly := true }

/-- Place a request at port p behind the first skip offers there, before those of sources with higher numbers (R272). -/
def placeOffer (p : Nat) (r : Req) : Nat → List (Nat × List Req) → List (Nat × List Req)
  | _, [] => [(p, [r])]
  | k, o :: t =>
    if o.1 ≠ p then o :: placeOffer p r k t
    else match k with
      | k + 1 => o :: placeOffer p r k t
      | 0 => if 0x200 ≤ r.reqr ∧ o.2.any (fun q => decide (0x200 ≤ q.reqr) && decide (r.reqr < q.reqr)) then (p, [r]) :: o :: t else o :: placeOffer p r 0 t

/-- Requests offered at port 0 or 1 in this core cycle. -/
def State.decided (s : State) (port : Nat) : Nat := if s.pipe.decCyc = s.cyc then (if port = 0 then s.pipe.dec0 else s.pipe.dec1) else 0

/-- The collector submits a request at port 0 or 1: of those that it decides in one core cycle, in ascending source number, and of
one source in the order of its decisions (R272). -/
def State.submit (s : State) (port : Nat) (r : Req) : State :=
  let now := s.cyc
  let n := s.decided port
  let n0 := s.decided 0
  let n1 := s.decided 1
  s.modPipe fun p =>
    { p with offers := placeOffer port r ((p.offers.filter fun o => o.1 == port).length - n) p.offers, decCyc := now, dec0 := if port = 0 then n0 + 1 else n0, dec1 := if port = 0 then n1 else n1 + 1 }

/-- Offer a request or a bundle at a port of Awl (R89). A housekeeping loop keeps only its newest request for an
endpoint and a kind (port 6), a publisher only the newest value of an entry (port 7); every value
replaced at port 7 is counted in ADC_PUB_DROP. -/
def State.offer (s : State) (port : Nat) (reqs : List Req) : State :=
  let same : Nat × List Req → Bool := fun o =>
    match o.2, reqs with
    | [a], [b] => o.1 == port && a.ep == b.ep && a.kind == b.kind && a.reqr == b.reqr && !a.bnd && !b.bnd
    | _, _ => false
  if port = 6 ∨ port = 7 then
    let dropped := (s.pipe.offers.filter (fun o => same o && port == 7)).length
    let s := s.modPipe fun p => { p with offers := p.offers.filter (fun o => !same o) ++ [(port, reqs)] }
    if dropped = 0 then s else s.modAdc fun a => { a with pubDrop := a.pubDrop + BitVec.ofNat 32 dropped }
  else match reqs with
    | [r] => if port ≤ 1 then s.submit port r else s.modPipe fun p => { p with offers := p.offers ++ [(port, reqs)] }
    | _ => s.modPipe fun p => { p with offers := p.offers ++ [(port, reqs)] }

/-- A STATE request with a target (R86, R87). -/
def stateReq (ep : Nat) (target : EState) (cls reqr : Nat) : Req :=
  { ep := ep, kind := .state, val := BitVec.ofNat 32 target.code, cls := cls, reqr := reqr }

/-- Decide a request's outcome, with the epoch of its commit: it is delivered at the tick that ends this epoch (R111 to
R113). -/
def State.completeAt (s : State) (epoch : Nat) (r : Req) (seq : BitVec 32) (code : Code) (val : BitVec 32) : State :=
  let c : Cpl := { ep := r.ep, code := code, kind := r.kind, tag := r.tag, val := val, epoch := epoch,
                   reqr := r.reqr, cls := r.cls, seq := seq, otag := r.otag, fep := r.fep, bnd := r.bnd }
  s.modPipe fun p => { p with done := p.done ++ [c] }

/-- An outcome decided in this epoch (R111, R112). -/
def State.complete (s : State) (r : Req) (seq : BitVec 32) (code : Code) (val : BitVec 32) : State :=
  s.completeAt s.led.epoch r seq code val

/-- Bytes of a record in buffer or ring: header, payload, check code, padding (R519). -/
def recSize (len : Nat) : Nat := (24 + len + 2 + 3) / 4 * 4

/-- Size of a record. -/
def Record.size (r : Record) : Nat := recSize r.payload.length

/-- Bytes held by a list of records. -/
def recBytesUsed (l : List Record) : Nat := l.foldl (fun n r => n + r.size) 0

/-- The bytes of a record (R519). A record that failed its read-back holds a check code that does not pass (R527). -/
def Record.bytes (r : Record) : List Byte :=
  let head := leBytes 2 0xC3A5 ++ leBytes 1 r.ty ++ leBytes 1 (b2n r.pf) ++ leBytes 2 r.payload.length ++
    leBytes 4 r.seq.toNat ++ leBytes 6 r.epoch ++ leBytes 2 r.frac.toNat ++ leBytes 6 r.sec.toNat
  let body := head ++ r.payload
  let crc := if r.bad then ~~~(crc16 body) else crc16 body
  let all := body ++ leBytes 2 crc.toNat
  all ++ List.replicate (r.size - all.length) 0

/-- Discard whole records from the oldest end until n bytes fit (R528). -/
def ringRoom (n : Nat) : List Record → List Record
  | [] => []
  | r :: t => if recBytesUsed (r :: t) + n ≤ Config.recRingBytes then r :: t else ringRoom n t

/-- A record with this SEQ is unread (R531, R533): it lies from the unread mark on. -/
def RecSt.isUnread (q : RecSt) (seq : BitVec 32) : Bool := (seq - q.unread).toNat < (q.seqNext - q.unread).toNat

/-- Write a record into the ring: SEQ and the power-fail bit are set here and the oldest records give way (R519, R520,
R528). -/
def State.ringWrite (s : State) (r : Record) (bad : Bool) : State :=
  s.modRec fun q =>
    let kept := ringRoom r.size q.ring
    let gone := q.ring.take (q.ring.length - kept.length)
    let lost := (gone.filter (fun x => q.isUnread x.seq)).length
    let unread := if lost = 0 then q.unread else match kept with
      | x :: _ => x.seq
      | [] => q.seqNext
    { q with ring := kept ++ [{ r with seq := q.seqNext, bad := bad, pf := s.seq.pf }], seqNext := q.seqNext + 1, unread := unread,
             ovw := q.ovw + BitVec.ofNat 32 lost, lossOvw := q.lossOvw + lost }

/-- A record with the epoch and the clock of this core cycle (R519). -/
def State.mkRec (s : State) (ty : Nat) (payload : List Byte) : Record :=
  { ty := ty, pf := s.seq.pf, seq := 0, epoch := s.led.epoch, frac := s.rtc.frac, sec := s.rtc.sec, payload := payload, bad := false }

/-- The LOSS record (R521). -/
def State.lossRec (s : State) : Record := s.mkRec 5 (leBytes 4 s.recd.lossDrop ++ leBytes 4 s.recd.lossOvw)

/-- Records go straight to the ring: power-fail is declared and its snapshot is written (REC_PF_WT, R525). -/
def State.recDirect (s : State) : Bool :=
  s.seq.pf && match s.seq.snap with
    | some (_, forPf, _) => !forPf
    | none => true

/-- Place of a record among those of one core cycle: FAULT records by source, then EVENT records by event (R522). -/
def Record.rank (r : Record) : Nat :=
  match r.ty with
  | 2 => numAt r.payload 0 2
  | 3 => 1024 + numAt r.payload 0 1
  | _ => 2048

/-- A record enters a buffer whose last n records came in the same core cycle (R522). -/
def placeRec (n : Nat) (l : List Record) (r : Record) : List Record :=
  let same := l.drop (l.length - n)
  l.take (l.length - n) ++ same.filter (fun x => decide (x.rank ≤ r.rank)) ++ r :: same.filter fun x => decide (r.rank < x.rank)

/-- Records that have entered the buffer in this core cycle (R522). -/
def State.recSame (s : State) : Nat := if s.recd.inCyc = some s.cyc then s.recd.inNum else 0

/-- A record enters the buffer, behind a LOSS record where records were dropped (R522, R523); while power-fail is
declared it goes straight to the ring behind the snapshot (R525). -/
def State.addRec (s : State) (ty : Nat) (payload : List Byte) : State :=
  let r := s.mkRec ty payload
  let need := r.size + (if s.recd.lossDrop = 0 then 0 else recSize 8)
  if s.recDirect then (if s.recd.lossDrop = 0 then s else (s.ringWrite s.lossRec false).modRec fun q => { q with lossDrop := 0, lossOvw := 0 }).ringWrite r false
  else if recBytesUsed s.recd.buf + need ≤ Config.recBufBytes then
    let c := s.cyc
    let n := s.recSame
    if s.recd.lossDrop = 0 then s.modRec fun q => { q with buf := placeRec n q.buf r, inCyc := some c, inNum := n + 1 }
    else
      let l := s.lossRec
      s.modRec fun q => { q with buf := q.buf ++ [l, r], lossDrop := 0, lossOvw := 0, inCyc := some c, inNum := 1 }
  else s.modRec fun q => { q with drop := q.drop + 1, lossDrop := q.lossDrop + 1 }

/-- Severity of a source; the cause duplicate of FS456 to FS463 takes FLT_DUPSEV (R267). -/
def State.sevOf (s : State) (n cause : Nat) : Nat :=
  if 456 ≤ n ∧ n ≤ 463 ∧ cause = 1 then s.im Img.fltDupsev else s.im Img.fltSev n

/-- The value that counts as asserted: the decoded line, lost integrity with FLT_ILOSS 0, or a force (R260, R265). -/
def Source.on (x : Source) (iloss : Bool) : Bool := x.forced || (if x.lost then !iloss else x.line)

/-- Source n is asserted now (FLT_ASSERTED). -/
def State.asserted (s : State) (n : Nat) : Bool := (s.src n).on (s.imb Img.fltIloss n)

/-- The count of R261: at most 15. -/
def Source.count (x : Source) : Nat := min 15 x.occ.length

/-- The state that a source's entry shows (R260, R264). -/
def State.srcState (s : State) (n : Nat) : EState :=
  let x := s.src n
  if x.lost || (s.stored (liSource n)).st == .failed && x.sticky then .failed
  else if s.asserted n || (s.imb Img.fltLatch n && x.sticky) then .active
  else .clear

/-- A request that a test selects has passed Welt and is not done: at Stitch, in a Tack slot or at Sole. -/
def State.accepted (s : State) (m : Req → Bool) : Bool :=
    s.pipe.normQ.any (fun o => m o.req) || s.pipe.fastQ.any (fun o => m o.req) ||
    s.pipe.tack.any (fun t => match t.2 with | some x => m x.op.req | none => false) || s.pipe.soleQ.any (fun c => m c.op.req)

/-- A request that a test selects is under way: at its port, in its queue, or accepted. -/
def State.underWay (s : State) (m : Req → Bool) : Bool :=
  s.pipe.offers.any (fun o => o.2.any m) || s.pipe.queues.any (fun q => q.2.any fun e => e.2.any m) || s.accepted m

/-- The commit of a source entry that the collector has submitted is still to come (R276). -/
def State.entryUnderWay (s : State) (n : Nat) : Bool :=
  s.underWay fun q => q.ep == liSource n && q.cls == 1 && q.reqr == reqrSource n

/-- Submit a source entry that differs from the one submitted last, at most once per epoch; a later change waits (R276). -/
def State.srcEntry (s : State) (n : Nat) : State :=
  let now := (s.srcState n, (s.src n).count)
  if !s.srcUsed n || !s.live then s
  else if now = (s.src n).sent then s.modSrc n fun x => { x with dirty := false }
  else if (s.src n).committed then s.modSrc n fun x => { x with dirty := true }
  else
    let r : Req := { stateReq (liSource n) now.1 1 (reqrSource n) with val2 := BitVec.ofNat 32 now.2 }
    (s.modSrc n fun x => { x with committed := true, dirty := false, sent := now }).offer 1 [r]

/-- The stage-fault source of a phase is CLEAR (R143, R147, R658). -/
def State.stageClear (s : State) (p : Nat) : Bool := s.srcState (2 * p) == .clear

/-- The spare that a SUBSTITUTE names: the lowest-numbered one that is SPARE with its stage-fault source CLEAR (R143, R147).
One that a SUBSTITUTE under way names already is passed over, a choice that the rule leaves open (DESIGN CHOICE, assumption
111). -/
def State.freeSpare (s : State) (r : Nat) : Option Nat :=
  (s.railPhases r).find? fun p => (s.phase p).spareRole && s.st (liPhase p) == .spare && s.stageClear p &&
    !s.underWay fun q => q.kind == .substitute && q.val == BitVec.ofNat 32 (liPhase p)

/-- The requests of R143 and R144 for a phase whose source n has occurred. RAIL_PH_MINRUN is judged behind their commits. -/
def State.phaseRequests (s : State) (n : Nat) : State :=
  let p := n / 2
  let r := s.phaseRail p
  if !s.imb Img.phUsed p || s.st (liPhase p) != .on then s
  else match s.freeSpare r with
    | some q => s.offer 1 [{ ep := liPhase p, kind := .substitute, val := BitVec.ofNat 32 (liPhase q), cls := 1, reqr := reqrSource n }]
    | none =>
      let on := (s.phasesOn r).length
      let s1 := s.offer 1 [stateReq (liPhase p) .failed 1 (reqrSource n)]
      if (s.shedPhases r (s.st r)).isEmpty then s1
      else s1.offer 1 [{ ep := r, kind := .phases, val := BitVec.ofNat 32 on, cls := 1, reqr := reqrSource n }]

/-- A rail that runs with fewer phases ON than RAIL_PH_MINRUN fails as the reaction of the phase's source, once the count
has been restored as far as it can be (R144). -/
def State.judgeMinrun (s : State) (r reqr : Nat) : State :=
  if (s.st r).alive && decide ((s.phasesOn r).length < s.im Img.railPhMinrun r) && decide (0x200 ≤ reqr) && decide (reqr < 0x260) &&
      !(s.underWay fun q => q.ep == r && q.kind == .phases && q.cls == 1) then
    s.offer 1 [stateReq r .failed 1 reqr]
  else s

/-- The built-in requests of an occurrence (R268). R141 keeps an overload from being a phase fault. -/
def State.builtIn (s : State) (n cause : Nat) (overload : Bool) : State :=
  if n < 96 then (if overload then s else s.phaseRequests n)
  else if n < 176 then
    let r := (n - 96) / 2
    if s.imb Img.railUsed r && (n % 2 == 1 || cause == 1) then s.offer 0 [stateReq r .failed 0 (reqrSource n)] else s
  else if n < 208 then
    let li := liSwitch (n - 176)
    if !s.imb Img.lsUsed (n - 176) then s
    else match cause with
      | 0 => s.offer 0 [stateReq li .failed 0 (reqrSource n)]
      | 3 => s.offer 0 [stateReq li .off 0 (reqrSource n)]
      | 1 => s.offer 1 [stateReq li .failed 1 (reqrSource n)]
      | _ => s
  else s

/-- The local reaction of a qualified source (R269). -/
def State.localReaction (s : State) (n cause : Nat) : State :=
  let target : Option Nat :=
    if 96 ≤ n ∧ n < 176 ∧ n % 2 = 0 ∧ (cause = 0 ∨ cause = 2 ∨ cause = 3) then some ((n - 96) / 2)
    else if 176 ≤ n ∧ n < 208 ∧ cause = 2 then some (liSwitch (n - 176))
    else none
  match target with
  | none => s
  | some li =>
    match s.st li with
    | .failed | .latchedOff | .off | .absent => s
    | _ => s.offer 1 [stateReq li .failed 1 (reqrSource n)]

/-- The group that a source affects (R271). -/
def State.affectedGroup (s : State) (n : Nat) : Option Nat :=
  if n < 96 then s.ownerOf (s.phaseRail (n / 2))
  else if n < 176 then s.ownerOf ((n - 96) / 2)
  else if n < 208 then s.ownerOf (liSwitch (n - 176))
  else if s.imb Img.fltGrpV n then some (s.im Img.fltGrp n) else none

/-- Force endpoints off: STATE OFF requests that call for discharge, in ascending endpoint ID (R233, R247). No program step raises
them, and their TAG is 0, those of R247 with the group's own requester included (R217; DESIGN CHOICE, assumption 137). -/
def State.forceOff (s : State) (lis : List Nat) (port cls reqr : Nat) : State :=
  lis.foldl (fun s li =>
    let s1 := s.offer port [{ stateReq li .off cls reqr with disch := true }]
    match s1.ownerOf li with
    | some g => s1.modGroup g fun x => { x with forced := x.forced ++ [li] }
    | none => s1) s

/-- The own commit of a group: state and step, with its own requester (R217, R219). -/
def State.groupCommit (s : State) (g : Nat) (st : Option EState) : State :=
  (s.modGroup g fun x => { x with react := x.react && st.isNone }).commit (liGroup g) { st := st, val := some (BitVec.ofNat 32 (s.group g).step), cls := 2, reqr := reqrGroup g }

/-- The accepted request of a group waits for its step boundary, or for the end of its unwinding (R218, R219). -/
def State.groupOp (s : State) (g : Nat) : Option (Nat × TackSlot) :=
  (s.pipe.tack.find? (fun x => match x.2 with
    | some t => t.op.req.ep == liGroup g && t.op.req.kind == .state && t.confirmed && t.replacedBy.isNone
    | none => false)).bind fun x => x.2.map fun t => (x.1, t)

/-- A bundle counts a member as confirmed (R119). -/
def Pipe.memberDone (p : Pipe) (b : Nat) (seq : BitVec 32) : Pipe :=
  match p.bundles.get none b with
  | some x => { p with bundles := p.bundles.set none b (some { x with confirmed := x.confirmed ++ [seq] }) }
  | none => p

/-- The accepted STATE request that waits for the step boundary commits now; a member of a bundle commits with it (R119, R218,
R219). -/
def State.releaseGroupOp (s : State) (g : Nat) (link : Option EState) : State :=
  match s.groupOp g with
  | some (k, t) =>
    let l := match link with
      | some e => some e
      | none => t.op.links.head?
    let now := s.cyc
    match t.op.bundle with
    | some b => s.modPipe fun p => p.memberDone b t.op.seq
    | none => s.modPipe fun p => { p with soleQ := p.soleQ ++ [{ op := t.op, link := l, final := true, slot := some k, cyc := now }] }
  | none => s

/-- An accepted request whose first transition a failed step or a forced shutdown has overtaken completes ABORTED, and so do
those that it had replaced; a member of a bundle is no longer confirmed, and its time limit ends the bundle (R120; DEDUCED,
assumption 105). -/
def State.dropGroupOp (s : State) (g : Nat) : State :=
  if (s.groupOp g).isNone then s
  else
    (s.pipe.tack.filter fun x => match x.2 with
      | some t => t.op.req.ep == liGroup g && t.op.req.kind == .state && t.confirmed
      | none => false).foldl (fun s x => match x.2 with
        | some t =>
          if t.op.bundle.isSome then s.modPipe fun p => { p with tack := p.tack.set none x.1 (some { t with confirmed := false }) }
          else (s.modPipe fun p => { p with tack := p.tack.set none x.1 none, soleQ := p.soleQ.filter fun c => c.slot != some x.1 }).complete t.op.req t.op.seq .aborted (s.ent t.op.req.ep).val
        | none => s) s

/-- A group in a state that the IMMEDIATE row ends (R39, R244). -/
def State.isRunning (s : State) (g : Nat) : Bool :=
  match s.st (liGroup g) with
  | .starting | .on | .stopping | .held => true
  | _ => false

/-- The IMMEDIATE row: every endpoint of the group that is STARTING, ON or DERATED is forced off, and the group commits
OFF through STOPPING once they are off (R244, R247). -/
def State.groupImmediate (s : State) (g port cls reqr : Nat) : State :=
  let l := (s.groupEps g).filter (fun li => (s.st li).alive)
  let s := s.forceOff l port cls reqr
  let s := (s.dropGroupOp g).modGroup g fun x => { x with running := false, run := .none, turn := none, stale := x.stale + (if x.run = .bundle then x.await else 0), immed := !l.isEmpty, ilForce := false, inwait := false, resuming := false, restart := false }
  let s := if s.st (liGroup g) = .stopping then s else s.groupCommit g (some .stopping)
  if l.isEmpty then (s.modGroup g fun x => { x with ilOff := x.ilOff || x.ilShut, ilShut := false }).groupCommit g (some .off) else s

/-- The target of the request that a reaction sends to a group, none for no request: by the group's state as the last tick
published it (R52, R244), and none while the group goes down under an earlier reaction (R273). -/
def State.reactionTarget (s : State) (sev g : Nat) : Option EState :=
  let st := s.seenSt (liGroup g)
  let now := s.st (liGroup g)
  let safe := s.im Img.seqSafe g
  match st with
  | .off | .latchedOff | .absent => none
  | .failed => some .off
  | _ =>
    if (s.group g).immed || ((s.group g).react && (now == .stopping || now == .held)) then none
    else if sev = 2 ∨ safe ≠ 2 then some .off
    else if st = .starting ∨ st = .stopping then some .held
    else none

/-- Of two sources decided in one core cycle the second takes the place of the first for a group: the higher severity, on a tie
the lower number (R273). -/
def outranks (sev n sev0 m : Nat) : Bool := decide (sev0 < sev) || (sev0 == sev && decide (n < m))

/-- The requests of one core cycle that source m sends to a group, as offered: its own to the group, or the forced stops of the
group's endpoints (R244, R273). -/
def State.reactsFor (s : State) (g m : Nat) (q : Req) : Bool :=
  q.reqr == reqrSource m && q.kind == .state && q.cls == 1 && (q.ep == liGroup g || (q.disch && (s.group g).forced.contains q.ep))

/-- The reaction of one group to a source of severity ISOLATE or SAFE (R244). Of the sources of one core cycle that react on a
group the collector submits the requests of one alone (R273). -/
def State.groupReaction (s : State) (n sev g : Nat) : State :=
  let now := s.cyc
  let earlier := match (s.group g).asked with
    | some (c, sv, m) => if c = now then some (sv, m) else none
    | none => none
  let asks (s : State) : State := s.modGroup g fun x => { x with asked := some (now, sev, n) }
  let react (s : State) : State := match s.reactionTarget sev g with
    | none => s
    | some t =>
      if s.im Img.seqSafe g = 1 ∧ s.isRunning g then (asks s).groupImmediate g 1 1 (reqrSource n)
      else (asks s).offer 1 [stateReq (liGroup g) t 1 (reqrSource n)]
  if !s.imb Img.seqUsed g then s
  else match earlier with
    | none => react s
    | some (sv, m) =>
      if !outranks sev n sv m then s
      else if (s.group g).immed then
        (asks s).modPipe fun p => { p with offers := p.offers.map fun o => if o.1 = 1 then (o.1, o.2.map fun q => if s.reactsFor g m q then { q with reqr := reqrSource n } else q) else o }
      else if (s.reactionTarget sev g).isNone then s
      else react (s.modPipe fun p => { p with offers := p.offers.filter fun o => !(o.1 == 1 && o.2.any fun q => s.reactsFor g m q) })

/-- A trigger condition of another block for the trace buffers (R209). -/
def State.traceExt (s : State) (cond : Nat → Nat → Nat → Bool) : State :=
  (List.range 16).foldl (fun s b =>
    let cfg := (s.rwWord (0x032000 + 0x20 * b)).toNat
    let trg := (s.rwWord (0x032004 + 0x20 * b)).toNat
    if (s.trace b).st == .armed && cond (bitsOf cfg 4 0) (bitsOf trg 3 0) (bitsOf trg 12 4) then
      s.modTrace b fun t => { t with ext := true }
    else s) s

/-- Raise an event (R277): counted, recorded, pending, committed ACTIVE. pulse n asserts FSn for one core cycle, for the
escalation of R266. -/
def State.raiseWith (pulse : State → Nat → State) (s : State) (e reqr : Nat) : State :=
  if !s.evtUsed e || !s.live then s
  else
    let x := s.evt e
    let val := (s.stored (liEvent e)).val.toNat + x.inFlight + 1
    let now := s.cyc
    let s1 := s.modEvt e fun x => { x with cnt := satAdd 0xFFFFFFFF x.cnt 1, pend := true, pendCyc := now, inFlight := x.inFlight + 1 }
    let s2 := s1.addRec 3 (leBytes 1 e ++ leBytes 1 0 ++ leBytes 2 reqr ++ leBytes 4 val)
    let s3 := s2.offer 1 [stateReq (liEvent e) .active 1 reqr]
    let n := s.im Img.evtEsc e
    if 1 ≤ n ∧ n ≤ 16 then pulse s3 (495 + n) else s3

/-- A wake condition (R341): noted in PARKED, the lowest code of one core cycle (R344, R348); strictly after the
PARK commit and before PARKED it abandons the entry and is recorded (R18, R344). -/
def State.wakeWith (raise : State → Nat → Nat → State) (pulse : State → Nat → State) (s : State) (code : Nat) : State :=
  if s.glb.mode = .parked then
    let now := s.cyc
    match s.glb.waking with
    | none => s.modGlb fun g => { g with waking := some (code, now) }
    | some (c, k) => if k = now ∧ code < c then s.modGlb fun g => { g with waking := some (code, now) } else s
  else if s.glb.mode = .run ∧ s.glb.parkPend ∧ s.glb.parkCyc.any (· < s.cyc) then
    let s1 := s.modGlb fun g => { g with parkPend := false, parkTick := false }
    pulse (raise s1 218 (reqrSource 366)) 366
  else s

/-- What a qualification does (R262, R267, R274, R275): raise and pulse serve its wake condition. -/
def State.qualifyWith (wake : State → Nat → State) (s : State) (n : Nat) (moved : Bool) : State :=
  let cause := (s.src n).cause
  let sev := s.sevOf n cause
  let s := s.modSrc n fun x => { x with qual := true }
  if sev = 0 then s
  else
    let now := s.cyc
    let s := s.modSrc n fun x => { x with pend := true, pendCyc := now }
    let s := s.modRec fun q => { q with trigger := true }
    let s := if moved then s else s.localReaction n cause
    let s := if sev = 2 then (match s.affectedGroup n with
        | some g => s.groupReaction n sev g
        | none => s)
      else if sev = 3 then (List.range 16).foldl (fun s g => s.groupReaction n sev g) s
      else s
    let s := if sev = 3 then { s with faultN := true } else s
    if sev = 3 || s.imb Img.wakeFlt then wake s 5 else s

/-- The latched status bits of a rail that an occurrence of its window sources sets: STATUS_VOUT in the high byte and
STATUS_IOUT in the low byte (R551). -/
def statusBits (n cause : Nat) : BitVec 16 :=
  if n < 96 ∨ 176 ≤ n then 0
  else if n % 2 = 1 then 0x8000#16
  else match cause with
    | 0 => 0x1000#16 | 3 => 0x1000#16 | 2 => 0x0400#16 | 1 => 0x0080#16 | _ => 0

/-- Latch the status bits of an occurrence (R551). -/
def State.latchStatus (s : State) (n cause : Nat) : State :=
  if statusBits n cause = 0 then s
  else s.modHost fun h => { h with latched := h.latched.set 0 ((n - 96) / 2) (h.latched.get 0 ((n - 96) / 2) ||| statusBits n cause) }

/-- The endpoint that a fault source may latch, and whose recovery it holds up (R270). -/
def latchEp (n : Nat) : Option Nat :=
  if 96 ≤ n ∧ n < 176 then some ((n - 96) / 2) else if 176 ≤ n ∧ n < 208 then some (liSwitch (n - 176)) else none

/-- An occurrence of a source with FLT_LATCH 1 counts for the latch of its endpoint, up to the epoch that follows the FAILED
commit (R270). -/
def State.latchNote (s : State) (n : Nat) : State :=
  match latchEp n with
  | some li =>
    if s.imb Img.fltLatch n && !(s.st li == .failed && decide ((s.policy li).failEpoch + 1 < s.led.epoch)) then
      s.modPolicy li fun p => { p with latchSrc := some (match p.latchSrc with | some m => min m n | none => n) }
    else s
  | none => s

/-- The occurrences of source n that are FLT_CNT_W ms old leave its count before a new one enters it (R261). -/
def State.leaveCount (s : State) (n : Nat) : State :=
  let now := s.cyc
  let young : Nat → Bool := fun t => decide (s.time < t + 1000 * usTime * s.im Img.fltCntW n)
  if (s.src n).occ.all young then s else s.modSrc n fun x => { x with occ := x.occ.filter young, leftCyc := some now }

/-- An occurrence of a used source n (R263, R268): sticky, cause, count, record, built-in requests, qualification, entry. One
that arrived in a warm start counts from its arrival (R338). -/
def State.occurWith (wake : State → Nat → State) (s : State) (n cause : Nat) (overload : Bool) : State :=
  let s := (s.modSrc n fun x => { x with cause := cause }).latchStatus n cause
  let s := s.traceExt fun r src fs => (src == 9 && fs == n) || (src == 4 && (n == 96 + 2 * r || n == 97 + 2 * r))
  let moved := (96 ≤ n && n < 176 && (n % 2 == 1 || cause == 1)) || (176 ≤ n && n < 208 && cause ≤ 1)
  let s := s.builtIn n cause overload
  let s := ((s.leaveCount n).modSrc n fun x => { x with sticky := true, occ := x.occ ++ [s.glb.lineAt.getD s.time] }).latchNote n
  let x := s.src n
  let qual := decide (s.im Img.fltCntN n ≤ x.count) && !x.qual
  let s := s.addRec 2 (leBytes 2 n ++ leBytes 2 cause ++ leBytes 1 x.count ++
    leBytes 1 (s.sevOf n cause + 4 * b2n qual + 8 * b2n x.lost + 16 * b2n x.forced) ++ leBytes 2 0)
  let s := if qual then s.qualifyWith wake n moved else s
  s.srcEntry n

/-- No source of severity SAFE is asserted (R274). -/
def State.noSafe (s : State) : Bool :=
  !((List.range 512).any fun n => s.srcUsed n && s.asserted n && s.sevOf n (s.src n).cause == 3)

/-- The end of an assertion (R262, R264, R274). -/
def State.clearSrc (s : State) (n : Nat) : State :=
  let s := s.modSrc n fun x => { x with qual := false }
  let s := if s.faultN && !s.imb Img.fltFaultnMode && s.noSafe then { s with faultN := false } else s
  s.srcEntry n

/-- The decoded line is asserted, or a force stands in for it (R256, R265). -/
def Source.decoded (x : Source) : Bool := x.forced || (x.line && !x.lost)

/-- Change source n and decide what follows (R258): an occurrence, the end of an assertion, a new entry, or nothing. A new loss
of integrity with FLT_ILOSS 0 is an occurrence of its own (R260), and a change of integrity alone changes the entry (R264). A
source that is not used makes its built-in requests when its decoded value changes to asserted, and does nothing else (R268).
Before RUN the failure is noted for the first committed epoch (R329). -/
def State.srcChangeWith (wake : State → Nat → State) (s : State) (n : Nat) (f : Source → Source) (cause : Nat)
    (overload : Bool := false) : State :=
  let was := s.asserted n
  let old := s.src n
  let s := s.modSrc n f
  let now := s.asserted n
  let lost := (s.src n).lost
  if !s.live then (if now && !was then s.modSrc n fun x => { x with early := some cause } else s)
  else if !s.srcUsed n then (if (s.src n).decoded && !old.decoded then s.builtIn n cause overload else s)
  else if now && (!was || lost && !old.lost && !s.imb Img.fltIloss n) then s.occurWith wake n cause overload
  else if was && !now then s.clearSrc n
  else if lost != old.lost then s.srcEntry n
  else s

/-- Occurrences, pulses, events and wake conditions call each other: an event may escalate to a source, a source may
qualify and wake, a wake that abandons park entry raises an event and a source. One round of that is nested in the next;
the abandonment ends the park entry, so four rounds hold every chain (R18, R266, R277, R341). A pulse adds nothing to a line
that is asserted already, which goes on (R266). -/
def State.pulseN : Nat → State → Nat → State
  | 0, s, _ => s
  | k + 1, s, n =>
    let raise := State.raiseWith (State.pulseN k)
    let wake := State.wakeWith raise (State.pulseN k)
    if (s.src n).line then s
    else
      let s := s.srcChangeWith wake n (fun x => { x with line := true }) 0
      s.srcChangeWith wake n (fun x => { x with line := false }) 0

/-- Raise event e with its requester of R280 (R277). -/
def State.raiseEvt (s : State) (e reqr : Nat) : State := s.raiseWith (State.pulseN 4) e reqr

/-- A wake condition with its code of R341. -/
def State.wake (s : State) (code : Nat) : State := s.wakeWith State.raiseEvt (State.pulseN 4) code

/-- Change source n and decide what follows (R258). -/
def State.srcChange (s : State) (n : Nat) (f : Source → Source) (cause : Nat) (overload : Bool := false) : State :=
  s.srcChangeWith State.wake n f cause overload

/-- The line of source n asserts with a cause (R258). -/
def State.assertSrc (s : State) (n cause : Nat) : State := s.srcChange n (fun x => { x with line := true }) cause

/-- The line of source n clears (R258). -/
def State.releaseSrc (s : State) (n : Nat) : State := s.srcChange n (fun x => { x with line := false }) 0

/-- Source n asserts for one core cycle (R51, R266, R659). -/
def State.pulseSrc (s : State) (n cause : Nat) : State := (s.assertSrc n cause).releaseSrc n

/-- A source with several causes: cause c holds or ends; the line is their OR, and only its rise is an occurrence
(R430). -/
def State.holdCause (s : State) (n c : Nat) (on : Bool) : State :=
  let m := BitVec.ofNat 16 (2 ^ c)
  let old := (s.src n).holds
  let new := if on then old ||| m else old &&& ~~~m
  if new = old then s
  else
    let s := s.modSrc n fun x => { x with holds := new }
    if old = 0 then s.assertSrc n c else if new = 0 then s.releaseSrc n else s

/-- A detection without a condition that remains: one core cycle of its own, or an occurrence under the cause that holds the
line asserted, which goes on (R659). -/
def State.detect (s : State) (n cause : Nat) : State :=
  if (s.src n).holds = 0 then s.pulseSrc n cause else if s.live && s.srcUsed n then s.occurWith State.wake n cause false else s

/-- The line of source n follows a condition. -/
def State.followSrc (s : State) (n cause : Nat) (on : Bool) : State := if on then s.assertSrc n cause else s.releaseSrc n

/-- The next free value of the random source (R578, assumption 3). -/
def State.fresh (s : State) : Word × State := (Config.freeWord s.freeCtr, { s with freeCtr := s.freeCtr + 1 })

/-- The frozen-loop event of a loop and its requester (R81, R280). -/
def loopEvent (k : Nat) : Nat × Nat :=
  if k < 64 then (48 + k, 0x21) else if k < 128 then (96 + (k - 64), 0x25)
  else if k < 256 then (209, 0x23) else if k = 256 then (231, 0x22) else (238, 0x24)

/-- Clamp count K and window W of a loop (R81). -/
def State.loopKW (s : State) (k : Nat) : Nat × Nat :=
  if k < 64 then (s.im Img.railShedK, s.im Img.railShedW)
  else if k < 128 then (s.im Img.loopLlK (k - 64), s.im Img.loopLlW (k - 64))
  else if k < 256 then (s.im Img.thmDerK, s.im Img.thmDerW)
  else if k = 256 then (s.im Img.chgTrkK, s.im Img.chgTrkW)
  else (s.im Img.gauK, s.im Img.gauW)

/-- The load-line loop of a rail acts: LOOP_LL_UOHM is not 0 (R201). -/
def State.hasLoadLine (s : State) (r : Nat) : Bool := decide (r < 32) && s.im Img.loopLlUohm r != 0

/-- The endpoints that a loop acts on (R81, R201, R433). -/
def State.loopEps (s : State) (k : Nat) : List Nat :=
  if k < 64 then [k] else if k < 128 then [k - 64]
  else if k < 256 then [s.im Img.thmDtEp (k - 128)] else if k = 256 then [liCharger] else [liGauge]

/-- The loops that act on an endpoint (R83). -/
def State.loopsOf (s : State) (li : Nat) : List Nat :=
  (match kindOf li with
    | .rail r => (if r < 24 then [r] else []) ++ (if s.hasLoadLine r then [64 + r] else [])
    | .charger => [256]
    | .gauge => [257]
    | _ => []) ++
  ((List.range 128).filter (fun t => s.imb Img.thmDtUsed t && s.im Img.thmDtEp t == li)).map (· + 128)

/-- The loop whose request this is, by requester (R88). -/
def State.loopOf (li reqr dt : Nat) : Option Nat :=
  if reqr = 0x21 then some li else if reqr = 0x25 then some (64 + li)
  else if reqr = 0x23 then (if 1 ≤ dt ∧ dt ≤ 128 then some (127 + dt) else none)
  else if reqr = 0x22 then some 256 else if reqr = 0x24 then some 257 else none

/-- A clamped request of loop k commits (R81): past K clamps in W epochs the loop freezes. The answer's flag says whether
the clamped commit carries ADAPT_FROZEN. -/
def State.loopClamp (s : State) (k : Nat) : Bool × State :=
  let (kk, w) := s.loopKW k
  let cl := ((s.loop k).clamps.filter (fun e => s.led.epoch < e + w)) ++ [s.led.epoch]
  if cl.length ≤ kk ∨ (s.loop k).frozen then (false, s.modLoop k fun l => { l with clamps := cl })
  else (true, s.modLoop k fun _ => { clamps := cl, frozen := true })

/-- After the clamped commit that froze loop k: its event, and the flag on its other endpoints (R81). -/
def State.loopFrozen (s : State) (k li cls reqr : Nat) : State :=
  let s := ((s.loopEps k).filter (· ≠ li)).foldl (fun s j => s.commitFlags j cls reqr (flagMask fFROZEN) 0) s
  s.raiseEvt (loopEvent k).1 (loopEvent k).2

/-- Restart the dwell counts of a rail (R150). -/
def State.restartDwell (s : State) (r : Nat) : State := s.modRail r fun x => { x with dwellUp := 0, dwellDn := 0 }

/-- The loops of an endpoint resume (R83): counts and dwells restart, and their other endpoints lose the flag. -/
def State.resumeLoops (s : State) (li cls reqr : Nat) : State :=
  (s.loopsOf li).foldl (fun s k =>
    if (s.loop k).frozen then
      let s := s.modLoop k fun _ => {}
      let s := if k < 64 then s.restartDwell k else s
      ((s.loopEps k).filter (· ≠ li)).foldl (fun s j => s.commitFlags j cls reqr 0 (flagMask fFROZEN)) s
    else s) s

end Sys2Proof.Machine
end

