-- ==== Sys2Proof/Machine/Links.lean ====
section
/-! DEFINITION. Sending on an eyelet: classes, credit, sequence numbers and priorities (R354 to R360), and the frames that
carry requests, completions and bulk data. -/

namespace Sys2Proof.Machine

/-- Credit class of a frame: operation 0, delta 1, control 2, bulk 3; completions need none (R354, R359). -/
def frameClass : FrameKind → Option Nat
  | .op => some 0
  | .delta | .mirror => some 1
  | .joinReq | .joinGrant | .leave | .lost => some 2
  | .bulk => some 3
  | .cpl => none

/-- TYPE of a frame (R354). -/
def frameType : FrameKind → Nat
  | .joinReq => 0x10 | .joinGrant => 0x11 | .leave => 0x12 | .lost => 0x13 | .op => 0x20 | .cpl => 0x21
  | .delta => 0x30 | .mirror => 0x31 | .bulk => 0x40

/-- The payload on the hop: an OP or CPL ends with its OTAG (R357). -/
def frameBody (f : Frame) : List Byte :=
  match f.kind with
  | .op | .cpl => f.payload ++ leBytes 2 f.otag.toNat
  | _ => f.payload

/-- The 6-byte header of a frame with its link sequence number (R352). -/
def frameHeader (f : Frame) (seq : BitVec 8) : List Byte :=
  leBytes 1 (frameType f.kind) ++ leBytes 1 f.dst.val ++ leBytes 1 (f.src.val + 128 * b2n f.noSlot) ++ [seq] ++ leBytes 2 (frameBody f).length

/-- A frame between SOF and EOF: header, payload and the CRC-32C over both (R352). -/
def frameBytes (f : Frame) (seq : BitVec 8) : List Byte :=
  let l := frameHeader f seq ++ frameBody f
  l ++ leBytes 4 (crc32c l).toNat

/-- The direction of a frame: some kinds go down from a parent, some up from a child, BULK goes both ways (R354). -/
def frameComes (k : FrameKind) (fromParent : Bool) : Bool :=
  match k with
  | .joinGrant | .op | .mirror => fromParent
  | .joinReq | .leave | .lost | .cpl | .delta => !fromParent
  | .bulk => true

/-- Symbols 1 to 9 of an epoch marker (R357). -/
def markerSymbols (m : Marker) : List Byte :=
  leBytes 6 m.epoch.toNat ++ leBytes 2 m.countdown.toNat ++ leBytes 1 (b2n m.jump + 2 * m.ddiv.val + 16 * b2n m.takeover)

/-- A marker with its CRC-8 (R357). -/
def sealMarker (m : Marker) : Marker := { m with crc := crc8 (markerSymbols m) }

/-- Order of priority on the way out (R358): CPL, OP, DELTA and MIRROR, control, BULK. -/
def framePrio : FrameKind → Nat
  | .cpl => 0
  | .op => 1
  | .delta | .mirror => 2
  | .joinReq | .joinGrant | .leave | .lost => 3
  | .bulk => 4

/-- The sender holds credit for a class: frames sent, modulo 256, differ from the latest limit (R357). -/
def Eyelet.credit (x : Eyelet) (c : Nat) : Nat := (256 + x.limits.get 0 c - x.sentCls.get 0 c % 256) % 256

/-- A frame may leave now: credit, and fewer than 32 frames unacknowledged (R355, R357). -/
def Eyelet.maySend (x : Eyelet) (f : Frame) : Bool :=
  x.unacked.length < 32 && match frameClass f.kind with
    | some c => x.credit c != 0
    | none => true

/-- A sequenced frame leaves (R355, R357). -/
def Eyelet.putFrame (x : Eyelet) (f : Frame) : Eyelet :=
  let sent := match frameClass f.kind with
    | some c => x.sentCls.set 0 c ((x.sentCls.get 0 c + 1) % 256)
    | none => x.sentCls
  { x with txSeq := x.txSeq + 1, unacked := x.unacked ++ [(x.txSeq, f)], sentCls := sent }

/-- The waiting frame of the highest priority that may leave, and the rest. -/
def Eyelet.pick (x : Eyelet) : Option (Frame × List Frame) :=
  match (List.range 5).filterMap (fun p => x.txQ.find? (fun f => framePrio f.kind == p && x.maySend f)) with
  | f :: _ => some (f, x.txQ.erase f)
  | [] => none

/-- Send waiting frames while they may leave (R358). -/
def Eyelet.pump : Nat → Eyelet → Eyelet
  | 0, x => x
  | n + 1, x => match x.pick with
    | some (f, rest) => Eyelet.pump n ({ x with txQ := rest }.putFrame f)
    | none => x

/-- Hand a frame to an eyelet; it leaves at once or waits for credit. An eyelet that is not UP sends nothing (R350, R388). -/
def State.sendFrame (s : State) (e : Nat) (f : Frame) : State :=
  if (s.eye e).st = .up then s.modEye e fun x => { x with txQ := x.txQ ++ [f] }.pump (x.txQ.length + 1) else s

/-- Bytes of four words, little-endian (R2). -/
def words4Bytes (w : Words4) : List Byte :=
  leBytes 4 w.w0.toNat ++ leBytes 4 w.w1.toNat ++ leBytes 4 w.w2.toNat ++ leBytes 4 w.w3.toNat

/-- Four words of a byte list. -/
def words4Of (l : List Byte) : Words4 :=
  { w0 := wordOf (numAt l 0 4), w1 := wordOf (numAt l 4 4), w2 := wordOf (numAt l 8 4), w3 := wordOf (numAt l 12 4) }

/-- Slot number as a frame field. -/
def slotFin (n : Nat) : Fin 64 := Fin.ofNat 64 n

/-- Source slot of this unit's frames: 0 downward as domain head, its own slot upward (R352). -/
def State.mySlotUp (s : State) : Fin 64 := slotFin s.lace.mySlot

/-- Send an operation toward a slot of this unit's domain: the request as the tree carries it, requester 0x1000 plus the
number of the originator, class 3 (R88, R103, R357). -/
def State.sendOp (s : State) (q : Req) (slot : Nat) : State :=
  let r : Req := { q with cls := 3, reqr := if 0x1000 ≤ q.reqr then q.reqr else 0x1000 + q.reqr }
  let sl := slotOf q.ep
  s.sendFrame (s.slotRec sl).eye { kind := .op, dst := slotFin sl, src := 0, otag := BitVec.ofNat 10 slot, slot := 0,
                                   payload := words4Bytes r.words }

/-- The way to a slot has operation credit (R100). -/
def State.opCredit (s : State) (sl : Nat) : Bool :=
  let x := s.eye (s.slotRec sl).eye
  x.st == .up && x.credit 0 != 0 && x.unacked.length < 32

/-- Send a completion for the parent; without a parent it is dropped and counted (R114, R382). -/
def State.sendCplUp (s : State) (w : Words4) (otag : Nat) : State :=
  match s.lace.parent with
  | some e =>
    if (s.eye e).st = .up then
      s.sendFrame e { kind := .cpl, dst := 0, src := s.mySlotUp, otag := BitVec.ofNat 10 otag, slot := 0, payload := words4Bytes w }
    else s.modLace fun l => { l with cplDrop := satAdd 0xFFFF l.cplDrop 1 }
  | none => s.modLace fun l => { l with cplDrop := satAdd 0xFFFF l.cplDrop 1 }

/-- Endpoint shown at folded index f: the fold table's, or this unit's own (R379). -/
def State.foldEp (s : State) (f : Nat) : Nat := if s.imb Img.laceFoldV f then s.im Img.laceFoldEp f else f

/-- GLB_ROLE codes that hold a domain: root 1 and group head (R10, R24). -/
def State.isGroupHead (s : State) : Bool := s.glb.role == 4

end Sys2Proof.Machine
end

