-- ==== Sys2Proof/Machine/Welt.lean ====
section
/-! DEFINITION. The check stage: the transitions of R39, the chains of R40, the targets that requests may name, and the
decision of R97. -/

namespace Sys2Proof.Machine

/-- Endpoint types of rails, load switches and foreign outputs (R37). -/
def isOutputType (t : Nat) : Bool := t == 1 || t == 2 || t == 3 || t == 5 || t == 0x14
/-- Endpoint types of rails (R37). -/
def isRailType (t : Nat) : Bool := t == 1 || t == 2 || t == 3
/-- Endpoint types of measured channels and foreign readings (R37). -/
def isReadingType (t : Nat) : Bool := (6 ≤ t && t ≤ 10) || (0x15 ≤ t && t ≤ 0x18)

/-- The transitions of R39, UNREACHABLE apart. A type that lacks a state (R37) has no transition to or from it. -/
def legalTrans (t : Nat) (a b : EState) : Bool :=
  if isOutputType t then
    match a, b with
    | .off, .starting | .starting, .on | .failed, .off | .failed, .latchedOff | .latchedOff, .off => true
    | .starting, .failed | .on, .failed | .derated, .failed => true
    | .on, .derated | .derated, .on => t != 0x14
    | .starting, .stopping | .on, .stopping | .stopping, .off | .stopping, .failed => t != 5
    | .derated, .stopping => t != 5
    | .starting, .off | .on, .off | .derated, .off => t == 5
    | _, _ => false
  else if isReadingType t then
    match a, b with
    | .valid, .stale | .stale, .valid => true
    | _, _ => false
  else match t with
    | 4 => match a, b with
      | .off, .on | .on, .off | .spare, .on | .on, .failed | .failed, .latchedOff | .latchedOff, .off | .latchedOff, .spare => true
      | _, _ => false
    | 0x12 => match a, b with
      | .off, .starting | .starting, .on | .on, .stopping | .starting, .stopping | .stopping, .off | .starting, .held
      | .stopping, .held | .held, .starting | .held, .stopping | .starting, .failed | .failed, .starting
      | .failed, .latchedOff | .latchedOff, .off => true
      | _, _ => false
    | 0x0F => match a, b with
      | .off, .starting | .held, .starting | .starting, .on | .on, .derated | .derated, .on | .on, .off | .derated, .off
      | .starting, .held | .on, .held | .derated, .held | .active, .off | .active, .latchedOff | .starting, .latchedOff
      | .on, .latchedOff | .derated, .latchedOff | .latchedOff, .off => true
      | .off, .active | .starting, .active | .on, .active | .derated, .active | .held, .active => true
      | _, _ => false
    | 0x0D => match a, b with
      | .off, .active | .active, .failed | .failed, .active => true
      | _, _ => false
    | 0x0E => match a, b with
      | .valid, .derated | .derated, .valid | .derated, .failed | .failed, .valid | .stale, .valid => true
      | .valid, .stale | .derated, .stale | .failed, .stale => true
      | _, _ => false
    | 0x10 => match a, b with
      | .off, .stale | .valid, .stale | .stale, .valid | .valid, .held | .stale, .held | .held, .valid | .held, .stale => true
      | .valid, .off | .stale, .off | .held, .off => true
      | _, _ => false
    | 0x11 => match a, b with
      | .valid, .held | .held, .valid | .valid, .stale | .held, .stale | .stale, .valid => true
      | _, _ => false
    | 0x0B => match a, b with
      | .clear, .active | .active, .clear | .clear, .failed | .active, .failed | .failed, .clear => true
      | _, _ => false
    | 0x0C => match a, b with
      | .clear, .active | .active, .clear => true
      | _, _ => false
    | 0x13 => match a, b with
      | .active, .clear | .clear, .active | .active, .stale | .clear, .stale | .stale, .active | .stale, .clear => true
      | _, _ => false
    | _ => false

/-- The chain of links that the progress of an operation of its own makes (R40), for rails, load switches and foreign
outputs; none where there is none (R41). Reserved transitions are never links. -/
def outputChain (t : Nat) (a target : EState) : Option (List EState) :=
  match target with
  | .on => match a with
    | .off => some [.starting, .on]
    | .starting => some [.on]
    | .derated => if t = 5 then some [.off, .starting, .on] else if t = 0x14 then none else some [.stopping, .off, .starting, .on]
    | .stopping => if t = 5 then none else some [.off, .starting, .on]
    | _ => none
  | .off => match a with
    | .starting | .on | .derated => if t = 5 then some [.off] else some [.stopping, .off]
    | .stopping => if t = 5 then none else some [.off]
    | _ => none
  | _ => none

/-- Raisers of events, by the table of R280: a P1 request for ACTIVE comes from no other source. -/
def eventRaiser (q : Req) : Bool := q.cls == 1

/-- Whether R40 opens a STATE target to the class and requester, in state a. Groups and the charger are decided apart. A
watchdog that is ACTIVE already meets the row of the same state (DEDUCED, assumption 106). -/
def stateOpen (t li : Nat) (a target : EState) (q : Req) : Bool :=
  if isOutputType t then
    match target with
    | .on | .off => true
    | .failed | .latchedOff => q.cls ≤ 1
    | .derated => q.cls == 0 && q.prot.isSome
    | _ => false
  else match t with
    | 4 => (target == .failed || target == .latchedOff) && q.cls ≤ 1
    | 0x12 => true
    | 0x0F => true
    | 0x0D => (target == .active && (a == .off || a == .active) && 1 ≤ q.cls && q.cls ≤ 5) || q.reqr == reqrSource (448 + (li - 0x500))
    | 0x0E => q.reqr == 0x23 && (target == .valid || target == .derated || target == .failed)
    | 0x10 => q.reqr == 0x24
    | 0x11 => target == .valid || target == .held || (target == .stale && q.reqr == reqrSource 266)
    | 0x0B => 0x200 ≤ q.reqr && q.reqr ≤ 0x3FF
    | 0x0C => (target == .active && eventRaiser q) || (target == .clear && (q.cls == 3 || q.cls == 4))
    | _ => false

/-- KIND against endpoint type and class (R87). -/
def kindFits (t : Nat) (q : Req) : Bool :=
  let c := q.cls
  match q.kind with
  | .state => c ≤ 5
  | .setpoint => (isRailType t || t == 0x14) && 1 ≤ c && c ≤ 5
  | .limit => (isRailType t || t == 5 || t == 0x0F) && c ≤ 5
  | .phases => t == 1 && 1 ≤ c && c ≤ 5
  | .envelope => (isOutputType t || t == 0x0F) && 2 ≤ c && c ≤ 4
  | .phEnvelope => t == 1 && 2 ≤ c && c ≤ 4
  | .unfreeze => (t == 1 || t == 2 || t == 3 || t == 5 || t == 0x0F || t == 0x10) && c == 4
  | .clear => c == 3 || c == 4
  | .publish => (isReadingType t || t == 0x0E || t == 0x0F || t == 0x10) && c == 5 && 0x26 ≤ q.reqr && q.reqr ≤ 0x29
  | .substitute => t == 4 && c == 1
  | .park => 2 ≤ c && c ≤ 4
  | .energy => t == 0x0F && (c == 4 || c == 3)
  | .none _ => false

/-- An endpoint that a CLEAR may name: LATCHED_OFF, or a source with a sticky fault, which the unit of another slot knows (R87,
R264). -/
def State.clearable (s : State) (id : Nat) (e : Entry) : Bool :=
  e.st == .latchedOff ||
  (slotOf id == 0 && match kindOf (liOf id) with
    | .source n => (s.src n).sticky || e.st == .failed
    | _ => false) ||
  (slotOf id != 0 && e.ty == 0x0B)

/-- The collector refuses a CLEAR while the line is asserted or its integrity is lost (R264). -/
def State.clearBlocked (s : State) (id : Nat) : Bool :=
  slotOf id == 0 && match kindOf (liOf id) with
    | .source n => s.asserted n || (s.src n).lost
    | _ => false

/-- The interface that a request came from, by requester (R88). -/
def ifaceOf (reqr : Nat) : Option Iface := if reqr = 0x40 then some .twb0 else if reqr = 0x41 then some .spi else none

/-- A CLEAR is authorised (R580): a P4 by an armed action 0x0010 of its interface, a P3 always. -/
def State.clearAuth (s : State) (q : Req) : Bool :=
  q.cls == 3 || match ifaceOf q.reqr with
    | some i => match (s.iface i).armed with
      | some (act, arg, _) => act == 0x10 && (arg == 0xFFFFFFFF#32 || bitsOf arg.toNat 16 0 == q.ep)
      | none => false
    | none => false

/-- The set-point range of R127, in mV, of a rail type. -/
def railRange (t : Nat) : Int × Int := if t = 1 then (300, 5500) else if t = 2 then (500, 5500) else (500, 5000)

/-- The type of rail r (R127). -/
def railTy (r : Nat) : Nat := if r < 24 then 1 else if r < 32 then 2 else 3

/-- A set-point exceeds 85 % of the voltage at the input of a local buck (R127). -/
def State.overBuckIn (s : State) (id : Nat) (v : Int) : Bool :=
  slotOf id == 0 && decide (24 ≤ liOf id) && decide (liOf id < 32) && decide ((85 * Config.buckInMv (liOf id - 24) s.cyc : Nat) < 100 * v)

/-- The value of a request lies outside the range of its kind (R97). Bounds that the image of another unit sets, and the
inputs of its bucks, are judged by that unit. -/
def State.badRange (s : State) (t : Nat) (q : Req) : Bool :=
  let v := q.val.toInt
  let v2 := q.val2.toInt
  let li := liOf q.ep
  let loc := slotOf q.ep == 0
  let rr := railRange t
  let out := fun x : Int => isRailType t && (x < rr.1 || rr.2 < x || s.overBuckIn q.ep x)
  match q.kind with
  | .setpoint => out v
  | .limit => v < 0
  | .envelope => v2 < v || out v || out v2 || ((t == 5 || t == 0x0F) && v < 0)
  | .phases => v < 1 || (loc && (s.im Img.railNph li + s.im Img.railNsp li : Nat) < v)
  | .phEnvelope => v2 < v || v < 1 || v2 < 1 ||
      (loc && ((s.im Img.railNph li + s.im Img.railNsp li : Nat) < v2 || (s.im Img.railNph li + s.im Img.railNsp li : Nat) < v))
  | _ => false

/-- The interlock graph forbids the change that these links make: one that leaves OFF, or one through STOPPING or OFF, that of a
CLEAR included (R231, R232). -/
def State.interlocked (s : State) (q : Req) (links : List EState) : Bool :=
  slotOf q.ep == 0 && (q.kind == .state || q.kind == .clear) &&
    ((links.contains .starting && 1 ≤ q.cls &&
        s.edges.any (fun e => e.2 == liOf q.ep && !(s.st e.1).running)) ||
     ((links.contains .stopping || links.contains .off) && 3 ≤ q.cls &&
        s.edges.any (fun e => e.1 == liOf q.ep && (match s.st e.2 with
          | .off | .failed | .latchedOff => false
          | _ => true))))

/-- A unit serves other slots (domain head or relay) and one of them is neither parked nor UNREACHABLE (R389). A relay goes by its
own slot table, which does not hear of a declaration for lag (DESIGN CHOICE, assumption 144). -/
def State.servesAwake (s : State) : Bool :=
  s.lace.slots.any fun x => x.2.st == .counted || x.2.st == .joining

/-- Parking is refused (R17, R389). A rail that the image does not enable is ABSENT and counts as OFF (DEDUCED, assumption
106). -/
def State.parkRefused (s : State) : Bool :=
  (List.range 16).any (fun g => s.st (liGroup g) == .starting || s.st (liGroup g) == .stopping) ||
  (List.range 32).any (fun r => match s.st r with
    | .off | .absent => false
    | _ => true) ||
  s.servesAwake

/-- While a PARK stands, and in PARKED, nothing moves a group or one of RAIL00 to RAIL31 out of OFF (R19, R339). -/
def State.parkHolds (s : State) (q : Req) (target : EState) (a : EState) : Bool :=
  (s.glb.parkPend || s.glb.mode == .parked) && slotOf q.ep == 0 && q.kind == .state && a == .off && target != .off &&
    match kindOf (liOf q.ep) with
    | .rail r => r < 32
    | .group _ => true
    | _ => false

/-- ENERGY order fields of R392: order, partner, current limit, voltage, time limit. -/
def energyOf (v : BitVec 32) : Energy :=
  { order := bitsOf v.toNat 2 0, partner := bitsOf v.toNat 9 4, ilim := bitsOf v.toNat 15 10, vnet := bitsOf v.toNat 24 16,
    tlim := bitsOf v.toNat 31 25 }

/-- The ranges of an ENERGY order (R392, R393). -/
def Energy.inRange (o : Energy) : Bool := o.order ≤ 3 && 1 ≤ o.ilim && o.ilim ≤ 40 && 120 ≤ o.vnet && o.vnet ≤ 300

/-- What R393 refuses at the root, an END like the others, with the other members of the request's bundle at hand. A member takes
the END that the root sends of itself (R394), whose VAL is 0. -/
def State.energyRefused (s : State) (q : Req) (bundle : List Req) : Bool :=
  let o := energyOf q.val
  if q.cls = 3 then !(q.val == 0 || o.inRange)
  else
    s.glb.role != 1 || slotOf q.ep == 0 || !o.inRange ||
    ((o.order == 1 || o.order == 3) && !bundle.any (fun p => p.kind == .energy && slotOf p.ep == o.partner &&
        (energyOf p.val).order == 2 && (energyOf p.val).partner == slotOf q.ep)) ||
    (o.order == 3 && s.lace.drain.isSome) ||
    (let g := s.ent (epId o.partner liGauge)
     g.st != .valid || g.val.toInt < (s.im Img.laceEnSocmin * 100 : Nat))

/-- What Welt decides of one request (R97). -/
inductive WeltRes where
  | refuse (c : Code)
  | noop
  | issue (val : BitVec 32) (clamped recheck : Bool) (links : List EState)
  deriving DecidableEq, Repr

/-- The resume point of a group (R229). -/
def State.resumePoint (s : State) (g : Nat) : Option Nat :=
  let x := s.group g
  match x.resumePt with
  | some l => some l
  | none =>
    if x.dnMoved then none
    else match x.unwindPt with
      | some (_, k) => some (k + 1)
      | none => some 0

/-- The decision of R218 for a STATE request to a group, with the first transition that R219 commits. A held group
without a resume point goes on with its power-down program (R229). -/
def State.weltGroup (s : State) (g : Nat) (a : EState) (target : EState) (q : Req) : WeltRes :=
  let x := s.group g
  if target ≠ .on ∧ target ≠ .off ∧ target ≠ .held then .refuse .refusedInterlock
  else if a = .latchedOff then .refuse .refusedInterlock
  else if a = .failed then (if target = .off ∧ q.cls = 1 then .issue q.val false false [.latchedOff] else .refuse .refusedInterlock)
  else if a = .held ∧ x.inwait then .refuse .refusedInterlock
  else if target = a then .noop
  else match a, target with
    | .off, .on => .issue q.val false false [.starting]
    | .on, .off => .issue q.val false false [.stopping]
    | .starting, .off => .issue q.val false false [.stopping]
    | .stopping, .on => .issue q.val false false [.held]
    | .starting, .held | .stopping, .held => .issue q.val false false [.held]
    | .held, .on => .issue q.val false false [if x.dir && (s.resumePoint g).isNone then .stopping else .starting]
    | .held, .off => .issue q.val false false [.stopping]
    | _, _ => .refuse .refusedInterlock

/-- The decision of R459 for a STATE request to the charger; a request of the charger itself moves it along R39. -/
def weltCharger (a target : EState) (q : Req) : WeltRes :=
  if q.reqr = 0x22 then
    (if legalTrans 0x0F a target then .issue q.val false false [target]
     else if target = .off ∧ a = .starting then .issue q.val false false [.on, .off]
     else if target = .off ∧ a = .held then .issue q.val false false [.starting, .on, .off]
     else .refuse .refusedInterlock)
  else if q.cls = 0 ∨ q.cls = 5 then .refuse .refusedInterlock
  else if a = .latchedOff ∧ target ≠ .latchedOff then .refuse .refusedInterlock
  else if a = .active then .refuse .refusedInterlock
  else if target = .on ∨ target = .derated ∨ target = .active then .refuse .refusedInterlock
  else if target = .latchedOff then
    (if q.cls = 1 then (if a = .latchedOff then .noop
        else if legalTrans 0x0F a .latchedOff then .issue q.val false false [.latchedOff]
        else .issue q.val false false [.starting, .latchedOff]) else .refuse .refusedInterlock)
  else if target = a then .noop
  else if target = .off then
    (if a = .starting then .issue q.val false false [.on, .off]
     else if a = .held then .issue q.val false false [.starting, .on, .off] else .issue q.val false false [.off])
  else if target = .starting ∧ (a = .off ∨ a = .held) then .issue q.val false false [.starting]
  else if target = .held ∧ (a = .starting ∨ a = .on ∨ a = .derated) then .issue q.val false false [.held]
  else .refuse .refusedInterlock

/-- The chain of a STATE request (R40) outside groups and charger; none where no chain leads to the target (R41). -/
def chainFor (t : Nat) (a target : EState) (q : Req) : Option (List EState) :=
  if isOutputType t then
    match target with
    | .failed => if legalTrans t a .failed then some [.failed] else none
    | .latchedOff => if legalTrans t a .latchedOff then some [.latchedOff] else none
    | .derated => if a = .on then some [.derated] else none
    | .on => if q.prot.isSome then (if a = .derated then some [.on] else none) else outputChain t a .on
    | .off => if a = .failed ∧ q.cls = 1 then some [.off] else outputChain t a .off
    | _ => none
  else if t = 0x11 ∧ a = .stale then none
  else if t = 0x0E ∧ a = .valid ∧ target = .failed then some [.derated, .failed]
  else if legalTrans t a target then some [target] else none

/-- Committed envelope of a slot-0 endpoint: bounds from the image until an ENVELOPE commits (R75). -/
def State.envOf (s : State) (li : Nat) : Int × Int :=
  match (s.policy li).env with
  | some e => e
  | none => match kindOf li with
    | .rail r => (s.im Img.railEnvVlo r, s.im Img.railEnvVhi r)
    | .switch n => (10 * s.im Img.lsEnvIlo n, 10 * s.im Img.lsEnvIhi n)
    | .charger => (10 * s.im Img.chgEnvIlo, 10 * s.im Img.chgEnvIhi)
    | _ => (-2147483648, 2147483647)

/-- Committed phase envelope of an external rail (R75). -/
def State.phEnvOf (s : State) (r : Nat) : Nat × Nat :=
  match (s.policy r).phEnv with
  | some e => e
  | none => (s.im Img.railEnvPhmin r, s.im Img.railEnvPhmax r)

/-- A rail's set-point bounds hold a SETPOINT; a LIMIT has an envelope on load switches and the charger, where the
ENVELOPE bounds are LIMIT bounds (R76, R177, R450). A LIMIT of 0 lies in every envelope (R80). -/
def State.policyClamp (s : State) (li : Nat) (k : Kind) (v : Int) : Int :=
  match k with
  | .setpoint => clampInt (s.envOf li).1 (s.envOf li).2 v
  | .limit => match kindOf li with
    | .switch _ | .charger => if v = 0 then 0 else clampInt (s.envOf li).1 (s.envOf li).2 v
    | _ => v
  | .phases => clampInt (s.phEnvOf li).1 (s.phEnvOf li).2 v
  | _ => v

/-- Assigned phases that a PHASES request may have ON (R658). -/
def State.usablePhases (s : State) (r : Nat) : List Nat :=
  (s.railPhases r).filter fun p => !(s.phase p).spareRole && s.stageClear p &&
    (s.st (liPhase p) == .off || s.st (liPhase p) == .on)

/-- The i²t protection holds a load switch off (R175). -/
def State.heldOff (s : State) (li : Nat) : Bool :=
  match kindOf li with
  | .switch n => (s.switch n).trip && (s.switch n).warn
  | _ => false

/-- The decision table of R97, read against a state whose ledger already holds the bundle's earlier members (R117).
own: the endpoint's IN_BUNDLE flag belongs to the request's own bundle. The collector's STATE for a source is issued in the
committed state too, since it carries a new count (R276; DEDUCED, assumption 106). An UNFREEZE needs a loop that acts on
the endpoint (R87). -/
def State.welt (s : State) (q : Req) (bundle : List Req) (own : Bool) : WeltRes :=
  let e := s.ent q.ep
  let li := liOf q.ep
  let loc := slotOf q.ep == 0
  let target := EState.ofCode (bitsOf q.val.toNat 7 0)
  if q.kind = .park then
    if !(2 ≤ q.cls && q.cls ≤ 4) then .refuse .refusedInterlock
    else if loc then (if s.parkRefused || q.val ≠ 1 then .refuse .refusedInterlock else .issue q.val false false [])
    else match (s.slotRec (slotOf q.ep)).st with
      | .counted => .issue q.val false false []
      | .unreachable => .refuse .unreachable
      | _ => .refuse .refusedInterlock
  else if e.st = .absent then .refuse .refusedInterlock
  else if e.st = .unreachable then .refuse .unreachable
  else if !kindFits e.ty q || (!loc && q.cls ≤ 1) then .refuse .refusedInterlock
  else if q.kind = .clear ∧ (!s.clearAuth q || !s.clearable q.ep e || s.clearBlocked q.ep) then .refuse .refusedInterlock
  else if q.kind = .phases ∧ !e.st.alive then .refuse .refusedInterlock
  else if q.kind = .unfreeze ∧ loc ∧ (s.loopsOf li).isEmpty then .refuse .refusedInterlock
  else if q.kind = .energy ∧ s.energyRefused q bundle then .refuse .refusedInterlock
  else if q.kind == .state && (match target with
      | some t => !stateOpen e.ty li e.st t q
      | none => true) then .refuse .refusedInterlock
  else if s.badRange e.ty q then .refuse .refusedInterlock
  else if 2 ≤ q.cls ∧ e.flag fINBUNDLE ∧ !own then .refuse .refusedInterlock
  else if q.kind = .state then
    match target with
    | none => .refuse .refusedInterlock
    | some t =>
      if loc && s.parkHolds q t e.st then .refuse .refusedInterlock
      else match kindOf li with
      | .group g => if loc then s.weltGroup g e.st t q else .issue q.val false false []
      | .charger => if loc then weltCharger e.st t q else .issue q.val false false []
      | k =>
        if t == e.st && (match k with
            | .event _ => t == .active
            | .gauge => q.reqr == 0x24
            | .source _ => true
            | _ => false) then .issue q.val false false [t]
        else if t = e.st then .noop
        else if q.cls ≤ 1 ∧ t = .failed ∧ isOutputType e.ty ∧ (e.st = .off ∨ e.st = .latchedOff) then .noop
        else if q.cls ≤ 1 ∧ t = .failed ∧ e.ty = 4 ∧ (e.st = .off ∨ e.st = .latchedOff) then .noop
        else match chainFor e.ty e.st t q with
          | none => .refuse .refusedInterlock
          | some links =>
            if q.cls = 0 then .issue q.val false false links
            else if s.interlocked q links then .refuse .refusedInterlock
            else if loc && t == .on && s.heldOff li then .issue q.val true (q.cls ≤ 4) []
            else .issue q.val false false (if loc then links else [])
  else if q.cls = 0 then .issue q.val false false []
  else if q.kind = .clear ∧ s.interlocked q [.off] then .refuse .refusedInterlock
  else
    let v := q.val.toInt
    let c := if loc && q.cls == 5 then s.policyClamp li q.kind v else v
    let c' := if q.kind = .phases ∧ loc then min c (s.usablePhases li).length else c
    .issue (if q.kind = .publish then q.val else BitVec.ofInt 32 c') (c' != v && q.kind != .publish) false []

end Sys2Proof.Machine
end

