-- ==== Sys2Proof/Machine/Effects.lean ====
section
/-! DEFINITION. What commits do beyond the entry they write: the phases of a rail, a rail that stops, fails or reaches OFF,
load switches, forced stops along the interlock graph, and the groups that own an endpoint. -/

namespace Sys2Proof.Machine

/-- NFAC of a rail: RAIL_NPH / n in 16 fractional bits when LOOP_NNORM is 1 on an external rail (R193). -/
def State.nfacOf (s : State) (r : Nat) : Nat :=
  let n := (s.phasesOn r).length
  if s.imb Img.loopNnorm r && r < 24 && n != 0 then (2 * s.im Img.railNph r * 65536 + n) / (2 * n) else 65536

/-- The count of the phases of a rail that are ON has changed: their spacing positions, 360° k / n by phase number, and
NFAC (R135, R177, R193). -/
def State.respace (s : State) (r : Nat) : State :=
  let on := s.phasesOn r
  let s := (on.zipIdx).foldl (fun s x => s.modPhase x.1 fun p => { p with angle := 65536 * x.2 / on.length }) s
  let n := s.nfacOf r
  s.modLoopSt r fun l => { l with nfac := n }

/-- The operations in flight with their slots. -/
def State.inFlight (s : State) : List (Nat × TackSlot) := s.pipe.tack.filterMap fun x => x.2.map fun t => (x.1, t)

/-- The set-point that a rail starts to: of a SETPOINT in flight, or the committed one (R38, R152, R222). -/
def State.startMv (s : State) (r : Nat) : Nat :=
  match (s.inFlight.filter fun x => x.2.op.req.ep == r && x.2.op.req.kind == .setpoint && x.2.replacedBy.isNone).getLast? with
  | some x => x.2.op.val.toInt.toNat
  | none => (s.stored r).val.toInt.toNat

/-- Commit one phase ON (R658): the die leaves mid. -/
def State.phaseOn (s : State) (p cls reqr : Nat) (comp : Bool) : State :=
  (s.modPhase p fun x => { x with mid := false }).commit (liPhase p) { st := some .on, cls := cls, reqr := reqr, comp := comp }

/-- Commit one phase OFF: its PWM goes to mid (R129, R151, R654). -/
def State.phaseOff (s : State) (p cls reqr : Nat) (comp : Bool) : State :=
  (s.modPhase p fun x => { x with mid := true, clNow := false }).commit (liPhase p) { st := some .off, cls := cls, reqr := reqr, comp := comp }

/-- Every phase of a rail that is ON commits OFF (R654). -/
def State.railPhasesOff (s : State) (r cls reqr : Nat) (comp : Bool) : State :=
  (s.phasesOn r).foldl (fun s p => s.phaseOff p cls reqr comp) s

/-- The phases that a start commits ON: the lowest-numbered usable ones, at most the envelope maximum (R658). -/
def State.railPhasesStart (s : State) (r cls reqr : Nat) (comp : Bool) : State :=
  let l := (s.usablePhases r).take (s.phEnvOf r).2
  (l.foldl (fun s p => if s.st (liPhase p) = .on then s else s.phaseOn p cls reqr comp) s).respace r

/-- A PHASES commit for n phases: the lowest-numbered shed phases come ON, the highest-numbered go OFF (R151, R658). A phase that
is ON while its stage-fault source is not CLEAR neither counts nor moves: its own reaction moves it (DEDUCED, assumption 132). -/
def State.setPhases (s : State) (r n cls reqr : Nat) (comp : Bool) : State :=
  let usable := s.usablePhases r
  let on := usable.filter fun p => s.st (liPhase p) == .on
  let add := (usable.filter fun p => s.st (liPhase p) != .on).take (n - on.length)
  let drop := on.drop n
  let s := add.foldl (fun s p => s.phaseOn p cls reqr comp) s
  let s := drop.foldl (fun s p => s.phaseOff p cls reqr comp) s
  if add.isEmpty && drop.isEmpty then s else (s.restartDwell r).respace r

/-- A rail stops regulating (R654): its slot idles, and discharge runs when called for; R156 and R158 have begun theirs
already. After an action of R158 with RAIL_OV_ACT 0 the rule both discharges where RAIL_DIS is 1 and changes nothing further on
the die; the model discharges (DESIGN CHOICE, assumption 133). -/
def State.railFail (s : State) (r : Nat) : State :=
  let s := s.modRail r fun x => { x with running := false, newTarget := none, ramped := false, overload := none, disch := (x.disch || s.imb Img.railDis r) && !x.discharged, hold := false }
  s.modLoopSt r fun l => { l with limited := false }

/-- A rail commits OFF: enable low, discharge ended (R133, R162, R177). A power-good time-out ends there (DEDUCED,
assumption 14). -/
def State.railOff (s : State) (r : Nat) : State :=
  let s := if (s.src (96 + 2 * r)).line && (s.src (96 + 2 * r)).cause == 2 then s.releaseSrc (96 + 2 * r) else s
  s.modRail r fun x => { x with en := false, running := false, disch := false, short := false, ovHw := false, ramped := false, newTarget := none, pgood := false, overload := none }

/-- A load switch's gate goes to its source (R170, R171). -/
def State.switchOff (s : State) (n : Nat) : State := s.modSwitch n fun x => { x with gate := false, inrush := false }

/-- The endpoint forced off is off or failed: the groups' lists, and the end of a forced shutdown (R233, R244). A request for
ON that came meanwhile starts the group from OFF (R218, R229). -/
def State.forcedDone (s : State) (li : Nat) : State :=
  (List.range 16).foldl (fun s g =>
    if (s.group g).forced.contains li then
      let s := s.modGroup g fun x => { x with forced := x.forced.filter (· ≠ li) }
      let x := s.group g
      if x.immed && x.forced.isEmpty then
        let s := s.modGroup g fun x => { x with immed := false, ilOff := x.ilOff || x.ilShut, ilShut := false }
        if s.st (liGroup g) != .stopping then s
        else
          let s := s.groupCommit g (some .off)
          if x.turn = some .on then s.releaseGroupOp g (some .starting) else s
      else s
    else s) s

/-- The requester of the forced stops that follow A's commit: the fault source that moved A. A latch of A with its group
carries the group's own, and the source is the one that A's FAILED commit names (R233, R239). -/
def State.forceReqr (s : State) (a : Nat) (reqr : Nat) : Nat :=
  let w := writerReqr (s.policy a).failWriter
  if s.st a == .latchedOff && reqr < 0x200 && 0x200 ≤ w && w < 0x400 then w else reqr

/-- Endpoints that depend on A along edges and run are forced off (R233). -/
def State.forceDependents (s : State) (a reqr : Nat) : State :=
  if s.edges.any (fun e => e.1 == a) then
    s.forceOff ((s.dependents a).filter (fun li => (s.st li).alive)) 1 1 reqr
  else s

/-- The endpoints that the running BUNDLE step of a group names (R222). -/
def State.stepEps (s : State) (g : Nat) : List Nat :=
  let x := s.group g
  if x.run != .bundle then []
  else match s.step? g x.dir x.step with
    | some (b, h) => (s.opWords b h).map fun w => bitsOf w 10 0
    | none => []

/-- A power-down failure of a group (R242). -/
def State.downFailure (s : State) (g cause ep : Nat) : State :=
  let s := s.modGroup g fun x => { x with dnFails := satAdd 0xFFFF x.dnFails 1, failStep := x.step, failCause := cause, failEp := ep }
  s.raiseEvt (176 + g) (reqrGroup g)

/-- RAIL_VREF: the accumulator rounded to 0.5 mV, ties upward (R196). -/
def Rail.vref (x : Rail) : Nat := ((x.acc + 32768).fdiv 65536).toNat

/-- RAIL_PH_ILIM in mA (R138). -/
def State.phIlim (s : State) (r : Nat) : Nat := 100 * s.im Img.railPhIlim r

/-- The effective limit in mA at which each phase of a rail ends its pulse under a LIMIT of lim mA (R138). -/
def State.effLimit (s : State) (r : Nat) (lim : Int) : Int :=
  let n : Nat := if r < 24 then max 1 (s.phasesOn r).length else 1
  if lim = 0 then s.phIlim r else min (s.phIlim r : Int) (lim.fdiv n)

/-- The effective per-phase limit of a rail lies below RAIL_PH_ILIM under a LIMIT of lim mA (R138, R139). -/
def State.limitBelow (s : State) (r : Nat) (lim : Int) : Bool := decide (s.effLimit r lim < s.phIlim r)

/-- A standing LIMIT makes a rail or a load switch DERATED once it commits ON (R139, R176). -/
def State.derateAtOn (s : State) (li : Nat) : State :=
  let p := s.policy li
  let low := match kindOf li with
    | .rail r => s.limitBelow r p.limit
    | .switch n => p.limit != 0 && decide (p.limit < (10 * s.im Img.lsIcont n : Nat))
    | _ => false
  if low then s.commit li { st := some .derated, cls := writerCls p.limWriter, reqr := writerReqr p.limWriter } else s

/-- What the change of a rail's state brings about on the die and its phases before the entry is written, so that the
entry carries the present flags (R133, R162, R201, R654, R655, R658). -/
def State.beforeState (s : State) (li : Nat) (old new : EState) (cls reqr : Nat) (comp : Bool) : State :=
  if old = new then s
  else match kindOf li, new with
    | .rail r, .starting =>
      let s := if cls = 5 then s else s.modRail r fun x => { x with vnom := some (s.startMv r) }
      if r < 24 then s.railPhasesStart r cls reqr comp else s
    | .rail r, .failed => s.railFail r
    | .rail r, .off => s.railOff r
    | _, _ => s

/-- What a committed state change of a slot-0 endpoint brings about. An endpoint of a STOPPING group that fails with no member's
code loads SEQ_FAIL_CAUSE 2, a cause that R242 leaves open (DESIGN CHOICE, assumption 137) (R133, R139, R150, R176, R233, R242, R270, R654,
R657, R658). old is the state before. The phases of a rail that fails or is OFF commit OFF. -/
def State.afterState (s : State) (li : Nat) (old new : EState) (cls reqr : Nat) (comp : Bool) : State :=
  if old = new then s
  else
    let s := if old = .off then s.modPolicy li fun p => { p with latchSrc := none } else s
    let s := if new = .failed then s.modPolicy li fun p => { p with failWriter := writerOf cls reqr, failEpoch := s.led.epoch } else s
    let s := match kindOf li, new with
      | .rail r, .on => if old = .starting then (s.restartDwell r).derateAtOn li else s
      | .rail r, .failed | .rail r, .off => s.railPhasesOff r cls reqr comp
      | .switch _, .on => if old = .starting then s.derateAtOn li else s
      | .switch n, .off => (s.switchOff n).modSwitch n fun x => { x with short := false }
      | .switch n, .failed => s.switchOff n
      | .switch n, .latchedOff => (s.switchOff n).modSwitch n fun x => { x with short := false }
      | _, _ => s
    let out := isOutputType (s.ent li).ty
    let s := if out && (new == .failed || new == .latchedOff || ((new == .stopping || new == .off) && cls ≤ 1))
      then s.forceDependents li (s.forceReqr li reqr) else s
    let s := if out && (new == .off || new == .failed) then s.forcedDone li else s
    if out && new == .failed then
      match s.ownerOf li with
      | some g => if s.st (liGroup g) = .stopping then (s.downFailure g 2 li).modGroup g fun x => { x with dnCounted := x.dnCounted || (s.stepEps g).contains li } else s
      | none => s
    else s

/-- Commit a state of a slot-0 endpoint with all that follows. A rail that leaves ON and DERATED loses PROT_ACTIVE in
that commit (R141). -/
def State.commitState (s : State) (li : Nat) (c : Cm) : State :=
  let old := s.st li
  let new := c.st.getD old
  let c := match kindOf li with
    | .rail _ => if old.running && !new.running then { c with clr := c.clr ||| flagMask fPROT } else c
    | _ => c
  ((s.beforeState li old new c.cls c.reqr c.comp).commit li c).afterState li old new c.cls c.reqr c.comp

end Sys2Proof.Machine
end

