-- ==== Sys2Proof/Machine/Sequencer.lean ====
section
/-! DEFINITION. The sequence groups: how a program begins, steps, ends, fails, unwinds, retries and turns round
(R216 to R249). -/

namespace Sys2Proof.Machine

/-- Microseconds that a DELAY step lasts (R221). -/
def delayUs (arg : Nat) : Nat := bitsOf arg 11 0 * (if bitOf arg 12 then 10000 else 10)

/-- Microseconds of a WAIT time-out code; 0 for no limit (R221). -/
def waitUs (arg : Nat) : Nat :=
  let t := bitsOf arg 12 8
  if t = 0 then 0 else 2 ^ (t - 1) * 1000

/-- The members of one operation word (R222): START with a set-point becomes two. In a power-down program a STOP of an
endpoint at rest is not submitted (R227). -/
def State.opMembers (s : State) (down : Bool) (w : Nat) : List Req :=
  let li := bitsOf w 10 0
  let arg := bitsOf w 31 16
  let st : EState → Req := fun t => { ep := li, kind := .state, val := BitVec.ofNat 32 t.code }
  let v : Kind → Nat → Req := fun k n => { ep := li, kind := k, val := BitVec.ofNat 32 n }
  match bitsOf w 15 12 with
  | 0 => if arg = 0 then [st .on] else [v .setpoint arg, st .on]
  | 1 => if down && (match s.st li with
      | .off | .failed | .latchedOff => true
      | _ => false) then [] else [st .off]
  | 2 => [v .setpoint arg]
  | 3 => [v .limit (100 * arg)]
  | 4 => [v .phases arg]
  | _ => []

/-- The bundle of a step: class, requester, size, LAST and TAG (R115, R217). -/
def bundleOf (g step : Nat) (l : List Req) : List Req :=
  (l.zipIdx).map fun x => { x.1 with bnd := true, last := x.2 + 1 == l.length, bsize := l.length - 1, cls := 2, reqr := reqrGroup g, tag := BitVec.ofNat 8 step }

/-- A wait of us microseconds begins (SEQ_GTMR). -/
def State.setTimer (s : State) (g us : Nat) (k : StepRun) : State :=
  let now := s.time
  s.modGroup g fun x => { x with run := k, tmr := us, tmrCyc := now }

/-- The FAILED endpoints of a group that latches commit LATCHED_OFF, and its retries end (R239). -/
def State.latchPlan (s : State) (g : Nat) : State :=
  let s := (s.groupEps g).foldl (fun s li =>
    if s.st li = .failed then s.commitState li { st := some .latchedOff, cls := 2, reqr := reqrGroup g } else s) s
  s.modGroup g fun x => { x with running := false, run := .none, backoff := false, unwind := false, endRetries := false, retryHeld := false }

/-- Latch a group and its FAILED endpoints (R239). -/
def State.latchGroup (s : State) (g : Nat) : State :=
  ((s.latchPlan g).groupCommit g (some .latchedOff)).raiseEvt (160 + g) (reqrGroup g)

/-- Unwinding is complete: the wait before the next retry begins, or the group latches; a P1 request that ended the retries
commits LATCHED_OFF itself (R238, R239, R218). -/
def State.unwindDone (s : State) (g : Nat) : State :=
  let s := s.modGroup g fun x => { x with unwind := false, running := false, run := .none }
  let x := s.group g
  if x.endRetries && (s.groupOp g).isSome then s.releaseGroupOp g (some .latchedOff)
  else if x.endRetries || s.im Img.seqRetryN g ≤ x.retries then s.latchGroup g
  else
    let now := s.time
    s.modGroup g fun x => { x with backoff := true, tmr := 10000 * 2 ^ x.retries, tmrCyc := now }

/-- A group at rest: it commits OFF, unless it unwinds (R229, R243, R249). The answer's step begins next. -/
def State.groupAtRest (s : State) (g : Nat) : State × Option Nat :=
  if (s.group g).unwind then (s.unwindDone g, none)
  else
    let s := (s.modGroup g fun x => { x with running := false, run := .none }).groupCommit g (some .off)
    let x := s.group g
    let s := s.modGroup g fun x => { x with unwindPt := none, resumePt := none, dnMoved := false, ilOff := x.ilOff || x.ilShut, ilShut := false, restart := false }
    if x.restart then
      if x.turn.isSome then (s.releaseGroupOp g (some .starting), none)
      else
        let s := s.modGroup g fun x => { x with dir := false, running := true, retries := 0, step := 0 }
        (s.groupCommit g (some .starting), some 0)
    else (s, none)

/-- The END step of the power-down program. -/
def State.endStep (s : State) (g : Nat) : Nat :=
  ((List.range 256).find? fun k => match s.step? g true k with
    | some (_, h) => h.op == .fin
    | none => false).getD 0

/-- The group turns to power-down, at the unwind point, or at END where there is nothing to unwind (R229; DEDUCED,
assumption 105). -/
def State.downPlan (s : State) (g : Nat) : State :=
  match (s.group g).unwindPt with
  | some (l, _) => s.modGroup g fun x => { x with dir := true, running := true, run := .none, resumePt := none, dnMoved := false, link := l, step := l }
  | none =>
    let n := s.endStep g
    s.modGroup g fun x => { x with dir := true, run := .none, resumePt := none, dnMoved := false, step := n }

/-- Power-down from the unwind point; without one the group is at rest (R229, R237). -/
def State.downGo (s : State) (g : Nat) : State × Option Nat :=
  match (s.group g).unwindPt with
  | some (l, _) => (s, some l)
  | none => s.groupAtRest g

/-- The group commits st and turns to power-down (R229, R237). -/
def State.enterDown (s : State) (g : Nat) (st : EState) : State × Option Nat :=
  ((s.downPlan g).groupCommit g (some st)).downGo g

/-- The group turns to power-up at the resume point (R229, R248). -/
def State.upPlan (s : State) (g : Nat) : State :=
  match s.resumePoint g with
  | some l => s.modGroup g fun x => { x with dir := false, running := true, run := .none, link := if x.resumePt.isSome then l else x.link, inwait := false, ilShut := false, resuming := false, step := l }
  | none => s

/-- The group commits STARTING and resumes power-up at the resume point (R229, R248). -/
def State.enterResume (s : State) (g : Nat) : State × Option Nat :=
  match s.resumePoint g with
  | some l => ((s.upPlan g).groupCommit g (some .starting), some l)
  | none => (s, none)

/-- The inputs allow a resume or a restart (R248, R249). -/
def State.inputsGood (s : State) : Bool := s.seq.stable && s.seq.holdOk && !s.seq.il

/-- The forced stops of R247 for a group that unwinds: it is FAILED and goes on to the END of its power-down program (R237). -/
def State.unwindForce (s : State) (g : Nat) : State :=
  (s.forceOff ((s.groupEps g).filter fun li => (s.st li).alive) 2 2 (reqrGroup g)).modGroup g fun x => { x with ilForce := false }

/-- A step has completed: the links of R229 and the decision at the step boundary (R218, R247, R248). The answer's step
begins next; a held group shows the step with which it goes on (DEDUCED, assumption 105). -/
def State.seqFinish (s : State) (g : Nat) : State × Option Nat :=
  let x := s.group g
  match s.step? g x.dir x.step with
  | none => (s, none)
  | some (_, h) =>
    let moved := h.op == .bundle || h.op == .reset
    let s := s.modGroup g fun x =>
      if x.dir then { x with run := .none, step := x.step + 1, resumePt := if h.linkV then some h.link else if moved then none else x.resumePt, dnMoved := x.dnMoved || moved }
      else { x with run := .none, step := x.step + 1, unwindPt := if h.linkV then some (h.link, x.step) else x.unwindPt }
    let x := s.group g
    if x.ilForce then
      if x.unwind then (s.unwindForce g, some x.step) else (s.groupImmediate g 2 2 (reqrGroup g), none)
    else if x.unwind || (x.restart && x.turn != some .held) then (s, some x.step)
    else match x.turn with
      | some t =>
        if t = .on ∧ x.dir ∧ (s.resumePoint g).isNone then
          (s.modGroup g fun x => { x with restart := true }, some x.step)
        else (s.releaseGroupOp g none, none)
      | none =>
        if x.ilShut && !x.dir then s.enterDown g .stopping
        else if x.ilShut then
          if (s.resumePoint g).isNone || s.seq.il then (s, some x.step)
          else
            let good := s.inputsGood
            ((s.modGroup g fun x => { x with running := false, inwait := !good, resuming := good }).groupCommit g (some .held), none)
        else (s, some x.step)

/-- An END step: the group commits ON, or comes to rest (R221, R243). -/
def State.seqEnd (s : State) (g : Nat) : State × Option Nat :=
  if (s.group g).dir then s.groupAtRest g
  else
    let s := s.modGroup g fun x => { x with running := false, run := .none, ilOff := false }
    (s.groupCommit g (some .on), none)

/-- The entry shows the running step and the direction: committed where they have changed (R217). -/
def State.groupStep (s : State) (g : Nat) : State :=
  let e := s.stored (liGroup g)
  if e.val = BitVec.ofNat 32 (s.group g).step ∧ bitsOf e.flags.toNat 11 8 = s.typeFlags (liGroup g) e.st then s
  else s.groupCommit g none

/-- Step k of a group's running program begins (R221, R223). Steps that complete at once are followed through; a program
has at most 256 steps, which bounds the walk. -/
def State.seqRun : Nat → State → Nat → Nat → State
  | 0, s, _, _ => s
  | n + 1, s, g, k =>
    let s := (s.modGroup g fun x => { x with step := k, run := .none }).groupStep g
    let next : State × Option Nat → State := fun r => match r.2 with
      | some j => State.seqRun n r.1 g j
      | none => r.1
    match s.step? g (s.group g).dir k with
    | none => s
    | some (b, h) =>
      match h.op with
      | .fin => next (s.seqEnd g)
      | .bundle =>
        let l := ((s.opWords b h).map (s.opMembers (s.group g).dir)).flatten
        if l.isEmpty then next (s.seqFinish g)
        else (s.modGroup g fun x => { x with run := .bundle, await := l.length, firstFail := none, dnCounted := false }).offer 2 (bundleOf g k l)
      | .delay => s.setTimer g (delayUs h.arg) .delay
      | .waitGroup => s.setTimer g (waitUs h.arg) .waitGroup
      | .waitInput => s.setTimer g (waitUs h.arg) .waitInput
      | .reset =>
        let pin := bitsOf h.arg 3 0
        let rel := bitOf h.arg 4
        let s := s.modSeq fun q => { q with rsto := if rel then q.rsto &&& ~~~(BitVec.ofNat 16 (2 ^ pin)) else q.rsto ||| BitVec.ofNat 16 (2 ^ pin) }
        next (s.seqFinish g)
      | .unused => s

/-- Begin at a step, where there is one. -/
def State.seqGo (g : Nat) (r : State × Option Nat) : State :=
  match r.2 with
  | some k => r.1.seqRun 600 g k
  | none => r.1

/-- The running step of a group has completed (R223). -/
def State.seqDone (s : State) (g : Nat) : State := State.seqGo g (s.seqFinish g)

/-- A step of a power-up program fails (R237); a forced shutdown of R247 that waited for it forces the endpoints off. -/
def State.upFailure (s : State) (g cause ep : Nat) : State :=
  let s := s.modGroup g fun x => { x with failStep := x.step, failCause := cause, failEp := ep, upFails := satAdd 0xFFFF x.upFails 1, run := .none, unwind := true, turn := none, ilShut := false }
  let r := (s.dropGroupOp g).enterDown g .failed
  State.seqGo g (if (s.group g).ilForce then (r.1.unwindForce g, r.2) else r)

/-- A BUNDLE step has all its completions (R224, R242). A failure that the FAILED commit of a member brought with it is
counted once. -/
def State.bundleJudge (s : State) (g : Nat) : State :=
  let x := s.group g
  match x.firstFail with
  | none => s.seqDone g
  | some (c, ep) =>
    if x.dir then (if x.dnCounted then s else s.downFailure g c ep).seqDone g
    else s.upFailure g c ep

/-- A completion for a member of a group's running BUNDLE step (R224). Those of a step that a forced shutdown ended come first, in
sequence order (R111), and are no part of it. -/
def State.groupCpl (s : State) (g : Nat) (c : Cpl) : State :=
  let x := s.group g
  if c.bnd ∧ x.stale ≠ 0 then s.modGroup g fun x => { x with stale := x.stale - 1 }
  else if x.run = .bundle ∧ c.bnd ∧ c.tag = BitVec.ofNat 8 x.step then
    let cause : Option Nat := match c.code with
      | .refusedInterlock => some 1
      | .aborted => some 2
      | .timeout => some 3
      | .unreachable => some 4
      | .clamped => if c.kind = .state then some 5 else none
      | _ => none
    let ff := match x.firstFail, cause with
      | some f, _ => some f
      | none, some k => some (k, c.ep)
      | none, none => none
    let s := s.modGroup g fun x => { x with await := x.await - 1, firstFail := ff }
    if x.await ≤ 1 then s.bundleJudge g else s
  else s

/-- A group whose STATE request of R218 commits its first transition now (HELD during a forced shutdown leaves END as the
only way on, since its endpoints go off all the same; DEDUCED, assumption 105): the direction and the step that its program goes
on with, before the entry is written (R217, R219). -/
def State.groupPlan (s : State) (g : Nat) (old new target : EState) : State :=
  let x := s.group g
  let s := s.modGroup g fun x => { x with turn := none, resuming := false }
  match new with
  | .starting =>
    if old = .off then s.modGroup g fun x => { x with dir := false, running := true, retries := 0, unwindPt := none, resumePt := none, dnMoved := false, restart := false, ilOff := false, step := 0 }
    else if x.dir then s.upPlan g
    else s.modGroup g fun x => { x with running := true }
  | .stopping =>
    if old = .on then s.modGroup g fun x => { x with dir := true, running := true, resumePt := none, dnMoved := false, step := 0 }
    else if old = .held ∧ x.dir then s.modGroup g fun x => { x with running := true, restart := target == .on }
    else s.downPlan g
  | .held =>
    if !x.immed then s.modGroup g fun x => { x with running := false }
    else
      let n := s.endStep g
      s.modGroup g fun x => { x with running := false, immed := false, dir := true, dnMoved := true, resumePt := none, step := n }
  | .latchedOff => s.latchPlan g
  | _ => s

/-- A STATE request of R218 for a group has committed its first transition (R219): the program follows. was is the direction
before. -/
def State.groupCommitted (s : State) (g : Nat) (old new target : EState) (was : Bool) : State :=
  let x := s.group g
  match new with
  | .starting => s.seqRun 600 g x.step
  | .stopping =>
    if old = .on ∨ (old = .held ∧ was) then s.seqRun 600 g x.step else State.seqGo g (s.downGo g)
  | .held => if target = .on then State.seqGo g (s.enterResume g) else s
  | .latchedOff => s.raiseEvt (160 + g) (reqrGroup g)
  | _ => s

/-- A retry begins (R238): the FAILED endpoints commit OFF, the group STARTING, and power-up runs from step 0. -/
def State.groupRetry (s : State) (g : Nat) : State :=
  let s := (s.groupEps g).foldl (fun s li =>
    if s.st li = .failed then s.commitState li { st := some .off, cls := 2, reqr := reqrGroup g } else s) s
  let s := s.modGroup g fun x => { x with retries := x.retries + 1, backoff := false, retryHeld := false, dir := false, running := true, step := 0, unwindPt := none, resumePt := none, dnMoved := false }
  State.seqGo g (s.groupCommit g (some .starting), some 0)

/-- A held group resumes once the inputs allow it (R248). -/
def State.groupResume (s : State) (g : Nat) : State :=
  State.seqGo g ((s.raiseEvt (192 + g) (reqrGroup g)).enterResume g)

/-- A group that is OFF begins its power-up program by itself where SEQ_AUTO is 1 (R220, R249, R342). -/
def State.groupAuto (s : State) (g : Nat) : State :=
  if s.imb Img.seqUsed g && s.imb Img.seqAuto g && s.st (liGroup g) == .off then
    let s := s.modGroup g fun x => { x with ilOff := false, dir := false, running := true, retries := 0, unwindPt := none, resumePt := none, dnMoved := false, step := 0 }
    State.seqGo g (s.groupCommit g (some .starting), some 0)
  else s

/-- An accepted P1 request of R218 ends the retries of a group (R241). -/
def State.retriesEnd (s : State) (g : Nat) : Bool :=
  s.accepted fun q => q.ep == liGroup g && q.kind == .state && q.cls == 1

/-- What stable inputs and a charged VHOLD release: held groups, groups at OFF, and retries that wait (R240, R248, R249). -/
def State.inputsRelease (s : State) : State :=
  (List.range 16).foldl (fun s g =>
    let x := s.group g
    if x.inwait && s.inputsGood then s.groupResume g
    else if x.retryHeld && s.seq.stable && !s.seq.il then (if s.retriesEnd g then s else s.groupRetry g)
    else if x.ilOff && s.inputsGood then s.groupAuto g
    else s) s

/-- Groups that start by themselves at a cold start or a wake (R220, R342). -/
def State.autoStart (s : State) : State := (List.range 16).foldl State.groupAuto s

/-- What each group does when input loss is declared (R247, R248). A STARTING group at a step boundary, whose accepted request has
not committed yet, turns there. -/
def State.groupInputLoss (s : State) (g : Nat) : State :=
  let st := s.st (liGroup g)
  let act := s.im Img.seqIlAct g
  let x := s.group g
  if x.inwait then
    let s := (s.modGroup g fun x => { x with inwait := false, running := true }).groupCommit g (some .stopping)
    State.seqGo g (s, some x.step)
  else if act = 1 then
    match st with
    | .on =>
      let s := (s.modGroup g fun x => { x with ilShut := true, dir := true, running := true, resumePt := none, dnMoved := false, step := 0 }).groupCommit g (some .stopping)
      State.seqGo g (s, some 0)
    | .starting =>
      let s := (s.dropGroupOp g).modGroup g fun x => { x with ilShut := true, turn := none }
      if x.running && x.run == .none then State.seqGo g (s.enterDown g .stopping) else s
    | .stopping => if x.immed then s else s.modGroup g fun x => { x with ilShut := true }
    | .held =>
      let s := s.modGroup g fun x => { x with ilShut := true, running := true, resuming := false }
      State.seqGo g (if x.dir then (s.groupCommit g (some .stopping), some x.step) else s.enterDown g .stopping)
    | _ => s
  else if act = 2 then
    match st with
    | .on | .held => (s.modGroup g fun x => { x with ilShut := true }).groupImmediate g 2 2 (reqrGroup g)
    | .starting | .stopping =>
      if x.run = .bundle then s.modGroup g fun x => { x with ilForce := true, ilShut := true }
      else (s.modGroup g fun x => { x with ilShut := true }).groupImmediate g 2 2 (reqrGroup g)
    | .failed =>
      if !x.unwind then s else if x.run = .bundle then s.modGroup g fun x => { x with ilForce := true } else s.unwindForce g
    | _ => s
  else s

/-- The condition of a WAIT step holds (R221), the group's state as the last tick published it (R52). -/
def State.waitHolds (s : State) (g : Nat) : Bool :=
  let x := s.group g
  match s.step? g x.dir x.step with
  | some (_, h) => match h.op with
    | .waitGroup => (s.seenSt (liGroup (bitsOf h.arg 3 0))).code == bitsOf h.arg 7 4
    | .waitInput => s.glb.gpioIn.getLsbD (bitsOf h.arg 4 0) == bitOf h.arg 5
    | _ => false
  | none => false

/-- The WAIT step in progress has a time limit (R221). -/
def State.waitLimited (s : State) (g : Nat) : Bool :=
  let x := s.group g
  match s.step? g x.dir x.step with
  | some (_, h) => (h.op == .waitGroup || h.op == .waitInput) && bitsOf h.arg 12 8 != 0
  | none => false

/-- DELAY_END (R221): a DELAY step's time elapses, and the step completes. -/
def runDelayEnd (g : Fin 16) (s : State) : Host.Outcome State Fault Refusal :=
  .next (if (s.group g).run = .delay then s.seqDone g else s)

/-- WAIT_SATISFIED (R225): a WAIT step's condition is true, and the step completes. -/
def runWaitSatisfied (g : Fin 16) (s : State) : Host.Outcome State Fault Refusal :=
  .next (if ((s.group g).run = .waitGroup ∨ (s.group g).run = .waitInput) ∧ s.waitHolds g then s.seqDone g else s)

/-- WAIT_TIMEOUT (R225): a WAIT time-out fails the step with cause 6; a condition that is true wins. No member has failed, and
SEQ_FAIL_EP is 0, which the spec leaves open (DESIGN CHOICE, assumption 137). -/
def runWaitTimeout (g : Fin 16) (s : State) : Host.Outcome State Fault Refusal :=
  .next (if ((s.group g).run = .waitGroup ∨ (s.group g).run = .waitInput) ∧ s.waitLimited g then
      if s.waitHolds g then s.seqDone g
      else if (s.group g).dir then (s.downFailure g 6 0).seqDone g
      else s.upFailure g 6 0
    else s)

/-- RETRY_BEGIN (R238, R240, R241): the wait ends and the retry begins, or waits for the inputs. -/
def runRetryBegin (g : Fin 16) (s : State) : Host.Outcome State Fault Refusal :=
  .next (if (s.group g).backoff && s.st (liGroup g) == .failed && !s.retriesEnd g then
      if s.seq.il then s.modGroup g fun x => { x with backoff := false, retryHeld := true } else s.groupRetry g
    else s)

/-- RESUME_TIMEOUT (R248): SEQ_RESUME_MAX elapses in a held group, and power-down continues. -/
def runResumeTimeout (g : Fin 16) (s : State) : Host.Outcome State Fault Refusal :=
  .next (if (s.group g).inwait then
      let s := (s.modGroup g fun x => { x with inwait := false, running := true }).groupCommit g (some .stopping)
      State.seqGo g (s, some (s.group g).step)
    else s)

end Sys2Proof.Machine
end

