-- ==== Sys2Proof/Machine/Blocks.lean ====
section
/-! DEFINITION. What the other blocks do at a commit or at a release of theirs: the charger and its energy orders, the
watchdogs and the real-time clock. -/

namespace Sys2Proof.Machine

/-- A STATE request of a housekeeping loop, class P5 on port 6 (R89, R447, R487). -/
def State.loopRequest (s : State) (li : Nat) (t : EState) (reqr : Nat) : State := s.offer 6 [stateReq li t 5 reqr]

/-- The converter stops: no mode, and no input regulation (R447, R455). -/
def State.chargerStop (s : State) : State := s.modChg fun c => { c with conv := false, mode := 0, ivr := false }

/-- Both safety-timer counts start from 0 (R454). -/
def State.timersZero (s : State) : State := s.modChg fun c => { c with tmrEq := 0, tmrAbs := 0 }

/-- The converter turns to reverse mode; it starts only while V is at or above CHG_REV_VMIN (R460). -/
def State.reverseOn (s : State) : State :=
  s.modChg fun c => { c with mode := 6, conv := decide (s.im Img.chgRevVmin ≤ c.vpack), solOn := false, netOn := true, source := none, switchTo := none }

/-- An energy order begins (R394, R460, R461): the charger takes its mode; a SINK starts the timers anew. -/
def State.energyStart (s : State) (o : Energy) : State :=
  let s := s.modLace fun l => { l with energy := some o }
  let s := if o.order = 2 then s.timersZero.modChg fun c => { c with mode := 0, conv := false, terminated := false }
    else s.reverseOn
  s.raiseEvt 223 0x22

/-- An energy order ends: the converter stops and EV224 is raised; for a reason that R394 does not name FS336 asserts
(R394). -/
def State.energyStop (s : State) (named : Bool) : State :=
  if s.lace.energy.isNone then s
  else
    let s := (s.modLace fun l => { l with energy := none }).chargerStop
    let s := s.modChg fun c => { c with netOn := false, solOn := false, source := none }
    let s := s.raiseEvt 224 0x22
    if named then s else s.pulseSrc 336 0

/-- An order ends by a cause of this unit: the charger commits OFF (R394). -/
def State.energyEnd (s : State) (named : Bool) : State :=
  if s.lace.energy.isNone then s else (s.energyStop named).loopRequest liCharger .off 0x22

/-- What a committed charger state brings about before its entry is written (R447 to R459). target is the request's. -/
def State.chargerTo (s : State) (old new target : EState) (cls reqr : Nat) : State :=
  let host := reqr != 0x22
  let s := if old == .off && new == .starting then s.timersZero.modChg fun c => { c with terminated := false } else s
  let s := if host && new == target then
      match target with
      | .off => if cls ≤ 4 && old != .latchedOff then s.modChg fun c => { c with run := false, hostHeld := false } else s
      | .starting => s.modChg fun c => { c with run := true, hostHeld := false }
      | .held => s.modChg fun c => { c with hostHeld := true }
      | _ => s
    else s
  match new with
  | .off | .held => s.chargerStop
  | .latchedOff =>
    let s := s.chargerStop
    if old = .active then s.energyStop false else s
  | _ => s

/-- GAU_LEARN or GAU_DISAGREE has changed: a P5 STATE operation for the committed state (R480). -/
def State.gaugeFlags (s : State) : State := s.loopRequest liGauge (s.st liGauge) 0x24

/-- A learning cycle ends (R478, R479). -/
def State.learnEnd (s : State) : State :=
  if s.gau.learn.isNone then s else (s.modGau fun g => { g with learn := none }).gaugeFlags

/-- First period of a watchdog (R513). -/
def State.wdgStart (s : State) (w : Nat) : State :=
  s.modWdg w fun x => { x with n := 0, first := true, active := true, pulse := false, checkin := 0 }

/-- Milliseconds of a first period, rounded up (R513). -/
def State.wdgFirstMs (s : State) (w : Nat) : Nat := (s.im Img.wdgFirst w + 9) / 10

/-- What a committed clock state brings about (R500, R501). -/
def State.rtcTo (s : State) (old new : EState) : State :=
  match new with
  | .held => s.modRtc fun r => { r with halt := true }
  | .valid => if old = .held then s.modRtc fun r => { r with halt := false } else s
  | _ => s

/-- Seconds [31:0] of the clock, the value of its entry (R500). -/
def State.rtcValue (s : State) : BitVec 32 := s.rtc.sec.setWidth 32

end Sys2Proof.Machine
end

