-- ==== Sys2Proof/Machine/Pipeline.lean ====
section
/-! DEFINITION. The commit pipeline: intake, order, check, issue, confirmation, commits and bundles (R85 to R123). -/

namespace Sys2Proof.Machine

/-- The stages between intake and Sole advance: the unit governs, and no hold or clock switch stalls the lanes (R63, R289,
R301). In a warm start they finish the requests they hold (R334). -/
def State.issues (s : State) : Bool := s.live && s.lane.hold.isNone && !s.lane.govStop && !s.lane.switching

/-- The pipeline takes in and commits, which a warm start stops too (R334). -/
def State.flows (s : State) : Bool := s.issues && !s.glb.warmBusy

/-- Class of a port (R89). -/
def portClass (p : Nat) : Nat :=
  match p with
  | 0 => 0 | 1 => 1 | 2 => 2 | 3 => 3 | 4 => 4 | 5 => 4 | _ => 5

/-- A class queue: capture cycle and request or bundle, oldest first (R90). -/
def State.queue (s : State) (c : Nat) : List (Nat × List Req) := s.pipe.queues.get [] c

/-- Write a class queue. -/
def State.setQueue (s : State) (c : Nat) (l : List (Nat × List Req)) : State :=
  s.modPipe fun p => { p with queues := p.queues.set [] c l }

/-- Requests that wait in a class queue. -/
def reqCount (l : List (Nat × List Req)) : Nat := l.foldl (fun n x => n + x.2.length) 0

/-- Requests waiting in class queue c (PIPE_Qc). -/
def State.queueLen (s : State) (c : Nat) : Nat := reqCount (s.queue c) + (if c = 0 then 0 else (s.pipe.taking.filter (fun x => x.2.cls == c)).length)

/-- Free P4 entries as a submission finds them: those offered and not captured yet count as taken (R91). -/
def State.p4Free (s : State) : Nat :=
  64 - s.queueLen 4 - reqCount (s.pipe.offers.filter (fun o => o.1 == 4 || o.1 == 5))

/-- The rules of R115 for one bundle. -/
def bundleSound (l : List Req) : Bool :=
  match l with
  | [] => false
  | a :: _ => l.length ≤ 32 && l.length == a.bsize + 1 && l.all (fun b => b.cls == a.cls && b.reqr == a.reqr && b.bsize == a.bsize)

/-- A member of a bundle. -/
def isBundle (l : List Req) : Bool := l.any (·.bnd)

/-- The value that a completion carries when nothing of the request was committed (R112). -/
def State.entryVal (s : State) (r : Req) : BitVec 32 := (s.ent r.ep).val

/-- Refuse a request before it is stamped. -/
def State.refuse (s : State) (r : Req) (c : Code) : State := s.complete r s.pipe.seqNo c (s.entryVal r)

/-- Awl captures the first offer of a port that finds room in its class queue (R89, R115). -/
def State.capture (s : State) (p : Nat) : State :=
  let c := portClass p
  let room := Config.classDepth c - s.queueLen c
  match s.pipe.offers.find? (fun o => o.1 == p && (o.2.length ≤ room || (isBundle o.2 && !bundleSound o.2))) with
  | none => s
  | some o =>
    let s := s.modPipe fun x => { x with offers := x.offers.erase o }
    if isBundle o.2 && !bundleSound o.2 then o.2.foldl (fun s r => s.refuse r .refusedInterlock) s
    else s.setQueue c (s.queue c ++ [(s.cyc, o.2)])

/-- Request a captured at ca precedes request b captured at cb (R92): earlier, or in the same cycle with the lower
precedence. -/
def precedes (ca : Nat) (a : Req) (cb : Nat) (b : Req) : Bool :=
  decide (ca < cb) || (ca == cb && (decide (b.cls < a.cls) || (a.cls == b.cls && decide (b.reqr < a.reqr))))

/-- Waiting requests with their class and place, oldest class entry first. -/
def State.waiting (s : State) : List (Nat × Nat × List Req) :=
  (List.range 6).flatMap fun c => (s.queue c).map fun e => (c, e.1, e.2)

/-- The waiting request that R93 takes instead of a head captured at ch: the earliest one that precedes it for the same
endpoint, with the class and entry that hold it. -/
def State.preceding (s : State) (ch : Nat) (h : Req) : Option (Nat × Nat × List Req) :=
  let cand := s.waiting.flatMap fun x => (x.2.2.filter fun r => r.ep == h.ep && precedes x.2.1 r ch h).map fun r => (r, x)
  (cand.foldl (fun best x => match best with
    | none => some x
    | some b => if precedes x.2.2.1 x.1 b.2.2.1 b.1 then some x else some b) none).map (·.2)

/-- The head of the highest-class queue that is not empty. -/
def State.headOf (s : State) (classes : List Nat) : Option (Nat × Nat × List Req) :=
  classes.findSome? fun c => (s.queue c).head?.map fun e => (c, e.1, e.2)

/-- Remove one entry of a class queue. -/
def State.dropEntry (s : State) (x : Nat × Nat × List Req) : State := s.setQueue x.1 ((s.queue x.1).erase x.2)

/-- An authorised CLEAR uses up the authorisation unless its argument is all ones (R579, R580). -/
def State.useClearAuth (s : State) (q : Req) : State :=
  if q.cls = 3 then s
  else match ifaceOf q.reqr with
    | some i => s.modIface i fun x => match x.armed with
      | some (0x10, arg, _) => if arg = 0xFFFFFFFF#32 then x else { x with armed := none }
      | _ => x
    | none => s

/-- P2 to P5 operations of an endpoint move from the normal to the fast path (R98). Members of a bundle that is still being
checked stay: none of them may be issued yet (R117), and the operation that overtakes them aborts their bundle (R120). -/
def State.promote (s : State) (ep : Nat) : State :=
  s.modPipe fun p => { p with fastQ := p.fastQ ++ p.normQ.filter (fun o => o.req.ep == ep), normQ := p.normQ.filter (fun o => o.req.ep != ep) }

/-- An operation that Welt passes waits at Stitch (R97, R98). -/
def State.toStitch (s : State) (o : Op) : State :=
  if o.req.cls ≤ 1 then s.modPipe fun p => { p with fastQ := p.fastQ ++ [o] } else s.modPipe fun p => { p with normQ := p.normQ ++ [o] }

/-- Stamp of a taken request (R94). -/
def State.stamp (s : State) : BitVec 32 × State := (s.pipe.seqNo, s.modPipe fun p => { p with seqNo := p.seqNo + 1 })

/-- Order and check one request outside a bundle (R94, R97). -/
def State.orderOne (s : State) (r : Req) : State :=
  let (n, s) := s.stamp
  let s := if r.cls ≤ 1 then s.promote r.ep else s
  match s.welt r [] r.tree with
  | .refuse c => s.complete r n c (s.entryVal r)
  | .noop => s.complete r n .applied (s.entryVal r)
  | .issue v cl rc links =>
    let s := if r.kind = .clear then s.useClearAuth r else s
    s.toStitch { req := r, seq := n, epoch := s.led.epoch, val := v, clamped := cl, recheck := rc, links := links }

/-- The LIMIT fields of the charger (R450). -/
def State.chargerLimit (s : State) (v : Int) (cls reqr : Nat) : State :=
  let (lo, hi) := s.envOf liCharger
  let fix : Int → Int := fun x => if x = 0 then 0 else clampInt lo hi x
  if cls ≤ 4 then s.modChg fun c => { c with limPol := v }
  else if reqr = 0x23 then s.modChg fun c => { c with limThm := v }
  else if reqr = 0x22 then s.modChg fun c => { c with limTrk := v }
  else if reqr = 0x20 then s.modChg fun c => { c with limPol := fix c.limPol, limThm := fix c.limThm, limTrk := fix c.limTrk }
  else s

/-- What a committed SETPOINT, LIMIT or envelope leaves with its endpoint beside the entry (R75, R138, R201, R434, R450). -/
def State.noteTarget (s : State) (o : Op) : State :=
  let li := liOf o.req.ep
  let q := o.req
  match q.kind with
  | .setpoint => match kindOf li with
    | .rail r => if q.cls = 5 then s else s.modRail r fun x => { x with vnom := some o.val.toInt.toNat }
    | _ => s
  | .limit => match kindOf li with
    | .charger => s.chargerLimit o.val.toInt q.cls q.reqr
    | _ => s.modPolicy li fun p => { p with limit := o.val.toInt, polLimit := if q.cls = 5 then p.polLimit else o.val.toInt, limWriter := writerOf q.cls q.reqr }
  | .envelope => s.modPolicy li fun p => { p with env := some (o.val.toInt, q.val2.toInt) }
  | .phEnvelope => s.modPolicy li fun p => { p with phEnv := some (o.val.toInt.toNat, q.val2.toInt.toNat) }
  | _ => s

/-- One earlier member of a bundle, applied as Welt reads it for the next one (R117). -/
def State.withMember (s : State) (o : Op) : State :=
  let li := liOf o.req.ep
  let e := s.stored o.req.ep
  let put : Entry → State := fun e => s.modLed fun l => { l with cur := l.cur.set {} o.req.ep e }
  match o.req.kind with
  | .state => match EState.ofCode (bitsOf o.req.val.toNat 7 0) with
    | some t => put { e with st := t }
    | none => s
  | .setpoint => put { e with val := o.val }
  | .clear => if slotOf o.req.ep ≠ 0 then
      (if e.ty = 0x0B then put { e with st := .clear } else if e.st = .latchedOff then put { e with st := .off } else s)
    else match kindOf li with
      | .source n => (put { e with st := .clear }).modSrc n fun x => { x with sticky := false }
      | .phase p => put { e with st := if (s.phase p).spareRole then .spare else .off }
      | _ => put { e with st := .off }
  | .energy => put { e with st := if (energyOf o.val).order = 0 then .off else .active }
  | .park => if slotOf o.req.ep = 0 then s.modGlb fun g => { g with parkPend := true } else s
  | _ => if slotOf o.req.ep = 0 then s.noteTarget o else s

/-- The ledger, limits and envelopes with earlier members of a bundle applied (R117). -/
def State.withMembers (s : State) (l : List Op) : State := l.foldl State.withMember s

/-- Every member of a bundle is checked: the bundle stands, or it is refused whole (R117); one that aborted meanwhile ends
with nothing issued (R120). -/
def State.bundleChecked (s : State) (b : Nat) : State :=
  match s.pipe.bundles.get none b with
  | none => s
  | some x =>
    if x.codes.isEmpty && !x.aborting then
      let live := x.members.filter (fun o => !o.noop)
      let noops := (x.members.filter (·.noop)).map (·.seq)
      let s := s.modPipe fun p => { p with bundles := p.bundles.set none b (some { x with passed := true, confirmed := noops }) }
      live.foldl (fun s o => s.toStitch o) s
    else
      let s := s.modPipe fun p => { p with bundles := p.bundles.del b }
      x.members.foldl (fun s o =>
        let c := match x.codes.find? (fun k => k.1 == o.seq) with
          | some k => k.2
          | none => .aborted
        s.complete o.req o.seq c (s.entryVal o.req)) s

/-- Order and check the next member of the bundle that Shank takes (R95, R117). -/
def State.orderMember (s : State) : State :=
  match s.pipe.taking with
  | [] => s
  | (_, r) :: rest =>
    let b := s.pipe.bundleNo
    let x := (s.pipe.bundles.get none b).getD {}
    let (n, s) := s.stamp
    let all := x.members.map (·.req) ++ r :: rest.map (·.2)
    let o : Op := { req := r, seq := n, epoch := s.led.epoch, val := r.val, bundle := some b }
    let (o, codes) := match (s.withMembers x.members).welt r all false with
      | .refuse c => (o, x.codes ++ [(n, c)])
      | .noop => ({ o with noop := true }, x.codes)
      | .issue v cl rc links => ({ o with val := v, clamped := cl, recheck := rc, links := links }, x.codes)
    let s := if r.kind = .clear && codes.length == x.codes.length then s.useClearAuth r else s
    let x := { x with seqs := x.seqs ++ [n], members := x.members ++ [o], codes := codes }
    let s := s.modPipe fun p => { p with taking := rest, bundles := p.bundles.ins b (some x) }
    if rest.isEmpty then (s.bundleChecked b).modPipe fun p => { p with bundleNo := p.bundleNo + 1 } else s

/-- Shank takes an entry of a queue: a single request, or a bundle from its first member (R93). -/
def State.takeEntry (s : State) (x : Nat × Nat × List Req) : State :=
  let s := s.dropEntry x
  match x.2.2 with
  | [r] => if r.bnd then (s.modPipe fun p => { p with taking := [(x.2.1, r)] }).orderMember else s.orderOne r
  | l => (s.modPipe fun p => { p with taking := l.map (fun r => (x.2.1, r)) }).orderMember

/-- Welt and Stitch have no place on the path of a class: each path holds three requests, two in Welt and one at Stitch; a
bundle is taken whole behind them (R85, R98, R122; DEDUCED, assumption 107). -/
def State.pathFull (s : State) (cls : Nat) : Bool :=
  if cls ≤ 1 then decide (3 ≤ (s.pipe.fastQ.filter fun o => decide (o.req.cls ≤ 1)).length) else decide (3 ≤ s.pipe.normQ.length)

/-- Shank takes one request, where its path has a place (R93, R95, R122). A request that precedes a P0 or P1 head is taken
for its sake and moves with it to the fast path (R98). -/
def State.order (s : State) : State :=
  match s.pipe.taking with
  | [] => match s.headOf [0, 1, 2, 3, 4, 5] with
    | none => s
    | some x => match x.2.2 with
      | [] => s.dropEntry x
      | h :: _ => if s.pathFull h.cls then s else s.takeEntry ((s.preceding x.2.1 h).getD x)
  | members => match s.headOf [0, 1] with
    | none => s.orderMember
    | some x => match x.2.2 with
      | [] => s.dropEntry x
      | h :: _ => if members.any (fun m => m.2.ep == h.ep && precedes m.1 m.2 x.2.1 h) then s.orderMember else if s.pathFull h.cls then s else s.takeEntry x

/-- Tack slot k. -/
def State.slotAt (s : State) (k : Nat) : Option TackSlot := s.pipe.tack.get none k
/-- Write Tack slot k. -/
def State.setSlot (s : State) (k : Nat) (t : Option TackSlot) : State := s.modPipe fun p => { p with tack := p.tack.set none k t }
/-- Tack slots in use (PIPE_TACK_USED). -/
def State.tackUsed (s : State) : Nat := s.pipe.tack.length
/-- Slots that P2 to P5 operations hold (R99). -/
def State.tackNormal (s : State) : Nat :=
  (s.pipe.tack.filter fun x => match x.2 with
    | some t => 2 ≤ t.op.req.cls
    | none => false).length
/-- The lowest-numbered free slot. -/
def State.freeSlot (s : State) : Option Nat := (List.range Config.tackSlots).find? fun k => (s.slotAt k).isNone
/-- A commit waits for Sole from this core cycle on (R108). -/
def State.queueCommit (s : State) (c : PCommit) : State :=
  let now := s.cyc
  s.modPipe fun p => { p with soleQ := p.soleQ ++ [{ c with cyc := now }] }

/-- Accumulator units of a millivolt (R196, R198). -/
def accPerMv : Int := 131072

/-- A start operation is issued (R133, R152, R169). -/
def State.startIssue (s : State) (li : Nat) : State :=
  match kindOf li with
  | .rail r =>
    let mv := s.startMv r
    s.modRail r fun x => { x with en := true, ramped := false, rampOver := false, rampMv := mv, target := mv * accPerMv, newTarget := none, disch := false, short := false, acc := 0, running := false }
  | .switch n => s.modSwitch n fun x => { x with gate := true, inrush := true }
  | _ => s

/-- A stop operation is issued (R162, R170, R196): the target is 0 V, and the output is discharged when RAIL_DIS or the
request calls for it. -/
def State.stopIssue (s : State) (li : Nat) (disch : Bool) : State :=
  match kindOf li with
  | .rail r =>
    let now := s.cyc
    let on := disch || s.imb Img.railDis r
    s.modRail r fun x => { x with disch := if on then !x.discharged else x.disch, newTarget := some 0, newCyc := now, overload := none }
  | .switch n => s.switchOff n
  | _ => s

/-- The actuator takes an operation (R100, R104, R148, R199). -/
def State.actuate (s : State) (o : Op) : State :=
  let li := liOf o.req.ep
  match o.req.kind with
  | .setpoint => match kindOf li with
    | .rail r =>
      let now := s.cyc
      let s := if (s.st li).alive then s.modRail r fun x => { x with newTarget := some (o.val.toInt * accPerMv), newCyc := now, ramped := x.ramped && x.acc == o.val.toInt * accPerMv } else s
      s.traceExt fun rail src _ => src == 6 && rail == r
    | _ => s
  | .state => match kindOf li, o.links.head? with
    | .switch n, some .off => s.switchOff n
    | _, _ => s
  | .substitute => match kindOf li, kindOf (bitsOf o.val.toNat 10 0) with
    | .phase p, .phase q => s.modPhase q fun x => { x with angle := (s.phase p).angle }
    | _, _ => s
  | _ => s

/-- A commit of this slot already waits for Sole. -/
def State.commitWaits (s : State) (k : Nat) : Bool := s.pipe.soleQ.any fun c => c.slot == some k

/-- The operation in a slot is confirmed, or has progressed by one link (R40, R104, R119, R218): a group's that waits for its
step boundary counts for its bundle there. One in another slot of the
ledger is answered by its completion frame alone (R103). -/
def State.confirm (s : State) (k : Nat) : State :=
  match s.slotAt k with
  | none => s
  | some t =>
    let o := t.op
    if t.confirmed || s.commitWaits k || slotOf o.req.ep != 0 then s
    else if t.replacedBy.isSome then
      (s.setSlot k (some { t with confirmed := true })).modPipe fun p => match o.bundle with
        | some b => p.memberDone b o.seq
        | none => p
    else
      let fin : State → State := fun s =>
        let s := s.setSlot k (some { t with confirmed := true })
        match o.bundle, o.comp with
        | some b, false => s.modPipe fun p => p.memberDone b o.seq
        | _, _ => s.queueCommit { op := o, link := if o.req.kind = .state then o.links.head? else none, final := true, slot := some k }
      match o.req.kind, kindOf (liOf o.req.ep) with
      | .state, .group g =>
        let x := s.group g
        let st := s.st (liOf o.req.ep)
        if o.bundle.isNone && st == .failed && x.unwind then
          (s.setSlot k (some { t with confirmed := true })).modGroup g fun x => { x with endRetries := true }
        else if (st == .starting || st == .stopping) && (x.running || (x.immed && EState.ofCode (bitsOf o.req.val.toNat 7 0) == some .on)) then
          (s.setSlot k (some { t with confirmed := true })).modGroup g fun x => { x with turn := EState.ofCode (bitsOf o.req.val.toNat 7 0) }
        else fin s
      | .state, _ => match o.links with
        | l :: _ :: _ => match l with
          | .starting | .stopping => if isOutputType (s.ent o.req.ep).ty then s
              else s.queueCommit { op := o, link := some l, final := false, slot := some k }
          | _ => s.queueCommit { op := o, link := some l, final := false, slot := some k }
        | _ => fin s
      | _, _ => fin s

/-- The next link of an output's chain, where its cause is an operation that begins now (R40): the start or the stop is
issued and the transitional state goes to Sole. A stop of a rail whose output is below RAIL_OFF_THR is confirmed (R162). -/
def State.beginLink (s : State) (k : Nat) (o : Op) : State :=
  let li := liOf o.req.ep
  match o.links with
  | .starting :: _ :: _ => (s.startIssue li).queueCommit { op := o, link := some .starting, final := false, slot := some k }
  | .stopping :: _ :: _ => (s.stopIssue li (o.req.disch || o.comp)).queueCommit { op := o, link := some .stopping, final := false, slot := some k }
  | [.off] => match kindOf li with
    | .rail r => if s.st li = .stopping ∧ (s.rail r).discharged then s.confirm k else s
    | _ => s
  | _ => s

/-- The flags of bundle membership are in the member's transitional commit, which an output commits once it is issued; every
other member takes IN_BUNDLE alone (R69). -/
def State.hasTransit (s : State) (o : Op) : Bool :=
  isOutputType (s.ent o.req.ep).ty && match o.links with
    | .starting :: _ :: _ | .stopping :: _ :: _ => true
    | _ => false

/-- A member that takes IN_BUNDLE alone when it is issued (R69, R655). -/
def State.flagAlone (s : State) (o : Op) : Bool :=
  slotOf o.req.ep == 0 && o.req.kind != .park && !s.hasTransit o && !(s.stored o.req.ep).flag fINBUNDLE

/-- A member of a bundle: of this unit's own, or of the root's in another slot, whose OP carries BND (R69, R86). -/
def Op.inBundle (o : Op) : Bool := o.bundle.isSome || o.req.tree

/-- The flag that ends with a request of the tree outside its final commit (R71, R655). Another member of the tree's bundle may
still be in flight on the endpoint. -/
def State.treeEnd (s : State) (o : Op) : State :=
  if o.req.tree && slotOf o.req.ep == 0 && (s.stored o.req.ep).flag fINBUNDLE && !s.inFlight.any (fun x => x.2.op.req.tree && x.2.op.req.ep == o.req.ep) then
    s.commitFlags o.req.ep o.req.cls o.req.reqr 0 (flagMask fINBUNDLE) else s

/-- Give an operation its Tack slot and issue it (R99 to R101). -/
def State.issueAt (s : State) (k : Nat) (o : Op) : State :=
  let s := s.modPipe fun p =>
    { p with expired := p.expired.filter (fun x => x.req.ep != o.req.ep || x.req.kind != o.req.kind), tack := p.tack.map fun x => match x.2 with
        | some t => if t.op.req.ep == o.req.ep && t.op.req.kind == o.req.kind && t.replacedBy.isNone then (x.1, some { t with replacedBy := some o.seq }) else x
        | none => x }
  let n := s.pipe.issueNo
  let s := (s.setSlot k (some { op := o, issued := n })).modPipe fun p => { p with issueNo := n + 1 }
  let used := s.tackUsed
  let s := s.modPipe fun p => { p with tackPeak := max p.tackPeak used }
  if slotOf o.req.ep ≠ 0 then s.sendOp { o.req with val := o.val } k
  else
    let s := if o.inBundle && s.flagAlone o then
        s.commitFlags o.req.ep o.req.cls o.req.reqr (flagMask fINBUNDLE) 0 else s
    if isOutputType (s.ent o.req.ep).ty && o.req.kind == .state then (s.actuate o).beginLink k o else s.actuate o

/-- Free a slot; an operation that its holder had replaced and that has committed nothing since stands again: the spec does
not say what becomes of it when the newer one ends without a commit (R101; DESIGN CHOICE, assumption 108). -/
def State.freeTack (s : State) (k : Nat) : State :=
  match s.slotAt k with
  | none => s
  | some t =>
    let s := s.setSlot k none
    let s := s.modPipe fun p => { p with soleQ := p.soleQ.filter (fun c => c.slot != some k) }
    let back := s.inFlight.filter fun x => x.2.replacedBy == some t.op.seq
    back.foldl (fun s x =>
      let s := s.setSlot x.1 (some { x.2 with replacedBy := none })
      if x.2.confirmed && slotOf x.2.op.req.ep == 0 && x.2.op.bundle.isNone then s.queueCommit { op := x.2.op, link := x.2.op.links.head?, final := true, slot := some x.1 } else s) s

/-- A local operation that its time limit ends is kept until its endpoint takes the next one of its kind, for a late
confirmation (R107). -/
def State.noteExpired (s : State) (o : Op) (c : Code) : State :=
  if c = .timeout ∧ slotOf o.req.ep = 0 then s.modPipe fun p => { p with expired := p.expired ++ [o] } else s

/-- End an operation outside a bundle without its commit. -/
def State.endOp (s : State) (k : Nat) (c : Code) : State :=
  match s.slotAt k with
  | some t => (((s.freeTack k).noteExpired t.op c).treeEnd t.op).complete t.op.req t.op.seq c (s.entryVal t.op.req)
  | none => s

/-- The bundle's slots are all free: its outcome is decided (R71, R111). -/
def State.bundleOutcome (s : State) (b : Nat) : State :=
  match s.pipe.bundles.get none b with
  | none => s
  | some x =>
    if !x.aborting || s.inFlight.any (fun t => t.2.op.bundle == some b) then s
    else
      let s := s.modPipe fun p => { p with bundles := p.bundles.del b }
      let s := x.members.foldl (fun s o =>
        if slotOf o.req.ep == 0 && o.req.kind != .park && (s.stored o.req.ep).flag fINBUNDLE then
          s.commitFlags o.req.ep o.req.cls o.req.reqr 0 (flagMask fINBUNDLE) else s) s
      x.members.foldl (fun s o => s.complete o.req o.seq .aborted (s.entryVal o.req)) s

/-- A compensating operation has failed: the endpoint commits FAILED (R72). -/
def State.compFailed (s : State) (k : Nat) (o : Op) : State :=
  let s := s.freeTack k
  let li := liOf o.req.ep
  if slotOf o.req.ep ≠ 0 then s
  else if legalTrans (s.ent li).ty (s.st li) .failed then
    s.commitState li { st := some .failed, cls := o.req.cls, reqr := o.req.reqr, clr := flagMask fINBUNDLE }
  else s.commitFlags li o.req.cls o.req.reqr 0 (flagMask fINBUNDLE)

/-- A compensating chain begins or goes on: links whose cause is the compensation itself commit at once, the others wait
for their progress (R71, R121). -/
def State.compRun : Nat → State → Nat → Op → State
  | 0, s, _, _ => s
  | n + 1, s, k, o =>
    let li := liOf o.req.ep
    let cm : EState → Cm := fun t => { st := some t, cls := o.req.cls, reqr := o.req.reqr, comp := true, clr := flagMask fINBUNDLE }
    match o.links with
    | [] => s.freeTack k
    | .stopping :: rest =>
      let o := { o with links := rest }
      State.compRun n ((s.stopIssue li true).commitState li (cm .stopping) |>.setSlot k (some { op := o })) k o
    | .starting :: rest =>
      let o := { o with links := rest }
      State.compRun n ((s.startIssue li).commitState li (cm .starting) |>.setSlot k (some { op := o })) k o
    | .off :: rest =>
      if (s.ent li).ty = 5 then
        let o := { o with links := rest }
        State.compRun n ((s.stopIssue li true).commitState li (cm .off) |>.setSlot k (some { op := o })) k o
      else match kindOf li with
        | .rail r =>
          if (s.rail r).discharged then
            let o := { o with links := rest }
            State.compRun n ((s.commitState li (cm .off)).setSlot k (some { op := o })) k o
          else s.setSlot k (some { op := o })
        | _ => s.setSlot k (some { op := o })
    | _ => s.setSlot k (some { op := o })

/-- A compensating operation takes the member's slot and waits there for its confirmation (R71, R121). -/
def State.compIssue (s : State) (k : Nat) (o : Op) (v : BitVec 32) (links : List EState) : State :=
  let q : Op := { o with req := { o.req with val := v, bnd := false, last := false, bsize := 0 }, val := v, links := links, comp := true, clamped := false, recheck := false }
  (s.setSlot k (some { op := q })).actuate q

/-- A compensating operation goes to the unit of the member's slot as another member of the bundle (R71, R86, R103). The member's
own answer may still be on its way: it is for an operation that has ended (R107). -/
def State.compSend (s : State) (k : Nat) (o : Op) (v : BitVec 32) : State :=
  let q : Req := { o.req with val := v }
  let waits := match s.slotAt k with
    | some t => !t.confirmed && !t.refused
    | none => false
  (s.setSlot k (some { op := { o with req := q, comp := true }, stale := waits })).sendOp q k

/-- An output goes back to the side on which the bundle found it (R71). A load switch that the member opened closes again
with inrush control; its entry has not left its state. -/
def State.compOutput (s : State) (k : Nat) (o : Op) (prior : EState) : State :=
  let li := liOf o.req.ep
  let cur := s.st li
  let ty := (s.ent li).ty
  let back := if prior.alive then EState.on else EState.off
  let closes := ty == 5 && back == .on
  match if closes then some [if cur = .derated then EState.derated else .on] else outputChain ty cur back with
  | some links =>
    let v := BitVec.ofNat 32 back.code
    let q : Op := { o with req := { o.req with val := v, bnd := false, last := false, bsize := 0 }, val := v, links := links, comp := true, clamped := false, recheck := false }
    if back = .on && s.heldOff li then s.compFailed k q else if closes then (s.startIssue li).setSlot k (some { op := q }) else s.compRun 6 k q
  | none => s.freeTack k

/-- The transitions of R39 that bring the charger back to the state before a bundle, in at most two links; none where it has
none (R71; DEDUCED, assumption 109). -/
def chargerBack (cur prior : EState) : List EState :=
  if cur = prior then []
  else if legalTrans 0x0F cur prior then [prior]
  else match [EState.off, .held, .starting].find? (fun m => legalTrans 0x0F cur m && legalTrans 0x0F m prior) with
    | some m => [m, prior]
    | none => []

/-- The STATE that brings a charger in another slot back, of those that R459 opens, with the entry that the root holds (R71;
DEDUCED, assumption 109). -/
def chargerAsk (cur prior : EState) : Option EState :=
  match prior with
  | .off => some .off
  | .held => if cur = .off then some .starting else some .held
  | .starting | .on | .derated => some .starting
  | _ => none

/-- A group goes on from the step boundary at which a member of a bundle held it (R120, R218). -/
def State.groupLoose (s : State) (g : Nat) : State :=
  let x := s.group g
  if x.turn.isNone then s
  else
    let s := s.modGroup g fun x => { x with turn := none }
    if x.running && x.run == .none then s.seqRun 600 g x.step else s

/-- The compensating operation of one issued member (R71), in the member's own slot, with its confirmation (R121). A PHASES
member has moved no phase before the bundle commits, so the count that stands is asked for again; the count of a rail in another
slot is not in the root's ledger, and nothing is asked for there (DESIGN CHOICE, assumption 109). -/
def State.compMember (s : State) (x : Bundle) (k : Nat) (o : Op) : State :=
  let id := o.req.ep
  let li := liOf id
  let prior := match x.before.find? (fun e => e.1 == id) with
    | some e => e.2
    | none => s.stored id
  if x.causes.contains id then s.freeTack k
  else if slotOf id ≠ 0 then
    match o.req.kind with
    | .state => if prior.ty = 0x0F then (match chargerAsk (s.ent id).st prior.st with
          | some t => s.compSend k o (BitVec.ofNat 32 t.code)
          | none => s.freeTack k)
        else if prior.st.alive then s.compSend k o (BitVec.ofNat 32 EState.on.code)
        else if prior.st = .off ∨ prior.st = .stopping then s.compSend k o (BitVec.ofNat 32 EState.off.code)
        else s.freeTack k
    | .setpoint => s.compSend k o prior.val
    | .energy => s.compSend k o 0
    | _ => s.freeTack k
  else
    let ty := (s.ent li).ty
    match o.req.kind with
    | .state =>
      if isOutputType ty then s.compOutput k o prior.st
      else if ty = 0x0F then s.compIssue k o (BitVec.ofNat 32 prior.st.code) (chargerBack (s.st li) prior.st)
      else match kindOf li with
        | .group g => (s.freeTack k).groupLoose g
        | _ => s.freeTack k
    | .setpoint => s.compIssue k o prior.val []
    | .phases => s.compIssue k o (BitVec.ofNat 32 (s.phasesOn li).length) []
    | _ => s.freeTack k

/-- A bundle aborts (R120): what is not issued stays so, what is issued is compensated. One that Welt still checks ends when
its last member has been checked. -/
def State.abortBundle (s : State) (b : Nat) (causes : List Nat) : State :=
  match s.pipe.bundles.get none b with
  | none => s
  | some x =>
    if x.aborting then s
    else if !x.passed then s.modPipe fun p => { p with bundles := p.bundles.set none b (some { x with aborting := true, causes := x.causes ++ causes }) }
    else
      let x := { x with aborting := true, causes := x.causes ++ causes }
      let early := s.pipe.soleQ.filter (fun c => c.op.bundle == some b && !c.final)
      let s := s.modPipe fun p =>
        { p with normQ := p.normQ.filter (fun o => o.bundle != some b), fastQ := p.fastQ.filter (fun o => o.bundle != some b), soleQ := p.soleQ.filter (fun c => c.op.bundle != some b), bundles := p.bundles.set none b (some x) }
      let s := early.foldl (fun s c =>
        let li := liOf c.op.req.ep
        match c.link with
        | some t => if legalTrans (s.ent li).ty (s.st li) t then
            s.commitState li { st := some t, cls := c.op.req.cls, reqr := c.op.req.reqr, set := flagMask fINBUNDLE } else s
        | none => s) s
      let held := s.inFlight.filter (fun t => t.2.op.bundle == some b)
      let s := held.foldl (fun s t => s.compMember x t.1 t.2.op) s
      s.bundleOutcome b

/-- Endpoints that the members of a bundle name, those still to be taken included (R95, R120). -/
def State.memberEps (s : State) (b : Nat) (x : Bundle) : List Nat :=
  x.members.map (·.req.ep) ++ (if !x.passed && b == s.pipe.bundleNo then s.pipe.taking.map (·.2.ep) else [])

/-- Abort every bundle with a member endpoint that a test selects; those endpoints are its causes (R71, R120). -/
def State.abortWhere (s : State) (f : Nat → Bool) : State :=
  (s.pipe.bundles.filterMap fun x => match x.2 with
    | some b =>
      let l := (s.memberEps x.1 b).filter f
      if b.aborting || l.isEmpty then none else some (x.1, l)
    | none => none).foldl (fun s b => s.abortBundle b.1 b.2) s

/-- Abort every bundle that names an endpoint (R120). -/
def State.abortFor (s : State) (ep : Nat) : State := s.abortWhere (· == ep)

/-- The commits of the flag alone that R69 calls for: one for each endpoint (R118). -/
def State.flagCommits (s : State) (l : List Op) : Nat :=
  ((l.filter fun o => s.flagAlone o).map (·.req.ep)).eraseDups.length

/-- The first member of a bundle waits for slots and for the room that its flag commits need (R118). -/
def State.bundleMayBegin (s : State) (b : Nat) : Bool :=
  match s.pipe.bundles.get none b with
  | none => true
  | some x =>
    let live := x.members.filter (fun o => !o.noop)
    !x.before.isEmpty ||
      (s.tackUsed + live.length ≤ Config.tackSlots && s.tackNormal + live.length ≤ Config.tackNormal &&
        s.led.cmtNow + s.flagCommits live ≤ Config.commitSoftLimit)

/-- Remember the entries before a bundle, for its compensation (R71). -/
def State.bundleBegin (s : State) (b : Nat) : State :=
  match s.pipe.bundles.get none b with
  | some x => if x.before.isEmpty then
      let before := x.members.map fun o => (o.req.ep, s.stored o.req.ep)
      s.modPipe fun p => { p with bundles := p.bundles.set none b (some { x with before := before }) }
    else s
  | none => s

/-- Stitch may issue an operation: a Tack slot of its pool, Lace credit and its bundle's room are there (R99, R100, R118). -/
def State.mayIssue (s : State) (o : Op) : Bool :=
  s.freeSlot.isSome && (o.req.cls ≤ 1 || s.tackNormal < Config.tackNormal) &&
    (slotOf o.req.ep == 0 || s.opCredit (slotOf o.req.ep)) &&
    match o.bundle with
    | some b => s.bundleMayBegin b
    | none => true

/-- The operation that a path issues next. The normal path waits for its head; on the fast path an operation that cannot be
issued yet lets the others pass (R96, R100). -/
def State.nextIssue (s : State) (fast : Bool) : Option Op :=
  if fast then s.pipe.fastQ.find? s.mayIssue else s.pipe.normQ.head?.filter s.mayIssue

/-- Stitch issues an operation of a path (R100, R118, R120). -/
def State.stitch (s : State) (fast : Bool) : State :=
  match s.nextIssue fast with
  | none => s
  | some o =>
    let s := if fast then s.modPipe fun p => { p with fastQ := p.fastQ.erase o } else s.modPipe fun p => { p with normQ := p.normQ.tail }
    let s := match o.bundle with
      | some b => s.bundleBegin b
      | none => s
    let s := if o.req.cls ≤ 1 then s.abortFor o.req.ep else s
    match s.freeSlot with
    | some k => s.issueAt k o
    | none => s

/-- The newest operation in flight on an endpoint that a test selects. -/
def State.opOn (s : State) (ep : Nat) (f : Op → Bool) : Option Nat :=
  ((s.inFlight.filter fun x => x.2.op.req.ep == ep && x.2.replacedBy.isNone && f x.2.op).getLast?).map (·.1)

/-- A completion is discarded and counted: its operation has ended, by its time limit or otherwise (R107, R378; DEDUCED,
assumption 108). -/
def State.countLate (s : State) : State := s.modPipe fun p => { p with lateCnt := p.lateCnt + 1 }

/-- A block confirms an operation that its time limit has ended, or none (R107). -/
def State.lateConfirm (s : State) (f : Op → Bool) : State :=
  match s.pipe.expired.find? f with
  | some o => (s.modPipe fun p => { p with expired := p.expired.erase o }).countLate
  | none => s

/-- A physical progress of an output confirms the operation whose next link it is (R40, R104). -/
def State.progress (s : State) (li : Nat) (link : EState) : State :=
  match s.opOn li (fun o => o.req.kind == .state && o.links.head? == some link) with
  | some k => s.confirm k
  | none => s.lateConfirm fun o => o.req.ep == li && o.req.kind == .state && o.links.head? == some link

/-- The value that the latest commit of an endpoint by a writer wrote, of those that the journal retains. -/
def State.valueBy (s : State) (id : Nat) (w : BitVec 16) : Option (BitVec 32) :=
  s.led.journal.foldl (fun v j => match j with
    | .entry _ i e | .set _ i e => if i = id ∧ e.writer = w then some e.val else v
    | _ => v) none

/-- The value that a completion carries for what was committed (R112). A group's program commits further steps behind the
request's own commit. -/
def State.committedVal (s : State) (o : Op) : BitVec 32 :=
  match o.req.kind with
  | .setpoint | .limit | .phases | .envelope | .phEnvelope | .publish => o.val
  | _ => match kindOf (liOf o.req.ep) with
    | .group _ => (s.valueBy o.req.ep (writerOf o.req.cls o.req.reqr)).getD (s.stored o.req.ep).val
    | _ => (s.stored o.req.ep).val

/-- A protection releases an endpoint (R79): its clamped requests wait for the next epoch. -/
def State.protReleased (s : State) (li : Nat) : State :=
  s.modPipe fun p => { p with rechecks := p.rechecks.map fun x => if x.2.ep == li then (true, x.2) else x }

/-- Requests under RECHECK that a final commit leaves waiting: one of the same or a higher class takes their place (R79). -/
def State.recheckAfter (s : State) (o : Op) : State :=
  let keep := s.pipe.rechecks.filter fun x => x.2.ep != o.req.ep || x.2.cls < o.req.cls
  s.modPipe fun p => { p with rechecks := if o.recheck then keep ++ [(false, { o.req with bnd := false, last := false, bsize := 0 })] else keep }

/-- A standing LIMIT derates a rail or a load switch that is ON, and a lifted one restores it (R139, R176). -/
def State.limitState (s : State) (li : Nat) : Option EState :=
  let lim := (s.policy li).limit
  let low := match kindOf li with
    | .rail r => s.limitBelow r lim
    | .switch n => lim != 0 && decide (lim < (10 * s.im Img.lsIcont n : Nat))
    | _ => false
  match s.st li with
  | .on => if low then some .derated else none
  | .derated => if low || (s.stored li).flag fPROT then none else some .on
  | _ => none

/-- A committed envelope leaves the current value outside: the correction waits for the next epoch (R80, R450). -/
def State.needCorrection (s : State) (li : Nat) : State :=
  let (lo, hi) := s.envOf li
  let out : Int → Bool := fun v => decide (v < lo) || decide (hi < v)
  let limOut : Int → Bool := fun v => v != 0 && out v
  let bad := match kindOf li with
    | .rail r =>
      let n := (s.phasesOn r).length
      out (s.stored li).val.toInt ||
        (r < 24 && (s.st li).alive && (decide (n < (s.phEnvOf r).1) || decide ((s.phEnvOf r).2 < n)))
    | .switch _ => limOut (s.policy li).limit
    | .charger => limOut s.chg.limPol || limOut s.chg.limThm || limOut s.chg.limTrk
    | .foreign _ => out (s.stored li).val.toInt
    | _ => false
  s.modPipe fun p => { p with corrections := (p.corrections.filter (· ≠ li)) ++ (if bad then [li] else []) }

/-- State and value that a PUBLISH commits (R84, R429). -/
def publishState (ty : Nat) (cur : EState) (v2 : BitVec 32) : Option EState :=
  let t := if v2.getLsbD 0 then EState.valid else EState.stale
  if isReadingType ty then (if t = cur then none else some t)
  else if ty = 0x0E then
    (if t = .stale then (if cur = .stale then none else some .stale) else if cur = .stale then some .valid else none)
  else none

/-- The value that a STATE commit writes beside the state (R31, R217, R277, R278, R500, R513). No rule publishes the current
of a phase or a load switch, which R84 leaves out: their value stays 0 (DEDUCED, assumption 110). -/
def State.stateVal (s : State) (li : Nat) (t : EState) (o : Op) : Option (BitVec 32) :=
  match kindOf li with
  | .source _ => some o.req.val2
  | .event _ => if t = .active then some ((s.stored li).val + 1) else some 0
  | .watchdog w => if t = .active then some (BitVec.ofNat 32 (s.wdgFirstMs w)) else some 0
  | .rtc => some s.rtcValue
  | .group g => some (BitVec.ofNat 32 (s.group g).step)
  | _ => none

/-- What a committed CLEAR does (R39, R145, R146, R264, R455). A substitute keeps its flag with its role; the phase that it
replaced takes the flag off the rail. -/
def State.clearCommit (s : State) (li : Nat) (cm : Cm) : State :=
  match kindOf li with
  | .source n =>
    let s := s.modSrc n fun x => { x with sticky := false, occ := [], sent := (.clear, 0) }
    s.commit li { cm with st := some .clear, val := some 0 }
  | .phase p =>
    let back := (s.phase p).replaced
    let s := s.modPhase p fun x => { x with replaced := false }
    let st := if (s.phase p).spareRole then EState.spare else .off
    let s := s.commit li { cm with st := some st }
    let r := s.phaseRail p
    if back && (s.stored r).flag fSUBST then s.commit r { cm with clr := cm.clr ||| flagMask fSUBST } else s
  | .charger => s.timersZero.commit li { cm with st := some .off }
  | _ => s.commitState li { cm with st := some .off }

/-- A SUBSTITUTE commit (R143, R146): the failed phase FAILED, the spare ON with the assigned role at its position. -/
def State.substituteCommit (s : State) (p q : Nat) (cm : Cm) : State :=
  let angle := (s.phase p).angle
  let r := s.phaseRail p
  let s := s.modPhase p fun x => { x with mid := true, clNow := false, replaced := true }
  let s := s.commit (liPhase p) { cm with st := some .failed }
  let s := s.modPolicy (liPhase p) fun x => { x with failWriter := writerOf cm.cls cm.reqr, failEpoch := s.led.epoch }
  let s := s.modPhase q fun x => { x with spareRole := false, subst := true, mid := false, angle := angle }
  let s := s.commit (liPhase q) { cm with st := some .on, set := cm.set ||| flagMask fSUBST }
  let s := s.commit r { cm with set := cm.set ||| flagMask fSUBST }
  s.raiseEvt (72 + r) cm.reqr

/-- A phase commits FAILED with no spare in its place (R135, R139, R144, R150): its PWM is at mid, and the count of its rail
falls, which restarts the dwells, moves the positions and may lift a LIMIT's hold on the rail. -/
def State.phaseFailed (s : State) (p : Nat) (cm : Cm) : State :=
  let li := liPhase p
  let r := s.phaseRail p
  let was := s.st li
  let s := (s.modPhase p fun x => { x with mid := true, clNow := false }).modPolicy li fun x => { x with failWriter := writerOf cm.cls cm.reqr, failEpoch := s.led.epoch }
  let s := s.commit li { cm with st := some .failed }
  if was != .on then s
  else
    let s := (s.restartDwell r).respace r
    let s := match s.limitState r with
      | some t => s.commitState r { st := some t, cls := cm.cls, reqr := cm.reqr }
      | none => s
    s.judgeMinrun r cm.reqr

/-- A PHASES commit (R139, R144, R658). That it may also derate a rail, where it lowers LIMIT per phase, is read from the
effective limit: R139 names only a LIMIT commit (DESIGN CHOICE, assumption 117). -/
def State.phasesCommit (s : State) (r n : Nat) (cm : Cm) : State :=
  let s := s.setPhases r n cm.cls cm.reqr cm.comp
  (s.commitState r { cm with st := s.limitState r }).judgeMinrun r cm.reqr

/-- The operation as its commit finds the phases: with fewer usable ones than it asks for, a PHASES request commits them all
and completes CLAMPED (R658). -/
def State.atCommit (s : State) (o : Op) : Op :=
  let n := (s.usablePhases (liOf o.req.ep)).length
  if o.req.kind = .phases ∧ slotOf o.req.ep = 0 ∧ (n : Int) < o.val.toInt then { o with val := BitVec.ofNat 32 n, clamped := true } else o

/-- What one commit of an operation writes (R102), link by link; final: the request's last commit. IN_BUNDLE ends with the final
commit, of a request of the tree with that of the last one on the endpoint (R69, R70). -/
def State.writeOp (s : State) (o : Op) (link : Option EState) (final : Bool) : State :=
  let q := o.req
  let li := liOf q.ep
  let s := if final && !o.comp then s.recheckAfter o else s
  let held := s.pipe.rechecks.any fun x => x.2.ep == q.ep
  let k := if final && q.cls == 5 && o.clamped then State.loopOf li q.reqr q.dt else none
  let (fz, s) := match k with
    | some k => s.loopClamp k
    | none => (false, s)
  let resumes := q.kind == .envelope || q.kind == .phEnvelope || q.kind == .unfreeze
  let m : Bool → Nat → BitVec 16 := fun b f => if b then flagMask f else 0
  let last := !q.tree || !s.inFlight.any (fun x => x.2.op.req.tree && x.2.op.req.ep == q.ep && x.2.op.seq != o.seq)
  let cm : Cm := { cls := q.cls, reqr := q.reqr, clamped := o.clamped, comp := o.comp, set := m (o.inBundle && !final && !o.comp) fINBUNDLE ||| m (q.prot == some true) fPROT ||| m fz fFROZEN ||| m held fRECHECK, clr := m (o.inBundle && (final || o.comp) && last) fINBUNDLE ||| m (q.prot == some false) fPROT ||| m resumes fFROZEN ||| m (!held) fRECHECK }
  let s := match q.kind with
    | .state => match link with
      | none => s.commit li cm
      | some t =>
        let old := s.st li
        let cm := { cm with st := some t, val := s.stateVal li t o }
        match kindOf li with
        | .group g =>
          let aim := (EState.ofCode (bitsOf q.val.toNat 7 0)).getD t
          let was := (s.group g).dir
          let s := s.groupPlan g old t aim
          let s := s.modGroup g fun x => { x with react := q.cls == 1 && 0x200 ≤ q.reqr && q.reqr < 0x400 && (t == .stopping || t == .held) }
          (s.commit li { cm with val := s.stateVal li t o }).groupCommitted g old t aim was
        | .charger => (s.chargerTo old t (if final then t else .absent) q.cls q.reqr).commit li cm
        | .event e => (s.commit li cm).modEvt e fun x => if t = .active then { x with inFlight := x.inFlight - 1 } else x
        | .watchdog w => if old = .off && t == .active then (s.wdgStart w).commit li cm else s.commit li cm
        | .rtc => (s.rtcTo old t).commit li cm
        | .gauge => if t = old then s.commit li { cm with st := none } else s.commit li cm
        | .phase p => if t = .failed then s.phaseFailed p cm else s.commit li cm
        | _ => s.commitState li cm
    | .setpoint => (s.noteTarget o).commit li { cm with val := some o.val }
    | .limit =>
      let s := s.noteTarget o
      match kindOf li with
      | .charger => s.commit li cm
      | _ => s.commitState li { cm with st := s.limitState li }
    | .phases => s.phasesCommit li o.val.toInt.toNat cm
    | .envelope | .phEnvelope => (((s.noteTarget o).commit li cm).needCorrection li).resumeLoops li q.cls q.reqr
    | .unfreeze => (s.commit li cm).resumeLoops li q.cls q.reqr
    | .clear => s.clearCommit li cm
    | .publish => s.commit li { cm with st := publishState (s.ent li).ty (s.st li) q.val2, val := some o.val }
    | .substitute => match kindOf li, kindOf (bitsOf q.val.toNat 10 0) with
      | .phase p, .phase sp => s.substituteCommit p sp cm
      | _, _ => s
    | .park =>
      let now := s.cyc
      s.modGlb fun g => { g with parkPend := true, parkCyc := some now, parkTick := false }
    | .energy =>
      let e := energyOf o.val
      if e.order = 0 then
        (if s.lace.energy.isSome then (s.energyStop true).commit li { cm with st := some .off } else s.commit li cm)
      else (s.energyStart e).commit li { cm with st := some .active }
    | .none _ => s
  match k, fz with
  | some k, true => s.loopFrozen k li q.cls q.reqr
  | _, _ => s

/-- A commit that no transition of R39 allows any more, because another came first, is not written (DEDUCED, assumption
13). -/
def State.linkLegal (s : State) (o : Op) (link : Option EState) : Bool :=
  let li := liOf o.req.ep
  let ty := (s.ent li).ty
  let cur := s.st li
  match o.req.kind with
  | .state => match link with
    | none => true
    | some t => legalTrans ty cur t || (t == cur && (o.comp || ty == 0x0B || ty == 0x0C || ty == 0x10))
  | .clear => s.clearable li (s.ent li)
  | .substitute => cur == .on && s.st (bitsOf o.req.val.toNat 10 0) == .spare
  | .phases => cur.alive
  | .energy => (energyOf o.val).order == 0 || cur != .latchedOff
  | .park => true
  | _ => cur != .absent

/-- The operations in flight that one has replaced, directly or along a chain, oldest first (R101). -/
def State.replacedChain (s : State) : Nat → BitVec 32 → List (Nat × TackSlot)
  | 0, _ => []
  | n + 1, seq => (s.inFlight.filter fun x => x.2.replacedBy == some seq).flatMap fun x => State.replacedChain s n x.2.op.seq ++ [x]

/-- The last commit of a replaced operation, written again (R101, R102, R277). An output's transitional state stands in the
entry already. -/
def State.rewrite (s : State) (p : Op) : State :=
  let li := liOf p.req.ep
  let ty := (s.ent li).ty
  let cm : Cm := { cls := p.req.cls, reqr := p.req.reqr, clamped := p.clamped, comp := p.comp, clr := if p.comp || p.req.tree then flagMask fINBUNDLE else 0 }
  let plain := ty == 0x0B || ty == 0x0C || ty == 0x0E
  match p.req.kind, p.links with
  | .park, _ => s
  | .setpoint, _ => (s.noteTarget p).commit li { cm with val := some p.val }
  | .publish, _ => s.commit li { cm with st := publishState ty (s.st li) p.req.val2, val := some p.val }
  | .state, [t] =>
    if !plain || !(legalTrans ty (s.st li) t || t == s.st li) then s.commit li cm
    else
      let s := s.commit li { cm with st := some t, val := s.stateVal li t p }
      match kindOf li with
      | .event e => if t = .active then s.modEvt e fun x => { x with inFlight := x.inFlight - 1 } else s
      | _ => s
  | .state, _ => s.commit li cm
  | .phases, _ => s.phasesCommit li p.val.toInt.toNat cm
  | .limit, _ =>
    let s := s.noteTarget p
    match kindOf li with
    | .charger => s.commit li cm
    | _ => s.commitState li { cm with st := s.limitState li }
  | _, _ => (s.noteTarget p).commit li cm

/-- Write the last commits of the operations that this one replaced again; they complete SUPERSEDED (R101, R452). A P0
or P1 commit to FAILED leaves those that are not confirmed to end ABORTED (R36). -/
def State.supersede (s : State) (o : Op) (failing : Bool) : State :=
  ((s.replacedChain s.pipe.tack.length o.seq).filter fun x => x.2.confirmed || !failing).foldl (fun s x =>
    let p := x.2.op
    let s := s.rewrite p
    let s := s.setSlot x.1 none
    let s := s.modPipe fun q => { q with soleQ := q.soleQ.filter (fun c => c.slot != some x.1) }
    match p.bundle, p.comp with
    | some b, true => s.bundleOutcome b
    | _, _ => s.complete p.req p.seq .superseded (s.committedVal p)) s

/-- A P0 or P1 commit has moved an endpoint to FAILED: operations on it that are not confirmed end (R36, R156). -/
def State.abortUnconfirmed (s : State) (ep : Nat) (seq : BitVec 32) : State :=
  let gone := s.inFlight.filter fun x => x.2.op.req.ep == ep && x.2.op.seq != seq && !x.2.confirmed
  gone.foldl (fun s x =>
    match x.2.op.bundle with
    | some b => if x.2.op.comp then (s.freeTack x.1).bundleOutcome b else s.abortBundle b [ep]
    | none => s.endOp x.1 .aborted) s

/-- A SUBSTITUTE that commits is no longer in flight: its rail's spread spectrum runs on (R166). A PHASES that commits is not
either: RAIL_PH_MINRUN is judged behind it (R144). -/
def State.leaveFlight (s : State) (c : PCommit) : State :=
  match c.op.req.kind, c.slot with
  | .substitute, some k | .phases, some k => s.freeTack k
  | _, _ => s

/-- A link of an operation's chain has been written, or another commit has overtaken it: the next one begins (R40). -/
def State.nextLink (s : State) (k : Nat) (o : Op) : State :=
  let o' := { o with links := o.links.tail }
  match s.slotAt k with
  | some t =>
    let s := s.setSlot k (some { t with op := o' })
    if isOutputType (s.ent o.req.ep).ty then s.beginLink k o' else s.confirm k
  | none => s

/-- A group's STATE commit finds a step running that has begun since the request was confirmed: it waits for the boundary (R218). -/
def State.groupBusy (s : State) (c : PCommit) : Option Nat :=
  match c.op.req.kind, kindOf (liOf c.op.req.ep) with
  | .state, .group g =>
    let st := s.st (liGroup g)
    if slotOf c.op.req.ep == 0 && (s.group g).run != .none && (st == .starting || st == .stopping) then some g else none
  | _, _ => none

/-- A group's own transition has reached the first state of an accepted request: it counts as that request's (R219). -/
def State.groupMet (s : State) (c : PCommit) : Bool :=
  match c.op.req.kind, kindOf (liOf c.op.req.ep) with
  | .state, .group g => slotOf c.op.req.ep == 0 && c.link == some (s.st (liGroup g))
  | _, _ => false

/-- Sole writes one commit (R101, R102, R108, R111). A bundle goes on past a member's link that another commit has overtaken,
since nothing of the kind aborts it (R120; DEDUCED, assumption 13). -/
def State.soleWrite (s : State) (c : PCommit) : State :=
  let o := s.atCommit c.op
  let s := s.modPipe fun p => { p with soleQ := p.soleQ.erase c }
  match s.groupBusy c with
  | some g => s.modGroup g fun x => { x with turn := EState.ofCode (bitsOf o.req.val.toNat 7 0) }
  | none =>
  if !s.linkLegal o c.link then
    if s.groupMet c then
      match c.slot with
      | some k => s.endOp k .applied
      | none => s
    else match o.bundle, c.slot with
    | some b, some k => if o.comp then (s.compFailed k o).bundleOutcome b else s.nextLink k o
    | _, some k => s.endOp k .aborted
    | _, none => s
  else
    let failing := c.link == some .failed && o.req.cls ≤ 1
    let s := s.supersede o failing
    let s := (s.leaveFlight c).writeOp o c.link c.final
    let s := if failing then s.abortUnconfirmed o.req.ep o.seq else s
    if c.final then
      let s := match c.slot with
        | some k => s.freeTack k
        | none => s
      match o.bundle with
      | some b => if o.comp then s.bundleOutcome b else s
      | none => s.complete o.req o.seq (if o.clamped then .clamped else .applied) (s.committedVal o)
    else match c.slot with
      | some k => s.nextLink k o
      | none => s

/-- A commit may be written under the per-epoch limits, with every commit that it brings along (R101, R109). -/
def State.mayCommit (s : State) (c : PCommit) : Bool :=
  s.led.room (decide (c.op.req.cls ≤ 1) || c.op.comp) && (s.soleWrite c).led.late.length == s.led.late.length

/-- One stamp lies before another (R94). -/
def seqBefore (a b : BitVec 32) : Bool := decide (2 ^ 31 ≤ (a - b).toNat)

/-- The commit that Sole writes next: the oldest that the limits allow, and of those for its endpoint that it finds in one core
cycle, queued in it or held back together by the limits, the one with the earliest stamp (R108, R109). -/
def State.nextCommit (s : State) : Option PCommit :=
  (s.pipe.soleQ.find? s.mayCommit).map fun c =>
    (s.pipe.soleQ.filter fun x => x.op.req.ep == c.op.req.ep && (x.cyc == c.cyc || x.deferred || c.deferred) && s.mayCommit x).foldl (fun b x => if seqBefore x.op.seq b.op.seq then x else b) c

/-- Sole writes the oldest commit that the limits allow; those that must wait for the next epoch are counted once (R109). -/
def State.sole (s : State) : State :=
  let wait := s.pipe.soleQ.filter fun c => !s.mayCommit c && !c.deferred
  let s := if wait.isEmpty then s
    else s.modPipe fun p => { p with deferCnt := p.deferCnt + BitVec.ofNat 32 wait.length, soleQ := p.soleQ.map fun c => if !s.mayCommit c then { c with deferred := true } else c }
  match s.nextCommit with
  | some c => s.soleWrite c
  | none => s

/-- Every member of a bundle is confirmed and none of its transitional commits still waits. -/
def State.bundleReady (s : State) (b : Nat) (x : Bundle) : Bool :=
  x.passed && !x.aborting && x.members.all (fun o => x.confirmed.contains o.seq) && !s.pipe.soleQ.any (fun c => c.op.bundle == some b)

/-- The final states of a bundle (R119), its flags and its completions (R70, R111, R113). A member that a later one replaced
is written with that one (R101). A member whose last link another commit has overtaken writes its flags alone and completes as
one with nothing to commit (R39, R117; DEDUCED, assumption 13). -/
def State.bundleWrite (s : State) (b : Nat) (x : Bundle) : State :=
  let s := x.members.foldl (fun s o =>
    let slot := (s.inFlight.find? fun t => t.2.op.seq == o.seq && t.2.op.bundle == some b)
    match slot with
    | none => if o.noop then s.complete o.req o.seq .applied (s.entryVal o.req) else s
    | some (k, t) =>
      let p := t.op
      if slotOf p.req.ep ≠ 0 then (s.setSlot k none).completeAt p.epoch p.req p.seq (if p.clamped then .clamped else .applied) p.val
      else if t.replacedBy.isSome then s
      else
        let p := s.atCommit p
        let link := if p.req.kind = .state then p.links.head? else none
        let s := s.supersede p false
        let s := if s.linkLegal p link then s.writeOp p link true else s.commitFlags p.req.ep p.req.cls p.req.reqr 0 (flagMask fINBUNDLE)
        let s := s.freeTack k
        s.complete p.req p.seq (if p.clamped then .clamped else .applied) (s.committedVal p)) s
  s.modPipe fun p => { p with bundles := p.bundles.del b }

/-- The oldest bundle that may commit does (R119): 16 core cycles before the tick, and room for every member with every commit
that it brings along. One that the limits of R109 make wait counts each member that waits in its slot once in PIPE_DEFER_CNT,
which R119 does not say (DESIGN CHOICE, assumption 129). -/
def State.bundleCommit (s : State) : State :=
  match s.pipe.bundles.findSome? (fun x => match x.2 with
    | some b => if s.bundleReady x.1 b then some (x.1, b) else none
    | none => none) with
  | none => s
  | some (b, x) =>
    if !decide (s.cyc + 16 ≤ s.tickAt) then s
    else
      let t := s.bundleWrite b x
      if s.led.cmtNow + x.members.length ≤ Config.commitSoftLimit && t.led.late.length == s.led.late.length then t
      else if x.deferred then s
      else s.modPipe fun p => { p with deferCnt := p.deferCnt + BitVec.ofNat 32 (x.members.filter fun o => !o.noop).length, bundles := p.bundles.set none b (some { x with deferred := true }) }

/-- A time limit expires (R106): TIMEOUT, or the abort of the bundle; a compensating operation fails (R72). A confirmed
operation waits without its limit (R105, R109). -/
def State.timeLimit (s : State) (k : Nat) : State :=
  match s.slotAt k with
  | none => s
  | some t =>
    if t.confirmed || s.commitWaits k then s
    else match t.op.bundle with
      | some b => if t.op.comp then (s.compFailed k t.op).bundleOutcome b else s.abortBundle b []
      | none => s.endOp k .timeout

/-- A completion frame answers the operation in a slot: the endpoint, the kind and the tag are its own (R103, R107). -/
def TackSlot.answeredBy (t : TackSlot) (c : Cpl) : Bool :=
  slotOf t.op.req.ep != 0 && t.op.req.ep == c.ep && t.op.req.kind == c.kind && t.op.req.tag == c.tag

/-- The answer of a slot's operation in another slot of the ledger (R103, R113): code, value and epoch are the member's. A
member of a bundle that ended there by its time limit, unreachable or undone aborts the bundle; a refusal there confirms nothing,
and the member's own time limit ends the bundle (R120; DEDUCED, assumption 108). -/
def State.remoteDone (s : State) (k : Nat) (c : Cpl) : State :=
  match s.slotAt k with
  | none => s.countLate
  | some t =>
    if !t.answeredBy c then s.countLate
    else if t.stale then (s.setSlot k (some { t with stale := false })).countLate
    else
      let o := t.op
      match o.bundle with
      | some b =>
        if o.comp then (s.freeTack k).bundleOutcome b
        else if c.code = .applied ∨ c.code = .clamped ∨ c.code = .superseded then
          let o := { o with val := c.val, epoch := c.epoch, clamped := c.code == .clamped }
          (s.setSlot k (some { t with op := o, confirmed := true })).modPipe fun p => p.memberDone b o.seq
        else if c.code = .timeout then s.abortBundle b []
        else if c.code = .refusedInterlock then s.setSlot k (some { t with refused := true })
        else s.abortBundle b [o.req.ep]
      | none => (s.freeTack k).completeAt c.epoch o.req o.seq c.code c.val

/-- A confirmation whose operation no slot holds any more (R107). -/
def State.lateTack (s : State) (seq : BitVec 32) : State := (s.modPipe fun p => { p with expired := p.expired.filter fun o => o.seq != seq }).countLate

/-- TACK_CONFIRM: a completion is matched to its slot; one for an operation that has ended is counted (R104, R107). -/
def State.tackConfirm (s : State) (k : Nat) (seq : BitVec 32) : State :=
  match s.slotAt k with
  | some t => if t.op.seq = seq then s.confirm k else s.lateTack seq
  | none => s.lateTack seq

end Sys2Proof.Machine
end

