-- ==== Sys2Proof/Machine/PipeCmds.lean ====
section
/-! DEFINITION. The commands of the ledger and the commit pipeline, the tick apart (R51 to R126). -/

namespace Sys2Proof.Machine

/-- Port of a host interface (R89). -/
def ifacePort : Iface → Nat
  | .twb0 => 4
  | .spi => 5

/-- A submission refused under R91: PIPE_REQ_REJ, and STATUS_CML bit 1 on TWB0 (R551, R559). -/
def State.refused91 (s : State) (i : Iface) : State :=
  let s := s.modIface i fun x => { x with reqRej := true }
  if i = .twb0 then s.modHost fun h => { h with cml := h.cml ||| 2 } else s

/-- A host request outside a bundle is raised, or refused for want of room (R91, R126). -/
def State.hostRaise (s : State) (i : Iface) (l : List Req) : State :=
  if l.length ≤ s.p4Free then
    match l.getLast? with
    | some r => (s.modIface i fun x => { x with lastTag := r.tag }).offer (ifacePort i) l
    | none => s
  else s.refused91 i

/-- A bundle buffer empties with refusals (R116). -/
def State.bufferRefuse (s : State) (i : Iface) (more : List Req) : State :=
  let l := (s.iface i).bndBuf ++ more
  let s := s.modIface i fun x => { x with bndBuf := [], reqRej := true }
  l.foldl (fun s r => s.refuse r .refusedInterlock) s

/-- A bundle member is staged, handed over with its LAST, or empties the buffer (R115, R116). -/
def State.stageMember (s : State) (i : Iface) (r : Req) : State :=
  let buf := (s.iface i).bndBuf
  let bad := match buf with
    | a :: _ => r.cls != a.cls || r.reqr != a.reqr || r.bsize != a.bsize || decide (a.bsize + 1 < buf.length + 1)
    | [] => false
  if bad then s.bufferRefuse i [r]
  else if r.last then
    if buf.length + 1 = r.bsize + 1 then (s.modIface i fun x => { x with bndBuf := [] }).hostRaise i (buf ++ [r])
    else s.bufferRefuse i [r]
  else s.modIface i fun x => { x with bndBuf := x.bndBuf ++ [r] }

/-- A request of a host interface with the words last written (R86, R88, R126). -/
def State.hostReq (s : State) (i : Iface) (w0 : Word) : Req :=
  let x := s.iface i
  { Req.ofWords w0 x.w1 x.w2 x.w3 with cls := 4, reqr := reqrIface i }

/-- A write of PIPE_REQ0 (R116, R126). -/
def State.submitReq (s : State) (i : Iface) (w0 : Word) : State :=
  let r := s.hostReq i w0
  if !s.live then s
  else if r.bnd then s.stageMember i r
  else s.hostRaise i [r]

/-- A write that governs an endpoint: one P4 request with the previous tag plus 1 (R559). The answer says whether it was
raised. -/
def State.govern (s : State) (i : Iface) (r : Req) : Bool × State :=
  if !s.live then (true, s)
  else (1 ≤ s.p4Free, s.hostRaise i [{ r with cls := 4, reqr := reqrIface i, tag := (s.iface i).lastTag + 1, bnd := false }])

/-- The ledger entry that the faceplate shows (R44, R66). -/
def State.fpEntry (s : State) (id : Nat) : Entry :=
  let p := if slotOf id ≠ 0 then s.led.fpSlotPres.get .present (slotOf id)
    else match kindOf (liOf id) with
      | .foreign k => s.led.fpDevPres.get .present (k / 16)
      | _ => .present
  presentAs p (s.led.fp.get {} id)

/-- Give an interface the words of a read. -/
def State.answer (s : State) (i : Iface) (l : List Word) : State := s.modIface i fun x => { x with reply := l }

/-- An uncorrectable read of the primary copy (R51): the entry is recovered and the source and event report it. -/
def State.eccRead (s : State) : State := (s.pulseSrc 272 0).raiseEvt 219 (reqrSource 272)

/-- A faceplate read of one word (R51, R54): the word, and the state after. -/
def State.fpRead (s : State) (i : Iface) (word : Nat) (ecc : Bool) : Word × State :=
  let id := word / 4
  let k := word % 4
  let hit := match (s.iface i).entryLatch with
    | some (j, ws) => if k ≠ 0 ∧ j = id then some (ws.getD k 0) else none
    | none => none
  match hit with
  | some w => (w, s)
  | none =>
    let w := (s.fpEntry id).words
    let s := s.modIface i fun x => { x with entryLatch := some (id, [w.w0, w.w1, w.w2, w.w3]) }
    (Words4.get w k, if ecc then s.eccRead else s)

/-- A pin is set (R57, R58). -/
def State.pinSet (s : State) (i : Iface) : State :=
  if s.led.pinned then s
  else
    let now := s.time
    s.modLed fun l => { l with pinned := true, pinIf := i, pinLost := false, pinRelReq := false, snapEpoch := l.fpEpoch, pinCyc := now }

/-- The interface that set the pin asks for its release (R61). -/
def State.pinClear (s : State) (i : Iface) : State :=
  if s.led.pinned && s.led.pinIf == i then s.modLed fun l => { l with pinRelReq := true } else s

/-- Epoch register k: 0 SNAP, 1 PUB, 2 FP (R126). -/
def State.epochReg (s : State) (k : Nat) : Nat :=
  match k with
  | 0 => s.led.snapEpoch
  | 1 => s.led.pubEpoch
  | _ => s.led.fpEpoch

/-- A read of the low word of an epoch register (R126). -/
def State.epochLow (s : State) (i : Iface) (k : Nat) : Word × State :=
  let e := s.epochReg k
  (wordOf e, s.modIface i fun x => { x with epochHigh := x.epochHigh.set 0 k (e / 2 ^ 32 % 65536) })

/-- The oldest completion leaves the FIFO (R114, R126). -/
def State.popCpl (s : State) (i : Iface) : Word × State :=
  match (s.iface i).cplFifo with
  | [] => (0, s)
  | c :: rest =>
    let w := c.words
    (w.w0, s.modIface i fun x => { x with cplFifo := rest, cplLatch := [w.w0, w.w1, w.w2, w.w3] })

/-- Peaks are loaded anew (R126). -/
def State.clearPeaks (s : State) : State :=
  let used := s.tackUsed
  (s.modPipe fun p => { p with tackPeak := used }).modLed fun l => { l with cmtPeak := 0 }

/-- The bundle buffer empties on command (R116). -/
def State.bufferClear (s : State) (i : Iface) : State := if (s.iface i).bndBuf.isEmpty then s else s.bufferRefuse i []

/-- Port at which a request of a class and requester enters again (R79, R89). -/
def portOf (r : Req) : Nat :=
  match r.cls with
  | 0 => 0 | 1 => 1 | 2 => 2 | 3 => 3 | 4 => if r.reqr = 0x41 then 5 else 4 | _ => 6

/-- REQUEST_SUBMIT (R559). -/
def runRequestSubmit (i : Iface) (w0 : Word) (s : State) : Host.Outcome State Fault Refusal := .next (s.submitReq i w0)

/-- REQUEST_CAPTURE (R89). -/
def execRequestCapture (p : Fin 8) (s : State) : Host.Outcome State Fault Refusal :=
  .next (if s.flows then s.capture p else s)

/-- BUNDLE_MEMBER_STAGE (R116). -/
def runBundleMemberStage (i : Iface) (w0 : Word) (s : State) : Host.Outcome State Fault Refusal :=
  .next (if s.live then s.stageMember i { s.hostReq i w0 with bnd := true } else s)

/-- BUNDLE_BUFFER_TIMEOUT (R116). -/
def runBundleBufferTimeout (i : Iface) (s : State) : Host.Outcome State Fault Refusal := .next (s.bufferClear i)

/-- BUNDLE_BUFFER_CLEAR (R116). -/
def runBundleBufferClear (i : Iface) (s : State) : Host.Outcome State Fault Refusal :=
  .next (if s.live then s.bufferClear i else s)

/-- SHANK_ORDER (R93 to R98). -/
def execShankOrder (s : State) : Host.Outcome State Fault Refusal := .next (if s.issues then s.order else s)

/-- STITCH_ISSUE (R99 to R101, R118). -/
def execStitchIssue (fast : Bool) (s : State) : Host.Outcome State Fault Refusal :=
  .next (if s.issues then s.stitch fast else s)

/-- TACK_CONFIRM (R104, R107). -/
def runTackConfirm (slot : Fin 1024) (seq : Word) (s : State) : Host.Outcome State Fault Refusal :=
  .next (s.tackConfirm slot seq)

/-- TIME_LIMIT_EXPIRY (R106). -/
def runTimeLimitExpiry (slot : Fin 1024) (s : State) : Host.Outcome State Fault Refusal := .next (s.timeLimit slot)

/-- SOLE_COMMIT (R108, R109). -/
def execSoleCommit (s : State) : Host.Outcome State Fault Refusal := .next (if s.flows then s.sole else s)

/-- BUNDLE_COMMIT (R119). -/
def execBundleCommit (s : State) : Host.Outcome State Fault Refusal := .next (if s.flows then s.bundleCommit else s)

/-- CATCH_UP_COMPLETE (R64): the former copy holds every commit up to the publication shown, and the entries retained for
it go. bad is an uncorrectable read of the journal (R51, R310): one occurrence of FS273, and EV219. -/
def execCatchUpComplete (bad : Bool) (s : State) : Host.Outcome State Fault Refusal :=
  .next (if s.led.catchUp && s.issues then
      let s := s.modLed fun l => { l with catchUp := false, catchUpLen := 0, journal := l.journal.drop l.catchUpLen }
      if bad then (s.pulseSrc 273 0).raiseEvt 219 (reqrSource 273) else s
    else s)

/-- RECHECK_RESUBMIT (R79): the clamped request enters again with its class and requester. -/
def runRecheckResubmit (li : Fin 2048) (s : State) : Host.Outcome State Fault Refusal :=
  .next (match s.pipe.rechecks.find? (fun x => x.1 && x.2.ep == li.val) with
    | some x => (s.modPipe fun p => { p with rechecks := p.rechecks.erase x }).offer (portOf x.2) [x.2]
    | none => s)

/-- The operations that bring a value back into a committed envelope (R80, R450). -/
def State.correct (s : State) (li : Nat) : State :=
  let (lo, hi) := s.envOf li
  let put : State → Kind → Int → State := fun s k v =>
    s.offer 6 [{ ep := li, kind := k, val := BitVec.ofInt 32 v, cls := 5, reqr := 0x20 }]
  let val := (s.stored li).val.toInt
  match kindOf li with
  | .rail r =>
    let s := if val < lo ∨ hi < val then put s .setpoint (clampInt lo hi val) else s
    let n := (s.phasesOn r).length
    let (a, b) := s.phEnvOf r
    if r < 24 ∧ (s.st li).alive ∧ (n < a ∨ b < n) then put s .phases (clampInt a b n) else s
  | .switch _ =>
    let v := (s.policy li).limit
    if v ≠ 0 ∧ (v < lo ∨ hi < v) then put s .limit (clampInt lo hi v) else s
  | .charger =>
    match [s.chg.limPol, s.chg.limThm, s.chg.limTrk].find? (fun v => v != 0 && (decide (v < lo) || decide (hi < v))) with
    | some v => put s .limit (clampInt lo hi v)
    | none => s
  | .foreign _ => if val < lo ∨ hi < val then put s .setpoint (clampInt lo hi val) else s
  | _ => s

/-- ENVELOPE_CORRECTION (R80). -/
def runEnvelopeCorrection (li : Fin 2048) (s : State) : Host.Outcome State Fault Refusal :=
  .next (if s.pipe.corrections.contains li.val then
      (s.modPipe fun p => { p with corrections := p.corrections.filter (· ≠ li.val) }).correct li
    else s)

/-- FACEPLATE_READ (R51, R54). -/
def runFaceplateRead (i : Iface) (word : Fin 524288) (eccErr : Bool) (s : State) : Host.Outcome State Fault Refusal :=
  .next (if s.live then
      let r := s.fpRead i word eccErr
      r.2.answer i [r.1]
    else s.answer i [0])

/-- SNAPSHOT_PIN_SET (R57). -/
def runSnapshotPinSet (i : Iface) (s : State) : Host.Outcome State Fault Refusal := .next (if s.live then s.pinSet i else s)

/-- SNAPSHOT_PIN_CLEAR (R61). -/
def runSnapshotPinClear (i : Iface) (s : State) : Host.Outcome State Fault Refusal := .next (if s.live then s.pinClear i else s)

/-- EPOCH_LOW_READ (R126). -/
def runEpochLowRead (i : Iface) (k : Fin 3) (s : State) : Host.Outcome State Fault Refusal :=
  .next (let r := s.epochLow i k; r.2.answer i [r.1])

/-- COMPLETION_POP (R114). -/
def runCompletionPop (i : Iface) (s : State) : Host.Outcome State Fault Refusal :=
  .next (let r := s.popCpl i; r.2.answer i [r.1])

/-- PEAK_CLR (R126). -/
def runPeakClr (s : State) : Host.Outcome State Fault Refusal := .next (if s.live then s.clearPeaks else s)

/-- CPL_LOST_CLR (R114). -/
def runCplLostClr (i : Iface) (s : State) : Host.Outcome State Fault Refusal :=
  .next (if s.live then s.modIface i fun x => { x with cplLost := 0 } else s)

end Sys2Proof.Machine
end

