-- ==== Sys2Proof/Machine/Faults.lean ====
section
/-! DEFINITION. The fault collector's commands: line changes, integrity, tests, qualification by time, counts, entries, latching,
recovery from FAILED, forces, software sources and acknowledges (R256 to R281, R657). -/

namespace Sys2Proof.Machine

/-- The status bits that show a monitor's judgement follow its line: stage faults, crystal, RC, WDOSC and the references
(R177, R300, R304, R312). -/
def State.lineStatus (s : State) (n : Nat) (on : Bool) : State :=
  match n with
  | 265 => s.modLane fun l => { l with xtalOk := !on }
  | 267 => s.modLane fun l => { l with rcOk := !on }
  | 268 => s.modLane fun l => { l with wdoscOk := !on }
  | 269 | 270 | 271 =>
    let m := BitVec.ofNat 3 (2 ^ (n - 269))
    s.modLane fun l => { l with refOk := if on then l.refOk &&& ~~~m else l.refOk ||| m }
  | _ => if n < 96 ∧ n % 2 = 0 then s.modPhase (n / 2) fun x => { x with tfault := on } else s

/-- R258: the decoded line of source n changes. A line that decodes again has its integrity (R256). FS496 to FS511 have
no line (R266). A load switch's line stays asserted while its thermal account holds it (R659). -/
def runFaultLineChange (n : Fin 512) (asserted : Bool) (cause : Fin 1024) (s : State) : Host.Outcome State Fault Refusal :=
  .next (if n.val < 496 then
      let keep := if 176 ≤ n.val ∧ n.val < 208 then (s.src n).holds &&& 8 else 0
      (s.lineStatus n asserted).srcChange n (fun x => { x with line := asserted || keep != 0, lost := false, holds := if asserted then x.holds else keep }) cause
    else s)

/-- R260: the integrity of line n is lost. -/
def runIntegrityLost (n : Fin 512) (s : State) : Host.Outcome State Fault Refusal :=
  .next (if n.val < 496 then s.srcChange n (fun x => { x with lost := true }) 0 else s)

/-- R257: a line test of source n ends; its inversion was seen or not. Turns of lines without a test stay idle, and no
turn is made inside a hold or a warm start. -/
def execLineTest (n : Fin 512) (seen : Bool) (s : State) : Host.Outcome State Fault Refusal :=
  .next (if n.val < 480 && s.srcUsed n && s.live && s.lane.hold.isNone && !s.lane.switching && !s.lane.govStop && !s.glb.warmBusy then
      s.srcChange n (fun x => { x with lost := !seen }) 0
    else s)

/-- R259: a filtered level of FIN input f. The mid band is integrity lost. -/
def runFinLevel (f : Fin 16) (lvl : FinLvl) (s : State) : Host.Outcome State Fault Refusal :=
  .next (
    let n := 480 + f.val
    let pol := s.imb Img.fltFinPol f
    match lvl with
    | .mid => s.srcChange n (fun x => { x with lost := true }) 0
    | .high => s.srcChange n (fun x => { x with line := pol, lost := false }) 0
    | .low => s.srcChange n (fun x => { x with line := !pol, lost := false }) 0)

/-- A built-in request of source n with this cause moves the endpoint to FAILED (R268, R269). -/
def builtInMoves (n cause : Nat) : Bool :=
  (96 ≤ n && n < 176 && (n % 2 == 1 || cause == 1)) || (176 ≤ n && n < 208 && cause ≤ 1)

/-- R262: source n has stayed asserted for FLT_PERSIST × 10 µs; it qualifies once per assertion. -/
def runPersistQualify (n : Fin 512) (s : State) : Host.Outcome State Fault Refusal :=
  .next (if s.live && s.srcUsed n && s.asserted n && !(s.src n).qual && s.im Img.fltPersist n != 0 then
      s.qualifyWith State.wake n (builtInMoves n (s.src n).cause)
    else s)

/-- R261: the oldest occurrence of source n leaves the count, unless a new one of this core cycle has driven it out; a changed
count changes the entry (R276). -/
def runOccurrenceExpire (n : Fin 512) (s : State) : Host.Outcome State Fault Refusal :=
  .next (
    let c := (s.src n).count
    if (s.src n).leftCyc = some s.cyc then s
    else
    let s1 := s.modSrc n fun x => { x with occ := x.occ.tail }
    if (s1.src n).count = c then s1 else s1.srcEntry n)

/-- R276: a change that waited for the next epoch is submitted with the state and count current now. -/
def runSourceEntryCommit (n : Fin 512) (s : State) : Host.Outcome State Fault Refusal :=
  .next (if (s.src n).dirty && !(s.src n).committed then s.srcEntry n else s)

/-- A STATE request of the collector for an endpoint is under way. -/
def State.stateUnderWay (s : State) (li : Nat) (t : EState) : Bool :=
  s.underWay fun q => q.ep == li && q.kind == .state && q.cls == 1 && q.val == BitVec.ofNat 32 t.code

/-- R270: a FAILED rail or load switch with an occurred latching source is latched in the epoch after its FAILED commit. -/
def runLatchSubmit (li : Fin 2048) (s : State) : Host.Outcome State Fault Refusal :=
  .next (
    let p := s.policy li
    let may := match kindOf li with | .rail _ | .switch _ => true | _ => false
    if s.live && may && s.st li == .failed && p.failEpoch + 1 == s.led.epoch && !s.stateUnderWay li .latchedOff then
      match p.latchSrc with
      | some n => s.offer 1 [stateReq li .latchedOff 1 (reqrSource n)]
      | none => s
    else s)

/-- A FAILED endpoint of a FAILED group stays so until the group's retry, or until it latches (R237), and so does one whose failure
is about to fail the running power-up step. -/
def State.keptFailed (s : State) (li : Nat) : Bool :=
  match s.ownerOf li with
  | some g => s.st (liGroup g) == .failed || (s.st (liGroup g) == .starting && (s.stepEps g).contains li)
  | none => false

/-- R270 does not latch the endpoint: nothing to latch for, or its epoch is over without a submission. -/
def State.unlatched (s : State) (li : Nat) : Bool :=
  ((s.policy li).latchSrc.isNone || decide ((s.policy li).failEpoch + 1 < s.led.epoch)) && !s.stateUnderWay li .latchedOff

/-- What R657 asks of a FAILED endpoint before it returns to OFF: discharged, no source asserted, not latched. A foreign
output's OPERATION read back last is off. -/
def State.recoverable (s : State) (li : Nat) : Bool :=
  match kindOf li with
  | .rail r => (s.rail r).discharged && !s.asserted (96 + 2 * r) && !s.asserted (97 + 2 * r) && s.unlatched li
  | .switch n => !(s.switch n).gate && !s.asserted (176 + n) && s.unlatched li
  | .foreign k => s.isForeignOut k && (s.fdev (k / 16)).outOff.get false (k % 16)
  | _ => false

/-- R237, R657: a FAILED rail, load switch or foreign output leaves FAILED for OFF. -/
def runFailedRecovery (li : Fin 2048) (s : State) : Host.Outcome State Fault Refusal :=
  .next (
    let p := s.policy li
    if s.live && s.st li == .failed && decide (p.failEpoch < s.led.epoch) && s.recoverable li && !s.keptFailed li && !s.stateUnderWay li .off then
      s.offer 1 [stateReq li .off 1 (writerReqr p.failWriter)]
    else s)

/-- Sources 32k + i of the bits set in a mask. -/
def maskSources (k : Nat) (mask : Nat) : List Nat := ((List.range 32).filter (fun i => bitOf mask i)).map (32 * k + ·)

/-- R265: forces; ignored for a source whose FLT_FORCE_EN is 0. -/
def State.forceSrcs (s : State) (k : Nat) (mask : Word) : State :=
  ((maskSources k mask.toNat).filter (fun n => s.imb Img.fltForceEn n)).foldl (fun s n => s.srcChange n (fun x => { x with forced := true }) 0) s

/-- R265: the removal of forces. -/
def State.unforceSrcs (s : State) (k : Nat) (mask : Word) : State :=
  (maskSources k mask.toNat).foldl (fun s n => s.srcChange n (fun x => { x with forced := false }) 0) s

/-- R266: software-defined sources assert or clear. -/
def State.swSources (s : State) (mask : Nat) (on : Bool) : State :=
  ((List.range 16).filter (fun i => bitOf mask i)).foldl (fun s i => s.srcChange (496 + i) (fun x => { x with line := on }) 0) s

/-- R274: FAULT_N is released unless a SAFE source is asserted. -/
def State.faultnRelease (s : State) : State := if s.noSafe then { s with faultN := false } else s

/-- R278: each bit raises one P4 STATE CLEAR request for its event. -/
def State.ackEvents (s : State) (i : Iface) (k : Nat) (mask : Word) : State :=
  (maskSources k mask.toNat).foldl (fun s e => (s.govern i (stateReq (liEvent e) .clear 4 0)).2) s

/-- R265: FLT_FSET is written. -/
def runFltFset (k : Fin 16) (mask : Word) (s : State) : Host.Outcome State Fault Refusal := .next (if s.live then s.forceSrcs k mask else s)

/-- R265: FLT_FCLR is written. -/
def runFltFclr (k : Fin 16) (mask : Word) (s : State) : Host.Outcome State Fault Refusal := .next (if s.live then s.unforceSrcs k mask else s)

/-- R266: FLT_SW_SET is written. -/
def runFltSwSet (mask : BitVec 16) (s : State) : Host.Outcome State Fault Refusal := .next (if s.live then s.swSources mask.toNat true else s)

/-- R266: FLT_SW_CLR is written. -/
def runFltSwClr (mask : BitVec 16) (s : State) : Host.Outcome State Fault Refusal := .next (if s.live then s.swSources mask.toNat false else s)

/-- R274: FLT_FAULTN_REL is written with 1. -/
def runFltFaultnRel (s : State) : Host.Outcome State Fault Refusal := .next (if s.live then s.faultnRelease else s)

/-- R278: EVT_ACK is written. -/
def runEvtAck (i : Iface) (k : Fin 8) (mask : Word) (s : State) : Host.Outcome State Fault Refusal := .next (if s.live then s.ackEvents i k mask else s)

end Sys2Proof.Machine
end

