-- ==== Sys2Proof/Machine/Crypto.lean ====
section
/-! DEFINITION. SHA-256 and ECDSA over P-256, which R567, R577, R581 and R602 name (PRESUMED from FIPS 180-4 and FIPS 186,
assumption 4). -/

namespace Sys2Proof

/-- Evaluate a number before it is used. -/
def force {α : Type} (n : Nat) (f : Nat → α) : α := if n = 0 then f 0 else f n

/-- The round constants of SHA-256. -/
def shaK : List Nat :=
  [0x428a2f98, 0x71374491, 0xb5c0fbcf, 0xe9b5dba5, 0x3956c25b, 0x59f111f1, 0x923f82a4, 0xab1c5ed5,
   0xd807aa98, 0x12835b01, 0x243185be, 0x550c7dc3, 0x72be5d74, 0x80deb1fe, 0x9bdc06a7, 0xc19bf174] ++
  [0xe49b69c1, 0xefbe4786, 0x0fc19dc6, 0x240ca1cc, 0x2de92c6f, 0x4a7484aa, 0x5cb0a9dc, 0x76f988da,
   0x983e5152, 0xa831c66d, 0xb00327c8, 0xbf597fc7, 0xc6e00bf3, 0xd5a79147, 0x06ca6351, 0x14292967] ++
  [0x27b70a85, 0x2e1b2138, 0x4d2c6dfc, 0x53380d13, 0x650a7354, 0x766a0abb, 0x81c2c92e, 0x92722c85,
   0xa2bfe8a1, 0xa81a664b, 0xc24b8b70, 0xc76c51a3, 0xd192e819, 0xd6990624, 0xf40e3585, 0x106aa070] ++
  [0x19a4c116, 0x1e376c08, 0x2748774c, 0x34b0bcb5, 0x391c0cb3, 0x4ed8aa4a, 0x5b9cca4f, 0x682e6ff3,
   0x748f82ee, 0x78a5636f, 0x84c87814, 0x8cc70208, 0x90befffa, 0xa4506ceb, 0xbef9a3f7, 0xc67178f2]

/-- Rotate a 32-bit number right by n. -/
def rotr32 (x n : Nat) : Nat := x / 2 ^ n + x % 2 ^ n * 2 ^ (32 - n)

/-- The message schedule of one block, from its last 16 words, newest first. -/
def shaSchedule : Nat → List Nat → List Nat
  | 0, w => w
  | k + 1, w =>
    let a := w.getD 14 0
    let b := w.getD 1 0
    let s0 := rotr32 a 7 ^^^ rotr32 a 18 ^^^ a / 2 ^ 3
    let s1 := rotr32 b 17 ^^^ rotr32 b 19 ^^^ b / 2 ^ 10
    force ((w.getD 15 0 + s0 + w.getD 6 0 + s1) % 2 ^ 32) fun x => shaSchedule k (x :: w)

/-- The rounds of one block over the eight working variables. -/
def shaRounds (a b c d e f g h : Nat) : List (Nat × Nat) → List Nat
  | [] => [a, b, c, d, e, f, g, h]
  | (k, w) :: t =>
    let s1 := rotr32 e 6 ^^^ rotr32 e 11 ^^^ rotr32 e 25
    let ch := (e &&& f) ^^^ ((0xFFFFFFFF ^^^ e) &&& g)
    let s0 := rotr32 a 2 ^^^ rotr32 a 13 ^^^ rotr32 a 22
    let maj := (a &&& b) ^^^ (a &&& c) ^^^ (b &&& c)
    force (h + s1 + ch + k + w) fun t1 => force ((d + t1) % 2 ^ 32) fun e' => force ((t1 + s0 + maj) % 2 ^ 32) fun a' =>
      shaRounds a' a b c e' e f g t

/-- One block of 16 words on the eight hash words. -/
def shaBlock (st ws : List Nat) : List Nat :=
  let w := (shaSchedule 48 ws.reverse).reverse
  let r := shaRounds (st.getD 0 0) (st.getD 1 0) (st.getD 2 0) (st.getD 3 0) (st.getD 4 0) (st.getD 5 0) (st.getD 6 0) (st.getD 7 0) (shaK.zip w)
  (st.zip r).map fun x => (x.1 + x.2) % 2 ^ 32

/-- A number from bytes, most significant first. -/
def beNat (l : List Byte) : Nat := l.foldl (fun n b => 256 * n + b.toNat) 0

/-- n bytes of a number, most significant first. -/
def beBytes (n x : Nat) : List Byte := (List.range n).map fun k => BitVec.ofNat 8 (x / 256 ^ (n - 1 - k))

/-- Message words, big-endian. -/
def beWords : List Byte → List Nat
  | a :: b :: c :: d :: t => beNat [a, b, c, d] :: beWords t
  | _ => []

/-- Blocks of a padded message, one after the other. -/
def shaBlocks : Nat → List Nat → List Nat → List Nat
  | 0, st, _ => st
  | n + 1, st, w => shaBlocks n (shaBlock st (w.take 16)) (w.drop 16)

/-- The message with its padding: a 1 bit, zeros, and the length in bits. -/
def shaPad (l : List Byte) : List Byte :=
  l ++ 0x80#8 :: List.replicate ((119 - l.length % 64) % 64) 0 ++ beBytes 8 (8 * l.length)

/-- SHA-256, as a number, most significant byte first. -/
def sha256 (l : List Byte) : Nat :=
  let p := shaPad l
  (shaBlocks (p.length / 64) [0x6a09e667, 0xbb67ae85, 0x3c6ef372, 0xa54ff53a, 0x510e527f, 0x9b05688c, 0x1f83d9ab, 0x5be0cd19] (beWords p)).foldl
    (fun n w => 2 ^ 32 * n + w) 0

namespace P256

/-- The prime of the field. -/
def p : Nat := 0xffffffff00000001000000000000000000000000ffffffffffffffffffffffff
/-- The order of the base point. -/
def n : Nat := 0xffffffff00000000ffffffffffffffffbce6faada7179e84f3b9cac2fc632551
/-- The constant of the curve y² = x³ − 3x + b. -/
def b : Nat := 0x5ac635d8aa3a93e7b3ebbd55769886bc651d06b0cc53b0f63bce3c3e27d2604b
/-- The abscissa of the base point. -/
def gx : Nat := 0x6b17d1f2e12c4247f8bce6e563a440f277037d812deb33a0f4a13945d898c296
/-- Its ordinate. -/
def gy : Nat := 0x4fe342e2fe1a7f9b8ee7eb4a7c0f9e162bce33576b315ececbb6406837bf51f5

/-- x to the e modulo m, with e below 2^k. -/
def powMod (m : Nat) : Nat → Nat → Nat → Nat
  | 0, _, _ => 1
  | k + 1, x, e => force (x * x % m) fun y => force (powMod m k y (e / 2)) fun r => if e % 2 = 1 then x * r % m else r

/-- The inverse modulo a prime m. -/
def invMod (m x : Nat) : Nat := powMod m 256 (x % m) (m - 2)

/-- A point in Jacobian coordinates; z = 0 is the point at infinity. -/
structure Pt where
  x : Nat
  y : Nat
  z : Nat
  deriving DecidableEq, Repr

/-- A point with its coordinates evaluated. -/
def point (x y z : Nat) : Pt := force (x % p) fun x => force (y % p) fun y => force (z % p) fun z => ⟨x, y, z⟩

/-- Twice a point. -/
def double (q : Pt) : Pt :=
  force (q.y * q.y % p) fun yy => force (q.x * yy * 4 % p) fun s => force (q.z * q.z % p) fun zz =>
  force (3 * (q.x + zz) * (q.x + (p - zz)) % p) fun m => force ((m * m + 2 * (p - s)) % p) fun x =>
  point x (m * (s + (p - x)) + 8 * (p - yy * yy % p)) (2 * q.y * q.z)

/-- The sum of two points. -/
def sum (q r : Pt) : Pt :=
  if q.z = 0 then r else if r.z = 0 then q else
  force (q.z * q.z % p) fun qz => force (r.z * r.z % p) fun rz =>
  force (q.x * rz % p) fun u1 => force (r.x * qz % p) fun u2 =>
  force (q.y * rz % p * r.z % p) fun s1 => force (r.y * qz % p * q.z % p) fun s2 =>
  if u1 = u2 then (if s1 = s2 then double q else ⟨1, 1, 0⟩)
  else
    force (u2 + (p - u1)) fun h => force ((s2 + (p - s1)) % p) fun c => force (h * h % p) fun hh => force (hh * h % p) fun hhh =>
    force (u1 * hh % p) fun v => force ((c * c + (p - hhh) + 2 * (p - v)) % p) fun x =>
    point x (c * (v + (p - x)) + s1 * (p - hhh)) (q.z * r.z % p * h)

/-- k times a point, from the highest of i bits down. -/
def times (k : Nat) (q : Pt) : Nat → Pt → Pt
  | 0, acc => acc
  | i + 1, acc =>
    let d := double acc
    times k q i (if k / 2 ^ i % 2 = 1 then sum d q else d)

/-- The uncompressed encoding of a point (R567). -/
def bytes (q : Pt) : List Byte :=
  force (invMod p q.z) fun i => force (i * i % p) fun ii =>
  0x04#8 :: beBytes 32 (q.x * ii % p) ++ beBytes 32 (q.y * ii % p * i % p)

/-- The public key under which (r, s) signs the digest e with a nonce point of abscissa x and the given parity of its ordinate, or
none. -/
def recover (e r s x : Nat) (odd : Bool) : Option Pt :=
  force ((x * x % p * x + 3 * (p - x) + b) % p) fun c => force (powMod p 256 c ((p + 1) / 4)) fun y0 =>
  if p ≤ x ∨ y0 * y0 % p ≠ c then none
  else
    let y := if (y0 % 2 == 1) == odd then y0 else p - y0
    force (invMod n r) fun ri => force (ri * s % n) fun u => force (ri * (n - e % n) % n) fun v =>
    let q := sum (times u ⟨x, y, 1⟩ 256 ⟨1, 1, 0⟩) (times v ⟨gx, gy, 1⟩ 256 ⟨1, 1, 0⟩)
    if q.z = 0 then none else some q

end P256

/-- The four words of a key slot that holds a digest: byte 0 of the digest in bits [7:0] of the first (R567). -/
def digestWords (d : Nat) : List (BitVec 64) :=
  (List.range 4).map fun k => BitVec.ofNat 64 (((beBytes 32 d).drop (8 * k)).take 8 |>.reverse |> beNat)

/-- The SHA-256 digest of a public key, as the four words of a key slot hold it (R567, R602). -/
def keyDigest (key : List Byte) : List (BitVec 64) := digestWords (sha256 key)

/-- The ECDSA signature r, s verifies over the SHA-256 digest of a message, under a key whose digest is slot (R577, R581, R602). A
slot holds no key, and a token and a package carry none: the keys under which a signature verifies follow from it, at most
four, and one of them has to have the slot's digest (assumption 4). -/
def signatureVerifies (slot : List (BitVec 64)) (msg sig : List Byte) : Bool :=
  let r := beNat (sig.take 32)
  let s := beNat ((sig.drop 32).take 32)
  sig.length == 64 && decide (1 ≤ r ∧ r < P256.n ∧ 1 ≤ s ∧ s < P256.n) &&
    force (sha256 msg) fun e => [(r, false), (r, true), (r + P256.n, false), (r + P256.n, true)].any fun x =>
      match P256.recover e r s x.1 x.2 with
      | some q => keyDigest (P256.bytes q) == slot
      | none => false

end Sys2Proof
end

