-- ==== Sys2Proof/Machine/Measure.lean ====
section
/-! DEFINITION. The measurement bank: slices, sequencers, results, the result queue, metering and the publisher (R402 to
R423). -/

namespace Sys2Proof.Machine

/-- Rounding division with ties upward (R403, R412). -/
def roundUp (a : Int) (b : Nat) : Int := (2 * a + b).fdiv (2 * b)

/-- Units of lnFix in one. -/
def lnScale : Nat := 10 ^ 24

/-- The terms p z^2i / (k + 2i) of the series of artanh, in units of 1/lnScale (R425). -/
def artanhTerms : Nat → Int → Int → Nat → Int
  | 0, _, _, _ => 0
  | n + 1, p, zz, k => p.fdiv k + artanhTerms n ((p * zz).fdiv lnScale) zz (k + 2)

/-- artanh z for |z| up to 1/3, in units of 1/lnScale (R425). -/
def artanhFix (z : Int) : Int := artanhTerms 25 z ((z * z).fdiv lnScale) 1

/-- ln (n/d) in units of 1/lnScale: 2 artanh of the ratio brought within a factor of 2 of 1, and the powers of 2 taken out
(R425). -/
def lnFix (n d : Nat) : Int :=
  let u := n * 2 ^ d.log2
  let v := d * 2 ^ n.log2
  2 * artanhFix ((((u : Int) - v) * lnScale).fdiv (u + v)) + ((n.log2 : Int) - d.log2) * (2 * artanhFix ((lnScale : Int).fdiv 3))

/-- Temperature in m°C of an NTC whose ratio is x / 65,536, with its R25 in Ω and its beta (R425), to the nearest m°C; where
the formula divides by zero the rule states none (assumption 6). -/
def ntcMilliC (x r25 beta : Nat) : Int :=
  let den : Int := ((100 * beta * lnScale : Nat) : Int) + 29815 * lnFix (10000 * x) ((65536 - x) * r25)
  let num : Int := ((29815000 * beta * lnScale : Nat) : Int)
  if r25 = 0 ∨ beta = 0 ∨ den = 0 then Config.ntcOpen x r25 beta
  else if 0 < den then roundUp num den.toNat - 273150
  else roundUp (-num) (-den).toNat - 273150

/-- An NTC ratio inside 0.02 to 0.98 (R424). -/
def ratioValid (x : Nat) : Bool := decide (2 * 65536 ≤ 100 * x ∧ 100 * x ≤ 98 * 65536)

/-- Set raw input n: a valid temperature, or lost; a lost input keeps its latest temperature (R424). -/
def State.setThmIn (s : State) (n : Nat) (t : Option Int) : State :=
  let old := s.thmIn n
  let new : ThmIn := match t with
    | some t => { old with valid := true, idle := false, t := t, had := true }
    | none => { old with valid := false, idle := false }
  s.modThm fun x => { x with ins := x.ins.set {} n new }

/-- Input 63 takes PACK_NTC in place of NTC15 (R424). -/
def State.packInput (s : State) (n : Nat) : Bool := n == 63 && s.imb Img.thmNtc15Pack

/-- The temperature of NTC input n at a ratio, or none outside its valid range (R424, R425). -/
def State.ratioValue (s : State) (n r : Nat) : Option Int :=
  if ratioValid r then some (ntcMilliC r (10 * s.im Img.thmNtcR25 (n - 48)) (s.im Img.thmNtcBeta (n - 48))) else none

/-- A result x of source src refreshes its NTC input when the thermal sequencer made it (R411, R424). -/
def State.ntcResult (s : State) (q src : Nat) (x : Int) : State :=
  let n := 48 + (src - 0x60)
  if s.imb Img.adcSeqThm q && decide (0x60 ≤ src ∧ src ≤ 0x6F) && !s.packInput n then
    let r := x.toNat
    (s.modThm fun y => { y with ins := y.ins.set {} n { s.thmIn n with ratio := some r } }).setThmIn n (s.ratioValue n r)
  else s

/-- A raw code of slice k, corrected (R403). -/
def State.correctCode (s : State) (k c : Nat) : Int :=
  let p := s.adc.slices.get (0, 0x8000) k
  clampInt 0 16383 (roundUp (((c : Int) - p.1) * p.2) 32768)

/-- A calibration result within the limits of R403. -/
def calOk (ofs : Int) (gain : Nat) : Bool := decide (-48 ≤ ofs ∧ ofs ≤ 48) && 31785 ≤ gain && gain ≤ 33751

/-- Retire slice k (R403). -/
def State.retireSlice (s : State) (k : Nat) : State :=
  (s.modAdc fun a => { a with retired := a.retired ||| BitVec.ofNat 17 (2 ^ k), free := if a.free = some k then none else a.free }).assertSrc (384 + k) 0

/-- R404: the free slice has been calibrated; it takes the position whose turn it is, and the slice that held the position
becomes free. Background calibration stops in PARKED (R422). -/
def runSliceCalibration (ofs : Int) (gain : Nat) (s : State) : Host.Outcome State Fault Refusal :=
  .next (match s.adc.free with
    | none => s
    | some k =>
      if s.glb.mode != .run then s
      else if calOk ofs gain then
        let p := s.adc.calPos
        let old := s.adc.pos.get none p
        let round := s.adc.calRound + 1
        let s1 := s.modAdc fun a => { a with slices := a.slices.set (0, 0x8000) k (ofs, gain), pos := a.pos.set none p (some k), free := old, calPos := (p + 1) % 16, calRound := round % 17 }
        if round = 17 then (s1.modAdc fun a => { a with rounds := a.rounds + 1 }).raiseEvt 229 0x26 else s1
      else s.retireSlice k)

/-- All slices calibrated together (R405): results per slice, failures retired, and the usable slices laid out. Each position
that this leaves empty, in ascending order, is filled from the highest-numbered occupied position of a sequencer other than the
thermal one, which is left empty instead (R406, assumption 121). -/
def State.calibrateAll (s : State) (cals : List (Int × Nat)) : State :=
  let live := (List.range 17).filter (fun k => !s.adc.retired.getLsbD k)
  let s := live.foldl (fun s k =>
    match cals[k]? with
    | some (o, g) => if calOk o g then s.modAdc fun a => { a with slices := a.slices.set (0, 0x8000) k (o, g) } else s.retireSlice k
    | none => s) s
  let usable := (List.range 17).filter (fun k => !s.adc.retired.getLsbD k)
  let pos : Tbl (Option Nat) := ((usable.take 16).zipIdx).map fun x => (x.2, some x.1)
  let thm : Nat → Bool := fun p => s.imb Img.adcSeqUsed (p / 2) && s.imb Img.adcSeqThm (p / 2)
  let empty := (List.range 16).filter fun p => (pos.get none p).isNone
  let pos := empty.foldl (fun (pos : Tbl (Option Nat)) p =>
    match (List.range 16).reverse.find? (fun h => !thm h && (pos.get none h).isSome && !empty.contains h) with
    | some h => (pos.set none p (pos.get none h)).set none h none
    | none => pos) pos
  s.modAdc fun a => { a with pos := pos, free := usable[16]?, calPos := 0, calRound := 0 }

/-- The position on which sequencer q starts its next conversion: its two in turn, or the only one that holds a slice (R409;
that the turn goes on over a restart of the list: DESIGN CHOICE, assumption 147). -/
def State.turnPos (s : State) (q : Nat) : Nat :=
  if (s.adc.pos.get none (2 * q)).isNone || ((s.aseq q).turn && (s.adc.pos.get none (2 * q + 1)).isSome) then 2 * q + 1 else 2 * q

/-- Occupied positions of sequencer q (ADC_SEQ_NPOS). -/
def State.npos (s : State) (q : Nat) : Nat :=
  b2n (s.adc.pos.get none (2 * q)).isSome + b2n (s.adc.pos.get none (2 * q + 1)).isSome

/-- A table entry (R408). -/
structure SeqEntry where
  fin : Bool
  rep : Nat
  delay : Nat
  ch : Nat
  deriving DecidableEq, Repr

/-- Entry i of the table (R408, R423). -/
def State.seqEntry (s : State) (i : Nat) : SeqEntry :=
  let w := s.im Img.adcSeqEntry (i % 1024)
  { fin := bitOf w 31, rep := bitsOf w 30 28, delay := bitsOf w 27 16, ch := bitsOf w 7 0 }

/-- Source of channel c (R407). -/
def State.chSrc (s : State) (c : Nat) : Nat := s.im Img.adcChSrc c
/-- A derived source uses no slice (R407). -/
def srcDerived (x : Nat) : Bool := (0xC0 ≤ x && x ≤ 0xE7) || x == 0xF0 || x == 0xF1 || x == 0xF2
/-- A differential source (R407). -/
def srcDiff (x : Nat) : Bool := (0x40 ≤ x && x ≤ 0x5F) || (0x80 ≤ x && x ≤ 0x9F)

/-- The list goes on after an entry: to the next entry, or to ADC_SEQ_FIRST behind the END entry (R408, R423). -/
def State.seqAdvance (s : State) (q : Nat) (e : SeqEntry) (x : AdcSeq) : AdcSeq :=
  if e.fin then { x with idx := s.im Img.adcSeqFirst q, conv := 0, delay := 0, slices := [], whole := true, loops := x.loops + 1, loopT := 10 * x.steps, steps := 0 }
  else { x with idx := (x.idx + 1) % 1024, conv := 0, delay := 0, slices := [] }

/-- The latest value of a derived source: a rail's current as the mean of 10 µs, and the metering results (R407). -/
def State.derivedX (s : State) (src : Nat) : Int :=
  if src = 0xF0 then (s.meter 0).val
  else if src = 0xF1 then (s.meter 1).val
  else if src = 0xF2 then asr ((s.meter 0).val * (s.meter 1).val) 23
  else if srcDerived src then (s.rail (src - 0xC0)).mean10
  else 0

/-- R409: sequencer q starts its next conversion, or passes a DELAY step. The thermal sequencer takes every DELAY as 0 while a
zone is in fast mode (R431). -/
def runConversionStep (q : Fin 8) (s : State) : Host.Outcome State Fault Refusal :=
  .next (
    let x := s.aseq q
    let n := s.npos q
    if s.glb.mode != .run || !s.imb Img.adcSeqUsed q || !x.run || n = 0 then s
    else
      let e := s.seqEntry x.idx
      let delay := if s.imb Img.adcSeqThm q && s.fastAny then 0 else e.delay
      if x.delay ≠ 0 then
        s.modAseq q fun x => if x.delay = 1 then s.seqAdvance q e { x with steps := x.steps + 1 } else { x with delay := x.delay - 1, steps := x.steps + 1 }
      else
        let dv := srcDerived (s.chSrc e.ch)
        let need := if dv then 1 else 2 ^ e.rep
        let x := { x with steps := x.steps + (if n = 1 && !dv then 2 else 1), conv := x.conv + 1, ended := x.ended || e.fin }
        let x := if dv then x else { x with slices := x.slices ++ (s.adc.pos.get none (s.turnPos q)).toList, turn := !x.turn }
        s.modAseq q fun _ =>
          if x.conv < need then x
          else
            let x := { x with due := x.due ++ [(x.idx, s.derivedX (s.chSrc e.ch), x.slices)], slices := [] }
            if delay = 0 then s.seqAdvance q e x else { x with conv := 0, delay := delay })

/-- The sum of a result's corrected codes, offset for a differential source (R412). -/
def codeSum (diff : Bool) (l : List Int) : Int := l.foldl (fun a c => a + (if diff then c - 8192 else c)) 0

/-- x of R412 from 2^r corrected codes. -/
def resultX (diff : Bool) (r : Nat) (l : List Int) : Int :=
  if r ≤ 2 then codeSum diff l * 2 ^ (2 - r) else roundUp (codeSum diff l) (2 ^ (r - 2))

/-- The value of a channel (R416). -/
def State.chValue (s : State) (c : Nat) (x : Int) : Int :=
  let sh := s.im Img.adcChShift c
  let p := (x - s.ims Img.adcChOfs c) * s.ims Img.adcChGain c
  clampInt (-2147483648) 2147483647 (if sh = 0 then p else asr (p + 2 ^ (sh - 1)) sh)

/-- A result enters the queue (R413, R414). -/
def State.rqPut (s : State) (c : Nat) (clip avg : Bool) (data : Nat) : State :=
  let full := Config.rqDepth ≤ s.adc.rq.length
  let w := wordOf (placeAt c 31 24 + placeAt (b2n clip) 23 23 + placeAt (b2n avg) 22 22 + placeAt s.adc.bankTag 21 16 + placeAt data 15 0)
  if !full then s.modAdc fun a => { a with rq := a.rq ++ [w], bankTag := (a.bankTag + 1) % 63 }
  else
    let was := (s.src 402).line
    let s := s.modAdc fun a => { a with rqDrop := a.rqDrop + 1, rqOvf := true }
    let s := if s.imb Img.adcRqMode then s.modAdc fun a => { a with rq := a.rq.drop 1 ++ [w], bankTag := (a.bankTag + 1) % 63 } else s
    if was then s else (s.assertSrc 402 0).raiseEvt 228 (reqrSource 402)

/-- FS402 clears once the queue holds fewer entries than its depth (R414). -/
def State.rqCheck (s : State) : State :=
  if (s.src 402).line && s.adc.rq.length < Config.rqDepth then s.releaseSrc 402 else s

/-- Queue data of a result (R413). -/
def queueData (src qfmt r : Nat) (diff : Bool) (l : List Int) (x : Int) : Nat :=
  if srcDerived src then
    if 0xF0 ≤ src then ofSigned 16 (asr x 8) else ofSigned 16 (clampInt (-32768) 32767 x)
  else if qfmt = 1 then ofSigned 16 (roundUp (codeSum diff l) (2 ^ r))
  else ofSigned 16 x

/-- The codes of an entry's conversions, each corrected for the slice that made it (R403, R409). -/
def State.correctCodes (s : State) (slices codes : List Nat) : List Int := (slices.zip codes).map fun p => s.correctCode p.1 p.2

/-- R412: the oldest awaited result of sequencer q exists, from the codes of its conversions: its value, its queue entry, and the
thermal input that it refreshes (R424). -/
def runConversionResult (q : Fin 8) (codes : List Nat) (s : State) : Host.Outcome State Fault Refusal :=
  .next (match (s.aseq q).due with
    | [] => s
    | (i, v, slices) :: rest =>
      let e := s.seqEntry i
      let c := e.ch
      let src := s.chSrc c
      let diff := srcDiff src
      let l := s.correctCodes slices codes
      let dv := srcDerived src
      let x := if dv then v else resultX diff e.rep l
      let clip := !dv && l.any (fun v => v == 0 || v == 16383)
      let s := s.modAseq q fun y => { y with due := rest }
      let s := (s.modChan c fun y => { y with val := s.chValue c x, clip := clip, new := true, fresh := true, exempt := false }).ntcResult q src x
      let qf := s.im Img.adcChQfmt c
      if qf = 0 then s else s.rqPut c clip (e.rep != 0) (queueData src qf e.rep diff l x))

/-- The pop window returns the oldest entry and removes it; an empty queue gives all ones (R415). -/
def State.rqPop (s : State) : Word × State :=
  match s.adc.rq with
  | [] => (0xFFFFFFFF, s)
  | w :: rest => (w, (s.modAdc fun a => { a with rq := rest }).rqCheck)

/-- R415: a read of the pop window. -/
def runResultQueuePop (i : Iface) (s : State) : Host.Outcome State Fault Refusal :=
  .next (let p := s.rqPop
         p.2.answer i [p.1])

/-- The queue is emptied; ADC_RQ_DROP stays (R415). -/
def State.rqFlush (s : State) : State := (s.modAdc fun a => { a with rq := [] }).rqCheck

/-- R415: ADC_RQ_FLUSH is written with 1. -/
def runAdcRqFlush (s : State) : Host.Outcome State Fault Refusal := .next (if s.live then s.rqFlush else s)

/-- Limit to 24-bit signed (R418). -/
def sat24 (x : Int) : Int := clampInt (-8388608) 8388607 x

/-- FS403 + m for a rejected command: one core cycle, unless the overload of R421 holds it already. -/
def State.meterReject (s : State) (m : Nat) : State :=
  let s := s.modMeter m fun x => { x with rej := true }
  if (s.meter m).ovl then s else s.pulseSrc (403 + m) 0

/-- A command of R419 has taken its coefficients: they are learned in MRAM (R420) and EV230 is raised. -/
def State.meterLearn (s : State) (m : Nat) : State :=
  let s := s.modMeter m fun x => { x with rej := false, calSrc := true }
  let x := s.meter m
  (s.modAdc fun a => { a with learned := a.learned.set none m (some (x.ofs, x.gain)) }).raiseEvt 230 0x26

/-- The 64 results of a calibration command are in (R419). -/
def State.meterFinish (s : State) (m cmd : Nat) (l : List Int) : State :=
  let sum := l.foldl (· + ·) 0
  let s := s.modMeter m fun x => { x with cal := none }
  if cmd = 1 then
    if sum.natAbs ≤ 2 ^ 20 * 64 then (s.modMeter m fun x => { x with ofs := roundUp sum 64 }).meterLearn m
    else s.meterReject m
  else
    let d := sum - 64 * (s.meter m).ofs
    let ref := (s.rwWord (0x090314 + 0x20 * m)).toInt
    let g := roundUp (ref * 2 ^ 22 * 64) d.toNat
    if 0 < d ∧ 0 < ref ∧ 0x200000 ≤ g ∧ g ≤ 0x800000 then (s.modMeter m fun x => { x with gain := g.toNat }).meterLearn m
    else s.meterReject m

/-- Overload of a metering channel (R421). -/
def State.meterOverload (s : State) (m : Nat) (raw : Int) : State :=
  let x := s.meter m
  let atFs := decide (8388607 ≤ raw.natAbs)
  let run := if atFs == x.ovl then 0 else x.ovlRun + 1
  if run = 4 then (s.modMeter m fun y => { y with ovl := !x.ovl, ovlRun := 0 }).followSrc (403 + m) 0 (!x.ovl)
  else s.modMeter m fun y => { y with ovlRun := run }

/-- A raw result of metering channel m: calibrated result, overload, calibration (R418, R419, R421). -/
def State.meterResult (s : State) (m : Nat) (raw : Int) : State :=
  let r := sat24 raw
  let s := s.modMeter m fun x => { x with raw := r, val := sat24 (asr ((r - x.ofs) * x.gain + 2 ^ 21) 22) }
  let s := s.meterOverload m r
  match (s.meter m).cal with
  | none => s
  | some (cmd, l) =>
    if l.length + 1 = 64 then s.meterFinish m cmd (l ++ [r])
    else s.modMeter m fun x => { x with cal := some (cmd, l ++ [r]) }

/-- A command of ADC_MTR_CMD; without effect while one runs (R419). -/
def State.meterCmd (s : State) (m cmd : Nat) : State :=
  if (s.meter m).cal.isSome || !s.imb Img.adcMtrUsed m then s
  else if cmd = 1 ∨ cmd = 2 then s.modMeter m fun x => { x with cal := some (cmd, []) }
  else if cmd = 3 then
    let s := s.modMeter m fun x => { x with ofs := s.ims Img.adcMtrOfs m, gain := s.im Img.adcMtrGain m, calSrc := false, rej := false }
    (s.modAdc fun a => { a with learned := a.learned.set none m none }).raiseEvt 230 0x26
  else s

/-- R419: command 1, zero. -/
def runMtrZero (m : Fin 2) (s : State) : Host.Outcome State Fault Refusal := .next (if s.live then s.meterCmd m 1 else s)
/-- R419: command 2, full scale. -/
def runMtrFullScale (m : Fin 2) (s : State) : Host.Outcome State Fault Refusal := .next (if s.live then s.meterCmd m 2 else s)
/-- R419: command 3, the image values. -/
def runMtrRestore (m : Fin 2) (s : State) : Host.Outcome State Fault Refusal := .next (if s.live then s.meterCmd m 3 else s)

/-- The entries of a list from entry i on (R408). -/
def State.seqList (s : State) : Nat → Nat → List Nat
  | 0, _ => []
  | n + 1, i => let i := i % 1024
    if (s.seqEntry i).fin then [i] else i :: s.seqList n (i + 1)

/-- Sequencer q runs in PARKED (R422). -/
def State.seqParks (s : State) (q : Nat) : Bool := s.imb Img.adcSeqUsed q && s.imb Img.adcSeqPark q && (s.adc.pos.get none (2 * q)).isSome

/-- The awaited result of table entry i in a parked list run of the sequencer that lists it: every conversion on position 2q
(R422). -/
def State.parkedEntry (s : State) (q i : Nat) : Nat × Int × List Nat :=
  let e := s.seqEntry i
  (i, s.derivedX (s.chSrc e.ch), if srcDerived (s.chSrc e.ch) then [] else List.replicate (2 ^ e.rep) ((s.adc.pos.get none (2 * q)).getD 0))

/-- R422: in PARKED sequencer q runs its list once, on position 2q alone; its results are then awaited. -/
def runParkedListRun (q : Fin 8) (s : State) : Host.Outcome State Fault Refusal :=
  .next (
    if s.glb.mode == .parked && s.seqParks q then
      let l := s.seqList 256 (s.im Img.adcSeqFirst q)
      let t := l.foldl (fun t i => t + (if srcDerived (s.chSrc (s.seqEntry i).ch) then 1 else 2 * 2 ^ (s.seqEntry i).rep) + (s.seqEntry i).delay) 0
      s.modAseq q fun x => { x with idx := s.im Img.adcSeqFirst q, conv := 0, delay := 0, slices := [], steps := 0, loops := x.loops + 1, loopT := 100 * t, ended := true, due := x.due ++ l.map (s.parkedEntry q) }
    else s)

/-- A tick at the sync sequencers: a list that had not started its END entry is late until a tick by which it was completed,
FS401 stands while one is, and the sequencers start again (R410). -/
def State.seqTick (s : State) : State :=
  let sync := (List.range 8).filter (fun q => s.imb Img.adcSeqUsed q && s.imb Img.adcSeqSync q && s.npos q != 0)
  if s.glb.mode != .run || sync.isEmpty then s
  else
    let s := sync.foldl (fun s q => s.modAseq q fun x => { x with late := x.run && (!x.ended || (x.late && !x.whole)) }) s
    let judged := sync.any fun q => (s.aseq q).run
    let s := if judged then s.followSrc 401 0 (sync.any fun q => (s.aseq q).late) else s
    sync.foldl (fun s q => s.modAseq q fun x => { x with idx := s.im Img.adcSeqFirst q, conv := 0, delay := 0, slices := [], steps := 0, run := true, ended := false, whole := false }) s

/-- Every sequencer starts at ADC_SEQ_FIRST: after a warm start's adoption each one, and otherwise those that run freely, the
others at the next tick (R410). -/
def State.seqRestart (s : State) (each : Bool) : State :=
  (List.range 8).foldl (fun s q => s.modAseq q fun x => { x with idx := s.im Img.adcSeqFirst q, conv := 0, delay := 0, slices := [], steps := 0, ended := false, due := [], run := s.imb Img.adcSeqUsed q && (each || !s.imb Img.adcSeqSync q) && s.npos q != 0 }) s

/-- A PUBLISH of a measured channel, VALID or STALE, of its last value (R417). -/
def State.publishChan (s : State) (c : Nat) (valid : Bool) : State :=
  let v := (s.chanOf c).val
  let s := s.modChan c fun x => { x with new := false, pubVal := v, pubAge := 0, stale := !valid }
  let s := s.modAdc fun a => { a with pubCnt := a.pubCnt + 1 }
  s.offer 7 [{ ep := liChan c, kind := .publish, val := wordOfInt v, val2 := BitVec.ofNat 32 (b2n valid), cls := 5, reqr := 0x26 }]

/-- The measurement publisher at a tick, for channel c (R417). -/
def State.judgeChan (s : State) (c : Nat) : State :=
  let s := s.modChan c fun x => { x with quiet := if x.fresh then 0 else satAdd 255 x.quiet 1, pubAge := satAdd 255 x.pubAge 1 }
  let x := s.chanOf c
  let st := s.st (liChan c)
  let far := decide (s.im Img.adcChPdb c ≤ (x.val - x.pubVal).natAbs)
  let s := if !s.imb Img.adcChPub c then s
    else if !x.fresh && decide (s.im Img.adcChStale c ≤ x.quiet) && st == .valid && !x.exempt && !x.stale then
      (s.publishChan c false).assertSrc 405 c
    else if x.new && (st == .stale || far || decide (s.im Img.adcChPmax c ≤ x.pubAge)) then
      let s := s.publishChan c true
      if (s.src 405).line && !((List.range 256).any fun k => (s.chanOf k).stale) then s.releaseSrc 405 else s
    else s
  s.modChan c fun x => { x with fresh := false }

/-- The measurement publisher at a tick (R417). -/
def State.measureTick (s : State) : State :=
  ((List.range 256).filter (fun c => s.imb Img.adcChUsed c)).foldl (fun s c => s.judgeChan c) s.seqTick

end Sys2Proof.Machine
end

