-- ==== Sys2Proof/Machine/Thermal.lean ====
section
/-! DEFINITION. The thermal block: raw inputs, zones, rate of rise, fast mode, bands and derating (R424 to R439). -/

namespace Sys2Proof.Machine

/-- Stage temperature in m°C of a TMON voltage: (V − 0.6 V) / 8 mV per °C (R131). -/
def tmonMilliC (uv : Int) : Int := (uv - 600000).fdiv 8

/-- The refreshed temperature of raw input n, or none outside its valid range (R424, R425, R131). -/
def State.sensorValue (s : State) (n : Nat) (x : SensorRaw) : Option Int :=
  match x with
  | .milliC t =>
    if n < 48 then (if -55000 ≤ t ∧ t ≤ 175000 then some t else none)
    else none
  | .tmon uv =>
    if 200000 ≤ uv ∧ uv ≤ 2500000 then some (tmonMilliC uv) else none
  | .ratio =>
    if s.packInput n then (if ratioValid s.chg.ntc then some s.chg.ntcT else none)
    else match (s.thmIn n).ratio with
      | some r => s.ratioValue n r
      | none => none

/-- An NTC input that has no result yet since its sequencer last stopped: it stays as it is (R424, R432). -/
def State.noRatio (s : State) (n : Nat) : Bool := decide (48 ≤ n) && decide (n < 64) && !s.packInput n && (s.thmIn n).ratio.isNone

/-- The kind of reading that raw input n delivers (R424). -/
def sensorKind (n : Nat) (x : SensorRaw) : Bool :=
  match x with
  | .milliC _ => n < 48
  | .tmon _ => 64 ≤ n
  | .ratio => 48 ≤ n && n < 64

/-- R424: raw input n is refreshed. The TMON of a phase whose rail's enable is low is idle (R426). -/
def runSensorRefresh (n : Fin 112) (x : SensorRaw) (s : State) : Host.Outcome State Fault Refusal :=
  .next (
    if !s.live || !sensorKind n x || s.noRatio n then s
    else if 64 ≤ n.val then
      let p := n.val - 64
      if !(s.rail (s.phaseRail p)).en then
        s.modThm fun t => { t with ins := t.ins.set {} n { s.thmIn n with valid := false, idle := true } }
      else
        let v := s.sensorValue n x
        let s := s.setThmIn n v
        match v with
        | some t => s.modPhase p fun y => { y with temp := (clampInt 0 255 (t.fdiv 1000 + 50)).toNat }
        | none => s
    else s.setThmIn n (s.sensorValue n x))

/-- The member inputs of zone z (R427). -/
def State.zoneMembers (s : State) (z : Nat) : List Nat :=
  let w := s.im Img.thmZMem z
  ([0, 1, 2, 3].map fun k => bitsOf w (7 * k + 6) (7 * k)).filter (· < 112)

/-- Valid members of zone z (R426, R427). -/
def State.validMembers (s : State) (z : Nat) : List Int :=
  ((s.zoneMembers z).filter (fun n => (s.thmIn n).valid && !(s.thmIn n).idle && !s.thmIdle n)).map fun n => (s.thmIn n).t

/-- Zone temperature of valid members: the highest, or the mean rounded (R427). -/
def zoneTemp (mean : Bool) (l : List Int) : Int :=
  if mean then roundUp (l.foldl (· + ·) 0) l.length else l.foldl max (l.headD 0)

/-- The excess fraction F in 1/1,024 (before R433). -/
def excess (t tder tlim : Int) : Nat :=
  (clampInt 0 1024 ((1024 * (t - tder)).fdiv (tlim - tder))).toNat

/-- A PUBLISH of zone z (R429). STALE ends its history (R430). -/
def State.publishZone (s : State) (z : Nat) (valid : Bool) : State :=
  let v := (s.zoneOf z).t
  let ep := s.led.epoch
  let s := s.modZone z fun x => { x with pubVal := v, pubAge := 0, stalePub := !valid, staleEp := if valid then x.staleEp else some ep, hist := if valid then x.hist else [], rate := if valid then x.rate else 0 }
  s.offer 7 [{ ep := liZone z, kind := .publish, val := wordOfInt v, val2 := BitVec.ofNat 32 (b2n valid), cls := 5, reqr := 0x27 }]

/-- The highest band k whose threshold, lowered by h tenths, T reaches (R436). -/
def State.bandFor (s : State) (t : Int) (h : Nat) : Nat :=
  ((List.range 7).filter (fun k => decide (100 * (s.ims Img.thmBandT k - h) ≤ t))).foldl (fun m k => max m (k + 1)) 0

/-- A band is taken (R436, R437): a change is counted and raises EV208. A band outside GAU_LRN_BANDS ends a learning cycle
(R478). -/
def State.setBand (s : State) (b : Nat) (stale : Bool) : State :=
  let old := s.thm.band
  let s := s.modThm fun x => { x with band := b, bandStale := stale }
  let s := if bitOf (s.im Img.gauLrnBands) b then s else s.learnEnd
  if old = b then s else (s.modThm fun x => { x with bandCnt := satAdd 0xFFFF x.bandCnt 1 }).raiseEvt 208 0x23

/-- The band after an evaluation of its source zone (R436). -/
def State.bandStep (s : State) (t : Int) : State :=
  let b := s.thm.band
  let b' := if b < 7 ∧ 100 * s.ims Img.thmBandT b ≤ t then s.bandFor t 0 else min b (s.bandFor t (s.im Img.thmBandHys))
  s.setBand b' false

/-- The thermal block submits a STATE of zone z, but for an epoch in which it has published the zone STALE, and for a state that
has been committed since the tick (R428, R429). -/
def State.zoneState (s : State) (z : Nat) (st : EState) : State :=
  if (s.zoneOf z).staleEp = some s.led.epoch ∨ s.st (liZone z) = st then s else s.loopRequest (liZone z) st 0x23

/-- The rate decision of the last 100 ms sample takes effect, after the limit of the same evaluation (R430; that it waits for the
evaluation that follows the sample: DESIGN CHOICE, assumption 148). -/
def State.zoneRor (s : State) (z : Nat) : State :=
  match (s.zoneOf z).ror with
  | none => s
  | some on => (s.modZone z fun x => { x with ror := none }).holdCause (208 + z) 1 on

/-- The rows of R428 for a zone that is not STALE, at temperature t, on its state as the tick published it (R52). -/
def State.zoneRows (s : State) (z : Nat) (t : Int) : State :=
  let tder := 100 * s.ims Img.thmZTder z
  let tlim := 100 * s.ims Img.thmZTlim z
  let trel := 100 * s.ims Img.thmZTrel z
  let hys : Int := (100 * s.im Img.thmZHys z : Nat)
  let dg := s.im Img.thmZDg z
  let cnt : Bool → Nat → Nat := fun on n => if on then satAdd 255 n 1 else 0
  let s := s.modZone z fun x => { x with nLim := cnt (tlim ≤ t) x.nLim, nDer := cnt (tder ≤ t) x.nDer, nRel := cnt (t < tder - hys) x.nRel }
  let x := s.zoneOf z
  match s.seenSt (liZone z) with
  | .failed => if t < trel then (s.zoneState z .valid).holdCause (208 + z) 0 false else s
  | st =>
    if dg ≤ x.nLim ∧ tlim ≤ t then (s.zoneState z .failed).holdCause (208 + z) 0 true
    else if st = .valid ∧ dg ≤ x.nDer ∧ tder ≤ t then s.zoneState z .derated
    else if st = .derated ∧ dg ≤ x.nRel ∧ t < tder - hys then s.zoneState z .valid
    else s

/-- Zone z is VALID or DERATED: its temperatures count for its rate of rise (R430). -/
def State.hasHistory (s : State) (z : Nat) : Bool := s.st (liZone z) == .valid || s.st (liZone z) == .derated

/-- A zone enters fast mode, in RUN only (R431, R432). -/
def State.fastEnter (s : State) (z : Nat) (t : Int) : State :=
  if s.glb.mode == .run && !(s.zoneOf z).fast && decide (100 * (s.ims Img.thmZTder z - s.im Img.thmZFastm z) ≤ t) then
    (s.modZone z fun x => { x with fast := true }).raiseEvt 210 0x23
  else s

/-- R427, R428: zone z is evaluated. -/
def runZoneEvaluation (z : Fin 48) (s : State) : Host.Outcome State Fault Refusal :=
  .next (
    if !s.live || !s.imb Img.thmZUsed z || s.lane.hold.isSome || s.glb.warmBusy then s
    else
      let l := s.validMembers z
      let few := decide (l.length < s.im Img.thmZNmin z + 1)
      let s := s.modZone z fun x => { x with nval := l.length }
      let band := s.im Img.thmBandZ == z.val
      if few then
        let s := s.modZone z fun x => { x with nLim := 0, nDer := 0, nRel := 0 }
        let s := (if (s.zoneOf z).stalePub then s else (s.publishZone z false).holdCause (208 + z) 2 true).zoneRor z
        if band then s.setBand (s.im Img.thmBandStale) true else s
      else
        let t := zoneTemp (s.imb Img.thmZAgg z) l
        let s := s.modZone z fun x => { x with t := t, f := excess t (100 * s.ims Img.thmZTder z) (100 * s.ims Img.thmZTlim z) }
        let s := (if (s.zoneOf z).stalePub then (s.publishZone z true).holdCause (208 + z) 2 false else s.zoneRows z t).zoneRor z
        let s := if s.hasHistory z then s else s.modZone z fun x => { x with hist := [], rate := 0 }
        let s := s.fastEnter z t
        if band then s.bandStep t else s)

/-- R431: zone z has stayed below its fast-mode exit threshold for 100 ms. -/
def runFastModeExit (z : Fin 48) (s : State) : Host.Outcome State Fault Refusal :=
  .next (
    let x := s.zoneOf z
    if x.fast && decide (x.t < 100 * (s.ims Img.thmZTder z - s.im Img.thmZFastm z - s.im Img.thmZHys z)) then s.modZone z fun x => { x with fast := false }
    else s)

/-- The rate of rise of zone z at a 100 ms sample (R430). -/
def State.zoneRate (s : State) (z : Nat) : State :=
  let n := s.im Img.thmRorWin
  let x := s.zoneOf z
  if !s.hasHistory z then s.modZone z fun y => { y with hist := [], rate := 0 }
  else
    let s := s.modZone z fun y => { y with hist := (x.t :: x.hist).take (n + 1) }
    match x.hist[n - 1]? with
    | none => s
    | some t0 =>
      let d := x.t - t0
      let ror := s.im Img.thmZRor z
      s.modZone z fun y => { y with rate := clampInt (-32768) 32767 (d.fdiv (10 * n)), ror := if ror = 0 then y.ror else some (decide (((10 * n * ror : Nat) : Int) ≤ d)) }

/-- R430: the 100 ms sample of every zone. -/
def runRateOfRise (s : State) : Host.Outcome State Fault Refusal :=
  .next (if s.live then ((List.range 48).filter (fun z => s.imb Img.thmZUsed z)).foldl (fun s z => s.zoneRate z) s else s)

/-- The thermal publisher at a tick (R429). -/
def State.zonePublish (s : State) : State :=
  ((List.range 48).filter (fun z => s.imb Img.thmZUsed z)).foldl (fun s z =>
    let s := s.modZone z fun x => { x with pubAge := satAdd 255 x.pubAge 1 }
    let x := s.zoneOf z
    if !x.stalePub && (500 ≤ (x.t - x.pubVal).natAbs || 10 ≤ x.pubAge) then s.publishZone z true else s) s

/-- The derating targets of an endpoint (R433). -/
def State.targetsOf (s : State) (ep : Nat) : List Nat :=
  (List.range 128).filter fun t => s.imb Img.thmDtUsed t && s.im Img.thmDtEp t == ep

/-- I_nom of target t, mA. -/
def State.dtInom (s : State) (t : Nat) : Nat := 100 * s.im Img.thmDtInom t

/-- L of target t, mA (R433). -/
def State.dtLimit (s : State) (t : Nat) : Nat :=
  let nom := s.dtInom t
  let floor := nom * s.im Img.thmDtFloor t / 100
  (nom - s.zoneF (s.im Img.thmDtZone t) * (nom - floor) / 1024) / 10 * 10

/-- The derating loop at a tick for one endpoint (R433, R434); the charger's limits are the fields of R450. The request counts
its clamps on the target whose limit is the lowest (R435). -/
def State.derateEp (s : State) (ep : Nat) : State :=
  let ts := s.targetsOf ep
  let f0 := ts.all fun t => s.zoneF (s.im Img.thmDtZone t) == 0
  let low := ts.foldl (fun (m : Nat × Nat) t => if s.dtLimit t < m.1 then (s.dtLimit t, t) else m) (match ts with | t :: _ => (s.dtLimit t, t) | [] => (0, 0))
  let pol := if ep = liCharger then s.chg.limPol else (s.policy ep).polLimit
  let now := if ep = liCharger then s.chg.limThm else (s.policy ep).limit
  let want : Int := if f0 then pol else if pol = 0 then low.1 else min pol low.1
  let due := if f0 then now != pol else decide (s.im Img.thmDerStep * s.dtInom low.2 ≤ 100 * (want - now).natAbs)
  if due && !(ts.any fun t => (s.loop (128 + t)).frozen) && s.seenSt ep != .absent then
    s.offer 6 [{ ep := ep, kind := .limit, val := wordOfInt want, cls := 5, reqr := 0x23, dt := low.2 + 1 }]
  else s

/-- The thermal block at a tick: zone publications, then the derating loop (R429, R433). -/
def State.thermalTick (s : State) : State :=
  let s := s.zonePublish
  let eps := (((List.range 128).filter (fun t => s.imb Img.thmDtUsed t)).map (fun t => s.im Img.thmDtEp t)).dedup
  eps.foldl (fun s ep => s.derateEp ep) s

end Sys2Proof.Machine
end

