-- ==== Sys2Proof/Machine/Gauge.lean ====
section
/-! DEFINITION. The gauge: charge count, model, references, empty, learning, hibernation, publication (R466 to R489). -/

namespace Sys2Proof.Machine

/-- Full charge in units of 2^-16 counts. -/
def socFull : Int := 10000 * 65536

/-- OCV point j of band b, mV per cell (R467). -/
def State.ocv (s : State) (b j : Nat) : Int :=
  let w := s.im Img.gauOcvW (16 * b + j / 2)
  ((if j % 2 = 0 then bitsOf w 15 0 else bitsOf w 31 16 : Nat) : Int)

/-- Open-circuit voltage at a state of charge, in 2^-16 mV (R467). -/
def State.ocvAt (s : State) (b : Nat) (soc : Int) : Int :=
  let step : Int := 500 * 65536
  let j := min 19 (soc.fdiv step).toNat
  let lo := s.ocv b j
  lo * 65536 + ((s.ocv b (j + 1) - lo) * 65536 * (soc - j * step)).fdiv step

/-- State of charge at an open-circuit voltage in 2^-16 mV, limited to the table (R467). -/
def State.socAt (s : State) (b : Nat) (v : Int) : Int :=
  let step : Int := 500 * 65536
  if v ≤ 65536 * s.ocv b 0 then 0
  else if 65536 * s.ocv b 20 ≤ v then socFull
  else
    let j := ((List.range 20).filter (fun j => decide (65536 * s.ocv b j ≤ v))).foldl max 0
    let lo := 65536 * s.ocv b j
    let hi := 65536 * s.ocv b (j + 1)
    clampInt 0 socFull (j * step + ((v - lo) * step).fdiv (hi - lo))

/-- I × R in 2^-16 mV, R in 0.1 mΩ. -/
def dropOf (iMa : Int) (r : Nat) : Int := (iMa * r * 65536).fdiv 10000

/-- V_c of R474 in 2^-16 mV. -/
def State.vComp (s : State) : Int := s.gau.vCell * 65536 - dropOf s.gau.iMa (s.im Img.gauR0 s.thm.band)

/-- The gauge runs R468 to R476 (R481). -/
def State.gauRuns (s : State) : Bool := s.live && s.imb Img.gauUsed && s.gau.pres

/-- µAh of a sum of M0 counts over 250 µs (R466, R477). -/
def State.microAh (s : State) (n : Int) : Int := roundUp (n * 625) (18 * 2 ^ 23 * s.im Img.chgShuntM)

/-- The state that the gauge commits outside hibernation (R473, R483). -/
def State.gaugeState (s : State) : EState := if s.gau.stale then .stale else .valid

/-- A clean reference: S_i and the uncertainty set, the age restarted, staleness and disagreement ended (R471, R473,
R475, R484). -/
def State.gaugeReference (s : State) (si : Int) (unc : Nat) : State :=
  let dis := s.gau.disagree
  let s := (s.modGau fun g => { g with si := si, unc := unc * Config.uncUnit, refAge := 0, stale := false, disagree := false, intF := g.intF ||| 8 }).setNow (.gauge 3)
  let s := if (s.src 432).line then s.releaseSrc 432 else s
  let s := if (s.src 433).line then s.releaseSrc 433 else s
  let s := if dis then s.gaugeFlags else s
  if s.gau.hib || s.st liGauge != .stale then s else s.loopRequest liGauge .valid 0x24

/-- The low and empty warnings against S_r (R475, R476). -/
def State.gaugeWarn (s : State) : State :=
  let sr := s.gau.sr
  let lim : Nat → Int := fun n => ((n * 10 * 65536 : Nat) : Int)
  let lo := s.im Img.gauWarnLo
  let hys := s.im Img.gauWarnHys
  let s := if s.gau.empty && decide (lim hys ≤ sr) then (s.modGau fun g => { g with empty := false }).releaseSrc 434 else s
  if !s.gau.low && decide (sr ≤ lim lo) then
    (((s.modGau fun g => { g with low := true, intF := g.intF ||| 2 }).setNow (.gauge 1)).assertSrc 435 0).raiseEvt 239 0x24
  else if s.gau.low && decide (lim (lo + hys) ≤ sr) then (s.modGau fun g => { g with low := false }).releaseSrc 435
  else s

/-- The charge count at an M0 result (R466, R468; without a capacity the quotient is free, assumption 149), the uncertainty of counted charge (R472) and the learning sums
(R477, R478). -/
def State.gaugeCount (s : State) : State :=
  let sh := s.im Img.chgShuntM
  if !s.gauRuns then s
  else
    let m := (s.meter 0).val
    let den : Int := ((128 * sh * 14400 * s.gau.q : Nat) : Int)
    let num := m * 500000 + s.gau.rem
    let d := if den = 0 then Config.countOpen m else num.fdiv den
    let un := d.natAbs * 9 * s.im Img.gauUQpct
    let s := s.modGau fun g => { g with si := clampInt 0 socFull (g.si + d), sr := clampInt 0 socFull (g.sr + d), rem := if den = 0 then 0 else num - d * den, unc := min (10000 * Config.uncUnit) (g.unc + un), learn := g.learn.map fun l => (l.1 - m, l.2.1 + max 0 m, l.2.2) }
    let s := match s.gau.learn with
      | some (_, qin, _) => if 50 * s.im Img.gauLrnQin * s.gau.q < s.microAh qin then s.learnEnd else s
      | none => s
    s.gaugeWarn

/-- An M0 result and the latest value of GAU_V_CH enter the 10 ms means (R466). -/
def State.gaugeSample (s : State) : State :=
  let m := (s.meter 0).val
  let v := (s.chanOf (s.im Img.gauVCh)).val
  s.modGau fun g => { g with sumI := g.sumI + m, sumV := g.sumV + v, sums := g.sums + 1 }

/-- The 10 ms means: I in mA and V in mV per cell (R466). Without an M0 result I stays and V is the latest value (DESIGN
CHOICE, assumption 122). -/
def State.gaugeMeans (s : State) : Int × Int :=
  let g := s.gau
  if g.sums = 0 then (g.iMa, roundUp (s.chanOf (s.im Img.gauVCh)).val (s.im Img.chgCells))
  else (roundUp (g.sumI * 500000) (2 ^ 23 * s.im Img.chgShuntM * g.sums), roundUp g.sumV (s.im Img.chgCells * g.sums))

/-- R418: a raw result of metering channel m, which runs in PARKED only with ADC_MTR_PARK 1 (R422); M0 also counts charge
(R468). -/
def runMeteringResult (m : Fin 2) (raw : Int) (s : State) : Host.Outcome State Fault Refusal :=
  .next (
    if !s.live || !s.imb Img.adcMtrUsed m || (s.glb.mode == .parked && !s.imb Img.adcMtrPark m) then s
    else
      let s := s.meterResult m raw
      if m = 0 then s.gaugeSample.gaugeCount else s)

/-- The series of exp(-y), y in units of 2^-96, from term k on, in the same units (R469). -/
def expTerms (y : Nat) : Nat → Nat → Nat
  | 0, _ => 2 ^ 96
  | n + 1, k => 2 ^ 96 - y * expTerms y n (k + 1) / (2 ^ 96 * k)

/-- A value in units of 2^-96, squared n times. -/
def squares : Nat → Nat → Nat
  | 0, x => x
  | n + 1, x => squares n (x * x / 2 ^ 96)

/-- exp(-a/b) in units of 2^-32, to the nearest (R469); with b 0 the formula states none (assumption 7). -/
def expNeg32 (a b : Nat) : Nat :=
  if b = 0 then Config.expOpen a
  else if 40 * b ≤ a then 0
  else (squares 10 (expTerms (a * 2 ^ 86 / b) 20 1) + 2 ^ 63) / 2 ^ 64

/-- One relaxation term of the model (R469): v in 2^-16 mV, e = exp(-Δt/τ) in 2^-32, R in 0.1 mΩ. -/
def relax (v : Int) (e : Nat) (iMa : Int) (r : Nat) : Int :=
  (v * e * 10000 + iMa * r * 65536 * (2 ^ 32 - e)).fdiv (2 ^ 32 * 10000)

/-- The observer's clamp count and freeze (R470). -/
def State.observerClamp (s : State) : State :=
  let (fz, s) := s.loopClamp 257
  if fz then (s.commitFlags liGauge 5 0x24 (flagMask fFROZEN) 0).raiseEvt 238 0x24 else s

/-- R469: one model step, of 60 s while HELD and else of 1 s; the age and the uncertainty rise with it (R472, R473). -/
def runGaugeModelStep (held60 : Bool) (s : State) : Host.Outcome State Fault Refusal :=
  .next (
    if !s.gauRuns || held60 != s.gau.hib then s
    else
      let dt : Nat := if held60 then 60 else 1
      let b := s.thm.band
      let g := s.gau
      let v1 := relax g.v1 (expNeg32 (10 * dt) (s.im Img.gauTau1 b)) g.iMa (s.im Img.gauR1 b)
      let v2 := relax g.v2 (expNeg32 dt (s.im Img.gauTau2 b)) g.iMa (s.im Img.gauR2 b)
      let r := g.vCell * 65536 - (s.ocvAt b g.si + dropOf g.iMa (s.im Img.gauR0 b) + v1 + v2)
      let kr := (r * s.im Img.gauObsK).fdiv 10000
      let mx : Int := ((s.im Img.gauObsMax * 65536 / 100 : Nat) : Int)
      let frozen := (s.loop 257).frozen
      let si := if frozen then g.si else clampInt 0 socFull (g.si + clampInt (-mx) mx kr)
      let cv : Int := ((s.im Img.gauConv * dt * 65536 : Nat) : Int)
      let sr := clampInt 0 socFull (g.sr + clampInt (-cv) cv (si - g.sr))
      let s := s.modGau fun g => { g with v1 := v1, v2 := v2, resid := clampInt (-32768) 32767 (roundUp r 65536), si := si, sr := sr, refAge := satAdd 0xFFFFFFFF g.refAge dt, unc := min (10000 * Config.uncUnit) (g.unc + 163840 * dt * s.im Img.gauURate), learn := g.learn.map fun l => (l.1, l.2.1, l.2.2 + dt) }
      (if !frozen && decide (mx < (kr.natAbs : Int)) then s.observerClamp else s).gaugeWarn)

/-- R471: the rest condition has held for GAU_REST_T. -/
def runCleanReference (s : State) : Host.Outcome State Fault Refusal :=
  .next (
    if !s.gauRuns || decide (s.im Img.gauRestI < s.gau.iMa.natAbs) then s
    else
      let s := s.modGau fun g => { g with v1 := 0, v2 := 0, rest := true }
      s.gaugeReference (s.socAt s.thm.band (s.gau.vCell * 65536)) 100)

/-- R473: the age of the reference has reached 72 hours. -/
def runReferenceStale (s : State) : Host.Outcome State Fault Refusal :=
  .next (
    if !s.gauRuns || s.gau.stale || decide (s.gau.refAge < 259200) then s
    else
      let s := ((s.modGau fun g => { g with stale := true }).assertSrc 432 0).raiseEvt 235 0x24
      if s.gau.hib || s.st liGauge != .valid then s else s.loopRequest liGauge .stale 0x24)

/-- A cycle reaches empty: Q_L is loaded, and Q learns from it when it is near enough (R479). -/
def State.learnResult (s : State) : State :=
  match s.gau.learn with
  | none => s
  | some (ql, _, _) =>
    let u := s.microAh ql
    let q : Int := (10000 * s.gau.q : Nat)
    let s := s.modGau fun g => { g with lrnLast := (clampInt 0 65535 (roundUp u 10000)).toNat }
    let near := decide (100 * (u - q).natAbs ≤ s.im Img.gauLrnLim * q.toNat)
    let s := if near then
        ((s.modGau fun g => { g with q := (clampInt 0 65535 ((g.q : Int) + roundUp ((u - q) * s.im Img.gauLrnW) 80000)).toNat, lrnCnt := satAdd 0xFFFF g.lrnCnt 1, rem := 0, intF := g.intF ||| 4 }).setNow (.gauge 2)).raiseEvt 237 0x24
      else s
    s.learnEnd

/-- Empty, disagreement or neither (R474). Every evaluation in the row of empty ends a learning cycle and a DRAIN; FS434 and the
interrupt bit come with the first one. Disagreement moves S_i at the evaluations that find it at 0 (assumption 150). -/
def State.gaugeEmpty (s : State) : State :=
  let vc := s.vComp
  let ve : Int := 65536 * (s.im Img.gauVEmpty : Nat)
  if vc ≤ ve then
    let was := s.gau.empty
    let s := s.modGau fun g => { g with si := 0, sr := 0, empty := true }
    let s := (if was then s else ((s.modGau fun g => { g with intF := g.intF ||| 1 }).setNow (.gauge 0)).assertSrc 434 0).learnResult
    match s.lace.energy with
    | some o => if o.order = 3 then s.energyEnd true else s
    | none => s
  else if s.gau.si = 0 ∧ ve + 65536 * (s.im Img.gauVMargin : Nat) < vc then
    let goal := s.socAt s.thm.band (vc - s.gau.v1 - s.gau.v2)
    let cv : Int := ((s.im Img.gauConv * 65536 / 100 : Nat) : Int)
    let was := s.gau.disagree
    let same := was && s.gau.learn.isNone
    let s := s.modGau fun g => { g with si := min cv goal, disagree := true, learn := none }
    let s := if was then s else (s.assertSrc 433 0).raiseEvt 236 0x24
    if same then s else s.gaugeFlags
  else s

/-- R474: the 10 ms evaluation. The first one after an insertion sets the state of charge and commits STALE (R482); the
first one after a long rest takes a clean reference (R484, R486). -/
def runGaugeEvaluation (s : State) : Host.Outcome State Fault Refusal :=
  .next (
    if !s.live || !s.imb Img.gauUsed then s
    else
      let (iMa, vCell) := s.gaugeMeans
      let due := s.gau.restDue && s.gau.pres && !s.gau.binding && decide (iMa.natAbs ≤ s.im Img.gauRestI)
      let s := s.modGau fun g => { g with iMa := iMa, vCell := vCell, sumI := 0, sumV := 0, sums := 0, restDue := false, rest := g.rest && decide (iMa.natAbs ≤ s.im Img.gauRestI) }
      let s := s.modGau fun g => { g with vc := clampInt (-32768) 65535 (roundUp s.vComp 65536) }
      if !s.gau.pres then s
      else if s.gau.binding then
        let soc := s.socAt s.thm.band s.vComp
        let s := s.modGau fun g => { g with binding := false, si := soc, sr := soc, unc := 500 * Config.uncUnit, refAge := 0, stale := false }
        let s := s.gaugeWarn
        if s.st liGauge = .off then s.loopRequest liGauge .stale 0x24 else s
      else
        let s := if due then (s.modGau fun g => { g with v1 := 0, v2 := 0 }).gaugeReference (s.socAt s.thm.band (vCell * 65536)) 100 else s
        let s := s.gaugeEmpty
        let s := match s.gau.learn with
          | some _ => if bitOf (s.im Img.gauLrnBands) s.thm.band then s else s.learnEnd
          | none => s
        s.gaugeWarn)

/-- R478: the longest learning cycle has run out. -/
def runLearningTimeout (s : State) : Host.Outcome State Fault Refusal :=
  .next (match s.gau.learn with
    | some (_, _, t) => if s.gauRuns && decide (86400 * s.im Img.gauLrnTmax ≤ t) then s.learnEnd else s
    | none => s)

/-- R483: the current has been at or below GAU_HIB_I for GAU_HIB_T. -/
def runHibernationEnter (s : State) : Host.Outcome State Fault Refusal :=
  .next (
    if s.gauRuns && !s.gau.hib && !s.gau.binding && (s.st liGauge == .valid || s.st liGauge == .stale) then
      (s.modGau fun g => { g with hib := true }).loopRequest liGauge .held 0x24
    else s)

/-- The gauge leaves HELD for VALID or STALE (R483, R484). -/
def State.gaugeWake (s : State) : State :=
  if s.gau.hib then
    let s := s.modGau fun g => { g with hib := false, hibPark := false }
    s.loopRequest liGauge s.gaugeState 0x24
  else s

/-- R483: the current has been above GAU_WAKE_I for 10 ms. -/
def runHibernationExit (s : State) : Host.Outcome State Fault Refusal :=
  .next (if s.gauRuns && !s.gau.hibPark then s.gaugeWake else s)

/-- The gauge's content in MRAM (R485). -/
def State.gaugeStore (s : State) : State :=
  let g := s.gau
  s.modGau fun x => { x with saved := some { si := g.si, unc := g.unc, refAge := g.refAge, q := g.q, idStored := g.idStored, lrnCnt := g.lrnCnt, rtcSec := s.rtc.sec.toNat } }

/-- R485: the gauge writes its content every 60 s and at power-fail. -/
def runGaugeSave (s : State) : Host.Outcome State Fault Refusal :=
  .next (if s.live && s.imb Img.gauUsed then s.gaugeStore else s)

/-- The charger has terminated: a clean reference at full, and a learning cycle where the band permits (R471, R477). -/
def State.gaugeTerminated (s : State) : State :=
  if !s.gauRuns then s
  else
    let s := s.gaugeReference socFull 50
    let was := s.gau.learn.isSome
    let begins := bitOf (s.im Img.gauLrnBands) s.thm.band
    let s := s.modGau fun g => { g with learn := if begins then some (0, 0, 0) else none }
    if was == begins then s else s.gaugeFlags

/-- The pack is judged removed (R481): the gauge commits OFF in the next epoch, which the tick submits. -/
def State.gaugeRemoved (s : State) : State :=
  s.learnEnd.modGau fun g => { g with pres := false, hib := false, hibPark := false, rest := false, binding := false }

/-- Resistance on PACK_ID in units of 10 Ω (R482). -/
def idTenOhm (idMv : Nat) : Nat := (roundUp ((1000 * idMv : Nat) : Int) (3300 - idMv)).toNat

/-- The binding of an inserted pack (R482): another pack takes the design capacity. -/
def State.gaugeBind (s : State) (idMv : Nat) : State :=
  let r := idTenOhm idMv
  let g := s.gau
  let same := decide (100 * ((r : Int) - g.idStored).natAbs ≤ s.im Img.gauIdTol * g.idStored)
  let s := if same then s else s.modGau fun g => { g with q := s.im Img.gauQdes, idStored := min 0xFFFF r, lrnCnt := 0 }
  s.modGau fun g => { g with pres := true, binding := true, rem := 0 }

/-- The gauge's publisher at a tick (R487). -/
def State.gaugePublish (s : State) : State :=
  let s := s.modGau fun g => { g with pubAge := satAdd 255 g.pubAge 1 }
  let v := roundUp s.gau.sr 65536
  if s.im Img.gauPubDb ≤ (v - s.gau.pubVal).natAbs ∨ 10 ≤ s.gau.pubAge then
    (s.modGau fun g => { g with pubVal := v, pubAge := 0 }).offer 7 [{ ep := liGauge, kind := .publish, val := wordOfInt v, val2 := 1, cls := 5, reqr := 0x28 }]
  else s

/-- The gauge at a tick: the commits that wait for an epoch (R481, R486) and the publisher. first: the tick that ends the
first committed epoch. -/
def State.gaugeTick (s : State) (first : Bool) : State :=
  if !s.imb Img.gauUsed then s
  else
    let st := s.st liGauge
    let s := if !s.gau.pres then (if st = .off ∨ st = .absent then s else s.loopRequest liGauge .off 0x24)
      else if first && st == .stale && decide (s.gau.refAge < 259200) && !s.gau.binding then s.loopRequest liGauge .valid 0x24
      else s
    s.gaugePublish

end Sys2Proof.Machine
end

