-- ==== Sys2Proof/Machine/Charger.lean ====
section
/-! DEFINITION. The charger: pack conversions, source selection, phases, limits, tracking, safety timer, removal and
insertion, reverse mode, publication (R440 to R465). -/

namespace Sys2Proof.Machine

/-- A per-cell voltage field times the cells, mV (R442). -/
def State.cellsMv (s : State) (perCell : Nat) : Nat := perCell * s.im Img.chgCells

/-- The charger is enabled and the unit governs. -/
def State.chgLive (s : State) : Bool := s.live && s.imb Img.chgUsed

/-- The order in force charges the pack (R461). -/
def State.sinking (s : State) : Bool := match s.lace.energy with | some o => o.order == 2 | none => false

/-- The order in force runs the converter in reverse (R460). -/
def State.reversing (s : State) : Bool := match s.lace.energy with | some o => o.order == 1 || o.order == 3 | none => false

/-- STARTING, ON or DERATED. -/
def State.chgCharging (s : State) : Bool := (s.st liCharger).alive

/-- The converter drives current into the pack (R449, R454). -/
def State.intoPack (s : State) : Bool := s.chg.conv && 1 ≤ s.chg.mode && s.chg.mode ≤ 4 && (s.chgCharging || s.sinking)

/-- The converter stops and the charger commits LATCHED_OFF (R449, R455). -/
def State.chgLatch (s : State) : State := s.chargerStop.loopRequest liCharger .latchedOff 0x22

/-- The converter stops and a charging charger commits HELD; under SINK it stays ACTIVE (R444, R449, R451, R461). -/
def State.chgHold (s : State) : State :=
  if s.chgCharging then s.chargerStop.loopRequest liCharger .held 0x22
  else if s.sinking then s.chargerStop
  else s

/-- R443: PACK_ID and PACK_NTC are converted; input 63 takes the temperature with THM_NTC15_PACK 1 (R424). -/
def runPackConversion (idMv : Nat) (ntc : Nat) (s : State) : Host.Outcome State Fault Refusal :=
  .next (
    if !s.chgLive then s
    else
      let t := if ratioValid ntc then ntcMilliC ntc (10 * s.im Img.chgPntcR25) (s.im Img.chgPntcBeta) else s.chg.ntcT
      let s := s.modChg fun c => { c with idMv := idMv, ntc := ntc, ntcT := t, present := decide (idMv < 2000) && ratioValid ntc && !c.removed }
      if s.imb Img.thmNtc15Pack then s.setThmIn 63 (if ratioValid ntc then some t else none) else s)

/-- The input that R444 selects: some true SOLAR, some false NET. -/
def State.chgSelect (s : State) (m : SourceMeas) : Option Bool :=
  let net := s.imb Img.chgNetEn && decide (250 * s.im Img.chgNetMin ≤ m.net ∧ m.net < 250 * s.im Img.chgNetOv) && !s.chg.ovOff.getLsbD 1
  if s.sinking then (if s.chg.ovOff.getLsbD 1 then none else some false)
  else if s.imb Img.chgSolEn && m.solarHeld && decide (250 * s.im Img.chgSolMin ≤ m.solar ∧ m.solar < 250 * s.im Img.chgSolOv) &&
      !s.chg.ovOff.getLsbD 0 && (s.chg.source != some true || decide (s.chg.lowSteps < 10)) then some true
  else if net then some false
  else none

/-- An over-voltage that has ended frees its input (R446). -/
def State.ovRelease (s : State) (m : SourceMeas) : State :=
  let s := if s.chg.ovOff.getLsbD 0 && decide (m.solar ≤ 250 * s.im Img.chgSolOv) then (s.modChg fun c => { c with ovOff := c.ovOff &&& 2 }).releaseSrc 422 else s
  if s.chg.ovOff.getLsbD 1 && decide (m.net ≤ 250 * s.im Img.chgNetOv) then (s.modChg fun c => { c with ovOff := c.ovOff &&& 1 }).releaseSrc 423 else s

/-- R444: the 1 ms source selection. A change turns the active pair off and the other on 20 µs later (R441). -/
def runSourceSelect (m : SourceMeas) (s : State) : Host.Outcome State Fault Refusal :=
  .next (
    if !s.chgLive then s
    else
      let s := (s.modChg fun c => { c with meas := m }).ovRelease m
      if s.reversing then s.modChg fun c => { c with solOn := false, netOn := !c.ovOff.getLsbD 1, source := none, switchTo := none }
      else
        let want := s.chgSelect m
        match want with
        | none =>
          let s := s.modChg fun c => { c with solOn := false, netOn := false, source := none, switchTo := none, conv := false, trkUp := none }
          if s.chg.mode = 5 then s.chargerStop.loopRequest liCharger .off 0x22 else s.chgHold
        | some src =>
          if s.chg.source = want then s
          else if s.chg.solOn || s.chg.netOn then
            s.modChg fun c => { c with solOn := false, netOn := false, source := want, switchTo := want, conv := false, trkUp := none, lowSteps := 0 }
          else if s.chg.switchTo.isSome then s.modChg fun c => { c with source := want, switchTo := want, trkUp := none, lowSteps := 0 }
          else s.modChg fun c => { c with solOn := src, netOn := !src, source := want, trkUp := none, lowSteps := 0 })

/-- R441: 20 µs after a change the other pair is turned on, and the converter runs again in the phase it held, its current rising
from 0. -/
def runSourceSwitchOn (s : State) : Host.Outcome State Fault Refusal :=
  .next (match s.chg.switchTo with
    | none => s
    | some src => s.modChg fun c => { c with solOn := src, netOn := !src, switchTo := none, conv := c.mode != 0, rampAt := some s.time })

/-- R446: an input is above its over-voltage threshold for 10 µs. -/
def runSourceOvervoltage (net : Bool) (s : State) : Host.Outcome State Fault Refusal :=
  .next (
    if !s.chgLive then s
    else
      let hit := s.chg.source == some (!net)
      let s := s.modChg fun c => { c with ovOff := c.ovOff ||| (if net then 2 else 1), solOn := c.solOn && net, netOn := c.netOn && !net, source := if hit then none else c.source, switchTo := if c.switchTo == some (!net) then none else c.switchTo, conv := c.conv && !hit && !(net && c.mode == 6) }
      s.assertSrc (if net then 423 else 422) 0)

/-- V_CV of R451 for the band, mV. -/
def State.vcv (s : State) : Nat := s.cellsMv (s.im Img.chgVcv - 5 * s.im Img.chgBVdrop s.chg.bandNow)

/-- R451 derates: the band's ceiling or the thermal limit lies below CHG_ICC. -/
def State.chgDerates (s : State) : Bool :=
  decide (s.im Img.chgBIcc s.chg.bandNow < s.im Img.chgIcc) ||
  (s.chg.limThm != 0 && decide (s.chg.limThm < ((10 * s.im Img.chgIcc : Nat) : Int)))

/-- A charge may begin from OFF: source on, pack present, none that has just terminated (R447, R448). -/
def State.chgReady (s : State) : Bool := s.chg.source.isSome && s.chg.switchTo.isNone && s.chg.present && !s.chg.terminated

/-- The pack or the band pauses the charge (R449, R451). -/
def State.chgPaused (s : State) : Bool := s.chg.hot || !s.imb Img.chgBEn s.chg.bandNow

/-- A charge may run: it may begin, and nothing pauses it. -/
def State.chgMay (s : State) : Bool := s.chgReady && !s.chgPaused

/-- A charge that the pack or the band pauses: the converter stops, and a charging charger commits HELD; a hot pack asserts FS419
(R449, R451, R461). -/
def State.chgPause (s : State) : State := if s.chg.hot && !(s.src 419).line then s.chgHold.assertSrc 419 0 else s.chgHold

/-- The phase that a pack voltage enters (R447). -/
def State.phaseOf (s : State) (v : Nat) : Nat :=
  if v < s.cellsMv (s.im Img.chgVtrk) then 1 else if v < s.cellsMv (s.im Img.chgVpre) then 2 else 3

/-- Mode of a running charge after an evaluation at V: ten evaluations leave modes 1 and 2, V_CV enters mode 4 (R447). -/
def State.phaseStep (s : State) (v : Nat) : Chg :=
  let c := s.chg
  let up : Nat → Chg := fun thr => if thr ≤ v then (if c.evals = 9 then { c with mode := c.mode + 1, evals := 0 } else { c with evals := c.evals + 1 }) else { c with evals := 0 }
  match c.mode with
  | 0 => { c with mode := s.phaseOf v, evals := 0, conv := true }
  | 1 => up (s.cellsMv (s.im Img.chgVtrk))
  | 2 => up (s.cellsMv (s.im Img.chgVpre))
  | 3 => if s.vcv ≤ v then { c with mode := 4 } else c
  | _ => c

/-- FS416 to FS418 and FS425 end with their conditions (R449, R455). -/
def State.chgSources (s : State) (v : Nat) : State :=
  let lim := s.im Img.chgTmrMin * 6000
  let s := if (s.src 416).line && decide (s.chg.tmrEq < lim * 65536) then s.releaseSrc 416 else s
  let s := if (s.src 417).line && decide (s.chg.tmrAbs < 3 * lim) then s.releaseSrc 417 else s
  let s := if (s.src 418).line && decide (v ≤ s.cellsMv (s.im Img.chgVov)) then s.releaseSrc 418 else s
  if (s.src 425).line && decide (s.cellsMv (s.im Img.chgVuv) ≤ v) then s.releaseSrc 425 else s

/-- The evaluation of a charger that is not under an order (R447, R448, R451), on its state as the tick published it; a commit
since then is acted on after the next tick (R52). -/
def State.chgPhases (s : State) (v : Nat) : State :=
  if s.st liCharger != s.seenSt liCharger then s else match s.st liCharger with
  | .off => if s.chg.run && !s.chg.hostHeld && s.chgReady then s.loopRequest liCharger .starting 0x22 else s
  | .held => if s.chg.run && !s.chg.hostHeld && s.chgMay then s.loopRequest liCharger .starting 0x22 else s
  | .starting =>
    if s.chgPaused then s.chgPause
    else if !s.chgMay then s
    else
      let s := s.modChg fun _ => { s.phaseStep v with conv := true }
      if s.chg.mode = 3 then s.loopRequest liCharger .on 0x22 else s
  | .on | .derated =>
    if s.chgPaused then s.chgPause
    else if !s.chgMay then s
    else
      let s := s.modChg fun c => if c.mode < 3 then { c with mode := 3, conv := true } else { c with conv := true }
      let s := s.modChg fun _ => s.phaseStep v
      let der := s.chgDerates
      if der && s.st liCharger == .on then s.loopRequest liCharger .derated 0x22
      else if !der && s.st liCharger == .derated then s.loopRequest liCharger .on 0x22
      else s
  | _ => s

/-- R447: the 1 ms evaluation of the filtered pack voltage. -/
def runChargeEvaluation (vpack : Nat) (ivr : Bool) (s : State) : Host.Outcome State Fault Refusal :=
  .next (
    if !s.chgLive then s
    else
      let s := (s.modChg fun c => { c with bandNow := s.thm.band, ivr := ivr && c.conv, vpack := vpack }).chgSources vpack
      if s.reversing then (if s.im Img.chgRevVmin ≤ vpack then s.modChg fun c => { c with conv := c.netOn } else if s.chg.conv then s.energyEnd false else s)
      else if s.sinking then
        if !s.chgMay then (if s.chgPaused then s.chgPause else s)
        else s.modChg fun c => { s.phaseStep vpack with conv := true, solOn := c.solOn }
      else if s.chg.mode = 5 then s
      else s.chgPhases vpack)

/-- R447, R448: the current has stayed below CHG_ITERM for CHG_TERM_T; the gauge takes its reference (R471). -/
def runChargeTermination (s : State) : Host.Outcome State Fault Refusal :=
  .next (
    if s.chgLive && s.chg.mode == 4 && (s.chgCharging || s.sinking) then
      let s := (s.chargerStop.modChg fun c => { c with terminated := true }).raiseEvt 233 0x22
      let s := if s.sinking then s else s.loopRequest liCharger .off 0x22
      s.gaugeTerminated
    else s)

/-- R448: V has been below V_CV − CHG_VRCH for 1 s after a termination. -/
def runRechargeStart (s : State) : Host.Outcome State Fault Refusal :=
  .next (
    if s.chgLive && s.st liCharger == .off && s.chg.terminated && s.chg.run then
      let s := s.modChg fun c => { c with terminated := false }
      if s.chgReady then s.loopRequest liCharger .starting 0x22 else s
    else s)

/-- R449: V has been above CHG_VOV for 100 µs. -/
def runPackOvervoltage (s : State) : Host.Outcome State Fault Refusal :=
  .next (if s.chgLive && s.intoPack then s.chgLatch.assertSrc 418 0 else s)

/-- R449: the stage fault detector reports a fault. -/
def runChargerStageFault (s : State) : Host.Outcome State Fault Refusal :=
  .next (if s.chgLive && s.intoPack then s.chgLatch.pulseSrc 421 0 else s)

/-- R449: the pack's temperature is at or above CHG_POT, or has fallen below CHG_POT − 5.0 °C. -/
def runPackOvertemp (hot : Bool) (s : State) : Host.Outcome State Fault Refusal :=
  .next (
    if !s.chgLive then s
    else if hot then
      let into := s.intoPack
      let s := s.modChg fun c => { c with hot := true }
      if into then s.chgHold.assertSrc 419 0 else s
    else
      let s := s.modChg fun c => { c with hot := false }
      if (s.src 419).line then s.releaseSrc 419 else s)

/-- R449: V has been below CHG_VUV for 100 ms. -/
def runPackUndervoltage (s : State) : Host.Outcome State Fault Refusal :=
  .next (if s.chgLive && s.intoPack then s.assertSrc 425 0 else s)

/-- R453: a tracking step ends; the next limit is asked for. -/
def runTrackingStep (pMean : Nat) (iOut : Nat) (s : State) : Host.Outcome State Fault Refusal :=
  .next (
    if !s.chgLive || !s.tracks then s
    else
      let prev := s.chg.pout
      let low := decide (pMean < 100 * s.im Img.chgSolPmin)
      let s := s.modChg fun c => { c with pout := pMean, iout := iOut, lowSteps := if low then min 10 (c.lowSteps + 1) else 0 }
      let d : Int := ((10 * s.im Img.chgTrkStep : Nat) : Int)
      let up := match s.chg.trkUp with
        | none => true
        | some u => if prev < pMean then u else !u
      let from_ : Int := if s.chg.trkUp.isNone then iOut else s.chg.limTrk
      let s := s.modChg fun c => { c with trkUp := some up }
      s.offer 6 [{ ep := liCharger, kind := .limit, val := wordOfInt (if up then from_ + d else max 0 (from_ - d)), cls := 5, reqr := 0x22 }])

/-- R454, R455: the 10 ms update of the safety timer. -/
def runSafetyTimerUpdate (iActual : Nat) (s : State) : Host.Outcome State Fault Refusal :=
  .next (
    if !s.chgLive then s
    else if !s.intoPack then s.modChg fun c => { c with iout := iActual }
    else
      let icc := 10 * s.im Img.chgIcc
      let rise := if icc = 0 then 65536 else max 8192 (min 65536 (iActual * 65536 / icc))
      let s := s.modChg fun c => { c with iout := iActual, tmrEq := c.tmrEq + rise, tmrAbs := satAdd 0xFFFFFFFF c.tmrAbs 1 }
      let lim := s.im Img.chgTmrMin * 6000
      let eq := decide (lim * 65536 ≤ s.chg.tmrEq)
      let ab := decide (3 * lim ≤ s.chg.tmrAbs)
      let s := if eq then s.assertSrc 416 0 else s
      let s := if ab then s.assertSrc 417 0 else s
      if eq || ab then s.chgLatch else s)

/-- R456, R457, R463: the pack is declared removed. The input that R444 selects by its last measurement is the usable one. -/
def runPackRemoval (s : State) : Host.Outcome State Fault Refusal :=
  .next (
    if !s.chgLive || s.chg.removed then s
    else
      let s := s.energyStop false
      let s := (s.timersZero.chargerStop).modChg fun c => { c with removed := true, present := false, hot := false, remCnt := satAdd 0xFFFF c.remCnt 1 }
      let s := ((s.assertSrc 420 0).raiseEvt 234 (reqrSource 420)).gaugeRemoved
      match s.st liCharger with
      | .latchedOff => s
      | st =>
        match s.chgSelect s.chg.meas with
        | some src =>
          let s := s.modChg fun c =>
            if c.source = some src ∧ (if src then c.solOn else c.netOn) = true then { c with mode := 5, conv := true }
            else { c with mode := 5, conv := false, solOn := false, netOn := false, source := some src, switchTo := some src }
          s.loopRequest liCharger .active 0x22
        | none => if st = .off then s else s.loopRequest liCharger .off 0x22)

/-- R458: the pack has been judged present for 100 ms; the gauge binds it (R482). -/
def runPackInsertion (idMv : Nat) (s : State) : Host.Outcome State Fault Refusal :=
  .next (
    if !s.chgLive || !s.chg.removed then s
    else
      let s := s.timersZero.chargerStop.modChg fun c => { c with removed := false, present := true, idMv := idMv, terminated := false }
      let s := (s.raiseEvt 232 0x22).releaseSrc 420
      let st := s.st liCharger
      let s := if st = .active ∨ st = .latchedOff then s.loopRequest liCharger .off 0x22 else s
      if s.imb Img.gauUsed then s.gaugeBind idMv else s)

/-- R462: NET has not come up, or carries too much current: the order ends. -/
def runReverseModeFault (overCurrent : Bool) (s : State) : Host.Outcome State Fault Refusal :=
  .next (
    if s.chgLive && s.reversing && (s.chg.conv || !overCurrent) then ((s.modChg fun c => { c with conv := false }).pulseSrc 424 0).energyEnd false
    else s)

/-- I_eff of R450, mA. -/
def State.iEff (s : State) : Nat :=
  let c := s.chg
  let low := fun (on : Bool) (v : Int) (m : Nat) => if on then min m v.toNat else m
  low (s.tracks && c.trkUp.isSome) c.limTrk (low (c.limThm != 0) c.limThm (low (c.limPol != 0) c.limPol (min (10 * s.im Img.chgIcc) (10 * s.im Img.chgBIcc c.bandNow))))

/-- The target of the converter's current, mA: that of each charge phase, CHG_ISUP in supply mode, ILIM in reverse mode (R447,
R450, R456, R460). -/
def State.chgTarget (s : State) : Nat :=
  if !s.chg.conv then 0
  else match s.chg.mode with
    | 1 => 10 * s.im Img.chgItrk
    | 2 => 10 * s.im Img.chgIpre
    | 3 | 4 => s.iEff
    | 5 => 10 * s.im Img.chgIsup
    | 6 => match s.lace.energy with
      | some o => 250 * o.ilim
      | none => 0
    | _ => 0

/-- The current that the converter may drive, mA: the target, over 1 ms from 0 after a change of source (R441). -/
def State.chgCurrent (s : State) : Nat :=
  match s.chg.rampAt with
  | some t => s.chgTarget * min (s.time - t) (1000 * usTime) / (1000 * usTime)
  | none => s.chgTarget

/-- The voltage that the converter regulates, mV: V_CV into the pack, CHG_VSUP at the node in supply mode, VNET onto NET in
reverse mode (R447, R456, R460). -/
def State.chgVoltage (s : State) : Nat :=
  match s.chg.mode with
  | 5 => s.im Img.chgVsup
  | 6 => match s.lace.energy with
    | some o => 100 * o.vnet
    | none => 0
  | _ => s.vcv

/-- The input voltage below which the converter lowers its current, mV (R445); under SINK it is VNET − 1 V (R461). -/
def State.inputFloor (s : State) : Nat :=
  if s.chg.solOn then 250 * s.im Img.chgSolVfloor
  else match s.lace.energy with
    | some o => if o.order = 2 then 100 * o.vnet - 1000 else 250 * s.im Img.chgNetVreg
    | none => 250 * s.im Img.chgNetVreg

/-- The pack current of R464, mA. -/
def State.packMa (s : State) : Int :=
  if s.chg.mode = 5 then 0
  else if s.imb Img.chgIpackSrc then roundUp ((s.meter 0).val * 500000) (2 ^ 23 * s.im Img.chgShuntM)
  else s.chg.iout

/-- The charger's publisher at a tick (R464). -/
def State.chargerTick (s : State) : State :=
  if !s.imb Img.chgUsed then s
  else
    let s := s.modChg fun c => { c with pubAge := satAdd 255 c.pubAge 1 }
    let v := s.packMa
    if s.im Img.chgPubDb ≤ (v - s.chg.pubVal).natAbs ∨ 10 ≤ s.chg.pubAge then
      (s.modChg fun c => { c with pubVal := v, pubAge := 0 }).offer 7 [{ ep := liCharger, kind := .publish, val := wordOfInt v, val2 := 1, cls := 5, reqr := 0x28 }]
    else s

end Sys2Proof.Machine
end

