-- ==== Sys2Proof/Machine/Time.lean ====
section
/-! DEFINITION. The backup domain and the real-time clock: counting, trim, alarms, loads, halts, oscillator stop (R490 to
R503). -/

namespace Sys2Proof.Machine

/-- The 64-bit time that the alarms compare (R502). -/
def Rtc.time (r : Rtc) : BitVec 64 := BitVec.ofNat 64 (r.sec.toNat * 65536 + r.frac.toNat)

/-- Oscillator cycle c of an interval is a trim cycle of the signed trim n (R496). -/
def trimCycle (n : Int) (c : Nat) : Bool :=
  let a := n.natAbs
  let k := (c * a + 1048575) / 1048576
  a != 0 && k < a && k * 1048576 / a == c

/-- What one oscillator cycle adds to the fraction (R494, R496). -/
def Rtc.addend (r : Rtc) : Nat :=
  match r.trimCyc with
  | some c => if trimCycle (toSigned 8 r.trimNow.toNat) c then (if toSigned 8 r.trimNow.toNat < 0 then 0 else 4) else 2
  | none => 2

/-- One counted oscillator cycle: fraction, carry, trim interval (R494, R496). A trim applies from the interval that
begins. -/
def Rtc.tick (r : Rtc) : Rtc :=
  let f := r.frac.toNat + r.addend
  let carry := 65536 ≤ f
  let sec := if carry then r.sec + 1 else r.sec
  let r := { r with frac := BitVec.ofNat 16 f, sec := sec, trimCyc := r.trimCyc.map (· + 1) }
  if carry && sec.toNat % 32 == 0 then { r with trimCyc := some 0, trimNow := r.trim } else r

/-- Compare value and mask of alarm a (R502). -/
def Rtc.alarm (r : Rtc) (a : Nat) : BitVec 64 × BitVec 64 := if a = 0 then (r.cmp0, r.msk0) else (r.cmp1, r.msk1)

/-- The compared bits are equal (R502). -/
def Rtc.alarmEqual (r : Rtc) (a : Nat) (t : BitVec 64) : Bool := ((t ^^^ (r.alarm a).1) &&& (r.alarm a).2) == 0

/-- Alarm a fires at an increment from one time to the next (R502, R503). -/
def Rtc.fires (r : Rtc) (a : Nat) (before after : BitVec 64) : Bool :=
  before != after && r.alarmEqual a after && !r.alarmEqual a before

/-- An enabled alarm that fires sets its flag and may ask the lanes to wake (R503). -/
def State.alarmFire (s : State) (a : Nat) (fires : Bool) : State :=
  if fires && s.rtc.almEn.getLsbD a then
    let s := (s.modRtc fun r => { r with almF := r.almF ||| BitVec.ofNat 2 (2 ^ a) }).setNow (.alarm (Fin.ofNat 2 a))
    if s.rtc.almWake.getLsbD a && s.imb Img.wakeRtc 0 then s.modRtc fun r => { r with wakeDue := true } else s
  else s

/-- RTC_OSF is set: a VALID or HELD entry becomes STALE (R499, R500). -/
def State.osfNote (s : State) : State :=
  if s.live && s.rtc.osf && (s.st liRtc == .valid || s.st liRtc == .held) && !s.stateUnderWay liRtc .stale then
    s.offer 1 [stateReq liRtc .stale 1 (reqrSource 266)]
  else s

/-- What the backup domain does at once at its reset (R491, R499). -/
def State.backupStep (s : State) : State :=
  let r := s.rtc
  { s with rtc := { setFrac := r.setFrac, setSec := r.setSec, busy := r.busy, stopped := r.stopped, onVbk := r.onVbk, ie := r.ie, osf := true } }.setNow .backup

/-- R491, R518: the backup domain resets. -/
def runBackupReset (s : State) : Host.Outcome State Fault Refusal := .next s.backupStep.osfNote

/-- R493: VBKUP has been below RTC_VBK_THR, or back above its release level, for 1 ms. -/
def runVbkupLow (low : Bool) (s : State) : Host.Outcome State Fault Refusal := .next (s.followSrc 360 0 low)

/-- What the backup domain does at once in a cycle of its oscillator. A stopped oscillator runs again with it, and the clock
goes on from the value it held (R494, R495, R499, R503). -/
def State.rtcStep (s : State) : State :=
  let s := if s.rtc.stopped then (s.modRtc fun r => { r with stopped := false }).modLane fun l => { l with x32Ok := true } else s
  if s.rtc.halt then s
  else
    let before := s.rtc.time
    let after := s.rtc.tick.time
    let f0 := s.rtc.fires 0 before after
    let f1 := s.rtc.fires 1 before after
    ((s.modRtc Rtc.tick).alarmFire 0 f0).alarmFire 1 f1

/-- What the lanes hear of a cycle: the oscillator runs, and an alarm may be a wake condition (R300, R503). -/
def State.rtcNote (s : State) : State :=
  let s := if (s.src 266).line then s.releaseSrc 266 else s
  if s.rtc.wakeDue then (s.modRtc fun r => { r with wakeDue := false }).wake 6 else s

/-- R494: one cycle of the 32.768 kHz oscillator. -/
def runRtcIncrement (s : State) : Host.Outcome State Fault Refusal := .next s.rtcStep.rtcNote

/-- R499: outside RUN and PARKED the backup domain's own detector has seen no edge for 4 ms. -/
def execOscillatorStopDetect (s : State) : Host.Outcome State Fault Refusal :=
  .next (if s.live then s else s.modRtc fun r => { r with stopped := true, osf := true })

/-- A read of RTC_FRAC latches the seconds for its interface (R497). -/
def State.rtcFrac (s : State) (i : Iface) : Word × State :=
  (wordOf s.rtc.frac.toNat, s.modIface i fun x => { x with rtcLatch := s.rtc.sec.toNat })

/-- R497: a read of RTC_FRAC. -/
def runRtcFracRead (i : Iface) (s : State) : Host.Outcome State Fault Refusal :=
  .next (if s.live then
      let (w, s) := s.rtcFrac i
      s.answer i [w]
    else s)

/-- RTC_SET_GO: the set registers wait for the oscillator; ignored while a load waits (R498). -/
def State.rtcGo (s : State) (i : Iface) : State :=
  if s.rtc.busy.isSome then s
  else s.modRtc fun r => { r with busy := some (r.setFrac &&& 0xFFFE#16, r.setSec, i) }

/-- R498: RTC_SET_GO is written with 1. -/
def runRtcSetGo (i : Iface) (s : State) : Host.Outcome State Fault Refusal := .next (if s.live then s.rtcGo i else s)

/-- R498: the load. A STALE entry commits VALID, and HELD in the next epoch while RTC_HALT is 1 (R500). -/
def runRtcLoad (s : State) : Host.Outcome State Fault Refusal :=
  .next (match s.rtc.busy with
    | none => s
    | some (f, sec, i) =>
      let s := s.modRtc fun r => { r with frac := f, sec := sec, busy := none, osf := false, trimCyc := none }
      if s.live && s.st liRtc == .stale then
        let s := s.commit liRtc { st := some .valid, val := some s.rtcValue, cls := 4, reqr := reqrIface i }
        s.modRtc fun r => { r with heldNext := if r.halt then some i else none }
      else s)

/-- In the epoch after a load under RTC_HALT the entry commits HELD (R500). -/
def State.rtcTick (s : State) : State :=
  match s.rtc.heldNext with
  | none => s
  | some i =>
    let s := s.modRtc fun r => { r with heldNext := none }
    if s.rtc.halt && s.st liRtc == .valid then
      s.commit liRtc { st := some .held, val := some s.rtcValue, cls := 4, reqr := reqrIface i }
    else s

/-- A write of RTC_HALT asks for the clock's state (R501). -/
def State.rtcHaltReq (s : State) (i : Iface) (v : Bool) : State :=
  (s.govern i (stateReq liRtc (if v then .held else .valid) 4 0)).2

/-- R501: RTC_HALT is written. -/
def runRtcHaltWrite (i : Iface) (v : Bool) (s : State) : Host.Outcome State Fault Refusal := .next (s.rtcHaltReq i v)

end Sys2Proof.Machine
end

