-- ==== Sys2Proof/Machine/Otp.lean ====
section
/-! DEFINITION. One-time memory: word states, thermometer fields, key slots, lifecycle, programming, and the owner's
authorisations (R565 to R580). -/

namespace Sys2Proof.Machine

/-- Word w. -/
def State.otpWord (s : State) (w : Nat) : OtpWord := s.otp.words.get {} w
/-- Change word w. -/
def State.setOtpWord (s : State) (w : Nat) (x : OtpWord) : State := s.modOtp fun o => { o with words := o.words.set {} w x }

/-- State of a word: 0 BLANK, 1 OPEN, 2 SEALED, 3 uncorrectable (R565, R566, R592). -/
def OtpWord.state (x : OtpWord) : Nat :=
  if x.chk = 0 then (if x.data = 0 then 0 else 1) else if (Config.secdedDecode x.data x.chk).isSome then 2 else 3

/-- Data of a word as it reads: corrected where SEALED and correctable, else as stored (R566). -/
def OtpWord.value (x : OtpWord) : BitVec 64 :=
  if x.chk = 0 then x.data else match Config.secdedDecode x.data x.chk with
    | some d => d.1
    | none => x.data

/-- A read of word w reports a correction or an uncorrectable word (R566). -/
def State.otpNote (s : State) (w : Nat) : State :=
  let x := s.otpWord w
  if x.chk = 0 then s
  else match Config.secdedDecode x.data x.chk with
    | some (_, true) => (s.modOtp fun o => { o with corr := satAdd 0xFFFF o.corr 1 }).pulseSrc 464 w
    | some (_, false) => s
    | none => (s.modOtp fun o => { o with errWord := w }).pulseSrc 465 w

/-- Consecutive 1 bits from bit 0, of n bits (R568). -/
def lowOnes : Nat → Nat → Nat
  | 0, _ => 0
  | n + 1, x => if x % 2 = 1 then 1 + lowOnes n (x / 2) else 0

/-- The median of three (R568). -/
def median (a b c : Nat) : Nat := max (min a b) (min (max a b) c)

/-- Lifecycle: 0 BLANK, 1 PROVISIONED, 2 OWNED, 3 FIELD, 4 RETIRED (R568, R571). -/
def State.lifecycle (s : State) : Nat :=
  let d := (s.otpWord 2).data.toNat
  min 4 (median (lowOnes 8 (bitsOf d 7 0)) (lowOnes 8 (bitsOf d 15 8)) (lowOnes 8 (bitsOf d 23 16)))

/-- Revocation bit of key slot k, by the majority of its copies (R567, R568). -/
def State.revoked (s : State) (k : Nat) : Bool :=
  let d := (s.otpWord 4).data.toNat
  2 ≤ b2n (bitOf d k) + b2n (bitOf d (8 + k)) + b2n (bitOf d (16 + k))

/-- Copy j of rollback counter c (R567). -/
def State.ctrCopy (s : State) (c j : Nat) : Nat :=
  (List.range 4).foldl (fun n k => n + (s.otpWord (0x40 + 12 * c + 4 * j + k)).data.toNat * 2 ^ (64 * k)) 0

/-- Rollback counter c (R568): 0 FIRMWARE, 1 CONFIG, 2 PATCH. -/
def State.rollback (s : State) (c : Nat) : Nat :=
  median (lowOnes 256 (s.ctrCopy c 0)) (lowOnes 256 (s.ctrCopy c 1)) (lowOnes 256 (s.ctrCopy c 2))

/-- The words of key slot k (R567). -/
def slotWords (k : Nat) : List Nat := (List.range 4).map (0x008 + 4 * k + ·)

/-- The digest that key slot k holds. -/
def State.slotKey (s : State) (k : Nat) : List (BitVec 64) := (slotWords k).map fun w => (s.otpWord w).value

/-- Key slot k is usable (R570). -/
def State.slotUsable (s : State) (k : Nat) : Bool := k < 8 && !s.revoked k && (slotWords k).all (fun w => (s.otpWord w).state == 2)

/-- A usable owner slot other than the one given (R570, R572). -/
def State.ownerUsable (s : State) (but : Option Nat) : Bool := [2, 3, 4, 5].any fun k => s.slotUsable k && some k != but

/-- Unit identity (R567). -/
def State.uid (s : State) : BitVec 64 := (s.otpWord 0).value

/-- Closed fraction f of watchdog w, of 64 (R506, R569). -/
def State.closedFraction (s : State) (w : Nat) : Nat :=
  match (s.otpWord 3).state with
  | 0 | 1 => 0
  | 3 => 16
  | _ => min 48 (bitsOf (s.otpWord 3).value.toNat (6 * w + 5) (6 * w))

/-- Data bits of word w that d sets and the word does not hold, ascending (R573). -/
def State.dataBits (s : State) (w : Nat) (d : BitVec 64) : List (Nat × Nat) :=
  ((List.range 64).filter fun i => d.getLsbD i && !(s.otpWord w).data.getLsbD i).map (w, ·)

/-- Check bits that seal word w as it stands, ascending (R565, R573). -/
def State.checkBits (s : State) (w : Nat) : List (Nat × Nat) :=
  ((List.range 8).filter fun i => (Config.secdedCheck (s.otpWord w).data).getLsbD i).map fun i => (w, 64 + i)

/-- Bits that raise the lifecycle to t: copy 0, then 1, then 2 (R568). -/
def State.lcBits (s : State) (t : Nat) : List (Nat × Nat) :=
  ((List.range 3).flatMap fun j => ((List.range t).map fun i => 8 * j + i).filter fun b => !(s.otpWord 2).data.getLsbD b).map (2, ·)

/-- Bits that revoke slot k (R568). -/
def State.revokeBits (s : State) (k : Nat) : List (Nat × Nat) :=
  (((List.range 3).map fun j => 8 * j + k).filter fun b => !(s.otpWord 4).data.getLsbD b).map (4, ·)

/-- Bits that raise counter c to v (R568). -/
def State.ctrBits (s : State) (c v : Nat) : List (Nat × Nat) :=
  (List.range 3).flatMap fun j => ((List.range v).map fun i => (0x40 + 12 * c + 4 * j + i / 64, i % 64)).filter fun b => !(s.otpWord b.1).data.getLsbD b.2

/-- The staged package's first block. -/
def State.pkgHead (s : State) : List Byte := s.upd.blocks.get [] 0
/-- Class of the staged package (UPD_CLASS, R581). -/
def State.pkgClass (s : State) : Nat := numAt s.pkgHead 4 1
/-- Security version of the staged package (R581). -/
def State.pkgSvn (s : State) : Nat := numAt s.pkgHead 6 2

/-- An activation ends: FS475, and the session is IDLE (R590). -/
def State.activationEnd (s : State) : State :=
  ((s.modUpd fun u => { u with st := .idle }).modOtp fun o => { o with activation := none }).pulseSrc 475 0

/-- The lowest BLANK patch word (R590). -/
def State.blankPatch (s : State) : Option Nat := ((List.range 256).map (0x100 + ·)).find? fun w => (s.otpWord w).state == 0

/-- The counter of the activated class is raised, or the activation ends (R590). -/
def State.activationCounter (s : State) (cls : Nat) : State :=
  let s := if cls = 3 then s.modGlb fun g => { g with patchWait := true } else s
  if s.rollback (cls - 1) < s.pkgSvn then
    let bits := s.ctrBits (cls - 1) s.pkgSvn
    s.modOtp fun o => { o with bits := bits, pulses := 0, sealNext := none }
  else s.activationEnd

/-- The next of the patch entries left is programmed into the lowest BLANK patch word; an entry that sets no bit is passed
over. Without a BLANK word the session is READY again (R590). -/
def State.patchNext (cls : Nat) : List (BitVec 64) → State → State
  | [], s => (s.modOtp fun o => { o with patchLeft := [] }).activationCounter cls
  | e :: rest, s => match s.blankPatch with
    | none => (s.modOtp fun o => { o with patchLeft := [], activation := none }).modUpd fun u => { u with st := .ready }
    | some w =>
      let bits := s.dataBits w e
      let check := s.checkBits w
      if bits.isEmpty && check.isEmpty then State.patchNext cls rest s
      else if bits.isEmpty then s.modOtp fun o => { o with patchLeft := rest, bits := check, pulses := 0, sealNext := none }
      else s.modOtp fun o => { o with patchLeft := rest, bits := bits, pulses := 0, sealNext := some w }

/-- An activation's command has ended: the next patch entry, the counter, or the end (R590). -/
def State.activationNext (s : State) : State :=
  match s.otp.activation with
  | none => s
  | some cls => State.patchNext cls s.otp.patchLeft s

/-- With no data bit left the check bits follow, and then the command has ended (R573). -/
def State.otpAdvance (s : State) : State :=
  if !s.otp.bits.isEmpty then s
  else match s.otp.sealNext with
    | some w =>
      let bits := s.checkBits w
      let s := s.modOtp fun o => { o with bits := bits, pulses := 0, sealNext := none }
      if bits.isEmpty then s.activationNext else s
    | none => s.activationNext

/-- A command starts to program (R573). -/
def State.otpStart (s : State) (bits : List (Nat × Nat)) (sealed : Option Nat) : State :=
  (s.modOtp fun o => { o with bits := bits, pulses := 0, sealNext := sealed }).otpAdvance

/-- Programming ends without completion: OTP_FAIL, and an activation goes back to READY (R573, R574). -/
def State.otpStop (s : State) : State :=
  let s := if s.otp.activation.isSome then s.modUpd fun u => { u with st := .ready } else s
  (s.modOtp fun o => { o with bits := [], pulses := 0, sealNext := none, fail := true, activation := none, patchLeft := [] }).setNow .otpFail

/-- OTP_BUSY: a command runs (R592). -/
def State.otpBusy (s : State) : Bool := !s.otp.bits.isEmpty || s.otp.activation.isSome

/-- No general reason of R572 refuses a command. -/
def State.otpFree (s : State) : Bool := !s.otpBusy && s.glb.mode == .run && !s.seq.pf

/-- A refused command (R572). -/
def State.otpRefuse (s : State) : State := (s.modOtp fun o => { o with rej := true }).setNow .otpRej

/-- The interface's armed authorisation is used by a command of its action with a matching argument (R579). -/
def State.useAuth (s : State) (i : Iface) (action arg : Nat) : Option State :=
  match (s.iface i).armed with
  | some (a, g, _) => if a = action ∧ g.toNat = arg then some (s.modIface i fun x => { x with armed := none }) else none
  | none => none

/-- A key-slot word or the watchdog word, which FIELD no longer programs (R571). -/
def fieldFixed (w : Nat) : Bool := w == 3 || (8 ≤ w && w < 0x28)

/-- A word that PROVISIONED programs without authorisation (R571). -/
def provisionFree (w : Nat) : Bool := w == 3 || (0x010 ≤ w && w < 0x028) || (0x200 ≤ w && w < 0x400)

/-- The lifecycle and the authorisation permit a command on word w (R571, R572). -/
def State.otpAllowed (s : State) (i : Iface) (w : Nat) : Option State :=
  match s.lifecycle with
  | 0 => some s
  | 1 => if provisionFree w then some s else s.useAuth i 1 w
  | 2 => s.useAuth i 1 w
  | 3 => if fieldFixed w then none else s.useAuth i 1 w
  | _ => none

/-- The lifecycle and the authorisation permit another programming command: BLANK needs none (R571, DEDUCED, assumption
16). -/
def State.otpOwner (s : State) (i : Iface) (action arg : Nat) : Option State :=
  match s.lifecycle with
  | 0 => some s
  | 1 | 2 | 3 => s.useAuth i action arg
  | _ => none

/-- Word, slot or value of OTP_CMD. -/
def cmdWord (w : Word) : Nat := bitsOf w.toNat 9 0

/-- Words that hold a thermometer field, which PROGRAM never takes (R572). -/
def thermWord (w : Nat) : Bool := w == 2 || w == 4 || (0x40 ≤ w && w ≤ 0x63)

/-- R572: PROGRAM. -/
def runProgram (i : Iface) (w : Word) (s : State) : Host.Outcome State Fault Refusal :=
  .next (
    if !s.live then s
    else
      let k := cmdWord w
      let x := s.otpWord k
      let d : BitVec 64 := BitVec.ofNat 64 (s.otp.dataHi.toNat * 2 ^ 32 + s.otp.dataLo.toNat)
      if !s.otpFree || x.chk != 0 || thermWord k || (x.data &&& ~~~d) != 0 then s.otpRefuse
      else match s.otpAllowed i k with
        | none => s.otpRefuse
        | some t => t.otpStart (t.dataBits k d) (if bitOf w.toNat 28 then some k else none))

/-- R572: SEAL. -/
def runSealWord (i : Iface) (w : Word) (s : State) : Host.Outcome State Fault Refusal :=
  .next (
    if !s.live then s
    else
      let k := cmdWord w
      if !s.otpFree || (s.otpWord k).state != 1 then s.otpRefuse
      else match s.otpAllowed i k with
        | none => s.otpRefuse
        | some t => t.otpStart [] (some k))

/-- R571, R572: LC_ADVANCE. An advance from BLANK or PROVISIONED needs no authorisation. -/
def runLcAdvance (i : Iface) (_w : Word) (s : State) : Host.Outcome State Fault Refusal :=
  .next (
    if !s.live then s
    else
      let lc := s.lifecycle
      if !s.otpFree || lc = 4 || (lc == 1 && !s.ownerUsable none) then s.otpRefuse
      else match (if lc ≤ 1 then some s else s.useAuth i 2 (lc + 1)) with
        | none => s.otpRefuse
        | some t => t.otpStart (t.lcBits (lc + 1)) none)

/-- R572: REVOKE. -/
def runRevoke (i : Iface) (w : Word) (s : State) : Host.Outcome State Fault Refusal :=
  .next (
    if !s.live then s
    else
      let k := cmdWord w
      if !s.otpFree || 7 < k || !s.ownerUsable (some k) then s.otpRefuse
      else match s.otpOwner i 3 k with
        | none => s.otpRefuse
        | some t => t.otpStart (t.revokeBits k) none)

/-- R572: CTR_RAISE. -/
def runCtrRaise (i : Iface) (w : Word) (s : State) : Host.Outcome State Fault Refusal :=
  .next (
    if !s.live then s
    else
      let v := cmdWord w
      if !s.otpFree || v ≤ s.rollback 1 || 256 < v then s.otpRefuse
      else match s.otpOwner i 4 v with
        | none => s.otpRefuse
        | some t => t.otpStart (t.ctrBits 1 v) none)

/-- Program one bit of a word (R565, R573). -/
def OtpWord.setBit (x : OtpWord) (b : Nat) : OtpWord :=
  if b < 64 then { x with data := x.data ||| BitVec.ofNat 64 (2 ^ b) } else { x with chk := x.chk ||| BitVec.ofNat 8 (2 ^ (b - 64)) }

/-- R573, R574: a programming pulse ends and its bit is read back. -/
def runOtpPulseDone (reads1 : Bool) (s : State) : Host.Outcome State Fault Refusal :=
  .next (match s.otp.bits with
    | [] => s
    | (w, b) :: rest =>
      if reads1 then
        let s := s.setOtpWord w ((s.otpWord w).setBit b)
        let s := s.modOtp fun o => { o with bits := rest, pulses := 0 }
        if s.seq.pf || s.glb.mode != .run then s.otpStop else s.otpAdvance
      else if s.otp.pulses = 7 then
        ((s.otpStop).modOtp fun o => { o with errWord := w }).pulseSrc 466 w
      else if s.seq.pf || s.glb.mode != .run then s.otpStop
      else s.modOtp fun o => { o with pulses := o.pulses + 1 })

/-- A token is being checked, from the buffer of its interface (R578). -/
def State.tokenStart (s : State) (i : Iface) : State := s.modIface i fun x => { x with authBusy := true }

/-- R578: UPD_CMD 7; ignored while a check runs. -/
def runTokenVerify (i : Iface) (s : State) : Host.Outcome State Fault Refusal := .next (if s.live then s.tokenStart i else s)

/-- The bytes of the authorisation buffer (R577, R594). -/
def HostIf.authBytes (x : HostIf) : List Byte := (List.range 24).flatMap fun k => leBytes 4 (x.authBuf.get 0 k).toNat

/-- The role of slot k permits an action (R570, R577). -/
def rolePermits (k action : Nat) : Bool :=
  if 2 ≤ k ∧ k ≤ 5 then [0x1, 0x2, 0x3, 0x4, 0x10, 0x11, 0x21, 0x22].contains action
  else (k == 6 || k == 7) && (action == 0x10 || action == 0x11)

/-- The token passes (R578). -/
def State.tokenPasses (s : State) (i : Iface) : Bool :=
  let x := s.iface i
  let t := x.authBytes
  let k := numAt t 2 1
  s.slotUsable k && rolePermits k (numAt t 0 2) && numAt t 4 8 == s.uid.toNat &&
    numAt t 12 8 == x.nonceHi.toNat * 2 ^ 32 + x.nonceLo.toNat && signatureVerifies (s.slotKey k) (t.take 32) (t.drop 32)

/-- R578: the check ends. The nonce is renewed in both cases. -/
def runTokenCheckDone (i : Iface) (s : State) : Host.Outcome State Fault Refusal :=
  .next (
    if !(s.iface i).authBusy then s
    else
      let pass := s.tokenPasses i
      let t := (s.iface i).authBytes
      let (lo, s) := s.fresh
      let (hi, s) := s.fresh
      let s := s.modIface i fun x => { x with authBusy := false, nonceLo := lo, nonceHi := hi }
      if pass then
        let (tk, s) := s.fresh
        s.modIface i fun x => { x with armed := some (numAt t 0 2, wordOf (numAt t 20 4), numAt t 2 1), ticket := tk }
      else (s.modIface i fun x => { x with authFail := true }).setNow (.authFail (i == .spi)))

/-- R579: UPD_AUTH_T has passed. -/
def runAuthExpire (i : Iface) (s : State) : Host.Outcome State Fault Refusal := .next (s.modIface i fun x => { x with armed := none })

end Sys2Proof.Machine
end

