-- ==== Sys2Proof/Machine/Watchdog.lean ====
section
/-! DEFINITION. The watchdogs: ticks, windows, check-ins, services, periods, pauses and reset pulses (R504 to R515). -/

namespace Sys2Proof.Machine

/-- P of the running period, in ticks (R506, R513). -/
def State.wdgP (s : State) (w : Nat) : Nat := if (s.wdg w).first then s.im Img.wdgFirst w else (s.wdg w).per
/-- The close point C: 0 in a first period (R506). -/
def State.wdgC (s : State) (w : Nat) : Nat := if (s.wdg w).first then 0 else (s.wdg w).per * s.closedFraction w / 64
/-- The window is open (R506). -/
def State.wdgOpen (s : State) (w : Nat) : Bool := s.wdgC w ≤ (s.wdg w).n && (s.wdg w).n < s.wdgP w

/-- R515: the conditions of a pause, on the group's state as the tick published it (R52). -/
def State.wdgMustPause (s : State) (w : Nat) : Bool :=
  (s.imb Img.wdgGrpV w && s.seenSt (liGroup (s.im Img.wdgGrp w)) != .on) || (s.glb.mode == .parked && !s.imb Img.wdgParkRun w)

/-- WDG_PAUSED: an ACTIVE watchdog is paused while a condition of R515 holds. -/
def State.wdgPaused (s : State) (w : Nat) : Bool := (s.wdg w).active && s.wdgMustPause w

/-- A service fault: FS456 + w with its cause, counted in WDG_SVC_FLT (R509, R510). -/
def State.svcFault (s : State) (w cause : Nat) : State :=
  (s.modWdg w fun x => { x with svcFlt := satAdd 0xFF x.svcFlt 1 }).pulseSrc (456 + w) cause

/-- A period write that is not accepted (R511). -/
def State.periodReject (s : State) (w : Nat) : State :=
  (s.modWdg w fun x => { x with prej := true, prejCnt := satAdd 0xFF x.prejCnt 1 }).setNow (.period (Fin.ofNat 8 w))

/-- Writes that find no running period are ignored; a period write counts as not accepted (R511, R512, R515). -/
def State.dropWrites (s : State) (w : Nat) : State :=
  let l := (s.wdg w).writes
  let s := s.modWdg w fun x => { x with writes := [] }
  l.foldl (fun s x => match x with
    | .period _ => s.periodReject w
    | _ => s) s

/-- A check-in is applied (R510). -/
def State.applyCheckin (s : State) (w : Nat) (b : BitVec 16) : State :=
  let b := b &&& BitVec.ofNat 16 (s.im Img.wdgTaskEn w)
  let dup := (b &&& (s.wdg w).checkin) != 0
  let s := s.modWdg w fun x => { x with checkin := x.checkin ||| b }
  if dup then s.svcFault w 1 else s

/-- An accepted service begins a new period; a pending period applies (R509, R511). -/
def State.acceptService (s : State) (w : Nat) : State :=
  let new := (s.wdg w).pnew
  let s := s.modWdg w fun x => { x with n := 0, first := false, checkin := 0, per := new.getD x.per, pnew := none }
  if new.isSome then s.raiseEvt (240 + w) (reqrSource (448 + w)) else s

/-- The decision table of R509. -/
def State.judgeKey (s : State) (w : Nat) (v : Word) : State :=
  let en := BitVec.ofNat 16 (s.im Img.wdgTaskEn w)
  if v != 0x6E1DA7C3#32 then s.svcFault w 2
  else if (s.wdg w).n < s.wdgC w then s.svcFault w 0
  else if (s.wdg w).checkin &&& en != en then s.svcFault w 2
  else s.acceptService w

/-- The decision of R511. -/
def State.judgePeriod (s : State) (w : Nat) (p : BitVec 16) : State :=
  if s.wdgOpen w && s.im Img.wdgPmin w ≤ p.toNat && p.toNat ≤ s.im Img.wdgPmax w then s.modWdg w fun x => { x with pnew := some p.toNat }
  else s.periodReject w

/-- The writes of a tick: check-ins, services, period writes, each in order of arrival (R508). -/
def State.judgeWrites (s : State) (w : Nat) : State :=
  let l := (s.wdg w).writes
  let s := s.modWdg w fun x => { x with writes := [] }
  let s := l.foldl (fun s x => match x with | .checkin b => s.applyCheckin w b | _ => s) s
  let s := l.foldl (fun s x => match x with | .key v => s.judgeKey w v | _ => s) s
  l.foldl (fun s x => match x with | .period p => s.judgePeriod w p | _ => s) s

/-- R508, R512: watchdog w expires, and the writes of this tick are not accepted. FS448 + w is asserted for the length of the
pulse. -/
def State.wdgExpire (s : State) (w : Nat) : State :=
  let s := (s.dropWrites w).modWdg w fun x => { x with pulse := true, checkin := 0, expCnt := satAdd 0xFFFF x.expCnt 1, n := s.wdgP w }
  (s.assertSrc (448 + w) 0).offer 1 [stateReq (liWdg w) .failed 1 (reqrSource (448 + w))]

/-- R508: one watchdog tick. -/
def runWatchdogTick (w : Fin 8) (s : State) : Host.Outcome State Fault Refusal :=
  .next (
    if !s.live || !s.imb Img.wdgUsed w then s
    else
      let s := if s.lane.wdoscOk then s else { s with tbRc := true }
      let x := s.wdg w
      if !x.active || x.pulse then s.dropWrites w
      else if s.wdgMustPause w then
        (s.modWdg w fun x => { x with paused := true, n := 0, checkin := 0 }).dropWrites w
      else if x.paused then
        (s.modWdg w fun x => { x with paused := false, n := 0, first := true, checkin := 0 }).judgeWrites w
      else
        let s := s.modWdg w fun x => { x with n := x.n + 1 }
        if s.wdgP w ≤ (s.wdg w).n then s.wdgExpire w else s.judgeWrites w)

/-- A host write waits for its tick (R507). -/
def State.wdgWrite (s : State) (w : Nat) (v : WdgWrite) : State :=
  if s.imb Img.wdgUsed w then s.modWdg w fun x => { x with writes := x.writes ++ [v] } else s

/-- R507: WDG_KEY is written. -/
def runWdgKey (_i : Iface) (w : Fin 8) (key : Word) (s : State) : Host.Outcome State Fault Refusal :=
  .next (if s.live then s.wdgWrite w (.key key) else s)

/-- R510: WDG_CHECKIN is written. -/
def runWdgCheckin (_i : Iface) (w : Fin 8) (bits : BitVec 16) (s : State) : Host.Outcome State Fault Refusal :=
  .next (if s.live then s.wdgWrite w (.checkin bits) else s)

/-- R511: WDG_PERIOD_NEW is written. -/
def runWdgPeriodNew (_i : Iface) (w : Fin 8) (p : BitVec 16) (s : State) : Host.Outcome State Fault Refusal :=
  .next (if s.live then s.wdgWrite w (.period p) else s)

/-- R513: the reset pulse ends, a first period begins and the watchdog commits ACTIVE. -/
def runResetPulseEnd (w : Fin 8) (s : State) : Host.Outcome State Fault Refusal :=
  .next (if !(s.wdg w).pulse then s
    else
      let s := (s.modWdg w fun x => { x with pulse := false, n := 0, first := true, checkin := 0 }).releaseSrc (448 + w)
      s.offer 1 [stateReq (liWdg w) .active 1 (reqrSource (448 + w))])

/-- WDG_AUTO: the watchdogs that start by themselves, in the epoch after the first committed epoch (R514). -/
def State.wdgAuto (s : State) : State :=
  (List.range 8).foldl (fun s w =>
    if s.imb Img.wdgUsed w && s.imb Img.wdgAuto w && s.st (liWdg w) == .off then
      s.offer 1 [stateReq (liWdg w) .active 1 (reqrSource (448 + w))]
    else s) s

/-- RSTO pins low: those of the sequencer and those that a watchdog pulses (R226, R512). -/
def State.rstoLow (s : State) : Nat :=
  (List.range 8).foldl (fun m w => if (s.wdg w).pulse then m ||| s.im Img.wdgRstoMask w else m) s.seq.rsto.toNat

end Sys2Proof.Machine
end

