-- ==== Sys2Proof/Machine/Image.lean ====
section
/-! DEFINITION. The configuration image: layout of a copy, its sections, and the checks of R607 with the refusals that the
unit repeats (R595 to R607, R653). -/

namespace Sys2Proof.Machine

/-- Words of a register range, first to last address. -/
def wordRange (a b : Nat) : List Nat := (List.range ((b - a) / 4 + 1)).map (a + 4 * ·)

/-- The register addresses of a section's body, in body order (R606). -/
def sectionWords : Nat → List Nat
  | 0x01 => [0x000010, 0x000034, 0x000038, 0x010020, 0x100000, 0x070020, 0x070030, 0x07004C, 0x070054, 0x0D0084, 0x12001C, 0x0F0000]
  | 0x02 => wordRange 0x020000 0x0209FC ++ wordRange 0x021000 0x0212FC ++ wordRange 0x022000 0x0223FC ++ [0x023004]
  | 0x03 => wordRange 0x030000 0x031FFC
  | 0x04 => wordRange 0x040000 0x0401FC ++ wordRange 0x040400 0x04049C ++ wordRange 0x040500 0x04050C ++ [0x04051C] ++
      wordRange 0x041000 0x0417FC ++ wordRange 0x042000 0x043FFC
  | 0x05 => wordRange 0x050000 0x050FFC ++ [0x052000] ++ wordRange 0x052040 0x05207C ++ wordRange 0x060000 0x0603FC
  | 0x06 => [0x090000] ++ wordRange 0x090100 0x09017C ++ wordRange 0x090300 0x09033C ++ wordRange 0x091000 0x092FFC ++
      wordRange 0x094000 0x094FFC
  | 0x07 => wordRange 0x0A0000 0x0A0028 ++ wordRange 0x0A0300 0x0A033C ++ wordRange 0x0A0400 0x0A09FC ++ wordRange 0x0A1000 0x0A13FC
  | 0x08 => wordRange 0x0B0000 0x0B0030 ++ wordRange 0x0B0040 0x0B005C ++ [0x0B0070]
  | 0x09 => wordRange 0x0C0000 0x0C0020 ++ wordRange 0x0C0200 0x0C03FC
  | 0x0A => wordRange 0x0E0000 0x0E01FC
  | 0x0B => wordRange 0x080000 0x080010 ++ wordRange 0x080100 0x08017C ++ wordRange 0x080410 0x0807FC ++ wordRange 0x082000 0x083FFC
  | 0x0C => wordRange 0x100200 0x100BFC
  | _ => []

/-- A section ID of R606. -/
def sectionKnown (k : Nat) : Bool := (1 ≤ k && k ≤ 0x0C) || k == 0x40

/-- The section whose ranges hold a register address (R606). -/
def sectionOf (a : Nat) : Nat :=
  match a / 65536 with
  | 0x02 => 0x02 | 0x03 => 0x03 | 0x04 => 0x04 | 0x05 => 0x05 | 0x06 => 0x05 | 0x09 => 0x06 | 0x0A => 0x07 | 0x0B => 0x08
  | 0x0C => 0x09 | 0x0E => 0x0A | 0x08 => 0x0B | _ => if (sectionWords 1).contains a then 1 else 0x0C

/-- One entry of the section table (R600). -/
structure Sect where
  id : Nat
  ofs : Nat
  len : Nat
  deriving DecidableEq, Repr

/-- Bytes o to o + n − 1 are 0. -/
def zeroAt (l : List Byte) (o n : Nat) : Bool := (bytesAt l o n).all (· == 0)

/-- CRC-32C of n bytes at offset o equals the little-endian word at offset p (R599, R600). -/
def crcAt (l : List Byte) (o n p : Nat) : Bool := o + n ≤ l.length && (crc32c (bytesAt l o n)).toNat == numAt l p 4

/-- Image length L (R599). -/
def imgLen (l : List Byte) : Nat := numAt l 8 4
/-- Section count n (R599). -/
def imgCount (l : List Byte) : Nat := numAt l 14 2
/-- Section table of a copy (R600). -/
def imgSects (l : List Byte) : List Sect :=
  (List.range (imgCount l)).map fun k => { id := numAt l (64 + 16 * k) 1, ofs := numAt l (68 + 16 * k) 4, len := numAt l (72 + 16 * k) 4 }

/-- First row of R607: the header (R599). -/
def headerOk (l : List Byte) : Bool :=
  64 ≤ l.length && numAt l 0 4 == 0x47434B51 && numAt l 4 2 == 1 && numAt l 6 2 == 64 && 268 ≤ imgLen l &&
    imgLen l ≤ 983040 && imgLen l % 4 == 0 && numAt l 12 2 ≤ 256 && 1 ≤ imgCount l && imgCount l ≤ 32 &&
    zeroAt l 28 4 && zeroAt l 36 24 && crcAt l 0 60 60

/-- Sections in ascending order, each where the one before it ends; the answer is where the last one ends (R600, R601). -/
def sectsEnd (l : List Byte) : Nat → Nat → Nat → List Sect → Option Nat
  | _, _, ofs, [] => some ofs
  | k, last, ofs, x :: t =>
    let e := 64 + 16 * k
    let len := if x.id = 0x40 then x.len % 4 == 0 else x.len == 4 * (sectionWords x.id).length
    if sectionKnown x.id && last < x.id && numAt l (e + 1) 1 == 0 && numAt l (e + 2) 2 == 1 && x.ofs == ofs && len then
      sectsEnd l (k + 1) x.id (ofs + x.len) t
    else none

/-- Second row of R607: the section table. -/
def tableOk (l : List Byte) : Bool :=
  imgLen l ≤ l.length && crcAt l 64 (16 * imgCount l) 32 &&
    (match sectsEnd l 0 0 (64 + 16 * imgCount l) (imgSects l) with
      | some e => e + 144 == imgLen l
      | none => false)

/-- Third row of R607: the bodies. -/
def bodiesOk (l : List Byte) : Bool :=
  ((imgSects l).zipIdx).all fun x => crcAt l x.1.ofs x.1.len (76 + 16 * x.2)

/-- Offset of the signature block (R601). -/
def sigOfs (l : List Byte) : Nat := imgLen l - 144

/-- The signature block is laid out as R602 says. -/
def sigFormOk (l : List Byte) : Bool :=
  let o := sigOfs l
  numAt l o 4 == 0x47534B51 && 2 ≤ numAt l (o + 4) 1 && numAt l (o + 4) 1 ≤ 5 && zeroAt l (o + 5) 3 && numAt l (o + 8) 1 == 4 && zeroAt l (o + 73) 7

/-- Fifth row of R607: the slot is usable and the key matches it (R570, R602). -/
def State.imageKeyOk (s : State) (l : List Byte) : Bool :=
  let o := sigOfs l
  let k := numAt l (o + 4) 1
  sigFormOk l && s.slotUsable k && decide (keyDigest (bytesAt l (o + 8) 65) = s.slotKey k)

/-- Sixth row of R607: the signature, from OWNED on. -/
def State.imageSigOk (s : State) (l : List Byte) : Bool :=
  s.lifecycle ≤ 1 ||
    signatureVerifies (s.slotKey (numAt l (sigOfs l + 4) 1)) (l.take (imgLen l - 64)) (bytesAt l (imgLen l - 64) 64)

/-- The configuration that an image carries: register words by address (R603). -/
def imgWords (l : List Byte) : Tbl Word :=
  (imgSects l).foldl (fun t x =>
    (((sectionWords x.id).zip (wordsOf (bytesAt l x.ofs x.len)))).foldl (fun t p => t.set 0 p.1 p.2) t) []

/-- Bits of a register word that read img (R603). -/
def imgMask (a : Nat) : Nat :=
  imgRows.foldl (fun m r =>
    if r.idx.any (fun i => r.fld.addr i == a) then m ||| placeAt (2 ^ (r.fld.hi + 1 - r.fld.lo) - 1) r.fld.hi r.fld.lo else m) 0

/-- Every bit that R603 requires to be 0 is 0. -/
def maskOk (img : Tbl Word) : Bool := img.all fun x => x.2.toNat &&& (imgMask x.1 ^^^ 0xFFFFFFFF) == 0

/-- A unit that runs a configuration and nothing else, on which its rules are judged. -/
def ofImg (img : Tbl Word) : State := { img := img }

/-- The binding condition of instance i of a field (R653). -/
def State.binds (t : State) (b : Bind) (i : Nat) : Bool :=
  match b with
  | .always => true
  | .used f d => t.imb f (i / d)
  | .railPh => i < 24 && t.imb Img.railUsed i
  | .railSsc => t.imb Img.railUsed i && t.im Img.railSscMode i != 0
  | .anyRailPh => (List.range 24).any fun r => t.imb Img.railUsed r
  | .loopLl => t.imb Img.railUsed i && t.im Img.loopLlUohm i != 0
  | .anyDt => (List.range 128).any fun d => t.imb Img.thmDtUsed d
  | .chgSol => t.imb Img.chgUsed && t.imb Img.chgSolEn
  | .eye => bitOf (t.im Img.laceEn) i
  | .anyEye => t.im Img.laceEn != 0
  | .anyGroup => (List.range 16).any fun g => t.imb Img.seqUsed g
  | .item => t.imb Img.twb1DUsed (i / 16) && t.im Img.twb1IType i != 0
  | .fin => t.imb Img.fltUsed (480 + i)

/-- Every binding field of a listed section lies in its range (R653). -/
def State.rangesOk (t : State) (listed : List Nat) : Bool :=
  imgRows.all fun r => r.idx.all fun i =>
    let x := t.im r.fld i
    let v : Int := if r.fld.signed then toSigned (r.fld.hi + 1 - r.fld.lo) x else x
    !listed.contains (sectionOf (r.fld.addr i)) || !t.binds r.bind i || decide (r.min ≤ v ∧ v ≤ r.max)

/-- Limits of the table of R127 in the raw units of a rail: current limit in 100 mA, frequency in kHz. -/
def r127 (r : Nat) : (Nat × Nat) × (Nat × Nat) :=
  if r < 24 then ((10, 65535), (200, 2500)) else if r < 32 then ((5, 40), (400, 4000)) else ((1, 4), (0, 65535))

/-- The refusals about one enabled rail (R127, R149, R157, R166, R182, R184, R192 to R198, R235, R304). -/
def State.railOk (t : State) (r : Nat) : Bool :=
  let (lo, hi) := railRange (railTy r)
  let ((il, ih), (fl, fh)) := r127 r
  let v : Fld → Int := fun f => (t.im f r : Nat)
  let f := t.im Img.railFswKhz r
  let sp := t.im Img.railSscSpread r
  let m := t.im Img.loopDiv r
  (t.im Img.railKind r == (if r < 24 then 0 else if r < 32 then 1 else 2)) &&
  decide (lo ≤ v Img.railEnvVlo ∧ v Img.railEnvVlo ≤ hi ∧ lo ≤ v Img.railEnvVhi ∧ v Img.railEnvVhi ≤ hi) &&
  decide (il ≤ t.im Img.railPhIlim r ∧ t.im Img.railPhIlim r ≤ ih) && decide (fl ≤ f ∧ f ≤ fh) &&
  (24 ≤ r || decide (12 * t.im Img.railShedDn r ≤ 10 * t.im Img.railShedUp r)) &&
  decide (t.im Img.railRegLo r < t.im Img.railUvPct r ∧ t.im Img.railRegHi r < t.im Img.railOvPct r) &&
  (32 ≤ r || t.im Img.railSscMode r == 0 || decide (fl * 1000 ≤ f * (1000 - 5 * sp) ∧ f * (1000 + 5 * sp) ≤ fh * 1000)) &&
  (32 ≤ r || decide (2 ^ t.im Img.loopDec r * 40 ≤ m * 250)) &&
  (32 ≤ r || decide (t.ims Img.loopImin r < t.ims Img.loopImax r ∧ t.ims Img.loopWmin r < t.ims Img.loopWmax r)) &&
  (r < 24 || 32 ≤ r || decide (t.im Img.loopIfs r ≤ 40)) &&
  decide (t.im Img.railEnvVhi r ≤ 500 * t.im Img.railRampT r) &&
  decide (10 * t.im Img.railRampT r + t.im Img.seqPgDg r + (if r < 24 then 50 else 0) < 10 * t.im Img.seqPgTo r) &&
  (!t.imb Img.railProt r || decide (t.im Img.refWin + 2 ≤ t.im Img.railRegLo r ∧ t.im Img.refWin + 2 ≤ t.im Img.railRegHi r))

/-- The steps of a program from word base on, with where each header stands; none without an END (R221). -/
def progSteps (prog : Nat → Nat) : Nat → Nat → Option (List (Nat × StepHdr))
  | 0, _ => none
  | n + 1, base =>
    if 2048 ≤ base then none
    else
      let h := StepHdr.ofWord (prog base)
      match h.op with
      | .unused => none
      | .fin => some [(base, h)]
      | .bundle => (progSteps prog n (base + 1 + h.nops)).map ((base, h) :: ·)
      | _ => (progSteps prog n (base + 1)).map ((base, h) :: ·)

/-- A header holds what its kind may hold (R221). -/
def hdrOk (w : Nat) (h : StepHdr) : Bool :=
  match h.op with
  | .fin => h.nops == 0 && h.arg == 0
  | .bundle => 1 ≤ h.nops && h.nops ≤ 32 && h.arg == 0 && bitsOf w 31 28 == 1
  | .delay => h.nops == 0 && bitsOf h.arg 11 0 != 0
  | .waitGroup => h.nops == 0 && 1 ≤ bitsOf h.arg 7 4 && bitsOf h.arg 7 4 ≤ 14
  | .waitInput => h.nops == 0 && bitsOf h.arg 7 6 == 0
  | .reset => h.nops == 0 && bitsOf h.arg 12 5 == 0
  | .unused => false

/-- Endpoint types that a program may name (R216). -/
def progType (t : Nat) : Bool := isOutputType t

/-- An operation word fits its endpoint (R87, R127, R216, R222). -/
def State.opWordOk (t : State) (w : Nat) : Bool :=
  let li := bitsOf w 10 0
  let ty := t.typeOf li
  let arg := bitsOf w 31 16
  let act := bitsOf w 15 12
  let inRange : Bool := match kindOf li with
    | .rail r => decide ((railRange (railTy r)).1 ≤ (arg : Int) ∧ (arg : Int) ≤ (railRange (railTy r)).2)
    | _ => true
  t.enabled li && progType ty && !bitOf w 11 &&
    match act with
    | 0 => arg == 0 || ((isRailType ty || ty == 0x14) && inRange)
    | 1 => true
    | 2 => (isRailType ty || ty == 0x14) && inRange
    | 3 => isRailType ty || ty == 5
    | 4 => ty == 1
    | _ => false

/-- Members that operation words expand to (R222). -/
def memberCount (l : List Nat) : Nat := l.foldl (fun n w => n + (if bitsOf w 15 12 = 0 ∧ bitsOf w 31 16 ≠ 0 then 2 else 1)) 0

/-- A program of group g (R216, R221, R222, R228). -/
def State.programOk (t : State) (g : Nat) (down : Bool) : Bool :=
  match progSteps t.prog 256 (t.progBase g down) with
  | none => false
  | some l => l.all fun x =>
      let ops := t.opWords x.1 x.2
      hdrOk (t.prog x.1) x.2 && decide (x.1 + x.2.nops < 2048) && ops.all t.opWordOk && decide (memberCount ops ≤ 32) &&
        (down || x.2.linkV || (x.2.op != .bundle && x.2.op != .reset))

/-- The programs, and that no two groups name one endpoint (R216). -/
def State.programsOk (t : State) : Bool :=
  let used := (List.range 16).filter fun g => t.imb Img.seqUsed g
  used.all (fun g => t.programOk g false && t.programOk g true) &&
    used.all fun g => used.all fun h => g == h || (t.groupEps g).all fun li => !(t.groupEps h).contains li

/-- The interlock graph: program endpoints, and no cycle (R230). -/
def State.graphOk (t : State) : Bool :=
  t.edges.all (fun e => progType (t.typeOf e.1) && progType (t.typeOf e.2) && e.1 != e.2) &&
    t.edges.all fun e => !(reachFrom t.edges 512 [e.2]).contains e.1

/-- The refusals about the Lace link (R11, R375, R376, R379). -/
def State.laceOk (t : State) : Bool :=
  let on := t.im Img.laceEn != 0
  let lag := t.im Img.laceLagMax
  (t.im Img.glbRole == 0 || on) &&
    (!on || decide (lag * t.im Img.epochUs ≤ 20000 ∧ t.im Img.laceLagWarn < lag ∧ 2 * 2 ^ t.im Img.laceDdiv + 1 ≤ lag)) &&
    (List.range 2048).all fun f => !t.imb Img.laceFoldV f ||
      (match kindOf f, kindOf (liOf (t.im Img.laceFoldEp f)) with
        | .rail _, .rail _ | .phase _, .phase _ | .switch _, .switch _ | .chan _, .chan _ | .source _, .source _ => true
        | .event _, .event _ | .watchdog _, .watchdog _ | .zone _, .zone _ | .group _, .group _ => true
        | .charger, .charger | .gauge, .gauge | .rtc, .rtc | .motion, .motion => true
        | _, _ => false)

/-- A source of R407 that exists. -/
def srcKnown (x : Nat) : Bool :=
  x ≤ 0x77 || x == 0x7A || x == 0x7B || x == 0x7C || (0x80 ≤ x && x ≤ 0xB7) || srcDerived x

/-- The refusals about the measurement bank (R407, R408, R411). -/
def State.adcOk (t : State) : Bool :=
  let used := (List.range 8).filter fun q => t.imb Img.adcSeqUsed q
  let lst : Nat → List Nat := fun q => t.seqList 256 (t.im Img.adcSeqFirst q)
  (List.range 256).all (fun c => !t.imb Img.adcChUsed c || srcKnown (t.chSrc c)) &&
    used.all (fun q => (match (lst q).getLast? with
      | some i => (t.seqEntry i).fin
      | none => false) &&
      (lst q).all fun i => t.imb Img.adcChUsed (t.seqEntry i).ch && decide ((t.seqEntry i).rep ≤ 4) && (!srcDerived (t.chSrc (t.seqEntry i).ch) || (t.seqEntry i).rep == 0)) &&
    used.all (fun q => used.all fun p => p == q || (lst q).all fun i => !(lst p).contains i) &&
    (used.filter fun q => t.imb Img.adcSeqThm q).length ≤ 1

/-- The refusals about the thermal block (R428, R436). -/
def State.thermOk (t : State) (listed : List Nat) : Bool :=
  (List.range 48).all (fun z => !t.imb Img.thmZUsed z ||
    decide (t.ims Img.thmZTrel z ≤ t.ims Img.thmZTder z - (t.im Img.thmZHys z : Nat) ∧ t.ims Img.thmZTder z < t.ims Img.thmZTlim z)) &&
    (!listed.contains 7 || (List.range 6).all fun k => decide (t.ims Img.thmBandT k + (t.im Img.thmBandHys : Nat) < t.ims Img.thmBandT (k + 1)))

/-- The refusals about the gauge (R466, R467, R476, R483). -/
def State.gaugeOk (t : State) : Bool :=
  !t.imb Img.gauUsed ||
    (t.im Img.adcChType (t.im Img.gauVCh) == 0 && t.imb Img.adcMtrUsed 0 && decide (t.im Img.gauHibI < t.im Img.gauWakeI) &&
      (List.range 8).all fun b => (List.range 20).all fun j => decide (t.ocv b j < t.ocv b (j + 1)))

/-- A 7-bit address that SMBus reserves (R540). The list is PRESUMED, assumption 17. -/
def smbusReserved (a : Nat) : Bool := a ≤ 0x08 || a == 0x0C || a == 0x28 || a == 0x37 || a == 0x61 || 0x78 ≤ a

/-- The refusals about TWB0's address (R540). -/
def State.addrOk (t : State) : Bool := (List.range 9).all fun k => !smbusReserved (t.im Img.twbAddrBase + k)

/-- The consistency row of R607, for a configuration and the sections that its image lists (R605, R653). -/
def imageConsistent (img : Tbl Word) (listed : List Nat) : Bool :=
  let t := ofImg img
  listed.contains 1 && maskOk img && t.rangesOk listed &&
    (List.range 40).all (fun r => !t.imb Img.railUsed r || t.railOk r) &&
    t.programsOk && t.graphOk && t.laceOk && t.adcOk && t.thermOk listed && t.gaugeOk && t.addrOk

/-- The decision table of R607: nothing for a verified copy, else the source that VERIFY asserts. -/
def State.judgeImage (s : State) (l : List Byte) : Option Nat :=
  if !headerOk l || !tableOk l || !bodiesOk l then some 467
  else if !(numAt l 16 8 == 0 || numAt l 16 8 == s.uid.toNat) || !s.imageKeyOk l || !s.imageSigOk l then some 468
  else if numAt l 12 2 < s.rollback 1 then some 469
  else if !imageConsistent (imgWords l) ((imgSects l).map (·.id)) then some 467
  else none

/-- The body of a section in a configuration, word by word (R605). -/
def sectionBody (img : Tbl Word) (k : Nat) : List Word := (sectionWords k).map fun a => img.get 0 a

/-- Sections whose bodies differ between two configurations: GLB_COLD_SECT bits 12 to 1 (R609). -/
def sectDiff (old new : Tbl Word) : BitVec 13 :=
  (List.range 13).foldl (fun m k => if 1 ≤ k ∧ sectionBody old k ≠ sectionBody new k then m ||| BitVec.ofNat 13 (2 ^ k) else m) 0

/-- The structural fields of a warm section are equal in two configurations; other sections are never adopted (R606). -/
def structSame (old new : Tbl Word) (k : Nat) : Bool :=
  let same : Fld → Nat → Bool := fun f n => (List.range n).all fun i => f.read old i == f.read new i
  match k with
  | 3 => true
  | 5 => same Img.fltUsed 512 && same Img.evtUsed 256
  | 6 => same Img.adcChUsed 256 && same Img.adcChType 256 && same Img.adcSeqThm 8 && same Img.adcMtrUsed 2
  | 7 => same Img.thmZUsed 48 && same Img.thmNtc15Pack 1
  | 8 => same Img.chgUsed 1 && same Img.chgCells 1 && same Img.chgShuntM 1 && same Img.chgEnvIhi 1 && same Img.chgEnvIlo 1
  | 9 => same Img.gauUsed 1 && same Img.gauVCh 1
  | _ => false

end Sys2Proof.Machine
end

