-- ==== Sys2Proof/Machine/Update.lean ====
section
/-! DEFINITION. Updates: staging sessions, blocks, the checks of VERIFY, the copy, activation, the owner lock, and the same
commands over Lace (R581 to R591). -/

namespace Sys2Proof.Machine

/-- The source of a host interface's commands (R583). -/
def Iface.src : Iface → Src
  | .twb0 => .twb0
  | .spi => .spi

/-- Number of a session state (UPD_STATE). -/
def UpdState.num : UpdState → Nat
  | .idle => 0 | .loading => 1 | .verifying => 2 | .copying => 3 | .ready => 4 | .pending => 5

/-- A refused or ignored command (UPD_REJ). -/
def State.updReject (s : State) : State := (s.modUpd fun u => { u with rej := true }).setNow .updRej

/-- Another source owns the session (R583). -/
def State.notOwner (s : State) (src : Src) : Bool := s.upd.st != .idle && s.upd.owner != src

/-- OPEN (R583). -/
def State.updOpen (s : State) (src : Src) : State :=
  if s.notOwner src || s.lifecycle == 4 || s.upd.lock || s.upd.st == .copying || s.upd.st == .ready || s.upd.st == .pending then s.updReject
  else s.modUpd fun u => { u with st := .loading, owner := src, banks := u.banks.set {} (b2n (!u.bank)) {}, blocks := [], blkBuf := [], blkIdx := 0, copied := 0 }

/-- VERIFY begins its checks (R586). -/
def State.updVerify (s : State) (src : Src) : State :=
  if s.notOwner src || s.upd.st != .loading then s.updReject else s.modUpd fun u => { u with st := .verifying }

/-- Bytes of the staged package: header and payload (R581). -/
def State.pkgLen (s : State) : Nat := 128 + numAt s.pkgHead 12 4
/-- Blocks of the staged package (R584). -/
def State.pkgBlocks (s : State) : Nat := (s.pkgLen + 4095) / 4096
/-- The staged package. -/
def State.pkgBytes (s : State) : List Byte := (List.range s.pkgBlocks).flatMap fun b => s.upd.blocks.get [] b
/-- Its payload (R581). -/
def State.pkgPayload (s : State) : List Byte := (s.pkgBytes.drop 128).take (s.pkgLen - 128)
/-- The patch entries of a PATCH payload (R576). -/
def patchEntries (l : List Byte) : List (BitVec 64) := (List.range (l.length / 8)).map fun k => BitVec.ofNat 64 (numAt l (8 * k) 8)

/-- First row of R586: every block is stored, magic and lengths are right. -/
def State.pkgWhole (s : State) : Bool :=
  let n := numAt s.pkgHead 12 4
  let limit := match s.pkgClass with
    | 1 => 1572736 | 2 => 983040 | 3 => 2048 | _ => 1572736
  numAt s.pkgHead 0 4 == 0x50554B51 && decide (n ≤ limit) && (s.pkgClass != 3 || n % 8 == 0) &&
    numAt s.pkgHead 20 4 == s.pkgBlocks &&
    (List.range s.pkgBlocks).all fun b => (s.upd.blocks.get [] b).length == min 4096 (s.pkgLen - 4096 * b)

/-- A key slot's role permits an image class (R570). -/
def imageRole (k cls : Nat) : Bool := if cls = 2 then 2 ≤ k && k ≤ 5 else (cls == 1 || cls == 3) && k ≤ 1

/-- The rows of R586 behind the first, down to the signature, with R607 for a configuration: the source that reports the
failure, or nothing. -/
def State.pkgFault (s : State) : Option Nat :=
  let h := s.pkgHead
  let k := numAt h 5 1
  let cls := s.pkgClass
  let pay := s.pkgPayload
  if !s.slotUsable k || !imageRole k cls then some 468
  else if !(numAt h 24 8 == 0 || numAt h 24 8 == s.uid.toNat) then some 468
  else if s.pkgSvn < s.rollback (cls - 1) then some 469
  else if cls = 3 ∧ ((List.range 256).filter fun i => (s.otpWord (0x100 + i)).state == 0).length < pay.length / 8 then some 469
  else if (crc32c pay).toNat != numAt h 16 4 then some 467
  else if !(cls == 2 && s.lifecycle == 1) && !signatureVerifies (s.slotKey k) (h.take 64 ++ pay) (bytesAt h 64 64) then some 468
  else if cls = 2 then s.judgeImage pay
  else none

/-- The staged package is ready to activate: FS476 and EV248 (R587). -/
def State.updReady (s : State) : State :=
  ((s.modUpd fun u => { u with st := .ready }).pulseSrc 476 0).raiseEvt 248 (reqrSource 476)

/-- R586: the checks complete. PATCH needs no copy (R587). -/
def runVerifyDone (s : State) : Host.Outcome State Fault Refusal :=
  .next (
    if s.upd.st != .verifying then s
    else if !s.pkgWhole then (s.modUpd fun u => { u with st := .loading, rej := true }).setNow .updRej
    else match s.pkgFault with
      | some n => (s.modUpd fun u => { u with st := .idle }).pulseSrc n 0
      | none => if s.pkgClass = 3 then s.updReady else s.modUpd fun u => { u with st := .copying })

/-- A copy of the configuration image is written and read back: FS473 or FS474 ends, or asserts and the session is IDLE
(R587). -/
def State.copyFailed (s : State) (n : Nat) : State := (s.modUpd fun u => { u with st := .idle }).assertSrc n 0

/-- R587, R609: the staging copy completes. Copy B is written before copy A. -/
def runCopyDone (fail : CopyFail) (s : State) : Host.Outcome State Fault Refusal :=
  .next (
    if s.upd.st != .copying then s
    else if s.pkgClass = 2 then
      match fail with
      | .copyB => s.copyFailed 474
      | .copyA => ((s.modUpd fun u => { u with copied := 2 }).releaseSrc 474).copyFailed 473
      | .none =>
        let img := imgWords s.pkgPayload
        let s := (s.modUpd fun u => { u with copied := 3 }).releaseSrc 474 |>.releaseSrc 473
        let s := { s with newImg := img }
        (s.modGlb fun g => { g with coldSect := sectDiff s.img img }).updReady
    else s.updReady)

/-- The table of R589: the cause that refuses an activation. -/
def State.actCause (s : State) : Option Nat :=
  let gau := s.ent liGauge
  if s.upd.lock then some 1
  else if s.st liMotion == .active || s.st liMotion == .stale then some 2
  else if s.imb Img.gauUsed && (gau.st != .valid || decide (gau.val.toInt < ((s.im Img.updSocMin * 100 : Nat) : Int))) then some 3
  else if s.lifecycle == 4 then some 4
  else none

/-- An activation is refused (R589). -/
def State.actRefuse (s : State) (cause : Nat) : State :=
  (s.modUpd fun u => { u with st := .ready, refCause := cause }).pulseSrc 470 0

/-- ACTIVATE (R589, R590): a warm start is pending, or the patch entries are programmed at once. -/
def State.updActivate (s : State) (src : Src) : State :=
  if s.notOwner src || s.upd.st != .ready then s.updReject
  else match s.actCause with
    | some c => s.actRefuse c
    | none =>
      let s := (s.modUpd fun u => { u with st := .pending }).raiseEvt 249 (reqrSource 476)
      if s.pkgClass = 3 then
        (s.modOtp fun o => { o with activation := some 3, patchLeft := patchEntries s.pkgPayload }).otpAdvance
      else s.modGlb fun g => { g with warmPend := g.warmPend ||| 1 }

/-- ABORT (R583): the session is IDLE, and a warm start that it made pending is withdrawn. -/
def State.updAbort (s : State) (src : Src) : State :=
  if s.notOwner src then s.updReject
  else
    let s := s.modGlb fun g => { g with warmPend := g.warmPend &&& 2 }
    let s := s.modOtp fun o => { o with activation := none, patchLeft := [] }
    s.modUpd fun u => { u with st := .idle }

/-- R583: UPD_CMD 1. -/
def runOpenSession (src : Src) (s : State) : Host.Outcome State Fault Refusal := .next (if s.live then s.updOpen src else s)
/-- R586: UPD_CMD 2. -/
def runVerify (src : Src) (s : State) : Host.Outcome State Fault Refusal := .next (if s.live then s.updVerify src else s)
/-- R589: UPD_CMD 3. -/
def runActivate (src : Src) (s : State) : Host.Outcome State Fault Refusal := .next (if s.live then s.updActivate src else s)
/-- R583: UPD_CMD 4. -/
def runAbort (src : Src) (s : State) : Host.Outcome State Fault Refusal := .next (if s.live then s.updAbort src else s)

/-- LOCK or UNLOCK, with its armed authorisation (R577, R591). -/
def State.updLock (s : State) (i : Iface) (on : Bool) : State :=
  match s.useAuth i (if on then 0x21 else 0x22) 0 with
  | some t => t.modUpd fun u => { u with lock := on }
  | none => s.updReject

/-- R591: UPD_CMD 5. -/
def runLock (i : Iface) (s : State) : Host.Outcome State Fault Refusal := .next (if s.live then s.updLock i true else s)
/-- R591: UPD_CMD 6. -/
def runUnlock (i : Iface) (s : State) : Host.Outcome State Fault Refusal := .next (if s.live then s.updLock i false else s)

/-- A source may load blocks: it owns a session in LOADING (R583, R584). -/
def State.mayLoad (s : State) (src : Src) : Bool := s.live && s.upd.st == .loading && s.upd.owner == src

/-- R584: UPD_BLK_IDX. -/
def runBlockIndex (i : Iface) (k : BitVec 9) (s : State) : Host.Outcome State Fault Refusal :=
  .next (if s.mayLoad (Iface.src i) then s.modUpd fun u => { u with blkIdx := k.toNat, blkBuf := [] } else s)

/-- R584: UPD_BLK_DATA; a block holds at most 4,096 bytes. -/
def runBlockData (i : Iface) (w : Word) (s : State) : Host.Outcome State Fault Refusal :=
  .next (if s.mayLoad (Iface.src i) && s.upd.blkBuf.length < 4096 then s.modUpd fun u => { u with blkBuf := u.blkBuf ++ leBytes 4 w.toNat } else s)

/-- The block loaded is stored when its CRC matches, else it is discarded with FS467 (R584). -/
def State.storeBlock (s : State) (b : List Byte) (crc : Nat) : State :=
  let k := s.upd.blkIdx
  let s := s.modUpd fun u => { u with blkBuf := [] }
  if (crc32c b).toNat = crc then s.modUpd fun u => { u with blocks := u.blocks.set [] k b }
  else s.pulseSrc 467 k

/-- R584: UPD_BLK_CRC. -/
def runBlockCrc (i : Iface) (crc : Word) (s : State) : Host.Outcome State Fault Refusal :=
  .next (if s.mayLoad (Iface.src i) then s.storeBlock s.upd.blkBuf crc.toNat else s)

/-- Root or group head: it holds a domain (R10, R352). -/
def State.isDomainHead (s : State) : Bool := s.glb.role == 1 || s.glb.role == 4

/-- The payload of a BULK frame (R357). -/
def bulkPayload (kind ofs : Nat) (d : List Byte) : List Byte :=
  leBytes 2 kind ++ leBytes 2 0 ++ leBytes 4 ofs ++ leBytes 2 d.length ++ leBytes 2 0 ++ d

/-- Send one BULK frame toward a slot of the domain, or to the parent. -/
def State.sendBulk (s : State) (e : Nat) (dst src : Fin 64) (kind ofs : Nat) (d : List Byte) : State :=
  s.sendFrame e { kind := .bulk, dst := dst, src := src, otag := 0, slot := 0, payload := bulkPayload kind ofs d }

/-- Cut a byte list into pieces of at most 1,024 bytes with their offsets (R354). -/
def chunks : Nat → Nat → List Byte → List (Nat × List Byte)
  | 0, _, _ => []
  | n + 1, ofs, l => if l.isEmpty then [] else (ofs, l.take 1024) :: chunks n (ofs + 1024) (l.drop 1024)

/-- An update command for a slot of the domain (R585). -/
def State.remoteCmd (s : State) (sl code : Nat) : State :=
  s.sendBulk (s.slotRec sl).eye (slotFin sl) 0 3 0 (leBytes 4 code)

/-- R584: a write of a slot to UPD_REM_SLOT; slot 0 is ignored. -/
def State.remStage (s : State) (sl : Nat) : State :=
  if sl = 0 then s
  else
    let s := s.modUpd fun u => { u with remSlot := sl }
    if s.isDomainHead && s.upd.st == .ready then
      let s := s.remoteCmd sl 1
      let s := (List.range s.pkgBlocks).foldl (fun s b =>
        let d := s.upd.blocks.get [] b
        (chunks 5 (4100 * b) (d ++ leBytes 4 (crc32c d).toNat)).foldl (fun s c => s.sendBulk (s.slotRec sl).eye (slotFin sl) 0 2 c.1 c.2) s) s
      s.remoteCmd sl 2
    else s

/-- R584: UPD_REM_SLOT is written. -/
def runRemoteStage (_i : Iface) (sl : Fin 64) (s : State) : Host.Outcome State Fault Refusal := .next (if s.live then s.remStage sl else s)

/-- A command for the slot last written to UPD_REM_SLOT (R585). -/
def State.remCmd (s : State) (code : Nat) : State := if s.isDomainHead && s.upd.remSlot != 0 then s.remoteCmd s.upd.remSlot code else s

/-- R585: UPD_REM_CMD 3. -/
def runRemoteActivate (_i : Iface) (s : State) : Host.Outcome State Fault Refusal := .next (if s.live then s.remCmd 3 else s)
/-- R585: UPD_REM_CMD 4. -/
def runRemoteAbort (_i : Iface) (s : State) : Host.Outcome State Fault Refusal := .next (if s.live then s.remCmd 4 else s)

/-- A command of the parent, and the answer to it (R585). The command was refused when it set UPD_REJ or a refusal cause. -/
def State.parentUpdate (s : State) (e code : Nat) : State :=
  let before := s.upd.rej
  let s := s.modUpd fun u => { u with rej := false }
  let s := match code with
    | 1 => s.updOpen .parent
    | 2 => s.updVerify .parent
    | 3 => s.updActivate .parent
    | 4 => s.updAbort .parent
    | _ => s.updReject
  let refused := s.upd.rej || (code == 3 && s.upd.st != .pending && s.upd.st != .idle)
  let s := s.modUpd fun u => { u with rej := u.rej || before }
  s.sendBulk e 0 s.mySlotUp 4 0 (leBytes 1 code ++ leBytes 1 (s.upd.st.num + 128 * b2n refused) ++ leBytes 1 s.upd.refCause ++ leBytes 1 0)

/-- Bytes of the block being loaded, from the header in block 0 (R584). -/
def State.blockLen (s : State) : Nat :=
  let h := if s.upd.blkIdx = 0 then s.upd.blkBuf else s.pkgHead
  let total := 128 + numAt h 12 4
  if s.upd.blkIdx = 0 ∧ h.length < 128 then 4096 else min 4096 (total - 4096 * s.upd.blkIdx)

/-- Block data from the parent (R584): each block of 4,096 bytes is followed by its CRC. -/
def State.parentBlock (s : State) (ofs : Nat) (d : List Byte) : State :=
  if !s.mayLoad .parent then s
  else
    let b := ofs / 4100
    let s := if ofs % 4100 = 0 then s.modUpd fun u => { u with blkIdx := b, blkBuf := [] } else s
    if s.upd.blkIdx = b ∧ s.upd.blkBuf.length = ofs % 4100 then
      let s := s.modUpd fun u => { u with blkBuf := u.blkBuf ++ d }
      let n := s.blockLen
      if n + 4 ≤ s.upd.blkBuf.length then s.storeBlock (s.upd.blkBuf.take n) (numAt s.upd.blkBuf n 4) else s
    else s

/-- An answer of a member: the domain head keeps the latest (R585, R594). -/
def State.updAnswer (s : State) (slot : Nat) (d : List Byte) : State :=
  s.modUpd fun u => { u with remStat := (slot, numAt d 0 1, bitOf (numAt d 1 1) 7, bitsOf (numAt d 1 1) 2 0, bitsOf (numAt d 2 1) 3 0), remCnt := u.remCnt + 1 }

end Sys2Proof.Machine
end

