-- ==== Sys2Proof/Machine/Recorder.lean ====
section
/-! DEFINITION. The event recorder: flushes, reading, freezes, reading over Lace and clearing (R524 to R539). -/

namespace Sys2Proof.Machine

/-- REC_SEQ_OLD (R538). -/
def RecSt.seqOld (q : RecSt) : BitVec 32 :=
  match q.ring with
  | r :: _ => r.seq
  | [] => q.seqNext

/-- A record of n bytes would make a flush discard a record that the freeze protects (R534). -/
def RecSt.frozenOut (q : RecSt) (n : Nat) : Bool :=
  match q.freeze with
  | none => false
  | some (_, mark) =>
    let kept := ringRoom n q.ring
    (q.ring.take (q.ring.length - kept.length)).any fun r => (r.seq - mark).toNat < (q.seqNext - mark).toNat

/-- Write buffered records in order; failAt names the one that fails its read-back (R524, R527). What a freeze stops
returns to the buffer (R534). -/
def State.flushList (failAt : Option Nat) : Nat → List Record → State → State
  | _, [], s => s
  | k, r :: t, s =>
    if s.recd.frozenOut r.size then s.modRec fun q => { q with buf := (r :: t) ++ q.buf, stopped := true }
    else
      let bad := failAt == some k
      let s := s.ringWrite r bad
      let s := if bad then (s.modRec fun q => { q with wfail := q.wfail + 1 }).pulseSrc 471 0 else s
      State.flushList failAt (k + 1) t s

/-- One flush: every record that the buffer holds when it begins (R524, R528). A flush that a freeze stopped goes on and is
not counted anew. -/
def State.flushRun (s : State) (failAt : Option Nat) : State :=
  let l := s.recd.buf
  let ovw := s.recd.ovw
  let now := s.time
  let s := s.modRec fun q => { q with buf := [], inNum := 0, flushT := now, trigger := false, stopped := false, flushCnt := if q.stopped then q.flushCnt else q.flushCnt + 1 }
  let s := State.flushList failAt 0 l s
  if s.recd.ovw == ovw then s else s.pulseSrc 472 0

/-- A flush may begin (R524): a qualification or REC_FLUSH waits, a freeze that stopped one has ended, the buffer holds REC_WM
KiB, or REC_FLUSH_S have passed with records buffered. -/
def State.flushDue (s : State) : Bool :=
  s.recd.trigger || s.recd.stopped || decide (1024 * s.im Img.recWm ≤ recBytesUsed s.recd.buf) ||
  (!s.recd.buf.isEmpty && decide (s.im Img.recFlushS * 1000000 * usTime ≤ s.time - s.recd.flushT))

/-- R524: a flush begins. -/
def runFlush (failAt : Option Nat) (s : State) : Host.Outcome State Fault Refusal :=
  .next (if s.live && s.flushDue then s.flushRun failAt else s)

/-- REC_FLUSH (R524). -/
def State.flushAsk (s : State) : State := s.modRec fun q => { q with trigger := true }

/-- R524: REC_FLUSH is written with 1. -/
def runRecFlush (_i : Iface) (s : State) : Host.Outcome State Fault Refusal := .next (if s.live then s.flushAsk else s)

/-- REC_RD_SEEK (R531). -/
def State.seekStart (s : State) (i : Iface) (k : Word) : State := s.modIface i fun x => { x with seek := some k }

/-- R531: REC_RD_SEEK is written. -/
def runRecordSeek (i : Iface) (k : Word) (s : State) : Host.Outcome State Fault Refusal := .next (if s.live then s.seekStart i k else s)

/-- R531: the seek ends; the cursor stands at record k, at the oldest record, or at the end of the ring. -/
def runSeekComplete (i : Iface) (s : State) : Host.Outcome State Fault Refusal :=
  .next (
    match (s.iface i).seek with
    | none => s
    | some k =>
      let q := s.recd
      let there := decide ((k - q.seqOld).toNat < q.ring.length)
      let past := decide ((k - q.seqNext).toNat < 2 ^ 31)
      let c := if there then k else if past then q.seqNext else q.seqOld
      let s := if there || past then s else s.setNow (.readLost (i == .spi))
      s.modIface i fun x => { x with seek := none, cursor := some (c, 0), rdLost := x.rdLost || !(there || past) })

/-- One read of REC_RD_DATA (R532). bad is an uncorrectable MRAM word: what it reads as is a free value. -/
def State.recRead (s : State) (i : Iface) (bad : Bool) : Word × State :=
  match (s.iface i).cursor with
  | none => (0xFFFFFFFF, s)
  | some (k, o) =>
    let q := s.recd
    if k = q.seqNext then (0xFFFFFFFF, s)
    else
      let n := (k - q.seqOld).toNat
      match q.ring[n]? with
      | none => (0xFFFFFFFF, (s.modIface i fun x => { x with rdLost := true, cursor := some (q.seqOld, 0) }).setNow (.readLost (i == .spi)))
      | some r =>
        let next := if o + 4 < r.size then (k, o + 4) else (k + 1, 0)
        let t := s.modIface i fun x => { x with cursor := some next }
        if bad then
          let (w, t) := t.fresh
          (w, t.pulseSrc 278 0)
        else (wordOf (numAt r.bytes o 4), t)

/-- R532: REC_RD_DATA is read. -/
def runRecordRead (i : Iface) (bad : Bool) (s : State) : Host.Outcome State Fault Refusal :=
  .next (
    if !s.live then s
    else
      let (w, t) := s.recRead i bad
      t.modIface i fun x => { x with reply := [w] })

/-- REC_ACK (R533). -/
def State.ackRec (s : State) (k : Word) : State :=
  if (k - s.recd.unread).toNat < (s.recd.seqNext - s.recd.unread).toNat then s.modRec fun q => { q with unread := k + 1 } else s

/-- R533: REC_ACK is written. -/
def runRecordAck (_i : Iface) (k : Word) (s : State) : Host.Outcome State Fault Refusal := .next (if s.live then s.ackRec k else s)

/-- A freeze begins (R534). -/
def State.freezeOn (s : State) (i : Iface) : State :=
  if s.recd.freeze.isSome then s
  else (s.modRec fun q => { q with freeze := some (i, q.unread), frzIf := i }).raiseEvt 251 (reqrSource 471)

/-- The setting interface ends its freeze; a flush that it stopped waits for its FLUSH (R535). -/
def State.freezeOff (s : State) (i : Iface) : State :=
  match s.recd.freeze with
  | some (j, _) => if i = j then s.modRec fun q => { q with freeze := none } else s
  | none => s

/-- A freeze ends by its limit or by power-fail (R535). -/
def State.freezeLose (s : State) : State :=
  if s.recd.freeze.isSome then (s.modRec fun q => { q with freeze := none, frzLost := true }).setNow .freezeLost else s

/-- R534: REC_FREEZE is written with 1. -/
def runFreezeBegin (i : Iface) (s : State) : Host.Outcome State Fault Refusal := .next (if s.live then s.freezeOn i else s)
/-- R535: REC_FREEZE is written with 0. -/
def runFreezeEnd (i : Iface) (s : State) : Host.Outcome State Fault Refusal := .next (if s.live then s.freezeOff i else s)
/-- R535: REC_FRZ_MAX seconds have passed. -/
def runFreezeTimeout (s : State) : Host.Outcome State Fault Refusal := .next s.freezeLose

/-- REC_REM_SLOT (R536); slot 0 is ignored. -/
def State.remRead (s : State) (sl : Nat) : State :=
  if sl = 0 || !s.isDomainHead then s else s.sendBulk (s.slotRec sl).eye (slotFin sl) 0 1 s.recd.remOfs.toNat []

/-- R536: REC_REM_SLOT is written. -/
def runRemoteReadRequest (_i : Iface) (sl : Fin 64) (s : State) : Host.Outcome State Fault Refusal := .next (if s.live then s.remRead sl else s)

/-- Gather records into frames of at most 1,024 bytes that end at record boundaries (R536). A record longer than a frame
is cut, and its last piece ends its frame. -/
def remPieces : List Byte → List (List Byte) → List (List Byte)
  | acc, [] => if acc.isEmpty then [] else [acc]
  | acc, r :: t =>
    if acc.length + r.length ≤ 1024 then remPieces (acc ++ r) t
    else (if acc.isEmpty then [] else [acc]) ++
      (if r.length ≤ 1024 then remPieces r t else (chunks 3 0 r).map (·.2) ++ remPieces [] t)

/-- The frames that fit into one reply of n bytes. -/
def fitReply : Nat → List (List Byte) → List (List Byte)
  | _, [] => []
  | n, p :: t => if p.length ≤ n then p :: fitReply (n - p.length) t else []

/-- Drop n bytes from the front of a list of records. -/
def dropBytes : Nat → List (List Byte) → List (List Byte)
  | _, [] => []
  | n, r :: t => if n < r.length then r.drop n :: t else dropBytes (n - r.length) t

/-- A member answers a read request of its domain head from its oldest unread record on (R536). -/
def State.remAnswer (s : State) (e ofs : Nat) : State :=
  let s := if s.recd.freeze.isSome then s else s.raiseEvt 251 (reqrSource 471)
  let recs := (s.recd.ring.filter fun r => s.recd.isUnread r.seq).map Record.bytes
  let parts := fitReply 65536 (remPieces [] (dropBytes ofs recs))
  let (s, o) := parts.foldl (fun (x : State × Nat) p => (x.1.sendBulk e 0 x.1.mySlotUp 1 x.2 p, x.2 + p.length)) (s, ofs)
  s.sendBulk e 0 s.mySlotUp 1 o []

/-- Ring bytes of a member enter the receive buffer (R536). -/
def State.remReceive (s : State) (d : List Byte) : State := s.modRec fun q => { q with remBuf := (q.remBuf ++ d).take 65536 }

/-- One read of REC_REM_DATA (R536). -/
def State.remData (s : State) : Word × State :=
  if s.recd.remBuf.isEmpty then (0xFFFFFFFF, s)
  else (wordOf (numAt s.recd.remBuf 0 4), s.modRec fun q => { q with remBuf := q.remBuf.drop 4 })

/-- R536: REC_REM_DATA is read. -/
def runRemoteDataRead (i : Iface) (s : State) : Host.Outcome State Fault Refusal :=
  .next (
    if !s.live then s
    else
      let (w, t) := s.remData
      t.modIface i fun x => { x with reply := [w] })

/-- REC_CLR (R537, R580). A flush that has begun is completed first. The first and last SEQ that a clear of an empty ring names are free values. -/
def State.recClear (s : State) (i : Iface) (ticket : Word) : State :=
  let key := match (s.iface i).armed with
    | some (_, _, k) => k
    | none => 0
  match (if ticket = (s.iface i).ticket && s.recd.freeze.isNone then s.useAuth i 0x11 0 else none) with
  | none => (s.modRec fun q => { q with clrRej := true }).setNow .clearRej
  | some s =>
    let s := if s.recd.trigger || s.recd.stopped then s.flushRun none else s
    let (first, s) := match s.recd.ring with
      | r :: _ => (r.seq, s)
      | [] => s.fresh
    let (last, s) := match s.recd.ring.getLast? with
      | some r => (r.seq, s)
      | none => s.fresh
    let p := leBytes 4 first.toNat ++ leBytes 4 last.toNat ++ leBytes 4 s.recd.ring.length ++ leBytes 1 (Iface.num i) ++ leBytes 1 key ++ leBytes 2 0
    let s := s.modRec fun q => { q with ring := [], unread := q.seqNext }
    (s.ringWrite (s.mkRec 6 p) false).raiseEvt 250 (reqrSource 471)

/-- R537: REC_CLR is written. -/
def runRecorderClear (i : Iface) (ticket : Word) (s : State) : Host.Outcome State Fault Refusal :=
  .next (if s.live then s.recClear i ticket else s)

end Sys2Proof.Machine
end

