-- ==== Sys2Proof/Machine/Supply.lean ====
section
/-! DEFINITION. The input judgement, power-fail and the snapshot record (R245 to R253). -/

namespace Sys2Proof.Machine

/-- The publication of the latest tick, whatever the faceplate shows (R48, R253). -/
def Ledger.pubEnt (l : Ledger) (id : Nat) : Entry :=
  l.journal.foldl (fun e j => match j with
    | .entry ep k x | .set ep k x => if k == id && ep ≤ l.pubEpoch then x else e
    | _ => e) (l.fp.get {} id)

/-- A signed value of n bytes, limited to its range, little-endian. -/
def leSigned (n : Nat) (x : Int) : List Byte := leBytes n (ofSigned (8 * n) (clampInt (-(2 ^ (8 * n - 1))) (2 ^ (8 * n - 1) - 1) x))

/-- A voltage in 0.25 mV as unsigned 16-bit mV. -/
def mv16 (x : Nat) : List Byte := leBytes 2 (min 0xFFFF (x / 4))

/-- The payload of a snapshot record with a cause (R253). -/
def State.snapPayload (s : State) (cause : Nat) (mv : SupplyMv) : List Byte :=
  let e := s.led.pubEnt
  let u16 : Nat → List Byte := fun x => leBytes 2 (min 0xFFFF x)
  leBytes 6 s.led.pubEpoch ++ leBytes 2 cause ++ leBytes 2 s.rtc.frac.toNat ++ leBytes 6 s.rtc.sec.toNat ++
  u16 mv.vinA ++ u16 mv.vinB ++ u16 mv.vhold ++ u16 mv.ka ++ leBytes 8 0 ++
  ((List.range 32).map fun b => BitVec.ofNat 8 ((List.range 8).foldl (fun n k => n + 2 ^ k * b2n ((e (liChan (8 * b + k))).st == .valid)) 0)) ++
  ((List.range 256).flatMap fun c => leBytes 4 (e (liChan c)).val.toNat) ++
  ((List.range 40).flatMap fun r =>
    leBytes 1 (e r).st.code ++ leBytes 1 ((s.railPhases r).filter fun p => (e (liPhase p)).st == .on).length ++
    mv16 ((s.rail r).vsamp.headD 0) ++ leSigned 4 ((s.rail r).isamp.headD 0)) ++
  ((List.range 32).flatMap fun n => leBytes 1 (e (liSwitch n)).st.code ++ leBytes 1 0 ++ leSigned 2 ((s.switch n).cur.fdiv 10)) ++
  ((List.range 48).flatMap fun z => leSigned 2 ((e (liZone z)).val.toInt.fdiv 100)) ++
  ((List.range 16).flatMap fun g => leBytes 1 (e (liGroup g)).st.code ++ leBytes 1 (e (liGroup g)).val.toNat)

/-- The captured snapshot reaches the ring (R251 step 2). A record for power-fail lets the buffer follow (R525). -/
def State.snapWrite (s : State) : State :=
  match s.seq.snap with
  | none => s
  | some (p, forPf, ep, frac, sec) =>
    let r : Record := { ty := 4, pf := false, seq := 0, epoch := ep, frac := BitVec.ofNat 16 frac, sec := BitVec.ofNat 48 sec, payload := p, bad := false }
    let s := (s.ringWrite r false).modSeq fun q => { q with snapBusy := false, snapCnt := q.snapCnt + 1, snap := none }
    if forPf then s.flushRun none else s

/-- The supply levels that the lanes last took. The keep-alive diode conducts while its node exceeds VHOLD by 30 mV (R305). -/
def State.storeMv (s : State) (mv : SupplyMv) : State := s.modLane fun l => { l with mv := mv, kaFeed := decide (mv.vhold + 30 < mv.ka) }

/-- Capture a snapshot (R251 step 1). A power-fail that finds a captured record waiting writes that one first. -/
def State.snapCapture (s : State) (cause : Nat) (forPf : Bool) (mv : SupplyMv) : State :=
  let s := s.snapWrite
  let p := s.snapPayload cause mv
  let ep := s.led.epoch
  let fr := s.rtc.frac.toNat
  let sec := s.rtc.sec.toNat
  (s.storeMv mv).modSeq fun q => { q with snapBusy := true, snap := some (p, forPf, ep, fr, sec) }

/-- Requester of the input events: the input that changed last (R280). -/
def State.inputReqr (s : State) : Nat := reqrSource (if s.seq.lastB then 353 else 352)

/-- Both copies of the epoch watermark are written (R47, R328). -/
def State.wmWrite (s : State) : State :=
  let n := s.led.epoch
  { s with mram := { wm0 := some n, wm1 := some n } }

/-- Power-fail is declared (R47, R246, R251, R525, R535). -/
def State.powerFail (s : State) (mv : SupplyMv) : State :=
  let s := s.wmWrite.modSeq fun q => { q with pf := true, pfCnt := satAdd 0xFFFF q.pfCnt 1 }
  let cause := b2n s.seq.lostA + 2 * b2n s.seq.lostB + 4 * b2n (!s.seq.kaOk)
  let s := if s.imb Img.gauUsed then s.gaugeStore else s
  (s.freezeLose.snapCapture cause true mv).raiseEvt 227 s.inputReqr

/-- R245 to R247, R395: an input is lost. The loss of both declares input loss, which ends a DRAIN and which each group
answers. -/
def runInputLost (b : Bool) (mv : SupplyMv) (s : State) : Host.Outcome State Fault Refusal :=
  .next (
    let already := if b then s.seq.lostB else s.seq.lostA
    if !s.live || already then s
    else
      let held := if b then !s.seq.lostA && decide (s.seq.retA + 10000 * usTime ≤ s.time) else !s.seq.lostB && decide (s.seq.retB + 10000 * usTime ≤ s.time)
      let s := s.modSeq fun q => { q with lostA := q.lostA || !b, lostB := q.lostB || b, lastB := b, stable := q.stable && held }
      let s := (s.storeMv mv).assertSrc (if b then 353 else 352) 0
      if !(s.seq.lostA && s.seq.lostB) then s
      else
        let s := (s.modSeq fun q => { q with il := true, stable := false }).raiseEvt 225 s.inputReqr
        let s := if s.seq.kaOk then s else s.powerFail mv
        let s := match s.lace.energy with
          | some o => if o.order = 3 then s.energyEnd false else s
          | none => s
        (List.range 16).foldl (fun s g => if s.imb Img.seqUsed g then s.groupInputLoss g else s) s)

/-- R245, R246: a lost input returns; input loss and power-fail end. -/
def runInputReturn (b : Bool) (s : State) : Host.Outcome State Fault Refusal :=
  .next (
    let lost := if b then s.seq.lostB else s.seq.lostA
    if !s.live || !lost then s
    else
      let now := s.time
      let s := s.modSeq fun q => if b then { q with lostB := false, lastB := true, retB := now } else { q with lostA := false, lastB := false, retA := now }
      let s := s.releaseSrc (if b then 353 else 352)
      if s.seq.il then (s.modSeq fun q => { q with il := false, pf := false }).raiseEvt 226 s.inputReqr else s)

/-- R245, R248, R249, R341: an input has been returned for 10 ms. -/
def runInputsStable (s : State) : Host.Outcome State Fault Refusal :=
  .next (
    if !s.live || s.seq.stable || s.seq.il || (s.seq.lostA && s.seq.lostB) then s
    else
      let s := (s.modSeq fun q => { q with stable := true }).inputsRelease
      if s.imb Img.wakeVin then s.wake 7 else s)

/-- SEQ_SNAP_CMD (R251); a command while SEQ_SNAP_BUSY is 1 is ignored. -/
def State.snapCommand (s : State) (mv : SupplyMv) : State :=
  if s.seq.snapBusy then s else s.snapCapture (b2n s.seq.lostA + 2 * b2n s.seq.lostB + 4 * b2n (!s.seq.kaOk) + 8) false mv

/-- R251: SEQ_SNAP_CMD is written with 1. -/
def runSnapshotCommand (_i : Iface) (mv : SupplyMv) (s : State) : Host.Outcome State Fault Refusal :=
  .next (if s.live then s.snapCommand mv else s)

/-- R251: the snapshot record is in the ring. -/
def runSnapshotWritten (s : State) : Host.Outcome State Fault Refusal := .next (if s.live then s.snapWrite else s)

/-- R246: the keep-alive node crosses SEQ_KA_THR. -/
def runKeepAliveCrossing (up : Bool) (mv : SupplyMv) (s : State) : Host.Outcome State Fault Refusal :=
  .next (
    if !s.live then s
    else
      let s := (s.modSeq fun q => { q with kaOk := up }).storeMv mv
      if !up && s.seq.il && !s.seq.pf then s.powerFail mv else s)

/-- R248 to R250: VHOLD crosses SEQ_HOLD_THR. -/
def runVholdHoldCrossing (up : Bool) (s : State) : Host.Outcome State Fault Refusal :=
  .next (
    if !s.live then s
    else
      let s := (s.modSeq fun q => { q with holdOk := up }).followSrc 358 0 (!up)
      if up then s.inputsRelease else s)

end Sys2Proof.Machine
end

