-- ==== Sys2Proof/Machine/Lace.lean ====
section
/-! DEFINITION. The Lace link and the unit tree: eyelets, frames, credit, markers, joining, deltas, loss, takeover, energy
orders (R349 to R395), and the foreign devices on TWB1 (R396 to R400). -/

namespace Sys2Proof.Machine

/-- Eyelets carry frames: enabled, and the unit in RUN, or in STARTING from step 11 of R322 (R349, R387, R390). COLD_START is
one command, so no eyelet trains inside it: each is DOWN in the first epoch (DESIGN CHOICE, assumption 143). -/
def State.laceOn (s : State) (e : Nat) : Bool :=
  (s.glb.mode == .run || s.glb.mode == .starting && decide (11 ≤ s.glb.startStep)) && bitOf (s.im Img.laceEn) e

/-- Free P3 entries and free relay slots bound what a parent may send (R359). -/
def State.opRoom (s : State) : Nat :=
  min (128 - s.queueLen 3 - reqCount (s.pipe.offers.filter fun o => o.1 == 3)) (256 - s.lace.relays.length)

/-- Credit limits as this end would grant them now: operations only on the parent eyelet (R359). -/
def State.grantNow (s : State) (e : Nat) : Tbl Nat :=
  let x := s.eye e
  let out := (256 + x.granted.get 0 0 - x.opRcvd) % 256
  if s.lace.parent = some e then x.granted.set 0 0 ((x.opRcvd + max out (min 255 s.opRoom)) % 256) else x.granted

/-- The hop count and OFFER bit shown in HELLO (R355, R365, R370). -/
def State.offers (s : State) (e : Nat) : Bool :=
  !s.lace.left && (s.lace.mySlot != 0 || s.glb.role == 1) && s.lace.parent != some e && s.lace.hop != 255

/-- The root of this unit has taken over: the unit's own bit as a root, else what its parent shows (R355). -/
def State.rootTook (s : State) : Bool :=
  if s.glb.role = 1 then s.glb.takenOver
  else match s.lace.parent with
    | some p => (match (s.eye p).last with
      | some h => h.takeover
      | none => false)
    | none => false

/-- The HELLO that eyelet e sends at this core cycle (R355). -/
def State.helloOf (s : State) (e : Nat) : Hello :=
  let x := s.eye e
  let now : BitVec 16 := BitVec.ofNat 16 s.cyc
  { role := Fin.ofNat 16 s.glb.role, eyelet := Fin.ofNat 16 e, hop := BitVec.ofNat 8 s.lace.hop, offer := s.offers e, takeover := s.rootTook,
    epochLen := s.im Img.epochUs, uid := s.uid, rootUid := if s.lace.hop = 255 then 0 else s.lace.rootUid, stamp := now,
    echo := match x.last with
      | some h => h.stamp
      | none => 0,
    turn := now - x.lastArr, epoch := BitVec.ofNat 48 s.led.pubEpoch }

/-- An eyelet sends a HELLO: its time stamp is remembered (R350, R356). -/
def State.helloOut (s : State) (e : Nat) : State :=
  if s.laceOn e && (s.eye e).st != .down then
    let h := s.helloOf e
    s.modEye e fun x => { x with sent := h.stamp :: x.sent.filter (· ≠ h.stamp), hello := some h }
  else s

/-- Byte 4 or byte 5 has changed: every eyelet sends its HELLO at once (R356). -/
def State.helloAll (s : State) : State := (List.range 4).foldl (fun s e => s.helloOut e) s

/-- FS334 follows the eyelets in FOREIGN (R388, LACE_TWO_ROOTS). -/
def State.twoRoots (s : State) : Bool := (List.range 4).any fun e => (s.eye e).st == .foreign

/-- Frames of an eyelet go with its link; completions that it still held are counted (R382). -/
def cplCount (l : List Frame) : Nat := (l.filter fun f => f.kind == .cpl).length

/-- A member or group head loses its parent (R381, R382, R394). -/
def State.loseParent (s : State) : State :=
  match s.lace.parent with
  | none => s
  | some e =>
    let x := s.eye e
    let n := (s.pipe.done.filter fun c => c.cls == 3).length + cplCount x.txQ + cplCount (x.unacked.map (·.2))
    let s := s.modPipe fun p => { p with done := p.done.filter fun c => c.cls != 3 }
    let s := s.modEye e fun x => { x with txQ := x.txQ.filter (fun f => f.kind != .cpl), unacked := x.unacked.filter fun f => f.2.kind != .cpl }
    let s := s.modLace fun l => { l with parent := none, formerSlot := if l.mySlot = 0 then l.formerSlot else l.mySlot, mySlot := 0, joining := none, refused := false, hop := 255, relays := [], cplDrop := satAdd 0xFFFF l.cplDrop n }
    ((s.assertSrc 332 0).energyEnd true).helloAll

/-- Slots that this unit's table routes through an eyelet. -/
def State.slotsVia (s : State) (e : Nat) : List Nat :=
  (List.range 64).filter fun sl => sl ≠ 0 && (s.slotRec sl).st != .free && (s.slotRec sl).eye == e

/-- Slots can no longer be reached: a domain head declares them at its next tick, a relay reports them (R377). A parked slot
turned its own transmitters off: it is not declared, and a relay keeps the way to it, because R390 lets it keep its entries
(DEDUCED, assumption 142). -/
def State.slotsLost (s : State) (l : List Nat) : State :=
  if s.isDomainHead then l.foldl (fun s sl => if (s.slotRec sl).st == .counted || (s.slotRec sl).st == .joining then s.modSlot sl fun x => { x with lost := true } else s) s
  else if l.isEmpty then s
  else
    let m := l.foldl (fun n sl => n + 2 ^ sl) 0
    let s := l.foldl (fun s sl => if (s.slotRec sl).st == .parked then s else s.modSlot sl fun _ => {}) s
    match s.lace.parent with
    | some p => s.sendFrame p { kind := .lost, dst := 0, src := s.mySlotUp, otag := 0, slot := 0, payload := leBytes 8 m }
    | none => s

/-- An eyelet goes DOWN (R350, R377, R381). It stays a child eyelet while a parked slot lies behind it (R361, R390). -/
def State.eyeDown (s : State) (e : Nat) : State :=
  let was := (s.eye e).st
  if was = .down then s
  else
    let parent := s.lace.parent == some e
    let s := if parent then s.loseParent else s
    let way := (s.slotsVia e).any fun sl => (s.slotRec sl).st == .parked
    let s := s.modEye e fun x => { st := .down, crc := x.crc, retx := x.retx, rtt := x.rtt, crcWin := x.crcWin, crcStart := x.crcStart, idleUntil := x.idleUntil, child := x.child && way }
    let s := if was = .up then s.assertSrc (320 + 3 * e) 0 else s
    let s := if was = .foreign then s.followSrc 334 0 s.twoRoots else s
    if parent then s else s.slotsLost (s.slotsVia e)

/-- R350: the receiver locks. -/
def runEyeletLock (e : Fin 4) (s : State) : Host.Outcome State Fault Refusal :=
  .next (if s.laceOn e && (s.eye e).st == .down then (s.modEye e fun x => { x with st := .train }).helloOut e else s)

/-- R350: lock is lost for 10 µs. A training eyelet goes back too (DEDUCED, assumption 40). -/
def runEyeletLockLoss (e : Fin 4) (s : State) : Host.Outcome State Fault Refusal := .next (if s.laceOn e then s.eyeDown e else s)

/-- R350: 3 ms without a valid HELLO. -/
def runHelloTimeout (e : Fin 4) (s : State) : Host.Outcome State Fault Refusal :=
  .next (if s.laceOn e && ((s.eye e).st == .up || (s.eye e).st == .foreign) then s.eyeDown e else s)

/-- R356: a HELLO is sent. -/
def runHelloSend (e : Fin 4) (s : State) : Host.Outcome State Fault Refusal := .next (s.helloOut e)

/-- An eyelet reaches UP: sequence numbers and credits begin anew (R355, R357, R359). -/
def Eyelet.goUp (x : Eyelet) : Eyelet :=
  { x with st := .up, txSeq := 0, rxSeq := 0, nak := false, unacked := [], txQ := [], sentCls := [], limits := [], granted := [(1, 16), (2, 4), (3, 8)], opRcvd := 0 }

/-- The number that the tick k ticks from now takes, the next one for 0 (R363, R364). -/
def State.tickNumber (s : State) (k : Nat) : Nat :=
  match s.lace.raiseTo with
  | some m => if s.lace.raiseIn ≤ k then max (s.led.epoch + k) (m + (k - s.lace.raiseIn)) else s.led.epoch + k
  | none => s.led.epoch + k

/-- A domain head raises its numbering above n at the first tick that it has not announced yet, with JUMP in the markers of two
ticks (R364, R368). -/
def State.raiseAbove (s : State) (n : Nat) : State :=
  let told := match s.lace.lastMarker with
    | some m => m.epoch.toNat + 1 - s.tickNumber 0
    | none => 0
  s.modLace fun l => { l with raiseTo := some (max (l.raiseTo.getD 0) (n + 1)), raiseIn := max l.raiseIn told, jump := 2 }

/-- R350, R355, R356, R365, R368, R388: a HELLO is received. A child whose number is above that of this domain head's next tick
raises it, as its JOIN_REQ does (DEDUCED, assumption 66). -/
def runHello (e : Fin 4) (h : Hello) (arrival : BitVec 16) (s : State) : Host.Outcome State Fault Refusal :=
  .next (
    let x := s.eye e
    if !s.laceOn e || x.st == .down then s
    else
      let known := x.sent.contains h.echo
      let rtt := (arrival - h.echo - h.turn).toNat
      let s := s.modEye e fun x => { x with peer := h.uid, last := some h, lastArr := arrival, rtt := if known then rtt else x.rtt }
      let s := if x.st = .train && known then (s.modEye e Eyelet.goUp).releaseSrc (320 + 3 * e) else s
      let hop := h.hop.toNat
      if (s.eye e).st = .up && hop != 255 && s.lace.hop != 255 && h.rootUid != s.lace.rootUid then
        (s.modEye e fun x => { x with st := .foreign, txQ := [], unacked := [] }).assertSrc 334 0
      else if (s.eye e).st = .foreign then s
      else if s.lace.parent = some e.val then
        let hop' := if hop = 255 then 255 else hop + 1
        let shown := x.last.any fun k => k.takeover
        let changed := s.lace.hop != hop' || shown != h.takeover
        let s := s.modLace fun l => { l with hop := hop', rootUid := if hop = 255 then l.rootUid else h.rootUid }
        if changed then s.helloAll else s
      else if s.isDomainHead && (s.eye e).st == .up && (s.eye e).child && decide (s.tickNumber 0 < h.epoch.toNat) then s.raiseAbove h.epoch.toNat
      else s)

/-- R355, R357, R359: a LINK frame leaves with the acknowledgement, NAK and limits of now; it has carried a NAK then. -/
def runLinkSend (e : Fin 4) (s : State) : Host.Outcome State Fault Refusal :=
  .next (if s.laceOn e && ((s.eye e).st == .up || (s.eye e).st == .foreign) then
      let g := s.grantNow e
      s.modEye e fun x => { x with links := x.links + 1, granted := g, nak := false, link := some (x.rxSeq - 1, x.nak, (List.range 4).map fun c => g.get 0 c) }
    else s)

/-- Drop the frames that an acknowledgement covers (R355). -/
def Eyelet.acked (x : Eyelet) (ack : BitVec 8) : Eyelet :=
  if x.unacked.any (fun f => f.1 == ack) then { x with unacked := (x.unacked.dropWhile fun f => f.1 != ack).drop 1 } else x

/-- Unacknowledged frames are sent again (R355). -/
def Eyelet.resend (x : Eyelet) : Eyelet := { x with retx := x.retx + BitVec.ofNat 32 x.unacked.length }

/-- A class has frames waiting and no credit (R357). -/
def Eyelet.starved (x : Eyelet) (c : Nat) : Bool := x.credit c == 0 && x.txQ.any fun f => frameClass f.kind == some c

/-- R355, R357: a LINK frame is received. -/
def runLink (e : Fin 4) (ack : Byte) (nak : Bool) (credits : List Byte) (s : State) : Host.Outcome State Fault Refusal :=
  .next (if s.laceOn e && (s.eye e).st == .up then
      let lim : Tbl Nat := (List.range 4).foldl (fun t c => t.set 0 c (credits.getD c 0).toNat) []
      let s := s.modEye e fun x =>
        let x := x.acked ack
        let x := if nak then x.resend else x
        { x with limits := lim }.pump (x.txQ.length + 1)
      if (List.range 4).any (s.eye e).starved then s else s.releaseSrc (322 + 3 * e)
    else s)

/-- R353: a frame is discarded; more than LACE_CRC_THR within 1 s assert FS321 + 3e. -/
def runFrameDiscard (e : Fin 4) (s : State) : Host.Outcome State Fault Refusal :=
  .next (if s.laceOn e then
      let now := s.time
      let s := s.modEye e fun x =>
        if x.crcWin = 0 || decide (x.crcStart + 1000000 * usTime ≤ now) then { x with crc := x.crc + 1, crcWin := 1, crcStart := now }
        else { x with crc := x.crc + 1, crcWin := x.crcWin + 1 }
      s.followSrc (321 + 3 * e) 0 (decide (s.im Img.laceCrcThr e < (s.eye e).crcWin))
    else s)

/-- R355: a frame with an unexpected SEQ. -/
def runSequenceReject (e : Fin 4) (s : State) : Host.Outcome State Fault Refusal :=
  .next (if s.laceOn e && (s.eye e).st == .up then s.modEye e fun x => { x with nak := true } else s)

/-- R355: the acknowledgement has not advanced for 20 µs. -/
def runResendTimeout (e : Fin 4) (s : State) : Host.Outcome State Fault Refusal :=
  .next (if s.laceOn e && (s.eye e).st == .up then s.modEye e Eyelet.resend else s)

/-- R357: a class has waited for credit for LACE_CRED_TO. -/
def runCreditTimeout (e : Fin 4) (cls : Fin 4) (s : State) : Host.Outcome State Fault Refusal :=
  .next (if s.laceOn e && (s.eye e).st == .up && (s.eye e).starved cls then s.assertSrc (322 + 3 * e) 0 else s)

/-- A sequenced frame is accepted (R355); a class whose consumer has taken it is credited again (R359). -/
def State.recvFrame (s : State) (e : Nat) (k : FrameKind) : State :=
  s.modEye e fun x =>
    let x := { x with rxSeq := x.rxSeq + 1, nak := false }
    match frameClass k with
    | some 0 => { x with opRcvd := (x.opRcvd + 1) % 256 }
    | some c => { x with granted := x.granted.set 0 c ((x.granted.get 0 c + 1) % 256) }
    | none => x

/-- Sequenced frames pass on this eyelet (R388). -/
def State.framesPass (s : State) (e : Nat) : Bool := s.laceOn e && (s.eye e).st == .up

/-- A frame of a kind is taken from this eyelet: one that goes down from the parent, one that goes up from another (R354). -/
def State.takes (s : State) (e : Nat) (k : FrameKind) : Bool := s.framesPass e && frameComes k (s.lace.parent == some e)

/-- A JOIN_REQ passes up: the eyelet on which it arrived is noted (R366). -/
def State.pathNote (s : State) (e : Nat) (uid : BitVec 64) (hops : Nat) (gh : Bool) : State :=
  (s.modLace fun l => { l with joinPaths := l.joinPaths.filter (fun q => q.1 != uid) ++ [(uid, e, hops, gh)] }).modEye e fun x => { x with child := true }

/-- A set passes up through a relay: its slot sends sets from its FULL set on, and none once it parks (R369, R389, R390). -/
def State.setPasses (s : State) (sl : Nat) (last full parked : Bool) : State :=
  s.modSlot sl fun x =>
    if x.st = .free then x
    else if last && parked then { x with st := .parked }
    else if last && full then { x with st := .counted }
    else x

/-- A frame toward the domain head (R360). -/
def State.sendUp (s : State) (f : Frame) : State :=
  match s.lace.parent with
  | some p => s.sendFrame p f
  | none => s

/-- A relay passes a frame on (R360, R366, R370). -/
def State.relay (s : State) (e : Nat) (f : Frame) : State :=
  let up := s.lace.parent != some e
  match f.kind with
  | .op =>
    let to' := (s.slotRec f.dst).eye
    (s.modLace fun l => { l with relays := l.relays ++ [(f.otag.toNat, to')] }).sendFrame to' f
  | .joinGrant =>
    let uid : BitVec 64 := BitVec.ofNat 64 (numAt f.payload 0 8)
    match s.lace.joinPaths.find? (fun p => p.1 == uid) with
    | none => s
    | some p =>
      let s := if f.slot.val = 0 then s else s.modSlot f.slot fun x => { x with st := .joining, uid := uid, eye := p.2.1, hop := p.2.2.1, gh := p.2.2.2 }
      (s.modLace fun l => { l with joinPaths := l.joinPaths.filter fun q => q.1 != uid }).sendFrame p.2.1 f
  | .joinReq =>
    let uid : BitVec 64 := BitVec.ofNat 64 (numAt f.payload 0 8)
    let s := if s.lace.joinPaths.any (fun q => q.1 == uid && q.2.1 == e) then s else s.pathNote e uid 1 (numAt f.payload 9 1 == 4)
    s.sendUp f
  | .delta =>
    let b := numAt f.payload 8 1
    (s.setPasses f.src (bitOf b 0) (bitOf b 1) (bitOf b 2)).sendUp f
  | .leave =>
    let uid : BitVec 64 := BitVec.ofNat 64 (numAt f.payload 0 8)
    let s := (List.range 64).foldl (fun s sl => if (s.slotRec sl).st != .free && (s.slotRec sl).uid == uid then s.modSlot sl fun _ => {} else s) s
    s.sendUp f
  | .cpl => (s.modLace fun l => { l with relays := l.relays.erase (f.otag.toNat, e) }).sendUp f
  | _ => if up then s.sendUp f else s.sendFrame (s.slotRec f.dst).eye f

/-- R360: a frame for another slot. -/
def runFrameForward (e : Fin 4) (f : Frame) (s : State) : Host.Outcome State Fault Refusal :=
  .next (if s.takes e f.kind then (s.recvFrame e f.kind).relay e f else s)

/-- Epochs between the one in progress and the tick 50 µs ahead (R361). -/
def State.markerLead (s : State) : Nat := 49 / max 1 (s.im Img.epochUs)

/-- Child eyelets that are UP. -/
def State.childEyes (s : State) : List Nat := (List.range 4).filter fun e => (s.eye e).st == .up && (s.eye e).child

/-- R361, R364: the domain head sends the marker for the tick 50 µs ahead. -/
def runMarkerSend (s : State) : Host.Outcome State Fault Refusal :=
  .next (
    if !(s.glb.mode == .run && s.isDomainHead) || s.lace.left then s
    else
      let m := sealMarker { epoch := BitVec.ofNat 48 (s.tickNumber s.markerLead), countdown := 12500, jump := s.lace.jump != 0, ddiv := if s.glb.role = 1 then Fin.ofNat 8 (s.im Img.laceDdiv) else Fin.ofNat 8 s.lace.ddiv, takeover := s.rootTook, crc := 0 }
      s.modLace fun l => { l with jump := l.jump - 1, markers := l.markers + (s.childEyes).length, lastMarker := some m })

/-- One-way delay of the hop, in core cycles (R356). -/
def Eyelet.delay (x : Eyelet) : Nat := x.rtt / 2

/-- R358, R361 to R364, R368: a marker on the parent eyelet. One whose CRC-8 fails is discarded and counted; one that announces
a number below that of the unit's own next tick counts as not received. -/
def runEpochMarker (e : Fin 4) (m : Marker) (s : State) : Host.Outcome State Fault Refusal :=
  .next (
    let n := m.epoch.toNat
    if !s.framesPass e then s
    else if m.crc != crc8 (markerSymbols m) then s.modEye e fun x => { x with crc := x.crc + 1 }
    else if s.lace.parent != some e.val || decide (n < s.tickNumber 0) then s
    else
      let lead := s.markerLead
      let d := (s.eye e).delay
      let cycles := 250 * s.im Img.epochUs
      let raise := decide (s.tickNumber lead < n)
      let ahead := if raise then lead else ((List.range (lead + 1)).find? fun k => decide (n ≤ s.tickNumber k)).getD lead
      let t := s.cyc + m.countdown.toNat - d - ahead * cycles
      let ok := s.glb.role == 2 && (match s.lace.mirrorEpoch with
        | some x => decide (n ≤ x + 2)
        | none => false)
      let s := { s with tickAt := t }.modLace fun l => { l with noMarker := 0, sinceMarker := 0, markerEpoch := n, mirrorOkAtMarker := ok, ddiv := m.ddiv.val, raiseTo := if raise then some n else l.raiseTo, raiseIn := if raise then lead else l.raiseIn, jump := if raise && s.isGroupHead then 2 else l.jump }
      if s.isGroupHead then s
      else
        let (w, s) := s.fresh
        let m' := sealMarker { m with countdown := BitVec.ofNat 16 (m.countdown.toNat - d - w.toNat % 51) }
        let c := s.childEyes
        if c.isEmpty then s else s.modLace fun l => { l with markers := l.markers + c.length, lastMarker := some m' })

/-- R381: the parent is lost: no marker for 3 epochs. The parent eyelet's going DOWN acts at once. -/
def runParentLost (s : State) : Host.Outcome State Fault Refusal :=
  .next (if s.glb.mode == .run && decide (3 ≤ s.lace.noMarker) then s.loseParent else s)

/-- Roles that join a tree: standby root, member, group head (R10, R24). -/
def State.mayJoin (s : State) : Bool := 2 ≤ s.glb.role && s.glb.role ≤ 4 && !s.lace.left

/-- The parent that R365 chooses. -/
def State.chooseParent (s : State) : Option (Nat × Hello) :=
  let c := (List.range 4).filterMap fun e => match (s.eye e).st, (s.eye e).last with
    | .up, some h => if h.offer && h.hop.toNat != 255 then some (e, h) else none
    | _, _ => none
  c.foldl (fun b x => match b with
    | some y => if x.2.hop.toNat < y.2.hop.toNat then some x else b
    | none => some x) none

/-- JOIN_REQ goes out (R365, R383). -/
def State.joinSend (s : State) : State :=
  if s.glb.mode != .run || !s.mayJoin || s.lace.mySlot != 0 then s
  else match s.chooseParent with
    | none => s
    | some (e, h) =>
      let s := (s.modEye e fun x => { x with child := false }).modLace fun l => { l with parent := some e, hop := h.hop.toNat + 1, rootUid := h.rootUid, joining := some l.formerSlot, refused := false, noMarker := 0 }
      let p := leBytes 8 s.uid.toNat ++ leBytes 1 s.lace.formerSlot ++ leBytes 1 s.glb.role ++ leBytes 6 s.led.pubEpoch
      (s.sendFrame e { kind := .joinReq, dst := 0, src := 0, otag := 0, slot := 0, payload := p, noSlot := true }).helloAll

/-- R365: a unit without a slot asks for one. -/
def runJoinRequest (s : State) : Host.Outcome State Fault Refusal := .next (if s.lace.joining.isNone then s.joinSend else s)

/-- R367: a refused unit asks again after 1 s. -/
def runJoinRetry (s : State) : Host.Outcome State Fault Refusal := .next (if s.lace.refused then s.joinSend else s)

/-- A slot that the image reserves, and for whom (R366, LACE_SLOT_RSV). -/
def State.slotReserved (s : State) (sl : Nat) : Option (BitVec 64) :=
  if s.imb Img.laceSlotRsv sl then some (BitVec.ofNat 64 (s.im Img.laceSlotIdHi sl * 2 ^ 32 + s.im Img.laceSlotIdLo sl)) else none

/-- The slot that R366 assigns. -/
def State.slotFor (s : State) (j : Join) : Option Nat :=
  let l := (List.range 64).filter (· ≠ 0)
  let free : Nat → Bool := fun sl => (s.slotRec sl).st == .free && (s.slotReserved sl).isNone
  match l.find? (fun sl => s.slotReserved sl == some j.uid) with
  | some sl => some sl
  | none => match l.find? (fun sl => (s.slotRec sl).st != .free && (s.slotRec sl).uid == j.uid) with
    | some sl => some sl
    | none => if j.slot.val ≠ 0 && free j.slot then some j.slot.val else l.find? free

/-- Answer of a domain head to a JOIN_REQ: the refusal cause, or the slot (R367). -/
def State.joinDecide (s : State) (j : Join) (epochLen : Nat) : Nat × Nat :=
  if (List.range 64).any (fun sl => (s.slotRec sl).st == .counted && (s.slotRec sl).uid == j.uid) then (4, 0)
  else if j.role.val ≤ 1 then (3, 0)
  else if epochLen ≠ s.im Img.epochUs then (2, 0)
  else match s.slotFor j with
    | some sl => (0, sl)
    | none => (1, 0)

/-- R366 to R368: a JOIN_REQ is received. A relay passes it up. -/
def runJoinReq (e : Fin 4) (src : Fin 64) (j : Join) (epochLen : Nat) (hops : Nat) (s : State) : Host.Outcome State Fault Refusal :=
  .next (
    if !s.takes e .joinReq then s
    else
      let s := s.recvFrame e .joinReq
      if !s.isDomainHead then
        (s.pathNote e j.uid hops (j.role.val == 4)).relay e { kind := .joinReq, dst := 0, src := src, otag := 0, slot := 0, payload := leBytes 8 j.uid.toNat ++ leBytes 1 j.slot.val ++ leBytes 1 j.role.val ++ leBytes 6 j.epoch.toNat }
      else
        let (cause, sl) := s.joinDecide j epochLen
        let s := if cause = 0 then
            let s := if s.led.pubEpoch < j.epoch.toNat then s.raiseAbove j.epoch.toNat else s
            (s.modSlot sl fun _ => { st := .joining, uid := j.uid, eye := e.val, hop := hops, gh := j.role.val == 4, sb := j.role.val == 2 }).modEye e fun x => { x with child := true }
          else s.modLace fun l => { l with joinRef := satAdd 0xFFFF l.joinRef 1 }
        s.sendFrame e { kind := .joinGrant, dst := src, src := 0, otag := 0, slot := slotFin sl, payload := leBytes 8 j.uid.toNat ++ leBytes 1 sl ++ leBytes 1 cause ++ leBytes 6 s.led.pubEpoch })

/-- R367, R369: a JOIN_GRANT for this unit. -/
def runJoinGrant (e : Fin 4) (j : Join) (s : State) : Host.Outcome State Fault Refusal :=
  .next (
    if !s.takes e .joinGrant then s
    else
      let s := s.recvFrame e .joinGrant
      if j.uid != s.uid || s.lace.joining.isNone then s
      else if j.slot.val = 0 then s.modLace fun l => { l with joining := none, refused := true }
      else
        let ep := s.led.epoch
        ((s.modLace fun l => { l with joining := none, refused := false, mySlot := j.slot.val, formerSlot := j.slot.val, fullSet := true, grantEp := ep, noMarker := 0 }).releaseSrc 332).helloAll)

/-- The energy pairs and the DRAIN in which a slot takes part are over (R393, R394, LACE_DRAIN_ON). -/
def State.pairEnds (s : State) (sl : Nat) : State :=
  s.modLace fun l => { l with pairs := l.pairs.filter (fun p => p.1 != sl && p.2 != sl), drain := match l.drain with
    | some (a, b) => if a = sl ∨ b = sl then none else some (a, b)
    | none => none }

/-- A slot goes FREE (R44, R370, R371). -/
def State.freeLaceSlot (s : State) (sl : Nat) : State :=
  let s := (s.modLace fun l => { l with staged := l.staged.filter fun x => x.1 != sl }).pairEnds sl
  (s.modSlot sl fun _ => {}).commitSlot sl .free

/-- R370: a LEAVE is received. -/
def runLeave (e : Fin 4) (uid : BitVec 64) (s : State) : Host.Outcome State Fault Refusal :=
  .next (
    if !s.takes e .leave then s
    else
      let s := s.recvFrame e .leave
      if !s.isDomainHead then s.relay e { kind := .leave, dst := 0, src := 0, otag := 0, slot := 0, payload := leBytes 8 uid.toNat }
      else match (List.range 64).find? (fun sl => (s.slotRec sl).st != .free && (s.slotRec sl).uid == uid) with
        | some sl => s.freeLaceSlot sl
        | none => s)

/-- R377: a LOST frame is received. -/
def runLost (e : Fin 4) (slots : BitVec 64) (s : State) : Host.Outcome State Fault Refusal :=
  .next (if s.takes e .lost then
      let s := s.recvFrame e .lost
      s.slotsLost ((List.range 64).filter fun sl => sl ≠ 0 && slots.getLsbD sl)
    else s)

/-- R357, R360, R380: an OP from the parent. A member takes it as its own, a group head at the endpoint it shows. The unit
takes it as a request outside a bundle of its own, because the root alone judges a bundle of the tree; a member of one carries
IN_BUNDLE here until it ends (R69, R86; DEDUCED, assumption 109). -/
def runOp (e : Fin 4) (dst : Fin 64) (ws : Words4) (otag : BitVec 10) (s : State) : Host.Outcome State Fault Refusal :=
  .next (
    if !s.takes e .op then s
    else
      let s := s.recvFrame e .op
      if dst.val ≠ s.lace.mySlot then s.relay e { kind := .op, dst := dst, src := 0, otag := otag, slot := 0, payload := words4Bytes ws }
      else
        let r := Req.ofWords ws.w0 ws.w1 ws.w2 ws.w3
        let ep := if s.isGroupHead then s.foldEp (liOf r.ep) else liOf r.ep
        s.offer 3 [{ r with ep := ep, cls := 3, bnd := false, tree := r.bnd, fep := liOf r.ep, otag := otag.toNat }])

/-- The root keeps the active pairs and the DRAIN from the answers to ENERGY orders (R393, R394, LACE_DRAIN_ON). -/
def State.noteEnergy (s : State) (o : Op) (c : Code) : State :=
  if o.req.kind != .energy || c != .applied then s
  else
    let x := energyOf o.val
    let sl := slotOf o.req.ep
    if x.order = 0 then s.pairEnds sl
    else s.modLace fun l =>
      if x.order = 2 then l
      else { l with pairs := l.pairs.filter (· ≠ (sl, x.partner)) ++ [(sl, x.partner)], drain := if x.order = 3 then some (sl, x.partner) else l.drain }

/-- R103, R360: a CPL from a child eyelet. -/
def runCpl (e : Fin 4) (ws : Words4) (otag : BitVec 10) (s : State) : Host.Outcome State Fault Refusal :=
  .next (
    if !s.takes e .cpl then s
    else
      let s := s.recvFrame e .cpl
      if !s.isDomainHead then s.relay e { kind := .cpl, dst := 0, src := 0, otag := otag, slot := 0, payload := words4Bytes ws }
      else
        let c := Cpl.ofWords ws otag.toNat
        let s := match s.slotAt otag.toNat with
          | some t => if t.answeredBy c then s.noteEnergy t.op c.code else s
          | none => s
        s.remoteDone otag.toNat c)

/-- A slot is counted toward the cut (R367, R369). -/
def State.countSlot (s : State) (sl : Nat) : State :=
  let s := if (s.slotRec sl).sb then s.modLace fun l => { l with mirrored := 0, sentTab := [] } else s
  ((s.modSlot sl fun x => { x with st := .counted, lost := false, counts := 0, coming := [] }).pulseSrc 338 sl).raiseEvt 220 (reqrSource 338)

/-- Entries that a FULL set leaves out read ABSENT (R357, R372). -/
def State.fullRest (s : State) (sl : Nat) (l : List (Nat × Entry)) : List (Nat × Entry) :=
  (s.led.cur.filter fun x => slotOf x.1 == sl && x.2.st != .absent && !l.any (fun y => y.1 == liOf x.1)).map fun x => (liOf x.1, {})

/-- Store a DELTA fragment (R369, R374, R375, R390). -/
def State.stageDelta (s : State) (sl : Nat) (d : DeltaFrame) : State :=
  let r := s.slotRec sl
  let takes := match r.st with
    | .counted => true
    | .joining | .parked => d.full
    | _ => false
  if !takes then s
  else
    let ep := d.epoch.toNat
    let old := match s.lace.staged.find? (fun x => x.1 == sl && x.2.1 == ep && !x.2.2.1) with
      | some x => x.2.2.2
      | none => []
    let l := old ++ d.recs.map fun x => (x.1.val, Entry.ofWords x.2)
    let l := if d.last && d.full then l ++ s.fullRest sl l else l
    let s := s.modLace fun x => { x with staged := x.staged.filter (fun y => !(y.1 == sl && y.2.1 == ep && !y.2.2.1)) ++ [(sl, ep, d.last, l)] }
    if !d.last then s
    else
      let s := if r.st = .counted then s else s.countSlot sl
      let ready := s.cyc + (l.length + 3) / 4 + 16
      let now := s.cyc
      let s := s.modSlot sl fun x => { x with ep := ep, counts := x.deliveredBy now, coming := x.coming.filter (fun y => decide (now < y.2)) ++ [(ep, ready)] }
      if d.parked then s.modSlot sl fun x => { x with st := .parked } else s

/-- R372 to R375: a DELTA fragment is received. -/
def runDelta (e : Fin 4) (src : Fin 64) (d : DeltaFrame) (s : State) : Host.Outcome State Fault Refusal :=
  .next (
    if !s.takes e .delta then s
    else
      let s := s.recvFrame e .delta
      if !s.isDomainHead then
        let p := leBytes 6 d.epoch.toNat ++ leBytes 2 d.recs.length ++ leBytes 1 (b2n d.last + 2 * b2n d.full + 4 * b2n d.parked) ++ leBytes 7 0 ++ d.recs.flatMap fun x => leBytes 2 x.1.val ++ words4Bytes x.2
        s.relay e { kind := .delta, dst := 0, src := src, otag := 0, slot := 0, payload := p }
      else s.stageDelta src d)

/-- Presentation that a SLOTTAB record spells (R357). -/
def presOfCode (c epoch : Nat) : Pres :=
  match c with
  | 0 => .present
  | 1 => .unreachable epoch
  | _ => .free

/-- R384: MIRROR frames fill the shadow of a standby root. The set of the entries, which follows a slot table, completes the
publication. -/
def runMirror (e : Fin 4) (m : MirrorFrame) (s : State) : Host.Outcome State Fault Refusal :=
  .next (
    if !s.takes e .mirror then s
    else
      let s := s.recvFrame e .mirror
      if s.glb.role != 2 then s
      else s.modLace fun l =>
        let sh := m.recs.foldl (fun t x => t.set {} x.1.val (Entry.ofWords x.2)) l.shadow
        let st := m.slots.foldl (fun t x => t.set none x.1.val (some (presOfCode x.2.1.val m.epoch.toNat, x.2.2))) l.shadowSlots
        { l with shadow := sh, shadowSlots := st, mirrorEpoch := if m.last && m.slots.isEmpty then some m.epoch.toNat else l.mirrorEpoch })

/-- R357, R536, R584, R585: a BULK frame for this unit. -/
def runBulk (e : Fin 4) (src : Fin 64) (b : BulkFrame) (s : State) : Host.Outcome State Fault Refusal :=
  .next (
    if !s.framesPass e then s
    else
      let s := s.recvFrame e .bulk
      let down := s.lace.parent == some e.val
      match b.kind.val, down with
      | 1, true => s.remAnswer e b.ofs
      | 1, false => if s.isDomainHead then s.remReceive b.data else s
      | 2, true => s.parentBlock b.ofs b.data
      | 3, true => s.parentUpdate e (numAt b.data 0 4)
      | 4, false => if s.isDomainHead then s.updAnswer src b.data else s
      | _, _ => s)

/-- LACE_LEAVE (R370). -/
def State.leaveTree (s : State) : State :=
  if s.glb.role = 0 then s
  else
    let f : Frame := { kind := .leave, dst := 0, src := s.mySlotUp, otag := 0, slot := 0, payload := leBytes 8 s.uid.toNat }
    let head := s.isDomainHead
    let s := s.sendUp f
    let s := s.modLace fun l => { l with left := true, parent := none, mySlot := 0, joining := none, refused := false, hop := if head then l.hop else 255, freeAll := head }
    (s.modGlb fun g => { g with role := 0 }).helloAll

/-- The next epoch of a domain head that has left (R370). -/
def State.leaveFinish (s : State) : State :=
  if !s.lace.freeAll then s
  else
    let s := ((List.range 64).filter (fun sl => sl ≠ 0 && (s.slotRec sl).st != .free)).foldl (fun s sl => s.freeLaceSlot sl) s
    (s.modLace fun l => { l with freeAll := false, hop := 255 }).helloAll

/-- R370: LACE_LEAVE is written with 1. -/
def runLeaveCommand (_i : Iface) (s : State) : Host.Outcome State Fault Refusal := .next (if s.live then s.leaveTree else s)

/-- R371: LACE_HOLD_S has passed. -/
def runSlotHoldExpire (sl : Fin 64) (s : State) : Host.Outcome State Fault Refusal :=
  .next (if s.isDomainHead && (s.slotRec sl).st == .unreachable && s.im Img.laceHoldS != 0 && (s.slotReserved sl).isNone then s.freeLaceSlot sl else s)

/-- Every operation on the endpoints that a test selects ends UNREACHABLE, in flight or waiting at Stitch, and the bundles that
name one abort, with those endpoints as causes (R71, R120, R378). -/
def State.opsUnreachable (s : State) (f : Nat → Bool) : State :=
  let s := s.abortWhere f
  let wait := (s.pipe.fastQ ++ s.pipe.normQ).filter fun o => f o.req.ep && o.bundle.isNone
  let s := s.modPipe fun p => { p with fastQ := p.fastQ.filter (fun o => !(f o.req.ep && o.bundle.isNone)), normQ := p.normQ.filter (fun o => !(f o.req.ep && o.bundle.isNone)) }
  let s := wait.foldl (fun s o => s.complete o.req o.seq .unreachable (s.entryVal o.req)) s
  ((s.inFlight.filter fun x => f x.2.op.req.ep).map (·.1)).foldl (fun s k =>
    match s.slotAt k with
    | none => s
    | some t => match t.op.bundle with
      | some b => (s.freeTack k).bundleOutcome b
      | none => s.endOp k .unreachable) s

/-- A slot is declared unreachable (R43, R376 to R378, R394): its operations end, its staged entries go, the other end of
an energy pair gets END. -/
def State.declareSlot (s : State) (sl : Nat) : State :=
  let ep := s.led.epoch
  let s := s.modSlot sl fun x => { x with st := .unreachable, lost := false }
  let s := s.modLace fun l => { l with staged := l.staged.filter fun x => x.1 != sl }
  let s := ((s.commitSlot sl (.unreachable ep)).pulseSrc 333 sl).raiseEvt 221 (reqrSource 333)
  let s := s.opsUnreachable fun id => slotOf id == sl
  let others := (s.lace.pairs.filter fun p => p.1 == sl || p.2 == sl).map fun p => if p.1 = sl then p.2 else p.1
  let s := s.pairEnds sl
  others.foldl (fun s o =>
    let (q, s) := s.stamp
    s.toStitch { req := { ep := epId o liCharger, kind := .energy, val := 0, cls := 5, reqr := 0x22 }, seq := q, epoch := ep }) s

/-- A stored entry of the shadow is taken over: it is no commit (R44, R386). -/
def State.takeEntryOver (s : State) (id : Nat) (e : Entry) : State := s.modLed fun l => { l.put id e with cmtNow := l.cmtNow }

/-- A slot that the shadow shows FREE is taken over FREE (R44, R386). -/
def State.takeFreeOver (s : State) (sl : Nat) : State :=
  s.modLed fun l => { l with slotPres := l.slotPres.set .present sl .free, journal := l.journal ++ [.slot l.epoch sl .free] }

/-- R385, R386: a standby root takes over. A slot that no unit has held, which the slot table shows with identity 0, stays
free. -/
def runTakeover (s : State) : Host.Outcome State Fault Refusal :=
  .next (
    let me := if s.lace.mySlot = 0 then s.lace.formerSlot else s.lace.mySlot
    let root := s.lace.rootUid
    let seen := (List.range 4).any fun e => match (s.eye e).st, (s.eye e).last with
      | .up, some h => h.hop.toNat != 255 && h.rootUid == root
      | _, _ => false
    if !(s.glb.mode == .run && s.glb.role == 2 && s.imb Img.laceTakeEn && decide (s.im Img.laceTakeEp ≤ s.lace.sinceMarker) && s.lace.mirrorOkAtMarker && !seen) then s
    else
      let sh := s.lace.shadow
      let tab := s.lace.shadowSlots
      let s := sh.foldl (fun s x =>
        let sl := slotOf x.1
        if sl = 0 then s.takeEntryOver (epId me (liOf x.1)) x.2 else if sl = me then s else s.takeEntryOver x.1 x.2) s
      let s := (tab.filter fun x => match x.2 with
        | some (p, _) => p == .free && x.1 != me
        | none => false).foldl (fun s x => s.takeFreeOver x.1) s
      let held := (tab.filter fun x => match x.2 with
        | some (p, u) => p != .free && u != 0 && x.1 != me
        | none => false).map fun x => (x.1, match x.2 with
        | some (_, u) => u
        | none => 0)
      let s := ((me, root) :: held).foldl (fun s x =>
        let ep := s.led.epoch
        (s.modSlot x.1 fun _ => { st := .unreachable, uid := x.2 }).commitSlot x.1 (.unreachable ep)) s
      let own := s.uid
      let s := s.modGlb fun g => { g with role := 1, takenOver := true }
      let s := s.modLace fun l => { l with parent := none, mySlot := 0, joining := none, refused := false, hop := 0, rootUid := own, mirrored := (l.mirrorEpoch.getD 0), noMarker := 0, sinceMarker := 0 }
      (((s.releaseSrc 332).pulseSrc 337 me).raiseEvt 222 (reqrSource 337)).helloAll)

/-- LACE_WAKE_SLOT (R391): IDLE for 100 µs on the enabled eyelet toward the slot, from a domain head or a relay that has a way to
it; 0 is ignored. How a relay on the path hears of the order the spec does not say: it acts on a write of its own register
(DESIGN CHOICE, assumption 145). -/
def State.wakeSlot (s : State) (sl : Nat) : State :=
  let e := (s.slotRec sl).eye
  if sl = 0 || !(s.isDomainHead || (s.slotRec sl).st != .free) || !s.laceOn e then s
  else
    let t := s.time + 100 * usTime
    s.modEye e fun x => { x with idleUntil := t }

/-- R391: LACE_WAKE_SLOT is written. -/
def runWakeSlotCommand (_i : Iface) (sl : Fin 64) (s : State) : Host.Outcome State Fault Refusal := .next (if s.live then s.wakeSlot sl else s)

/-- R18, R341, R391: 20 µs of signal on the parent eyelet of a parked unit, or of one that is entering PARKED. -/
def runLaceWakeDetect (s : State) : Host.Outcome State Fault Refusal :=
  .next (if (s.glb.mode == .parked || s.glb.parkPend) && s.lace.parent.isSome then s.wake 2 else s)

/-- R394: the time limit of an energy order expires. -/
def runEnergyTimeLimit (s : State) : Host.Outcome State Fault Refusal :=
  .next (match s.lace.energy with
    | some o => if s.live && o.tlim != 0 then s.energyEnd true else s
    | none => s)

/-- R395: NET stays below LACE_COVER_V during a DRAIN: the sinking end turns to SOURCE until an END commits. -/
def runNetCoverLoss (s : State) : Host.Outcome State Fault Refusal :=
  .next (match s.lace.energy with
    | some o => if s.live && o.order == 2 then
        (s.modLace fun l => { l with energy := some { o with order := 1, tlim := 0 } }).reverseOn
      else s
    | none => s)

/-- Items of a foreign device that the image names (R396). -/
def State.devItems (s : State) (d : Nat) : List Nat := (List.range 16).filter fun i => s.im Img.twb1IType (16 * d + i) != 0

/-- n × 2^e in thousandths, rounded to the nearest one with ties upward (R397; DESIGN CHOICE, assumption 120). -/
def milli (n e : Int) : Int :=
  if 0 ≤ e then n * 1000 * 2 ^ e.toNat else (2 * (n * 1000) + 2 ^ (-e).toNat) / (2 * 2 ^ (-e).toNat)

/-- A LINEAR11 word in thousandths: a signed exponent above a signed mantissa (R397; PRESUMED, assumption 120). -/
def ofLinear11 (w : BitVec 16) : Int := milli (w.extractLsb' 0 11).toInt (w.extractLsb' 11 5).toInt

/-- The exponent that VOUT_MODE gives, where its mode is linear (R397; PRESUMED, assumption 120). -/
def voutExp (m : Nat) : Option Int := if m < 32 then some (BitVec.ofNat 5 m).toInt else none

/-- The value published for the word that item k read (R397). A VOUT_MODE that is not linear leaves it open (DESIGN CHOICE,
assumption 120). -/
def State.foreignRead (s : State) (k : Nat) (w : BitVec 16) : BitVec 32 × State :=
  match s.im Img.twb1IType k with
  | 2 => match voutExp (s.vmodes.get 0 k) with
    | some e => (BitVec.ofInt 32 (milli w.toNat e), s)
    | none => s.fresh
  | 5 => (w.setWidth 32, s)
  | _ => (BitVec.ofInt 32 (ofLinear11 w), s)

/-- The word that a foreign operation writes: OPERATION, or VOUT_COMMAND by VOUT_MODE (R397). -/
def State.foreignWord (s : State) (k : Nat) (o : Op) : BitVec 16 × State :=
  match o.req.kind with
  | .state => (if bitsOf o.req.val.toNat 7 0 = EState.on.code then 0x80 else 0x00, s)
  | _ => match voutExp (s.vmodes.get 0 k) with
    | some e => (BitVec.ofInt 16 ((2 * (o.val.toNat : Int) * 2 ^ (-e).toNat + 1000 * 2 ^ e.toNat) / (2000 * 2 ^ e.toNat)), s)
    | none => (s.fresh.1.setWidth 16, s.fresh.2)

/-- The write of PAGE before an access, where it differs from the page written last (R397). -/
def pageWrite (last : Option Nat) (page : Nat) : List (List Byte) := if last = some page then [] else [[0x00, BitVec.ofNat 8 page]]

/-- The PMBus accesses of a foreign operation, command first: the write, its read-back and STATUS_WORD (R397, R398). -/
def State.foreignWrites (s : State) (k : Nat) (o : Op) : List (List Byte) :=
  let w := (s.foreignWord k o).1
  pageWrite (s.fdev (k / 16)).page (s.im Img.twb1IPage k) ++
  (if o.req.kind = .state then [[0x01, w.setWidth 8], [0x01], [0x79]] else [[0x21, w.setWidth 8, (w >>> 8).setWidth 8], [0x21]])

/-- The command that reads an item (R397, R400). -/
def foreignCmd (ty : Nat) : Byte := match ty with | 1 => 0x01 | 2 => 0x8B | 3 => 0x8C | 4 => 0x8D | _ => 0x79

/-- The PMBus accesses of a poll: each item read on its page, outputs by OPERATION (R397, R399, R400). -/
def State.foreignReads (s : State) (d : Nat) : List (List Byte) :=
  ((s.devItems d).foldl (fun a i =>
    let page := s.im Img.twb1IPage (16 * d + i)
    (a.1 ++ pageWrite a.2 page ++ [[foreignCmd (s.im Img.twb1IType (16 * d + i))]], some page)) (([] : List (List Byte)), (s.fdev d).page)).1

/-- The page that accesses leave written (R397). -/
def pageAfter (last : Option Nat) (l : List (List Byte)) : Option Nat :=
  l.foldl (fun p b => match b with
    | [0x00, x] => some x.toNat
    | _ => p) last

/-- Publish the value of a foreign item, VALID or STALE (R84, R399). -/
def State.foreignPub (s : State) (k : Nat) (v : BitVec 32) (valid : Bool) : State :=
  s.offer 7 [{ ep := liForeign k, kind := .publish, val := v, val2 := if valid then 1 else 0, cls := 5, reqr := 0x29 }]

/-- A device is declared unreachable (R43, R233, R400). No fault source moves its outputs: the forced stops behind them carry
the requester of foreign polling, which found the loss (DESIGN CHOICE, assumption 118). -/
def State.devLost (s : State) (d : Nat) : State :=
  let ep := s.led.epoch
  let outs := ((List.range 16).map fun i => liForeign (16 * d + i)).filter fun li => isOutputType (s.ent li).ty
  let s := (s.commitDev d (.unreachable ep)).opsUnreachable fun id => slotOf id == 0 && (match kindOf (liOf id) with
    | .foreign k => k / 16 == d
    | _ => false)
  outs.foldl (fun s li => s.forceDependents li 0x29) s

/-- The device is presented UNREACHABLE. -/
def State.devGone (s : State) (d : Nat) : Bool := s.led.devPres.get .present d != .present

/-- The operation that TWB1 carries out: the first issued of all that are not confirmed (R398). -/
def State.twb1Op (s : State) : Option (Nat × TackSlot) :=
  s.inFlight.foldl (fun b x =>
    let foreign := match kindOf (liOf x.2.op.req.ep) with
      | .foreign _ => slotOf x.2.op.req.ep == 0
      | _ => false
    if !foreign || x.2.confirmed then b
    else match b with
      | some y => if y.2.issued ≤ x.2.issued then b else some x
      | none => some x) none

/-- The foreign device of an operation. -/
def opDevice (t : TackSlot) : Nat :=
  match kindOf (liOf t.op.req.ep) with
  | .foreign k => k / 16
  | _ => 32

/-- The operation of a device that TWB1 carries out now: no poll has begun before it (R398). -/
def State.devOp (s : State) (d : Nat) : Option (Nat × TackSlot) :=
  if s.lace.twb1.isSome then none
  else match s.twb1Op with
    | some x => if opDevice x.2 = d then some x else none
    | none => none

/-- The controller is free: the poll of the lowest-numbered device that waits begins, unless an operation goes ahead of it
(R398). The order among polls that wait is open (DESIGN CHOICE, assumption 146). -/
def State.twb1Begin (s : State) : State :=
  if s.lace.twb1.isSome || s.twb1Op.isSome then s
  else match (List.range 32).find? fun d => (s.fdev d).polling with
    | some d => s.modLace fun l => { l with twb1 := some d }
    | none => s

/-- R399: the poll period of a device elapses: its items are to be read. One that missed three periods is published STALE. -/
def runForeignPoll (d : Fin 32) (s : State) : Host.Outcome State Fault Refusal :=
  .next (
    if !s.live || !s.imb Img.twb1DUsed d then s
    else
      let items := s.devItems d
      let s := s.modFdev d fun f => { f with polling := true, miss := items.foldl (fun t i => t.set 0 i (t.get 0 i + 1)) f.miss }
      (items.foldl (fun s i =>
        let k := 16 * d.val + i
        if (s.fdev d).miss.get 0 i = 4 && s.im Img.twb1IType k != 1 then s.foreignPub k (s.stored (liForeign k)).val false else s) s).twb1Begin)

/-- The read-back of R398 confirms an operation. -/
def readBackOk (o : Op) (ok : Bool) (status : BitVec 16) : Bool :=
  ok && match o.req.kind with
    | .state => if bitsOf o.req.val.toNat 7 0 = EState.on.code then !status.getLsbD 11 else status.getLsbD 6
    | _ => true

/-- The accesses of the transaction that TWB1 carries out on device d (R397, R398). -/
def State.twb1Wire (s : State) (d : Nat) : List (List Byte) :=
  if s.lace.twb1 = some d then s.foreignReads d
  else match s.devOp d with
    | some x => (match kindOf (liOf x.2.op.req.ep) with
      | .foreign k => s.foreignWrites k x.2.op
      | _ => [])
    | none => []

/-- A transaction on device d has ended: its accesses, and the page that they leave (R397). -/
def State.wireDone (s : State) (d : Nat) : State :=
  let l := s.twb1Wire d
  s.modFdev d fun f => { f with wire := l, page := pageAfter f.page l }

/-- A transaction was not acknowledged: three in a row lose the device (R400). It leaves the page that was written last. -/
def State.twb1Failed (s : State) (d : Nat) : State :=
  let s := (if s.lace.twb1 = some d then s.modLace fun l => { l with twb1 := none } else s).modFdev d fun f => { f with fails := min 3 (f.fails + 1), nack := satAdd 0xFFFF f.nack 1, polls := 0, polling := f.polling && s.lace.twb1 != some d }
  if (s.fdev d).fails = 3 && !s.devGone d then s.devLost d else s

/-- The operation in progress on device d is written and read back (R398). -/
def State.twb1Written (s : State) (d : Nat) (readback status : BitVec 16) : State :=
  match s.devOp d with
  | none => s
  | some (k, x) =>
    let s := (s.wireDone d).modFdev d fun f => { f with fails := 0 }
    let item := match kindOf (liOf x.op.req.ep) with
      | .foreign i => i
      | _ => 0
    let (w, s) := s.foreignWord item x.op
    let ok := readback == w
    let on := bitsOf x.op.req.val.toNat 7 0 == EState.on.code
    let off := ok && x.op.req.kind == .state
    let s := s.modFdev d fun f => { f with outOff := if off then f.outOff.set false (item % 16) (!on) else f.outOff }
    if readBackOk x.op ok status then s.confirm k else s

/-- The poll in progress on device d is answered: what it read counts as refreshed (R399), and a device that was lost returns
after three of them (R400). -/
def State.twb1Polled (s : State) (d : Nat) (values : List (Fin 16 × BitVec 16)) (outs : List (Fin 16 × Byte)) : State :=
  if s.lace.twb1 ≠ some d then s
  else
    let gone := s.devGone d
    let read := values.map (·.1.val) ++ outs.map (·.1.val)
    let s := (s.wireDone d).modLace fun l => { l with twb1 := none }
    let s := s.modFdev d fun f => { f with outOff := outs.foldl (fun t o => t.set false o.1.val (!o.2.getLsbD 7)) f.outOff, fails := 0, polling := false, polls := if gone then min 3 (f.polls + 1) else 0, miss := read.foldl (fun t i => t.set 0 i 0) f.miss }
    if gone && (s.fdev d).polls < 3 then s
    else
      let s := if gone then
          let s := (s.modFdev d fun f => { f with polls := 0 }).commitDev d .present
          outs.foldl (fun s o =>
            let k := 16 * d + o.1.val
            if s.im Img.twb1IType k = 1 then s.commit (liForeign k) { st := some (if o.2.getLsbD 7 then .on else .off), cls := 5, reqr := 0x29 } else s) s
        else s
      values.foldl (fun s v =>
        let k := 16 * d + v.1.val
        if 2 ≤ s.im Img.twb1IType k then
          let (x, s) := s.foreignRead k v.2
          s.foreignPub k x true
        else s) s

/-- R397 to R400: a TWB1 transaction ends, and the next one begins. -/
def runTwb1TransactionDone (d : Fin 32) (t : Twb1Result) (s : State) : Host.Outcome State Fault Refusal :=
  .next (
    if !s.live || !s.imb Img.twb1DUsed d then s
    else (match t with
      | .failed => s.twb1Failed d
      | .opDone readback status => s.twb1Written d readback status
      | .pollDone values outs => s.twb1Polled d values outs).twb1Begin)

end Sys2Proof.Machine
end

