-- ==== Sys2Proof/Machine/Rails.lean ====
section
/-! DEFINITION. Rails, phases and load switches (R129 to R177, R201, R202, R234, R235, R658, R659). -/

namespace Sys2Proof.Machine

/-- Every enabled phase of a rail goes to mid (R156, R158, R163). -/
def State.midAll (s : State) (r : Nat) : State :=
  (s.railPhases r).foldl (fun s p => s.modPhase p fun x => { x with mid := true }) s

/-- The state of a slot-0 endpoint is one of those listed. -/
def State.isIn (s : State) (li : Nat) (l : List EState) : Bool := l.contains (s.st li)

/-- STAGE_FAULT (R132, R142). -/
def runStageFault (p : Fin 48) (low : Bool) (s : State) : Host.Outcome State Fault Refusal :=
  .next (if s.imb Img.phUsed p && s.live then
      let on := s.st (liPhase p) == .on
      let s := s.modPhase p fun x => { x with tfault := true, mid := x.mid || on }
      s.assertSrc (2 * p) (b2n low)
    else s)

/-- At least half of the phases of a rail that are ON are limited (R141). -/
def State.overloadNow (s : State) (r limited : Nat) : Bool := decide ((s.phasesOn r).length ≤ 2 * limited)

/-- PERSISTENT_CURRENT_LIMIT (R140 to R144): a rail overload, or a phase fault. The limited cycles themselves arrive with
the current samples. The collector marks an overload on the rail's state as the last tick published it (R52); whether its request
or the flag alone does so follows from the entry that it finds (R141). -/
def runPersistentCurrentLimit (p : Fin 48) (limited : Nat) (s : State) : Host.Outcome State Fault Refusal :=
  .next (if s.imb Img.phUsed p && s.live && s.st (liPhase p) == .on then
      let r := s.phaseRail p
      let n := 2 * p.val + 1
      let ovl := s.overloadNow r limited
      let was := s.asserted n
      let s := s.modPhase p fun x => { x with clNow := true, limNow := true, mid := x.mid || (!ovl && !was) }
      let s := s.modRail r fun x => { x with clNow := true, clEval := true }
      let s := s.srcChange n (fun x => { x with line := true }) 0 ovl
      if ovl && !was && (s.seenSt r).running && (s.rail r).overload.isNone then
        let s := s.modRail r fun x => { x with overload := some n }
        if s.st r = .derated then s.commitFlags r 0 (reqrSource n) (flagMask fPROT) 0
        else s.offer 0 [{ stateReq r .derated 0 (reqrSource n) with prot := some true }]
      else s
    else s)

/-- OVERLOAD_END (R141): PROT_ACTIVE is cleared and the rail returns to ON, unless R139 keeps it DERATED. -/
def runOverloadEnd (p : Fin 48) (s : State) : Host.Outcome State Fault Refusal :=
  .next (
    let r := s.phaseRail p
    match (s.rail r).overload with
    | some n =>
      let s := s.modRail r fun x => { x with overload := none }
      let s := (s.railPhases r).foldl (fun s q => s.modPhase q fun x => { x with clNow := false }) s
      if s.st r = .derated && s.limitBelow r (s.policy r).limit then s.commitFlags r 1 (reqrSource n) 0 (flagMask fPROT)
      else s.offer 1 [{ stateReq r .on 1 (reqrSource n) with prot := some false }]
    | none => s)

/-- SPARE_FIRST_PULSE (R148): the spare switches, and the substitution that named it is confirmed. -/
def runSpareFirstPulse (p : Fin 48) (s : State) : Host.Outcome State Fault Refusal :=
  .next (match s.inFlight.find? (fun x => x.2.op.req.kind == .substitute && bitsOf x.2.op.val.toNat 10 0 == liPhase p) with
    | some x => (s.modPhase p fun y => { y with mid := false }).confirm x.1
    | none => s.lateConfirm fun o => o.req.kind == .substitute && bitsOf o.val.toNat 10 0 == liPhase p)

/-- PHASE_LATCH (R145). -/
def runPhaseLatch (p : Fin 48) (s : State) : Host.Outcome State Fault Refusal :=
  .next (if s.st (liPhase p) = .failed then
      s.offer 1 [stateReq (liPhase p) .latchedOff 1 (writerReqr (s.policy (liPhase p)).failWriter)]
    else s)

/-- PHASE_IMBALANCE (R136). -/
def runPhaseImbalance (p : Fin 48) (s : State) : Host.Outcome State Fault Refusal :=
  .next (if s.st (liPhase p) == .on && s.im Img.railImbPct (s.phaseRail p) != 0 then s.raiseEvt p 0x21 else s)

/-- A PHASES request of the shedding loop (R149). -/
def State.shedRequest (s : State) (r n : Nat) : State :=
  s.offer 6 [{ ep := r, kind := .phases, val := BitVec.ofNat 32 n, cls := 5, reqr := 0x21 }]

/-- SHED_EVALUATION (R149, R150), on the states that the last tick published (R52). -/
def runShedEvaluation (r : Fin 24) (s : State) : Host.Outcome State Fault Refusal :=
  .next (if s.live && (s.seenSt r).running && !(s.loop r).frozen then
      let n := (s.phasesSeen r).length
      let iMean := (s.rail r).mean10
      let limitHit := (s.rail r).clEval
      let (lo, hi) := s.phEnvOf r
      let upC := decide (((100 * s.im Img.railShedUp r * n : Nat) : Int) ≤ iMean)
      let dnC := decide (iMean < ((100 * s.im Img.railShedDn r * (n - 1) : Nat) : Int))
      let s := s.modRail r fun x => { x with clEval := false, dwellUp := if upC then satAdd 0xFFFF x.dwellUp 1 else 0, dwellDn := if dnC then satAdd 0xFFFF x.dwellDn 1 else 0 }
      let x := s.rail r
      if limitHit && decide (n < hi) then s.shedRequest r hi
      else if s.im Img.railDwellUp r ≤ x.dwellUp && upC && decide (n < hi) then s.shedRequest r (n + 1)
      else if s.im Img.railDwellDn r ≤ x.dwellDn && dnC && decide (lo < n) then s.shedRequest r (n - 1)
      else s
    else s)

/-- The sum of a rail's current stream over the last 10 µs in mA, and how many samples it holds (R201). -/
def Rail.sum10 (x : Rail) : Int × Nat := ((x.isamp.take 10).foldl (· + ·) 0, max 1 (x.isamp.take 10).length)

/-- V_nom of a rail: the latest set-point of a class other than P5, or the initial value of R38 (R201). -/
def State.vnomOf (s : State) (r : Nat) : Nat := ((s.rail r).vnom).getD (s.im Img.railEnvVlo r)

/-- The set-point that the load line asks for under a mean current of sum / n mA, in mV, ties upward (R201). -/
def loadLine (vnom uohm : Nat) (i : Int × Nat) : Int :=
  (2 * ((vnom : Int) * 1000000 * i.2 - uohm * i.1) + 1000000 * i.2).fdiv (2000000 * i.2)

/-- LOAD_LINE_EVALUATION (R201, R202), on the entry that the last tick published (R52). -/
def runLoadLineEvaluation (r : Fin 32) (s : State) : Host.Outcome State Fault Refusal :=
  .next (if s.live && (s.seenSt r).running && s.im Img.loopLlUohm r != 0 && !(s.loop (64 + r)).frozen then
      let v := loadLine (s.vnomOf r) (s.im Img.loopLlUohm r) (s.rail r).sum10
      let now := (s.seen r).val.toInt
      if (s.im Img.loopLlDb r : Int) ≤ (v - now).natAbs then
        s.offer 6 [{ ep := r, kind := .setpoint, val := BitVec.ofInt 32 v, cls := 5, reqr := 0x25 }]
      else s
    else s)

/-- An output of v µV is below one k-th of the target of its start, a changed target included (R154, R155). -/
def State.below (s : State) (r k v : Nat) : Bool :=
  decide (((k * v * 131072 : Nat) : Int) < ((s.rail r).newTarget.getD (s.rail r).target) * 1000)

/-- The output has been at or above 20 % of the target as it stands, a changed one included (R154, R155). -/
def State.seen20 (s : State) (r : Nat) : Bool := (s.rail r).vTop != 0 && !s.below r 5 (s.rail r).vTop

/-- A short is declared with the output at v µV: below 25 % of the target at 30 % of the ramp with the limit reached, or
below 20 % once it has been there, up to the sample that ends the ramp (R155). -/
def State.shorted (s : State) (r v : Nat) (limitedAt30 : Bool) : Bool :=
  s.st r == .starting && ((limitedAt30 && s.below r 4 v) || (s.seen20 r && !(s.rail r).rampOver && s.below r 5 v))

/-- The over-voltage test of a rail with the output at v µV: RAIL_OV_ABS in every state unless it is 0, the threshold above
the reference in STARTING, ON and DERATED (R157, R158, R160). -/
def State.overVolt (s : State) (r v : Nat) (abs : Bool) : Bool :=
  if abs then s.im Img.railOvAbs r != 0 && !s.isIn r [.absent] && decide (1000 * s.im Img.railOvAbs r < v)
  else (s.st r).alive && decide (500 * (s.rail r).vref * (1000 + s.im Img.railOvPct r) < 1000 * v)

/-- The under-voltage test of a rail with the output at v µV, in ON and DERATED (R157, R159, R160). -/
def State.underVolt (s : State) (r v : Nat) : Bool :=
  (s.st r).running && decide (1000 * v < 500 * (s.rail r).vref * (1000 - s.im Img.railUvPct r))

/-- What the die does at a short: every phase goes to mid, and the rail is discharged, unless an over-voltage of the same
core cycle leaves it at mid (R156, R161). -/
def State.shortAct (s : State) (r : Nat) : State :=
  let now := s.cyc
  let midOnly := (s.rail r).hwCyc == some (now, true) && !s.imb Img.railOvAct r
  (s.midAll r).modRail r fun x => { x with short := true, disch := if midOnly then x.disch else !x.discharged, hwCyc := if midOnly then x.hwCyc else some (now, false) }

/-- What the die does at an over-voltage (R158): discharge, or mid, which ends a discharge; it takes the place of a short's
action of the same core cycle (R161). -/
def State.ovAct (s : State) (r : Nat) : State :=
  let now := s.cyc
  let act := s.imb Img.railOvAct r
  let s := if act then s else s.midAll r
  s.modRail r fun x => { x with ovHw := true, disch := act, hwCyc := some (now, true) }

/-- SHORT_DETECT (R155, R156, R161). limitedAt30: this is the first loop sample at or after 30 % of the ramp, and the limit
was reached in the 10 µs before it. -/
def runShortDetect (r : Fin 40) (vout : Nat) (limitedAt30 : Bool) (s : State) : Host.Outcome State Fault Refusal :=
  .next (if s.live && s.shorted r vout limitedAt30 then
      (s.shortAct r).assertSrc (96 + 2 * r) 1
    else s)

/-- OVERVOLTAGE (R157, R158, R160, R161). -/
def runOvervoltage (r : Fin 40) (abs : Bool) (vout : Nat) (s : State) : Host.Outcome State Fault Refusal :=
  .next (if s.live && s.overVolt r vout abs then
      (s.ovAct r).assertSrc (97 + 2 * r) (b2n abs)
    else s)

/-- UNDERVOLTAGE (R157, R159, R160). -/
def runUndervoltage (r : Fin 40) (vout : Nat) (s : State) : Host.Outcome State Fault Refusal :=
  .next (if s.live && s.underVolt r vout then s.assertSrc (96 + 2 * r) 0 else s)

/-- OUTPUT_DISCHARGED (R104, R156, R162): discharge ends, a stop is confirmed; a short or a discharge time-out ends. -/
def runOutputDischarged (r : Fin 40) (s : State) : Host.Outcome State Fault Refusal :=
  .next (
    let s := s.modRail r fun x => { x with discharged := true, running := x.running && !x.disch, disch := false }
    let s := s.progress r .off
    let c := (s.src (96 + 2 * r)).cause
    if (s.src (96 + 2 * r)).line && (c == 1 || c == 3) then s.releaseSrc (96 + 2 * r) else s)

/-- DISCHARGE_TIMEOUT (R163). -/
def runDischargeTimeout (r : Fin 40) (s : State) : Host.Outcome State Fault Refusal :=
  .next (if s.live && s.st r == .stopping && !(s.rail r).discharged then
      let s := (s.midAll r).modRail r fun x => { x with en := false, disch := false }
      s.assertSrc (96 + 2 * r) 3
    else s)

/-- POWER_GOOD (R234): the reference has reached the target of the start and RAIL_PGOOD is 1, so the start is confirmed. -/
def runPowerGood (r : Fin 40) (s : State) : Host.Outcome State Fault Refusal :=
  .next (if s.st r == .starting && (s.rail r).ramped && (s.rail r).pgood then s.progress r .on else s)

/-- The start of a rail is confirmed and waits for its bundle (R119, R236). -/
def State.startConfirmed (s : State) (r : Nat) : Bool :=
  s.inFlight.any fun x => x.2.op.req.ep == r && x.2.op.req.kind == .state && x.2.op.links == [.on] && (x.2.confirmed || s.commitWaits x.1)

/-- POWER_GOOD_TIMEOUT (R235, R236). -/
def runPowerGoodTimeout (r : Fin 40) (s : State) : Host.Outcome State Fault Refusal :=
  .next (if s.live && s.st r == .starting && !s.startConfirmed r then s.assertSrc (96 + 2 * r) 2 else s)

/-- Averaging length of a rail's streams (RAIL_AVG_K). -/
def State.avgK (s : State) (r : Nat) : Nat := bitsOf (s.rwWord (0x020038 + 0x40 * r)).toNat 3 0

/-- Phase current in mA of an IMON current in nA (R130). What becomes of a fraction of a mA, and of a current outside the
linear range, is not said: the formula holds and rounds down (DESIGN CHOICE, assumption 113). -/
def State.phaseMa (s : State) (p : Nat) (imon : Int) : Int :=
  ((imon - 250 * s.im Img.phImonOfs p) * (1000 + s.ims Img.phTrim p)).fdiv 5000

/-- The current demand of a rail's loop in mA per phase: q × LOOP_IFS / 32,768, rounded down (R195; the fraction is DESIGN
CHOICE, assumption 134). -/
def State.demandMa (s : State) (r : Nat) : Int := ((s.loopSt r).q * (100 * s.im Img.loopIfs r : Nat)).fdiv 32768

/-- A high-side pulse that ended at a current of ma ended at the effective limit: of the demand and the limit it ends at the first,
and where both are equal at the limit (R138; the tie is DESIGN CHOICE, assumption 134). -/
def State.atLimit (s : State) (r : Nat) (ma : Int) : Bool :=
  let lim := s.effLimit r (s.policy r).limit
  decide (lim ≤ ma) && decide (lim ≤ s.demandMa r)

/-- A phase takes what its pins brought: its current, and the switching cycles that ended at the limit (R130, R138, R177). -/
def State.phaseSample (s : State) (p : Nat) (x : PhaseIn) : State :=
  let ma := s.phaseMa p x.imon
  let on := s.st (liPhase p) == .on
  let cycles := if on then x.cycles.map (s.atLimit (s.phaseRail p)) else []
  let hit := cycles.any id
  let last := cycles.getLast?
  let n := (cycles.filter id).length
  let s := s.modPhase p fun y =>
    let l := (ma :: y.samp).take 10
    { y with samp := l, cur := meanFloor l, clCnt := satAdd 0xFFFF y.clCnt n, clNow := last.getD y.clNow, limNow := y.limNow || hit }
  if hit then s.modRail (s.phaseRail p) fun y => { y with clNow := true, clEval := true } else s

/-- The current of one sample: the sum over the phases that are ON, or the internal sense of a buck or LDO (R167). -/
def State.railMa (s : State) (r : Nat) (pins : List (Nat × PhaseIn)) (sense : Int) : Int :=
  if r < 24 then (pins.filter (fun x => s.st (liPhase x.1) == .on)).foldl (fun t x => t + s.phaseMa x.1 x.2.imon) 0 else sense

/-- The measured channel that the image assigns to a rail's sense voltage (R167, R407). -/
def State.senseChan (s : State) (r : Nat) : Option Nat :=
  (List.range 256).find? fun c => s.imb Img.adcChUsed c && s.im Img.adcChSrc c == 0x80 + r

/-- One voltage sample in 0.25 mV: the reference plus the error converter's reading, or the assigned channel. With no
channel assigned the latest sample stands (DESIGN CHOICE, assumption 114). -/
def State.railSampleV (s : State) (r : Nat) : Nat :=
  if (s.rail r).running && r < 32 && !(s.loopSt r).oor then (s.rail r).verr
  else match s.senseChan r with
    | some c => min 65535 (4 * (s.chanOf c).val).toNat
    | none => (s.rail r).vsamp.headD 0

/-- The modulation of the switching frequency moves on by 1 µs; a new period of the pseudo-random mode draws the next
frequency (R166). -/
def State.sscStep (s : State) (r : Nat) : State :=
  if s.sscOn r (s.st r) then
    s.modRail r fun x =>
      let ph := x.sscPh + s.im Img.railSscRate r
      if ph < 1000 then { x with sscPh := ph } else { x with sscPh := ph - 1000, lfsr := Config.lfsr15 x.lfsr }
  else s

/-- The switching frequency of a rail in Hz: the triangle of mode 1 over its period, in mode 2 the place of the LFSR's value
in the spread (R166). The rule fixes neither the triangle's phase nor the map from the LFSR to a frequency (DESIGN CHOICE,
assumption 115). -/
def State.switchHz (s : State) (r : Nat) : Int :=
  let f : Int := 1000 * s.im Img.railFswKhz r
  let span := f * s.im Img.railSscSpread r
  if !s.sscOn r (s.st r) then f
  else
    let x := s.rail r
    let k : Int := if s.im Img.railSscMode r = 1 then (if x.sscPh < 500 then 4 * (x.sscPh : Int) - 1000 else 3000 - 4 * (x.sscPh : Int))
      else (x.lfsr.toNat : Int) * 2000 / 32767 - 1000
    f + span * k / 200000

/-- TELEMETRY_SAMPLE (R130, R166, R167): one voltage and one current sample. pins: those of the rail's phases, by phase
number. -/
def runTelemetrySample (r : Fin 40) (pins : List PhaseIn) (sense : Int) (s : State) : Host.Outcome State Fault Refusal :=
  .next (if s.live && s.imb Img.railUsed r then
      let v := s.railSampleV r
      let pins := (s.railPhases r).zip pins
      let cur := s.railMa r pins sense
      let off := s.isIn r [.off, .absent]
      let n := 2 ^ s.avgK r
      let now := s.cyc
      let s := (pins.foldl (fun s x => s.phaseSample x.1 x.2) s).sscStep r
      s.modRail r fun x =>
        let vs := (v :: x.vsamp).take 32768
        let cs := (cur :: x.isamp).take 32768
        { x with vsamp := vs, isamp := cs, vavg := (meanFloor ((vs.take n).map Int.ofNat)).toNat, iavg := meanFloor (cs.take n), vmax := if off then x.vmax else max x.vmax v, vmin := if off then x.vmin else min x.vmin v, ipk := if off then x.ipk else if x.ipkSet then max x.ipk cur else cur, ipkSet := x.ipkSet || !off, sampCyc := if off then none else some now }
    else s)

/-- The extremes of a rail are cleared; a sample of the same core cycle loads them after the clear (R168). -/
def State.railPkClr (s : State) (r : Nat) : State :=
  let now := s.cyc
  s.modRail r fun x =>
    if x.sampCyc = some now then { x with vmax := x.vsamp.headD 0, vmin := x.vsamp.headD 65535, ipk := x.isamp.headD 0, ipkSet := true }
    else { x with vmax := 0, vmin := 65535, ipk := 0, ipkSet := false }

/-- LS_IPK of every switch is cleared, with the ordering of R168 (R177). -/
def State.lsPkClr (s : State) : State :=
  let now := s.cyc
  (List.range 32).foldl (fun s n => s.modSwitch n fun x => if x.sampCyc = some now then { x with ipk := x.cur, ipkSet := true } else { x with ipk := 0, ipkSet := false }) s

/-- RAIL_PK_CLR (R168). -/
def runRailPkClr (r : Fin 40) (s : State) : Host.Outcome State Fault Refusal := .next (if s.live then s.railPkClr r else s)

/-- RAIL_LS_PK_CLR (R168). -/
def runRailLsPkClr (s : State) : Host.Outcome State Fault Refusal := .next (if s.live then s.lsPkClr else s)

/-- INRUSH_COMPLETE (R169). -/
def runInrushComplete (sw : Fin 32) (s : State) : Host.Outcome State Fault Refusal :=
  .next (if (s.switch sw).inrush then (s.modSwitch sw fun x => { x with inrush := false }).progress (liSwitch sw) (if s.st (liSwitch sw) = .derated then .derated else .on) else s)

/-- INRUSH_TIMEOUT (R169, R659). -/
def runInrushTimeout (sw : Fin 32) (s : State) : Host.Outcome State Fault Refusal :=
  .next (if (s.switch sw).inrush then (s.switchOff sw).detect (176 + sw) 1 else s)

/-- SWITCH_SHORT (R171, R659). -/
def runSwitchShort (sw : Fin 32) (s : State) : Host.Outcome State Fault Refusal :=
  .next (if (s.switch sw).gate || (s.switch sw).shortWait then
      ((s.switchOff sw).modSwitch sw fun x => { x with short := true, shortWait := false }).detect (176 + sw) 0
    else s)

/-- GATE_FAULT (R172). -/
def runGateFault (sw : Fin 32) (s : State) : Host.Outcome State Fault Refusal :=
  .next (if s.live && s.st (liSwitch sw) == .on then s.holdCause (176 + sw) 2 true else s)

/-- I_c of a load switch in mA (R173). -/
def State.icOf (s : State) (n : Nat) : Int :=
  let l := (s.policy (liSwitch n)).limit
  if l = 0 then (10 * s.im Img.lsIcont n : Nat) else l

/-- Trip level of a load switch in mA² µs (R174). -/
def State.i2tK (s : State) (n : Nat) : Int := ((s.im Img.lsI2tK n * 1000000000 : Nat) : Int)

/-- I2T_UPDATE (R173 to R175, R659). LS_I and LS_IPK take the mean current of each update: R177 gives the two fields no sampling
of their own (DESIGN CHOICE, assumption 135). -/
def runI2tUpdate (sw : Fin 32) (iMean : Int) (dtUs : Nat) (s : State) : Host.Outcome State Fault Refusal :=
  .next (if s.live && s.imb Img.lsUsed sw then
      let ic := s.icOf sw
      let k := s.i2tK sw
      let w := (s.im Img.lsI2tWarn sw : Int)
      let now := s.cyc
      let s := s.modSwitch sw fun x => { x with acct := max 0 (x.acct + (iMean * iMean - ic * ic) * dtUs), cur := iMean, ipk := if x.ipkSet then max x.ipk iMean else iMean, ipkSet := true, sampCyc := some now }
      let x := s.switch sw
      if k = 0 then s
      else
        let s := if w * k ≤ 100 * x.acct && !x.warn then (s.modSwitch sw fun x => { x with warn := true }).raiseEvt (128 + sw) (reqrSource (176 + sw))
          else if 100 * x.acct < (w - 5) * k && x.warn then
            let s := s.modSwitch sw fun x => { x with warn := false, trip := false }
            let s := if x.trip then (s.holdCause (176 + sw) 3 false).protReleased (liSwitch sw) else s
            s
          else s
        if k ≤ x.acct && !x.trip then ((s.switchOff sw).modSwitch sw fun x => { x with trip := true }).holdCause (176 + sw) 3 true else s
    else s)

end Sys2Proof.Machine
end

