-- ==== Sys2Proof/Machine/Lathe.lean ====
section
/-! DEFINITION. The Lathe: the loop sample, the reference and the trace buffers (R152, R153, R165, R180 to R215). -/

namespace Sys2Proof.Machine

/-- The range of a stored node (R189). -/
def sat32 (x : Int) : Int := clampInt (-2147483648) 2147483647 x

/-- One product term: c × x × 2^−s, rounded to nearest with ties toward +∞ (R188). -/
def term (c : Int) (sh : Nat) (x : Int) : Int := if sh = 0 then c * x else asr (c * x + 2 ^ (sh - 1)) sh

/-- What the image fixes for one loop update. -/
structure LatheCfg where
  coef : Nat → Int
  sh : Nat → Nat
  dec : Nat
  nsos : Nat
  aw : Nat
  nfac : Nat
  norm : Bool
  btN : Nat
  iMin : Int
  iMax : Int
  wMin : Int
  wMax : Int

/-- One coefficient applied (R188). -/
def LatheCfg.mul (c : LatheCfg) (j : Nat) (x : Int) : Int := term (c.coef j) (c.sh j) x

/-- The settings of rail r's loop. -/
def State.latheCfg (s : State) (r : Nat) : LatheCfg :=
  { coef := fun j => s.ims Img.loopCoef (64 * r + j),
    sh := fun j => bitsOf (s.im Img.loopSh (64 * r + j / 6)) (5 * (j % 6) + 4) (5 * (j % 6)),
    dec := s.im Img.loopDec r, nsos := s.im Img.loopNsos r, aw := s.im Img.loopAw r, nfac := s.nfacOf r,
    norm := s.imb Img.loopNnorm r && r < 24, btN := s.im Img.loopBtN r, iMin := s.ims Img.loopImin r,
    iMax := s.ims Img.loopImax r, wMin := s.ims Img.loopWmin r, wMax := s.ims Img.loopWmax r }

/-- The code of one conversion before its limit: (V_ref − V_sense) / 0.25 mV, rounded to nearest. vref in 0.5 mV, v in µV.
R180 does not say where a tie goes; it goes upward, as R196 lets one (DESIGN CHOICE, assumption 112). -/
def convCode (vref v : Nat) : Int := (2 * (500 * (vref : Int) - v) + 250).fdiv 500

/-- A conversion code, limited (R180). -/
def limitCode (c : Int) : Int := clampInt (-256) 255 c

/-- Second-order sections j to nsos: the output, the new histories, and whether a node saturated (R186, R189). -/
def sections (c : LatheCfg) : Nat → Nat → Int → List (Int × Int × Int × Int) → Int × List (Int × Int × Int × Int) × Bool
  | 0, _, x, h => (x, h, false)
  | n + 1, j, x, h =>
    let (x1, x2, y1, y2) := h.headD (0, 0, 0, 0)
    let b := 3 + 5 * j
    let raw := c.mul b x + c.mul (b + 1) x1 + c.mul (b + 2) x2 - c.mul (b + 3) y1 - c.mul (b + 4) y2
    let y := sat32 raw
    let (out, rest, f) := sections c n (j + 1) y h.tail
    (out, (x, x1, y, y1) :: rest, f || raw != y)

/-- One update of the compensator (R180 to R195, R204). lm: a phase has ended a pulse at its effective limit; hw: RAIL_OV_HW,
RAIL_SHORT or RAIL_DISCH is 1; vref: the reference that the conversions saw; dr: the change of the accumulator; xff: the
feed-forward input. -/
def latheStep (c : LatheCfg) (st : LoopSt) (senses : List Nat) (lm hw : Bool) (vref : Nat) (acc dr xff : Int) : LoopSt :=
  let codes := (senses.take (2 ^ c.dec)).map (convCode vref)
  let oor := codes.any fun x => decide (x ≤ -256) || decide (255 ≤ x)
  let lim := codes.map limitCode
  let e := lim.foldl (· + ·) 0 * 2 ^ (7 - c.dec)
  let pRaw := c.mul 0 e
  let p := sat32 pRaw
  let dRaw := c.mul 2 (e - st.e)
  let dv := sat32 dRaw
  let wind := (c.aw == 1 || c.aw == 2) && ((st.limHi && decide (0 < e)) || (st.limLo && decide (e < 0)))
  let held := hw || wind || (c.aw == 2 && lm && decide (0 < e))
  let iRaw := if held then st.integ else st.integ + c.mul 1 e
  let iSat := sat32 iRaw
  let i := clampInt c.iMin c.iMax iSat
  let vRaw := p + i + dv
  let v := sat32 vRaw
  let (out, secs, sf) := sections c c.nsos 0 v st.secs
  let fRaw := c.mul 23 dr + c.mul 24 xff
  let f := sat32 fRaw
  let uRaw := out + f
  let u := sat32 uRaw
  let ndRaw := if c.norm then asr (u * c.nfac + 32768) 16 else u
  let d := sat32 ndRaw
  let (ofs, ofs0, k) := match st.transfer with
    | some q => (q * 65536 - d, q * 65536 - d, 0)
    | none =>
      if st.ofs = 0 then (0, 0, 0)
      else
        let k := st.ofsK + 1
        ((st.ofs0 * ((c.btN : Int) - k)).tdiv c.btN, st.ofs0, k)
  let ofs := if c.btN ≤ k then 0 else ofs
  let wRaw := d + ofs
  let w := clampInt c.wMin c.wMax (sat32 wRaw)
  let limited := decide (wRaw < c.wMin) || decide (c.wMax < wRaw)
  let satf := pRaw != p || dRaw != dv || iRaw != iSat || vRaw != v || sf || fRaw != f || uRaw != u || ndRaw != d || wRaw != sat32 wRaw
  { st with e := e, code := lim.getLastD 0, integ := i, v := v, secs := secs, f := f, w := w, q := clampInt (-32768) 32767 (asr (w + 32768) 16), accPrev := acc, lim := limited, limHi := decide (c.wMax < wRaw), limLo := decide (wRaw < c.wMin), awh := held, iclamp := i != iSat, oor := oor, limited := lm, satf := satf, satcnt := if satf then satAdd 0xFFFFFFFF st.satcnt 1 else st.satcnt, nfac := c.nfac, ofs := ofs, ofs0 := ofs0, ofsK := k, transfer := none }

/-- Rounded quotient, ties upward. -/
def roundDiv (a b : Nat) : Nat := (2 * a + b) / (2 * b)

/-- The reference step of a rail at a sample instant, in accumulator units; none where the target is loaded at once
(R165, R197, R198). -/
def State.refStep (s : State) (r : Nat) : Option Nat :=
  let ramp := s.im Img.railRampT r
  if s.st r = .starting then
    if r < 32 then some (roundDiv ((s.rail r).rampMv * s.im Img.loopDiv r * 32768) (10 * ramp))
    else if s.glb.mode = .parked then some (roundDiv ((s.rail r).rampMv * 32768 * 8) (50 * ramp))
    else some (roundDiv ((s.rail r).rampMv * 32768) (10 * ramp))
  else if r < 32 then some (roundDiv (s.im Img.loopSlew r * s.im Img.loopDiv r * 32768) 100)
  else none

/-- Move a value toward a target by at most a step (R197). -/
def stepToward (acc target : Int) (step : Option Nat) : Int :=
  match step with
  | none => target
  | some n => if (target - acc).natAbs ≤ n then target else if acc < target then acc + n else acc - n

/-- The reference moves at the sample instant (R196 to R199); the ramp of a start ends at its target. A target that
arrived in the sample's own core cycle waits for the next one (R179, R199). -/
def State.moveRef (s : State) (r : Nat) : State :=
  let step := s.refStep r
  let starting := s.st r == .starting
  let now := s.cyc
  s.modRail r fun x =>
    let take := x.newTarget.isSome && x.newCyc != now
    let t := if take then x.newTarget.getD x.target else x.target
    let a := stepToward x.acc t step
    let new := if take then none else x.newTarget
    { x with target := t, newTarget := new, acc := a, ramped := if starting then a == new.getD t else x.ramped, rampOver := x.ramped }

/-- The output of v µV is inside the regulation window of the reference as it stands (R157). -/
def State.inWindow (s : State) (r v : Nat) : Bool :=
  let ref := (s.rail r).vref
  decide (ref * 500 * (1000 - s.im Img.railRegLo r) ≤ v * 1000) && decide (v * 1000 ≤ ref * 500 * (1000 + s.im Img.railRegHi r))

/-- What the window comparators of a rail see at a sample instant with the output at v µV (R153, R155, R157). -/
def State.windows (s : State) (r v : Nat) : State :=
  let ok := s.inWindow r v
  s.modRail r fun x => { x with pgood := ok, vTop := max x.vTop v, lowHeld := x.lowHeld && decide (x.vref * 500 ≤ v) }

/-- The feed-forward input that LOOP_FF1_SRC selects (R187). -/
def State.xff (s : State) (r : Nat) : Int :=
  match s.im Img.loopFf1Src r with
  | 1 => (s.rail r).isamp.headD 0
  | 2 => (s.chanOf (s.im Img.loopFf1Ch r)).val
  | _ => 0

/-- The flags node of R207. -/
def LoopSt.flagWord (x : LoopSt) : Int :=
  b2n x.lim + 2 * b2n x.awh + 4 * b2n x.oor + 8 * b2n x.limited + 16 * b2n (x.ofs != 0) + 32 * b2n x.satf

/-- The node that a buffer records (R207). -/
def State.traceNode (s : State) (r code : Nat) : Int :=
  let x := s.loopSt r
  match code with
  | 0 => x.e
  | 1 => x.code
  | 2 => (s.rail r).acc
  | 3 => x.v
  | 4 => x.integ
  | 5 | 6 | 7 | 8 => (x.secs.getD (code - 5) (0, 0, 0, 0)).2.2.1
  | 9 => x.f
  | 10 => x.w
  | 11 => x.q
  | 12 => (s.rail r).isamp.headD 0
  | 13 => x.flagWord
  | _ => 0

/-- Settings of a trace buffer (LOOP_TRC_CFG, LOOP_TRC_TRIG, LOOP_TRC_THR). -/
def State.trcCfg (s : State) (b : Nat) : Nat := (s.rwWord (0x032000 + 0x20 * b)).toNat
/-- LOOP_TRC_TRIG. -/
def State.trcTrig (s : State) (b : Nat) : Nat := (s.rwWord (0x032004 + 0x20 * b)).toNat
/-- LOOP_TRC_THR. -/
def State.trcThr (s : State) (b : Nat) : Int := (s.rwWord (0x032008 + 0x20 * b)).toInt
/-- Group of a trace buffer (R211). -/
def State.trcGroup (s : State) (b : Nat) : Nat := bitsOf (s.trcCfg b) 26 24

/-- A condition of its own triggers buffer b at this sample (R208, R209). The arming sample is the first one after arming, and a
condition of another block that comes before it is kept and triggers at the sample behind it: R208 does not say either (DESIGN
CHOICE, assumption 37). -/
def State.trcFires (s : State) (b : Nat) (v : Int) (limOn : Bool) : Bool :=
  let t := s.trace b
  let thr := s.trcThr b
  let up := match t.prev with
    | some p => decide (p < thr) && decide (thr ≤ v)
    | none => false
  let dn := match t.prev with
    | some p => decide (thr ≤ p) && decide (v < thr)
    | none => false
  t.st == .armed && (t.force || 0 < t.count && (t.ext || match bitsOf (s.trcTrig b) 3 0 with
    | 1 => up
    | 2 => dn
    | 3 => up || dn
    | 5 => limOn
    | _ => false))

/-- Core cycles of an epoch (R45). -/
def State.epochCyc (s : State) : Nat := s.im Img.epochUs 0 * 250

/-- A buffer takes one loop sample of its rail; fires: it triggers here (R208, R210). A trigger sample off the grid of
LOOP_TRC_DIV is not recorded, and LOOP_TRC_TIDX names the next recorded one (DESIGN CHOICE, assumption 37). -/
def State.traceTake (s : State) (b : Nat) (v : Int) (fires : Bool) : State :=
  let pre := bitsOf (s.trcTrig b) 31 19
  let div := 2 ^ bitsOf (s.trcCfg b) 23 21
  let ep := s.led.epoch
  let now := s.cyc
  let cy := s.cyc + s.epochCyc - s.tickAt
  s.modTrace b fun t =>
    let t := if fires then
        let kept := t.samples.take pre
        { t with st := .triggered, samples := kept, pre := kept.length, tidx := kept.length, ep := ep, cyc := cy, force := false, ext := false }
      else t
    let rec_ := t.count % div == 0
    let t := if rec_ then { t with samples := (wordOfInt v :: t.samples).take Config.traceDepth, post := if t.st == .triggered then t.post + 1 else t.post } else t
    let t := { t with count := t.count + 1, prev := some v }
    if t.st == .triggered && Config.traceDepth ≤ t.samples.length then { t with st := .done, done := true, doneCyc := now } else t

/-- The trace buffers of a rail at a loop sample (R208 to R211). -/
def State.traceSample (s : State) (r : Nat) (limOn : Bool) : State :=
  let mine := (List.range 16).filter fun b => bitsOf (s.trcCfg b) 4 0 == r && ((s.trace b).st == .armed || (s.trace b).st == .triggered)
  let val : Nat → Int := fun b => s.traceNode r (bitsOf (s.trcCfg b) 15 12)
  let first := mine.filter fun b => s.trcFires b (val b) limOn
  let groups := (first.map s.trcGroup).filter (· ≠ 0)
  let fires := mine.filter fun b => first.contains b || ((s.trace b).st == .armed && groups.contains (s.trcGroup b))
  let others := (List.range 16).filter fun b => !mine.contains b && (s.trace b).st == .armed && groups.contains (s.trcGroup b)
  let vals := mine.map fun b => (b, val b)
  let s := vals.foldl (fun s x => s.traceTake x.1 x.2 (fires.contains x.1)) s
  others.foldl (fun s b => s.modTrace b fun t => { t with force := true }) s

/-- LOOP_SAMPLE (R165, R180 to R200, R207 to R211). -/
def execLoopSample (r : Fin 40) (inp : LoopIn) (s : State) : Host.Outcome State Fault Refusal :=
  .next (
    if !s.live || s.lane.hold.isSome || s.lane.switching || s.lane.govStop || !(s.rail r).running || !s.isIn r [.starting, .on, .derated, .stopping] then s
    else if 32 ≤ r.val then (s.moveRef r).windows r (inp.senses.getLastD 0)
    else
      let x := s.rail r
      let hw := x.ovHw || x.short || x.disch
      let ref := 2 * x.vref
      let was := (s.loopSt r).lim
      let xf := s.xff r
      let lm := inp.peaks.any (s.atLimit r)
      let s := s.moveRef r
      let acc := (s.rail r).acc
      let c := s.latheCfg r
      let s := s.modLoopSt r fun st => latheStep c st inp.senses lm hw x.vref acc (acc - st.accPrev) xf
      let code := (s.loopSt r).code
      let s := s.windows r (inp.senses.getLastD 0)
      let s := s.modRail r fun x => { x with verr := ((ref : Int) - code).toNat, clNow := x.clNow || lm, clEval := x.clEval || lm }
      s.traceSample r ((s.loopSt r).lim && !was))

/-- RAIL_FIRST_PULSE (R152, R153, R203): the ramp begins from the output where that is above the reference, with the low
sides held off, and the Lathe's histories are cleared; so are w and the state of its limiter, which R203 does not list (DESIGN
CHOICE, assumption 136). vout in 0.25 mV. -/
def runRailFirstPulse (r : Fin 40) (vout : Nat) (s : State) : Host.Outcome State Fault Refusal :=
  .next (if s.live && (s.rail r).en && s.isIn r [.off, .starting] then
      let i0 := s.ims Img.loopI0 r
      let s := s.modRail r fun x => { x with running := true, discharged := false, ramped := false, lowHeld := decide (x.acc ≤ 32768 * vout), vTop := 0, rampOver := false, acc := max x.acc (32768 * vout) }
      let acc := (s.rail r).acc
      if r.val < 32 then
        s.modLoopSt r fun l => { l with e := 0, secs := [], f := 0, accPrev := acc, integ := i0, ofs := 0, ofs0 := 0, ofsK := 0, transfer := none, lim := false, limHi := false, limLo := false, w := 0 }
      else s
    else s)

/-- Arm a buffer (R210, R215). -/
def State.trcArm (s : State) (b : Nat) : State := s.modTrace b fun _ => { st := .armed }

/-- Force a trigger at the next loop sample (R209). -/
def State.trcForce (s : State) (b : Nat) : State :=
  if (s.trace b).st = .armed then s.modTrace b fun t => { t with force := true } else s

/-- Stop a buffer (R210). -/
def State.trcStop (s : State) (b : Nat) : State :=
  let now := s.cyc
  if (s.trace b).st = .armed ∨ (s.trace b).st = .triggered then s.modTrace b fun t => { t with st := .done, done := true, doneCyc := now, force := false, ext := false } else s

/-- LOOP_TRC_ARM (R210). -/
def runLoopTrcArm (b : Fin 16) (s : State) : Host.Outcome State Fault Refusal := .next (if s.live then s.trcArm b else s)

/-- LOOP_TRC_FORCE (R209). -/
def runLoopTrcForce (b : Fin 16) (s : State) : Host.Outcome State Fault Refusal := .next (if s.live then s.trcForce b else s)

/-- LOOP_TRC_STOP (R210). -/
def runLoopTrcStop (b : Fin 16) (s : State) : Host.Outcome State Fault Refusal := .next (if s.live then s.trcStop b else s)

/-- LOOP_TRC_GARM (R210). -/
def runLoopTrcGarm (mask : BitVec 16) (s : State) : Host.Outcome State Fault Refusal :=
  .next (if s.live then (List.range 16).foldl (fun s b => if mask.getLsbD b then s.trcArm b else s) s else s)

/-- LOOP_TRC_GFORCE (R209). -/
def runLoopTrcGforce (mask : BitVec 16) (s : State) : Host.Outcome State Fault Refusal :=
  .next (if s.live then (List.range 16).foldl (fun s b => if mask.getLsbD b then s.trcForce b else s) s else s)

/-- LOOP_SAT_CLR (R189). -/
def runLoopSatClr (r : Fin 32) (s : State) : Host.Outcome State Fault Refusal :=
  .next (if s.live then s.modLoopSt r fun l => { l with satcnt := 0 } else s)

end Sys2Proof.Machine
end

