-- ==== Sys2Proof/Machine/Regs.lean ====
section
/-! DEFINITION. The register space: what a host reads at each address (R4, R5, R23 and the register tables of every
chapter), the pins and status words that registers show, and what a host write does. -/

namespace Sys2Proof.Machine

/-- The next state of an outcome, for a register write that acts as a command of its own. -/
def State.after (s : State) (o : Host.Outcome State Fault Refusal) : State :=
  match o with
  | .next t => t
  | _ => s

/-- Bits 0 to n − 1 by a condition. -/
def maskOf (n : Nat) (f : Nat → Bool) : Nat := (List.range n).foldl (fun a k => a + b2n (f k) * 2 ^ k) 0

/-- The 32-bit pattern of an integer. -/
def u32 (x : Int) : Nat := ofSigned 32 x

/-- m°C as signed 0.1 °C in 16 bits (R439). -/
def dC16 (t : Int) : Nat := ofSigned 16 (t.fdiv 100)

/-- Mode code (R14). -/
def Mode.code : Mode → Nat
  | .cold => 0 | .starting => 1 | .held => 2 | .noImage => 3 | .run => 4 | .parked => 5

/-- GLB_COLD_PEND (R24). -/
def State.coldPend (s : State) : Bool := s.glb.coldSect != 0 || s.glb.patchWait || s.glb.rolePend

/-- A block interrupt is asserted (R554): LOOP_TRC_IE, ADC_RQ_IE, GAU_IE, RTC_IE. -/
def State.blockInt (s : State) : Bool :=
  let done := maskOf 16 fun b => (s.trace b).done
  let rq := (s.rwWord 0x090208).toNat
  (bitsOf (s.rwWord 0x033000).toNat 31 16 &&& done) != 0 ||
  (bitOf rq 15 && decide (bitsOf rq 14 0 ≤ s.adc.rq.length)) ||
  (s.gau.ie &&& s.gau.intF) != 0 || (s.rtc.ie &&& s.rtc.almF) != 0

/-- A pending bit is routed to a pin: bit 2 ALERT_N, bit 1 INT0_N, bit 0 INT1_N of FLT_ROUTE and EVT_ROUTE (R275). -/
def State.pendRouted (s : State) (pin : Nat) : Bool :=
  ((List.range 512).any fun n => (s.src n).pend && bitOf (s.im Img.fltRoute n) pin) ||
  ((List.range 256).any fun e => (s.evt e).pend && bitOf (s.im Img.evtRoute e) pin)

/-- ALERT_N is low (R275). -/
def State.alertLow (s : State) : Bool := s.pendRouted 2

/-- INT0_N or INT1_N of an interface is low (R554). -/
def State.intLow (s : State) (i : Iface) : Bool :=
  ((s.iface i).cplIe && !(s.iface i).cplFifo.isEmpty) || s.pendRouted (if i = .twb0 then 1 else 0) ||
  (s.blockInt && (s.im Img.twbHintSel == 2 || s.im Img.twbHintSel == Iface.num i))

/-- TWB0's target address (R540). -/
def State.twbAddr (s : State) : Nat :=
  (if s.live then s.im Img.twbAddrBase else 0x40) + 3 * s.glb.addr1 + s.glb.addr0

/-- Status bits of a rail that follow a latching condition now: STATUS_VOUT high, STATUS_IOUT low (R551). -/
def State.statusNow (s : State) (r : Nat) : BitVec 16 :=
  (if s.asserted (97 + 2 * r) then statusBits (97 + 2 * r) 0 else 0) |||
  (if s.asserted (96 + 2 * r) then statusBits (96 + 2 * r) (s.src (96 + 2 * r)).cause else 0)

/-- STATUS_VOUT (R551). -/
def State.statusVout (s : State) (r : Nat) : Nat := bitsOf (s.host.latched.get 0 r ||| s.statusNow r).toNat 15 8

/-- STATUS_IOUT (R551). -/
def State.statusIout (s : State) (r : Nat) : Nat :=
  bitsOf (s.host.latched.get 0 r ||| s.statusNow r).toNat 7 0 + 32 * b2n ((s.rail r).cl || (s.ent r).flag fPROT)

/-- A P4 request of TWB0 for the rail awaits its completion (R551): it is offered, queued, held or decided and not yet
delivered. -/
def State.busyFor (s : State) (r : Nat) : Bool :=
  let mine : Req → Bool := fun q => q.ep == r && q.reqr == 0x40
  s.pipe.offers.any (fun o => o.2.any mine) || s.pipe.queues.any (fun q => q.2.any fun e => e.2.any mine) ||
  s.pipe.taking.any (fun x => mine x.2) || s.pipe.normQ.any (fun o => mine o.req) || s.pipe.fastQ.any (fun o => mine o.req) ||
  s.inFlight.any (fun x => mine x.2.op.req) || s.pipe.soleQ.any (fun c => mine c.op.req) ||
  s.pipe.rechecks.any (fun x => mine x.2) || s.pipe.done.any (fun c => c.ep == r && c.reqr == 0x40)

/-- STATUS_WORD (R551). -/
def State.statusWord (s : State) (r : Nat) : Nat :=
  let v := s.statusVout r
  let i := s.statusIout r
  let st := s.st r
  let hi := placeAt (b2n (v != 0)) 15 15 + placeAt (b2n (i != 0)) 14 14 + placeAt (b2n s.seq.il) 13 13 +
    placeAt (b2n (st == .failed || st == .latchedOff)) 12 12 + placeAt (b2n ((s.ent r).flag fSUBST)) 9 9
  hi + placeAt (b2n (!(s.rail r).pgood)) 11 11 + placeAt (b2n (s.busyFor r)) 7 7 + placeAt (b2n (!st.alive)) 6 6 +
    placeAt (b2n (bitOf v 7)) 5 5 + placeAt (b2n (bitOf i 7)) 4 4 + placeAt (b2n s.seq.il) 3 3 +
    placeAt (b2n ((List.range 48).any fun z => s.st (liZone z) == .failed)) 2 2 + placeAt (b2n (s.host.cml != 0)) 1 1 +
    b2n (hi != 0)

/-- The image's part of a word: its fields, without those that show a committed or present value in place of the image's
(R177, R423, R465, R488, R517). -/
def State.regImg (s : State) (a : Nat) : Nat :=
  let w := (s.img.get 0 a).toNat
  let run : Bool :=
    a == 0x000010 || a == 0x0B0070 || a == 0x09030C || a == 0x090310 || a == 0x09032C || a == 0x090330 ||
    (0x020000 ≤ a && a < 0x020A00 && (a % 64 == 0x20 || a % 64 == 0x2C || a % 64 == 0x38)) ||
    (0x022000 ≤ a && a < 0x022400 && a % 32 == 0x10) ||
    (0x080410 ≤ a && a < 0x080800 && a % 16 < 8)
  if run then 0
  else if a = 0x0C0004 ∨ (0x0E0000 ≤ a ∧ a < 0x0E0200 ∧ a % 64 = 4) then bitsOf w 31 16 * 65536
  else w

/-- GLB (R24, R347, R614, R626). -/
def State.readGlb (s : State) (o : Nat) : Nat :=
  let g := s.glb
  match o with
  | 0x00 => 0x9840B100
  | 0x10 => placeAt (b2n g.takenOver) 9 9 + placeAt (b2n s.coldPend) 8 8 + placeAt g.role 7 4 + g.mode.code
  | 0x14 => placeAt (b2n g.avLost) 16 16 + placeAt (b2n (g.avail == 31)) 8 8 + g.avail.toNat
  | 0x20 => placeAt (b2n g.epFloor) 24 24 + placeAt g.imgUsed 23 20 + placeAt g.haltCause 19 16 + placeAt g.bistOk.toNat 10 8 + placeAt g.startStep 3 0
  | 0x24 => placeAt g.startT 31 0
  | 0x28 => placeAt g.warmCnt 31 20 + placeAt g.warmLen 19 8 + placeAt g.warmCause 5 4 + placeAt (b2n g.warmBusy) 1 1 + b2n (g.warmPend != 0)
  | 0x2C => placeAt g.recovCnt 15 0
  | 0x30 => placeAt g.parkCnt 31 16 + placeAt g.wakeSrc 11 8 + placeAt (b2n g.parkPend) 1 1
  | 0x40 => g.imgRel.toNat
  | 0x44 => placeAt g.imgSvn 8 0
  | 0x48 => g.adoptSect.toNat * 65536 + g.coldSect.toNat
  | 0x60 => (s.rwWord 0x60).toNat
  | 0x64 => (s.rwWord 0x64).toNat
  | 0x68 => g.gpioIn.toNat
  | 0x6C => (s.rwWord 0x6C).toNat
  | _ => 0

/-- PIPE (R126), without the reads that change state. -/
def State.readPipe (s : State) (i : Iface) (o : Nat) : Nat :=
  let x := s.iface i
  let p := s.pipe
  match o with
  | 0x00 => placeAt (Iface.num s.led.pinIf) 8 8 + placeAt (b2n s.led.pinLost) 1 1 + b2n s.led.pinned
  | 0x0C => x.epochHigh.get 0 0
  | 0x14 => x.epochHigh.get 0 1
  | 0x1C => x.epochHigh.get 0 2
  | 0x40 => placeAt x.lastTag.toNat 31 24 + placeAt (b2n x.reqRej) 16 16 + placeAt (32 - x.bndBuf.length) 13 8 + placeAt s.p4Free 6 0
  | 0x54 => (x.cplLatch.getD 1 0).toNat
  | 0x58 => (x.cplLatch.getD 2 0).toNat
  | 0x5C => (x.cplLatch.getD 3 0).toNat
  | 0x60 => placeAt x.cplLost 31 16 + placeAt (b2n x.cplIe) 8 8 + placeAt x.cplFifo.length 6 0
  | 0x70 => placeAt (s.queueLen 3) 31 24 + placeAt (s.queueLen 2) 23 16 + placeAt (s.queueLen 1) 15 8 + placeAt (s.queueLen 0) 7 0
  | 0x74 => placeAt (s.queueLen 5) 15 8 + placeAt (s.queueLen 4) 7 0
  | 0x78 => placeAt p.tackPeak 26 16 + placeAt s.tackUsed 10 0
  | 0x80 => placeAt s.led.cmtPeak 28 16 + placeAt s.led.cmtLast 12 0
  | 0x84 => placeAt s.led.used 16 0
  | 0xB0 => p.lateCnt.toNat
  | 0xB4 => (p.deferCnt + s.led.deferred).toNat
  | _ => if 0x90 ≤ o ∧ o < 0xAC then (p.codeCnt.get 0 ((o - 0x90) / 4)).toNat else 0

/-- RAIL_NACT. A buck, which behaves as a one-phase rail (R164), has no phase on PH00 to PH47 and counts none (DESIGN
CHOICE, assumption 116). -/
def State.nact (s : State) (r : Nat) : Nat := (s.phasesOn r).length

/-- A rail's window (R177). -/
def State.readRail (s : State) (r o : Nat) : Nat :=
  let x := s.rail r
  match o with
  | 0x20 => placeAt (s.envOf r).2.toNat 31 16 + placeAt (s.envOf r).1.toNat 15 0
  | 0x24 => placeAt x.vref 31 16 + placeAt (s.nact r) 15 11 + placeAt (b2n x.pgood) 8 8 + placeAt (b2n x.cl) 7 7 +
      placeAt (b2n x.ovHw) 6 6 + placeAt (b2n x.short) 5 5 + placeAt (b2n x.disch) 4 4 + placeAt (b2n (s.sscOn r (s.st r))) 3 3 +
      placeAt (b2n x.hold) 2 2
  | 0x28 => placeAt x.vmax 31 16 + placeAt x.vavg 15 0
  | 0x2C => placeAt (s.phEnvOf r).2 28 24 + placeAt (s.phEnvOf r).1 20 16 + placeAt x.vmin 15 0
  | 0x30 => u32 x.iavg
  | 0x34 => u32 x.ipk
  | 0x38 => s.avgK r
  | _ => 0

/-- A phase's window (R177). -/
def State.readPhase (s : State) (p o : Nat) : Nat :=
  let x := s.phase p
  let shed := s.st (liPhase p) == .off && !x.spareRole && (s.st (s.phaseRail p)).alive
  match o with
  | 0x4 => u32 x.cur
  | 0x8 => placeAt x.clCnt 31 16 + placeAt x.temp 15 8 + placeAt (b2n x.subst) 3 3 + placeAt (b2n shed) 2 2 +
      placeAt (b2n x.clNow) 1 1 + b2n x.tfault
  | 0xC => placeAt x.angle 15 0
  | _ => 0

/-- A load switch's window (R177). -/
def State.readSwitch (s : State) (n o : Nat) : Nat :=
  let x := s.switch n
  match o with
  | 0x10 => placeAt ((s.envOf (liSwitch n)).2.toNat / 10) 31 16 + placeAt ((s.envOf (liSwitch n)).1.toNat / 10) 15 0
  | 0x14 => placeAt ((s.icOf n).toNat / 10) 31 16 + placeAt (min 255 (if s.i2tK n = 0 then 0 else 100 * x.acct / s.i2tK n).toNat) 15 8 +
      placeAt (b2n x.gate) 3 3 + placeAt (b2n x.inrush) 2 2 + placeAt (b2n x.short) 1 1 + b2n x.trip
  | 0x18 => u32 x.cur
  | 0x1C => u32 x.ipk
  | _ => 0

/-- RAIL: rails, phases and load switches (R177). Fields of a phase or switch that is not enabled read 0. -/
def State.readRailBlock (s : State) (o : Nat) : Nat :=
  let img := s.regImg (0x020000 + o)
  if o < 0xA00 then img + s.readRail (o / 64) (o % 64)
  else if 0x1000 ≤ o ∧ o < 0x1300 then
    (if s.imb Img.phUsed (o % 0x1000 / 16) then img + s.readPhase (o % 0x1000 / 16) (o % 16) else 0)
  else if 0x2000 ≤ o ∧ o < 0x2400 then
    (if s.imb Img.lsUsed (o % 0x1000 / 32) then img + s.readSwitch (o % 0x1000 / 32) (o % 32) else 0)
  else img

/-- The target of a rail in accumulator units: the one that its loop follows, or in OFF, FAILED and LATCHED_OFF, where there is no
start and no stop, the committed set-point (R196, R213). -/
def State.targetOf (s : State) (r : Nat) : Int :=
  if (s.st r).alive || s.st r == .stopping then (s.rail r).target else (s.stored r).val.toInt * accPerMv

/-- A rail's loop window (R213). -/
def State.readLoop (s : State) (r o : Nat) : Nat :=
  let x := s.loopSt r
  let a := s.rail r
  match o with
  | 0xB0 => placeAt (s.vnomOf r) 31 16 + placeAt (asr (s.targetOf r) 16).toNat 15 0
  | 0xB4 => placeAt (b2n a.running) 7 7 + placeAt (b2n x.lim) 6 6 + placeAt (b2n x.awh) 5 5 + placeAt (b2n x.iclamp) 4 4 +
      placeAt (b2n x.oor) 3 3 + placeAt (b2n (a.acc != s.targetOf r)) 2 2 + placeAt (b2n (x.ofs != 0)) 1 1 + b2n x.satf
  | 0xB8 => u32 x.e
  | 0xBC => u32 x.integ
  | 0xC0 => u32 x.w
  | 0xC4 => ofSigned 16 x.q
  | 0xC8 => placeAt x.nfac 20 0
  | 0xCC => placeAt x.satcnt 31 0
  | _ => 0

/-- State code of a trace buffer (R213). -/
def TrcState.num : TrcState → Nat
  | .idle => 0 | .armed => 1 | .triggered => 2 | .done => 3

/-- A trace buffer's window (R213). -/
def State.readTrace (s : State) (b o : Nat) : Nat :=
  let t := s.trace b
  match o with
  | 0x00 => s.trcCfg b
  | 0x04 => s.trcTrig b
  | 0x08 => (s.rwWord (0x032008 + 0x20 * b)).toNat
  | 0x10 => placeAt t.tidx 28 16 + t.st.num
  | 0x14 => placeAt t.ep 31 0
  | 0x18 => placeAt (t.ep / 2 ^ 32) 15 0
  | 0x1C => placeAt t.cyc 17 0
  | _ => 0

/-- LOOP (R213). Fields of a rail that is not enabled read 0. -/
def State.readLoopBlock (s : State) (o : Nat) : Nat :=
  if o < 0x2000 then
    (if s.imb Img.railUsed (o / 256) then s.regImg (0x030000 + o) + s.readLoop (o / 256) (o % 256) else 0)
  else if o < 0x2200 then s.readTrace (o % 0x1000 / 32) (o % 32)
  else if o = 0x3000 then bitsOf (s.rwWord 0x033000).toNat 31 16 * 65536 + maskOf 16 fun b => (s.trace b).done
  else 0

/-- A sample of the trace window (R212). -/
def State.readTraceWindow (s : State) (o : Nat) : Nat :=
  let t := s.trace (o / 0x8000)
  match t.st with
  | .armed | .triggered => 0
  | _ => let i := o % 0x8000 / 4
         if i < t.samples.length then (t.samples.getD (t.samples.length - 1 - i) 0).toNat else 0

/-- Time left in a group's running DELAY, WAIT or retry wait, µs; 0 when none runs (R255). -/
def State.gtmr (s : State) (g : Nat) : Nat :=
  let x := s.group g
  let runs := x.backoff || x.run == .delay || x.run == .waitGroup || x.run == .waitInput
  if runs then x.tmr - (s.time - x.tmrCyc) / usTime else 0

/-- A group's window (R255). -/
def State.readGroup (s : State) (g o : Nat) : Nat :=
  let x := s.group g
  match o with
  | 0x04 => placeAt x.step 31 24 + placeAt x.link 23 16 + placeAt x.retries 11 9 + placeAt (b2n (x.dir && x.running)) 8 8 + placeAt (b2n x.backoff) 7 7 +
      placeAt (b2n x.unwind) 6 6 + placeAt (b2n x.inwait) 5 5 + placeAt (b2n !x.forced.isEmpty) 4 4
  | 0x08 => placeAt (s.gtmr g) 31 0
  | 0x0C => placeAt x.failStep 31 24 + placeAt x.failCause 23 21 + placeAt x.failEp 16 0
  | 0x10 => placeAt x.upFails 31 16 + placeAt x.dnFails 15 0
  | _ => 0

/-- SEQ (R255). Fields of a group that is not enabled, and edges that are not in use, read 0. -/
def State.readSeq (s : State) (o : Nat) : Nat :=
  let img := s.regImg (0x040000 + o)
  if o < 0x200 then (if s.imb Img.seqUsed (o / 32) then img + s.readGroup (o / 32) (o % 32) else 0)
  else if 0x1000 ≤ o ∧ o < 0x1800 ∧ s.im Img.seqEdgeCnt 0 ≤ (o - 0x1000) / 4 then 0
  else img + match o with
    | 0x510 => placeAt s.seq.pfCnt 31 16 + placeAt (b2n s.seq.stable) 6 6 + placeAt (b2n s.seq.pf) 5 5 + placeAt (b2n s.seq.il) 4 4 +
        placeAt (b2n s.seq.holdOk) 3 3 + placeAt (b2n s.seq.kaOk) 2 2 + placeAt (b2n !s.seq.lostB) 1 1 + b2n !s.seq.lostA
    | 0x514 => placeAt s.seq.snapCnt.toNat 31 16 + placeAt (b2n s.seq.snapBusy) 1 1
    | 0x518 => placeAt s.rstoLow 31 16 + s.seq.rsto.toNat
    | _ => 0

/-- FLT (R281). -/
def State.readFlt (s : State) (o : Nat) : Nat :=
  let img := s.regImg (0x050000 + o)
  if 0x1000 ≤ o ∧ o < 0x1800 then
    let n := (o - 0x1000) / 4
    let x := s.src n
    placeAt x.cause 31 22 + placeAt x.count 21 18 + placeAt (b2n x.qual) 5 5 + placeAt (b2n x.forced) 4 4 + placeAt (b2n x.lost) 3 3 +
      placeAt (b2n x.sticky) 2 2 + placeAt (b2n (s.asserted n)) 1 1
  else if 0x1800 ≤ o ∧ o < 0x1840 then maskOf 32 fun k => (s.src (32 * ((o - 0x1800) / 4) + k)).forced
  else if 0x1880 ≤ o ∧ o < 0x18C0 then maskOf 32 fun k => (s.src (32 * ((o - 0x1880) / 4) + k)).pend
  else img + match o with
    | 0x2004 =>
      let on := (List.range 512).filter fun n => s.srcUsed n && s.asserted n
      placeAt on.length 31 16 + placeAt (b2n s.faultN) 2 2 + on.foldl (fun m n => max m (s.sevOf n (s.src n).cause)) 0
    | 0x2008 => maskOf 16 fun k => s.asserted (496 + k)
    | _ => 0

/-- EVT (R281). -/
def State.readEvt (s : State) (o : Nat) : Nat :=
  let img := s.regImg (0x060000 + o)
  if 0x400 ≤ o ∧ o < 0x800 then (s.evt ((o - 0x400) / 4)).cnt
  else if 0x820 ≤ o ∧ o < 0x840 then maskOf 32 fun k => (s.evt (32 * ((o - 0x820) / 4) + k)).pend
  else if 0x840 ≤ o ∧ o < 0x860 then maskOf 32 fun k => (s.led.pubEnt (liEvent (32 * ((o - 0x840) / 4) + k))).st == .active
  else img

/-- LANE (R312). -/
def State.readLane (s : State) (o : Nat) : Nat :=
  let l := s.lane
  s.regImg (0x070000 + o) + match o with
  | 0x00 => placeAt l.refOk.toNat 26 24 + placeAt (b2n l.wdoscOk) 22 22 + placeAt (b2n l.rcOk) 21 21 + placeAt (b2n l.x32Ok) 20 20 +
      placeAt (b2n l.xtalOk) 19 19 + placeAt (b2n l.pllbLock) 18 18 + placeAt (b2n l.pllaLock) 17 17 + placeAt l.clkSrc 15 14 +
      placeAt (b2n l.govStop) 13 13 + placeAt (b2n (l.hold.isSome || l.switching)) 12 12 + placeAt l.reform.toNat 10 8 +
      placeAt l.perm.toNat 6 4 + l.vote.toNat
  | 0x04 => placeAt l.holdCnt 31 16 + placeAt l.isoCnt 15 0
  | 0x08 => placeAt l.holdCause 31 28 + placeAt l.holdRes 27 26 + placeAt l.holdLen 15 0
  | 0x0C => placeAt l.holdMax 15 0
  | 0x10 => placeAt (l.rfAtt.get 0 2) 23 20 + placeAt (l.rfAtt.get 0 1) 19 16 + placeAt (l.rfAtt.get 0 0) 15 12 + placeAt l.rfLast 11 0
  | 0x20 => b2n l.pllbPerm
  | 0x30 => placeAt l.refDac 13 12 + placeAt l.refAdc 11 10 + placeAt l.refProt 9 8
  | 0x40 => placeAt (min 0xFFFF l.mv.vinB) 31 16 + min 0xFFFF l.mv.vinA
  | 0x44 => placeAt (min 0xFFFF l.mv.ka) 31 16 + min 0xFFFF l.mv.vhold
  | 0x48 => placeAt (b2n l.kaFeed) 6 6 + placeAt l.pairOv.toNat 5 4 + placeAt l.pairRc.toNat 3 2 + l.pairOn.toNat
  | 0x50 => placeAt l.sramCorr 31 16 + placeAt l.mramCorr 15 0
  | _ => 0

/-- The latest publication held by a standby root is at most 2 epochs older than the latest marker (R384). -/
def State.mirrorOk (s : State) : Bool := s.glb.role == 2 && (match s.lace.mirrorEpoch with
  | some x => decide (s.lace.markerEpoch ≤ x + 2)
  | none => false)

/-- Slots that count toward C (R374). -/
def State.countedSlots (s : State) : List Nat := (List.range 64).filter fun sl => (s.slotRec sl).st == .counted

/-- The slot that holds C lowest, 0 when none (R401). -/
def State.lagSlot (s : State) : Nat :=
  match s.countedSlots with
  | [] => 0
  | a :: t => t.foldl (fun m sl => if (s.slotRec sl).ep < (s.slotRec m).ep then sl else m) a

/-- Code of an eyelet's state (R401). -/
def EyeState.num : EyeState → Nat
  | .down => 0 | .train => 1 | .up => 2 | .foreign => 3

/-- Code of a slot window's state (R401). -/
def SlotState.num : SlotState → Nat
  | .free => 0 | .joining => 1 | .counted => 2 | .unreachable => 3 | .parked => 4

/-- An eyelet's window (R401). -/
def State.readEyelet (s : State) (e o : Nat) : Nat :=
  let x := s.eye e
  match o with
  | 0x00 => placeAt x.rtt 31 16 + placeAt (b2n ((match x.last with | some h => h.offer | none => false) && s.lace.parent != some e)) 5 5 +
      placeAt (b2n (s.lace.parent == some e)) 4 4 + x.st.num
  | 0x04 => x.crc.toNat
  | 0x08 => x.retx.toNat
  | 0x0C => placeAt (x.credit 0) 31 24 + placeAt (x.credit 1) 23 16 + placeAt (x.credit 2) 15 8 + placeAt (x.credit 3) 7 0
  | 0x10 => x.peer.toNat % 2 ^ 32
  | 0x14 => x.peer.toNat / 2 ^ 32
  | _ => 0

/-- A slot's window (R401): the identity held, or the reserved identity. -/
def State.readSlot (s : State) (sl o : Nat) : Nat :=
  let x := s.slotRec sl
  match o with
  | 0x0 => if x.st = .free then s.im Img.laceSlotIdLo sl else x.uid.toNat % 2 ^ 32
  | 0x4 => if x.st = .free then s.im Img.laceSlotIdHi sl else x.uid.toNat / 2 ^ 32
  | 0x8 => placeAt x.st.num 30 28 + placeAt x.eye 25 24 + placeAt x.hop 23 16 + b2n x.gh
  | 0xC => placeAt x.ep 31 0
  | _ => 0

/-- LACE (R401). -/
def State.readLace (s : State) (o : Nat) : Nat :=
  let l := s.lace
  s.regImg (0x080000 + o) +
  (if 0x100 ≤ o ∧ o < 0x180 then s.readEyelet ((o - 0x100) / 32) (o % 32)
   else if 0x410 ≤ o ∧ o < 0x800 then s.readSlot ((o - 0x400) / 16) (o % 16)
   else match o with
    | 0x08 => placeAt l.mySlot 29 24 + placeAt l.hop 23 16 + placeAt (l.parent.getD 0) 9 8 + placeAt (b2n l.parent.isSome) 7 7 +
        placeAt (b2n s.twoRoots) 6 6 + placeAt (b2n s.mirrorOk) 5 5
    | 0x0C => placeAt (min 0xFFFF (s.led.pubEpoch - s.led.fpEpoch)) 31 16 + s.lagSlot
    | 0x10 => match l.drain with
      | some (a, b) => placeAt 1 15 15 + placeAt a 13 8 + placeAt b 5 0
      | none => 0
    | 0x14 => placeAt l.cplDrop 31 16 + placeAt l.joinRef 15 0
    | _ => 0)

/-- Position that a slice holds, 0x1F when free or retired (R423). -/
def State.slicePos (s : State) (k : Nat) : Nat := ((List.range 16).find? fun p => s.adc.pos.get none p == some k).getD 0x1F

/-- ADC (R423). -/
def State.readAdc (s : State) (o : Nat) : Nat :=
  let a := s.adc
  s.regImg (0x090000 + o) +
  (if o = 0x04 then placeAt a.rounds.toNat 31 16 + placeAt (a.free.getD 31) 12 8 + placeAt a.calPos 3 0
   else if o = 0x08 then a.retired.toNat
   else if 0x40 ≤ o ∧ o < 0x84 then
     let k := (o - 0x40) / 4
     let x := a.slices.get (0, 0x8000) k
     placeAt (ofSigned 8 x.1) 31 24 + placeAt (s.slicePos k) 20 16 + placeAt x.2 15 0
   else if 0x100 ≤ o ∧ o < 0x180 then
     let q := (o - 0x100) / 16
     let x := s.aseq q
     match o % 16 with
     | 4 => placeAt x.loops.toNat 31 16 + placeAt (s.npos q) 15 14 + placeAt (b2n x.run) 13 13 + placeAt x.idx 9 0
     | 8 => placeAt x.loopT 31 0
     | _ => 0
   else if 0x300 ≤ o ∧ o < 0x340 then
     let m := (o - 0x300) / 32
     let x := s.meter m
     match o % 32 with
     | 0x04 => u32 x.raw
     | 0x08 => u32 x.val
     | 0x0C => u32 x.ofs
     | 0x10 => placeAt x.gain 31 0
     | 0x14 => (s.rwWord (0x090314 + 32 * m)).toNat
     | 0x18 => placeAt (b2n x.cal.isSome) 31 31 + placeAt (b2n x.rej) 30 30 + placeAt (b2n x.ovl) 29 29 + placeAt (b2n x.calSrc) 28 28
     | _ => 0
   else if 0x1000 ≤ o ∧ o < 0x3000 then
     let x := s.chanOf ((o - 0x1000) / 32)
     match o % 32 with
     | 0x10 => u32 x.val
     | 0x14 => placeAt (b2n x.stale) 2 2 + placeAt (b2n x.clip) 1 1 + b2n x.new
     | _ => 0
   else match o with
     | 0x200 => placeAt (b2n a.rqOvf) 16 16 + placeAt a.rq.length 14 0
     | 0x204 => a.rqDrop.toNat
     | 0x208 => (s.rwWord 0x090208).toNat
     | 0x210 => a.pubDrop.toNat
     | 0x214 => a.pubCnt.toNat
     | _ => 0)

/-- THM (R439). -/
def State.readThm (s : State) (o : Nat) : Nat :=
  s.regImg (0x0A0000 + o) +
  (if o = 0x04 then placeAt s.thm.bandCnt 31 16 + placeAt (b2n s.fastAny) 9 9 +
      placeAt (b2n s.thm.bandStale) 8 8 + placeAt s.thm.band 2 0
   else if 0x100 ≤ o ∧ o < 0x2C0 then
     let n := (o - 0x100) / 4
     let x := s.thmIn n
     let idle := x.idle || s.thmIdle n
     placeAt (b2n (x.valid && !idle)) 31 31 + placeAt (b2n idle) 30 30 + dC16 x.t
   else if 0x400 ≤ o ∧ o < 0xA00 then
     let z := (o - 0x400) / 32
     let x := s.zoneOf z
     match o % 32 with
     | 0x10 => dC16 x.t * 65536 + placeAt (s.zoneF z) 15 5 + placeAt (b2n x.fast) 4 4 + placeAt (s.st (liZone z)).code 3 0
     | 0x14 => placeAt x.nval 18 16 + ofSigned 16 x.rate
     | _ => 0
   else 0)

/-- CHG (R465). -/
def State.readChg (s : State) (o : Nat) : Nat :=
  let c := s.chg
  let trk := s.tracks
  s.regImg (0x0B0000 + o) + match o with
  | 0x60 => placeAt c.remCnt 31 16 + placeAt (b2n c.run) 15 15 + placeAt (b2n (c.mode == 5)) 14 14 + placeAt (b2n (c.mode == 6)) 13 13 +
      placeAt (b2n c.present) 12 12 + placeAt (b2n c.ivr) 11 11 + placeAt c.mode 10 8 + placeAt (b2n c.solOn) 7 7 + placeAt (b2n c.netOn) 6 6 +
      placeAt c.bandNow 5 3 + placeAt (b2n s.chgDerates) 2 2 + placeAt (b2n trk) 1 1 + b2n (s.st liCharger == .latchedOff)
  | 0x64 => u32 c.limPol
  | 0x68 => u32 c.limThm
  | 0x6C => u32 c.limTrk
  | 0x70 => placeAt ((s.envOf liCharger).2.toNat / 10) 31 16 + placeAt ((s.envOf liCharger).1.toNat / 10) 15 0
  | 0x74 => placeAt (c.tmrEq / 65536) 31 0
  | 0x78 => placeAt c.tmrAbs 31 0
  | 0x7C => u32 c.iout
  | 0x80 => placeAt c.pout 31 0
  | _ => 0

/-- GAU (R488). -/
def State.readGau (s : State) (o : Nat) : Nat :=
  let g := s.gau
  s.regImg (0x0C0000 + o) + match o with
  | 0x04 => placeAt g.q 15 0
  | 0x40 => placeAt (g.unc / Config.uncUnit) 31 16 + placeAt (b2n g.pres) 15 15 + placeAt (b2n g.hib) 14 14 + placeAt (b2n g.rest) 13 13 +
      placeAt (b2n g.disagree) 12 12 + placeAt (b2n g.learn.isSome) 11 11 + placeAt (b2n g.empty) 10 10 + placeAt (b2n g.low) 9 9 +
      placeAt (b2n (s.loop 257).frozen) 8 8
  | 0x44 => placeAt (asr g.si 16).toNat 31 16 + placeAt (asr g.sr 16).toNat 15 0
  | 0x48 => placeAt (ofSigned 16 g.vc) 31 16 + ofSigned 16 g.resid
  | 0x4C => placeAt g.refAge 31 0
  | 0x50 => placeAt g.lrnCnt 31 16 + placeAt g.lrnLast 15 0
  | 0x54 => match g.learn with
    | some (n, _, _) => u32 (s.microAh n)
    | none => 0
  | 0x58 => placeAt g.idStored 31 16
  | 0x60 => placeAt g.ie.toNat 19 16 + g.intF.toNat
  | _ => 0

/-- RTC (R516), without the read of RTC_FRAC. -/
def State.readRtc (s : State) (i : Iface) (o : Nat) : Nat :=
  let r := s.rtc
  let t := (s.iface i).rtcLatch
  s.regImg (0x0D0000 + o) +
  (if 0x40 ≤ o ∧ o < 0x80 then
     let a := (o - 0x40) / 32
     let cm := (r.alarm a).1.toNat
     let mk := (r.alarm a).2.toNat
     match o % 32 with
     | 0x00 => cm % 65536
     | 0x04 => cm / 65536 % 2 ^ 32
     | 0x08 => cm / 2 ^ 48
     | 0x0C => mk % 65536
     | 0x10 => mk / 65536 % 2 ^ 32
     | 0x14 => mk / 2 ^ 48
     | 0x18 => 2 * b2n (bitOf r.almWake.toNat a) + b2n (bitOf r.almEn.toNat a)
     | _ => 0
   else if 0x100 ≤ o ∧ o < 0x180 then (r.bkup.get 0 ((o - 0x100) / 4)).toNat
   else match o with
     | 0x04 => t % 2 ^ 32
     | 0x08 => t / 2 ^ 32 % 65536
     | 0x10 => r.setFrac.toNat
     | 0x14 => r.setSec.toNat % 2 ^ 32
     | 0x18 => r.setSec.toNat / 2 ^ 32
     | 0x20 => placeAt (b2n r.halt) 8 8 + r.trim.toNat
     | 0x24 => placeAt (b2n r.bor) 3 3 + placeAt (b2n r.osf) 2 2 + placeAt (b2n r.onVbk) 1 1 + b2n r.busy.isSome
     | 0x80 => placeAt r.ie.toNat 17 16 + r.almF.toNat
     | _ => 0)

/-- WDG (R517). Fields of a watchdog that is not enabled read 0. -/
def State.readWdg (s : State) (o : Nat) : Nat :=
  if o = 0x400 then placeAt (b2n s.tbRc) 8 8 + maskOf 8 fun w => s.st (liWdg w) == .active && !s.wdgPaused w
  else if 0x200 ≤ o then 0
  else
    let w := o / 64
    let x := s.wdg w
    if !s.imb Img.wdgUsed w then 0
    else s.regImg (0x0E0000 + o) + match o % 64 with
      | 0x04 => placeAt x.per 15 0
      | 0x08 => placeAt (x.pnew.getD 0) 15 0
      | 0x14 => x.checkin.toNat
      | 0x1C => placeAt (if x.active then s.wdgP w - x.n else 0) 31 16 + placeAt (s.closedFraction w) 13 8 +
          placeAt (b2n (x.active && !x.pulse && !s.wdgPaused w && s.wdgOpen w)) 5 5 + placeAt (b2n (s.wdgPaused w)) 4 4 + placeAt (b2n x.pulse) 3 3 + placeAt (b2n x.first) 2 2 + placeAt (b2n x.pnew.isSome) 1 1 + b2n x.prej
      | 0x20 => placeAt x.expCnt 31 16 + placeAt x.prejCnt 15 8 + placeAt x.svcFlt 7 0
      | _ => 0

/-- REC (R538), without the reads that change state. -/
def State.readRec (s : State) (i : Iface) (o : Nat) : Nat :=
  let q := s.recd
  s.regImg (0x0F0000 + o) + match o with
  | 0x04 => placeAt (recBytesUsed q.buf) 31 16 + placeAt (b2n (s.iface i).seek.isSome) 8 8 + placeAt (b2n q.incomplete) 7 7 +
      placeAt (b2n s.recDirect) 6 6 + placeAt (b2n q.frzLost) 5 5 + placeAt (b2n (s.iface i).rdLost) 4 4 + placeAt (b2n q.freeze.isSome) 3 3 +
      placeAt (Iface.num q.frzIf) 2 2 + placeAt (b2n (q.trigger || q.stopped)) 1 1 + b2n q.clrRej
  | 0x08 => b2n q.freeze.isSome
  | 0x0C => q.seqNext.toNat
  | 0x10 => q.seqOld.toNat
  | 0x14 => q.unread.toNat
  | 0x24 => recBytesUsed q.ring
  | 0x30 => q.drop.toNat
  | 0x34 => q.ovw.toNat
  | 0x38 => q.wfail.toNat
  | 0x3C => q.flushCnt.toNat
  | 0x48 => q.remOfs.toNat
  | _ => 0

/-- TWB (R564). -/
def State.readTwb (s : State) (o : Nat) : Nat :=
  let h := s.host
  s.regImg (0x100000 + o) +
  (if 0x100 ≤ o ∧ o < 0x1A0 then
     let r := (o - 0x100) / 4
     placeAt (s.statusWord r) 31 16 + placeAt (s.statusVout r) 15 8 + placeAt (s.statusIout r) 7 0
   else if 0x200 ≤ o ∧ o < 0x400 then
     let d := s.fdev ((o - 0x200) / 16)
     (if o % 16 = 8 then placeAt d.fails 17 16 + placeAt d.nack 15 0 else 0)
   else if 0x400 ≤ o ∧ o < 0xC00 then placeAt (s.vmodes.get 0 ((o - 0x400) / 4)) 23 16
   else match o with
     | 0x04 => placeAt s.twbAddr 14 8 + placeAt s.glb.addr1 5 4 + placeAt s.glb.addr0 3 2 + placeAt (b2n (s.intLow .spi)) 1 1 + b2n (s.intLow .twb0)
     | 0x08 => placeAt h.tmo 31 24 + placeAt h.pec 23 16 + placeAt h.spiErr 15 8 + placeAt h.hnFail 7 0
     | 0x10 => placeAt h.cml.toNat 23 16 + placeAt h.wp 15 8 + placeAt h.page 7 0
     | 0x18 => maskOf 32 fun d => s.imb Img.twb1DUsed d && !s.devGone d
     | _ => 0)

/-- OTP (R592), without the corrections that a word read counts. -/
def State.readOtp (s : State) (o : Nat) : Nat :=
  let t := s.otp
  if 0x1000 ≤ o ∧ o < 0x3000 then
    let v := (s.otpWord ((o - 0x1000) / 8)).value.toNat
    if o % 8 = 0 then v % 2 ^ 32 else v / 2 ^ 32
  else if 0x3000 ≤ o ∧ o < 0x4000 then
    let x := s.otpWord ((o - 0x3000) / 4)
    placeAt x.state 31 30 + x.chk.toNat
  else match o with
    | 0x04 => t.dataLo.toNat
    | 0x08 => t.dataHi.toNat
    | 0x0C => placeAt s.lifecycle 31 29 + placeAt (b2n (!t.bits.isEmpty && !t.vpp)) 28 28 + placeAt (b2n t.vpp) 27 27 + placeAt (b2n s.otpBusy) 26 26 +
        placeAt (b2n t.rej) 25 25 + placeAt (b2n t.fail) 24 24 + placeAt (maskOf 8 s.revoked) 15 8 + maskOf 8 s.slotUsable
    | 0x10 => placeAt t.corr 31 16 + placeAt t.errWord 9 0
    | 0x14 => placeAt (s.rollback 2) 26 18 + placeAt (s.rollback 1) 17 9 + placeAt (s.rollback 0) 8 0
    | _ => 0

/-- UPD (R594). -/
def State.readUpd (s : State) (i : Iface) (o : Nat) : Nat :=
  let u := s.upd
  let x := s.iface i
  let src : Nat := match u.owner with | .twb0 => 0 | .spi => 1 | .parent => 2
  s.regImg (0x120000 + o) +
  (if 0x100 ≤ o ∧ o < 0x160 then (x.authBuf.get 0 ((o - 0x100) / 4)).toNat
   else match o with
     | 0x08 => placeAt u.st.num 31 29 + placeAt s.pkgClass 28 27 + placeAt src 26 25 + placeAt (b2n u.bank) 24 24 + placeAt (b2n u.lock) 23 23 +
         placeAt (b2n u.rej) 22 22 + placeAt u.refCause 21 18 + placeAt u.blocks.length 8 0
     | 0x0C => placeAt s.pkgSvn 24 16 + placeAt (u.banks.get {} (b2n u.bank)).svn 8 0
     | 0x20 => x.nonceLo.toNat
     | 0x24 => x.nonceHi.toNat
     | 0x28 => placeAt (b2n x.authBusy) 31 31 + placeAt (b2n x.armed.isSome) 30 30 + placeAt (b2n x.authFail) 29 29 +
         (match x.armed with | some (act, _, _) => act % 65536 | none => 0)
     | 0x2C => x.ticket.toNat
     | 0x34 => placeAt u.remStat.1 29 24 + placeAt u.remStat.2.1 23 16 + placeAt (b2n u.remStat.2.2.1) 15 15 + placeAt u.remStat.2.2.2.1 14 12 +
         placeAt u.remStat.2.2.2.2 11 8 + u.remCnt.toNat
     | _ => 0)

/-- What a register shows: blocks, offsets not assigned and addresses outside every block (R4, R23). At an address that is no
multiple of 4 the manual is silent: an entry addressed by its range (FLT_FSET, RTC_BKUP, UPD_AUTH, OTP words) acts by the word
that holds the address, any other reads 0 and ignores the write (DESIGN CHOICE, assumption 119). -/
def State.regShow (s : State) (i : Iface) (a : Nat) : Nat :=
  let o := a % 0x10000
  match a / 0x10000 with
  | 0x00 => s.regImg a + s.readGlb o
  | 0x01 => s.regImg a + s.readPipe i o
  | 0x02 => s.readRailBlock o
  | 0x03 => s.readLoopBlock o
  | 0x04 => s.readSeq o
  | 0x05 => s.readFlt o
  | 0x06 => s.readEvt o
  | 0x07 => s.readLane o
  | 0x08 => s.readLace o
  | 0x09 => s.readAdc o
  | 0x0A => s.readThm o
  | 0x0B => s.readChg o
  | 0x0C => s.readGau o
  | 0x0D => s.readRtc i o
  | 0x0E => s.readWdg o
  | 0x0F => s.readRec i o
  | 0x10 => s.readTwb o
  | 0x11 => s.readOtp o
  | 0x12 => s.readUpd i o
  | _ => if 0x200000 ≤ a ∧ a < 0x280000 then s.readTraceWindow (a - 0x200000) else 0

/-- With governing stopped host reads of GLB, LANE and the faceplate are served, and no others (R295). -/
def stopServed (a : Nat) : Bool := a < 0x010000 || (0x070000 ≤ a && a < 0x080000) || (0x400000 ≤ a && a < 0x600000)

/-- A read of one word by an interface, with the side effects that R54, R114, R126, R415, R497, R532 and R536 give its
address. ecc: the faceplate copy fails its check code (R51). bad: the record at the cursor fails its check code. -/
def State.regRead (s : State) (i : Iface) (a : Nat) (ecc bad : Bool) : Word × State :=
  if s.lane.govStop && !stopServed a then (0, s)
  else if a = 0x010008 then s.epochLow i 0
  else if a = 0x010010 then s.epochLow i 1
  else if a = 0x010018 then s.epochLow i 2
  else if a = 0x010050 then s.popCpl i
  else if a = 0x0D0000 then s.rtcFrac i
  else if a = 0x0F0020 then s.recRead i bad
  else if a = 0x0F004C then s.remData
  else if 0x111000 ≤ a ∧ a < 0x113000 then (wordOf (s.regShow i a), s.otpNote ((a - 0x111000) / 8))
  else if 0x400000 ≤ a ∧ a < 0x600000 then s.fpRead i ((a - 0x400000) / 4) ecc
  else if 0x600000 ≤ a ∧ a < 0x600004 then s.rqPop
  else (wordOf (s.regShow i a), s)

/-- LANE_HOLD_PK_CLR (R312). A hold that ends in the same core cycle loads LANE_HOLD_MAX after the clear (R313). -/
def State.holdPkClr (s : State) : State :=
  let now := s.cyc
  s.modLane fun x => { x with holdMax := if x.endCyc = some now then x.holdLen else 0 }

/-- A field of a register word that only stores what a host writes: the bits of m take w. -/
def State.storeRw (s : State) (a m : Nat) (w : Word) : State :=
  let k := BitVec.ofNat 32 m
  s.setRw a ((s.rwWord a &&& ~~~k) ||| (w &&& k))

/-- PIPE writes (R126). -/
def State.writePipe (s : State) (i : Iface) (o : Nat) (w : Word) : State :=
  match o with
  | 0x00 => if w.getLsbD 0 then s.pinSet i else s.pinClear i
  | 0x30 => s.submitReq i w
  | 0x34 => s.modIface i fun x => { x with w1 := w }
  | 0x38 => s.modIface i fun x => { x with w2 := w }
  | 0x3C => s.modIface i fun x => { x with w3 := w }
  | 0x40 =>
    let s := if w.getLsbD 16 then s.modIface i fun x => { x with reqRej := false } else s
    if w.getLsbD 15 then s.bufferClear i else s
  | 0x60 =>
    let s := s.modIface i fun x => { x with cplIe := w.getLsbD 8 }
    if w.getLsbD 9 then s.modIface i fun x => { x with cplLost := 0 } else s
  | 0x78 => if w.getLsbD 31 then s.clearPeaks else s
  | _ => s

/-- RAIL writes (R168, R177). -/
def State.writeRail (s : State) (o : Nat) (w : Word) : State :=
  if o < 0xA00 ∧ o % 64 = 0x38 then
    let s := s.storeRw (0x020000 + o) 0xF w
    if w.getLsbD 8 then s.railPkClr (o / 64) else s
  else if o = 0x3000 ∧ w.getLsbD 0 then s.lsPkClr
  else s

/-- A trace buffer is neither ARMED nor TRIGGERED (R214). -/
def State.trcQuiet (s : State) (b : Nat) : Bool := (s.trace b).st != .armed && (s.trace b).st != .triggered

/-- LOOP writes (R210 to R215). A buffer that entered DONE in this core cycle keeps its bit (R215). -/
def State.writeLoop (s : State) (o : Nat) (w : Word) : State :=
  if o < 0x2000 then
    (if o % 256 = 0xD0 ∧ w.getLsbD 0 then s.modLoopSt (o / 256) fun x => { x with satcnt := 0 } else s)
  else if o < 0x2200 then
    let b := o % 0x1000 / 32
    match o % 32 with
    | 0x00 => if s.trcQuiet b then s.storeRw (0x030000 + o) 0x07E0F01F w else s
    | 0x04 => if s.trcQuiet b then s.storeRw (0x030000 + o) 0xFFF81FFF w else s
    | 0x08 => s.setRw (0x030000 + o) w
    | 0x0C =>
      let s := if w.getLsbD 0 then s.trcArm b else s
      let s := if w.getLsbD 1 then s.trcForce b else s
      if w.getLsbD 2 then s.trcStop b else s
    | _ => s
  else if o = 0x3000 then
    let now := s.cyc
    (List.range 16).foldl (fun s b => if w.getLsbD b then s.modTrace b fun t => { t with done := t.done && t.doneCyc == now } else s)
      (s.storeRw 0x033000 0xFFFF0000 w)
  else if o = 0x3004 then
    let s := (List.range 16).foldl (fun s b => if w.getLsbD b then s.trcArm b else s) s
    (List.range 16).foldl (fun s b => if w.getLsbD (16 + b) then s.trcForce b else s) s
  else s

/-- FLT writes (R264, R265, R274, R275, R281). A pending bit set in this core cycle stays set (R275). -/
def State.writeFlt (s : State) (o : Nat) (w : Word) : State :=
  let now := s.cyc
  if 0x1800 ≤ o ∧ o < 0x1840 then s.forceSrcs ((o - 0x1800) / 4) w
  else if 0x1840 ≤ o ∧ o < 0x1880 then s.unforceSrcs ((o - 0x1840) / 4) w
  else if 0x1880 ≤ o ∧ o < 0x18C0 then
    (maskSources ((o - 0x1880) / 4) w.toNat).foldl (fun s n => s.modSrc n fun x => { x with pend := x.pend && x.pendCyc == now }) s
  else match o with
    | 0x2000 => if w.getLsbD 1 then s.faultnRelease else s
    | 0x2008 => s.swSources (w.toNat % 65536) true
    | 0x200C => s.swSources (w.toNat % 65536) false
    | _ => s

/-- EVT writes (R275, R278, R281). A pending bit set in this core cycle stays set (R275). -/
def State.writeEvt (s : State) (i : Iface) (o : Nat) (w : Word) : State :=
  let now := s.cyc
  if 0x800 ≤ o ∧ o < 0x820 then s.ackEvents i ((o - 0x800) / 4) w
  else if 0x820 ≤ o ∧ o < 0x840 then
    (maskSources ((o - 0x820) / 4) w.toNat).foldl (fun s e => s.modEvt e fun x => { x with pend := x.pend && x.pendCyc == now }) s
  else s

/-- ADC writes (R415, R419, R423). -/
def State.writeAdc (s : State) (o : Nat) (w : Word) : State :=
  match o with
  | 0x200 => if w.getLsbD 16 then s.modAdc fun a => { a with rqOvf := false } else s
  | 0x208 =>
    let s := s.storeRw 0x090208 0xFFFF w
    if w.getLsbD 31 then s.rqFlush else s
  | 0x314 => s.setRw 0x090314 w
  | 0x334 => s.setRw 0x090334 w
  | 0x318 => if w.toNat % 4 = 0 then s else s.meterCmd 0 (w.toNat % 4)
  | 0x338 => if w.toNat % 4 = 0 then s else s.meterCmd 1 (w.toNat % 4)
  | _ => s

/-- A part of a 64-bit alarm word (R502, R516): fraction, seconds low, seconds high. -/
def alarmPart (v : BitVec 64) (k : Nat) (w : Word) : BitVec 64 :=
  let n := v.toNat
  BitVec.ofNat 64 (match k with
    | 0 => n / 2 ^ 16 * 2 ^ 16 + w.toNat % 2 ^ 16
    | 1 => n / 2 ^ 48 * 2 ^ 48 + w.toNat * 2 ^ 16 + n % 2 ^ 16
    | _ => w.toNat % 2 ^ 16 * 2 ^ 48 + n % 2 ^ 48)

/-- One bit of a 2-bit set (R516). -/
def setBit2 (v : BitVec 2) (a : Nat) (on : Bool) : BitVec 2 :=
  if on then v ||| BitVec.ofNat 2 (2 ^ a) else v &&& ~~~(BitVec.ofNat 2 (2 ^ a))

/-- RTC writes (R496, R498, R501 to R503, R516, R518). Every write of RTC_CTL carries a value of RTC_HALT and raises its request. -/
def State.writeRtc (s : State) (i : Iface) (o : Nat) (w : Word) : State :=
  if 0x40 ≤ o ∧ o < 0x80 then
    let a := (o - 0x40) / 32
    let on (k : Nat) (msk : Bool) : State := s.modRtc fun r =>
      match a, msk with
      | 0, false => { r with cmp0 := alarmPart r.cmp0 k w }
      | 0, true => { r with msk0 := alarmPart r.msk0 k w }
      | _, false => { r with cmp1 := alarmPart r.cmp1 k w }
      | _, true => { r with msk1 := alarmPart r.msk1 k w }
    match o % 32 with
    | 0x00 => on 0 false
    | 0x04 => on 1 false
    | 0x08 => on 2 false
    | 0x0C => on 0 true
    | 0x10 => on 1 true
    | 0x14 => on 2 true
    | 0x18 => s.modRtc fun r => { r with almEn := setBit2 r.almEn a (w.getLsbD 0), almWake := setBit2 r.almWake a (w.getLsbD 1) }
    | _ => s
  else if 0x100 ≤ o ∧ o < 0x180 then s.modRtc fun r => { r with bkup := r.bkup.set 0 ((o - 0x100) / 4) w }
  else match o with
    | 0x10 => s.modRtc fun r => { r with setFrac := w.setWidth 16 }
    | 0x14 => s.modRtc fun r => { r with setSec := BitVec.ofNat 48 (r.setSec.toNat / 2 ^ 32 * 2 ^ 32 + w.toNat) }
    | 0x18 => s.modRtc fun r => { r with setSec := BitVec.ofNat 48 (w.toNat % 2 ^ 16 * 2 ^ 32 + r.setSec.toNat % 2 ^ 32) }
    | 0x20 =>
      let s := s.modRtc fun r => { r with trim := w.setWidth 8 }
      let s := s.rtcHaltReq i (w.getLsbD 8)
      if w.getLsbD 31 then s.rtcGo i else s
    | 0x24 => if w.getLsbD 3 && !s.justSet .backup then s.modRtc fun r => { r with bor := false } else s
    | 0x80 =>
      let kept : BitVec 2 := BitVec.ofNat 2 (b2n (s.justSet (.alarm 0)) + 2 * b2n (s.justSet (.alarm 1)))
      s.modRtc fun r => { r with ie := BitVec.ofNat 2 (bitsOf w.toNat 17 16), almF := r.almF &&& (~~~(w.setWidth 2) ||| kept) }
    | _ => s

/-- WDG writes (R507 to R511, R517, R518). -/
def State.writeWdg (s : State) (o : Nat) (w : Word) : State :=
  if 0x200 ≤ o then s
  else
    let k := o / 64
    match o % 64 with
    | 0x08 => s.wdgWrite k (.period (w.setWidth 16))
    | 0x14 => s.wdgWrite k (.checkin (w.setWidth 16))
    | 0x18 => s.wdgWrite k (.key w)
    | 0x1C => if w.getLsbD 0 && !s.justSet (.period (Fin.ofNat 8 k)) then s.modWdg k fun x => { x with prej := false } else s
    | _ => s

/-- REC writes (R524, R531, R533 to R539). -/
def State.writeRec (s : State) (i : Iface) (o : Nat) (w : Word) : State :=
  match o with
  | 0x04 =>
    let (frz, clr) := (s.justSet .freezeLost, s.justSet .clearRej)
    let s := s.modRec fun q => { q with frzLost := q.frzLost && (!w.getLsbD 5 || frz), clrRej := q.clrRej && (!w.getLsbD 0 || clr) }
    if w.getLsbD 4 && !s.justSet (.readLost (i == .spi)) then s.modIface i fun x => { x with rdLost := false } else s
  | 0x08 =>
    let s := if w.getLsbD 0 then s.freezeOn i else s.freezeOff i
    if w.getLsbD 1 then s.flushAsk else s
  | 0x18 => s.ackRec w
  | 0x1C => s.seekStart i w
  | 0x40 => s.recClear i w
  | 0x44 => if w.toNat % 64 = 0 then s else s.remRead (w.toNat % 64)
  | 0x48 => s.modRec fun q => { q with remOfs := w }
  | _ => s

/-- OTP writes (R572, R592, R593). -/
def State.writeOtp (s : State) (i : Iface) (o : Nat) (w : Word) : State :=
  match o with
  | 0x00 => match bitsOf w.toNat 31 29 with
    | 1 => s.after (runProgram i w s)
    | 2 => s.after (runSealWord i w s)
    | 3 => s.after (runLcAdvance i w s)
    | 4 => s.after (runRevoke i w s)
    | 5 => s.after (runCtrRaise i w s)
    | _ => s
  | 0x04 => s.modOtp fun t => { t with dataLo := w }
  | 0x08 => s.modOtp fun t => { t with dataHi := w }
  | 0x0C =>
    let (rej, fail) := (s.justSet .otpRej, s.justSet .otpFail)
    s.modOtp fun t => { t with rej := t.rej && (!w.getLsbD 25 || rej), fail := t.fail && (!w.getLsbD 24 || fail) }
  | _ => s

/-- UPD writes (R577, R583 to R585, R593, R594). -/
def State.writeUpd (s : State) (i : Iface) (o : Nat) (w : Word) : State :=
  if 0x100 ≤ o ∧ o < 0x160 then s.modIface i fun x => { x with authBuf := x.authBuf.set 0 ((o - 0x100) / 4) w }
  else match o with
    | 0x00 => match bitsOf w.toNat 31 29 with
      | 1 => s.updOpen (Iface.src i)
      | 2 => s.updVerify (Iface.src i)
      | 3 => s.updActivate (Iface.src i)
      | 4 => s.updAbort (Iface.src i)
      | 5 => s.updLock i true
      | 6 => s.updLock i false
      | 7 => s.tokenStart i
      | _ => s
    | 0x04 => if w.toNat % 64 = 0 then s else s.remStage (w.toNat % 64)
    | 0x08 => if w.getLsbD 22 && !s.justSet .updRej then s.modUpd fun u => { u with rej := false } else s
    | 0x10 => s.after (runBlockIndex i (w.setWidth 9) s)
    | 0x14 => s.after (runBlockData i w s)
    | 0x18 => s.after (runBlockCrc i w s)
    | 0x28 => if w.getLsbD 29 && !s.justSet (.authFail (i == .spi)) then s.modIface i fun x => { x with authFail := false } else s
    | 0x30 => match w.toNat % 8 with
      | 3 => s.remCmd 3
      | 4 => s.remCmd 4
      | _ => s
    | _ => s

/-- A host write of one word to a register (R4, R5, R23). Before the first committed epoch no write is applied (R331,
R562). -/
def State.regWrite (s : State) (i : Iface) (a : Nat) (w : Word) : State :=
  let o := a % 0x10000
  if !s.live then s
  else match a / 0x10000 with
  | 0x00 => match o with
    | 0x14 => if w.getLsbD 16 && s.glb.avCyc != some s.cyc then s.modGlb fun g => { g with avLost := false } else s
    | 0x30 => if w.getLsbD 0 then s.wake 1 else s
    | 0x60 => s.setRw a w
    | 0x64 => s.setRw a w
    | 0x6C => s.storeRw a 0xFF000FFF w
    | _ => s
  | 0x01 => s.writePipe i o w
  | 0x02 => s.writeRail o w
  | 0x03 => s.writeLoop o w
  | 0x04 => if o = 0x514 ∧ w.getLsbD 0 then s.snapCommand s.lane.mv else s
  | 0x05 => s.writeFlt o w
  | 0x06 => s.writeEvt i o w
  | 0x07 => if o = 0x0C ∧ w.getLsbD 16 then s.holdPkClr else s
  | 0x08 => match o with
    | 0x00 => if w.getLsbD 0 then s.leaveTree else s
    | 0x18 => if w.toNat % 64 = 0 then s else s.wakeSlot (w.toNat % 64)
    | _ => s
  | 0x09 => s.writeAdc o w
  | 0x0C =>
    if o = 0x60 then
      let kept := BitVec.ofNat 4 (maskOf 4 fun k => s.justSet (.gauge (Fin.ofNat 4 k)))
      s.modGau fun g => { g with ie := BitVec.ofNat 4 (bitsOf w.toNat 19 16), intF := g.intF &&& (~~~(w.setWidth 4) ||| kept) }
    else s
  | 0x0D => s.writeRtc i o w
  | 0x0E => s.writeWdg o w
  | 0x0F => s.writeRec i o w
  | 0x10 => if o = 0x0C ∧ w.getLsbD 0 then s.modHost fun h => { h with tmo := 0, pec := 0, spiErr := 0, hnFail := 0 } else s
  | 0x11 => s.writeOtp i o w
  | 0x12 => s.writeUpd i o w
  | _ => s

/-- R5: a host write to a register without a row of its own. -/
def runRegisterWrite (i : Iface) (addr : BitVec 24) (w : Word) (s : State) : Host.Outcome State Fault Refusal :=
  .next (s.regWrite i addr.toNat w)

end Sys2Proof.Machine
end

