-- ==== Sys2Proof/Machine/HostPorts.lean ====
section
/-! DEFINITION. The host ports: PMBus on TWB0, the SPI target, Host Notify and the Alert Response Address, and the board
inputs GPIO and MOTION (R540 to R562, R620, R625). -/

namespace Sys2Proof.Machine

/-- How host firmware is served (R331, R562): in full, with GLB reads alone, or not at all. -/
inductive Served where
  | full | glb | none
  deriving DecidableEq, Repr

/-- How host firmware is served now (R14, R331); from step 6 of a start as in NO_IMAGE (R562). -/
def State.served (s : State) : Served :=
  match s.glb.mode with
  | .run | .parked => .full
  | .noImage => .glb
  | .starting => if 6 ≤ s.glb.startStep ∧ s.glb.haltCause = 0 then .glb else .none
  | _ => .none

/-- The bytes that TWB0 answers. -/
def State.pmBytes (s : State) (l : List Byte) : State := s.modIface .twb0 fun x => { x with replyBytes := l, nacked := false }

/-- A PMBus read of the bytes of a value (R546); every byte reads 0xFF where only GLB is served (R562). -/
def State.pmRead (s : State) (l : List Byte) : State :=
  match s.served with
  | .full => s.pmBytes l
  | .glb => s.pmBytes (l.map fun _ => 0xFF#8)
  | .none => s

/-- A block read: byte count, then the bytes (R546, R549). -/
def State.pmBlock (s : State) (l : List Byte) : State := s.pmRead (BitVec.ofNat 8 l.length :: l)

/-- ASCII bytes of a name. -/
def asciiOf (t : List Nat) : List Byte := t.map (BitVec.ofNat 8)

/-- STATUS_CML bits are set. -/
def State.cmlSet (s : State) (b : Nat) : State := s.modHost fun h => { h with cml := h.cml ||| BitVec.ofNat 8 b }

/-- The packet error check of a write fails, or is missing where it is required (R544). -/
def State.pecBad (s : State) (p : Pec) : Bool := p == .bad || (p == .absent && s.imb Img.twbPecReq)

/-- A PMBus write: none where hosts write nothing (R562), none on a failed PEC (R544), none while its protection level
forbids it (R548); levels are those that permit the command. -/
def State.pmWrite (s : State) (p : Pec) (levels : List Nat) (act : State → State) : State :=
  if s.served ≠ .full then s
  else
    let s := s.pmBytes []
    if s.pecBad p then (s.cmlSet 0x20).modHost fun h => { h with pec := satAdd 255 h.pec 1 }
    else if !levels.contains s.host.wp then s.cmlSet 0x40
    else act s

/-- Every level of WRITE_PROTECT (R548). -/
def wpAll : List Nat := [0x00, 0x20, 0x40, 0x80]

/-- The paged rail (R546). -/
def State.paged (s : State) : Nat := s.host.page

/-- A LINEAR11 word of num/den: the lowest exponent from −8 to +7 at which the mantissa fits (R546). Its mantissa is
rounded to the nearest, ties upward (DESIGN CHOICE, assumption 18). -/
def linear11From (num : Int) (den : Nat) : Nat → Int → Nat
  | 0, _ => ofSigned 5 7 * 2048 + ofSigned 11 (clampInt (-1024) 1023 (num.fdiv (den * 128)))
  | k + 1, e =>
    let m := if e < 0 then (2 * num * 2 ^ (-e).toNat + den).fdiv (2 * den) else (2 * num + den * 2 ^ e.toNat).fdiv (2 * (den * 2 ^ e.toNat))
    if -1024 ≤ m ∧ m ≤ 1023 then ofSigned 5 e * 2048 + ofSigned 11 m else linear11From num den k (e + 1)

/-- LINEAR11 of num/den (R546). -/
def linear11 (num : Int) (den : Nat) : Nat := linear11From num den 16 (-8)

/-- R546: PAGE. -/
def runPage (t : PmTx) (s : State) : Host.Outcome State Fault Refusal :=
  .next (match t with
    | .read => s.pmRead (leBytes 1 s.host.page)
    | .write v p => s.pmWrite p [0x00, 0x20, 0x40] fun s => if v < 40 then s.modHost fun h => { h with page := v } else s.cmlSet 0x40)

/-- R546: OPERATION. A write raises one P4 STATE request (R559). -/
def runOperation (t : PmTx) (s : State) : Host.Outcome State Fault Refusal :=
  .next (match t with
    | .read => s.pmRead (leBytes 1 (if (s.st s.paged).alive then 0x80 else 0x00))
    | .write v p => s.pmWrite p [0x00, 0x20, 0x40] fun s =>
        if v = 0x80 then (s.govern .twb0 (stateReq s.paged .on 4 0x40)).2
        else if v = 0x40 ∨ v = 0x00 then (s.govern .twb0 (stateReq s.paged .off 4 0x40)).2
        else s.cmlSet 0x40)

/-- R551: CLEAR_FAULTS clears the latched bits whose condition no longer holds: those of the paged rail and STATUS_CML. It
counts as a write that WRITE_PROTECT restricts (DEDUCED, assumption 19). -/
def runClearFaults (pec : Pec) (s : State) : Host.Outcome State Fault Refusal :=
  .next (s.pmWrite pec [0x00] fun s => s.modHost fun h => { h with latched := h.latched.set 0 s.paged (s.statusNow s.paged), cml := 0 })

/-- R548: WRITE_PROTECT. A value outside the table of R546 is invalid data. -/
def runWriteProtect (t : PmTx) (s : State) : Host.Outcome State Fault Refusal :=
  .next (match t with
    | .read => s.pmRead (leBytes 1 s.host.wp)
    | .write v p => s.pmWrite p wpAll fun s => if wpAll.contains v then s.modHost fun h => { h with wp := v } else s.cmlSet 0x40)

/-- R546: CAPABILITY. -/
def runCapability (s : State) : Host.Outcome State Fault Refusal := .next (s.pmRead [0xD0#8])

/-- R546: VOUT_MODE. -/
def runVoutMode (s : State) : Host.Outcome State Fault Refusal := .next (s.pmRead [0x14#8])

/-- R546: VOUT_COMMAND. A write raises one P4 SETPOINT request (R559); a read rounds ties upward (assumption 18). -/
def runVoutCommand (t : PmTx) (s : State) : Host.Outcome State Fault Refusal :=
  .next (match t with
    | .read => s.pmRead (leBytes 2 (min 0xFFFF ((2 * 4096 * (s.ent s.paged).val.toInt.toNat + 1000) / 2000)))
    | .write v p => s.pmWrite p [0x00, 0x20] fun s =>
        (s.govern .twb0 { ep := s.paged, kind := .setpoint, val := wordOf ((2 * 1000 * v + 4096) / 8192) }).2)

/-- R551: STATUS_BYTE. -/
def runStatusByte (s : State) : Host.Outcome State Fault Refusal := .next (s.pmRead (leBytes 1 (s.statusWord s.paged % 256)))

/-- R551: STATUS_WORD. -/
def runStatusWord (s : State) : Host.Outcome State Fault Refusal := .next (s.pmRead (leBytes 2 (s.statusWord s.paged)))

/-- R551: STATUS_VOUT. -/
def runStatusVout (s : State) : Host.Outcome State Fault Refusal := .next (s.pmRead (leBytes 1 (s.statusVout s.paged)))

/-- R551: STATUS_IOUT. -/
def runStatusIout (s : State) : Host.Outcome State Fault Refusal := .next (s.pmRead (leBytes 1 (s.statusIout s.paged)))

/-- R551: STATUS_CML. -/
def runStatusCml (s : State) : Host.Outcome State Fault Refusal := .next (s.pmRead (leBytes 1 s.host.cml.toNat))

/-- R546: READ_VOUT: RAIL_VAVG in units of 2^−12 V, rounded to the nearest (assumption 18). -/
def runReadVout (s : State) : Host.Outcome State Fault Refusal :=
  .next (s.pmRead (leBytes 2 (min 0xFFFF ((2 * 1024 * (s.rail s.paged).vavg + 1000) / 2000))))

/-- R546: READ_IOUT: RAIL_IAVG in LINEAR11, mantissa 0 in an off state. -/
def runReadIout (s : State) : Host.Outcome State Fault Refusal :=
  .next (s.pmRead (leBytes 2 (linear11 (if (s.st s.paged).alive then (s.rail s.paged).iavg else 0) 1000)))

/-- The highest temperature of READ_TEMPERATURE_1 in m°C: the stages that are ON, or MS0 to MS31 for RAIL24 to RAIL39
(R424, R546); none in an off state, when no stage is ON or no die sensor is valid. -/
def State.hottest (s : State) (r : Nat) : Option Int :=
  let l : List Int :=
    if !(s.st r).alive then []
    else if r < 24 then (s.phasesOn r).map fun p => 1000 * (((s.phase p).temp : Int) - 50)
    else ((List.range 32).filter fun k => (s.thmIn (16 + k)).valid).map fun k => (s.thmIn (16 + k)).t
  match l with
  | [] => none
  | a :: t => some (t.foldl max a)

/-- R546: READ_TEMPERATURE_1 in LINEAR11, mantissa 0 with no sensor to read. -/
def runReadTemperature1 (s : State) : Host.Outcome State Fault Refusal :=
  .next (s.pmRead (leBytes 2 (linear11 ((s.hottest s.paged).getD 0) 1000)))

/-- R546: PMBUS_REVISION. -/
def runPmbusRevision (s : State) : Host.Outcome State Fault Refusal := .next (s.pmRead [0x33#8])

/-- R546: MFR_ID, ASCII QUOMUS. -/
def runMfrId (s : State) : Host.Outcome State Fault Refusal := .next (s.pmBlock (asciiOf [0x51, 0x55, 0x4F, 0x4D, 0x55, 0x53]))

/-- R546: MFR_MODEL, ASCII KV9840. -/
def runMfrModel (s : State) : Host.Outcome State Fault Refusal := .next (s.pmBlock (asciiOf [0x4B, 0x56, 0x39, 0x38, 0x34, 0x30]))

/-- R546: MFR_REVISION, ASCII B1. -/
def runMfrRevision (s : State) : Host.Outcome State Fault Refusal := .next (s.pmBlock (asciiOf [0x42, 0x31]))

/-- Words read one after the other, with their side effects (R550, R558). Beside each address stands whether the word that it
reads is uncorrectable in its memory (R51, R532). Where only GLB is served other addresses read 0 (R562). -/
def readWords (i : Iface) (glbOnly : Bool) : List (Nat × Bool) → State → List Word × State
  | [], s => ([], s)
  | (a, bad) :: t, s =>
    let r := if glbOnly then (if a < 0x10000 then (wordOf (s.regShow i a), s) else (0, s)) else s.regRead i a bad bad
    let q := readWords i glbOnly t r.2
    (r.1 :: q.1, q.2)

/-- Addresses of n words in the 24-bit space, ascending or fixed. -/
def addrRun (a n : Nat) (fixed : Bool) : List Nat := (List.range n).map fun k => if fixed then a else (a + 4 * k) % 2 ^ 24

/-- Those addresses, each with its mark of an uncorrectable word. -/
def markRun (l : List Nat) (bad : List Bool) : List (Nat × Bool) := l.zip (bad ++ List.replicate l.length false)

/-- The bytes of words. -/
def wordBytes (l : List Word) : List Byte := l.flatMap fun w => leBytes 4 w.toNat

/-- MFR_QREAD and MFR_QFIFO (R549, R550): only the words fetched have their side effects. n outside 1 to 32 is invalid
data. -/
def State.qread (s : State) (a n fetched : Nat) (fixed : Bool) (bad : List Bool) : State :=
  if s.served = .none then s
  else if n < 1 ∨ 32 < n then (if s.served = .full then (s.pmBytes []).cmlSet 0x40 else s.pmBytes [])
  else
    let (l, s1) := readWords .twb0 (s.served == .glb) (markRun (addrRun a (min n fetched) fixed) bad) s
    ((s1.pmBytes (BitVec.ofNat 8 (4 * n) :: wordBytes l))).answer .twb0 l

/-- R550: MFR_QREAD. -/
def runMfrQread (addr : BitVec 24) (n : Nat) (fetched : Nat) (bad : List Bool) (s : State) : Host.Outcome State Fault Refusal :=
  .next (s.qread addr.toNat n fetched false bad)

/-- R550: MFR_QFIFO. -/
def runMfrQfifo (addr : BitVec 24) (n : Nat) (fetched : Nat) (bad : List Bool) (s : State) : Host.Outcome State Fault Refusal :=
  .next (s.qread addr.toNat n fetched true bad)

/-- Words written in order, a word addressed to PIPE_REQ0 last (R560). -/
def State.writeWords (s : State) (i : Iface) (l : List (Nat × Word)) : State :=
  (l.filter (fun x => x.1 != 0x010030) ++ l.filter (fun x => x.1 == 0x010030)).foldl (fun s x => s.regWrite i x.1 x.2) s

/-- R549, R550: MFR_QWRITE. WRITE_PROTECT does not restrict it (R548). -/
def runMfrQwrite (addr : BitVec 24) (ws : List Word) (pec : Pec) (s : State) : Host.Outcome State Fault Refusal :=
  .next (s.pmWrite pec wpAll fun s =>
    if ws.length < 1 ∨ 32 < ws.length then s.cmlSet 0x40
    else s.writeWords .twb0 ((addrRun addr.toNat ws.length false).zip ws))

/-- R549: MFR_QREQ. -/
def runMfrQreq (ws : List Word) (pec : Pec) (s : State) : Host.Outcome State Fault Refusal :=
  .next (s.pmWrite pec wpAll fun s =>
    match ws with
    | [a, b, c, d] => (s.modIface .twb0 fun x => { x with w1 := b, w2 := c, w3 := d }).submitReq .twb0 a
    | _ => s.cmlSet 0x40)

/-- R549: MFR_QCPL: the oldest completion, or 16 bytes of 0. -/
def runMfrQcpl (s : State) : Host.Outcome State Fault Refusal :=
  .next (match s.served with
    | .full =>
      if s.host.twb0.cplFifo.isEmpty then s.pmBlock (List.replicate 16 0)
      else
        let t := (s.popCpl .twb0).2
        t.pmBlock (wordBytes t.host.twb0.cplLatch)
    | _ => s.pmBlock (List.replicate 16 0))

/-- R549: MFR_QENTRY: the four words of the paged rail's faceplate entry, read as under R54. -/
def runMfrQentry (eccErr : Bool) (s : State) : Host.Outcome State Fault Refusal :=
  .next (match s.served with
    | .full =>
      let r0 := s.fpRead .twb0 (4 * s.paged) eccErr
      let r1 := r0.2.fpRead .twb0 (4 * s.paged + 1) false
      let r2 := r1.2.fpRead .twb0 (4 * s.paged + 2) false
      let r3 := r2.2.fpRead .twb0 (4 * s.paged + 3) false
      r3.2.pmBlock (wordBytes [r0.1, r1.1, r2.1, r3.1])
    | _ => s.pmBlock (List.replicate 16 0))

/-- R547: a command outside the tables of R546 and R549. -/
def runInvalidCommand (isWrite : Bool) (s : State) : Host.Outcome State Fault Refusal :=
  .next (
    let s1 := if isWrite then s.modIface .twb0 fun x => { x with replyBytes := [], nacked := true } else s.pmBytes [0xFF#8]
    match s.served with
    | .full => s1.cmlSet 0x80
    | .glb => if isWrite then s else s1
    | .none => s)

/-- R542: TWB0 gives up a transaction and applies none of its writes. -/
def runTwb0Timeout (s : State) : Host.Outcome State Fault Refusal :=
  .next (if s.served = .none then s else s.modHost fun h => { h with tmo := satAdd 255 h.tmo 1 })

/-- R552: the Alert Response Address is read: the unit answers while ALERT_N is low and it wins the arbitration. -/
def runAlertResponse (arbWon : Bool) (s : State) : Host.Outcome State Fault Refusal :=
  .next (if s.served = .full && s.alertLow && arbWon then s.pmBytes (leBytes 1 (2 * s.twbAddr)) else s)

/-- The data word of Host Notify (R553). -/
def State.notifyWord (s : State) : Nat :=
  b2n (!s.host.twb0.cplFifo.isEmpty) + 2 * b2n (s.pendRouted 1) + 4 * b2n s.blockInt

/-- R553: INT0_N goes low and Host Notify is sent. ok: it was acknowledged. -/
def runHostNotify (ok : Bool) (s : State) : Host.Outcome State Fault Refusal :=
  .next (if s.served = .full && s.imb Img.twbHnEn && s.intLow .twb0 then
      s.modHost fun h => { h with hnWord := BitVec.ofNat 16 s.notifyWord, hnRetry := if ok then none else some 0 }
    else s)

/-- R553: a retry, 1 ms after a failure; the third failed one ends the message. -/
def runHostNotifyRetry (ok : Bool) (s : State) : Host.Outcome State Fault Refusal :=
  .next (match s.host.hnRetry with
    | none => s
    | some k =>
      if ok then s.modHost fun h => { h with hnRetry := none }
      else if 2 ≤ k then s.modHost fun h => { h with hnRetry := none, hnFail := satAdd 255 h.hnFail 1 }
      else s.modHost fun h => { h with hnRetry := some (k + 1) })

/-- The address that an SPI frame carries, most significant byte first (R555). -/
def spiAddr (l : List Byte) : Nat := (l.getD 1 0).toNat * 65536 + (l.getD 2 0).toNat * 256 + (l.getD 3 0).toNat

/-- Command byte of an SPI frame (R555): bits. -/
def spiCmd (l : List Byte) : Nat := (l.getD 0 0).toNat

/-- Words of an SPI frame (R555). -/
def spiWords (l : List Byte) : Nat := bitsOf (spiCmd l) 3 0 + 1

/-- R555 to R558: an SPI read frame. avail: every data word is available at the start of the status byte. A hold, a clock
switch and a warm start make READY 0. -/
def execSpiReadFrame (bytes : List Byte) (avail : Bool) (bad : List Bool) (s : State) : Host.Outcome State Fault Refusal :=
  .next (
    let c := spiCmd bytes
    let crc := bitOf c 5
    let n := spiWords bytes
    let addrs := addrRun (spiAddr bytes) n (bitOf c 4)
    if s.served = .none ∨ bitsOf c 7 6 ≠ 0 ∨ bytes.length < 4 then s
    else
      let crcOk := !crc || (bytes.length == 5 && crc8 (bytes.take 4) == bytes.getD 4 0)
      let busy := s.lane.hold.isSome || s.lane.switching || s.glb.warmBusy
      let ready := crcOk && (if s.served = .full then avail && !busy && (!s.lane.govStop || addrs.all stopServed) else addrs.all (· < 0x10000))
      let (l, t) := if ready then readWords .spi (s.served == .glb) (markRun addrs bad) s else ([], s)
      let status := BitVec.ofNat 8 (placeAt (b2n ready) 7 7 + placeAt (b2n t.host.spiRej) 6 6 + placeAt (b2n !t.host.spi.cplFifo.isEmpty) 5 5 +
        placeAt (b2n (t.intLow .spi)) 4 4 + t.glb.mode.code)
      let data := if ready then wordBytes l else List.replicate (4 * n) 0xFF#8
      let dummy := List.replicate (if s.served = .full then s.im Img.twbSpiDummy + 1 else 1) 0xFF#8
      let reply := dummy ++ status :: data ++ (if crc then [crc8 (status :: data)] else [])
      ((t.modHost fun h => { h with spiRej := false }).modIface .spi fun x => { x with replyBytes := reply }).answer .spi l)

/-- R555, R557, R560: an SPI write frame is accepted at HSPI_CS_N rising, or rejected. -/
def runSpiWriteFrame (bytes : List Byte) (s : State) : Host.Outcome State Fault Refusal :=
  .next (
    let c := spiCmd bytes
    let crc := bitOf c 5
    let n := spiWords bytes
    if s.served = .none ∨ bitsOf c 7 6 ≠ 1 then s
    else
      let body := bytes.take (4 + 4 * n)
      let ok := bytes.length == 4 + 4 * n + b2n crc && (!crc || crc8 body == bytes.getD (4 + 4 * n) 0) &&
        (crc || s.served == .glb || !s.imb Img.twbSpiCrcReq)
      if !ok then s.modHost fun h => { h with spiErr := satAdd 255 h.spiErr 1, spiRej := true }
      else s.writeWords .spi ((addrRun (spiAddr bytes) n (bitOf c 4)).zip (wordsOf (body.drop 4))))

/-- R344: a write of 1 to GLB_WAKE_CMD. -/
def runWakeCommand (_i : Iface) (s : State) : Host.Outcome State Fault Refusal := .next (if s.live then s.wake 1 else s)

/-- R620, R625, R341: the filtered level of GPIOnn changes. -/
def runGpioChange (n : Fin 32) (level : Bool) (s : State) : Host.Outcome State Fault Refusal :=
  .next (
    let was := s.glb.gpioIn.getLsbD n.val
    let b := BitVec.ofNat 32 (2 ^ n.val)
    let t := s.modGlb fun g => { g with gpioIn := if level then g.gpioIn ||| b else g.gpioIn &&& ~~~b }
    if was != level && s.live && bitOf (s.im Img.wakeGpio) n.val then t.wake 3 else t)

/-- A commit of the motion input's own state (R39, R40). The manual names no writer for it: class, one of R34, and requester
are free values (assumption 20). -/
def State.motionCommit (s : State) (st : EState) (pulses : Option Nat) : State :=
  let (w, s) := s.fresh
  s.commit liMotion { st := some st, val := pulses.map wordOf, cls := bitsOf w.toNat 15 13 % 6, reqr := bitsOf w.toNat 12 0 }

/-- R39, R341: the filtered motion input changes or is refreshed; ACTIVE is a wake condition where enabled. -/
def runMotionChange (moving : Bool) (pulses : Nat) (s : State) : Host.Outcome State Fault Refusal :=
  .next (
    if !s.live then s
    else
      let t := s.motionCommit (if moving then .active else .clear) (some pulses)
      if moving && s.imb Img.wakeMotion then t.wake 4 else t)

/-- R39: the motion input is not refreshed within its limit. -/
def runMotionRefreshLimit (s : State) : Host.Outcome State Fault Refusal :=
  .next (match s.live, s.st liMotion with
    | true, .active | true, .clear => s.motionCommit .stale none
    | _, _ => s)

end Sys2Proof.Machine
end

