-- ==== Sys2Proof/Machine/Tick.lean ====
section
/-! DEFINITION. The tick: cut, pin, swap and publication (R45 to R68), hardware-following flags (R655), delivery of
completions (R111 to R114), availability (R25), what a domain head and a member send and judge (R372 to R376, R384),
the publishers, and what waits for a tick. -/

namespace Sys2Proof.Machine

/-- Insert by a key, behind entries of the same key. -/
def insertBy {α : Type} (key : α → Nat) (a : α) : List α → List α
  | [] => [a]
  | b :: t => if key a < key b then a :: b :: t else b :: insertBy key a t

/-- Sort by a key; entries of one key keep their order. -/
def sortBy {α : Type} (key : α → Nat) (l : List α) : List α := l.foldl (fun t a => insertBy key a t) []

/-- Core cycles of an epoch: 250 to the microsecond, 25 in PARKED (R45, R340). -/
def State.tickCycles (s : State) : Nat := s.im Img.epochUs * (if s.glb.mode = .parked then 25 else 250)

/-- Epoch of a journal entry: the publication that first holds it. -/
def JEntry.epoch : JEntry → Nat
  | .entry e _ _ => e
  | .set e _ _ => e
  | .slot e _ _ => e
  | .device e _ _ => e

/-- Replay one journal entry into the publication shown (R50). -/
def Ledger.replay (l : Ledger) : JEntry → Ledger
  | .entry _ id e | .set _ id e => { l with fp := l.fp.set {} id e }
  | .slot _ sl p => { l with fpSlotPres := l.fpSlotPres.set .present sl p }
  | .device _ d p => { l with fpDevPres := l.fpDevPres.set .present d p }

/-- Journal entries that the publication shown does not hold yet. -/
def Ledger.unapplied (l : Ledger) : List JEntry := l.journal.drop l.catchUpLen

/-- The ledger with the publication of the commits up to epoch c (R66). -/
def Ledger.viewAt (l : Ledger) (c : Nat) : Ledger :=
  { (l.unapplied.filter fun j => j.epoch ≤ c).foldl Ledger.replay l with fpEpoch := c }

/-- The swap of a tick: the publication moves to cut c (R49, R66). Applied entries leave the journal, or stay at its
oldest end for the catch-up that begins (R63). -/
def Ledger.swap (l : Ledger) (c : Nat) (catchUp : Bool) : Ledger :=
  let done := l.unapplied.filter fun j => j.epoch ≤ c
  let rest := l.unapplied.filter fun j => !decide (j.epoch ≤ c)
  if catchUp then { l.viewAt c with journal := done ++ rest, catchUp := true, catchUpLen := done.length, relWaits := false }
  else { l.viewAt c with journal := rest }

/-- An entry of the publication shown, as readers see it (R44, R56). -/
def Ledger.shown (l : Ledger) (id : Nat) : Entry :=
  let p := if slotOf id ≠ 0 then l.fpSlotPres.get .present (slotOf id)
    else match kindOf (liOf id) with
      | .foreign k => l.fpDevPres.get .present (k / 16)
      | _ => .present
  presentAs p (l.fp.get {} id)

/-- The tick must release the pin (R61). -/
def State.pinEnds (s : State) : Bool :=
  s.led.pinRelReq || decide (64000 * usTime ≤ s.time - s.led.pinCyc) ||
  decide (Config.pinJournalLimit < s.led.used)

/-- Pin, catch-up and swap at a tick with cut c (R57 to R64, R660). -/
def State.tickSwap (s : State) (c : Nat) : State :=
  let l := s.led
  if l.pinned && !s.pinEnds then s
  else if l.pinned then
    let s := s.modLed fun l => { l with pinned := false, pinLost := !l.pinRelReq, pinRelReq := false }
    if l.catchUp then s.modLed fun l => { l with relWaits := true } else s.modLed fun l => l.swap c true
  else if l.catchUp then s
  else s.modLed fun l => l.swap c l.relWaits

/-- The cut epoch of tick n (R65, R67, R375): the lowest delivery of a counted slot whose first set counts; n itself without
a domain. -/
def State.cutAt (s : State) (n : Nat) : Nat :=
  let l := (s.countedSlots.map fun sl => (s.slotRec sl).deliveredBy s.cyc).filter (· ≠ 0)
  if s.isDomainHead then max s.lace.lastCut (l.foldl min n) else n

/-- Write a staged entry: it keeps the epoch and the writer that its unit gave it and appears in publication c (R66, R68). -/
def State.putStaged (s : State) (c sl : Nat) (x : Nat × Entry) : State :=
  let id := epId sl x.1
  let s := s.modLed fun l => { l with cur := l.cur.set {} id x.2, journal := l.journal ++ [.set c id x.2] }
  if x.1 = liCharger ∧ x.2.st ≠ .active then s.pairEnds sl else s

/-- A deferred commit for a slot (R44, R109). -/
def Deferred.isSlot (d : Deferred) (sl : Nat) : Bool :=
  match d with
  | .slot k _ => k == sl
  | _ => false

/-- A slot's first set after a declaration or a release returns it to PRESENT in the same publication, by one commit
(R44, R369); without room for it the set waits with it (R109). -/
def State.slotBack (s : State) (c sl : Nat) : State :=
  if s.led.slotPres.get .present sl = .present ∨ s.led.room false = false then s
  else
    s.modLed fun l => { l with slotPres := l.slotPres.set .present sl .present, journal := l.journal ++ [.slot c sl .present], cmtNow := l.cmtNow + 1, late := l.late.filter fun d => !d.isSlot sl }

/-- Every complete set at or below the cut goes into the ledger, slot by slot in epoch order, once its slot is PRESENT (R66,
R375). -/
def State.deliverSets (s : State) (c : Nat) : State :=
  let due : (Nat × Nat × Bool × List (Nat × Entry)) → Bool := fun x => x.2.2.1 && decide (x.2.1 ≤ min c ((s.slotRec x.1).deliveredBy s.cyc))
  (sortBy (fun x => x.2.1) (s.lace.staged.filter due)).foldl (fun s x =>
    let s1 := s.slotBack c x.1
    if s1.led.slotPres.get .present x.1 != .present then s
    else (x.2.2.2.foldl (fun s y => s.putStaged c x.1 y) s1).modLace fun l => { l with staged := l.staged.erase x }) s

/-- Cut a list into pieces of at most n. -/
def pieces {α : Type} (n : Nat) : Nat → List α → List (List α)
  | 0, _ => []
  | k + 1, l => if l.length ≤ n then [l] else l.take n :: pieces n k (l.drop n)

/-- The header of a DELTA or MIRROR fragment (R357). -/
def setHead (epoch n flags : Nat) : List Byte := leBytes 6 epoch ++ leBytes 2 n ++ leBytes 1 flags ++ leBytes 7 0

/-- Send the fragments of a set: at most n records each, LAST in the final one (R357). -/
def State.sendSet (s : State) (e : Nat) (kind : FrameKind) (dst src : Fin 64) (epoch flags n : Nat) (recs : List (List Byte)) : State :=
  let ps := pieces n (recs.length + 1) recs
  (ps.zip (List.range ps.length)).foldl (fun s x =>
    let last := b2n (x.2 + 1 == ps.length)
    s.sendFrame e { kind := kind, dst := dst, src := src, otag := 0, slot := 0, payload := setHead epoch x.1.length (flags + last) ++ x.1.flatten }) s

/-- What a folded index, or this unit's own endpoint, shows in a publication (R372, R373, R379). -/
def State.setEntry (s : State) (v : Ledger) (f : Nat) : Entry := v.shown (if s.isGroupHead then s.foldEp f else f)

/-- The indices that a set holds: every one that is not ABSENT, or those whose entry differs from the one sent last (R369, R372,
R373). -/
def State.setIdx (s : State) (v : Ledger) (full : Bool) : List Nat :=
  (List.range 2048).filter fun f => if full then (s.setEntry v f).st != .absent else s.setEntry v f != s.lace.sentSet.get {} f

/-- Send this unit's set for epoch m to the parent (R369, R372, R373, R390). A FULL set waits for an eyelet that is UP, after a
wake (R391). -/
def State.sendOwnSet (s : State) (m : Nat) (parked : Bool) : State :=
  match s.lace.parent with
  | none => s
  | some e =>
    if (s.eye e).st ≠ .up then s
    else
      let v := s.led.viewAt m
      let full := s.lace.fullSet
      let l := (s.setIdx v full).map fun f => (f, s.setEntry v f)
      (s.sendSet e .delta 0 s.mySlotUp m (2 * b2n full + 4 * b2n parked) 63 (l.map fun x => leBytes 2 x.1 ++ words4Bytes x.2.words)).modLace fun x =>
        { x with fullSet := false, lastSet := m, sentSet := l.foldl (fun t y => t.set {} y.1 y.2) (if full then [] else x.sentSet) }

/-- The set that a tick n with cut c calls for: a member's at each delta period, a group head's once its own cut has
reached it, any unit's at the tick that begins its park entry (R339, R372, R373, R390). A FULL set is for a delta epoch that
ends after the grant (R369). -/
def State.tickSet (s : State) (n c : Nat) : State :=
  if s.lace.mySlot = 0 || s.glb.role < 2 then s
  else if s.glb.parkPend && !s.glb.parkTick then s.sendOwnSet n true
  else
    let d := 2 ^ s.lace.ddiv
    let m := if s.isGroupHead then c / d * d else n
    if m % d = 0 && decide (s.lace.lastSet < m) && (!s.lace.fullSet || decide (s.lace.grantEp ≤ m)) then s.sendOwnSet m false else s

/-- Slot table as a SLOTTAB set shows it: presentation code and identity (R357, R384). -/
def State.slotTab (s : State) (v : Ledger) : Tbl (Nat × BitVec 64) :=
  (List.range 64).filterMap fun sl =>
    let p := match v.fpSlotPres.get .present sl with
      | .present => 0
      | .unreachable _ => 1
      | .free => 2
    let x := (p, (s.slotRec sl).uid)
    if sl = 0 || x = (0, 0) then none else some (sl, x)

/-- The root sends publication c to its standby roots: entries changed since the publication before, and the slot table
when it has changed (R384). The first one after a standby root is counted holds every entry (DEDUCED, assumption 41). -/
def State.mirrorTo (s : State) (c : Nat) : State :=
  let to' := (List.range 64).filter fun sl => (s.slotRec sl).sb && (s.slotRec sl).st == .counted
  if s.glb.role != 1 || to'.isEmpty || decide (c ≤ s.lace.mirrored) then s
  else
    let v := s.led.viewAt c
    let since := s.lace.mirrored
    let ids := if since = 0 then v.fp.map (·.1)
      else (v.fp.map (·.1)).filter fun id => s.led.journal.any fun j => match j with
        | .entry e k _ | .set e k _ => k == id && decide (since < e) && decide (e ≤ c)
        | .device e d _ => decide (since < e) && decide (e ≤ c) && slotOf id == 0 && (match kindOf (liOf id) with
          | .foreign k => k / 16 == d
          | _ => false)
        | .slot .. => false
    let gone := if since = 0 then [] else (s.led.journal.filterMap fun j => match j with
        | .entry e k x | .set e k x => if decide (since < e) && decide (e ≤ c) && x.st == .absent then some k else none
        | _ => none).filter fun k => (v.fp.get {} k).st == .absent
    let recs := ((ids ++ gone).filter fun id => v.fpSlotPres.get .present (slotOf id) == .present).map fun id => leBytes 3 id ++ words4Bytes (v.shown id).words
    let tab := s.slotTab v
    let tabRecs := ((List.range 64).filter (· ≠ 0)).map fun sl =>
      let x := tab.get (0, 0) sl
      leBytes 1 (sl + 64 * x.1) ++ leBytes 8 x.2.toNat
    let s := to'.foldl (fun s sl =>
      let e := (s.slotRec sl).eye
      let s := if tab = s.lace.sentTab then s else s.sendSet e .mirror (slotFin sl) 0 c 8 60 tabRecs
      s.sendSet e .mirror (slotFin sl) 0 c 0 60 recs) s
    s.modLace fun l => { l with mirrored := c, sentTab := tab }

/-- Begin the epoch after tick n (R46, R47, R109). PIPE_CMT_PEAK rises at the tick alone, with the count of the whole epoch that
ends: R126 does not say whether the running epoch shows, or whether commits before a clear within it count (DESIGN CHOICE,
assumption 130). -/
def State.nextEpoch (s : State) (n : Nat) : State :=
  let s := s.modLed fun l => { l with pubEpoch := n, epoch := n + 1, cmtLast := l.cmtNow, cmtPeak := max l.cmtPeak l.cmtNow, cmtNow := 0, was := [] }
  let low := match s.mram.wm0, s.mram.wm1 with
    | some a, some b => min a b
    | _, _ => 0
  if low + 65535 ≤ n + 1 then s.wmWrite else s

/-- The presentation of a deferred declaration carries the epoch in which it is written (R44, R109). -/
def Pres.at (p : Pres) (ep : Nat) : Pres :=
  match p with
  | .unreachable _ => .unreachable ep
  | p => p

/-- One deferred commit is written in the new epoch; a change of state that another commit has overtaken is not (R109;
DEDUCED, assumption 13). -/
def State.writeLate (s : State) (d : Deferred) : State :=
  match d with
  | .entry id c =>
    let e := s.stored id
    match c.st with
    | some t => if t = e.st ∨ legalTrans e.ty e.st t then s.commit id c else s
    | none => s.commit id c
  | .slot sl p => s.commitSlot sl (p.at s.led.epoch)
  | .device d p => s.commitDev d (p.at s.led.epoch)

/-- The commits that waited for this epoch, oldest first (R109, R655). -/
def State.flushLate (s : State) : State :=
  let l := s.led.late
  l.foldl State.writeLate (s.modLed fun x => { x with late := [] })

/-- Source entries may be submitted again, but for one whose last submission commits in this epoch still (R276). -/
def State.sourcesOpen (s : State) : State :=
  (s.srcs.keys).foldl (fun s n => if (s.src n).committed && !s.entryUnderWay n then s.modSrc n fun x => { x with committed := false } else s) s

/-- A commit other than the one of its hardware flags has reached an endpoint in epoch n, which ends, or at its tick (R655). -/
def State.reachedIn (s : State) (n li : Nat) : Bool :=
  let e := s.stored li
  decide (n ≤ e.epoch) && (e.writer != writerOf 7 0 || s.glb.firstEpoch || decide (n < e.epoch))

/-- The hardware-following type flags of one endpoint (R655): committed when they differ and no other commit has reached
the endpoint in epoch n, which ends. -/
def State.hwFlags (s : State) (n li : Nat) : State :=
  let e := s.stored li
  let m := hwFlagMask li
  let now := s.typeFlags li e.st
  if e.st = .absent ∨ s.reachedIn n li then s
  else if (bitsOf e.flags.toNat 11 8).land m = now.land m then s
  else s.commitFlags li 7 0 0 0

/-- The hardware conditions of an epoch that ends (R33, R177): phases and rails that were limited. -/
def State.limitFlags (s : State) : State :=
  let s := (List.range 48).foldl (fun s p => s.modPhase p fun x => { x with limEpoch := x.limNow, limNow := x.clNow }) s
  (List.range 40).foldl (fun s r =>
    let now := (s.railPhases r).any fun p => (s.phase p).clNow
    s.modRail r fun x => { x with cl := x.clNow, clNow := now }) s

/-- Every endpoint with hardware-following type flags (R655). -/
def hwFlagEps : List Nat := List.range 40 ++ (List.range 48).map liPhase ++ (List.range 32).map liSwitch

/-- Deliver one completion (R113, R114, R224, R379). -/
def State.deliver (s : State) (c : Cpl) : State :=
  let s := s.modPipe fun p => { p with codeCnt := p.codeCnt.set 0 c.code.num (p.codeCnt.get 0 c.code.num + 1) }
  if c.cls = 3 then
    s.sendCplUp { c with ep := epId s.lace.mySlot c.fep }.words c.otag
  else match ifaceOf c.reqr with
    | some i => s.modIface i fun x =>
        if x.cplFifo.length < 64 then { x with cplFifo := x.cplFifo ++ [c] }
        else { x with cplFifo := x.cplFifo.drop 1 ++ [c], cplLost := satAdd 0xFFFF x.cplLost 1 }
    | none => if 0x10 ≤ c.reqr ∧ c.reqr < 0x20 then s.groupCpl (c.reqr - 0x10) c else s

/-- Deliver the completions decided in the epoch that ended, in order of their sequence numbers (R111). -/
def State.deliverAll (s : State) : State :=
  let l := sortBy (fun c => (c.seq - s.pipe.seqNo - 1).toNat) s.pipe.done
  l.foldl (fun s c => s.deliver c) (s.modPipe fun p => { p with done := [] })

/-- No condition of R635 holds. -/
def State.withinLimits (s : State) : Bool :=
  decide (s.lane.mv.vinA ≤ 60000) && decide (s.lane.mv.vinB ≤ 60000) &&
  ((List.range 48).all fun n => !(s.thmIn n).valid || (decide ((s.thmIn n).t ≤ 150000) && decide (-40000 ≤ (s.thmIn n).t))) &&
  [354, 355, 360, 361, 362, 363, 364].all fun n => !s.asserted n

/-- Bit of GLB_AVAIL [4:0] as the conditions stand (R19, R24). -/
def State.availBit (s : State) (b : Nat) : Bool :=
  match b with
  | 4 => s.lane.pllaLock && s.lane.xtalOk
  | 3 => s.lane.vote == 7
  | 2 => s.withinLimits
  | 1 => s.seq.holdOk
  | _ => decide (2 ≤ ((List.range 3).filter fun k => s.lane.srcOk.getLsbD k).length)

/-- Update GLB_AVAIL; a condition that stops holding sets GLB_AV_LOST and raises its note (R22, R25). -/
def State.availUpdate (s : State) : State :=
  (List.range 5).foldl (fun s b =>
    let now := s.availBit b
    let was := s.glb.avail.getLsbD b
    let s := s.modGlb fun g => { g with avail := (g.avail &&& ~~~(BitVec.ofNat 5 (2 ^ b))) ||| BitVec.ofNat 5 (b2n now * 2 ^ b) }
    let c := s.cyc
    if was && !now then ((s.modGlb fun g => { g with avLost := true, avCyc := some c }).pulseSrc 281 b).raiseEvt 217 (reqrSource 281) else s) s

/-- What a domain head judges at tick n (R370, R376, R377). -/
def State.lagCheck (s : State) (n : Nat) : State :=
  if !s.isDomainHead then s.leaveFinish
  else
    let s := s.followSrc 335 0 (decide (s.im Img.laceLagWarn ≤ s.led.pubEpoch - s.led.fpEpoch))
    (List.range 64).foldl (fun s sl =>
      let x := s.slotRec sl
      if (x.st == .counted && decide (s.im Img.laceLagMax ≤ n - x.ep)) || x.lost then s.declareSlot sl else s) s

/-- Groups that wait for the next epoch: those that resume, those that reached OFF under R247 with the inputs good already
(DEDUCED, assumption 105), and those that start by themselves (R220, R248, R249, R342). -/
def State.groupsTick (s : State) : State :=
  let s := (List.range 16).foldl (fun s g => if (s.group g).resuming && s.st (liGroup g) == .held then s.groupResume g else if (s.group g).ilOff && s.inputsGood then s.groupAuto g else s) s
  if s.glb.firstEpoch || s.glb.wakeAuto then
    let first := s.glb.firstEpoch
    let s := (s.modGlb fun g => { g with firstEpoch := false, wakeAuto := false }).autoStart
    if first then s.wdgAuto else s
  else s

/-- What a pending warm start waits for (R333). -/
def State.warmMay (s : State) : Bool :=
  s.glb.mode == .run && s.lane.hold.isNone && !s.lane.switching && s.lane.reform == 0 && !s.lane.govStop

/-- The table of R589 is evaluated again at the tick of R333: a condition that holds withdraws the activation. -/
def State.warmAgain (s : State) : State :=
  if s.glb.warmPend.getLsbD 0 then
    match s.actCause with
    | some c => (s.modGlb fun g => { g with warmPend := g.warmPend &&& 2 }).actRefuse c
    | none => s
  else s

/-- The memory corrections of a 1 s window of the core's time, judged at the first tick at or after its end (R312). No command
brings single corrections: the two counts grow by free values (assumption 139). -/
def State.corrWindow (s : State) : State :=
  if s.time < s.lane.corrAt + 1000000 * usTime then s
  else
    let now := s.time
    let (a, s) := s.fresh
    let (b, s) := s.fresh
    let n := min 0xFFFF a.toNat
    let s := s.modLane fun x => { x with corrAt := now, sramCorr := n, mramCorr := satAdd 0xFFFF x.mramCorr b.toNat }
    s.followSrc 277 0 (decide (s.im Img.corrThr < n))

/-- A pending warm start or park entry begins after this tick (R333, R339). -/
def State.startsTick (s : State) : State :=
  let s := if s.glb.warmPend != 0 && s.warmMay && !s.glb.warmTick then s.warmAgain else s
  let warm := s.glb.warmPend != 0 && s.warmMay
  s.modGlb fun g => { g with warmTick := g.warmTick || warm, parkTick := g.parkPend }

/-- The tick itself, in its core cycle (R49). -/
def State.tickNow (s : State) : State :=
  let s := { s with cyc := max s.cyc s.tickAt }
  let s := { s with tickAt := s.tickAt + s.tickCycles }
  let ended := s.led.epoch
  let n := s.tickNumber 0
  let c := s.cutAt n
  let s := s.deliverSets c
  let s := s.mirrorTo c
  let s := s.tickSet n c
  let s := s.tickSwap c
  let s := s.modLace fun l => { l with raiseTo := if l.raiseIn = 0 then none else l.raiseTo, raiseIn := l.raiseIn - 1, lastCut := c, noMarker := l.noMarker + 1, sinceMarker := l.sinceMarker + 1 }
  let s := (s.nextEpoch n).flushLate.sourcesOpen.limitFlags
  let s := hwFlagEps.foldl (fun s li => s.hwFlags ended li) s
  let first := s.glb.firstEpoch
  let s := s.deliverAll
  let s := (s.availUpdate.lagCheck n).corrWindow.rtcTick
  let s := (s.measureTick.thermalTick.chargerTick.gaugeTick first).groupsTick
  s.startsTick

end Sys2Proof.Machine
end

