-- ==== Sys2Proof/Machine/Lanes.lean ====
section
/-! DEFINITION. Lanes, holds, re-form, clocks, references and supply paths (R282 to R313). -/

namespace Sys2Proof.Machine

/-- A lane votes. -/
def State.votes (s : State) (l : Nat) : Bool := s.lane.vote.getLsbD l
/-- Lanes that vote, ascending. -/
def State.voters (s : State) : List Nat := (List.range 3).filter s.votes
/-- A bit of a 3-bit lane mask set or cleared. -/
def mask3 (m : BitVec 3) (l : Nat) (on : Bool) : BitVec 3 :=
  if on then m ||| BitVec.ofNat 3 (2 ^ l) else m &&& ~~~(BitVec.ofNat 3 (2 ^ l))
/-- A bit of a 2-bit pair mask set or cleared. -/
def mask2 (m : BitVec 2) (b : Bool) (on : Bool) : BitVec 2 :=
  if on then m ||| BitVec.ofNat 2 (2 ^ b2n b) else m &&& ~~~(BitVec.ofNat 2 (2 ^ b2n b))

/-- A failed attempt of lane l's re-form: it begins again with the lowest-numbered voting lane as its source, or the lane is
retired after the third (R297). -/
def State.reformFail (s : State) (l : Nat) : State :=
  let n := s.lane.rfAtt.get 0 l + 1
  let src := s.voters.headD 0
  let s := s.modLane fun x => { x with rfAtt := x.rfAtt.set 0 l n, rfStep := x.rfStep.set 0 l 1, rfSrc := x.rfSrc.set 0 l src }
  if n < 3 then s
  else (s.modLane fun x => { x with perm := mask3 x.perm l true, reform := mask3 x.reform l false, rfStep := x.rfStep.set 0 l 0 }).assertSrc (260 + l) 0

/-- Re-forms that copy from lane l copy again, from the lowest-numbered voting lane (R298). -/
def State.copyAgain (s : State) (l : Nat) : State :=
  let src := s.voters.headD 0
  (List.range 3).foldl (fun s k =>
    if s.lane.rfStep.get 0 k != 0 && s.lane.rfSrc.get 0 k == l then
      s.modLane fun x => { x with rfSrc := x.rfSrc.set 0 k src, rfStep := x.rfStep.set 0 k (min 3 (x.rfStep.get 0 k)) }
    else s) s

/-- The state of an isolation: the lane leaves the vote and its re-form begins (R285, R296). Isolated again within 1 s of
joining, the same re-form has failed once more (R297); other re-forms copy again when they lose their source (R298). -/
def State.isolateLane (s : State) (l : Nat) : State :=
  let joined := s.lane.joinCyc.get 0 l
  let again := joined != 0 && decide (s.time ≤ joined + 1000000 * usTime)
  let s := s.modLane fun x => { x with vote := mask3 x.vote l false, isoCnt := satAdd 0xFFFF x.isoCnt 1, joinCyc := x.joinCyc.set 0 l 0 }
  let s := s.copyAgain l
  if s.lane.perm.getLsbD l then s
  else
    let now := s.time
    let src := s.voters.headD 0
    let s := s.modLane fun x => { x with reform := mask3 x.reform l true, rfStep := x.rfStep.set 0 l 1, rfSrc := x.rfSrc.set 0 l src, rfStart := x.rfStart.set 0 l now, rfAtt := if again then x.rfAtt else x.rfAtt.set 0 l 0 }
    if again then s.reformFail l else s

/-- What the collector hears of an isolation (R285). -/
def State.isolateNote (s : State) (l : Nat) : State := (s.assertSrc (256 + l) 0).raiseEvt 212 (reqrSource (256 + l))

/-- The outputs are held: a chuck hold or a clock switch is in progress (R289, R301). -/
def Lane.held (x : Lane) : Bool := x.hold.isSome || x.switching

/-- Rails that are not OFF hold (R289, R301). -/
def State.holdRails (s : State) : State :=
  (List.range 40).foldl (fun s r => if s.isIn r [.off, .absent] then s else s.modRail r fun x => { x with hold := true }) s

/-- Governing stops (R295): every rail keeps its frozen reference under its shadow amplifier, and nothing that waits is
taken. A clock switch in progress goes on to its end (R301). -/
def State.governStop (s : State) : State :=
  s.holdRails.modLane fun x => { x with govStop := true, hold := none, settled := none, switched := false, boundary := [], tickHeld := 0 }

/-- One of three voting lanes differs at a voting point, and the lanes run (R285, R289). -/
def State.differs (s : State) : Bool := s.live && s.lane.vote == 7 && !s.lane.govStop && s.lane.hold.isNone

/-- A report of a lane's checkers, memory or regulator isolates the lane or stops governing (R286, R288). The reports of
checkers during a chuck hold are the checker stage's of R292 to judge. -/
def State.reported (s : State) (l : Nat) (kind : CheckKind) : Bool :=
  s.live && s.votes l && !s.lane.govStop && (s.lane.hold.isNone || kind != .checker)

/-- The source of an uncorrectable read or of a regulator (R286). -/
def State.checkNote (s : State) (l : Nat) (kind : CheckKind) : State :=
  match kind with
  | .memory => s.pulseSrc (274 + l) 0
  | .regulator => s.assertSrc 364 0
  | .checker => s

/-- A re-formed lane joins the vote (R296 step 5). -/
def State.joinVote (s : State) (l : Nat) : State :=
  let now := s.time
  let s := s.modLane fun x => { x with vote := mask3 x.vote l true, reform := mask3 x.reform l false, rfStep := x.rfStep.set 0 l 0, rfLast := min 4095 ((now - x.rfStart.get 0 l) / usTime), joinCyc := x.joinCyc.set 0 l (max 1 now) }
  (s.releaseSrc (256 + l)).raiseEvt 213 (reqrSource (256 + l))

/-- R287, R296 steps 4 and 5: a checkpoint. It is stored with an undo log since the one before, and agreed when the
signatures match. A lane whose copy is complete takes the source's state; at the next one its signature matches or the
attempt has failed. -/
def execCheckpoint (agree : Bool) (joinOk : Bool) (s : State) : Host.Outcome State Fault Refusal :=
  .next (
    if !s.live || s.lane.hold.isSome || s.lane.govStop then s
    else
      let now := s.cyc
      let s := s.modLane fun x => { x with undo := x.ckpt, ckpt := some now, agreed := if agree then some now else x.agreed }
      if !agree then s
      else (List.range 3).foldl (fun s l =>
        match s.lane.rfStep.get 0 l with
        | 4 => s.modLane fun x => { x with rfStep := x.rfStep.set 0 l 5 }
        | 5 => if joinOk then s.joinVote l else s.reformFail l
        | _ => s) s)

/-- A hold begins with its cause (R289, R301). A warm start that was about to begin waits for the next tick that qualifies
(R333). -/
def State.holdBegin (s : State) (cause : Nat) : State :=
  (s.holdRails.modLane fun x => { x with holdCause := cause, holdCnt := satAdd 0xFFFF x.holdCnt 1 }).modGlb fun g => { g with warmTick := false }

/-- A chuck hold before step 3 abandons a warm start, which stays pending (R337). -/
def State.warmAbandon (s : State) : State :=
  if s.glb.warmBusy && s.glb.warmStage == 0 then s.modGlb fun g => { g with warmBusy := false, warmPend := g.warmPend ||| g.warmIs, warmIs := 0 } else s

/-- R209, R289, R337: no majority at a voting point. -/
def execChuckHold (three : Bool) (s : State) : Host.Outcome State Fault Refusal :=
  .next (
    let n := s.voters.length
    if !s.live || s.lane.hold.isSome || s.lane.govStop || decide (n < 2) || (three && decide (n < 3)) then s
    else ((s.warmAbandon.holdBegin (if three then 2 else 1)).modLane fun x => { x with hold := some .checker, holdRes := 0 }).traceExt fun _ src _ => src == 7)

/-- Rails go on with the transfer of R204 from the demand that the shadow amplifier holds. -/
def State.releaseRails (s : State) : State :=
  (List.range 40).foldl (fun s r =>
    if !(s.rail r).hold then s
    else
      let q := (Config.shadowDemand s.lane.holdCnt r).toInt
      let s := s.modRail r fun x => { x with hold := false }
      if r < 32 && (s.rail r).running then s.modLoopSt r fun l => { l with transfer := some q } else s) s

/-- Held time-limit expiries come after every other held arrival (R291 step 2). -/
def isExpiry : Instr → Bool
  | .timeLimitExpiry _ => true
  | _ => false

/-- The records of a settled chuck hold (R292). -/
def State.settleNote (s : State) (iso : List Nat) : State :=
  ((iso.foldl (fun s l => s.isolateNote l) s).pulseSrc 259 0).raiseEvt 214 (reqrSource 259)

/-- The sources of the crystal and of the PLLs (R300). -/
def State.crystalNote (s : State) : State := s.assertSrc 265 0

/-- The source of a PLL that has lost lock (R300). -/
def State.pllNote (s : State) (b : Bool) : State := s.assertSrc (if b then 264 else 263) 0

/-- The records of an ended clock switch (R301, R303): the source whose fault began it, whatever that source does meanwhile;
none for a return (R302). -/
def State.switchNote (s : State) : State :=
  let s := if s.lane.swSrc = 0 then s else s.assertSrc s.lane.swSrc 0
  if s.glb.mode == .parked then s else s.raiseEvt 215 (reqrSource 263)

/-- The length of an ended hold of len core cycles, in 4 ns (R312, R345). -/
def State.holdNote (s : State) (len : Nat) : State :=
  let n := min 0xFFFF (len * s.cycTime)
  let now := s.cyc
  s.modLane fun x => { x with holdLen := n, holdMax := max x.holdMax n, endCyc := some now }

/-- The ticks that fell inside a hold or a warm start (R291, R336). -/
def State.heldTicks (s : State) : State :=
  let n := s.lane.tickHeld
  (List.range n).foldl (fun s _ => s.tickNow) (s.modLane fun x => { x with tickHeld := 0 })

/-- The end of a hold or clock switch of len core cycles (R291). A chuck hold and a clock switch that overlap end together,
and the records of both are made then (R294). The ticks that fell inside come first; the held arrivals follow. A warm start
that paused goes on, and keeps both for its own end (R337). With governing stopped there is neither tick nor record
(R295). -/
def State.holdEnd (s : State) (len : Nat) : State :=
  if s.lane.held then s
  else
    let s := ({ s with cyc := s.cyc + len }).holdNote len
    if s.lane.govStop then s.modLane fun x => { x with switched := false }
    else
    let s := if s.glb.warmBusy then s.modGlb fun g => { g with warmAt := g.warmAt + len } else s.heldTicks
    let (settled, switched) := (s.lane.settled, s.lane.switched)
    let s := s.modLane fun x => { x with settled := none, switched := false }
    let s := if switched then s.switchNote else s
    match settled with
    | some iso => s.settleNote iso
    | none => s

/-- Settle a chuck hold by a row of R292: the lanes in iso are isolated. -/
def State.settle (s : State) (res len : Nat) (iso : List Nat) : State :=
  let s := s.modLane fun x => { x with hold := none, holdRes := res, settled := some iso }
  (iso.foldl (fun s l => s.isolateLane l) s).holdEnd len

/-- Lanes of a mask that vote. -/
def State.among (s : State) (m : BitVec 3) : List Nat := s.voters.filter fun l => m.getLsbD l

/-- R292, checker stage. -/
def runHoldCheckerStage (reports : BitVec 3) (len : Nat) (s : State) : Host.Outcome State Fault Refusal :=
  .next (
    if s.lane.hold != some .checker then s
    else
      let bad := s.among reports
      if bad.isEmpty || bad.length == s.voters.length then s.modLane fun x => { x with hold := some .replay }
      else s.settle 0 len bad)

/-- R292, replay stage. -/
def runHoldReplayStage (agree : Bool) (len : Nat) (s : State) : Host.Outcome State Fault Refusal :=
  .next (
    if s.lane.hold != some .replay then s
    else if agree then s.settle 1 len []
    else s.modLane fun x => { x with hold := some .selfTest })

/-- R292, self-test stage; otherwise governing stops (R295). -/
def runHoldSelfTestStage (fails : BitVec 3) (len : Nat) (s : State) : Host.Outcome State Fault Refusal :=
  .next (
    if s.lane.hold != some .selfTest then s
    else
      let bad := s.among fails
      if bad.isEmpty || bad.length == s.voters.length then
        (((s.pulseSrc 259 0).modLane fun x => { x with holdRes := 3 }).holdNote len).governStop
      else s.settle 2 len bad)

/-- R296 step 2: the self-test of a re-forming lane ends. A re-form pauses inside a chuck hold (R298). -/
def execReformSelfTestDone (l : Fin 3) (ok : Bool) (s : State) : Host.Outcome State Fault Refusal :=
  .next (
    if s.lane.rfStep.get 0 l != 1 || s.lane.hold.isSome || s.lane.govStop then s
    else if ok then s.modLane fun x => { x with rfStep := x.rfStep.set 0 l 3 }
    else s.reformFail l)

/-- R296 step 3: the working memory has been copied. -/
def execReformCopyDone (l : Fin 3) (s : State) : Host.Outcome State Fault Refusal :=
  .next (
    if s.lane.rfStep.get 0 l != 3 || s.lane.hold.isSome || s.lane.govStop then s
    else s.modLane fun x => { x with rfStep := x.rfStep.set 0 l 4 })

/-- A switch away from PLL A is called for and can be made: RUN on PLL A with PLL B and RC good (R301, R302). The clock
generator does not ask whether the lanes govern. -/
def State.maySwitch (s : State) : Bool :=
  s.glb.mode == .run && s.lane.clkSrc == 0 && s.lane.pllbLock && s.lane.rcOk && !s.lane.switching

/-- A clock switch begins (R301): for a source that failed, or, with 0, the return of R302. -/
def State.switchBegin (s : State) (src : Nat) : State :=
  (s.holdBegin (if src = 0 then 4 else 3)).modLane fun x => { x with switching := true, returning := src == 0, swSrc := src, holdRes := 0 }

/-- What the clock generator does at once when the crystal stops (R300, R301). -/
def State.crystalStep (s : State) : State :=
  let go := s.maySwitch
  let s := s.modLane fun x => { x with xtalOk := false }
  if go then s.switchBegin 265 else s

/-- What the clock generator does at once when a PLL loses lock (R300, R301). -/
def State.pllLossStep (s : State) (b : Bool) : State :=
  if b then s.modLane fun x => { x with pllbLock := false }
  else
    let go := s.maySwitch
    let s := s.modLane fun x => { x with pllaLock := false }
    if go then s.switchBegin 263 else s

/-- A PLL is locked again (R302). When PLL A was lost while PLL B or RC was bad, and PLL B locks again with PLL A still lost,
no switch follows: R21, R301 and R302 do not say whether one does (DESIGN CHOICE, assumption 138). -/
def State.pllLockStep (s : State) (b : Bool) : State :=
  s.modLane fun x => if b then { x with pllbLock := true } else { x with pllaLock := true }

/-- What the clock generator does at once when a source is out of range: with RC out of range in PARKED the lanes move to
the crystal (R300, R303). -/
def State.rangeStep (s : State) (c : ClkSrc) : State :=
  match c with
  | .xtal => s.modLane fun x => { x with xtalOk := false }
  | .wdosc => s.modLane fun x => { x with wdoscOk := false }
  | .rc =>
    let s := s.modLane fun x => { x with rcOk := false }
    if s.glb.mode == .parked && s.lane.clkSrc == 2 && !s.lane.switching then s.switchBegin 267 else s

/-- The source of a clock that is out of range (R300). -/
def State.rangeNote (s : State) (c : ClkSrc) : State :=
  match c with
  | .xtal => s.assertSrc 265 0
  | .wdosc => s.assertSrc 268 0
  | .rc => s.assertSrc 267 0

/-- R300, R303, R505: a source is out of range. The records of a switch that begins follow its end. -/
def runClockOutOfRange (c : ClkSrc) (s : State) : Host.Outcome State Fault Refusal :=
  .next (
    let s := s.rangeStep c
    if s.lane.switching then s else s.rangeNote c)

/-- R300, R301: no crystal edge for 160 ns. The records of a switch that begins follow its end. -/
def runCrystalStop (s : State) : Host.Outcome State Fault Refusal :=
  .next (
    let s := s.crystalStep
    if s.lane.switching then s else s.crystalNote)

/-- R300 to R302: a PLL loses lock. The PLLs are off in PARKED (R303). -/
def runPllLockLoss (b : Bool) (s : State) : Host.Outcome State Fault Refusal :=
  .next (
    if s.glb.mode = .parked then s
    else
      let s := s.pllLossStep b
      if s.lane.switching then s else s.pllNote b)

/-- What the lanes hear of a lock (R302). -/
def State.pllLockNote (s : State) (b : Bool) : State := s.releaseSrc (if b then 264 else 263)

/-- R302: a PLL regains lock. -/
def runPllRelock (b : Bool) (s : State) : Host.Outcome State Fault Refusal :=
  .next (if s.glb.mode = .parked then s else (s.pllLockStep b).pllLockNote b)

/-- What the backup domain does at once when its oscillator stops (R499). -/
def State.x32Step (s : State) : State := (s.modLane fun x => { x with x32Ok := false }).modRtc fun r => { r with stopped := true, osf := true }

/-- What the lanes hear of it (R300, R500). -/
def State.x32Note (s : State) : State := (s.assertSrc 266 0).osfNote

/-- R300, R499: the 32.768 kHz oscillator has stopped. -/
def runX32Stop (s : State) : Host.Outcome State Fault Refusal := .next (if s.live then s.x32Step.x32Note else s)

/-- R301 to R303: the hold of a clock switch ends. -/
def runClockSwitchDone (len : Nat) (s : State) : Host.Outcome State Fault Refusal :=
  .next (
    if !s.lane.switching then s
    else
      let back := s.lane.returning
      let parked := s.glb.mode == .parked
      let stay := !back && !parked && !s.imb Img.clkRet
      (s.modLane fun x => { x with switching := false, returning := false, switched := true, clkSrc := if back then 0 else if parked then 3 else 1, pllbPerm := x.pllbPerm || stay }).holdEnd len)

/-- R294, R302: PLL A has held lock for 100 ms. A chuck hold does not keep the return back. -/
def execPllReturn (s : State) : Host.Outcome State Fault Refusal :=
  .next (
    if s.glb.mode == .run && s.imb Img.clkRet && s.lane.clkSrc == 1 && s.lane.pllaLock && s.lane.xtalOk && !s.lane.pllbPerm && !s.lane.switching then
      s.switchBegin 0
    else s)

/-- The consumers of reference k move to the lowest-numbered reference in agreement (R304). -/
def Lane.moveRef (x : Lane) (k : Nat) : Lane :=
  let x := { x with refOk := mask3 x.refOk k false }
  match (List.range 3).find? fun j => x.refOk.getLsbD j with
  | none => x
  | some j => { x with refDac := if x.refDac = k then j else x.refDac, refAdc := if x.refAdc = k then j else x.refAdc, refProt := if x.refProt = k then j else x.refProt }

/-- What the mixed-signal die does of R304 at once. -/
def State.refStepOut (s : State) (k : Nat) (othersAgree : Bool) : State :=
  if othersAgree then s.modLane fun x => x.moveRef k else s.modLane fun x => { x with refOk := 0 }

/-- R304: reference k is outside agreement, or no two references agree. -/
def runReferenceDisagree (k : Fin 3) (othersAgree : Bool) (s : State) : Host.Outcome State Fault Refusal :=
  .next (
    let s := s.refStepOut k othersAgree
    if othersAgree then s.assertSrc (269 + k) 0 else ((s.assertSrc 269 0).assertSrc 270 0).assertSrc 271 0)

/-- The pair of an input turns off because the current reversed, or may turn on again (R306). -/
def State.pairReverse (s : State) (b on : Bool) : State :=
  s.modLane fun x =>
    let x := { x with pairRc := mask2 x.pairRc b on }
    { x with pairOn := mask2 x.pairOn b (!on && !x.pairOv.getLsbD (b2n b)) }

/-- The pair of an input turns off for over-voltage, or may turn on again (R307). -/
def State.pairOver (s : State) (b on : Bool) : State :=
  s.modLane fun x =>
    let x := { x with pairOv := mask2 x.pairOv b on }
    { x with pairOn := mask2 x.pairOn b (!on && !x.pairRc.getLsbD (b2n b)) }

/-- R306: the current reverses. -/
def runReverseCurrent (b : Bool) (s : State) : Host.Outcome State Fault Refusal :=
  .next ((s.pairReverse b true).holdCause (356 + b2n b) 1 true)

/-- R306: the input exceeds VHOLD by 50 mV. -/
def runIdealDiodeReenable (b : Bool) (s : State) : Host.Outcome State Fault Refusal :=
  .next (if s.lane.pairRc.getLsbD (b2n b) || (s.src (356 + b2n b)).holds.getLsbD 1 then (s.pairReverse b false).holdCause (356 + b2n b) 1 false else s)

/-- R307: the input is above LANE_VIN_OV. -/
def runVinOvervoltage (b : Bool) (s : State) : Host.Outcome State Fault Refusal :=
  .next ((s.pairOver b true).assertSrc (354 + b2n b) 0)

/-- R307: the input has stayed below the release level. -/
def runVinOvRelease (b : Bool) (s : State) : Host.Outcome State Fault Refusal :=
  .next (if s.lane.pairOv.getLsbD (b2n b) || (s.src (354 + b2n b)).line then (s.pairOver b false).releaseSrc (354 + b2n b) else s)

/-- R308: a gate voltage is wrong. The controller keeps its command. -/
def runIdealDiodeGateFault (b : Bool) (s : State) : Host.Outcome State Fault Refusal := .next (s.holdCause (356 + b2n b) 0 true)

/-- Source, cause and bit of a watched supply (R309). -/
def supplyPlace : Supply → Nat × Nat × Nat
  | .vdrv => (361, 0, 0)
  | .buck n => (362, n, 1 + n)
  | .ldo n => (363, n, 9 + n)

/-- A supply is watched: VDRV always, the inputs of enabled bucks and LDOs (R309). -/
def State.supplyWatched (s : State) : Supply → Bool
  | .vdrv => true
  | .buck n => s.imb Img.railUsed (24 + n)
  | .ldo n => s.imb Img.railUsed (32 + n)

/-- R309: a watched supply crosses its threshold or its release level. -/
def runSupplyUndervoltage (sup : Supply) (low : Bool) (s : State) : Host.Outcome State Fault Refusal :=
  .next (
    if !s.supplyWatched sup then s
    else
      let (n, c, bit) := supplyPlace sup
      let m := BitVec.ofNat 17 (2 ^ bit)
      (s.modLane fun x => { x with supLow := if low then x.supLow ||| m else x.supLow &&& ~~~m }).holdCause n c low)

/-- R312: LANE_HOLD_PK_CLR is written with 1. -/
def runLaneHoldPkClr (s : State) : Host.Outcome State Fault Refusal := .next (if s.live then s.holdPkClr else s)

/-- What the mixed-signal die does at once for an arrival that waits for the lanes (R290): the hardware actions of R142,
R156, R158 and R171, the moves of R304 and the pairs of R306 and R307. The clock generator switches (R301), and a lane that a
voter or its memory or regulator reports is isolated (R285, R286). The backup domain counts and keeps its flags (R290, R491,
R494, R499). -/
def State.hardware (s : State) (c : Instr) : State :=
  match c with
  | .stageFault p _ => if s.st (liPhase p) = .on then s.modPhase p fun x => { x with mid := true } else s
  | .persistentCurrentLimit p limited =>
    if s.st (liPhase p) = .on ∧ !s.overloadNow (s.phaseRail p) limited then s.modPhase p fun x => { x with mid := true } else s
  | .shortDetect r v lim => if s.shorted r v lim then s.shortAct r else s
  | .overvoltage r abs v => if s.overVolt r v abs then s.ovAct r else s
  | .switchShort sw => if (s.switch sw).gate then (s.switchOff sw).modSwitch sw fun x => { x with short := true, shortWait := true } else s
  | .crystalStop => s.crystalStep
  | .pllLockLoss b => if s.glb.mode = .parked then s else s.pllLossStep b
  | .pllRelock b => if s.glb.mode = .parked then s else s.pllLockStep b
  | .clockOutOfRange c => s.rangeStep c
  | .voteMismatch l => if s.differs then s.isolateLane l else s
  | .laneCheckerError l kind => if s.reported l kind then s.isolateLane l else s
  | .referenceDisagree k a => s.refStepOut k a
  | .reverseCurrent b => s.pairReverse b true
  | .idealDiodeReenable b => if s.lane.pairRc.getLsbD (b2n b) then s.pairReverse b false else s
  | .vinOvervoltage b => s.pairOver b true
  | .vinOvRelease b => if s.lane.pairOv.getLsbD (b2n b) then s.pairOver b false else s
  | .x32Stop => if s.live then s.x32Step else s
  | .rtcIncrement => s.rtcStep
  | .backupReset => s.backupStep
  | _ => s

/-- Host reads that are served with governing stopped (R295). -/
def servedStopped : Instr → Bool
  | .faceplateRead .. | .mfrQread .. | .mfrQfifo .. | .mfrQentry .. => true
  | _ => false

/-- R284: a copy fails its CRC. -/
def runLinkCopyCrcFail (s : State) : Host.Outcome State Fault Refusal := .next (s.pulseSrc 280 0)

/-- R285: one of three voting lanes differs. -/
def runVoteMismatch (l : Fin 3) (s : State) : Host.Outcome State Fault Refusal := .next ((s.isolateLane l).isolateNote l)

/-- R286: a checker, memory or regulator of a lane reports. -/
def runLaneCheckerError (l : Fin 3) (kind : CheckKind) (s : State) : Host.Outcome State Fault Refusal :=
  .next (((s.checkNote l kind).isolateLane l).isolateNote l)

/-- A held arrival joins the boundary buffers in its order, with its time (R290). An evaluation of a 10 µs grid is made once for
a whole hold, and the thermal account then adds the whole time with the mean current over it (R173, R432, R656). -/
def addHeld (l : List (Nat × Instr)) (now : Nat) (c : Instr) : List (Nat × Instr) :=
  match c with
  | .shedEvaluation _ | .loadLineEvaluation _ | .zoneEvaluation _ => l.filter (·.2 != c) ++ [(now, c)]
  | .i2tUpdate n i dt =>
    let (it, t) := l.foldl (fun (a : Int × Nat) x => match x.2 with
      | .i2tUpdate m j d => if m = n then (a.1 + j * d, a.2 + d) else a
      | _ => a) (i * dt, dt)
    l.filter (fun x => match x.2 with
      | .i2tUpdate m _ _ => m != n
      | _ => true) ++ [(now, .i2tUpdate n (if t = 0 then i else it.fdiv t) t)]
  | _ => l ++ [(now, c)]

/-- The lanes take nothing in: a hold, a clock switch or a warm start is in progress (R290, R301, R334). -/
def State.stalled (s : State) : Bool := s.lane.held || s.glb.warmBusy

/-- A command that reaches the lanes: taken at once; kept in the boundary buffers during a hold, a clock switch or a warm
start, while the hardware does its part (R290, R291, R334); with governing stopped only the hardware does its part and the
reads of R295 are served. -/
def State.arrive (s : State) (c : Instr) (o : Host.Outcome State Fault Refusal) : Host.Outcome State Fault Refusal :=
  if s.lane.govStop then (if servedStopped c then o else .next (s.hardware c))
  else if s.stalled then
    let now := s.time
    .next ((s.hardware c).modLane fun x => { x with boundary := addHeld x.boundary now c })
  else o

end Sys2Proof.Machine
end

