-- ==== Sys2Proof/Machine/Starts.lean ====
section
/-! DEFINITION. Supply thresholds, HELD, cold start, NO_IMAGE, warm start, PARKED and the pins that show them (R314 to R348,
R617). -/

namespace Sys2Proof.Machine

/-- What the persistent state area keeps of the update block (R582, R588, R591): a session that was open goes on in
LOADING. -/
def Upd.kept (u : Upd) : Upd :=
  { banks := u.banks, bank := u.bank, romCode := u.romCode, lock := u.lock, blocks := u.blocks, owner := u.owner, st := if u.st = .idle then .idle else .loading }

/-- What MRAM keeps of the recorder (R519, R522). A snapshot that was not yet written whole is cut short in the ring (R317,
R529). -/
def State.recKept (s : State) : RecSt :=
  let q := s.recd
  { ring := q.ring, seqNext := q.seqNext, unread := q.unread, ptrOk := q.ptrOk, cut := if s.seq.snap.isSome then some q.seqNext else q.cut }

/-- What the backup domain keeps (R490, R516). -/
def Rtc.kept (r : Rtc) (onVbk : Bool) : Rtc :=
  { frac := r.frac, sec := r.sec, halt := r.halt, trim := r.trim, trimNow := r.trimNow, trimCyc := r.trimCyc, osf := r.osf, bor := r.bor, stopped := r.stopped, onVbk := onVbk, cmp0 := r.cmp0, cmp1 := r.cmp1, msk0 := r.msk0, msk1 := r.msk1, almEn := r.almEn, almWake := r.almWake, almF := r.almF, bkup := r.bkup }

/-- The instruction that stays in force in mode m: EXTEST and its like only in HELD and NO_IMAGE (R321). -/
def tapIn (m : Mode) (c : TapCode) : TapCode :=
  match m, c with
  | .held, c => c
  | .noImage, c => c
  | _, .idcode => .idcode
  | _, .samplePreload => .samplePreload
  | _, _ => .bypass

/-- The lanes and clocks where a start begins: in HELD lanes and PLLs are held in reset (R319, R325). -/
def laneStart (m : Mode) (x : Lane) : Lane :=
  let l : Lane := { srcOk := x.srcOk, mv := x.mv, pllbPerm := x.pllbPerm && m != .cold }
  if m = .held then { l with vote := 0, pllaLock := false, pllbLock := false, xtalOk := false } else l

/-- The block in a mode other than RUN and PARKED (R14, R317, R319, R331): every output is safe, everything volatile has
its reset value, and only MRAM, one-time memory, the backup domain and what pins show are kept. A core that stays on PLL B does so for the rest of its power
cycle, which ends in COLD (R21). -/
def State.restart (s : State) (m : Mode) : State :=
  { pending := s.pending, freeCtr := s.freeCtr, recd := s.recKept, upd := s.upd.kept, mram := s.mram, otp := { words := s.otp.words, vpp := s.otp.vpp }, rtc := s.rtc.kept (m == .cold), gau := { saved := s.gau.saved }, adc := { learned := s.adc.learned }, lane := laneStart m s.lane,
    glb := { mode := m, porstLow := s.glb.porstLow, gpioIn := s.glb.gpioIn, addr0 := s.glb.addr0, addr1 := s.glb.addr1, tap := tapIn m s.glb.tap } }

/-- R14, R314: VHOLD is at or above the start threshold in COLD with PORST_N high. -/
def execVholdStart (s : State) : Host.Outcome State Fault Refusal :=
  .next (if s.glb.mode == .cold && !s.glb.porstLow then s.restart .starting else s)

/-- R14, R315 to R317: VHOLD is below its brown-out threshold. -/
def execVholdBrownOut (s : State) : Host.Outcome State Fault Refusal :=
  .next (if s.glb.mode = .cold then s else s.restart .cold)

/-- R314: a source crosses its brown-out threshold. The count shows in GLB_AV_SRC2 at the next tick (R25). -/
def execSourceBrownOut (src : Fin 3) (up : Bool) (s : State) : Host.Outcome State Fault Refusal :=
  .next (s.modLane fun x => { x with srcOk := mask3 x.srcOk src up })

/-- R14, R318, R319: PORST_N is low. In COLD the unit stays where it is. -/
def execPorstNLow (s : State) : Host.Outcome State Fault Refusal :=
  .next (
    let s := s.modGlb fun g => { g with porstLow := true }
    if s.glb.mode == .cold || s.glb.mode == .held then s else s.restart .held)

/-- R14, R318: PORST_N is released. -/
def execPorstNRelease (s : State) : Host.Outcome State Fault Refusal :=
  .next (
    let s := s.modGlb fun g => { g with porstLow := false }
    if s.glb.mode = .held then s.restart .starting else s)

/-- R332: a recovery cold start begins. -/
def execRecoveryColdStart (s : State) : Host.Outcome State Fault Refusal :=
  .next (
    if s.glb.mode == .noImage && !s.glb.porstLow then
      let n := satAdd 0xFFFF s.glb.recovCnt 1
      (s.restart .starting).modGlb fun g => { g with recovCnt := n }
    else s)

/-- Lanes that pass, of a row of self-test results. -/
def passes (m : BitVec 3) : Nat := ((List.range 3).filter fun l => m.getLsbD l).length

/-- Step 5 (R326): the lanes that pass in the end. One failing lane is tested once more; two or three failing lanes let
every lane be tested again, up to three times in all. -/
def selfTest (rows : List (BitVec 3)) : BitVec 3 :=
  let row := fun k => rows.getD k 0
  if passes (row 0) = 2 then row 0 ||| row 1
  else if 2 < passes (row 0) then row 0
  else if 2 ≤ passes (row 1) then row 1
  else row 2

/-- Step 4: the replacement words in force (R576). -/
def State.romPatches (s : State) : Tbl Word :=
  ((List.range 256).map (0x100 + ·)).foldl (fun t k =>
    let x := s.otpWord k
    let v := x.value.toNat
    if x.state = 2 ∧ bitsOf v 63 48 = 0 then t.set 0 (bitsOf v 15 0) (wordOf (bitsOf v 47 16)) else t) []

/-- A copy was read to its end before it failed, if it failed (R323). -/
def readWhole (l : List Byte) : Bool := headerOk l && tableOk l && bodiesOk l

/-- The last step completed when no copy passes (R322 to R324). -/
def stepsRead (e : StartEnv) : Nat :=
  if !e.norFound then 5 else if readWhole e.copyB then 9 else if readWhole e.copyA then 7 else 6

/-- The copy that the start takes: its number and its bytes (R322 to R324). -/
def State.pickCopy (s : State) (e : StartEnv) : Option (Nat × List Byte) :=
  if !e.norFound then none
  else if (s.judgeImage e.copyA).isNone then some (1, e.copyA)
  else if (s.judgeImage e.copyB).isNone then some (2, e.copyB)
  else none

/-- A firmware bank that may be loaded, as it stands or as the staged package fills it (R582). -/
def State.bankFit (s : State) (b : Nat) : Option Bank :=
  let x := s.upd.banks.get {} b
  if x.bytes ≠ [] then (if s.rollback 0 ≤ x.svn then some x else none)
  else if b != b2n s.upd.bank && s.pkgWhole && s.pkgClass == 1 && (crc32c s.pkgPayload).toNat == numAt s.pkgHead 16 4 && decide (s.rollback 0 ≤ s.pkgSvn) then
    some { bytes := s.pkgBytes, svn := s.pkgSvn }
  else none

/-- The bank choice of step 12 (R582). -/
def State.pickBank (s : State) : State :=
  let b := b2n s.upd.bank
  match s.bankFit b, s.bankFit (1 - b) with
  | some x, _ => s.modUpd fun u => { u with romCode := false, banks := u.banks.set {} b x }
  | none, some x => s.modUpd fun u => { u with romCode := false, bank := !u.bank, banks := u.banks.set {} (1 - b) x }
  | none, none => s.modUpd fun u => { u with romCode := true }

/-- The number with which a start begins: 65,536 above the higher passing watermark, or R328's where neither passes. -/
def Mram.base (m : Mram) : Option Nat :=
  match m.wm0, m.wm1 with
  | some a, some b => some (max a b + 65536)
  | some a, none => some (a + 65536)
  | none, some b => some (b + 65536)
  | none, none => none

/-- The gauge at step 12 (R485, R486): what was saved, with the time since; without a saved content whose
check passes, an insertion. -/
def State.gaugeStart (s : State) (e : StartEnv) : State :=
  if !s.imb Img.gauUsed then s
  else
    let s := s.modGau fun g => { g with pres := e.packPresent, q := s.im Img.gauQdes }
    match (if e.gaugeOk then s.gau.saved else none) with
    | none => if e.packPresent then s.gaugeBind e.packIdMv else s
    | some v =>
      let d := (s.rtc.sec - BitVec.ofNat 48 v.rtcSec).toNat
      let age := if s.rtc.osf then 0xFFFFFFFF else satAdd 0xFFFFFFFF v.refAge d
      let unc := if s.rtc.osf then 10000 * Config.uncUnit else min (10000 * Config.uncUnit) (v.unc + 163840 * d * s.im Img.gauURate)
      let s := s.modGau fun g => { g with si := v.si, sr := v.si, unc := unc, refAge := age, q := v.q, idStored := v.idStored, lrnCnt := v.lrnCnt }
      s.modGau fun g => { g with restDue := e.packPresent && !s.rtc.osf && decide (s.im Img.gauRestT ≤ d) }

/-- The initial state of an endpoint (R37). -/
def State.initialState (s : State) (li : Nat) : EState :=
  match kindOf li with
  | .phase p => if s.imb Img.phSpare p then .spare else .off
  | .chan _ => .stale
  | .source _ => .clear
  | .event _ => .clear
  | .zone _ => .stale
  | .gauge => .stale
  | .rtc => if s.rtc.osf then .stale else .valid
  | .motion => .stale
  | .foreign k => if s.isForeignOut k then .off else .stale
  | .nothing => .absent
  | _ => .off

/-- The value in an endpoint's initial commit (R37, R38). -/
def State.initialValue (s : State) (li : Nat) : BitVec 32 :=
  match kindOf li with
  | .rail r => BitVec.ofNat 32 (s.im Img.railEnvVlo r)
  | .rtc => s.rtcValue
  | .gauge => wordOfInt (roundUp s.gau.sr 65536)
  | _ => 0

/-- The first commit of every enabled endpoint, with class 7 (R38). -/
def State.initialCommits (s : State) : State :=
  ((List.range 2048).filter s.enabled).foldl (fun s li =>
    let st := s.initialState li
    s.writeEntry li { st := st, ty := s.typeOf li, flags := BitVec.ofNat 16 (placeAt (s.typeFlags li st) 11 8) ||| s.protFlag li, val := s.initialValue li, epoch := s.led.epoch, writer := writerOf 7 0 }) s

/-- The fields of step 11: the configuration of a copy, and what holds its reset value only through it (R322). -/
def State.applyImage (s : State) (e : StartEnv) (n : Nat) (l : List Byte) : State :=
  let s := { s with img := imgWords l }
  let role := s.im Img.glbRole
  let s := s.modGlb fun g => { g with imgUsed := n, imgRel := wordOf (numAt l 24 4), imgSvn := numAt l 12 2, role := if role = 1 ∧ e.takeoverHello then 2 else role }
  let uid := s.uid
  let s := s.modLace fun x => if s.glb.role = 1 then { x with hop := 0, rootUid := uid } else x
  let s := (List.range 48).foldl (fun s p => if s.imb Img.phUsed p && s.imb Img.phSpare p then s.modPhase p fun x => { x with spareRole := true } else s) s
  let s := (List.range 32).foldl (fun s r => s.modRail r fun x => { x with lfsr := BitVec.ofNat 15 r }) s
  let s := (List.range 8).foldl (fun s w => if s.imb Img.wdgUsed w then s.modWdg w fun x => { x with per := s.im Img.wdgPeriod w } else s) s
  let s := (List.range 40).foldl (fun s r => s.setRw (0x020038 + 0x40 * r) (BitVec.ofNat 32 (s.im Img.railAvgK r))) s
  let s := if e.learnedOk then s else s.modAdc fun a => { a with learned := [] }
  let s := (List.range 2).foldl (fun s m => match s.adc.learned.get none m with
    | some (o, g) => s.modMeter m fun x => { x with ofs := o, gain := g, calSrc := true }
    | none => s.modMeter m fun x => { x with ofs := s.ims Img.adcMtrOfs m, gain := s.im Img.adcMtrGain m }) s
  let band := s.im Img.thmBandStale
  let s := s.modThm fun t => { t with band := band }
  let auto := s.imb Img.chgAuto
  let s := s.modChg fun c => { c with run := auto, present := e.packPresent, idMv := e.packIdMv }
  { s with vmodes := e.vmodes.foldl (fun t x => t.set 0 x.1 x.2.toNat) [] }

/-- The pairs and the keep-alive diode as the levels at the start leave them, with the sources of the pairs that are off (R305
to R307, R329). -/
def State.pathsStart (s : State) (mv : SupplyMv) : State :=
  let lim := 100 * s.im Img.vinOv
  let two : Bool → Bool → BitVec 2 := fun a b => BitVec.ofNat 2 (b2n a + 2 * b2n b)
  let ov := two (decide (lim < mv.vinA)) (decide (lim < mv.vinB))
  let back := two (decide (mv.vinA + 10 < mv.vhold)) (decide (mv.vinB + 10 < mv.vhold))
  let s := (s.storeMv mv).modLane fun x => { x with pairOv := ov, pairRc := back, pairOn := ~~~(ov ||| back) }
  [false, true].foldl (fun s b =>
    let s := if ov.getLsbD (b2n b) then s.assertSrc (354 + b2n b) 0 else s
    if back.getLsbD (b2n b) then s.holdCause (356 + b2n b) 1 true else s) s

/-- The START record (R521), straight into the ring. -/
def State.startRecord (s : State) : State :=
  let q := s.recd
  let lost := q.ptrOk == 0
  let found := q.cut.isSome && !lost
  let at' := match q.cut with
    | some k => if found then k.toNat else 0
    | none => 0
  let p := leBytes 4 (s.readGlb 0x20) ++ leBytes 4 s.glb.startT ++ leBytes 2 s.glb.recovCnt ++ leBytes 2 (b2n found + 2 * b2n lost) ++ leBytes 4 at'
  (s.ringWrite (s.mkRec 1 p) false).modRec fun q => { q with incomplete := found, cut := none, ptrOk := 3 }

/-- New nonces for both interfaces (R594). -/
def State.nonces (s : State) : State :=
  [Iface.twb0, Iface.spi].foldl (fun s i =>
    let (lo, s) := s.fresh
    let (hi, s) := s.fresh
    s.modIface i fun x => { x with nonceLo := lo, nonceHi := hi }) s

/-- The inputs and the hold-up at the first committed epoch (R245, R246, R250). -/
def State.inputsStart (s : State) (mv : SupplyMv) : State :=
  let back := 100 * (s.im Img.seqInThr + s.im Img.seqInHys)
  let a := decide (mv.vinA < back)
  let b := decide (mv.vinB < back)
  let hold := decide (100 * s.im Img.seqHoldThr < mv.vhold)
  let ka := decide (100 * s.im Img.seqKaThr ≤ mv.ka)
  let s := s.modSeq fun q => { q with lostA := a, lostB := b, holdOk := hold, kaOk := ka, lastB := b && !a }
  let s := ((s.followSrc 352 0 a).followSrc 353 0 b).followSrc 358 0 (!hold)
  if a && b then
    let s := (s.modSeq fun q => { q with il := true }).raiseEvt 225 s.inputReqr
    if ka then s else s.powerFail mv
  else s

/-- A source that failed during STARTING asserts in the first committed epoch, one that has recovered meanwhile for one core
cycle (R329). -/
def State.replaySources (s : State) : State :=
  (s.srcs.keys).foldl (fun s n =>
    let x := s.src n
    let y := { x with cause := 0, early := none }
    let cause := match (List.range 16).find? x.holds.getLsbD with
      | some c => c
      | none => x.early.getD 0
    let s := s.modSrc n fun _ => {}
    if x.line || x.lost then s.srcChange n (fun _ => y) cause
    else if x.early.isSome then (s.srcChange n (fun _ => { y with line := true }) cause).releaseSrc n
    else s.modSrc n fun _ => y) s

/-- Steps 11 to 14 with copy n, whose bytes are l (R322). ok are the lanes that passed step 5. -/
def State.startFrom (s : State) (e : StartEnv) (ok : BitVec 3) (n : Nat) (l : List Byte) : State :=
  let s := s.applyImage e n l
  let base := s.mram.base
  let epoch := base.getD 0x800000000000
  let ptrLost := s.recd.ptrOk == 0
  let s := s.modLed fun x => { x with epoch := epoch }
  let s := s.wmWrite.pickBank.nonces
  let lock := e.xtal && e.pllA
  let onA := lock && !s.lane.pllbPerm
  let s := s.modGlb fun g => { g with epFloor := base.isNone, startStep := 14, startT := e.startUs % 2 ^ 32, firstEpoch := true }
  let s := (s.modLane fun x => { x with xtalOk := e.xtal, pllaLock := lock, clkSrc := if onA then 0 else 1, pllbPerm := !onA }).startRecord
  let s := (((s.pathsStart e.mv).calibrateAll e.cals).seqRestart false).gaugeStart e
  let s := if !e.xtal then s.assertSrc 265 0 else if !e.pllA then s.assertSrc 263 0 else s
  let s := if n = 2 then s.assertSrc 473 0 else s
  let s := ({ s with cyc := 0, tickAt := s.tickCycles }).modGlb fun g => { g with modeCyc := 0, modeTime := 0 }
  let s := (s.modGlb fun g => { g with mode := .run }).initialCommits.replaySources
  let s := s.inputsStart e.mv
  let s := if base.isNone || s.upd.romCode || ptrLost then s.pulseSrc 278 0 else s
  let s := if e.rom1 then s else s.pulseSrc 279 0
  let s := (s.otp.words.keys).foldl (fun s w => s.otpNote w) s
  let s := ((List.range 3).filter fun k => !ok.getLsbD k).foldl (fun s k => (s.isolateLane k).isolateNote k) s
  (s.modGlb fun g => { g with avail := 0 }).availUpdate

/-- R322: the steps of a cold start, from the mask ROM check to the first committed epoch or to the halt that ends them. -/
def execColdStart (env : StartEnv) (s : State) : Host.Outcome State Fault Refusal :=
  .next (
    if s.glb.mode != .starting || s.glb.haltCause != 0 then s
    else if !env.rom1 && !env.rom2 then s.modGlb fun g => { g with haltCause := 1, startStep := 1 }
    else
      let ok := selfTest env.bist
      let patch := s.romPatches
      let s := s.modGlb fun g => { g with romPatch := patch, bistOk := ok, addr0 := env.addr0, addr1 := env.addr1 }
      if passes ok < 2 then s.modGlb fun g => { g with haltCause := 2, startStep := 4 }
      else match s.pickCopy env with
        | none => (s.modGlb fun g => { g with mode := .noImage, haltCause := 3, startStep := stepsRead env }).modLane fun x => { x with clkSrc := 1, xtalOk := env.xtal, pllaLock := env.xtal && env.pllA }
        | some (n, l) => s.startFrom env ok n l)

/-- The staging bank becomes the active bank (R590). -/
def State.bankSwap (s : State) : State :=
  let x : Bank := { bytes := s.pkgBytes, svn := s.pkgSvn }
  s.modUpd fun u => { u with bank := !u.bank, romCode := false, banks := u.banks.set {} (b2n (!u.bank)) x }

/-- Adopt section k of the new image (R606, R610). -/
def State.adopt (s : State) (k : Nat) : State :=
  let new := s.newImg
  let s := { s with img := (sectionWords k).foldl (fun t a => t.set 0 a (new.get 0 a)) s.img }
  s.modGlb fun g => { g with coldSect := g.coldSect &&& ~~~(BitVec.ofNat 13 (2 ^ k)), adoptSect := g.adoptSect ||| BitVec.ofNat 13 (2 ^ k) }

/-- The sections that a warm start for a configuration adopts (R610). -/
def State.adoptable (s : State) : List Nat := (List.range 13).filter fun k => s.glb.coldSect.getLsbD k && structSame s.img s.newImg k

/-- Running rails take new loop coefficients with the transfer of R204 (R206, R612). -/
def State.loopsAdopt (s : State) : State :=
  (List.range 32).foldl (fun s r =>
    let q := (s.loopSt r).q
    if (s.rail r).running then s.modLoopSt r fun x => { x with transfer := some q } else s) s

/-- Metering channels on image values take the new ones (R612). -/
def State.adcAdopt (s : State) : State :=
  (List.range 2).foldl (fun s m => if (s.meter m).calSrc then s else s.modMeter m fun x => { x with ofs := s.ims Img.adcMtrOfs m, gain := s.im Img.adcMtrGain m }) s

/-- The adoption of R610 and its effects of R612. -/
def State.adoptAll (s : State) : State :=
  let l := s.adoptable
  let s := l.foldl (fun s k => s.adopt k) s
  let s := if l.contains 3 then s.loopsAdopt else s
  if l.contains 6 then s.adcAdopt else s

/-- Clamp counts and dwell counts restart (R335); a frozen loop stays frozen. -/
def State.countsRestart (s : State) : State :=
  let s := (s.loops.keys).foldl (fun s k => s.modLoop k fun x => { x with clamps := [] }) s
  (s.rails.keys).foldl (fun s r => s.restartDwell r) s

/-- R333, R334: step 1 of a warm start. Intake and commits stop, and what arrives is kept in the boundary buffers. -/
def execWarmStart (w : WarmIn) (s : State) : Host.Outcome State Fault Refusal :=
  .next (
    if !s.glb.warmTick || s.glb.warmPend = 0 || s.glb.mode != .run || s.lane.held || s.lane.govStop then s
    else
      let now := s.cyc
      s.modGlb fun g => { g with warmBusy := true, warmTick := false, warmPend := 0, warmIs := g.warmPend, warmStage := 0, warmAt := now, warmFor := min 3750 w.len })

/-- A warm start has the activation of a package of class cls behind it (R590). -/
def State.warmActs (s : State) (cls : Nat) : Bool := s.glb.warmIs.getLsbD 0 && s.pkgClass == cls

/-- The step of a warm start t core cycles after its trigger is due, after the first k of steps 3 to 5 (R334). A hold pauses it
(R337). -/
def State.warmDue (s : State) (k t : Nat) : Bool :=
  s.glb.warmBusy && !s.lane.held && !s.lane.govStop && s.glb.warmStage == k && decide (s.glb.warmAt + min t s.glb.warmFor ≤ s.cyc)

/-- Step 3 of R334: the new code (R590). -/
def State.warmCode (s : State) : State := (if s.warmActs 1 then s.bankSwap else s).modGlb fun g => { g with warmStage := 1 }

/-- Step 4 of R334: the warm-adoptable sections (R610). -/
def State.warmAdopt (s : State) : State :=
  let s := s.modGlb fun g => { g with adoptSect := 0, warmStage := 2 }
  if s.warmActs 2 then s.adoptAll else s

/-- Step 5 of R334: the lanes agree a checkpoint (R287). -/
def State.warmCheck (s : State) : State :=
  let at' := s.glb.warmAt + min 3500 s.glb.warmFor
  (s.modLane fun x => { x with undo := x.ckpt, ckpt := some at', agreed := some at' }).modGlb fun g => { g with warmStage := 3 }

/-- Step 6 of R334, but for what was held: the counts of R335, the sequencers of an adopted measurement section (R410), the records
of the warm start and of an activation (R590). -/
def State.warmEnd (s : State) : State :=
  let act := s.glb.warmIs.getLsbD 0
  let cls := s.pkgClass
  let s := s.countsRestart.modGlb fun g => { g with warmCnt := satAdd 4095 g.warmCnt 1, warmLen := g.warmFor, warmCause := (if act then 1 else 0) + (if cls = 2 then 2 else 0), warmBusy := false, warmStage := 0, warmIs := 0 }
  let s := (if s.glb.adoptSect.getLsbD 6 then s.seqRestart true else s).raiseEvt 216 (reqrSource 475)
  if act then (s.modOtp fun o => { o with activation := some cls }).otpAdvance else s

/-- The measurement and metering blocks go to their parked schedules (R419, R422, R432, R483). -/
def State.measurePark (s : State) : State :=
  let parked := ((List.range 8).filter fun q => s.imb Img.adcSeqUsed q && s.imb Img.adcSeqPark q).flatMap fun q => (s.seqList 256 (s.im Img.adcSeqFirst q)).map fun i => (s.seqEntry i).ch
  let s := if (List.range 8).any fun q => s.imb Img.adcSeqThm q && s.seqParks q then s
    else (List.range' 48 16).foldl (fun s n =>
      let x := s.thmIn n
      if s.packInput n then s else s.modThm fun y => { y with ins := y.ins.set {} n { x with valid := x.valid || x.had, ratio := none } }) s
  let s := (List.range 8).foldl (fun s q => s.modAseq q fun x => { x with run := false, conv := 0, delay := 0, slices := [], due := [] }) s
  let s := ((List.range 256).filter fun c => s.imb Img.adcChUsed c && !parked.contains c).foldl (fun s c => s.modChan c fun x => { x with exempt := true }) s
  let s := (List.range 2).foldl (fun s m => s.modMeter m fun x => { x with cal := none }) s
  let s := (List.range 48).foldl (fun s z => if (s.zoneOf z).fast then s.modZone z fun x => { x with fast := false } else s) s
  if !s.imb Img.adcMtrPark 0 && s.gauRuns && s.gau.hib then s.modGau fun g => { g with hibPark := true }
  else if !s.imb Img.adcMtrPark 0 && s.gauRuns && (s.st liGauge == .valid || s.st liGauge == .stale) then
    (s.modGau fun g => { g with hib := true, hibPark := true }).loopRequest liGauge .held 0x24
  else s

/-- PARKED may be entered: every sequence group is at rest, RAIL00 to RAIL31 are OFF, and nothing accepted before the PARK
commit is about to start one of them (R14, R19). -/
def State.mayPark (s : State) : Bool :=
  ((List.range 16).all fun g => !s.isIn (liGroup g) [.starting, .stopping]) && ((List.range 32).all fun r => s.isIn r [.off, .absent]) &&
    !s.accepted fun q => slotOf q.ep == 0 && q.kind == .state && q.val.toNat % 256 != EState.off.code && match kindOf (liOf q.ep) with
      | .rail r => r < 32
      | .group _ => true
      | _ => false

/-- R14, R340, R350, R390: park entry, to PARKED. The tick grid keeps its length in time (R340). The move of each eyelet to DOWN
is the unit's own: it asserts its source before PARKED is entered, and wakes nothing (DESIGN CHOICE, assumption 141). -/
def runParkEntry (s : State) : Host.Outcome State Fault Refusal :=
  .next (
    if !s.glb.parkPend || !s.glb.parkTick || s.glb.mode != .run || s.lane.govStop || !s.mayPark then s
    else
      let s := s.measurePark
      let s := s.modGlb fun g => { g with parkPend := false, parkTick := false }
      let s := (List.range 4).foldl (fun s e => if (s.eye e).st = .up then s.assertSrc (320 + 3 * e) 0 else s) s
      let s := (List.range 4).foldl (fun s e => s.modEye e fun x => { crc := x.crc, retx := x.retx, rtt := x.rtt, crcWin := x.crcWin, crcStart := x.crcStart, child := x.child }) s
      let s := s.modLane fun x => { x with clkSrc := if x.rcOk then 2 else 3, pllaLock := false, pllbLock := false }
      let s := s.clockStep.modGlb fun g => { g with mode := .parked, parkCnt := satAdd 0xFFFF g.parkCnt 1 }
      { s with tickAt := s.cyc + (s.tickAt - s.cyc + 9) / 10 })

/-- R342, R343: the return to RUN. -/
def runWake (pllaLocked : Bool) (cals : List (Int × Nat)) (s : State) : Host.Outcome State Fault Refusal :=
  .next (match s.glb.waking with
    | none => s
    | some (code, _) =>
      if s.glb.mode != .parked || s.lane.govStop then s
      else
        let onA := pllaLocked && s.lane.xtalOk
        let ret := s.imb Img.clkRet
        let auto := s.imb Img.wakeAutoF
        let long := decide (s.im Img.gauRestT * 1000000 * usTime ≤ s.time - s.glb.modeTime)
        let s := s.modLane fun x => { x with clkSrc := if onA && !x.pllbPerm then 0 else 1, pllaLock := onA, pllbLock := true, pllbPerm := x.pllbPerm || (!onA && !ret) }
        let s := s.clockStep.modGlb fun g => { g with mode := .run, waking := none, wakeSrc := code, wakeAuto := auto }
        let s := ((s.followSrc 263 0 (!onA)).calibrateAll cals).seqRestart false
        let s := if s.gau.hibPark then s.gaugeWake else s
        let s := if long && s.gauRuns then s.modGau fun g => { g with restDue := true, sumI := 0, sumV := 0, sums := 0 } else s
        let ep := s.led.epoch
        let s := s.modLace fun l => { l with fullSet := l.mySlot != 0, grantEp := ep, noMarker := 0 }
        { s with tickAt := s.cyc + 10 * (s.tickAt - s.cyc) })

/-- R321: an instruction reaches the test access port. -/
def execTapInstruction (code : TapCode) (s : State) : Host.Outcome State Fault Refusal :=
  .next (s.modGlb fun g => { g with tap := tapIn g.mode code })

/-- The level of a ball (R617). -/
inductive Pin where
  | low | high | mid | z
  deriving DecidableEq, Repr

/-- EXTEST and its like drive the balls in HELD and NO_IMAGE (R321). -/
def State.scanning (s : State) : Bool := s.glb.tap == .extest || s.glb.tap == .otherPinDriving

/-- A digital ball: the boundary register's level while it drives the balls, else the block's (R321). -/
def State.ball (s : State) (k : Nat) (p : Pin) : Pin :=
  if s.scanning then (match Config.scanLevel s.freeCtr k with
    | some b => if b then .high else .low
    | none => .z)
  else p

/-- The code on STAT3 to STAT0 (R346). COLD has pull-downs. In STARTING it follows the last step completed (R322). -/
def State.statPins (s : State) : Nat :=
  match s.glb.mode with
  | .cold => 0
  | .held => 7
  | .noImage => 8
  | .parked => 0xD
  | .starting => if s.glb.haltCause = 2 then 5 else if s.glb.haltCause = 1 then 6
    else if s.glb.startStep < 6 then 1 else if s.glb.startStep < 8 then 2 else if s.glb.startStep < 11 then 3 else 4
  | .run => if s.lane.govStop then 0xB else if !s.noSafe then 0xE else if s.glb.warmBusy then 0xC else if s.glb.avail != 31 then 0xA else 9

/-- FAULT_N (R274, R295, R617). -/
def State.faultPin (s : State) : Pin := s.ball 0 (if s.live && !s.lane.govStop && !s.faultN then .z else .low)

/-- ALERT_N (R275, R617). -/
def State.alertPin (s : State) : Pin := s.ball 1 (if s.live && s.alertLow then .low else .z)

/-- INT0_N and INT1_N (R554, R617). -/
def State.intPin (s : State) (i : Iface) : Pin := s.ball (if i = .spi then 3 else 2) (if s.live && s.intLow i then .low else .z)

/-- RSTOnn_N (R226, R512, R617). -/
def State.rstoPin (s : State) (n : Nat) : Pin := s.ball (16 + n) (if s.live && !bitOf s.rstoLow n then .z else .low)

/-- RAILnn_EN (R133, R617). -/
def State.railEnPin (s : State) (r : Nat) : Pin := s.ball (64 + r) (if s.glb.mode == .run && (s.rail r).en then .high else .low)

/-- What a phase's PWM does (R129, R617): high impedance, both switches off, pulses between two of its levels, or what the
boundary register gives it (R321). -/
inductive PwmDrive where
  | z | mid | highLow | highMid | lowMid | scan (p : Pin)
  deriving DecidableEq, Repr

/-- PHnn_PWM (R129, R153, R162, R617): pulses while the phase switches, with the low side held off until the reference
exceeds the output; low and mid during discharge; mid otherwise. The ball is at high impedance in COLD and NO_IMAGE. -/
def State.pwmPin (s : State) (p : Nat) : PwmDrive :=
  let x := s.rail (s.phaseRail p)
  if s.scanning then .scan (s.ball (128 + p) .z)
  else if s.glb.mode == .cold || s.glb.mode == .noImage then .z
  else if s.glb.mode != .run || !s.imb Img.phUsed p then .mid
  else if x.disch then .lowMid
  else if (s.phase p).mid || !x.running then .mid
  else if x.lowHeld then .highMid
  else .highLow

/-- How an output is discharged (R162), with the limit per element in mA. -/
inductive Discharge where
  | none | lowMid (lim : Nat) | lowSide (lim : Nat) | pullDown
  deriving DecidableEq, Repr

/-- The discharge of a rail by its kind: low side and mid on every phase, or the buck's low side, within a quarter of
RAIL_PH_ILIM; 100 Ω on an LDO (R162). -/
def State.discharging (s : State) (r : Nat) : Discharge :=
  if !(s.rail r).disch then .none
  else if r < 24 then .lowMid (s.phIlim r / 4)
  else if r < 32 then .lowSide (s.phIlim r / 4)
  else .pullDown

/-- LSnn_GATE: high while the gate is driven, else at the switch's source (R171, R617). -/
def State.gatePin (s : State) (n : Nat) : Pin := if s.live && (s.switch n).gate then .high else .low

/-- The NOR balls (R320, R617, R618). -/
inductive NorDrive where
  /-- Every ball at high impedance; NOR_CS_N pulled high internally in HELD and NO_IMAGE -/
  | released (csPullUp : Bool)
  /-- Driven by the start controller, or for the copy of R587 -/
  | driven
  /-- NOR_CS_N high, no transfer -/
  | idle
  /-- Driven by the boundary register -/
  | scan
  deriving DecidableEq, Repr

/-- NOR_CS_N, NOR_SCK and NOR_IO0 to NOR_IO3 (R320, R617, R618): an external programmer may drive them in HELD and
NO_IMAGE. -/
def State.norPins (s : State) : NorDrive :=
  if s.scanning then .scan else match s.glb.mode with
  | .cold => .released false
  | .held | .noImage => .released true
  | .starting => .driven
  | .run => if s.upd.st == .copying && s.pkgClass == 2 then .driven else .idle
  | .parked => .idle

/-- The loop of a buck or an LDO drives its switches or its pass device: it gives pulses, its enable stands, and no hardware action
holds it off (R156, R158, R163 to R165). -/
def Rail.driven (x : Rail) : Bool := x.running && x.en && !x.ovHw && !x.short

/-- BKnn_LX (R617): at high impedance unless the committed state drives or discharges it; on its discharge path in HELD. -/
def State.buckPin (s : State) (n : Nat) : PwmDrive :=
  let x := s.rail (24 + n)
  if s.glb.mode != .run then .z
  else if x.disch then .lowMid
  else if !x.driven then .z
  else if x.lowHeld then .highMid
  else .highLow

/-- The discharge paths of bucks and LDOs are connected (R319, R617). -/
def State.pullDowns (s : State) (r : Nat) : Bool := s.glb.mode == .held || (s.live && (s.rail r).disch)

/-- LDOn_OUT is driven (R617). -/
def State.ldoDriven (s : State) (n : Nat) : Bool := s.live && (s.rail (32 + n)).driven && !(s.rail (32 + n)).disch

/-- SRC_GATE_S, SRC_GATE_N (R443, R617): off outside RUN and PARKED. -/
def State.sourceGate (s : State) (net : Bool) : Pin := if s.live && (if net then s.chg.netOn else s.chg.solOn) then .high else .low

/-- GPIOnn (R617, R625). -/
def State.gpioPin (s : State) (n : Nat) : Pin :=
  s.ball (256 + n) (if s.live && bitOf (s.rwWord 0x60).toNat n then (if bitOf (s.rwWord 0x64).toNat n then .high else .low) else .z)

/-- CHG_HGx and CHG_LGx: the charger's converter switches its gates, or they are off (R441, R617). -/
def State.chgGates (s : State) : PwmDrive := if s.live && s.chg.conv then .highLow else .mid

/-- A bus of the block: its balls at high impedance, or in use (R617). -/
inductive BusDrive where
  | z | active
  deriving DecidableEq, Repr

/-- TWB1_SCL and TWB1_SDA: the controller's in RUN and PARKED (R617). -/
def State.twb1Pins (s : State) : BusDrive := if s.live then .active else .z

/-- TWB0_SCL, TWB0_SDA and the HSPI balls, HSPI_MISO among them: served in RUN and PARKED, and under R562 in NO_IMAGE and in
STARTING from step 6 (R617). -/
def State.hostPins (s : State) : BusDrive :=
  match s.glb.mode with
  | .run | .parked | .noImage => .active
  | .starting => if 6 ≤ s.glb.startStep ∧ s.glb.haltCause = 0 then .active else .z
  | _ => .z

/-- Ee_TXP and Ee_TXN (R349, R390, R617): an enabled eyelet transmits in RUN, and in STARTING from step 11. -/
def State.eyeTx (s : State) (e : Nat) : BusDrive :=
  if (s.glb.mode == .run || s.glb.mode == .starting && decide (11 ≤ s.glb.startStep)) && bitOf (s.im Img.laceEn) e then .active else .z

/-- The groups of outputs that GLB_PAD gives an edge time (R626). -/
inductive PadGroup where
  | od | nor | miso | gpio | en | pwm
  deriving DecidableEq, Repr

/-- The slew code of a group, as GLB_PAD has it; the NOR controller uses code 2 throughout a cold start (R624, R626). -/
def State.slewCode (s : State) (g : PadGroup) : Nat :=
  let w := (s.rwWord 0x6C).toNat
  match g with
  | .od => bitsOf w 11 10
  | .nor => if s.glb.mode == .starting then 2 else bitsOf w 9 8
  | .miso => bitsOf w 7 6
  | .gpio => bitsOf w 5 4
  | .en => bitsOf w 3 2
  | .pwm => bitsOf w 1 0

/-- The typical 10–90 % edge time of a group's next edge, in units of 0.1 ns (R623); a phase takes a new code with its next
switching period (R624), whose place is left out (assumption 97). -/
def State.edgeTime (s : State) (g : PadGroup) : Nat :=
  match s.slewCode g with
  | 0 => 120
  | 1 => 60
  | 2 => 25
  | _ => 12

/-- TDO: at high impedance except while a tester shifts, and no command shifts (R321, R617). -/
def State.tdoPin (_s : State) : Pin := .z
end Sys2Proof.Machine
end

