-- ==== Sys2Proof/Machine/Arrivals.lean ====
section
/-! DEFINITION. How commands reach the lanes: at once, through the boundary buffers of a hold or clock switch, or not at all
with governing stopped (R290, R291, R295). Each command's effect stands in its family's file under the name run…. -/

namespace Sys2Proof.Machine

/-- What a command does when the lanes take it out of the boundary buffers (R291). Commands that are never held there, being
those of the lanes, the clocks, the starts and the pipeline's own stages, have no part in it. -/
def runHeld (c : Instr) (s : State) : Host.Outcome State Fault Refusal :=
  match c with
  | .vholdStart => .next s
  | .vholdBrownOut => .next s
  | .sourceBrownOut _ _ => .next s
  | .porstNLow => .next s
  | .porstNRelease => .next s
  | .coldStart _ => .next s
  | .recoveryColdStart => .next s
  | .warmStart _ => .next s
  | .parkEntry => runParkEntry s
  | .wake p c => runWake p c s
  | .wakeCommand i => runWakeCommand i s
  | .requestSubmit i w0 => runRequestSubmit i w0 s
  | .requestCapture _ => .next s
  | .bundleMemberStage i w0 => runBundleMemberStage i w0 s
  | .bundleBufferTimeout i => runBundleBufferTimeout i s
  | .bundleBufferClear i => runBundleBufferClear i s
  | .shankOrder => .next s
  | .stitchIssue _ => .next s
  | .tackConfirm slot seq => runTackConfirm slot seq s
  | .timeLimitExpiry slot => runTimeLimitExpiry slot s
  | .soleCommit => .next s
  | .bundleCommit => .next s
  | .epochTick => .next s
  | .catchUpComplete _ => .next s
  | .recheckResubmit li => runRecheckResubmit li s
  | .envelopeCorrection li => runEnvelopeCorrection li s
  | .faceplateRead i word eccErr => runFaceplateRead i word eccErr s
  | .snapshotPinSet i => runSnapshotPinSet i s
  | .snapshotPinClear i => runSnapshotPinClear i s
  | .epochLowRead i k => runEpochLowRead i k s
  | .completionPop i => runCompletionPop i s
  | .peakClr => runPeakClr s
  | .cplLostClr i => runCplLostClr i s
  | .registerWrite i addr w => runRegisterWrite i addr w s
  | .stageFault p low => runStageFault p low s
  | .persistentCurrentLimit p limited => runPersistentCurrentLimit p limited s
  | .overloadEnd p => runOverloadEnd p s
  | .spareFirstPulse p => runSpareFirstPulse p s
  | .phaseLatch p => runPhaseLatch p s
  | .phaseImbalance p => runPhaseImbalance p s
  | .shedEvaluation r => runShedEvaluation r s
  | .loadLineEvaluation r => runLoadLineEvaluation r s
  | .railFirstPulse r vout => runRailFirstPulse r vout s
  | .shortDetect r vout limitedAt30 => runShortDetect r vout limitedAt30 s
  | .overvoltage r abs vout => runOvervoltage r abs vout s
  | .undervoltage r vout => runUndervoltage r vout s
  | .outputDischarged r => runOutputDischarged r s
  | .dischargeTimeout r => runDischargeTimeout r s
  | .powerGood r => runPowerGood r s
  | .powerGoodTimeout r => runPowerGoodTimeout r s
  | .telemetrySample r pins sense => runTelemetrySample r pins sense s
  | .railPkClr r => runRailPkClr r s
  | .railLsPkClr => runRailLsPkClr s
  | .inrushComplete sw => runInrushComplete sw s
  | .inrushTimeout sw => runInrushTimeout sw s
  | .switchShort sw => runSwitchShort sw s
  | .gateFault sw => runGateFault sw s
  | .i2tUpdate sw iMean dtUs => runI2tUpdate sw iMean dtUs s
  | .loopSample _ _ => .next s
  | .loopTrcArm b => runLoopTrcArm b s
  | .loopTrcForce b => runLoopTrcForce b s
  | .loopTrcStop b => runLoopTrcStop b s
  | .loopTrcGarm mask => runLoopTrcGarm mask s
  | .loopTrcGforce mask => runLoopTrcGforce mask s
  | .loopSatClr r => runLoopSatClr r s
  | .delayEnd g => runDelayEnd g s
  | .waitSatisfied g => runWaitSatisfied g s
  | .waitTimeout g => runWaitTimeout g s
  | .retryBegin g => runRetryBegin g s
  | .inputLost b mv => runInputLost b mv s
  | .inputReturn b => runInputReturn b s
  | .inputsStable => runInputsStable s
  | .resumeTimeout g => runResumeTimeout g s
  | .snapshotCommand i mv => runSnapshotCommand i mv s
  | .snapshotWritten => runSnapshotWritten s
  | .faultLineChange n asserted cause => runFaultLineChange n asserted cause s
  | .integrityLost n => runIntegrityLost n s
  | .lineTest _ _ => .next s
  | .finLevel f lvl => runFinLevel f lvl s
  | .persistQualify n => runPersistQualify n s
  | .occurrenceExpire n => runOccurrenceExpire n s
  | .sourceEntryCommit n => runSourceEntryCommit n s
  | .latchSubmit li => runLatchSubmit li s
  | .failedRecovery li => runFailedRecovery li s
  | .fltFset k mask => runFltFset k mask s
  | .fltFclr k mask => runFltFclr k mask s
  | .fltSwSet mask => runFltSwSet mask s
  | .fltSwClr mask => runFltSwClr mask s
  | .fltFaultnRel => runFltFaultnRel s
  | .evtAck i k mask => runEvtAck i k mask s
  | .voteMismatch l => .next (s.isolateNote l)
  | .laneCheckerError l kind => .next ((s.checkNote l kind).isolateNote l)
  | .linkCopyCrcFail => runLinkCopyCrcFail s
  | .checkpoint _ _ => .next s
  | .chuckHold _ => .next s
  | .holdCheckerStage _ _ => .next s
  | .holdReplayStage _ _ => .next s
  | .holdSelfTestStage _ _ => .next s
  | .reformSelfTestDone _ _ => .next s
  | .reformCopyDone _ => .next s
  | .crystalStop => .next s.crystalNote
  | .pllLockLoss b => .next (if s.glb.mode = .parked then s else s.pllNote b)
  | .clockOutOfRange c => .next (s.rangeNote c)
  | .x32Stop => .next (if s.live then s.x32Note else s)
  | .clockSwitchDone _ => .next s
  | .pllReturn => .next s
  | .referenceDisagree k othersAgree => runReferenceDisagree k othersAgree s
  | .reverseCurrent b => runReverseCurrent b s
  | .idealDiodeReenable b => runIdealDiodeReenable b s
  | .vinOvervoltage b => runVinOvervoltage b s
  | .vinOvRelease b => runVinOvRelease b s
  | .idealDiodeGateFault b => runIdealDiodeGateFault b s
  | .supplyUndervoltage sup low => runSupplyUndervoltage sup low s
  | .laneHoldPkClr => runLaneHoldPkClr s
  | .eyeletLock e => runEyeletLock e s
  | .eyeletLockLoss e => runEyeletLockLoss e s
  | .helloTimeout e => runHelloTimeout e s
  | .helloSend e => runHelloSend e s
  | .hello e h arrival => runHello e h arrival s
  | .linkSend e => runLinkSend e s
  | .link e ack nak credits => runLink e ack nak credits s
  | .frameDiscard e => runFrameDiscard e s
  | .sequenceReject e => runSequenceReject e s
  | .resendTimeout e => runResendTimeout e s
  | .creditTimeout e cls => runCreditTimeout e cls s
  | .frameForward e f => runFrameForward e f s
  | .markerSend => runMarkerSend s
  | .epochMarker e m => runEpochMarker e m s
  | .parentLost => runParentLost s
  | .joinRequest => runJoinRequest s
  | .joinRetry => runJoinRetry s
  | .joinReq e src j epochLen hops => runJoinReq e src j epochLen hops s
  | .joinGrant e j => runJoinGrant e j s
  | .leave e uid => runLeave e uid s
  | .lost e slots => runLost e slots s
  | .op e dst ws otag => runOp e dst ws otag s
  | .cpl e ws otag => runCpl e ws otag s
  | .delta e src d => runDelta e src d s
  | .mirror e m => runMirror e m s
  | .bulk e src b => runBulk e src b s
  | .leaveCommand i => runLeaveCommand i s
  | .slotHoldExpire sl => runSlotHoldExpire sl s
  | .takeover => runTakeover s
  | .wakeSlotCommand i sl => runWakeSlotCommand i sl s
  | .laceWakeDetect => runLaceWakeDetect s
  | .energyTimeLimit => runEnergyTimeLimit s
  | .netCoverLoss => runNetCoverLoss s
  | .reverseModeFault overCurrent => runReverseModeFault overCurrent s
  | .foreignPoll d => runForeignPoll d s
  | .twb1TransactionDone d t => runTwb1TransactionDone d t s
  | .sliceCalibration ofs gain => runSliceCalibration ofs gain s
  | .conversionStep q => runConversionStep q s
  | .conversionResult q codes => runConversionResult q codes s
  | .resultQueuePop i => runResultQueuePop i s
  | .adcRqFlush => runAdcRqFlush s
  | .meteringResult m raw => runMeteringResult m raw s
  | .mtrZero m => runMtrZero m s
  | .mtrFullScale m => runMtrFullScale m s
  | .mtrRestore m => runMtrRestore m s
  | .parkedListRun q => runParkedListRun q s
  | .sensorRefresh n x => runSensorRefresh n x s
  | .zoneEvaluation z => runZoneEvaluation z s
  | .fastModeExit z => runFastModeExit z s
  | .rateOfRise => runRateOfRise s
  | .packConversion idMv ntc => runPackConversion idMv ntc s
  | .sourceSelect m => runSourceSelect m s
  | .sourceSwitchOn => runSourceSwitchOn s
  | .sourceOvervoltage net => runSourceOvervoltage net s
  | .chargeEvaluation vpack ivr => runChargeEvaluation vpack ivr s
  | .chargeTermination => runChargeTermination s
  | .rechargeStart => runRechargeStart s
  | .packOvervoltage => runPackOvervoltage s
  | .packOvertemp hot => runPackOvertemp hot s
  | .trackingStep pMean iOut => runTrackingStep pMean iOut s
  | .safetyTimerUpdate iActual => runSafetyTimerUpdate iActual s
  | .packRemoval => runPackRemoval s
  | .packInsertion idMv => runPackInsertion idMv s
  | .gaugeModelStep held60 => runGaugeModelStep held60 s
  | .gaugeEvaluation => runGaugeEvaluation s
  | .vbkupLow low => runVbkupLow low s
  | .rtcFracRead i => runRtcFracRead i s
  | .rtcSetGo i => runRtcSetGo i s
  | .rtcHaltWrite i v => runRtcHaltWrite i v s
  | .watchdogTick w => runWatchdogTick w s
  | .wdgKey i w key => runWdgKey i w key s
  | .wdgCheckin i w bits => runWdgCheckin i w bits s
  | .wdgPeriodNew i w p => runWdgPeriodNew i w p s
  | .resetPulseEnd w => runResetPulseEnd w s
  | .flush failAt => runFlush failAt s
  | .recFlush i => runRecFlush i s
  | .recordSeek i k => runRecordSeek i k s
  | .seekComplete i => runSeekComplete i s
  | .recordRead i bad => runRecordRead i bad s
  | .recordAck i k => runRecordAck i k s
  | .freezeBegin i => runFreezeBegin i s
  | .freezeEnd i => runFreezeEnd i s
  | .remoteReadRequest i sl => runRemoteReadRequest i sl s
  | .remoteDataRead i => runRemoteDataRead i s
  | .recorderClear i ticket => runRecorderClear i ticket s
  | .page t => runPage t s
  | .operation t => runOperation t s
  | .clearFaults pec => runClearFaults pec s
  | .writeProtect t => runWriteProtect t s
  | .voutCommand t => runVoutCommand t s
  | .mfrQread addr n fetched bad => runMfrQread addr n fetched bad s
  | .mfrQwrite addr ws pec => runMfrQwrite addr ws pec s
  | .mfrQfifo addr n fetched bad => runMfrQfifo addr n fetched bad s
  | .mfrQreq ws pec => runMfrQreq ws pec s
  | .mfrQentry eccErr => runMfrQentry eccErr s
  | .invalidCommand isWrite => runInvalidCommand isWrite s
  | .alertResponse arbWon => runAlertResponse arbWon s
  | .hostNotify ok => runHostNotify ok s
  | .hostNotifyRetry ok => runHostNotifyRetry ok s
  | .spiReadFrame _ _ _ => .next s
  | .spiWriteFrame bytes => runSpiWriteFrame bytes s
  | .gpioChange n level => runGpioChange n level s
  | .motionChange moving pulses => runMotionChange moving pulses s
  | .program i w => runProgram i w s
  | .sealWord i w => runSealWord i w s
  | .lcAdvance i w => runLcAdvance i w s
  | .revoke i w => runRevoke i w s
  | .ctrRaise i w => runCtrRaise i w s
  | .otpPulseDone reads1 => runOtpPulseDone reads1 s
  | .openSession src => runOpenSession src s
  | .verify src => runVerify src s
  | .copyDone fail => runCopyDone fail s
  | .activate src => runActivate src s
  | .abort src => runAbort src s
  | .lock i => runLock i s
  | .unlock i => runUnlock i s
  | .tokenVerify i => runTokenVerify i s
  | .tokenCheckDone i => runTokenCheckDone i s
  | .authExpire i => runAuthExpire i s
  | .blockIndex i k => runBlockIndex i k s
  | .blockData i w => runBlockData i w s
  | .blockCrc i crc => runBlockCrc i crc s
  | .remoteStage i sl => runRemoteStage i sl s
  | .remoteActivate i => runRemoteActivate i s
  | .remoteAbort i => runRemoteAbort i s
  | .keepAliveCrossing up mv => runKeepAliveCrossing up mv s
  | .vholdHoldCrossing up => runVholdHoldCrossing up s
  | .pllRelock b => .next (if s.glb.mode = .parked then s else s.pllLockNote b)
  | .tapInstruction _ => .next s
  | .chargerStageFault => runChargerStageFault s
  | .packUndervoltage => runPackUndervoltage s
  | .cleanReference => runCleanReference s
  | .referenceStale => runReferenceStale s
  | .learningTimeout => runLearningTimeout s
  | .hibernationEnter => runHibernationEnter s
  | .hibernationExit => runHibernationExit s
  | .gaugeSave => runGaugeSave s
  | .backupReset => .next s.osfNote
  | .rtcIncrement => .next s.rtcNote
  | .oscillatorStopDetect => .next s
  | .rtcLoad => runRtcLoad s
  | .freezeTimeout => runFreezeTimeout s
  | .capability => runCapability s
  | .voutMode => runVoutMode s
  | .statusByte => runStatusByte s
  | .statusWord => runStatusWord s
  | .statusVout => runStatusVout s
  | .statusIout => runStatusIout s
  | .statusCml => runStatusCml s
  | .readVout => runReadVout s
  | .readIout => runReadIout s
  | .readTemperature1 => runReadTemperature1 s
  | .pmbusRevision => runPmbusRevision s
  | .mfrId => runMfrId s
  | .mfrModel => runMfrModel s
  | .mfrRevision => runMfrRevision s
  | .mfrQcpl => runMfrQcpl s
  | .twb0Timeout => runTwb0Timeout s
  | .verifyDone => runVerifyDone s
  | .motionRefreshLimit => runMotionRefreshLimit s

/-- The lanes take what the boundary buffers hold: every arrival in its order, time-limit expiries last (R291, R336). After a
warm start a fault line counts from its arrival (R338). -/
def State.takeHeld (s : State) (warm : Bool) : State :=
  let held := s.lane.boundary
  let s := s.modLane fun x => { x with boundary := [] }
  let s := (held.filter (fun x => !isExpiry x.2) ++ held.filter fun x => isExpiry x.2).foldl (fun s x =>
    let s := s.modGlb fun g => { g with lineAt := if warm then some x.1 else none }
    s.after (s.arrive x.2 (runHeld x.2 s))) s
  s.modGlb fun g => { g with lineAt := none }

/-- The boundary buffers empty once the lanes run again; then each rail resumes with the transfer of R204 (R291). A warm start
in progress keeps the buffers for its own end (R337). -/
def State.drain (s : State) : State :=
  if s.lane.held || s.lane.govStop then s
  else if s.glb.warmBusy then s.releaseRails
  else
    let s := s.takeHeld false
    if s.lane.held || s.lane.govStop then s else s.releaseRails

/-- The steps of a warm start that are due (R334). After step 6 come the ticks that fell inside it and then what was held
(R336). -/
def State.warmRun (s : State) : State :=
  let s := if s.warmDue 0 1500 then s.warmCode else s
  let s := if s.warmDue 1 2750 then s.warmAdopt else s
  let s := if s.warmDue 2 3500 then s.warmCheck else s
  if s.warmDue 3 3750 then s.warmEnd.heldTicks.takeHeld true else s

/-- A warm start whose step 6 comes before core cycle n ends there (R334). -/
def State.warmUntil (s : State) (n : Nat) : State :=
  let e := s.glb.warmAt + s.glb.warmFor
  if s.glb.warmBusy && !s.lane.held && !s.lane.govStop && decide (e ≤ n) then ({ s with cyc := max s.cyc e }).warmRun else s

/-- One core cycle passes with no command: a warm start goes on with its steps, and nothing else changes (DESIGN CHOICE,
assumption 15). -/
def State.idle (s : State) : State := ({ s with cyc := s.cyc + 1 }).warmRun

/-- R49: the epoch length elapses. A tick inside a hold or a warm start waits for its end (R291, R336); with governing stopped
nothing is published (R295). -/
def execEpochTick (s : State) : Host.Outcome State Fault Refusal :=
  .next (
    let s := s.warmUntil s.tickAt
    if !s.live || s.lane.govStop then s
    else if s.stalled then s.modLane fun l => { l with tickHeld := l.tickHeld + 1 }
    else s.tickNow)

/-- R14, R340: At the tick that publishes a committed PARK, the Lathe idles, the clocks move to RC and PARKED is entered. -/
def execParkEntry (s : State) : Host.Outcome State Fault Refusal := s.arrive (.parkEntry) (runParkEntry s)

/-- R342: A wake condition in PARKED relocks the PLLs, recalibrates and returns the unit to RUN. -/
def execWake (pllaLocked : Bool) (cals : List (Int × Nat)) (s : State) : Host.Outcome State Fault Refusal := s.arrive (.wake pllaLocked cals) (runWake pllaLocked cals s)

/-- R491: The backup domain resets. -/
def execBackupReset (s : State) : Host.Outcome State Fault Refusal := s.arrive (.backupReset) (runBackupReset s)

/-- R494: An oscillator cycle advances the clock fraction, with trim and carry. -/
def execRtcIncrement (s : State) : Host.Outcome State Fault Refusal := s.arrive (.rtcIncrement) (runRtcIncrement s)

/-- R344: A host write of 1 to GLB_WAKE_CMD is a wake condition, or is ignored in RUN. -/
def execWakeCommand (i : Iface) (s : State) : Host.Outcome State Fault Refusal := s.arrive (.wakeCommand i) (runWakeCommand i s)

/-- R559: A host write of PIPE_REQ0, or a write to a governing register, raises one P4 request, or is refused when the queue is full. -/
def execRequestSubmit (i : Iface) (w0 : Word) (s : State) : Host.Outcome State Fault Refusal := s.arrive (.requestSubmit i w0) (runRequestSubmit i w0 s)

/-- R116: A host bundle member is staged in the interface buffer, handed to Awl on LAST, or empties the buffer on a mismatch. -/
def execBundleMemberStage (i : Iface) (w0 : Word) (s : State) : Host.Outcome State Fault Refusal := s.arrive (.bundleMemberStage i w0) (runBundleMemberStage i w0 s)

/-- R116: 10 ms pass without a new member, and the host bundle buffer empties with refusals. -/
def execBundleBufferTimeout (i : Iface) (s : State) : Host.Outcome State Fault Refusal := s.arrive (.bundleBufferTimeout i) (runBundleBufferTimeout i s)

/-- R116: A write of 1 to PIPE_BND_CLR empties the interface's bundle buffer. -/
def execBundleBufferClear (i : Iface) (s : State) : Host.Outcome State Fault Refusal := s.arrive (.bundleBufferClear i) (runBundleBufferClear i s)

/-- R104: A completion is captured and matched to its Tack slot, which confirms the operation. -/
def execTackConfirm (slot : Fin 1024) (seq : Word) (s : State) : Host.Outcome State Fault Refusal := s.arrive (.tackConfirm slot seq) (runTackConfirm slot seq s)

/-- R106: An operation's time limit expires, and it completes TIMEOUT with its slot freed. -/
def execTimeLimitExpiry (slot : Fin 1024) (s : State) : Host.Outcome State Fault Refusal := s.arrive (.timeLimitExpiry slot) (runTimeLimitExpiry slot s)

/-- R79: In the epoch after a protection releases, a clamped request is submitted again. -/
def execRecheckResubmit (li : Fin 2048) (s : State) : Host.Outcome State Fault Refusal := s.arrive (.recheckResubmit li) (runRecheckResubmit li s)

/-- R80: In the epoch after an envelope change, a value outside the new envelope is committed to the nearer bound. -/
def execEnvelopeCorrection (li : Fin 2048) (s : State) : Host.Outcome State Fault Refusal := s.arrive (.envelopeCorrection li) (runEnvelopeCorrection li s)

/-- R54: A faceplate read returns entry words and loads the interface's entry latch. -/
def execFaceplateRead (i : Iface) (word : Fin 524288) (eccErr : Bool) (s : State) : Host.Outcome State Fault Refusal := s.arrive (.faceplateRead i word eccErr) (runFaceplateRead i word eccErr s)

/-- R57: A write of 1 to PIPE_SNAP_PIN freezes the faceplate on the shown publication. -/
def execSnapshotPinSet (i : Iface) (s : State) : Host.Outcome State Fault Refusal := s.arrive (.snapshotPinSet i) (runSnapshotPinSet i s)

/-- R61: A write of 0 to PIPE_SNAP_PIN by the setting interface requests release at the next tick. -/
def execSnapshotPinClear (i : Iface) (s : State) : Host.Outcome State Fault Refusal := s.arrive (.snapshotPinClear i) (runSnapshotPinClear i s)

/-- R126: A read of an epoch register's low word latches its high word for the interface. -/
def execEpochLowRead (i : Iface) (k : Fin 3) (s : State) : Host.Outcome State Fault Refusal := s.arrive (.epochLowRead i k) (runEpochLowRead i k s)

/-- R114: A read of PIPE_CPL0 removes the oldest completion from the FIFO and latches it. -/
def execCompletionPop (i : Iface) (s : State) : Host.Outcome State Fault Refusal := s.arrive (.completionPop i) (runCompletionPop i s)

/-- R126: A write of 1 to PIPE_PEAK_CLR reloads the Tack and commit peak registers. -/
def execPeakClr (s : State) : Host.Outcome State Fault Refusal := s.arrive (.peakClr) (runPeakClr s)

/-- R114: A write of 1 to PIPE_CPL_LOST_CLR clears the lost-completion count. -/
def execCplLostClr (i : Iface) (s : State) : Host.Outcome State Fault Refusal := s.arrive (.cplLostClr i) (runCplLostClr i s)

/-- R5: A host write to a register without a row of its own is stored, ignored or acted on by its access code. -/
def execRegisterWrite (i : Iface) (addr : BitVec 24) (w : Word) (s : State) : Host.Outcome State Fault Refusal := s.arrive (.registerWrite i addr w) (runRegisterWrite i addr w s)

/-- R132: PHnn_TMON lies out of range for 200 ns, the phase is driven to mid and its stage-fault source asserts. -/
def execStageFault (p : Fin 48) (low : Bool) (s : State) : Host.Outcome State Fault Refusal := s.arrive (.stageFault p low) (runStageFault p low s)

/-- R140: A phase ends its pulse at the limit for RAIL_CL_PERSIST consecutive cycles. -/
def execPersistentCurrentLimit (p : Fin 48) (limited : Nat) (s : State) : Host.Outcome State Fault Refusal := s.arrive (.persistentCurrentLimit p limited) (runPersistentCurrentLimit p limited s)

/-- R141: Fewer than half of the phases are limited for RAIL_CL_PERSIST cycles, and PROT_ACTIVE is cleared. -/
def execOverloadEnd (p : Fin 48) (s : State) : Host.Outcome State Fault Refusal := s.arrive (.overloadEnd p) (runOverloadEnd p s)

/-- R148: The spare gives its first high pulse at the failed phase's position, and the substitution is confirmed. -/
def execSpareFirstPulse (p : Fin 48) (s : State) : Host.Outcome State Fault Refusal := s.arrive (.spareFirstPulse p) (runSpareFirstPulse p s)

/-- R145: One millisecond after a phase commits FAILED, it is committed LATCHED_OFF. -/
def execPhaseLatch (p : Fin 48) (s : State) : Host.Outcome State Fault Refusal := s.arrive (.phaseLatch p) (runPhaseLatch p s)

/-- R136: A phase deviates beyond RAIL_IMB_PCT for 100 evaluations, and an event is raised. -/
def execPhaseImbalance (p : Fin 48) (s : State) : Host.Outcome State Fault Refusal := s.arrive (.phaseImbalance p) (runPhaseImbalance p s)

/-- R149: The shedding loop's 10 µs evaluation may request more or fewer phases. -/
def execShedEvaluation (r : Fin 24) (s : State) : Host.Outcome State Fault Refusal := s.arrive (.shedEvaluation r) (runShedEvaluation r s)

/-- R201: The load-line loop's 10 µs evaluation may submit a SETPOINT. -/
def execLoadLineEvaluation (r : Fin 32) (s : State) : Host.Outcome State Fault Refusal := s.arrive (.loadLineEvaluation r) (runLoadLineEvaluation r s)

/-- R152: A started rail gives its first pulse, and its reference begins its ramp. -/
def execRailFirstPulse (r : Fin 40) (vout : Nat) (s : State) : Host.Outcome State Fault Refusal := s.arrive (.railFirstPulse r vout) (runRailFirstPulse r vout s)

/-- R156: A starting rail is declared shorted, its phases go to mid and its UV source asserts with cause short. -/
def execShortDetect (r : Fin 40) (vout : Nat) (limitedAt30 : Bool) (s : State) : Host.Outcome State Fault Refusal := s.arrive (.shortDetect r vout limitedAt30) (runShortDetect r vout limitedAt30 s)

/-- R158: The output exceeds its OV threshold for RAIL_OV_DG, the die acts and the OV source asserts. -/
def execOvervoltage (r : Fin 40) (abs : Bool) (vout : Nat) (s : State) : Host.Outcome State Fault Refusal := s.arrive (.overvoltage r abs vout) (runOvervoltage r abs vout s)

/-- R159: The output stays below its UV threshold for RAIL_UV_DG, and the UV source asserts. -/
def execUndervoltage (r : Fin 40) (vout : Nat) (s : State) : Host.Outcome State Fault Refusal := s.arrive (.undervoltage r vout) (runUndervoltage r vout s)

/-- R162: A stopping rail falls below RAIL_OFF_THR and commits OFF. -/
def execOutputDischarged (r : Fin 40) (s : State) : Host.Outcome State Fault Refusal := s.arrive (.outputDischarged r) (runOutputDischarged r s)

/-- R163: The output is not below its off threshold within RAIL_DIS_TMAX, and the UV source asserts. -/
def execDischargeTimeout (r : Fin 40) (s : State) : Host.Outcome State Fault Refusal := s.arrive (.dischargeTimeout r) (runDischargeTimeout r s)

/-- R234: RAIL_PGOOD holds for SEQ_PG_DG after the ramp, and the rail's start is confirmed. -/
def execPowerGood (r : Fin 40) (s : State) : Host.Outcome State Fault Refusal := s.arrive (.powerGood r) (runPowerGood r s)

/-- R235: SEQ_PG_TO expires without power-good, and the UV source asserts with its cause. -/
def execPowerGoodTimeout (r : Fin 40) (s : State) : Host.Outcome State Fault Refusal := s.arrive (.powerGoodTimeout r) (runPowerGoodTimeout r s)

/-- R167: The voltage and current streams of each rail take a 1 µs sample and update means and extremes. -/
def execTelemetrySample (r : Fin 40) (pins : List PhaseIn) (sense : Int) (s : State) : Host.Outcome State Fault Refusal := s.arrive (.telemetrySample r pins sense) (runTelemetrySample r pins sense s)

/-- R168: A write of 1 to RAIL_PK_CLR clears a rail's voltage and current extremes. -/
def execRailPkClr (r : Fin 40) (s : State) : Host.Outcome State Fault Refusal := s.arrive (.railPkClr r) (runRailPkClr r s)

/-- R168: A write of 1 to RAIL_LS_PK_CLR clears LS_IPK of every switch. -/
def execRailLsPkClr (s : State) : Host.Outcome State Fault Refusal := s.arrive (.railLsPkClr) (runRailLsPkClr s)

/-- R169: A switch reaches its on conditions and commits ON. -/
def execInrushComplete (sw : Fin 32) (s : State) : Host.Outcome State Fault Refusal := s.arrive (.inrushComplete sw) (runInrushComplete sw s)

/-- R169: Inrush does not complete within LS_INRUSH_MS, the gate is pulled and the source asserts. -/
def execInrushTimeout (sw : Fin 32) (s : State) : Host.Outcome State Fault Refusal := s.arrive (.inrushTimeout sw) (runInrushTimeout sw s)

/-- R171: The shunt current is at or above LS_ISHORT for 300 ns, the gate is pulled and the switch fails. -/
def execSwitchShort (sw : Fin 32) (s : State) : Host.Outcome State Fault Refusal := s.arrive (.switchShort sw) (runSwitchShort sw s)

/-- R172: The gate drive of an ON switch stays below 6 V for 10 µs, and its source asserts. -/
def execGateFault (sw : Fin 32) (s : State) : Host.Outcome State Fault Refusal := s.arrive (.gateFault sw) (runGateFault sw s)

/-- R173: The switch's thermal account is updated every 10 µs and may warn or trip. -/
def execI2tUpdate (sw : Fin 32) (iMean : Int) (dtUs : Nat) (s : State) : Host.Outcome State Fault Refusal := s.arrive (.i2tUpdate sw iMean dtUs) (runI2tUpdate sw iMean dtUs s)

/-- R210: A write of 1 to LOOP_TRC_ARM discards the buffer and arms it. -/
def execLoopTrcArm (b : Fin 16) (s : State) : Host.Outcome State Fault Refusal := s.arrive (.loopTrcArm b) (runLoopTrcArm b s)

/-- R209: A write of 1 to LOOP_TRC_FORCE forces a trigger at the next loop sample. -/
def execLoopTrcForce (b : Fin 16) (s : State) : Host.Outcome State Fault Refusal := s.arrive (.loopTrcForce b) (runLoopTrcForce b s)

/-- R210: A write of 1 to LOOP_TRC_STOP ends recording and enters DONE. -/
def execLoopTrcStop (b : Fin 16) (s : State) : Host.Outcome State Fault Refusal := s.arrive (.loopTrcStop b) (runLoopTrcStop b s)

/-- R210: A LOOP_TRC_GARM write arms the named buffers in one core cycle. -/
def execLoopTrcGarm (mask : BitVec 16) (s : State) : Host.Outcome State Fault Refusal := s.arrive (.loopTrcGarm mask) (runLoopTrcGarm mask s)

/-- R209: A LOOP_TRC_GFORCE write forces the named buffers. -/
def execLoopTrcGforce (mask : BitVec 16) (s : State) : Host.Outcome State Fault Refusal := s.arrive (.loopTrcGforce mask) (runLoopTrcGforce mask s)

/-- R189: A write of 1 to LOOP_SAT_CLR clears LOOP_SATCNT. -/
def execLoopSatClr (r : Fin 32) (s : State) : Host.Outcome State Fault Refusal := s.arrive (.loopSatClr r) (runLoopSatClr r s)

/-- R221: A DELAY step's time elapses, and the step completes. -/
def execDelayEnd (g : Fin 16) (s : State) : Host.Outcome State Fault Refusal := s.arrive (.delayEnd g) (runDelayEnd g s)

/-- R225: A WAIT_GROUP or WAIT_INPUT condition becomes true, and the step completes. -/
def execWaitSatisfied (g : Fin 16) (s : State) : Host.Outcome State Fault Refusal := s.arrive (.waitSatisfied g) (runWaitSatisfied g s)

/-- R225: A WAIT step's time-out expires, and the step fails with cause 6. -/
def execWaitTimeout (g : Fin 16) (s : State) : Host.Outcome State Fault Refusal := s.arrive (.waitTimeout g) (runWaitTimeout g s)

/-- R238: A group's back-off wait ends, and the retry restarts the power-up program. -/
def execRetryBegin (g : Fin 16) (s : State) : Host.Outcome State Fault Refusal := s.arrive (.retryBegin g) (runRetryBegin g s)

/-- R245: VIN_A or VIN_B stays below SEQ_IN_THR for SEQ_IN_DG, which may declare input loss and power-fail. -/
def execInputLost (b : Bool) (mv : SupplyMv) (s : State) : Host.Outcome State Fault Refusal := s.arrive (.inputLost b mv) (runInputLost b mv s)

/-- R245: A lost input rises to its return level, and input loss ends. -/
def execInputReturn (b : Bool) (s : State) : Host.Outcome State Fault Refusal := s.arrive (.inputReturn b) (runInputReturn b s)

/-- R245: A returned input holds for 10 ms, and groups may resume. -/
def execInputsStable (s : State) : Host.Outcome State Fault Refusal := s.arrive (.inputsStable) (runInputsStable s)

/-- R248: SEQ_RESUME_MAX elapses in a held group, and power-down continues. -/
def execResumeTimeout (g : Fin 16) (s : State) : Host.Outcome State Fault Refusal := s.arrive (.resumeTimeout g) (runResumeTimeout g s)

/-- R251: A write of 1 to SEQ_SNAP_CMD captures a snapshot record. -/
def execSnapshotCommand (i : Iface) (mv : SupplyMv) (s : State) : Host.Outcome State Fault Refusal := s.arrive (.snapshotCommand i mv) (runSnapshotCommand i mv s)

/-- R251: The snapshot record reaches the MRAM ring and SEQ_SNAP_BUSY clears. -/
def execSnapshotWritten (s : State) : Host.Outcome State Fault Refusal := s.arrive (.snapshotWritten) (runSnapshotWritten s)

/-- R258: A decoded fault line changes, and the collector decides an occurrence in the next cycle. -/
def execFaultLineChange (n : Fin 512) (asserted : Bool) (cause : Fin 1024) (s : State) : Host.Outcome State Fault Refusal := s.arrive (.faultLineChange n asserted cause) (runFaultLineChange n asserted cause s)

/-- R260: A dual-rail line stays equal for 8 cycles, and the source commits FAILED. -/
def execIntegrityLost (n : Fin 512) (s : State) : Host.Outcome State Fault Refusal := s.arrive (.integrityLost n) (runIntegrityLost n s)

/-- R259: A FIN input holds a level or the mid band long enough to set its decoded value or lose integrity. -/
def execFinLevel (f : Fin 16) (lvl : FinLvl) (s : State) : Host.Outcome State Fault Refusal := s.arrive (.finLevel f lvl) (runFinLevel f lvl s)

/-- R262: A source stays asserted for FLT_PERSIST and qualifies. -/
def execPersistQualify (n : Fin 512) (s : State) : Host.Outcome State Fault Refusal := s.arrive (.persistQualify n) (runPersistQualify n s)

/-- R261: An occurrence ages out of the counting window. -/
def execOccurrenceExpire (n : Fin 512) (s : State) : Host.Outcome State Fault Refusal := s.arrive (.occurrenceExpire n) (runOccurrenceExpire n s)

/-- R276: A deferred change of a source entry is committed in the next epoch. -/
def execSourceEntryCommit (n : Fin 512) (s : State) : Host.Outcome State Fault Refusal := s.arrive (.sourceEntryCommit n) (runSourceEntryCommit n s)

/-- R270: In the epoch after a FAILED commit, the collector submits LATCHED_OFF for a latching source. -/
def execLatchSubmit (li : Fin 2048) (s : State) : Host.Outcome State Fault Refusal := s.arrive (.latchSubmit li) (runLatchSubmit li s)

/-- R657: A discharged output with no asserted source is returned from FAILED to OFF. -/
def execFailedRecovery (li : Fin 2048) (s : State) : Host.Outcome State Fault Refusal := s.arrive (.failedRecovery li) (runFailedRecovery li s)

/-- R265: A write of 1 to FLT_FSET forces a source asserted when forcing is enabled. -/
def execFltFset (k : Fin 16) (mask : Word) (s : State) : Host.Outcome State Fault Refusal := s.arrive (.fltFset k mask) (runFltFset k mask s)

/-- R265: A write of 1 to FLT_FCLR removes a force. -/
def execFltFclr (k : Fin 16) (mask : Word) (s : State) : Host.Outcome State Fault Refusal := s.arrive (.fltFclr k mask) (runFltFclr k mask s)

/-- R266: A write of 1 to FLT_SW_SET asserts a software-defined source. -/
def execFltSwSet (mask : BitVec 16) (s : State) : Host.Outcome State Fault Refusal := s.arrive (.fltSwSet mask) (runFltSwSet mask s)

/-- R266: A write of 1 to FLT_SW_CLR clears a software-defined source. -/
def execFltSwClr (mask : BitVec 16) (s : State) : Host.Outcome State Fault Refusal := s.arrive (.fltSwClr mask) (runFltSwClr mask s)

/-- R274: A write of 1 to FLT_FAULTN_REL releases FAULT_N when no SAFE source is asserted. -/
def execFltFaultnRel (s : State) : Host.Outcome State Fault Refusal := s.arrive (.fltFaultnRel) (runFltFaultnRel s)

/-- R278: A write of 1 to EVT_ACK raises a P4 STATE CLEAR for the event. -/
def execEvtAck (i : Iface) (k : Fin 8) (mask : Word) (s : State) : Host.Outcome State Fault Refusal := s.arrive (.evtAck i k mask) (runEvtAck i k mask s)

/-- R292: The checker stage completes and may isolate reporting lanes to end the hold. -/
def execHoldCheckerStage (reports : BitVec 3) (len : Nat) (s : State) : Host.Outcome State Fault Refusal := .next (s.after (runHoldCheckerStage reports len s)).drain

/-- R292: Replay from the agreed checkpoint completes, and agreement ends the hold as transient. -/
def execHoldReplayStage (agree : Bool) (len : Nat) (s : State) : Host.Outcome State Fault Refusal := .next (s.after (runHoldReplayStage agree len s)).drain

/-- R292: The self-test stage completes and isolates failing lanes, or governing stops. -/
def execHoldSelfTestStage (fails : BitVec 3) (len : Nat) (s : State) : Host.Outcome State Fault Refusal := .next (s.after (runHoldSelfTestStage fails len s)).drain

/-- R284: A word copy fails its die-to-die CRC and is excluded from the vote. -/
def execLinkCopyCrcFail (s : State) : Host.Outcome State Fault Refusal := s.arrive .linkCopyCrcFail (runLinkCopyCrcFail s)

/-- R285: A lane's word differs from the majority, and the lane is isolated. -/
def execVoteMismatch (l : Fin 3) (s : State) : Host.Outcome State Fault Refusal :=
  if s.differs then s.arrive (.voteMismatch l) (runVoteMismatch l s) else .next s

/-- R286, R288: A lane's checker, memory or regulator reports: the lane is isolated, or with the last lane governing stops. -/
def execLaneCheckerError (l : Fin 3) (kind : CheckKind) (s : State) : Host.Outcome State Fault Refusal :=
  if !s.reported l kind then .next s
  else if s.voters.length = 1 then .next (s.checkNote l kind).governStop
  else s.arrive (.laneCheckerError l kind) (runLaneCheckerError l kind s)

/-- R300: No crystal edge arrives within 160 ns, and the clock switches to PLL B. -/
def execCrystalStop (s : State) : Host.Outcome State Fault Refusal := s.arrive .crystalStop (runCrystalStop s)

/-- R300: A PLL loses lock, and a switch to PLL B follows when the core runs on PLL A. -/
def execPllLockLoss (b : Bool) (s : State) : Host.Outcome State Fault Refusal := s.arrive (.pllLockLoss b) (runPllLockLoss b s)

/-- R302: A PLL regains lock. -/
def execPllRelock (b : Bool) (s : State) : Host.Outcome State Fault Refusal := s.arrive (.pllRelock b) (runPllRelock b s)

/-- R300: A 10 µs count window finds the crystal, RC or WDOSC out of range. -/
def execClockOutOfRange (c : ClkSrc) (s : State) : Host.Outcome State Fault Refusal := s.arrive (.clockOutOfRange c) (runClockOutOfRange c s)

/-- R300: The 32.768 kHz oscillator shows no edge within 122 µs, and RTC_OSF is set. -/
def execX32Stop (s : State) : Host.Outcome State Fault Refusal := s.arrive (.x32Stop) (runX32Stop s)

/-- R301: PWM counters re-align to the new clock, and the hold of a clock switch ends. -/
def execClockSwitchDone (len : Nat) (s : State) : Host.Outcome State Fault Refusal := .next (s.after (runClockSwitchDone len s)).drain

/-- R304: A reference differs from the other two for 2 µs, and its consumers move. -/
def execReferenceDisagree (k : Fin 3) (othersAgree : Bool) (s : State) : Host.Outcome State Fault Refusal := s.arrive (.referenceDisagree k othersAgree) (runReferenceDisagree k othersAgree s)

/-- R306: Current reverses through an ideal-diode pair, which is turned off. -/
def execReverseCurrent (b : Bool) (s : State) : Host.Outcome State Fault Refusal := s.arrive (.reverseCurrent b) (runReverseCurrent b s)

/-- R306: The input exceeds VHOLD by 50 mV, and the pair is turned on again. -/
def execIdealDiodeReenable (b : Bool) (s : State) : Host.Outcome State Fault Refusal := s.arrive (.idealDiodeReenable b) (runIdealDiodeReenable b s)

/-- R307: An input exceeds LANE_VIN_OV for 1 µs, and its pair turns off. -/
def execVinOvervoltage (b : Bool) (s : State) : Host.Outcome State Fault Refusal := s.arrive (.vinOvervoltage b) (runVinOvervoltage b s)

/-- R307: The input stays below the release level for 1 ms, and the pair turns on. -/
def execVinOvRelease (b : Bool) (s : State) : Host.Outcome State Fault Refusal := s.arrive (.vinOvRelease b) (runVinOvRelease b s)

/-- R308: A pair's gate voltage is wrong for 10 µs, and its source asserts with cause 0. -/
def execIdealDiodeGateFault (b : Bool) (s : State) : Host.Outcome State Fault Refusal := s.arrive (.idealDiodeGateFault b) (runIdealDiodeGateFault b s)

/-- R309: A watched regulator supply crosses its threshold or release level for 10 µs. -/
def execSupplyUndervoltage (sup : Supply) (low : Bool) (s : State) : Host.Outcome State Fault Refusal := s.arrive (.supplyUndervoltage sup low) (runSupplyUndervoltage sup low s)

/-- R313: A write of 1 to LANE_HOLD_PK_CLR clears LANE_HOLD_MAX. -/
def execLaneHoldPkClr (s : State) : Host.Outcome State Fault Refusal := s.arrive (.laneHoldPkClr) (runLaneHoldPkClr s)

/-- R350: An eyelet receiver locks, and the eyelet enters TRAIN. -/
def execEyeletLock (e : Fin 4) (s : State) : Host.Outcome State Fault Refusal := s.arrive (.eyeletLock e) (runEyeletLock e s)

/-- R350: Lock is lost for 10 µs, and the eyelet goes DOWN. -/
def execEyeletLockLoss (e : Fin 4) (s : State) : Host.Outcome State Fault Refusal := s.arrive (.eyeletLockLoss e) (runEyeletLockLoss e s)

/-- R350: 3 ms pass without a valid HELLO, and the eyelet goes DOWN. -/
def execHelloTimeout (e : Fin 4) (s : State) : Host.Outcome State Fault Refusal := s.arrive (.helloTimeout e) (runHelloTimeout e s)

/-- R356: An eyelet sends its periodic or changed HELLO. -/
def execHelloSend (e : Fin 4) (s : State) : Host.Outcome State Fault Refusal := s.arrive (.helloSend e) (runHelloSend e s)

/-- R356: A received HELLO updates the round trip, trains the eyelet to UP or makes it FOREIGN. -/
def execHello (e : Fin 4) (h : Hello) (arrival : BitVec 16) (s : State) : Host.Outcome State Fault Refusal := s.arrive (.hello e h arrival) (runHello e h arrival s)

/-- R357: An UP eyelet sends its LINK frame at least every 10 µs. -/
def execLinkSend (e : Fin 4) (s : State) : Host.Outcome State Fault Refusal := s.arrive (.linkSend e) (runLinkSend e s)

/-- R357: A received LINK frame updates acknowledgements, NAK and credit limits. -/
def execLink (e : Fin 4) (ack : Byte) (nak : Bool) (credits : List Byte) (s : State) : Host.Outcome State Fault Refusal := s.arrive (.link e ack nak credits) (runLink e ack nak credits s)

/-- R353: A received frame with a bad CRC, TYPE or LEN is discarded and counted. -/
def execFrameDiscard (e : Fin 4) (s : State) : Host.Outcome State Fault Refusal := s.arrive (.frameDiscard e) (runFrameDiscard e s)

/-- R355: A frame with an unexpected SEQ is discarded and NAK is set. -/
def execSequenceReject (e : Fin 4) (s : State) : Host.Outcome State Fault Refusal := s.arrive (.sequenceReject e) (runSequenceReject e s)

/-- R355: The acknowledgement has not advanced for 20 µs, and unacknowledged frames are resent. -/
def execResendTimeout (e : Fin 4) (s : State) : Host.Outcome State Fault Refusal := s.arrive (.resendTimeout e) (runResendTimeout e s)

/-- R357: A class waits without credit for LACE_CRED_TO, and FS322 asserts. -/
def execCreditTimeout (e : Fin 4) (cls : Fin 4) (s : State) : Host.Outcome State Fault Refusal := s.arrive (.creditTimeout e cls) (runCreditTimeout e cls s)

/-- R360: A relay forwards a frame not addressed to its own slot. -/
def execFrameForward (e : Fin 4) (f : Frame) (s : State) : Host.Outcome State Fault Refusal := s.arrive (.frameForward e f) (runFrameForward e f s)

/-- R361: 50 µs before a tick, the domain head sends its epoch marker on child eyelets. -/
def execMarkerSend (s : State) : Host.Outcome State Fault Refusal := s.arrive (.markerSend) (runMarkerSend s)

/-- R361: A received marker re-anchors the tick grid, jumps numbering and is forwarded. -/
def execEpochMarker (e : Fin 4) (m : Marker) (s : State) : Host.Outcome State Fault Refusal := s.arrive (.epochMarker e m) (runEpochMarker e m s)

/-- R381: No valid marker arrives for 3 epochs or the parent eyelet goes DOWN, and the unit becomes an orphan. -/
def execParentLost (s : State) : Host.Outcome State Fault Refusal := s.arrive (.parentLost) (runParentLost s)

/-- R365: A unit without a slot chooses a parent and sends JOIN_REQ. -/
def execJoinRequest (s : State) : Host.Outcome State Fault Refusal := s.arrive (.joinRequest) (runJoinRequest s)

/-- R367: A refused unit repeats its JOIN_REQ after 1 s. -/
def execJoinRetry (s : State) : Host.Outcome State Fault Refusal := s.arrive (.joinRetry) (runJoinRetry s)

/-- R367: A domain head grants or refuses a JOIN_REQ and assigns a slot. -/
def execJoinReq (e : Fin 4) (src : Fin 64) (j : Join) (epochLen : Nat) (hops : Nat) (s : State) : Host.Outcome State Fault Refusal := s.arrive (.joinReq e src j epochLen hops) (runJoinReq e src j epochLen hops s)

/-- R369: A received grant gives the unit its slot, and a FULL set is sent. -/
def execJoinGrant (e : Fin 4) (j : Join) (s : State) : Host.Outcome State Fault Refusal := s.arrive (.joinGrant e j) (runJoinGrant e j s)

/-- R370: A received LEAVE frees the slot as FREE. -/
def execLeave (e : Fin 4) (uid : BitVec 64) (s : State) : Host.Outcome State Fault Refusal := s.arrive (.leave e uid) (runLeave e uid s)

/-- R377: A received LOST frame marks its slots for declaration at the next tick. -/
def execLost (e : Fin 4) (slots : BitVec 64) (s : State) : Host.Outcome State Fault Refusal := s.arrive (.lost e slots) (runLost e slots s)

/-- R380: A received OP is captured as P3, rewritten at a group head, or forwarded. -/
def execOp (e : Fin 4) (dst : Fin 64) (ws : Words4) (otag : BitVec 10) (s : State) : Host.Outcome State Fault Refusal := s.arrive (.op e dst ws otag) (runOp e dst ws otag s)

/-- R103: A received completion frame closes a Tack slot or relay slot. -/
def execCpl (e : Fin 4) (ws : Words4) (otag : BitVec 10) (s : State) : Host.Outcome State Fault Refusal := s.arrive (.cpl e ws otag) (runCpl e ws otag s)

/-- R375: A received DELTA fragment is staged, and a LAST fragment delivers its set. -/
def execDelta (e : Fin 4) (src : Fin 64) (d : DeltaFrame) (s : State) : Host.Outcome State Fault Refusal := s.arrive (.delta e src d) (runDelta e src d s)

/-- R384: A standby root stores the MIRROR frames into its shadow. -/
def execMirror (e : Fin 4) (m : MirrorFrame) (s : State) : Host.Outcome State Fault Refusal := s.arrive (.mirror e m) (runMirror e m s)

/-- R585: A received BULK frame delivers recorder, image-block, update-command or answer data. -/
def execBulk (e : Fin 4) (src : Fin 64) (b : BulkFrame) (s : State) : Host.Outcome State Fault Refusal := s.arrive (.bulk e src b) (runBulk e src b s)

/-- R370: A write of 1 to LACE_LEAVE sends LEAVE and makes the unit standalone. -/
def execLeaveCommand (i : Iface) (s : State) : Host.Outcome State Fault Refusal := s.arrive (.leaveCommand i) (runLeaveCommand i s)

/-- R371: A slot stays UNREACHABLE for LACE_HOLD_S, and it is freed. -/
def execSlotHoldExpire (sl : Fin 64) (s : State) : Host.Outcome State Fault Refusal := s.arrive (.slotHoldExpire sl) (runSlotHoldExpire sl s)

/-- R386: A standby root without markers for LACE_TAKE_EP epochs takes over as root. -/
def execTakeover (s : State) : Host.Outcome State Fault Refusal := s.arrive (.takeover) (runTakeover s)

/-- R391: A write of a slot to LACE_WAKE_SLOT sends IDLE for 100 µs toward it. -/
def execWakeSlotCommand (i : Iface) (sl : Fin 64) (s : State) : Host.Outcome State Fault Refusal := s.arrive (.wakeSlotCommand i sl) (runWakeSlotCommand i sl s)

/-- R391: A parked unit sees 20 µs of signal on its parent eyelet, which is wake condition 2. -/
def execLaceWakeDetect (s : State) : Host.Outcome State Fault Refusal := s.arrive (.laceWakeDetect) (runLaceWakeDetect s)

/-- R394: An energy order's time limit expires, and the order ends. -/
def execEnergyTimeLimit (s : State) : Host.Outcome State Fault Refusal := s.arrive (.energyTimeLimit) (runEnergyTimeLimit s)

/-- R395: NET stays below LACE_COVER_V for 100 µs during a DRAIN, and the sink end turns to SOURCE. -/
def execNetCoverLoss (s : State) : Host.Outcome State Fault Refusal := s.arrive (.netCoverLoss) (runNetCoverLoss s)

/-- R462: NET is not reached in 5 ms, or overcurrent occurs in reverse mode, and the converter stops. -/
def execReverseModeFault (overCurrent : Bool) (s : State) : Host.Outcome State Fault Refusal := s.arrive (.reverseModeFault overCurrent) (runReverseModeFault overCurrent s)

/-- R399: A foreign device's poll period elapses, and its items are read and published. -/
def execForeignPoll (d : Fin 32) (s : State) : Host.Outcome State Fault Refusal := s.arrive (.foreignPoll d) (runForeignPoll d s)

/-- R398: A TWB1 transaction ends, confirming an operation or counting a failure toward unreachability. -/
def execTwb1TransactionDone (d : Fin 32) (t : Twb1Result) (s : State) : Host.Outcome State Fault Refusal := s.arrive (.twb1TransactionDone d t) (runTwb1TransactionDone d t s)

/-- R404: The free slice is calibrated every ADC_CAL_INT and swapped into a position, or retired. -/
def execSliceCalibration (ofs : Int) (gain : Nat) (s : State) : Host.Outcome State Fault Refusal := s.arrive (.sliceCalibration ofs gain) (runSliceCalibration ofs gain s)

/-- R409: A sequencer starts a conversion in its 200 ns step. -/
def execConversionStep (q : Fin 8) (s : State) : Host.Outcome State Fault Refusal := s.arrive (.conversionStep q) (runConversionStep q s)

/-- R412: An entry's last conversion ends, and its result and value are formed and queued. -/
def execConversionResult (q : Fin 8) (codes : List Nat) (s : State) : Host.Outcome State Fault Refusal := s.arrive (.conversionResult q codes) (runConversionResult q codes s)

/-- R415: A read of the pop window returns and removes the oldest entry. -/
def execResultQueuePop (i : Iface) (s : State) : Host.Outcome State Fault Refusal := s.arrive (.resultQueuePop i) (runResultQueuePop i s)

/-- R415: A write of 1 to ADC_RQ_FLUSH empties the result queue. -/
def execAdcRqFlush (s : State) : Host.Outcome State Fault Refusal := s.arrive (.adcRqFlush) (runAdcRqFlush s)

/-- R418: A metering channel delivers its 250 µs raw result, which also feeds the gauge count. -/
def execMeteringResult (m : Fin 2) (raw : Int) (s : State) : Host.Outcome State Fault Refusal := s.arrive (.meteringResult m raw) (runMeteringResult m raw s)

/-- R419: ADC_MTR_CMD 1 starts a zero calibration. -/
def execMtrZero (m : Fin 2) (s : State) : Host.Outcome State Fault Refusal := s.arrive (.mtrZero m) (runMtrZero m s)

/-- R419: ADC_MTR_CMD 2 starts a full-scale calibration. -/
def execMtrFullScale (m : Fin 2) (s : State) : Host.Outcome State Fault Refusal := s.arrive (.mtrFullScale m) (runMtrFullScale m s)

/-- R419: ADC_MTR_CMD 3 restores the image coefficients. -/
def execMtrRestore (m : Fin 2) (s : State) : Host.Outcome State Fault Refusal := s.arrive (.mtrRestore m) (runMtrRestore m s)

/-- R422: Every ADC_PARK_INT in PARKED, a park sequencer runs its list once. -/
def execParkedListRun (q : Fin 8) (s : State) : Host.Outcome State Fault Refusal := s.arrive (.parkedListRun q) (runParkedListRun q s)

/-- R424: A raw temperature input is refreshed and judged valid, lost or idle. -/
def execSensorRefresh (n : Fin 112) (x : SensorRaw) (s : State) : Host.Outcome State Fault Refusal := s.arrive (.sensorRefresh n x) (runSensorRefresh n x s)

/-- R428: A zone is evaluated and its state, fast mode and band are decided. -/
def execZoneEvaluation (z : Fin 48) (s : State) : Host.Outcome State Fault Refusal := s.arrive (.zoneEvaluation z) (runZoneEvaluation z s)

/-- R431: A zone stays below its fast-mode threshold for 100 ms, and it leaves fast mode. -/
def execFastModeExit (z : Fin 48) (s : State) : Host.Outcome State Fault Refusal := s.arrive (.fastModeExit z) (runFastModeExit z s)

/-- R430: Every 100 ms, each zone's rate of rise is formed and judged. -/
def execRateOfRise (s : State) : Host.Outcome State Fault Refusal := s.arrive (.rateOfRise) (runRateOfRise s)

/-- R443: The charger converts PACK_ID and PACK_NTC every 10 µs. -/
def execPackConversion (idMv : Nat) (ntc : Nat) (s : State) : Host.Outcome State Fault Refusal := s.arrive (.packConversion idMv ntc) (runPackConversion idMv ntc s)

/-- R444: Every 1 ms, the charger selects its input source. -/
def execSourceSelect (m : SourceMeas) (s : State) : Host.Outcome State Fault Refusal := s.arrive (.sourceSelect m) (runSourceSelect m s)

/-- R441: 20 µs after the old pair turns off, the new source pair turns on and ramps. -/
def execSourceSwitchOn (s : State) : Host.Outcome State Fault Refusal := s.arrive (.sourceSwitchOn) (runSourceSwitchOn s)

/-- R446: SOLAR or NET is over its limit for 10 µs, and its pair turns off. -/
def execSourceOvervoltage (net : Bool) (s : State) : Host.Outcome State Fault Refusal := s.arrive (.sourceOvervoltage net) (runSourceOvervoltage net s)

/-- R447: Every 1 ms, the charger evaluates the pack voltage and moves between charge phases. -/
def execChargeEvaluation (vpack : Nat) (ivr : Bool) (s : State) : Host.Outcome State Fault Refusal := s.arrive (.chargeEvaluation vpack ivr) (runChargeEvaluation vpack ivr s)

/-- R447: The current stays below CHG_ITERM for CHG_TERM_T, the charger commits OFF and raises EV233. -/
def execChargeTermination (s : State) : Host.Outcome State Fault Refusal := s.arrive (.chargeTermination) (runChargeTermination s)

/-- R448: The pack stays below the recharge level for 1 s, and a new charge begins. -/
def execRechargeStart (s : State) : Host.Outcome State Fault Refusal := s.arrive (.rechargeStart) (runRechargeStart s)

/-- R449: The pack exceeds CHG_VOV for 100 µs, and the charger latches off. -/
def execPackOvervoltage (s : State) : Host.Outcome State Fault Refusal := s.arrive (.packOvervoltage) (runPackOvervoltage s)

/-- R449: The pack temperature reaches or clears CHG_POT, and the charger holds or resumes. -/
def execPackOvertemp (hot : Bool) (s : State) : Host.Outcome State Fault Refusal := s.arrive (.packOvertemp hot) (runPackOvertemp hot s)

/-- R453: Every CHG_TRK_T, the tracking loop compares power and submits a new tracking LIMIT. -/
def execTrackingStep (pMean : Nat) (iOut : Nat) (s : State) : Host.Outcome State Fault Refusal := s.arrive (.trackingStep pMean iOut) (runTrackingStep pMean iOut s)

/-- R454: Every 10 ms, both safety-timer counts advance and may expire. -/
def execSafetyTimerUpdate (iActual : Nat) (s : State) : Host.Outcome State Fault Refusal := s.arrive (.safetyTimerUpdate iActual) (runSafetyTimerUpdate iActual s)

/-- R456: Pack removal is declared, the charger enters supply mode and the gauge marks the pack absent. -/
def execPackRemoval (s : State) : Host.Outcome State Fault Refusal := s.arrive .packRemoval (runPackRemoval s)

/-- R458: The pack is present for 100 ms, the charger leaves supply mode and the gauge rebinds. -/
def execPackInsertion (idMv : Nat) (s : State) : Host.Outcome State Fault Refusal := s.arrive (.packInsertion idMv) (runPackInsertion idMv s)

/-- R469: Every 1 s, or 60 s in HELD, the gauge makes one observer model step. -/
def execGaugeModelStep (held60 : Bool) (s : State) : Host.Outcome State Fault Refusal := s.arrive (.gaugeModelStep held60) (runGaugeModelStep held60 s)

/-- R474: Every 10 ms, the gauge decides empty or disagreement. -/
def execGaugeEvaluation (s : State) : Host.Outcome State Fault Refusal := s.arrive .gaugeEvaluation (runGaugeEvaluation s)

/-- R493: VBKUP crosses RTC_VBK_THR or its release level for 1 ms, and FS360 changes. -/
def execVbkupLow (low : Bool) (s : State) : Host.Outcome State Fault Refusal := s.arrive (.vbkupLow low) (runVbkupLow low s)

/-- R497: A read of RTC_FRAC latches the seconds for the interface. -/
def execRtcFracRead (i : Iface) (s : State) : Host.Outcome State Fault Refusal := s.arrive (.rtcFracRead i) (runRtcFracRead i s)

/-- R498: A write of 1 to RTC_SET_GO requests a load of the set registers. -/
def execRtcSetGo (i : Iface) (s : State) : Host.Outcome State Fault Refusal := s.arrive (.rtcSetGo i) (runRtcSetGo i s)

/-- R501: A write to RTC_HALT raises a P4 STATE HELD or VALID request for the clock. -/
def execRtcHaltWrite (i : Iface) (v : Bool) (s : State) : Host.Outcome State Fault Refusal := s.arrive (.rtcHaltWrite i v) (runRtcHaltWrite i v s)

/-- R508: At each 100 µs tick, a watchdog evaluates expiry, check-ins, services and period writes. -/
def execWatchdogTick (w : Fin 8) (s : State) : Host.Outcome State Fault Refusal := s.arrive (.watchdogTick w) (runWatchdogTick w s)

/-- R507: A host write to WDG_KEY is stamped for judgement at the next tick. -/
def execWdgKey (i : Iface) (w : Fin 8) (key : Word) (s : State) : Host.Outcome State Fault Refusal := s.arrive (.wdgKey i w key) (runWdgKey i w key s)

/-- R510: A host write to WDG_CHECKIN is stamped as a task check-in. -/
def execWdgCheckin (i : Iface) (w : Fin 8) (bits : BitVec 16) (s : State) : Host.Outcome State Fault Refusal := s.arrive (.wdgCheckin i w bits) (runWdgCheckin i w bits s)

/-- R511: A host write to WDG_PERIOD_NEW is stamped and judged as a pending period. -/
def execWdgPeriodNew (i : Iface) (w : Fin 8) (p : BitVec 16) (s : State) : Host.Outcome State Fault Refusal := s.arrive (.wdgPeriodNew i w p) (runWdgPeriodNew i w p s)

/-- R513: The reset pulse ends, and a first period begins with the watchdog ACTIVE. -/
def execResetPulseEnd (w : Fin 8) (s : State) : Host.Outcome State Fault Refusal := s.arrive (.resetPulseEnd w) (runResetPulseEnd w s)

/-- R524: A flush trigger moves the buffered records into the MRAM ring and writes the pointers. -/
def execFlush (failAt : Option Nat) (s : State) : Host.Outcome State Fault Refusal := s.arrive (.flush failAt) (runFlush failAt s)

/-- R524: A write of 1 to REC_FLUSH triggers a flush. -/
def execRecFlush (i : Iface) (s : State) : Host.Outcome State Fault Refusal := s.arrive (.recFlush i) (runRecFlush i s)

/-- R531: A write to REC_RD_SEEK starts placing the interface cursor at a record. -/
def execRecordSeek (i : Iface) (k : Word) (s : State) : Host.Outcome State Fault Refusal := s.arrive (.recordSeek i k) (runRecordSeek i k s)

/-- R531: The seek finishes and REC_RD_BUSY clears. -/
def execSeekComplete (i : Iface) (s : State) : Host.Outcome State Fault Refusal := s.arrive (.seekComplete i) (runSeekComplete i s)

/-- R532: A read of REC_RD_DATA returns the word at the cursor and advances it. -/
def execRecordRead (i : Iface) (bad : Bool) (s : State) : Host.Outcome State Fault Refusal := s.arrive (.recordRead i bad) (runRecordRead i bad s)

/-- R533: A write to REC_ACK advances REC_SEQ_UNREAD. -/
def execRecordAck (i : Iface) (k : Word) (s : State) : Host.Outcome State Fault Refusal := s.arrive (.recordAck i k) (runRecordAck i k s)

/-- R534: A write of 1 to REC_FREEZE protects the unread records from flush discards. -/
def execFreezeBegin (i : Iface) (s : State) : Host.Outcome State Fault Refusal := s.arrive (.freezeBegin i) (runFreezeBegin i s)

/-- R535: A write of 0 to REC_FREEZE by the setting interface ends the freeze. -/
def execFreezeEnd (i : Iface) (s : State) : Host.Outcome State Fault Refusal := s.arrive (.freezeEnd i) (runFreezeEnd i s)

/-- R536: A write to REC_REM_SLOT sends a recorder read request to a member. -/
def execRemoteReadRequest (i : Iface) (sl : Fin 64) (s : State) : Host.Outcome State Fault Refusal := s.arrive (.remoteReadRequest i sl) (runRemoteReadRequest i sl s)

/-- R536: A read of REC_REM_DATA returns the next word of the remote receive buffer. -/
def execRemoteDataRead (i : Iface) (s : State) : Host.Outcome State Fault Refusal := s.arrive (.remoteDataRead i) (runRemoteDataRead i s)

/-- R537: A write to REC_CLR with a valid ticket empties the ring and writes a CLEAR record. -/
def execRecorderClear (i : Iface) (ticket : Word) (s : State) : Host.Outcome State Fault Refusal := s.arrive (.recorderClear i ticket) (runRecorderClear i ticket s)

/-- R546: PMBus PAGE selects or reports the paged rail. -/
def execPage (t : PmTx) (s : State) : Host.Outcome State Fault Refusal := s.arrive (.page t) (runPage t s)

/-- R546: PMBus OPERATION raises a P4 STATE ON/OFF request, or reads the on state. -/
def execOperation (t : PmTx) (s : State) : Host.Outcome State Fault Refusal := s.arrive (.operation t) (runOperation t s)

/-- R551: PMBus CLEAR_FAULTS clears the latched status bits whose condition has ended. -/
def execClearFaults (pec : Pec) (s : State) : Host.Outcome State Fault Refusal := s.arrive (.clearFaults pec) (runClearFaults pec s)

/-- R548: PMBus WRITE_PROTECT sets or reports the write protection level. -/
def execWriteProtect (t : PmTx) (s : State) : Host.Outcome State Fault Refusal := s.arrive (.writeProtect t) (runWriteProtect t s)

/-- R546: PMBus VOUT_COMMAND raises a P4 SETPOINT, or reads the committed set-point. -/
def execVoutCommand (t : PmTx) (s : State) : Host.Outcome State Fault Refusal := s.arrive (.voutCommand t) (runVoutCommand t s)

/-- R550: MFR_QREAD reads n words from ascending addresses, with their side effects. -/
def execMfrQread (addr : BitVec 24) (n : Nat) (fetched : Nat) (bad : List Bool) (s : State) : Host.Outcome State Fault Refusal := s.arrive (.mfrQread addr n fetched bad) (runMfrQread addr n fetched bad s)

/-- R550: MFR_QWRITE writes n words at STOP, with PIPE_REQ0 placed last. -/
def execMfrQwrite (addr : BitVec 24) (ws : List Word) (pec : Pec) (s : State) : Host.Outcome State Fault Refusal := s.arrive (.mfrQwrite addr ws pec) (runMfrQwrite addr ws pec s)

/-- R550: MFR_QFIFO reads n words from one address, with their side effects. -/
def execMfrQfifo (addr : BitVec 24) (n : Nat) (fetched : Nat) (bad : List Bool) (s : State) : Host.Outcome State Fault Refusal := s.arrive (.mfrQfifo addr n fetched bad) (runMfrQfifo addr n fetched bad s)

/-- R549: MFR_QREQ submits one 16-byte request. -/
def execMfrQreq (ws : List Word) (pec : Pec) (s : State) : Host.Outcome State Fault Refusal := s.arrive (.mfrQreq ws pec) (runMfrQreq ws pec s)

/-- R549: MFR_QENTRY returns the faceplate entry of the paged rail. -/
def execMfrQentry (eccErr : Bool) (s : State) : Host.Outcome State Fault Refusal := s.arrive (.mfrQentry eccErr) (runMfrQentry eccErr s)

/-- R547: An unsupported PMBus command is not acknowledged or reads 0xFF, and STATUS_CML is set. -/
def execInvalidCommand (isWrite : Bool) (s : State) : Host.Outcome State Fault Refusal := s.arrive (.invalidCommand isWrite) (runInvalidCommand isWrite s)

/-- R552: A read of the Alert Response Address returns the unit's address. -/
def execAlertResponse (arbWon : Bool) (s : State) : Host.Outcome State Fault Refusal := s.arrive (.alertResponse arbWon) (runAlertResponse arbWon s)

/-- R553: INT0_N goes low, and the unit sends Host Notify as bus controller. -/
def execHostNotify (ok : Bool) (s : State) : Host.Outcome State Fault Refusal := s.arrive (.hostNotify ok) (runHostNotify ok s)

/-- R553: After a failed Host Notify, a retry follows 1 ms later. -/
def execHostNotifyRetry (ok : Bool) (s : State) : Host.Outcome State Fault Refusal := s.arrive (.hostNotifyRetry ok) (runHostNotifyRetry ok s)

/-- R557: An SPI write frame is accepted at HSPI_CS_N rising and applies its words, or is rejected. -/
def execSpiWriteFrame (bytes : List Byte) (s : State) : Host.Outcome State Fault Refusal := s.arrive (.spiWriteFrame bytes) (runSpiWriteFrame bytes s)

/-- R625: A filtered GPIO level changes, feeding WAIT_INPUT steps and wake inputs. -/
def execGpioChange (n : Fin 32) (level : Bool) (s : State) : Host.Outcome State Fault Refusal := s.arrive (.gpioChange n level) (runGpioChange n level s)

/-- R620: The filtered motion input changes, and the motion entry commits its state. -/
def execMotionChange (moving : Bool) (pulses : Nat) (s : State) : Host.Outcome State Fault Refusal := s.arrive (.motionChange moving pulses) (runMotionChange moving pulses s)

/-- R572: OTP PROGRAM ORs data into a word and optionally seals it. -/
def execProgram (i : Iface) (w : Word) (s : State) : Host.Outcome State Fault Refusal := s.arrive (.program i w) (runProgram i w s)

/-- R572: OTP SEAL programs a word's check bits. -/
def execSealWord (i : Iface) (w : Word) (s : State) : Host.Outcome State Fault Refusal := s.arrive (.sealWord i w) (runSealWord i w s)

/-- R572: OTP LC_ADVANCE raises the lifecycle by one. -/
def execLcAdvance (i : Iface) (w : Word) (s : State) : Host.Outcome State Fault Refusal := s.arrive (.lcAdvance i w) (runLcAdvance i w s)

/-- R572: OTP REVOKE sets a key slot's revocation bit. -/
def execRevoke (i : Iface) (w : Word) (s : State) : Host.Outcome State Fault Refusal := s.arrive (.revoke i w) (runRevoke i w s)

/-- R572: OTP CTR_RAISE raises counter 1 to a value. -/
def execCtrRaise (i : Iface) (w : Word) (s : State) : Host.Outcome State Fault Refusal := s.arrive (.ctrRaise i w) (runCtrRaise i w s)

/-- R573: A programming pulse ends, the bit is read back and the next pulse or a failure follows. -/
def execOtpPulseDone (reads1 : Bool) (s : State) : Host.Outcome State Fault Refusal := s.arrive (.otpPulseDone reads1) (runOtpPulseDone reads1 s)

/-- R583: UPD_CMD 1 OPEN starts a staging session in LOADING. -/
def execOpenSession (src : Src) (s : State) : Host.Outcome State Fault Refusal := s.arrive (.openSession src) (runOpenSession src s)

/-- R586: UPD_CMD 2 VERIFY starts the checks of the staged package. -/
def execVerify (src : Src) (s : State) : Host.Outcome State Fault Refusal := s.arrive (.verify src) (runVerify src s)

/-- R587: The staging copy completes, and the state becomes READY. -/
def execCopyDone (fail : CopyFail) (s : State) : Host.Outcome State Fault Refusal := s.arrive (.copyDone fail) (runCopyDone fail s)

/-- R589: UPD_CMD 3 ACTIVATE decides activation and makes a warm start pending. -/
def execActivate (src : Src) (s : State) : Host.Outcome State Fault Refusal := s.arrive (.activate src) (runActivate src s)

/-- R583: UPD_CMD 4 ABORT returns the session to IDLE. -/
def execAbort (src : Src) (s : State) : Host.Outcome State Fault Refusal := s.arrive (.abort src) (runAbort src s)

/-- R591: UPD_CMD 5 LOCK sets UPD_LOCK under authorisation. -/
def execLock (i : Iface) (s : State) : Host.Outcome State Fault Refusal := s.arrive (.lock i) (runLock i s)

/-- R591: UPD_CMD 6 UNLOCK clears UPD_LOCK under authorisation. -/
def execUnlock (i : Iface) (s : State) : Host.Outcome State Fault Refusal := s.arrive (.unlock i) (runUnlock i s)

/-- R578: UPD_CMD 7 starts the check of an authorisation token. -/
def execTokenVerify (i : Iface) (s : State) : Host.Outcome State Fault Refusal := s.arrive (.tokenVerify i) (runTokenVerify i s)

/-- R578: The token check ends, arming the authorisation or failing it, and renews the nonce. -/
def execTokenCheckDone (i : Iface) (s : State) : Host.Outcome State Fault Refusal := s.arrive (.tokenCheckDone i) (runTokenCheckDone i s)

/-- R579: An armed authorisation expires after UPD_AUTH_T. -/
def execAuthExpire (i : Iface) (s : State) : Host.Outcome State Fault Refusal := s.arrive (.authExpire i) (runAuthExpire i s)

/-- R584: A write to UPD_BLK_IDX selects the block being loaded. -/
def execBlockIndex (i : Iface) (k : BitVec 9) (s : State) : Host.Outcome State Fault Refusal := s.arrive (.blockIndex i k) (runBlockIndex i k s)

/-- R584: A write to UPD_BLK_DATA appends a word of the block. -/
def execBlockData (i : Iface) (w : Word) (s : State) : Host.Outcome State Fault Refusal := s.arrive (.blockData i w) (runBlockData i w s)

/-- R584: A write to UPD_BLK_CRC stores the block or discards it with FS467. -/
def execBlockCrc (i : Iface) (crc : Word) (s : State) : Host.Outcome State Fault Refusal := s.arrive (.blockCrc i crc) (runBlockCrc i crc s)

/-- R584: A write to UPD_REM_SLOT sends OPEN, every block and VERIFY to a slot. -/
def execRemoteStage (i : Iface) (sl : Fin 64) (s : State) : Host.Outcome State Fault Refusal := s.arrive (.remoteStage i sl) (runRemoteStage i sl s)

/-- R585: A write of 3 to UPD_REM_CMD sends ACTIVATE to the slot. -/
def execRemoteActivate (i : Iface) (s : State) : Host.Outcome State Fault Refusal := s.arrive (.remoteActivate i) (runRemoteActivate i s)

/-- R585: A write of 4 to UPD_REM_CMD sends ABORT to the slot. -/
def execRemoteAbort (i : Iface) (s : State) : Host.Outcome State Fault Refusal := s.arrive (.remoteAbort i) (runRemoteAbort i s)

/-- R246: The keep-alive node crosses SEQ_KA_THR, which updates SEQ_KA_OK and declares power-fail when input loss is already declared. -/
def execKeepAliveCrossing (up : Bool) (mv : SupplyMv) (s : State) : Host.Outcome State Fault Refusal := s.arrive (.keepAliveCrossing up mv) (runKeepAliveCrossing up mv s)

/-- R248: VHOLD crosses SEQ_HOLD_THR, which updates GLB_AV_HOLDUP, SEQ_HOLD_OK and FS358 and lets a group held with SEQ_INWAIT resume. -/
def execVholdHoldCrossing (up : Bool) (s : State) : Host.Outcome State Fault Refusal := s.arrive (.vholdHoldCrossing up) (runVholdHoldCrossing up s)

/-- R449: The stage fault detector reports, and the charger latches off. -/
def execChargerStageFault (s : State) : Host.Outcome State Fault Refusal := s.arrive (.chargerStageFault) (runChargerStageFault s)

/-- R449: The pack stays below CHG_VUV for 100 ms, and FS425 asserts. -/
def execPackUndervoltage (s : State) : Host.Outcome State Fault Refusal := s.arrive (.packUndervoltage) (runPackUndervoltage s)

/-- R471: The rest current holds for GAU_REST_T, and a clean state-of-charge reference is taken. -/
def execCleanReference (s : State) : Host.Outcome State Fault Refusal := s.arrive (.cleanReference) (runCleanReference s)

/-- R473: GAU_REF_AGE reaches 72 h, and the gauge commits STALE. -/
def execReferenceStale (s : State) : Host.Outcome State Fault Refusal := s.arrive (.referenceStale) (runReferenceStale s)

/-- R478: A learning cycle runs GAU_LRN_TMAX days and ends without result. -/
def execLearningTimeout (s : State) : Host.Outcome State Fault Refusal := s.arrive (.learningTimeout) (runLearningTimeout s)

/-- R483: The pack current stays low for GAU_HIB_T, and the gauge commits HELD. -/
def execHibernationEnter (s : State) : Host.Outcome State Fault Refusal := s.arrive (.hibernationEnter) (runHibernationEnter s)

/-- R483: The current exceeds GAU_WAKE_I for 10 ms, and the gauge leaves HELD. -/
def execHibernationExit (s : State) : Host.Outcome State Fault Refusal := s.arrive (.hibernationExit) (runHibernationExit s)

/-- R485: Every 60 s, the gauge writes its persistent state to MRAM. -/
def execGaugeSave (s : State) : Host.Outcome State Fault Refusal := s.arrive (.gaugeSave) (runGaugeSave s)

/-- R498: At the oscillator edge after the request, the clock loads and RTC_OSF clears. -/
def execRtcLoad (s : State) : Host.Outcome State Fault Refusal := s.arrive (.rtcLoad) (runRtcLoad s)

/-- R535: REC_FRZ_MAX elapses, the freeze ends and REC_FRZ_LOST is set. -/
def execFreezeTimeout (s : State) : Host.Outcome State Fault Refusal := s.arrive (.freezeTimeout) (runFreezeTimeout s)

/-- R546: PMBus CAPABILITY returns 0xD0. -/
def execCapability (s : State) : Host.Outcome State Fault Refusal := s.arrive (.capability) (runCapability s)

/-- R546: PMBus VOUT_MODE returns 0x14. -/
def execVoutMode (s : State) : Host.Outcome State Fault Refusal := s.arrive (.voutMode) (runVoutMode s)

/-- R551: PMBus STATUS_BYTE returns the low byte of STATUS_WORD. -/
def execStatusByte (s : State) : Host.Outcome State Fault Refusal := s.arrive (.statusByte) (runStatusByte s)

/-- R551: PMBus STATUS_WORD returns the rail's status word. -/
def execStatusWord (s : State) : Host.Outcome State Fault Refusal := s.arrive (.statusWord) (runStatusWord s)

/-- R551: PMBus STATUS_VOUT returns the rail's output voltage status. -/
def execStatusVout (s : State) : Host.Outcome State Fault Refusal := s.arrive (.statusVout) (runStatusVout s)

/-- R551: PMBus STATUS_IOUT returns the rail's output current status. -/
def execStatusIout (s : State) : Host.Outcome State Fault Refusal := s.arrive (.statusIout) (runStatusIout s)

/-- R551: PMBus STATUS_CML returns the communication status. -/
def execStatusCml (s : State) : Host.Outcome State Fault Refusal := s.arrive (.statusCml) (runStatusCml s)

/-- R546: PMBus READ_VOUT returns RAIL_VAVG. -/
def execReadVout (s : State) : Host.Outcome State Fault Refusal := s.arrive (.readVout) (runReadVout s)

/-- R546: PMBus READ_IOUT returns RAIL_IAVG in LINEAR11. -/
def execReadIout (s : State) : Host.Outcome State Fault Refusal := s.arrive (.readIout) (runReadIout s)

/-- R546: PMBus READ_TEMPERATURE_1 returns the hottest stage or die temperature. -/
def execReadTemperature1 (s : State) : Host.Outcome State Fault Refusal := s.arrive (.readTemperature1) (runReadTemperature1 s)

/-- R546: PMBus PMBUS_REVISION returns 0x33. -/
def execPmbusRevision (s : State) : Host.Outcome State Fault Refusal := s.arrive (.pmbusRevision) (runPmbusRevision s)

/-- R546: PMBus MFR_ID returns QUOMUS. -/
def execMfrId (s : State) : Host.Outcome State Fault Refusal := s.arrive (.mfrId) (runMfrId s)

/-- R546: PMBus MFR_MODEL returns KV9840. -/
def execMfrModel (s : State) : Host.Outcome State Fault Refusal := s.arrive (.mfrModel) (runMfrModel s)

/-- R546: PMBus MFR_REVISION returns B1. -/
def execMfrRevision (s : State) : Host.Outcome State Fault Refusal := s.arrive (.mfrRevision) (runMfrRevision s)

/-- R549: MFR_QCPL removes and returns the oldest completion. -/
def execMfrQcpl (s : State) : Host.Outcome State Fault Refusal := s.arrive (.mfrQcpl) (runMfrQcpl s)

/-- R542: SCL or SDA is held low too long, and TWB0 abandons the transaction. -/
def execTwb0Timeout (s : State) : Host.Outcome State Fault Refusal := s.arrive (.twb0Timeout) (runTwb0Timeout s)

/-- R586: The verify checks complete, and the session moves to COPYING or back. -/
def execVerifyDone (s : State) : Host.Outcome State Fault Refusal := s.arrive (.verifyDone) (runVerifyDone s)

/-- R39: The motion input is not refreshed within its limit, and its entry moves from ACTIVE or CLEAR to STALE. -/
def execMotionRefreshLimit (s : State) : Host.Outcome State Fault Refusal := s.arrive (.motionRefreshLimit) (runMotionRefreshLimit s)

end Sys2Proof.Machine
end

