-- ==== Sys2Proof/Machine/Dispatch.lean ====
section
/-! DEFINITION. One arm for each command: the direct call of its meaning. -/

namespace Sys2Proof.Machine

/-- The effect of one command on everything but the queue. -/
def exec (i : Instr) (s : State) : Host.Outcome State Fault Refusal :=
  match i with
  | .vholdStart => Sys2Proof.Machine.execVholdStart s
  | .vholdBrownOut => Sys2Proof.Machine.execVholdBrownOut s
  | .sourceBrownOut src up => Sys2Proof.Machine.execSourceBrownOut src up s
  | .porstNLow => Sys2Proof.Machine.execPorstNLow s
  | .porstNRelease => Sys2Proof.Machine.execPorstNRelease s
  | .coldStart env => Sys2Proof.Machine.execColdStart env s
  | .recoveryColdStart => Sys2Proof.Machine.execRecoveryColdStart s
  | .warmStart w => Sys2Proof.Machine.execWarmStart w s
  | .parkEntry => Sys2Proof.Machine.execParkEntry s
  | .wake pllaLocked cals => Sys2Proof.Machine.execWake pllaLocked cals s
  | .wakeCommand io => Sys2Proof.Machine.execWakeCommand io s
  | .requestSubmit io w0 => Sys2Proof.Machine.execRequestSubmit io w0 s
  | .requestCapture p => Sys2Proof.Machine.execRequestCapture p s
  | .bundleMemberStage io w0 => Sys2Proof.Machine.execBundleMemberStage io w0 s
  | .bundleBufferTimeout io => Sys2Proof.Machine.execBundleBufferTimeout io s
  | .bundleBufferClear io => Sys2Proof.Machine.execBundleBufferClear io s
  | .shankOrder => Sys2Proof.Machine.execShankOrder s
  | .stitchIssue fast => Sys2Proof.Machine.execStitchIssue fast s
  | .tackConfirm slot seq => Sys2Proof.Machine.execTackConfirm slot seq s
  | .timeLimitExpiry slot => Sys2Proof.Machine.execTimeLimitExpiry slot s
  | .soleCommit => Sys2Proof.Machine.execSoleCommit s
  | .bundleCommit => Sys2Proof.Machine.execBundleCommit s
  | .epochTick => Sys2Proof.Machine.execEpochTick s
  | .catchUpComplete bad => Sys2Proof.Machine.execCatchUpComplete bad s
  | .recheckResubmit li => Sys2Proof.Machine.execRecheckResubmit li s
  | .envelopeCorrection li => Sys2Proof.Machine.execEnvelopeCorrection li s
  | .faceplateRead io word eccErr => Sys2Proof.Machine.execFaceplateRead io word eccErr s
  | .snapshotPinSet io => Sys2Proof.Machine.execSnapshotPinSet io s
  | .snapshotPinClear io => Sys2Proof.Machine.execSnapshotPinClear io s
  | .epochLowRead io k => Sys2Proof.Machine.execEpochLowRead io k s
  | .completionPop io => Sys2Proof.Machine.execCompletionPop io s
  | .peakClr => Sys2Proof.Machine.execPeakClr s
  | .cplLostClr io => Sys2Proof.Machine.execCplLostClr io s
  | .registerWrite io addr w => Sys2Proof.Machine.execRegisterWrite io addr w s
  | .stageFault p low => Sys2Proof.Machine.execStageFault p low s
  | .persistentCurrentLimit p limited => Sys2Proof.Machine.execPersistentCurrentLimit p limited s
  | .overloadEnd p => Sys2Proof.Machine.execOverloadEnd p s
  | .spareFirstPulse p => Sys2Proof.Machine.execSpareFirstPulse p s
  | .phaseLatch p => Sys2Proof.Machine.execPhaseLatch p s
  | .phaseImbalance p => Sys2Proof.Machine.execPhaseImbalance p s
  | .shedEvaluation r => Sys2Proof.Machine.execShedEvaluation r s
  | .loadLineEvaluation r => Sys2Proof.Machine.execLoadLineEvaluation r s
  | .railFirstPulse r vout => Sys2Proof.Machine.execRailFirstPulse r vout s
  | .shortDetect r vout limitedAt30 => Sys2Proof.Machine.execShortDetect r vout limitedAt30 s
  | .overvoltage r abs vout => Sys2Proof.Machine.execOvervoltage r abs vout s
  | .undervoltage r vout => Sys2Proof.Machine.execUndervoltage r vout s
  | .outputDischarged r => Sys2Proof.Machine.execOutputDischarged r s
  | .dischargeTimeout r => Sys2Proof.Machine.execDischargeTimeout r s
  | .powerGood r => Sys2Proof.Machine.execPowerGood r s
  | .powerGoodTimeout r => Sys2Proof.Machine.execPowerGoodTimeout r s
  | .telemetrySample r pins sense => Sys2Proof.Machine.execTelemetrySample r pins sense s
  | .railPkClr r => Sys2Proof.Machine.execRailPkClr r s
  | .railLsPkClr => Sys2Proof.Machine.execRailLsPkClr s
  | .inrushComplete sw => Sys2Proof.Machine.execInrushComplete sw s
  | .inrushTimeout sw => Sys2Proof.Machine.execInrushTimeout sw s
  | .switchShort sw => Sys2Proof.Machine.execSwitchShort sw s
  | .gateFault sw => Sys2Proof.Machine.execGateFault sw s
  | .i2tUpdate sw iMean dtUs => Sys2Proof.Machine.execI2tUpdate sw iMean dtUs s
  | .loopSample r inp => Sys2Proof.Machine.execLoopSample r inp s
  | .loopTrcArm b => Sys2Proof.Machine.execLoopTrcArm b s
  | .loopTrcForce b => Sys2Proof.Machine.execLoopTrcForce b s
  | .loopTrcStop b => Sys2Proof.Machine.execLoopTrcStop b s
  | .loopTrcGarm mask => Sys2Proof.Machine.execLoopTrcGarm mask s
  | .loopTrcGforce mask => Sys2Proof.Machine.execLoopTrcGforce mask s
  | .loopSatClr r => Sys2Proof.Machine.execLoopSatClr r s
  | .delayEnd g => Sys2Proof.Machine.execDelayEnd g s
  | .waitSatisfied g => Sys2Proof.Machine.execWaitSatisfied g s
  | .waitTimeout g => Sys2Proof.Machine.execWaitTimeout g s
  | .retryBegin g => Sys2Proof.Machine.execRetryBegin g s
  | .inputLost b mv => Sys2Proof.Machine.execInputLost b mv s
  | .inputReturn b => Sys2Proof.Machine.execInputReturn b s
  | .inputsStable => Sys2Proof.Machine.execInputsStable s
  | .resumeTimeout g => Sys2Proof.Machine.execResumeTimeout g s
  | .snapshotCommand io mv => Sys2Proof.Machine.execSnapshotCommand io mv s
  | .snapshotWritten => Sys2Proof.Machine.execSnapshotWritten s
  | .faultLineChange n asserted cause => Sys2Proof.Machine.execFaultLineChange n asserted cause s
  | .integrityLost n => Sys2Proof.Machine.execIntegrityLost n s
  | .lineTest n seen => Sys2Proof.Machine.execLineTest n seen s
  | .finLevel f lvl => Sys2Proof.Machine.execFinLevel f lvl s
  | .persistQualify n => Sys2Proof.Machine.execPersistQualify n s
  | .occurrenceExpire n => Sys2Proof.Machine.execOccurrenceExpire n s
  | .sourceEntryCommit n => Sys2Proof.Machine.execSourceEntryCommit n s
  | .latchSubmit li => Sys2Proof.Machine.execLatchSubmit li s
  | .failedRecovery li => Sys2Proof.Machine.execFailedRecovery li s
  | .fltFset k mask => Sys2Proof.Machine.execFltFset k mask s
  | .fltFclr k mask => Sys2Proof.Machine.execFltFclr k mask s
  | .fltSwSet mask => Sys2Proof.Machine.execFltSwSet mask s
  | .fltSwClr mask => Sys2Proof.Machine.execFltSwClr mask s
  | .fltFaultnRel => Sys2Proof.Machine.execFltFaultnRel s
  | .evtAck io k mask => Sys2Proof.Machine.execEvtAck io k mask s
  | .voteMismatch l => Sys2Proof.Machine.execVoteMismatch l s
  | .laneCheckerError l kind => Sys2Proof.Machine.execLaneCheckerError l kind s
  | .linkCopyCrcFail => Sys2Proof.Machine.execLinkCopyCrcFail s
  | .checkpoint agree joinOk => Sys2Proof.Machine.execCheckpoint agree joinOk s
  | .chuckHold three => Sys2Proof.Machine.execChuckHold three s
  | .holdCheckerStage reports len => Sys2Proof.Machine.execHoldCheckerStage reports len s
  | .holdReplayStage agree len => Sys2Proof.Machine.execHoldReplayStage agree len s
  | .holdSelfTestStage fails len => Sys2Proof.Machine.execHoldSelfTestStage fails len s
  | .reformSelfTestDone l ok => Sys2Proof.Machine.execReformSelfTestDone l ok s
  | .reformCopyDone l => Sys2Proof.Machine.execReformCopyDone l s
  | .crystalStop => Sys2Proof.Machine.execCrystalStop s
  | .pllLockLoss b => Sys2Proof.Machine.execPllLockLoss b s
  | .clockOutOfRange c => Sys2Proof.Machine.execClockOutOfRange c s
  | .x32Stop => Sys2Proof.Machine.execX32Stop s
  | .clockSwitchDone len => Sys2Proof.Machine.execClockSwitchDone len s
  | .pllReturn => Sys2Proof.Machine.execPllReturn s
  | .referenceDisagree k othersAgree => Sys2Proof.Machine.execReferenceDisagree k othersAgree s
  | .reverseCurrent b => Sys2Proof.Machine.execReverseCurrent b s
  | .idealDiodeReenable b => Sys2Proof.Machine.execIdealDiodeReenable b s
  | .vinOvervoltage b => Sys2Proof.Machine.execVinOvervoltage b s
  | .vinOvRelease b => Sys2Proof.Machine.execVinOvRelease b s
  | .idealDiodeGateFault b => Sys2Proof.Machine.execIdealDiodeGateFault b s
  | .supplyUndervoltage sup low => Sys2Proof.Machine.execSupplyUndervoltage sup low s
  | .laneHoldPkClr => Sys2Proof.Machine.execLaneHoldPkClr s
  | .eyeletLock e => Sys2Proof.Machine.execEyeletLock e s
  | .eyeletLockLoss e => Sys2Proof.Machine.execEyeletLockLoss e s
  | .helloTimeout e => Sys2Proof.Machine.execHelloTimeout e s
  | .helloSend e => Sys2Proof.Machine.execHelloSend e s
  | .hello e h arrival => Sys2Proof.Machine.execHello e h arrival s
  | .linkSend e => Sys2Proof.Machine.execLinkSend e s
  | .link e ack nak credits => Sys2Proof.Machine.execLink e ack nak credits s
  | .frameDiscard e => Sys2Proof.Machine.execFrameDiscard e s
  | .sequenceReject e => Sys2Proof.Machine.execSequenceReject e s
  | .resendTimeout e => Sys2Proof.Machine.execResendTimeout e s
  | .creditTimeout e cls => Sys2Proof.Machine.execCreditTimeout e cls s
  | .frameForward e f => Sys2Proof.Machine.execFrameForward e f s
  | .markerSend => Sys2Proof.Machine.execMarkerSend s
  | .epochMarker e m => Sys2Proof.Machine.execEpochMarker e m s
  | .parentLost => Sys2Proof.Machine.execParentLost s
  | .joinRequest => Sys2Proof.Machine.execJoinRequest s
  | .joinRetry => Sys2Proof.Machine.execJoinRetry s
  | .joinReq e src j epochLen hops => Sys2Proof.Machine.execJoinReq e src j epochLen hops s
  | .joinGrant e j => Sys2Proof.Machine.execJoinGrant e j s
  | .leave e uid => Sys2Proof.Machine.execLeave e uid s
  | .lost e slots => Sys2Proof.Machine.execLost e slots s
  | .op e dst ws otag => Sys2Proof.Machine.execOp e dst ws otag s
  | .cpl e ws otag => Sys2Proof.Machine.execCpl e ws otag s
  | .delta e src d => Sys2Proof.Machine.execDelta e src d s
  | .mirror e m => Sys2Proof.Machine.execMirror e m s
  | .bulk e src b => Sys2Proof.Machine.execBulk e src b s
  | .leaveCommand io => Sys2Proof.Machine.execLeaveCommand io s
  | .slotHoldExpire sl => Sys2Proof.Machine.execSlotHoldExpire sl s
  | .takeover => Sys2Proof.Machine.execTakeover s
  | .wakeSlotCommand io sl => Sys2Proof.Machine.execWakeSlotCommand io sl s
  | .laceWakeDetect => Sys2Proof.Machine.execLaceWakeDetect s
  | .energyTimeLimit => Sys2Proof.Machine.execEnergyTimeLimit s
  | .netCoverLoss => Sys2Proof.Machine.execNetCoverLoss s
  | .reverseModeFault overCurrent => Sys2Proof.Machine.execReverseModeFault overCurrent s
  | .foreignPoll d => Sys2Proof.Machine.execForeignPoll d s
  | .twb1TransactionDone d t => Sys2Proof.Machine.execTwb1TransactionDone d t s
  | .sliceCalibration ofs gain => Sys2Proof.Machine.execSliceCalibration ofs gain s
  | .conversionStep q => Sys2Proof.Machine.execConversionStep q s
  | .conversionResult q codes => Sys2Proof.Machine.execConversionResult q codes s
  | .resultQueuePop io => Sys2Proof.Machine.execResultQueuePop io s
  | .adcRqFlush => Sys2Proof.Machine.execAdcRqFlush s
  | .meteringResult m raw => Sys2Proof.Machine.execMeteringResult m raw s
  | .mtrZero m => Sys2Proof.Machine.execMtrZero m s
  | .mtrFullScale m => Sys2Proof.Machine.execMtrFullScale m s
  | .mtrRestore m => Sys2Proof.Machine.execMtrRestore m s
  | .parkedListRun q => Sys2Proof.Machine.execParkedListRun q s
  | .sensorRefresh n x => Sys2Proof.Machine.execSensorRefresh n x s
  | .zoneEvaluation z => Sys2Proof.Machine.execZoneEvaluation z s
  | .fastModeExit z => Sys2Proof.Machine.execFastModeExit z s
  | .rateOfRise => Sys2Proof.Machine.execRateOfRise s
  | .packConversion idMv ntc => Sys2Proof.Machine.execPackConversion idMv ntc s
  | .sourceSelect m => Sys2Proof.Machine.execSourceSelect m s
  | .sourceSwitchOn => Sys2Proof.Machine.execSourceSwitchOn s
  | .sourceOvervoltage net => Sys2Proof.Machine.execSourceOvervoltage net s
  | .chargeEvaluation vpack ivr => Sys2Proof.Machine.execChargeEvaluation vpack ivr s
  | .chargeTermination => Sys2Proof.Machine.execChargeTermination s
  | .rechargeStart => Sys2Proof.Machine.execRechargeStart s
  | .packOvervoltage => Sys2Proof.Machine.execPackOvervoltage s
  | .packOvertemp hot => Sys2Proof.Machine.execPackOvertemp hot s
  | .trackingStep pMean iOut => Sys2Proof.Machine.execTrackingStep pMean iOut s
  | .safetyTimerUpdate iActual => Sys2Proof.Machine.execSafetyTimerUpdate iActual s
  | .packRemoval => Sys2Proof.Machine.execPackRemoval s
  | .packInsertion idMv => Sys2Proof.Machine.execPackInsertion idMv s
  | .gaugeModelStep held60 => Sys2Proof.Machine.execGaugeModelStep held60 s
  | .gaugeEvaluation => Sys2Proof.Machine.execGaugeEvaluation s
  | .vbkupLow low => Sys2Proof.Machine.execVbkupLow low s
  | .rtcFracRead io => Sys2Proof.Machine.execRtcFracRead io s
  | .rtcSetGo io => Sys2Proof.Machine.execRtcSetGo io s
  | .rtcHaltWrite io v => Sys2Proof.Machine.execRtcHaltWrite io v s
  | .watchdogTick w => Sys2Proof.Machine.execWatchdogTick w s
  | .wdgKey io w key => Sys2Proof.Machine.execWdgKey io w key s
  | .wdgCheckin io w bits => Sys2Proof.Machine.execWdgCheckin io w bits s
  | .wdgPeriodNew io w p => Sys2Proof.Machine.execWdgPeriodNew io w p s
  | .resetPulseEnd w => Sys2Proof.Machine.execResetPulseEnd w s
  | .flush failAt => Sys2Proof.Machine.execFlush failAt s
  | .recFlush io => Sys2Proof.Machine.execRecFlush io s
  | .recordSeek io k => Sys2Proof.Machine.execRecordSeek io k s
  | .seekComplete io => Sys2Proof.Machine.execSeekComplete io s
  | .recordRead io bad => Sys2Proof.Machine.execRecordRead io bad s
  | .recordAck io k => Sys2Proof.Machine.execRecordAck io k s
  | .freezeBegin io => Sys2Proof.Machine.execFreezeBegin io s
  | .freezeEnd io => Sys2Proof.Machine.execFreezeEnd io s
  | .remoteReadRequest io sl => Sys2Proof.Machine.execRemoteReadRequest io sl s
  | .remoteDataRead io => Sys2Proof.Machine.execRemoteDataRead io s
  | .recorderClear io ticket => Sys2Proof.Machine.execRecorderClear io ticket s
  | .page t => Sys2Proof.Machine.execPage t s
  | .operation t => Sys2Proof.Machine.execOperation t s
  | .clearFaults pec => Sys2Proof.Machine.execClearFaults pec s
  | .writeProtect t => Sys2Proof.Machine.execWriteProtect t s
  | .voutCommand t => Sys2Proof.Machine.execVoutCommand t s
  | .mfrQread addr n fetched bad => Sys2Proof.Machine.execMfrQread addr n fetched bad s
  | .mfrQwrite addr ws pec => Sys2Proof.Machine.execMfrQwrite addr ws pec s
  | .mfrQfifo addr n fetched bad => Sys2Proof.Machine.execMfrQfifo addr n fetched bad s
  | .mfrQreq ws pec => Sys2Proof.Machine.execMfrQreq ws pec s
  | .mfrQentry eccErr => Sys2Proof.Machine.execMfrQentry eccErr s
  | .invalidCommand isWrite => Sys2Proof.Machine.execInvalidCommand isWrite s
  | .alertResponse arbWon => Sys2Proof.Machine.execAlertResponse arbWon s
  | .hostNotify ok => Sys2Proof.Machine.execHostNotify ok s
  | .hostNotifyRetry ok => Sys2Proof.Machine.execHostNotifyRetry ok s
  | .spiReadFrame bytes avail bad => Sys2Proof.Machine.execSpiReadFrame bytes avail bad s
  | .spiWriteFrame bytes => Sys2Proof.Machine.execSpiWriteFrame bytes s
  | .gpioChange n level => Sys2Proof.Machine.execGpioChange n level s
  | .motionChange moving pulses => Sys2Proof.Machine.execMotionChange moving pulses s
  | .program io w => Sys2Proof.Machine.execProgram io w s
  | .sealWord io w => Sys2Proof.Machine.execSealWord io w s
  | .lcAdvance io w => Sys2Proof.Machine.execLcAdvance io w s
  | .revoke io w => Sys2Proof.Machine.execRevoke io w s
  | .ctrRaise io w => Sys2Proof.Machine.execCtrRaise io w s
  | .otpPulseDone reads1 => Sys2Proof.Machine.execOtpPulseDone reads1 s
  | .openSession src => Sys2Proof.Machine.execOpenSession src s
  | .verify src => Sys2Proof.Machine.execVerify src s
  | .copyDone fail => Sys2Proof.Machine.execCopyDone fail s
  | .activate src => Sys2Proof.Machine.execActivate src s
  | .abort src => Sys2Proof.Machine.execAbort src s
  | .lock io => Sys2Proof.Machine.execLock io s
  | .unlock io => Sys2Proof.Machine.execUnlock io s
  | .tokenVerify io => Sys2Proof.Machine.execTokenVerify io s
  | .tokenCheckDone io => Sys2Proof.Machine.execTokenCheckDone io s
  | .authExpire io => Sys2Proof.Machine.execAuthExpire io s
  | .blockIndex io k => Sys2Proof.Machine.execBlockIndex io k s
  | .blockData io w => Sys2Proof.Machine.execBlockData io w s
  | .blockCrc io crc => Sys2Proof.Machine.execBlockCrc io crc s
  | .remoteStage io sl => Sys2Proof.Machine.execRemoteStage io sl s
  | .remoteActivate io => Sys2Proof.Machine.execRemoteActivate io s
  | .remoteAbort io => Sys2Proof.Machine.execRemoteAbort io s
  | .keepAliveCrossing up mv => Sys2Proof.Machine.execKeepAliveCrossing up mv s
  | .vholdHoldCrossing up => Sys2Proof.Machine.execVholdHoldCrossing up s
  | .pllRelock b => Sys2Proof.Machine.execPllRelock b s
  | .tapInstruction code => Sys2Proof.Machine.execTapInstruction code s
  | .chargerStageFault => Sys2Proof.Machine.execChargerStageFault s
  | .packUndervoltage => Sys2Proof.Machine.execPackUndervoltage s
  | .cleanReference => Sys2Proof.Machine.execCleanReference s
  | .referenceStale => Sys2Proof.Machine.execReferenceStale s
  | .learningTimeout => Sys2Proof.Machine.execLearningTimeout s
  | .hibernationEnter => Sys2Proof.Machine.execHibernationEnter s
  | .hibernationExit => Sys2Proof.Machine.execHibernationExit s
  | .gaugeSave => Sys2Proof.Machine.execGaugeSave s
  | .backupReset => Sys2Proof.Machine.execBackupReset s
  | .rtcIncrement => Sys2Proof.Machine.execRtcIncrement s
  | .oscillatorStopDetect => Sys2Proof.Machine.execOscillatorStopDetect s
  | .rtcLoad => Sys2Proof.Machine.execRtcLoad s
  | .freezeTimeout => Sys2Proof.Machine.execFreezeTimeout s
  | .capability => Sys2Proof.Machine.execCapability s
  | .voutMode => Sys2Proof.Machine.execVoutMode s
  | .statusByte => Sys2Proof.Machine.execStatusByte s
  | .statusWord => Sys2Proof.Machine.execStatusWord s
  | .statusVout => Sys2Proof.Machine.execStatusVout s
  | .statusIout => Sys2Proof.Machine.execStatusIout s
  | .statusCml => Sys2Proof.Machine.execStatusCml s
  | .readVout => Sys2Proof.Machine.execReadVout s
  | .readIout => Sys2Proof.Machine.execReadIout s
  | .readTemperature1 => Sys2Proof.Machine.execReadTemperature1 s
  | .pmbusRevision => Sys2Proof.Machine.execPmbusRevision s
  | .mfrId => Sys2Proof.Machine.execMfrId s
  | .mfrModel => Sys2Proof.Machine.execMfrModel s
  | .mfrRevision => Sys2Proof.Machine.execMfrRevision s
  | .mfrQcpl => Sys2Proof.Machine.execMfrQcpl s
  | .twb0Timeout => Sys2Proof.Machine.execTwb0Timeout s
  | .verifyDone => Sys2Proof.Machine.execVerifyDone s
  | .motionRefreshLimit => Sys2Proof.Machine.execMotionRefreshLimit s

end Sys2Proof.Machine
end

