-- ==== Sys2Proof/Safety.lean ====
section
/-! DEFINITION. What a safe run of the block is, in the terms that statements use. -/

namespace Sys2Proof.Machine

/-- A step goes on: it is neither a fault nor a refusal. -/
def goesOn (o : Host.Outcome State Fault Refusal) : Prop := ∃ t, o = .next t

/-- A state that steps n times without a fault or a refusal. -/
def runsFor : Nat → State → Prop
  | 0, _ => True
  | n + 1, s => ∃ t, step s = .next t ∧ runsFor n t

/-- Command c runs at s to a next state, and that state is as P says. -/
def runsTo (c : Instr) (s : State) (P : State → Prop) : Prop := ∃ t, exec c s = .next t ∧ P t

/-- The state apart from what the fault collector, the events and the requests that they make can change (R258 to R277, R341):
sources, events, FAULT_N, the pipeline and the ledger, the groups, recorder, trace flags, latched status bits, latch
sources and the noted wake condition are blanked. Two states with the same outside differ in those alone. -/
def State.outside (s : State) : State :=
  { s with srcs := [], evts := [], faultN := false, pipe := {}, led := {}, groups := [], recd := {}, traces := [], pol := [], host := { s.host with latched := [] }, glb := { s.glb with waking := none, parkPend := false, parkTick := false } }

/-- Nothing holds the lanes: no chuck hold, no clock switch, no warm start, and governing runs. -/
def State.lanesRun (s : State) : Prop := s.lane.hold = none ∧ s.lane.switching = false ∧ s.lane.govStop = false ∧ s.glb.warmBusy = false

/-- The lanes run and the block governs (R14, R38): the state in which a command has its own effect. -/
def State.ready (s : State) : Prop := s.lanesRun ∧ s.live = true

/-- A request waits at a port of Awl (R89). -/
def State.asks (s : State) (port : Nat) (r : Req) : Prop := (port, [r]) ∈ s.pipe.offers

/-- The transitions between modes that the table of R14 gives. -/
def legalMove : Mode → Mode → Bool
  | .cold, .cold => false
  | _, .cold => true
  | .cold, .held => false
  | .held, .held => false
  | _, .held => true
  | .cold, .starting => true
  | .held, .starting => true
  | .noImage, .starting => true
  | .starting, .run => true
  | .starting, .noImage => true
  | .run, .parked => true
  | .parked, .run => true
  | _, _ => false

/-- The commands that stand for the condition of a transition to mode m (R14). -/
def conditionOf (c : Instr) (m : Mode) : Bool :=
  match m, c with
  | .cold, .vholdBrownOut => true
  | .held, .porstNLow => true
  | .starting, .vholdStart => true
  | .starting, .porstNRelease => true
  | .starting, .recoveryColdStart => true
  | .run, .coldStart _ => true
  | .noImage, .coldStart _ => true
  | .parked, .parkEntry => true
  | .run, .wake _ _ => true
  | _, _ => false

/-- The commands of a warm start, a lane isolation and a lane re-form (R16). -/
def warmOrLane (c : Instr) : Bool :=
  match c with
  | .warmStart _ => true
  | .voteMismatch _ => true
  | .laneCheckerError _ _ => true
  | .checkpoint _ _ => true
  | .reformSelfTestDone _ _ => true
  | .reformCopyDone _ => true
  | .holdCheckerStage _ _ => true
  | .holdReplayStage _ _ => true
  | .holdSelfTestStage _ _ => true
  | _ => false

/-- While the block governs, the publication carries a lower number than the epoch under way (R46); else there is none. -/
def State.epochsOrdered (s : State) : Prop :=
  (s.live = true → s.led.pubEpoch < s.led.epoch) ∧ (s.live = false → s.led.pubEpoch = 0)

/-- The one-time memory and the image are listed in their canonical form. -/
def State.memoriesCanonical (s : State) : Prop := Tbl.wf ({} : OtpWord) s.otp.words = true ∧ Tbl.wf (0 : Word) s.img = true

/-- The sources that an event or an abandoned park entry pulses (R18, R266). -/
def pulsed (m : Nat) : Bool := m == 366 || (496 ≤ m && m ≤ 511)

end Sys2Proof.Machine
end

