-- ==== Sys2Proof/Certificates/Slice0/Obligations.lean ====
section
/-! DEFINITION. The statements for the provers: what the commands and the steps of the block do. -/

open Sys2Proof Sys2Proof.Machine Host

/-- A step takes the command at the front of the queue and is exec of it at the state with the queue's rest; with no
command waiting one core cycle passes, and outside a warm start nothing else changes (the model's own choice, assumption 15). -/
def Obligations.StepRunsTheFrontCommand : Prop := (∀ (s : State) (c : Instr) (rest : List Instr), s.pending = c :: rest → step s = exec c { s with pending := rest }) ∧
  (∀ s : State, s.pending = [] → step s = .next s.idle) ∧
  (∀ s : State, s.pending = [] → s.glb.warmBusy = false → step s = .next { s with cyc := s.cyc + 1 })

/-- R14, R317, R617 with the choices of assumptions 1 and 2: after reset the block is in COLD with nothing waiting: no
publication has been made, every endpoint reads ABSENT, no reset output is high, no source is asserted, every output
is off, no image bit is set; and the two invariants below hold there. -/
def Obligations.ResetIsColdAndEmpty : Prop := State.reset.glb.mode = .cold ∧ State.reset.pending = [] ∧ State.reset.live = false ∧
  (∀ li, State.reset.stored li = {} ∧ (State.reset.stored li).st = .absent) ∧
  (∀ n, (State.reset.src n).line = false ∧ (State.reset.src n).qual = false) ∧ State.reset.faultN = false ∧
  (∀ r, (State.reset.rail r).en = false ∧ State.reset.railEnPin r = .low) ∧ (∀ n, State.reset.gatePin n = .low) ∧
  (∀ n, State.reset.rstoPin n = .low) ∧ State.reset.statPins = 0 ∧ (∀ a, State.reset.img.get 0 a = 0) ∧
  State.reset.epochsOrdered ∧ State.reset.memoriesCanonical

/-- R16: a warm start, a lane isolation and a lane re-form do not change the mode: not the command that
begins a warm start, not its steps, which come while no command waits, not what isolates a lane (a vote, a checker, a chuck
hold's stages), not the steps of a re-form. The end of a hold or of a warm start may take a park entry or a wake out of the
boundary buffers: then the mode changes by that command (R14, R290). -/
def Obligations.WarmStartAndLanesKeepTheMode : Prop :=
  (∀ (s t : State) (c : Instr), warmOrLane c = true → exec c s = .next t →
    t.glb.mode = s.glb.mode ∨ ∃ x ∈ s.lane.boundary, conditionOf x.2 t.glb.mode = true) ∧
  (∀ s t : State, s.pending = [] → step s = .next t → t.glb.mode = s.glb.mode ∨ ∃ x ∈ s.lane.boundary, conditionOf x.2 t.glb.mode = true)

/-- R491: the backup domain's reset leaves the clock at 0, RTC_OSF and RTC_BOR at 1, the backup bytes and RTC_TRIM at 0
and both alarms disabled, and nothing else changes but the sources of the clock, unless the lanes stand (R290). -/
def Obligations.BackupDomainResets : Prop := ∀ s : State,
  runsTo .backupReset s fun t => t.rtc.time = 0 ∧ t.rtc.osf = true ∧ t.rtc.bor = true ∧ t.rtc.bkup = [] ∧ t.rtc.trim = 0 ∧
    t.rtc.almEn = 0 ∧ (s.stalled = false → t.outside = { s.outside with rtc := t.rtc, setAt := t.setAt }) ∧
    (s.stalled = false → s.live = false → t = { s with rtc := t.rtc, setAt := t.setAt })

/-- No command stops the block: every command, in every mode and at every state, goes on to a next state (R14, R91, R295
say what each of them does there). -/
def Obligations.EveryCommandGoesOn : Prop := ∀ (c : Instr) (s : State), goesOn (exec c s)

/-- R14: a step changes the mode only along the table of R14, and only the command that stands for the transition's
condition does so, be it the step's own or one that waited in the boundary buffers (R290). -/
def Obligations.ModesFollowTheTable : Prop := ∀ s t : State, step s = .next t → t.glb.mode ≠ s.glb.mode →
  legalMove s.glb.mode t.glb.mode = true ∧
  ((∃ c rest, s.pending = c :: rest ∧ conditionOf c t.glb.mode = true) ∨ ∃ x ∈ s.lane.boundary, conditionOf x.2 t.glb.mode = true)

/-- R565: programming turns bits from 0 to 1 alone: no step clears a data bit or a check bit of a one-time word. -/
def Obligations.OneTimeBitsStaySet : Prop := ∀ s t : State, step s = .next t → ∀ w,
  (s.otpWord w).data &&& (t.otpWord w).data = (s.otpWord w).data ∧ (s.otpWord w).chk &&& (t.otpWord w).chk = (s.otpWord w).chk

/-- R46, R47: every step keeps the epochs ordered: while the block governs, the publication carries a lower number than
the epoch under way, and at other times there is none; and from one governing state to the next neither number
decreases. -/
def Obligations.EpochNumbersNeverDecrease : Prop := ∀ s t : State, s.epochsOrdered → step s = .next t →
  t.epochsOrdered ∧ (s.live = true → t.live = true → s.led.epoch ≤ t.led.epoch ∧ s.led.pubEpoch ≤ t.led.pubEpoch)

/-- R5, R603, R610: while the block governs, its image changes with nothing but a warm start in progress for an activated
configuration, and then each word takes the new image's value or keeps its own. -/
def Obligations.ImageHoldsWhileGoverning : Prop := ∀ s t : State, s.live = true → step s = .next t → t.live = true → t.img ≠ s.img →
  s.glb.warmBusy = true ∧ s.glb.warmIs.getLsbD 0 = true ∧ s.pkgClass = 2 ∧ ∀ a, t.img.get 0 a = s.newImg.get 0 a ∨ t.img.get 0 a = s.img.get 0 a

/-- The one-time memory and the image keep their canonical form, keys rising and no entry at its unlisted value, in
every step (the model's form of memory, assumption 21); and no command touches the queue of waiting commands. -/
def Obligations.MemoriesStayCanonical : Prop := (∀ s t : State, s.memoriesCanonical → step s = .next t → t.memoriesCanonical) ∧
  (∀ (c : Instr) (s t : State), exec c s = .next t → t.pending = s.pending)

/-- R14, R314 to R319, R332: the thresholds, PORST_N and a recovery take the block to another mode. Whatever it held is
at its reset value there, but for MRAM, one-time memory, the update banks, the backup domain and the waiting
commands, and short of COLD for the stay on PLL B; in HELD no lane votes (R319). R14, R314, R318, R321: each of these conditions acts in the modes
of R14 alone; a source of VHOLD is noted; a boundary-scan instruction stays in force in HELD and NO_IMAGE and is BYPASS elsewhere, but for IDCODE
and SAMPLE/PRELOAD, which every mode carries out. -/
def Obligations.RestartsFollowTheConditions : Prop :=
  (∀ (s : State) (c : Instr) (m : Mode),
  (c = .vholdStart ∧ s.glb.mode = .cold ∧ s.glb.porstLow = false ∧ m = .starting) ∨ (c = .vholdBrownOut ∧ s.glb.mode ≠ .cold ∧ m = .cold) ∨
  (c = .porstNLow ∧ s.glb.mode ≠ .cold ∧ s.glb.mode ≠ .held ∧ m = .held) ∨ (c = .porstNRelease ∧ s.glb.mode = .held ∧ m = .starting) ∨
  (c = .recoveryColdStart ∧ s.glb.mode = .noImage ∧ s.glb.porstLow = false ∧ m = .starting) → runsTo c s fun t =>
    t.glb.mode = m ∧ t.img = [] ∧ t.led = {} ∧ t.pipe = {} ∧ t.rails = [] ∧ t.phases = [] ∧ t.switches = [] ∧ t.srcs = [] ∧ t.evts = [] ∧ t.faultN = false ∧
    t.groups = [] ∧ t.lace = {} ∧ t.lane.govStop = false ∧ t.lane.hold = none ∧ t.lane.vote = (if m = .held then 0 else 7) ∧ t.host = {} ∧
    t.pending = s.pending ∧ t.otp.words = s.otp.words ∧ t.mram = s.mram ∧ t.recd.ring = s.recd.ring ∧ t.recd.seqNext = s.recd.seqNext ∧
    t.upd.banks = s.upd.banks ∧ t.upd.lock = s.upd.lock ∧ (m ≠ .cold → t.lane.pllbPerm = s.lane.pllbPerm) ∧ t.rtc.sec = s.rtc.sec ∧ t.rtc.frac = s.rtc.frac ∧ t.rtc.osf = s.rtc.osf ∧
    (c = .recoveryColdStart → t.glb.recovCnt = satAdd 0xFFFF s.glb.recovCnt 1)) ∧
  (∀ s : State,
  (s.glb.mode ≠ .cold ∨ s.glb.porstLow = true → exec .vholdStart s = .next s) ∧ (s.glb.mode = .cold → exec .vholdBrownOut s = .next s) ∧
  (s.glb.mode = .cold ∨ s.glb.mode = .held → exec .porstNLow s = .next (s.modGlb fun g => { g with porstLow := true })) ∧
  (s.glb.mode ≠ .held → exec .porstNRelease s = .next (s.modGlb fun g => { g with porstLow := false })) ∧
  (s.glb.mode ≠ .noImage → exec .recoveryColdStart s = .next s) ∧
  (∀ (k : Fin 3) up, exec (.sourceBrownOut k up) s = .next (s.modLane fun x => { x with srcOk := mask3 x.srcOk k up })) ∧
  (∀ c, s.glb.mode = .held ∨ s.glb.mode = .noImage → exec (.tapInstruction c) s = .next (s.modGlb fun g => { g with tap := c })) ∧
  (∀ c, s.glb.mode ≠ .held → s.glb.mode ≠ .noImage → c ≠ .idcode → c ≠ .samplePreload → exec (.tapInstruction c) s = .next (s.modGlb fun g => { g with tap := .bypass })) ∧
  (∀ c, c = .idcode ∨ c = .samplePreload → exec (.tapInstruction c) s = .next (s.modGlb fun g => { g with tap := c })) ∧
  (∀ e, s.glb.mode ≠ .starting → exec (.coldStart e) s = .next s) ∧ (s.lanesRun → s.glb.parkPend = false → exec .parkEntry s = .next s) ∧
  (∀ w, s.glb.warmPend = 0 → exec (.warmStart w) s = .next s) ∧ (∀ a l, s.lanesRun → s.glb.mode ≠ .parked → exec (.wake a l) s = .next s))

/-- R322 to R328, R38, R47: a cold start halts at step 1 with no good ROM copy and at step 4 with fewer than two lanes,
ends in NO_IMAGE, on PLL B, when no copy passes (R331), and otherwise governs with that copy from the epoch above its watermark. -/
def Obligations.ColdStartsRun : Prop := ∀ (s : State) (e : StartEnv), s.glb.mode = .starting → s.glb.haltCause = 0 →
  (e.rom1 = false → e.rom2 = false → exec (.coldStart e) s = .next (s.modGlb fun g => { g with haltCause := 1, startStep := 1 })) ∧
  ((e.rom1 || e.rom2) = true → passes (selfTest e.bist) < 2 → runsTo (.coldStart e) s fun t => t.glb.mode = .starting ∧ t.glb.haltCause = 2 ∧ t.glb.startStep = 4 ∧
    t.glb.bistOk = selfTest e.bist ∧ t = { s with glb := t.glb }) ∧
  ((e.rom1 || e.rom2) = true → 2 ≤ passes (selfTest e.bist) → s.pickCopy e = none → runsTo (.coldStart e) s fun t => t.glb.mode = .noImage ∧ t.glb.haltCause = 3 ∧
    t.glb.startStep = stepsRead e ∧ t.lane = { s.lane with clkSrc := 1, xtalOk := e.xtal, pllaLock := e.xtal && e.pllA } ∧ t = { s with glb := t.glb, lane := t.lane }) ∧
  (∀ n l, (e.rom1 || e.rom2) = true → 2 ≤ passes (selfTest e.bist) → s.pickCopy e = some (n, l) → runsTo (.coldStart e) s fun t =>
    t.glb.mode = .run ∧ t.img = imgWords l ∧ t.led.epoch = s.mram.base.getD 0x800000000000 ∧ t.otp.words = s.otp.words ∧ t.pending = s.pending)

/-- R333 to R338, R590, R606, R610: a pending warm start begins once the tick of R333 has passed, and nothing happens to the outputs.
From then on arrivals wait in the boundary buffers and a tick is counted. Each core cycle without a command brings it on: step 3 switches
to the bank of an activated FIRMWARE package, step 4 takes the adopted sections of an activated CONFIG package, and they alone, from the new image,
step 5 agrees a checkpoint, step 6 ends it. A chuck hold before step 3 abandons it, and it stays pending; a later one makes it wait. -/
def Obligations.WarmStartsRun : Prop := ∀ s : State,
  (∀ w, s.glb.warmTick = true → s.glb.warmPend ≠ 0 → s.glb.mode = .run → s.lanesRun → exec (.warmStart w) s = .next (s.modGlb fun g =>
    { g with warmBusy := true, warmTick := false, warmPend := 0, warmIs := s.glb.warmPend, warmStage := 0, warmAt := s.cyc, warmFor := min 3750 w.len })) ∧
  (∀ r, s.glb.warmBusy = true → s.lane.govStop = false → exec (.powerGood r) s = .next (s.modLane fun x => { x with boundary := x.boundary ++ [(s.time, .powerGood r)] })) ∧
  (s.live = true → s.glb.warmBusy = true → s.lane.govStop = false → s.tickAt < s.glb.warmAt + s.glb.warmFor → exec .epochTick s =
    .next (s.modLane fun x => { x with tickHeld := x.tickHeld + 1 })) ∧
  (s.pending = [] → s.glb.warmBusy = true →
    (s.lane.held = true ∨ (s.glb.warmStage = 0 ∧ s.cyc + 1 < s.glb.warmAt + min 1500 s.glb.warmFor) ∨ (s.glb.warmStage = 1 ∧ s.cyc + 1 < s.glb.warmAt + min 2750 s.glb.warmFor) ∨
      (s.glb.warmStage = 2 ∧ s.cyc + 1 < s.glb.warmAt + min 3500 s.glb.warmFor) ∨ (s.glb.warmStage = 3 ∧ s.cyc + 1 < s.glb.warmAt + s.glb.warmFor ∧ s.glb.warmFor ≤ 3750)) →
    step s = .next { s with cyc := s.cyc + 1 }) ∧
  (s.pending = [] → s.glb.warmBusy = true → s.lane.held = false → s.lane.govStop = false → s.glb.warmFor = 3750 →
    (s.glb.warmStage = 0 → s.cyc + 1 = s.glb.warmAt + 1500 → ∃ t, step s = .next t ∧ t.upd.bank = (if s.warmActs 1 then !s.upd.bank else s.upd.bank) ∧
      t = { s with cyc := t.cyc, glb := { s.glb with warmStage := 1 }, upd := t.upd } ∧ t.cyc = s.cyc + 1) ∧
    (s.glb.warmStage = 1 → s.cyc + 1 = s.glb.warmAt + 2750 → ∃ t, step s = .next t ∧ t.glb.warmStage = 2 ∧ t.rails = s.rails ∧
      ∀ a, t.img.get 0 a = if s.warmActs 2 && s.adoptable.any (fun k => (sectionWords k).contains a) then s.newImg.get 0 a else s.img.get 0 a) ∧
    (s.glb.warmStage = 2 → s.cyc + 1 = s.glb.warmAt + 3500 → step s = .next ((({ s with cyc := s.cyc + 1 }).modLane fun x =>
      { x with undo := x.ckpt, ckpt := some (s.cyc + 1), agreed := some (s.cyc + 1) }).modGlb fun g => { g with warmStage := 3 })) ∧
    (s.glb.warmStage = 3 → s.cyc + 1 = s.glb.warmAt + 3750 → s.lane.tickHeld = 0 → s.lane.boundary = [] → s.glb.warmIs = 2 → s.glb.adoptSect.getLsbD 6 = false → ∃ t, step s = .next t ∧
      t.glb.warmBusy = false ∧ t.glb.warmCnt = satAdd 4095 s.glb.warmCnt 1 ∧ t.glb.warmLen = 3750 ∧ t.glb.mode = s.glb.mode ∧ t.img = s.img ∧ t.upd = s.upd ∧
      ∀ r, (t.rail r).en = (s.rail r).en ∧ (t.rail r).running = (s.rail r).running ∧ (t.rail r).acc = (s.rail r).acc ∧ (t.rail r).target = (s.rail r).target)) ∧
  (∀ three, s.live = true → s.lane.hold = none → s.lane.govStop = false → 3 ≤ s.voters.length → s.glb.warmBusy = true → runsTo (.chuckHold three) s fun t =>
    t.lane.hold = some .checker ∧ t.glb.warmTick = false ∧
    (s.glb.warmStage = 0 → t.glb.warmBusy = false ∧ t.glb.warmPend = s.glb.warmPend ||| s.glb.warmIs) ∧
    (s.glb.warmStage ≠ 0 → t.glb.warmBusy = true ∧ t.glb.warmPend = s.glb.warmPend))

/-- R14, R303, R340 to R344, R350: park entry waits for the groups and the rails to come to rest, moves the lanes to RC, turns the
eyelets off and slows the tick by ten; the source of each eyelet that was UP asserts (before PARKED, the model's choice, assumption 141). A noted
wake condition returns to RUN with its code, PLL A or B and the tick as before. -/
def Obligations.ParkedAndBack : Prop := ∀ s : State, s.lanesRun →
  (s.glb.parkPend = true → s.glb.parkTick = true → s.glb.mode = .run → s.mayPark = true → (∀ e, e < 4 → (s.eye e).st ≠ .up) → runsTo .parkEntry s fun t =>
    t.glb = { s.glb with mode := .parked, parkPend := false, parkTick := false, parkCnt := satAdd 0xFFFF s.glb.parkCnt 1, modeCyc := s.cyc, modeTime := s.time } ∧
    t.lane = { s.lane with clkSrc := if s.lane.rcOk then 2 else 3, pllaLock := false, pllbLock := false } ∧
    (∀ e, e < 4 → (t.eye e).st = .down) ∧ t.tickAt = s.cyc + (s.tickAt - s.cyc + 9) / 10 ∧
    t = { s with adc := t.adc, thm := t.thm, gau := t.gau, pipe := t.pipe, lace := t.lace, lane := t.lane, glb := t.glb, tickAt := t.tickAt }) ∧
  (s.glb.parkPend = true → s.glb.parkTick = true → s.glb.mode = .run → s.mayPark = true → runsTo .parkEntry s fun t =>
    t.glb.mode = .parked ∧ t.img = s.img ∧ t.rails = s.rails ∧ ∀ e, e < 4 → (t.eye e).st = .down ∧ (t.eye e).crc = (s.eye e).crc ∧ (t.eye e).retx = (s.eye e).retx ∧
      ((s.eye e).st = .up → (t.src (320 + 3 * e)).line = true)) ∧
  (s.mayPark = false → exec .parkEntry s = .next s) ∧
  (∀ a l code k, s.glb.mode = .parked → s.glb.waking = some (code, k) → runsTo (.wake a l) s fun t =>
    t.glb.mode = .run ∧ t.glb.wakeSrc = code ∧ t.lane.pllaLock = (a && s.lane.xtalOk) ∧ t.lane.pllbLock = true ∧
    t.lane.clkSrc = (if (a && s.lane.xtalOk) && !s.lane.pllbPerm then 0 else 1) ∧ t.tickAt = s.cyc + 10 * (s.tickAt - s.cyc) ∧
    t.lace.fullSet = (s.lace.mySlot != 0) ∧ (t.src 263).line = (!(a && s.lane.xtalOk)) ∧ t.img = s.img ∧ t.rails = s.rails) ∧
  (∀ a l, s.glb.waking = none → exec (.wake a l) s = .next s)

/-- R45 to R49, R291, R295, R363: a tick ends the epoch: the next one has the next number, or the one that the numbering is raised
to at this tick; the next tick lies one epoch length later. Inside a hold it waits and is counted; with governing stopped nothing is published. -/
def Obligations.TicksEndEpochs : Prop := ∀ s : State, s.live = true →
  (s.lane.govStop = true → exec .epochTick s = .next s) ∧
  (s.lane.govStop = false → (s.lane.hold ≠ none ∨ s.lane.switching = true) → exec .epochTick s = .next (s.modLane fun x => { x with tickHeld := x.tickHeld + 1 })) ∧
  (s.lanesRun → runsTo .epochTick s fun t => t.led.pubEpoch = s.tickNumber 0 ∧ t.led.epoch = t.led.pubEpoch + 1 ∧
    t.cyc = max s.cyc s.tickAt ∧ t.tickAt = s.tickAt + s.tickCycles ∧ t.glb.mode = s.glb.mode ∧ t.img = s.img ∧ t.otp.words = s.otp.words ∧ t.pending = s.pending)

/-- R86, R91, R116, R126, R559: a written request outside a bundle waits at its interface's port and sets the last tag,
or is refused with PIPE_REQ_REJ when no P4 entry is free; a bundle member is staged; clearing the buffer, by command
or after 10 ms, refuses every staged member as REFUSED_INTERLOCK. -/
def Obligations.HostRequestsEnter : Prop := ∀ (s : State) (i : Iface), s.ready →
  (∀ w0, (s.hostReq i w0).bnd = false → 1 ≤ s.p4Free → runsTo (.requestSubmit i w0) s fun t =>
    t.asks (ifacePort i) (s.hostReq i w0) ∧ (t.iface i).lastTag = (s.hostReq i w0).tag ∧ (t.iface i).reqRej = (s.iface i).reqRej ∧
    t.iface (Iface.other i) = s.iface (Iface.other i) ∧ t = { s with pipe := t.pipe, host := t.host }) ∧
  (∀ w0, (s.hostReq i w0).bnd = false → s.p4Free = 0 → runsTo (.requestSubmit i w0) s fun t =>
    (t.iface i).reqRej = true ∧ t.iface (Iface.other i) = s.iface (Iface.other i) ∧ t = { s with host := t.host }) ∧
  (∀ w0, (s.iface i).bndBuf = [] → (s.hostReq i w0).last = false → exec (.bundleMemberStage i w0) s =
    .next (s.modIface i fun x => { x with bndBuf := [{ s.hostReq i w0 with bnd := true }] })) ∧
  (∀ c, (c = .bundleBufferClear i ∨ c = .bundleBufferTimeout i) → (s.iface i).bndBuf ≠ [] → runsTo c s fun t =>
    (t.iface i).bndBuf = [] ∧ (t.iface i).reqRej = true ∧
    t.pipe.done.map (fun k => (k.ep, k.code)) = s.pipe.done.map (fun k => (k.ep, k.code)) ++ (s.iface i).bndBuf.map (fun r => (r.ep, .refusedInterlock)) ∧
    t.iface (Iface.other i) = s.iface (Iface.other i) ∧ t = { s with pipe := t.pipe, host := t.host })

/-- R89: Awl captures the oldest offer of a port into its class queue while there is room. R93, R94, R97: Shank stamps
the one waiting request and Welt decides: a refusal or an already reached state completes at once, an issued
operation waits at Stitch, whose path R122 fills at three. R98 to R100: Stitch gives the operation at the head of its path the lowest free Tack
slot. -/
def Obligations.RequestsMoveThroughThePipeline : Prop := ∀ s : State, s.flows = true →
  (∀ (p : Fin 8) r rest, s.pipe.offers = (p.val, [r]) :: rest → r.bnd = false → s.queueLen (portClass p) < Config.classDepth (portClass p) →
    runsTo (.requestCapture p) s fun t => t.queue (portClass p) = s.queue (portClass p) ++ [(s.cyc, [r])] ∧ t.pipe.offers = rest ∧
      (∀ c, c ≠ portClass p → t.queue c = s.queue c) ∧ t = { s with pipe := t.pipe }) ∧
  (∀ p : Fin 8, (∀ o ∈ s.pipe.offers, o.1 ≠ p.val) → exec (.requestCapture p) s = .next s) ∧
  (∀ k r s1, s.pipe.taking = [] → s.queue 4 = [(k, [r])] → (∀ c, c ≠ 4 → s.queue c = []) → r.bnd = false → r.cls = 4 → r.kind ≠ .clear →
    s.pathFull 4 = false → s1 = (s.setQueue 4 []).modPipe (fun p => { p with seqNo := s.pipe.seqNo + 1 }) →
    runsTo .shankOrder s fun t => t.pipe.seqNo = s.pipe.seqNo + 1 ∧ t.queue 4 = [] ∧ t = { s with pipe := t.pipe } ∧
      match s1.welt r [] false with
      | .refuse c => t.pipe.done.getLast?.map (fun x => (x.ep, x.code, x.tag, x.seq)) = some (r.ep, c, r.tag, s.pipe.seqNo) ∧ t.pipe.normQ = s.pipe.normQ
      | .noop => t.pipe.done.getLast?.map (fun x => (x.ep, x.code, x.tag, x.seq)) = some (r.ep, .applied, r.tag, s.pipe.seqNo) ∧ t.pipe.normQ = s.pipe.normQ
      | .issue v cl rc links => t.pipe.done = s.pipe.done ∧
          t.pipe.normQ = s.pipe.normQ ++ [{ req := r, seq := s.pipe.seqNo, epoch := s.led.epoch, val := v, clamped := cl, recheck := rc, links := links }]) ∧
  (s.pipe.taking = [] → (∀ c, s.queue c = []) → exec .shankOrder s = .next s) ∧
  (∀ k r, s.pipe.taking = [] → s.queue 4 = [(k, [r])] → (∀ c, c ≠ 4 → s.queue c = []) → r.cls = 4 → 3 ≤ s.pipe.normQ.length → exec .shankOrder s = .next s) ∧
  (∀ k o rest, s.pipe.normQ = o :: rest → s.freeSlot = some k → s.tackNormal < Config.tackNormal → 2 ≤ o.req.cls → o.bundle = none →
    slotOf o.req.ep = 0 → o.req.kind = .limit → runsTo (.stitchIssue false) s fun t =>
    t.slotAt k = some { op := o, issued := s.pipe.issueNo } ∧ t.pipe.normQ = rest ∧ t.pipe.fastQ = s.pipe.fastQ ∧ t = { s with pipe := t.pipe }) ∧
  (s.pipe.normQ = [] → exec (.stitchIssue false) s = .next s) ∧ (s.pipe.fastQ = [] → exec (.stitchIssue true) s = .next s)

/-- R103, R104, R107: a confirmation of an operation that is not in its slot is counted in PIPE_LATE_CNT; a matching one makes
the operation's commit wait at Sole, but not one that another unit carries out. R106: an operation whose time limit expires completes TIMEOUT and frees its
slot. -/
def Obligations.OperationsConfirmOrTimeOut : Prop := ∀ (s : State) (k : Fin 1024), s.lanesRun →
  (∀ seq, (∀ x, s.slotAt k = some x → x.op.seq ≠ seq) →
    exec (.tackConfirm k seq) s = .next (s.modPipe fun p => { p with lateCnt := p.lateCnt + 1, expired := p.expired.filter fun o => o.seq != seq })) ∧
  (∀ x, s.slotAt k = some x → x.confirmed = false → s.commitWaits k = false → x.replacedBy = none → x.op.bundle = none →
    slotOf x.op.req.ep = 0 → x.op.req.kind = .limit → runsTo (.tackConfirm k x.op.seq) s fun t =>
    t.slotAt k = some { x with confirmed := true } ∧
    t.pipe.soleQ = s.pipe.soleQ ++ [{ op := x.op, link := none, final := true, slot := some k.val, cyc := s.cyc }] ∧
    (∀ j, j ≠ k.val → t.slotAt j = s.slotAt j) ∧ t = { s with pipe := t.pipe }) ∧
  (∀ x, s.slotAt k = some x → slotOf x.op.req.ep ≠ 0 → exec (.tackConfirm k x.op.seq) s = .next s) ∧
  (s.slotAt k = none → exec (.timeLimitExpiry k) s = .next s) ∧
  (∀ x, s.slotAt k = some x → x.confirmed = true → exec (.timeLimitExpiry k) s = .next s) ∧
  (∀ x, s.slotAt k = some x → x.confirmed = false → s.commitWaits k = false → x.op.bundle = none →
    (∀ y ∈ s.inFlight, y.2.replacedBy ≠ some x.op.seq) → runsTo (.timeLimitExpiry k) s fun t => t.slotAt k = none ∧
    t.pipe.done.getLast?.map (fun c => (c.ep, c.code, c.seq)) = some (x.op.req.ep, .timeout, x.op.seq) ∧
    t.pipe.done.length = s.pipe.done.length + 1 ∧ (∀ j, j ≠ k.val → t.slotAt j = s.slotAt j) ∧ t = { s with pipe := t.pipe })

/-- R31, R102, R111: Sole writes the waiting commit of a publication: the entry takes the value, this epoch and the
writer, and the request completes APPLIED in the same epoch. R119: a bundle whose member is confirmed commits its
final value, loses IN_BUNDLE and completes. Each writes the commit that stands next, or the oldest bundle that is ready, once nothing
of it has to wait. With nothing to write neither changes anything. R109: past the limit of the
epoch a commit waits and is counted once. -/
def Obligations.CommitsWriteTheLedger : Prop := ∀ s : State, s.flows = true →
  (s.pipe.soleQ = [] → exec .soleCommit s = .next s) ∧ (s.pipe.bundles = [] → exec .bundleCommit s = .next s) ∧
  (∀ c, s.nextCommit = some c → (∀ x ∈ s.pipe.soleQ, s.mayCommit x = true ∨ x.deferred = true) → exec .soleCommit s = .next (s.soleWrite c)) ∧
  (∀ b x, s.pipe.bundles = [(b, some x)] → s.bundleReady b x = true → s.cyc + 16 ≤ s.tickAt → s.led.cmtNow + x.members.length ≤ 3840 →
    (s.bundleWrite b x).led.late.length = s.led.late.length → exec .bundleCommit s = .next (s.bundleWrite b x)) ∧
  (∀ b x, s.pipe.bundles = [(b, some x)] → s.bundleReady b x = true → s.tickAt < s.cyc + 16 → exec .bundleCommit s = .next s) ∧
  (∀ c, s.pipe.soleQ = [c] → 2 ≤ c.op.req.cls → c.op.comp = false → c.deferred = false → 3840 ≤ s.led.cmtNow → exec .soleCommit s =
    .next (s.modPipe fun p => { p with deferCnt := p.deferCnt + 1, soleQ := [{ c with deferred := true }] })) ∧
  (∀ o, s.pipe.soleQ = [{ op := o, final := true }] → s.pipe.tack = [] → s.pipe.rechecks = [] → o.req.kind = .publish → o.req.cls = 5 → o.clamped = false → o.recheck = false →
    o.bundle = none → o.req.ep < 2048 → s.led.cmtNow < 3840 → (s.stored o.req.ep).st = .valid → s.led.presOf o.req.ep = .present →
    isReadingType (s.stored o.req.ep).ty = true → o.req.val2.getLsbD 0 = true → runsTo .soleCommit s fun t =>
      (t.stored o.req.ep).val = o.val ∧ (t.stored o.req.ep).st = .valid ∧ (t.stored o.req.ep).epoch = s.led.epoch ∧
      (t.stored o.req.ep).writer = writerOf 5 o.req.reqr ∧ (∀ id, id ≠ o.req.ep → t.stored id = s.stored id) ∧
      t.led.cmtNow = s.led.cmtNow + 1 ∧ t.pipe.soleQ = [] ∧
      t.pipe.done.getLast?.map (fun c => (c.ep, c.code, c.val, c.epoch)) = some (o.req.ep, .applied, o.val, s.led.epoch) ∧
      t = { s with led := t.led, pipe := t.pipe }) ∧
  (∀ b k o, s.pipe.bundles = [(b, some { seqs := [o.seq], confirmed := [o.seq], members := [o], passed := true })] →
    s.pipe.tack = [(k, some { op := o, confirmed := true })] → s.pipe.soleQ = [] → s.pipe.rechecks = [] → o.bundle = some b → o.noop = false → o.comp = false →
    o.recheck = false → o.req.kind = .setpoint → o.req.cls = 4 → o.req.prot = none → o.req.ep < 2048 → (∀ r, kindOf o.req.ep ≠ .rail r) →
    (s.stored o.req.ep).st ≠ .absent → s.cyc + 16 ≤ s.tickAt → s.led.cmtNow < 3840 → runsTo .bundleCommit s fun t =>
      (t.stored o.req.ep).val = o.val ∧ (t.stored o.req.ep).flag fINBUNDLE = false ∧ (t.stored o.req.ep).epoch = s.led.epoch ∧
      (∀ id, id ≠ o.req.ep → t.stored id = s.stored id) ∧ t.pipe.bundles = [] ∧ t.pipe.tack = [] ∧
      t.pipe.done.getLast?.map (fun c => (c.ep, c.code, c.val)) = some (o.req.ep, if o.clamped then .clamped else .applied, o.val) ∧
      t = { s with led := t.led, pipe := t.pipe })

/-- R51, R54, R57, R61, R64, R79, R80, R114, R126: faceplate reads latch the whole entry, pins hold the snapshot for one
interface, the completion FIFO is popped oldest first, counters and peaks are cleared by command, a clamped request
is raised again when its protection has released, and a rail whose set-point lies outside its envelope gets one
operation that brings it back. -/
def Obligations.LedgerAndCompletionReads : Prop := ∀ (s : State) (i : Iface), s.lanesRun →
  (∀ (word : Fin 524288) ws, s.live = true → (s.iface i).entryLatch = none → ws = (s.fpEntry (word.val / 4)).words →
    exec (.faceplateRead i word false) s = .next (s.modIface i fun x => { x with entryLatch := some (word.val / 4, [ws.w0, ws.w1, ws.w2, ws.w3]), reply := [Words4.get ws (word.val % 4)] }) ∧
    exec (.faceplateRead i word true) s = .next ((s.modIface i fun x => { x with entryLatch := some (word.val / 4, [ws.w0, ws.w1, ws.w2, ws.w3]) }).eccRead.modIface i fun x => { x with reply := [Words4.get ws (word.val % 4)] })) ∧
  (∀ (word : Fin 524288) w1 w2 w3 w0, s.live = true → (s.iface i).entryLatch = some (word.val / 4, [w0, w1, w2, w3]) → word.val % 4 = 2 →
    ∀ e, exec (.faceplateRead i word e) s = .next (s.modIface i fun x => { x with reply := [w2] })) ∧
  (s.live = true → s.led.pinned = false → exec (.snapshotPinSet i) s =
    .next (s.modLed fun l => { l with pinned := true, pinIf := i, pinLost := false, pinRelReq := false, snapEpoch := l.fpEpoch, pinCyc := s.time })) ∧
  (s.led.pinned = true → exec (.snapshotPinSet i) s = .next s) ∧
  (s.live = true → s.led.pinned = true → s.led.pinIf = i → exec (.snapshotPinClear i) s = .next (s.modLed fun l => { l with pinRelReq := true })) ∧
  (s.led.pinIf ≠ i → exec (.snapshotPinClear i) s = .next s) ∧
  (∀ k : Fin 3, exec (.epochLowRead i k) s = .next (s.modIface i fun x => { x with epochHigh := x.epochHigh.set 0 k (s.epochReg k / 2 ^ 32 % 65536), reply := [wordOf (s.epochReg k)] })) ∧
  (∀ c rest, (s.iface i).cplFifo = c :: rest → exec (.completionPop i) s =
    .next (s.modIface i fun x => { x with cplFifo := rest, cplLatch := [c.words.w0, c.words.w1, c.words.w2, c.words.w3], reply := [c.words.w0] })) ∧
  ((s.iface i).cplFifo = [] → exec (.completionPop i) s = .next (s.modIface i fun x => { x with reply := [0] })) ∧
  (s.live = true → exec .peakClr s = .next ((s.modPipe fun p => { p with tackPeak := s.tackUsed }).modLed fun l => { l with cmtPeak := 0 })) ∧
  (s.live = true → exec (.cplLostClr i) s = .next (s.modIface i fun x => { x with cplLost := 0 })) ∧
  (s.led.catchUp = true → s.flows = true → exec (.catchUpComplete false) s = .next (s.modLed fun l => { l with catchUp := false, catchUpLen := 0, journal := l.journal.drop l.catchUpLen }) ∧
    exec (.catchUpComplete true) s = .next (((s.modLed fun l => { l with catchUp := false, catchUpLen := 0, journal := l.journal.drop l.catchUpLen }).pulseSrc 273 0).raiseEvt 219 (reqrSource 273))) ∧
  (∀ (li : Fin 2048) x, s.pipe.rechecks = [(true, x)] → x.ep = li.val → runsTo (.recheckResubmit li) s fun t =>
    t.pipe.rechecks = [] ∧ t.asks (portOf x) x ∧ t.led = s.led ∧ t.outside = s.outside) ∧
  (∀ (r : Fin 40) (li : Fin 2048), li.val = r.val → 24 ≤ r.val → s.pipe.corrections.contains li.val = true → (s.envOf li).1 ≤ (s.envOf li).2 →
    (s.stored li).val.toInt < (s.envOf li).1 → runsTo (.envelopeCorrection li) s fun t =>
    t.asks 6 { ep := li, kind := .setpoint, val := BitVec.ofInt 32 (s.envOf li).1, cls := 5, reqr := 0x20 } ∧
    t.pipe.corrections = s.pipe.corrections.filter (· ≠ li.val) ∧ t = { s with pipe := t.pipe })

/-- R132, R142: a stage fault drives a phase that is ON to mid and asserts its source. R140, R144: a persistent current
limit drives the phase to mid and asserts FS(2p + 1); R141: with half of the rail's phases limited it is an
overload: the phase keeps running and the rail is asked for DERATED under PROT_ACTIVE. The overload's end asks for
ON. R136: an imbalance raises EV000 + p. R145: a FAILED phase is asked for LATCHED_OFF. -/
def Obligations.PhaseFaultsAct : Prop := ∀ (s : State) (p : Fin 48), s.ready → s.imb Img.phUsed p = true →
  (∀ low, runsTo (.stageFault p low) s fun t =>
    t.phase p = { s.phase p with tfault := true, mid := (s.phase p).mid || s.st (liPhase p) == .on } ∧ (t.src (2 * p)).line = true ∧
    (∀ q, q ≠ p.val → t.phase q = s.phase q) ∧ t.outside = { s.outside with phases := t.phases }) ∧
  (∀ n, s.st (liPhase p) = .on → s.asserted (2 * p + 1) = false → s.overloadNow (s.phaseRail p) n = false →
    runsTo (.persistentCurrentLimit p n) s fun t =>
    t.phase p = { s.phase p with clNow := true, limNow := true, mid := true } ∧
    (t.src (2 * p + 1)).line = true ∧ (t.rail (s.phaseRail p)).clNow = true ∧ (∀ q, q ≠ p.val → t.phase q = s.phase q) ∧
    t.outside = { s.outside with phases := t.phases, rails := t.rails }) ∧
  (∀ n, s.st (liPhase p) = .on → s.asserted (2 * p + 1) = false → s.overloadNow (s.phaseRail p) n = true → s.phaseRail p < 40 →
    (s.rail (s.phaseRail p)).overload = none → (s.seenSt (s.phaseRail p)).running = true → s.st (s.phaseRail p) = .on → runsTo (.persistentCurrentLimit p n) s fun t =>
    (t.phase p).mid = (s.phase p).mid ∧ (t.rail (s.phaseRail p)).overload = some (2 * p + 1) ∧
    t.asks 0 { stateReq (s.phaseRail p) .derated 0 (reqrSource (2 * p + 1)) with prot := some true } ∧
    t.outside = { s.outside with phases := t.phases, rails := t.rails }) ∧
  (∀ n, (s.rail (s.phaseRail p)).overload = some n → s.st (s.phaseRail p) ≠ .derated ∨ s.limitBelow (s.phaseRail p) (s.policy (s.phaseRail p)).limit = false → runsTo (.overloadEnd p) s fun t =>
    (t.rail (s.phaseRail p)).overload = none ∧ t.asks 1 { stateReq (s.phaseRail p) .on 1 (reqrSource n) with prot := some false } ∧
    (∀ q ∈ s.railPhases (s.phaseRail p), (t.phase q).clNow = false) ∧ t = { s with phases := t.phases, rails := t.rails, pipe := t.pipe }) ∧
  (s.st (liPhase p) = .on → s.im Img.railImbPct (s.phaseRail p) ≠ 0 → s.evtUsed p = true → runsTo (.phaseImbalance p) s fun t =>
    t.asks 1 (stateReq (liEvent p) .active 1 0x21) ∧ t.outside = s.outside) ∧
  (s.st (liPhase p) = .failed → runsTo (.phaseLatch p) s fun t =>
    t.asks 1 (stateReq (liPhase p) .latchedOff 1 (writerReqr (s.policy (liPhase p)).failWriter)) ∧ t = { s with pipe := t.pipe })

/-- R149, R150: at the phase limit the shedding loop asks for every phase the envelope allows, and counts its dwells.
R201: the load line asks for the set-point that its droop gives when it lies RAIL_LL_DB or more off. R148: the
spare's first pulse confirms the substitution that named it. -/
def Obligations.PhaseCountAndLoadLine : Prop := ∀ s : State, s.ready →
  (∀ r : Fin 24, (s.seenSt r).running = true → (s.loop r).frozen = false → (s.rail r).clEval = true → (s.phasesSeen r).length < (s.phEnvOf r).2 →
    runsTo (.shedEvaluation r) s fun t =>
    t.asks 6 { ep := r, kind := .phases, val := BitVec.ofNat 32 (s.phEnvOf r).2, cls := 5, reqr := 0x21 } ∧
    (∀ q, q ≠ r.val → t.rail q = s.rail q) ∧ t = { s with rails := t.rails, pipe := t.pipe }) ∧
  (∀ (r : Fin 32) i, (s.seenSt r).running = true → i = (s.rail r).sum10 → s.im Img.loopLlUohm r ≠ 0 → (s.loop (64 + r)).frozen = false →
    (s.im Img.loopLlDb r : Int) ≤ (loadLine (s.vnomOf r) (s.im Img.loopLlUohm r) i - (s.seen r).val.toInt).natAbs →
    runsTo (.loadLineEvaluation r) s fun t =>
    t.asks 6 { ep := r, kind := .setpoint, val := BitVec.ofInt 32 (loadLine (s.vnomOf r) (s.im Img.loopLlUohm r) i), cls := 5, reqr := 0x25 } ∧
    t = { s with pipe := t.pipe }) ∧
  (∀ (p : Fin 48) k x, s.pipe.tack = [(k, some x)] → x.op.req.kind = .substitute → bitsOf x.op.val.toNat 10 0 = liPhase p →
    x.confirmed = false → x.replacedBy = none → x.op.bundle = none → slotOf x.op.req.ep = 0 → s.pipe.soleQ = [] → runsTo (.spareFirstPulse p) s fun t =>
    t.slotAt k = some { x with confirmed := true } ∧ t.pipe.soleQ = [{ op := x.op, link := none, final := true, slot := some k, cyc := s.cyc }] ∧
    t.phase p = { s.phase p with mid := false } ∧ (∀ q, q ≠ p.val → t.phase q = s.phase q) ∧ t = { s with phases := t.phases, pipe := t.pipe })

/-- R155 to R163, R234, R235: what a rail's comparators do where their test holds, and that they do nothing elsewhere: the
flag they set, the source they assert with its cause, the phases they drive to mid; in one core cycle the action of an
over-voltage stands before a short's (R161). R152, R153, R203: the first pulse of a started rail begins its ramp at the
output, with the low sides held off while that is above the reference, and clears the Lathe's histories. R130, R167,
R168: a telemetry sample enters both streams and the phases' currents; the peaks follow unless the rail is OFF, and are
cleared by command; a sample of the same core cycle loads them after the clear. -/
def Obligations.RailsCompareStartAndReport : Prop :=
  (∀ (s : State) (r : Fin 40), s.ready →
  (∀ v lim, s.shorted r v lim = true → (s.rail r).hwCyc ≠ some (s.cyc, true) ∨ s.imb Img.railOvAct r = true → runsTo (.shortDetect r v lim) s fun t =>
    t.rail r = { s.rail r with short := true, disch := !(s.rail r).discharged, hwCyc := some (s.cyc, false) } ∧ (t.src (96 + 2 * r)).line = true ∧
    (∀ p ∈ s.railPhases r, (t.phase p).mid = true) ∧ (∀ q, q ≠ r.val → t.rail q = s.rail q) ∧
    t.outside = { s.outside with rails := t.rails, phases := t.phases }) ∧
  (∀ v lim, s.shorted r v lim = true → (s.rail r).hwCyc = some (s.cyc, true) → s.imb Img.railOvAct r = false → runsTo (.shortDetect r v lim) s fun t =>
    t.rail r = { s.rail r with short := true } ∧ (t.src (96 + 2 * r)).line = true ∧ (∀ p ∈ s.railPhases r, (t.phase p).mid = true)) ∧
  (∀ v lim, s.shorted r v lim = false → exec (.shortDetect r v lim) s = .next s) ∧
  (∀ v a, s.overVolt r v a = true → runsTo (.overvoltage r a v) s fun t =>
    t.rail r = { s.rail r with ovHw := true, disch := s.imb Img.railOvAct r, hwCyc := some (s.cyc, true) } ∧
    (t.src (97 + 2 * r)).line = true ∧ (s.imb Img.railOvAct r = false → ∀ p ∈ s.railPhases r, (t.phase p).mid = true) ∧
    (∀ q, q ≠ r.val → t.rail q = s.rail q) ∧ t.outside = { s.outside with rails := t.rails, phases := t.phases }) ∧
  (∀ v a, s.overVolt r v a = false → exec (.overvoltage r a v) s = .next s) ∧
  (∀ v, s.underVolt r v = true → runsTo (.undervoltage r v) s fun t => (t.src (96 + 2 * r)).line = true ∧ t.outside = s.outside) ∧
  (∀ v, s.underVolt r v = false → exec (.undervoltage r v) s = .next s) ∧
  (s.st r = .stopping → (s.rail r).discharged = false → runsTo (.dischargeTimeout r) s fun t =>
    t.rail r = { s.rail r with en := false, disch := false } ∧ (t.src (96 + 2 * r)).line = true ∧
    (∀ p ∈ s.railPhases r, (t.phase p).mid = true) ∧ t.outside = { s.outside with rails := t.rails, phases := t.phases }) ∧
  (s.st r = .starting → s.startConfirmed r = false → runsTo (.powerGoodTimeout r) s fun t =>
    (t.src (96 + 2 * r)).line = true ∧ t.outside = s.outside) ∧
  (∀ k x, s.pipe.tack = [(k, some x)] → s.pipe.soleQ = [] → x.op.req.ep = r → x.op.req.kind = .state → x.confirmed = false →
    x.replacedBy = none → x.op.bundle = none →
    (x.op.links = [.on] → s.st r = .starting → (s.rail r).ramped = true → (s.rail r).pgood = true → runsTo (.powerGood r) s fun t =>
      t.slotAt k = some { x with confirmed := true } ∧ t.pipe.soleQ = [{ op := x.op, link := some .on, final := true, slot := some k, cyc := s.cyc }] ∧
      t = { s with pipe := t.pipe }) ∧
    ((s.rail r).ramped = false ∨ (s.rail r).pgood = false → exec (.powerGood r) s = .next s) ∧
    (x.op.links = [.off] → (s.src (96 + 2 * r)).line = false → runsTo (.outputDischarged r) s fun t => (t.rail r).discharged = true ∧
      t.slotAt k = some { x with confirmed := true } ∧ t.pipe.soleQ = [{ op := x.op, link := some .off, final := true, slot := some k, cyc := s.cyc }] ∧
      t = { s with rails := t.rails, pipe := t.pipe }))) ∧
  (∀ (s : State), s.ready →
  (∀ (r : Fin 40) v, (s.rail r).en = true → s.st r = .starting → runsTo (.railFirstPulse r v) s fun t =>
    t.rail r = { s.rail r with running := true, discharged := false, ramped := false, lowHeld := decide ((s.rail r).acc ≤ 32768 * v), vTop := 0, rampOver := false, acc := max (s.rail r).acc (32768 * v) } ∧
    (r.val < 32 → (t.loopSt r).secs = [] ∧ (t.loopSt r).integ = s.ims Img.loopI0 r ∧ (t.loopSt r).e = 0 ∧ (t.loopSt r).ofs = 0) ∧
    (∀ q, q ≠ r.val → t.rail q = s.rail q ∧ t.loopSt q = s.loopSt q) ∧ t = { s with rails := t.rails, lathe := t.lathe }) ∧
  (∀ (r : Fin 40) pins sense v c, s.imb Img.railUsed r = true → v = s.railSampleV r → c = s.railMa r ((s.railPhases r).zip pins) sense →
    runsTo (.telemetrySample r pins sense) s fun t =>
    (t.rail r).vsamp = (v :: (s.rail r).vsamp).take 32768 ∧ (t.rail r).isamp = (c :: (s.rail r).isamp).take 32768 ∧
    (s.isIn r [.off, .absent] = false → (t.rail r).vmax = max (s.rail r).vmax v ∧ (t.rail r).vmin = min (s.rail r).vmin v ∧
      (t.rail r).ipk = if (s.rail r).ipkSet then max (s.rail r).ipk c else c) ∧
    (s.isIn r [.off, .absent] = true → (t.rail r).vmax = (s.rail r).vmax ∧ (t.rail r).vmin = (s.rail r).vmin ∧ (t.rail r).ipk = (s.rail r).ipk) ∧
    (∀ x ∈ (s.railPhases r).zip pins, (t.phase x.1).cur = meanFloor ((s.phaseMa x.1 x.2.imon :: (s.phase x.1).samp).take 10)) ∧
    (∀ q, q ≠ r.val → t.rail q = s.rail q) ∧ t = { s with rails := t.rails, phases := t.phases }) ∧
  (∀ r : Fin 40, (s.rail r).sampCyc ≠ some s.cyc → exec (.railPkClr r) s = .next (s.modRail r fun x => { x with vmax := 0, vmin := 65535, ipk := 0, ipkSet := false })) ∧
  (∀ (r : Fin 40) v vs c cs, (s.rail r).sampCyc = some s.cyc → (s.rail r).vsamp = v :: vs → (s.rail r).isamp = c :: cs →
    exec (.railPkClr r) s = .next (s.modRail r fun x => { x with vmax := v, vmin := v, ipk := c, ipkSet := true })) ∧
  (runsTo .railLsPkClr s fun t => (∀ n, n < 32 → t.switch n = if (s.switch n).sampCyc = some s.cyc then { s.switch n with ipk := (s.switch n).cur, ipkSet := true }
    else { s.switch n with ipk := 0, ipkSet := false }) ∧ t = { s with switches := t.switches }))

/-- R169 to R175: an inrush ends and confirms the start that waits for it; a time-out, a short, a gate fault and an I²t
trip assert FS176 + n, the first two for one core cycle, and all but the gate fault cut the gate. The accumulator
follows (I² − I_c²) t and never falls below 0. -/
def Obligations.LoadSwitchesProtect : Prop := ∀ (s : State) (n : Fin 32), s.lanesRun →
  ((s.switch n).inrush = true → s.pipe.tack = [] → exec (.inrushComplete n) s = .next (s.modSwitch n fun x => { x with inrush := false })) ∧
  (∀ k x, (s.switch n).inrush = true → s.pipe.tack = [(k, some x)] → s.pipe.soleQ = [] → x.op.req.ep = liSwitch n → x.op.req.kind = .state →
    x.op.links = [.on] → x.confirmed = false → x.replacedBy = none → x.op.bundle = none → s.st (liSwitch n) ≠ .derated → runsTo (.inrushComplete n) s fun t =>
    t.switch n = { s.switch n with inrush := false } ∧ t.slotAt k = some { x with confirmed := true } ∧
    t.pipe.soleQ = [{ op := x.op, link := some .on, final := true, slot := some k, cyc := s.cyc }] ∧
    (∀ m, m ≠ n.val → t.switch m = s.switch m) ∧ t = { s with switches := t.switches, pipe := t.pipe }) ∧
  ((s.switch n).inrush = false → exec (.inrushComplete n) s = .next s) ∧
  ((s.switch n).inrush = true → (s.src (176 + n)).holds = 0 → runsTo (.inrushTimeout n) s fun t => t.switch n = { s.switch n with gate := false, inrush := false } ∧
    (t.src (176 + n)).line = false ∧ (∀ m, m ≠ n.val → t.switch m = s.switch m) ∧ t.outside = { s.outside with switches := t.switches }) ∧
  ((s.switch n).gate = true → runsTo (.switchShort n) s fun t => t.switch n = { s.switch n with gate := false, inrush := false, short := true, shortWait := false } ∧
    (t.src (176 + n)).line = (if (s.src (176 + n)).holds = 0 then false else (s.src (176 + n)).line) ∧ (∀ m, m ≠ n.val → t.switch m = s.switch m) ∧
    t.outside = { s.outside with switches := t.switches }) ∧
  (s.live = true → s.st (liSwitch n) = .on → runsTo (.gateFault n) s fun t => (t.src (176 + n)).line = true ∧ t.outside = s.outside) ∧
  (∀ i dt, s.live = true → s.imb Img.lsUsed n = true → runsTo (.i2tUpdate n i dt) s fun t =>
    (t.switch n).acct = max 0 ((s.switch n).acct + (i * i - s.icOf n * s.icOf n) * dt) ∧ (t.switch n).cur = i ∧
    (t.switch n).ipk = (if (s.switch n).ipkSet then max (s.switch n).ipk i else i) ∧ (∀ m, m ≠ n.val → t.switch m = s.switch m) ∧
    (s.i2tK n ≠ 0 → s.i2tK n ≤ (t.switch n).acct → (s.switch n).trip = false → (t.switch n).gate = false ∧ (t.switch n).trip = true ∧ (t.src (176 + n)).line = true) ∧
    t.outside = { s.outside with switches := t.switches })

/-- R179 to R199: at a loop sample of a rail that regulates, the reference moves toward its target by at most its step, and a target of that very
core cycle waits for the next sample,
the compensator makes one update, and its integrator and its demand stay within the limits of the image; the other
rails and their loops keep their state. R209, R210: arming empties a buffer, a force marks an armed one, a stop ends
one that runs; the group writes do the same to each buffer of the mask and leave the others. R189: LOOP_SAT_CLR
clears the saturation count. -/
def Obligations.LoopSamplesAndTraces : Prop :=
  (∀ (s : State) (r : Fin 40) (inp : LoopIn), s.ready → (s.rail r).running = true →
  s.isIn r [.starting, .on, .derated, .stopping] = true →
  ((s.rail r).newTarget = none ∨ (s.rail r).newCyc ≠ s.cyc) → runsTo (.loopSample r inp) s fun t =>
    (t.rail r).acc = stepToward (s.rail r).acc ((s.rail r).newTarget.getD (s.rail r).target) (s.refStep r) ∧
    (∀ n, s.refStep r = some n → ((t.rail r).acc - (s.rail r).acc).natAbs ≤ n) ∧
    (t.rail r).newTarget = none ∧ (t.rail r).target = (s.rail r).newTarget.getD (s.rail r).target ∧
    (∀ q, q ≠ r.val → t.rail q = s.rail q ∧ t.loopSt q = s.loopSt q) ∧
    (r.val < 32 → s.ims Img.loopWmin r ≤ s.ims Img.loopWmax r → s.ims Img.loopWmin r ≤ (t.loopSt r).w ∧ (t.loopSt r).w ≤ s.ims Img.loopWmax r) ∧
    (r.val < 32 → s.ims Img.loopImin r ≤ s.ims Img.loopImax r → s.ims Img.loopImin r ≤ (t.loopSt r).integ ∧ (t.loopSt r).integ ≤ s.ims Img.loopImax r) ∧
    (r.val < 32 → ((s.rail r).ovHw || (s.rail r).short || (s.rail r).disch) = true → s.ims Img.loopImin r ≤ (s.loopSt r).integ →
      (s.loopSt r).integ ≤ s.ims Img.loopImax r → -2147483648 ≤ (s.loopSt r).integ → (s.loopSt r).integ ≤ 2147483647 → (t.loopSt r).integ = (s.loopSt r).integ) ∧
    (r.val < 32 → s.im Img.loopDec r = 0 → ∀ v, inp.senses = [v] → (t.loopSt r).e = 128 * limitCode (convCode (s.rail r).vref v)) ∧
    (32 ≤ r.val → t = { s with rails := t.rails }) ∧ t = { s with rails := t.rails, lathe := t.lathe, traces := t.traces }) ∧
  (∀ (s : State) (r : Fin 40) (inp : LoopIn) g, s.ready → (s.rail r).running = true → s.isIn r [.starting, .on, .derated, .stopping] = true →
    (s.rail r).newTarget = some g → (s.rail r).newCyc = s.cyc → runsTo (.loopSample r inp) s fun t =>
    (t.rail r).newTarget = some g ∧ (t.rail r).target = (s.rail r).target ∧ (t.rail r).acc = stepToward (s.rail r).acc (s.rail r).target (s.refStep r)) ∧
  (∀ s : State, s.ready →
  (∀ b : Fin 16, exec (.loopTrcArm b) s = .next (s.modTrace b fun _ => { st := .armed })) ∧
  (∀ b : Fin 16, (s.trace b).st = .armed → exec (.loopTrcForce b) s = .next (s.modTrace b fun t => { t with force := true })) ∧
  (∀ b : Fin 16, (s.trace b).st ≠ .armed → exec (.loopTrcForce b) s = .next s) ∧
  (∀ b : Fin 16, (s.trace b).st = .armed ∨ (s.trace b).st = .triggered → exec (.loopTrcStop b) s = .next (s.modTrace b fun t => { t with st := .done, done := true, doneCyc := s.cyc, force := false, ext := false })) ∧
  (∀ b : Fin 16, (s.trace b).st = .idle ∨ (s.trace b).st = .done → exec (.loopTrcStop b) s = .next s) ∧
  (∀ mask, runsTo (.loopTrcGarm mask) s fun t =>
    (∀ b, b < 16 → t.trace b = if mask.getLsbD b then { st := .armed } else s.trace b) ∧ t = { s with traces := t.traces }) ∧
  (∀ mask, runsTo (.loopTrcGforce mask) s fun t =>
    (∀ b, b < 16 → t.trace b = if mask.getLsbD b && (s.trace b).st == .armed then { s.trace b with force := true } else s.trace b) ∧
    t = { s with traces := t.traces }) ∧
  (∀ r : Fin 32, exec (.loopSatClr r) s = .next (s.modLoopSt r fun l => { l with satcnt := 0 })))

/-- R217, R221, R223, R225: a DELAY that elapses, or a WAIT whose condition is true, completes its step: the next step
of the program begins and the group's entry shows it; a step with LINK_V is the new unwind point (R229). R225, R237
to R240, R248: a power-up step whose WAIT times out fails with cause 6, and a group with nothing to unwind waits 10
ms × 2^n for its next retry; a retry whose time comes during input loss is held, and one that begins takes power-up
from step 0, unless an accepted P1 request has ended the retries (R241); a resume that does not come in time takes the power-down program on. A condition that is true wins over
the time-out. -/
def Obligations.GroupsStepAndRetry : Prop :=
  (∀ (s : State) (g : Fin 16) (b c : Nat) (h k : StepHdr), s.ready →
  s.led.cmtNow < 3840 → (s.group g).dir = false → (s.group g).unwind = false → (s.group g).ilForce = false → (s.group g).ilShut = false → (s.group g).turn = none →
  s.step? g false (s.group g).step = some (b, h) → s.step? g false ((s.group g).step + 1) = some (c, k) → k.op = .delay → ∀ i,
  (i = .delayEnd g ∧ (s.group g).run = .delay) ∨
    (i = .waitSatisfied g ∧ ((s.group g).run = .waitGroup ∨ (s.group g).run = .waitInput) ∧ s.waitHolds g = true) →
  runsTo i s fun t =>
    t.group g = { s.group g with step := (s.group g).step + 1, run := .delay, tmr := delayUs k.arg, tmrCyc := s.time, unwindPt := if h.linkV then some (h.link, (s.group g).step) else (s.group g).unwindPt } ∧
    (s.st (liGroup g) ≠ .absent → (t.stored (liGroup g)).val = BitVec.ofNat 32 ((s.group g).step + 1) ∧ t.st (liGroup g) = s.st (liGroup g)) ∧
    (∀ j, j ≠ g.val → t.group j = s.group j) ∧ (∀ id, id ≠ liGroup g → t.stored id = s.stored id) ∧
    t = { s with groups := t.groups, led := t.led }) ∧
  (∀ (s : State) (g : Fin 16), s.ready →
  ((s.group g).dir = false → ((s.group g).run = .waitGroup ∨ (s.group g).run = .waitInput) → s.waitLimited g = true → s.waitHolds g = false →
    (s.group g).unwindPt = none → (s.group g).endRetries = false → (s.group g).retries < s.im Img.seqRetryN g → s.st (liGroup g) ≠ .absent → s.groupOp g = none → s.led.cmtNow < 3840 →
    runsTo (.waitTimeout g) s fun t =>
      t.group g = { s.group g with step := s.endStep g, failStep := (s.group g).step, failCause := 6, failEp := 0, upFails := satAdd 0xFFFF (s.group g).upFails 1, run := .none, unwind := false, turn := none, ilShut := false, ilForce := false, dir := true, resumePt := none, dnMoved := false, running := false, backoff := true, react := false, tmr := 10000 * 2 ^ (s.group g).retries, tmrCyc := s.time } ∧
      t.st (liGroup g) = .failed ∧ (∀ j, j ≠ g.val → t.group j = s.group j) ∧ (∀ id, id ≠ liGroup g → t.stored id = s.stored id) ∧
      t = { s with groups := t.groups, led := t.led }) ∧
  (s.waitHolds g = true → exec (.waitTimeout g) s = exec (.waitSatisfied g) s ∨ s.waitLimited g = false) ∧
  ((s.group g).backoff = true → s.st (liGroup g) = .failed → s.seq.il = true → s.retriesEnd g = false →
    exec (.retryBegin g) s = .next (s.modGroup g fun x => { x with backoff := false, retryHeld := true })) ∧
  (s.retriesEnd g = true → exec (.retryBegin g) s = .next s) ∧
  (∀ b h, (s.group g).backoff = true → s.st (liGroup g) = .failed → s.seq.il = false → s.retriesEnd g = false → s.led.cmtNow < 3840 → s.step? g false 0 = some (b, h) → h.op = .delay →
    (∀ li ∈ s.groupEps g, s.st li ≠ .failed) → runsTo (.retryBegin g) s fun t =>
      t.group g = { s.group g with retries := (s.group g).retries + 1, backoff := false, retryHeld := false, dir := false, running := true, step := 0, run := .delay, react := false, tmr := delayUs h.arg, tmrCyc := s.time, unwindPt := none, resumePt := none, dnMoved := false } ∧
      t.st (liGroup g) = .starting ∧ (∀ j, j ≠ g.val → t.group j = s.group j) ∧ (∀ id, id ≠ liGroup g → t.stored id = s.stored id) ∧
      t = { s with groups := t.groups, led := t.led }) ∧
  (∀ b h, (s.group g).inwait = true → s.step? g (s.group g).dir (s.group g).step = some (b, h) → h.op = .delay →
    s.st (liGroup g) ≠ .absent → s.led.cmtNow < 3840 → runsTo (.resumeTimeout g) s fun t =>
      t.group g = { s.group g with inwait := false, running := true, run := .delay, react := false, tmr := delayUs h.arg, tmrCyc := s.time } ∧
      t.st (liGroup g) = .stopping ∧ (∀ j, j ≠ g.val → t.group j = s.group j) ∧ (∀ id, id ≠ liGroup g → t.stored id = s.stored id) ∧
      t = { s with groups := t.groups, led := t.led }) ∧
  ((s.group g).inwait = false → exec (.resumeTimeout g) s = .next s))

/-- R245, R246, R248: an input that is lost clears its bit and asserts its source, one that returns sets it and clears
the source and ends input loss and power-fail; the loss of both declares input loss, here with every group at
ride-through; inputs and VHOLD are judged again when their conditions come. R305: each
reading of the levels judges the keep-alive diode again. -/
def Obligations.InputsAreJudged : Prop := ∀ s : State, s.ready →
  (∀ mv, s.seq.lostA = false → s.seq.lostB = false → runsTo (.inputLost false mv) s fun t =>
    t.seq = { s.seq with lostA := true, lastB := false, stable := s.seq.stable && decide (s.seq.retB + 10000 * usTime ≤ s.time) } ∧
    (t.src 352).line = true ∧ t.outside = { s.outside with seq := t.seq, lane := { s.lane with mv := mv, kaFeed := decide (mv.vhold + 30 < mv.ka) } }) ∧
  (∀ mv, s.seq.lostA = false → s.seq.lostB = false → runsTo (.inputLost true mv) s fun t =>
    t.seq = { s.seq with lostB := true, lastB := true, stable := s.seq.stable && decide (s.seq.retA + 10000 * usTime ≤ s.time) } ∧
    (t.src 353).line = true ∧ t.outside = { s.outside with seq := t.seq, lane := { s.lane with mv := mv, kaFeed := decide (mv.vhold + 30 < mv.ka) } }) ∧
  (∀ mv, s.seq.lostA = true → s.seq.lostB = false → s.seq.kaOk = true → s.lace.energy = none →
    (∀ g, g < 16 → s.imb Img.seqUsed g = false) → runsTo (.inputLost true mv) s fun t =>
    t.seq = { s.seq with lostB := true, lastB := true, il := true, stable := false } ∧ (t.src 353).line = true ∧
    t.outside = { s.outside with seq := t.seq, lane := { s.lane with mv := mv, kaFeed := decide (mv.vhold + 30 < mv.ka) } }) ∧
  (s.seq.lostA = true → runsTo (.inputReturn false) s fun t =>
    t.seq = { s.seq with lostA := false, lastB := false, retA := s.time, il := false, pf := if s.seq.il then false else s.seq.pf } ∧
    (t.src 352).line = false ∧ t.outside = { s.outside with seq := t.seq }) ∧
  (s.seq.lostB = true → runsTo (.inputReturn true) s fun t =>
    t.seq = { s.seq with lostB := false, lastB := true, retB := s.time, il := false, pf := if s.seq.il then false else s.seq.pf } ∧
    (t.src 353).line = false ∧ t.outside = { s.outside with seq := t.seq }) ∧
  ((s.seq.lostA && s.seq.lostB) = false → s.seq.il = false → s.seq.stable = false →
    (∀ g, g < 16 → (s.group g).inwait = false ∧ (s.group g).retryHeld = false ∧ (s.group g).ilOff = false) → runsTo .inputsStable s fun t =>
    t.seq = { s.seq with stable := true } ∧ t.outside = { s.outside with seq := t.seq }) ∧
  (runsTo (.vholdHoldCrossing false) s fun t => t.seq = { s.seq with holdOk := false } ∧ (t.src 358).line = true ∧ t.outside = { s.outside with seq := t.seq }) ∧
  (s.seq.stable = false → runsTo (.vholdHoldCrossing true) s fun t => t.seq = { s.seq with holdOk := true } ∧ (t.src 358).line = false ∧ t.outside = { s.outside with seq := t.seq })

/-- R246, R251 to R253: a snapshot captures its payload with the epoch and the clock, and its record reaches the ring
with the next SEQ; a command while SEQ_SNAP_BUSY is 1 is ignored; keep-alive that falls during input loss declares
power-fail, which writes both copies of the epoch watermark. R305: the levels read judge the keep-alive
diode again. -/
def Obligations.SnapshotsAndPowerFail : Prop := ∀ s : State, s.ready →
  (∀ i mv, s.seq.snapBusy = true → exec (.snapshotCommand i mv) s = .next s) ∧
  (∀ i mv, s.seq.snapBusy = false → s.seq.snap = none → runsTo (.snapshotCommand i mv) s fun t =>
    t.seq = { s.seq with snapBusy := true, snap := some (s.snapPayload (b2n s.seq.lostA + 2 * b2n s.seq.lostB + 4 * b2n (!s.seq.kaOk) + 8) mv, false, s.led.epoch, s.rtc.frac.toNat, s.rtc.sec.toNat) } ∧
    t = { s with seq := t.seq, lane := { s.lane with mv := mv, kaFeed := decide (mv.vhold + 30 < mv.ka) } }) ∧
  (∀ p ep frac sec, s.seq.snap = some (p, false, ep, frac, sec) → runsTo .snapshotWritten s fun t =>
    t.recd.ring.getLast?.map (fun r => (r.ty, r.payload, r.epoch, r.seq, r.pf)) = some (4, p, ep, s.recd.seqNext, s.seq.pf) ∧
    t.recd.seqNext = s.recd.seqNext + 1 ∧ t.recd.buf = s.recd.buf ∧
    t.seq = { s.seq with snapBusy := false, snapCnt := s.seq.snapCnt + 1, snap := none } ∧ t = { s with seq := t.seq, recd := t.recd }) ∧
  (s.seq.snap = none → exec .snapshotWritten s = .next s) ∧
  (∀ mv, exec (.keepAliveCrossing true mv) s = .next ((s.modSeq fun q => { q with kaOk := true }).modLane fun l => { l with mv := mv, kaFeed := decide (mv.vhold + 30 < mv.ka) })) ∧
  (∀ mv, s.seq.il = true → s.seq.pf = false → s.seq.snap = none → runsTo (.keepAliveCrossing false mv) s fun t =>
    t.mram = { wm0 := some s.led.epoch, wm1 := some s.led.epoch } ∧ t.seq.pf = true ∧ t.seq.kaOk = false ∧ t.seq.snapBusy = true ∧
    t.seq.pfCnt = satAdd 0xFFFF s.seq.pfCnt 1 ∧ t.seq.snap.isSome = true ∧ t.led.epoch = s.led.epoch)

/-- R256 to R259, R265, R266, R659: the line of a source follows what the collector decodes, a load switch's also its i2t
hold, and decoding again restores its
integrity; a line test and the mid band of a FIN input lose it; a force asserts a source whose FLT_FORCE_EN is 1 and
its removal ends it; software sources assert and clear by their masks. -/
def Obligations.LinesAreDecoded : Prop := ∀ s : State, s.ready →
  (∀ (n : Fin 512) on cause, n.val < 496 → n.val ≠ 265 → n.val ≠ 267 → n.val ≠ 268 → n.val ≠ 269 → n.val ≠ 270 → n.val ≠ 271 → n.val ≠ 366 →
    runsTo (.faultLineChange n on cause) s fun t => (t.src n).line = (on || (176 ≤ n.val && n.val < 208 && (s.src n).holds.getLsbD 3)) ∧ (t.src n).lost = false ∧
    (∀ p, t.phase p = if n.val = 2 * p ∧ n.val < 96 then { s.phase p with tfault := on } else s.phase p) ∧ t.outside = { s.outside with phases := t.phases }) ∧
  (∀ on cause, runsTo (.faultLineChange 265 on cause) s fun t => (t.src 265).line = on ∧ t.outside = { s.outside with lane := { s.lane with xtalOk := !on } }) ∧
  (∀ (n : Fin 512) on cause, 496 ≤ n.val → exec (.faultLineChange n on cause) s = .next s) ∧
  (∀ n : Fin 512, n.val < 496 → n.val ≠ 366 → runsTo (.integrityLost n) s fun t => (t.src n).lost = true ∧ (t.src n).line = (s.src n).line ∧ t.outside = s.outside) ∧
  (∀ (n : Fin 512) seen, n.val < 480 → n.val ≠ 366 → s.srcUsed n = true →
    runsTo (.lineTest n seen) s fun t => (t.src n).lost = !seen ∧ (t.src n).line = (s.src n).line ∧ t.outside = s.outside) ∧
  (∀ f : Fin 16, runsTo (.finLevel f .mid) s fun t => (t.src (480 + f)).lost = true ∧ t.outside = s.outside) ∧
  (∀ f : Fin 16, runsTo (.finLevel f .high) s fun t => (t.src (480 + f)).lost = false ∧ (t.src (480 + f)).line = s.imb Img.fltFinPol f ∧ t.outside = s.outside) ∧
  (∀ f : Fin 16, runsTo (.finLevel f .low) s fun t => (t.src (480 + f)).lost = false ∧ (t.src (480 + f)).line = !s.imb Img.fltFinPol f ∧ t.outside = s.outside) ∧
  (∀ (k : Fin 16) mask, runsTo (.fltFset k mask) s fun t =>
    (∀ i, i < 32 → mask.getLsbD i = true → s.imb Img.fltForceEn (32 * k + i) = true → (t.src (32 * k + i)).forced = true) ∧
    (∀ n, n / 32 ≠ k.val ∨ mask.getLsbD (n % 32) = false ∨ s.imb Img.fltForceEn n = false → (t.src n).forced = (s.src n).forced) ∧ t.outside = s.outside) ∧
  (∀ (k : Fin 16) mask, runsTo (.fltFclr k mask) s fun t =>
    (∀ i, i < 32 → mask.getLsbD i = true → (t.src (32 * k + i)).forced = false) ∧
    (∀ n, n / 32 ≠ k.val ∨ mask.getLsbD (n % 32) = false → (t.src n).forced = (s.src n).forced) ∧ t.outside = s.outside) ∧
  (∀ mask : BitVec 16, (∀ e, e < 256 → s.im Img.evtEsc e = 0) → runsTo (.fltSwSet mask) s fun t =>
    (∀ i, i < 16 → (t.src (496 + i)).line = (mask.getLsbD i || (s.src (496 + i)).line)) ∧ t.outside = s.outside) ∧
  (∀ mask : BitVec 16, (∀ e, e < 256 → s.im Img.evtEsc e = 0) → runsTo (.fltSwClr mask) s fun t =>
    (∀ i, i < 16 → (t.src (496 + i)).line = (!mask.getLsbD i && (s.src (496 + i)).line)) ∧ t.outside = s.outside)

/-- R261, R262, R270, R274, R276, R278, R657: a persisting assertion qualifies once and leaves FLT_PEND set; an
occurrence leaves the count, once in a core cycle; a delayed entry is submitted; a FAILED endpoint is latched by its latching source in the epoch
after its commit, or asks to leave FAILED once nothing holds it, but not while its group is FAILED (R237); FAULT_N is released when no SAFE source is asserted; EVT_ACK asks for
one CLEAR per bit. -/
def Obligations.CollectorDecides : Prop := ∀ s : State, s.ready →
  (∀ n : Fin 512, s.srcUsed n = true → s.asserted n = true → (s.src n).qual = false → s.im Img.fltPersist n ≠ 0 →
    s.sevOf n (s.src n).cause = 1 → s.imb Img.wakeFlt = false → runsTo (.persistQualify n) s fun t =>
    t.src n = { s.src n with qual := true, pend := true, pendCyc := s.cyc } ∧ (∀ m, m ≠ n.val → t.src m = s.src m) ∧ t.recd = { s.recd with trigger := true } ∧
    t.faultN = s.faultN ∧ t.outside = s.outside ∧ t.led = s.led) ∧
  (∀ n : Fin 512, s.srcUsed n = true → s.asserted n = true → (s.src n).qual = false → s.im Img.fltPersist n ≠ 0 →
    s.sevOf n (s.src n).cause = 3 → s.glb.parkPend = false → runsTo (.persistQualify n) s fun t => t.faultN = true ∧ (t.src n).pend = true ∧ t.outside = s.outside) ∧
  (∀ n : Fin 512, (s.src n).qual = true → exec (.persistQualify n) s = .next s) ∧
  (∀ n : Fin 512, (s.src n).leftCyc ≠ some s.cyc → 15 < (s.src n).occ.length → exec (.occurrenceExpire n) s = .next (s.modSrc n fun x => { x with occ := x.occ.tail })) ∧
  (∀ n : Fin 512, (s.src n).leftCyc = some s.cyc → exec (.occurrenceExpire n) s = .next s) ∧
  (∀ n : Fin 512, (s.src n).leftCyc ≠ some s.cyc → (s.src n).occ.length ≤ 15 → (s.src n).occ ≠ [] → s.srcUsed n = true → (s.src n).committed = false → (s.srcState n, (s.src n).occ.length - 1) ≠ (s.src n).sent → runsTo (.occurrenceExpire n) s fun t =>
    t.src n = { s.src n with occ := (s.src n).occ.tail, committed := true, dirty := false, sent := (s.srcState n, (s.src n).occ.length - 1) } ∧
    (∃ r, t.asks 1 r ∧ r.ep = liSource n ∧ r.val2 = BitVec.ofNat 32 ((s.src n).occ.length - 1)) ∧
    (∀ m, m ≠ n.val → t.src m = s.src m) ∧ t = { s with srcs := t.srcs, pipe := t.pipe }) ∧
  (∀ n : Fin 512, (s.src n).dirty = true → (s.src n).committed = false → s.srcUsed n = true → (s.srcState n, (s.src n).count) ≠ (s.src n).sent → runsTo (.sourceEntryCommit n) s fun t =>
    t.src n = { s.src n with committed := true, dirty := false, sent := (s.srcState n, (s.src n).count) } ∧
    t.asks 1 { stateReq (liSource n) (s.srcState n) 1 (reqrSource n) with val2 := BitVec.ofNat 32 (s.src n).count } ∧
    (∀ m, m ≠ n.val → t.src m = s.src m) ∧ t = { s with srcs := t.srcs, pipe := t.pipe }) ∧
  (∀ n : Fin 512, (s.src n).dirty = true → (s.src n).committed = false → s.srcUsed n = true → (s.srcState n, (s.src n).count) = (s.src n).sent →
    exec (.sourceEntryCommit n) s = .next (s.modSrc n fun x => { x with dirty := false })) ∧
  (∀ n : Fin 512, (s.src n).dirty = false → exec (.sourceEntryCommit n) s = .next s) ∧
  (∀ (li : Fin 2048) n, (li.val < 40 ∨ ∃ k, kindOf li = .switch k) → s.st li = .failed → (s.policy li).failEpoch + 1 = s.led.epoch →
    s.stateUnderWay li .latchedOff = false → (s.policy li).latchSrc = some n → runsTo (.latchSubmit li) s fun t =>
    t.asks 1 (stateReq li .latchedOff 1 (reqrSource n)) ∧ t = { s with pipe := t.pipe }) ∧
  (∀ li : Fin 2048, s.st li ≠ .failed → exec (.latchSubmit li) s = .next s ∧ exec (.failedRecovery li) s = .next s) ∧
  (∀ li : Fin 2048, (s.policy li).failEpoch + 1 ≠ s.led.epoch → exec (.latchSubmit li) s = .next s) ∧
  (∀ li : Fin 2048, s.keptFailed li = true → exec (.failedRecovery li) s = .next s) ∧
  (∀ li : Fin 2048, s.st li = .failed → (s.policy li).failEpoch < s.led.epoch → s.stateUnderWay li .off = false → s.recoverable li = true → s.keptFailed li = false →
    runsTo (.failedRecovery li) s fun t => t.asks 1 (stateReq li .off 1 (writerReqr (s.policy li).failWriter)) ∧ t = { s with pipe := t.pipe }) ∧
  (s.noSafe = true → exec .fltFaultnRel s = .next { s with faultN := false }) ∧
  (s.noSafe = false → exec .fltFaultnRel s = .next s) ∧
  (∀ i (k : Fin 8) (mask : Word) b, b < 32 → mask = BitVec.ofNat 32 (2 ^ b) → 1 ≤ s.p4Free → runsTo (.evtAck i k mask) s fun t =>
    (∃ r, t.asks (ifacePort i) r ∧ r.ep = liEvent (32 * k + b) ∧ r.kind = .state ∧ r.val = BitVec.ofNat 32 EState.clear.code ∧ r.cls = 4) ∧
    t = { s with pipe := t.pipe, host := t.host })

/-- R285, R286, R288, R295: a lane that differs, or whose checker, memory or regulator reports, leaves the vote, asserts
FS256 + l and begins its re-form; with one voting lane governing stops and every rail holds. R284: a copy that fails its CRC is noted at
FS280. R287, R296 to R298: a checkpoint is stored, and agreed where the
lanes' signatures match; the steps of a re-form: self-test, copy, the state transfer at a checkpoint and the join
at the next one; a failed attempt begins again, and the third retires the lane. -/
def Obligations.LanesAreIsolatedAndReform : Prop :=
  (∀ (s : State) (l : Fin 3), s.ready → s.lane.perm.getLsbD l = false → s.lane.joinCyc.get 0 l = 0 →
  (∀ c, (c = .voteMismatch l ∧ s.lane.vote = 7) ∨ ((∃ k, c = .laneCheckerError l k) ∧ s.votes l = true ∧ s.voters.length ≠ 1) → runsTo c s fun t =>
    t.lane.vote = mask3 s.lane.vote l false ∧ t.lane.reform = mask3 s.lane.reform l true ∧ t.lane.rfStep.get 0 l = 1 ∧ t.lane.rfAtt.get 0 l = 0 ∧
    t.lane.rfStart.get 0 l = s.time ∧ t.lane.isoCnt = satAdd 0xFFFF s.lane.isoCnt 1 ∧ (t.src (256 + l)).line = true ∧
    (c = .laneCheckerError l .regulator → (t.src 364).line = true) ∧ t.outside = { s.outside with lane := t.lane }) ∧
  (s.votes l = true → s.voters.length = 1 → runsTo (.laneCheckerError l .checker) s fun t =>
    t.lane = { s.lane with govStop := true, hold := none, settled := none, switched := false, boundary := [], tickHeld := 0 } ∧
    (∀ r, r < 40 → (t.rail r).hold = (!s.isIn r [.off, .absent] || (s.rail r).hold)) ∧ t = { s with lane := t.lane, rails := t.rails }) ∧
  (s.lane.vote ≠ 7 → exec (.voteMismatch l) s = .next s) ∧
  (∀ k, s.votes l = false → exec (.laneCheckerError l k) s = .next s) ∧
  (runsTo .linkCopyCrcFail s fun t => t = s.pulseSrc 280 0 ∧ (t.src 280).line = false ∧ (s.srcUsed 280 = true → s.asserted 280 = false →
    (s.src 280).lost = false → (t.src 280).sticky = true ∧ (t.src 280).occ = (s.src 280).occ ++ [s.cyc]) ∧ t.outside = s.outside)) ∧
  (∀ (s : State) (l : Fin 3), s.live = true → s.lane.govStop = false → s.lane.hold = none →
  (s.lane.rfStep.get 0 l = 1 → exec (.reformSelfTestDone l true) s = .next (s.modLane fun x => { x with rfStep := x.rfStep.set 0 l 3 })) ∧
  (s.lane.rfStep.get 0 l = 1 → s.lane.rfAtt.get 0 l < 2 → exec (.reformSelfTestDone l false) s =
    .next (s.modLane fun x => { x with rfAtt := x.rfAtt.set 0 l (s.lane.rfAtt.get 0 l + 1), rfStep := x.rfStep.set 0 l 1, rfSrc := x.rfSrc.set 0 l (s.voters.headD 0) })) ∧
  (s.lane.rfStep.get 0 l = 1 → 2 ≤ s.lane.rfAtt.get 0 l → runsTo (.reformSelfTestDone l false) s fun t =>
    t.lane.perm = mask3 s.lane.perm l true ∧ t.lane.reform = mask3 s.lane.reform l false ∧ t.lane.rfStep.get 0 l = 0 ∧
    t.lane.vote = s.lane.vote ∧ (t.src (260 + l)).line = true ∧ t.outside = { s.outside with lane := t.lane }) ∧
  (s.lane.rfStep.get 0 l = 3 → exec (.reformCopyDone l) s = .next (s.modLane fun x => { x with rfStep := x.rfStep.set 0 l 4 })) ∧
  (s.lane.rfStep.get 0 l ≠ 3 → exec (.reformCopyDone l) s = .next s) ∧
  (∀ j, exec (.checkpoint false j) s = .next (s.modLane fun x => { x with undo := x.ckpt, ckpt := some s.cyc })) ∧
  (∀ j, s.lane.rfStep.get 0 l = 4 → (∀ k, k ≠ l.val → s.lane.rfStep.get 0 k = 0) →
    exec (.checkpoint true j) s = .next (s.modLane fun x => { x with undo := x.ckpt, ckpt := some s.cyc, agreed := some s.cyc, rfStep := x.rfStep.set 0 l 5 })) ∧
  (s.lane.rfStep.get 0 l = 5 → (∀ k, k ≠ l.val → s.lane.rfStep.get 0 k = 0) → runsTo (.checkpoint true true) s fun t =>
    t.lane.vote = mask3 s.lane.vote l true ∧ t.lane.reform = mask3 s.lane.reform l false ∧ t.lane.rfStep.get 0 l = 0 ∧
    t.lane.rfLast = min 4095 ((s.time - s.lane.rfStart.get 0 l) / usTime) ∧ (t.src (256 + l)).line = false ∧
    t.outside = { s.outside with lane := t.lane }))

/-- R289 to R292, R294: no majority begins a chuck hold that every rail rides through; the checker stage isolates the
lanes that its checkers named, the replay stage ends the hold when the lanes agree, and the self-test stage stops
governing when it cannot tell the lanes apart; at the end the hold's length is noted, in 4 ns whatever the core's clock (R312,
R345), and the rails go on. -/
def Obligations.ChuckHoldsSettle : Prop := ∀ s : State, s.live = true → s.lane.govStop = false → s.lane.switching = false → s.glb.warmBusy = false →
  (s.lane.hold = none → s.lane.vote = 7 → runsTo (.chuckHold true) s fun t =>
    t.lane = { s.lane with hold := some .checker, holdRes := 0, holdCause := 2, holdCnt := satAdd 0xFFFF s.lane.holdCnt 1 } ∧
    (∀ r, r < 40 → (t.rail r).hold = (!s.isIn r [.off, .absent] || (s.rail r).hold)) ∧
    t = { s with lane := t.lane, rails := t.rails, traces := t.traces, glb := { s.glb with warmTick := false } } ∧
    (∀ b, b < 16 → (s.trace b).st ≠ .armed → t.trace b = s.trace b)) ∧
  (∀ three, s.lane.hold ≠ none → exec (.chuckHold three) s = .next s) ∧
  (∀ rep len, s.lane.hold = some .checker → (s.among rep = [] ∨ (s.among rep).length = s.voters.length) →
    exec (.holdCheckerStage rep len) s = .next (s.modLane fun x => { x with hold := some .replay })) ∧
  (∀ (l : Fin 3) len, s.lane.hold = some .checker → s.lane.vote = 7 → s.lane.perm.getLsbD l = false → s.lane.joinCyc.get 0 l = 0 →
    s.lane.boundary = [] → s.lane.tickHeld = 0 → runsTo (.holdCheckerStage (BitVec.ofNat 3 (2 ^ l.val)) len) s fun t =>
    t.lane.hold = none ∧ t.lane.holdRes = 0 ∧ t.lane.holdLen = min 0xFFFF (len * s.cycTime) ∧ t.lane.vote = mask3 7 l false ∧ t.cyc = s.cyc + len ∧
    (t.src (256 + l)).line = true ∧ (∀ r, r < 40 → (t.rail r).hold = false) ∧
    t.outside = { s.outside with lane := t.lane, rails := t.rails, lathe := t.lathe, cyc := t.cyc, glb := { s.outside.glb with lineAt := none } }) ∧
  (∀ len, s.lane.hold = some .replay → exec (.holdReplayStage false len) s = .next (s.modLane fun x => { x with hold := some .selfTest })) ∧
  (∀ len, s.lane.hold = some .replay → s.lane.boundary = [] → s.lane.tickHeld = 0 → runsTo (.holdReplayStage true len) s fun t =>
    t.lane = { s.lane with hold := none, holdRes := 1, settled := none, switched := false, holdLen := min 0xFFFF (len * s.cycTime), holdMax := max s.lane.holdMax (min 0xFFFF (len * s.cycTime)), endCyc := some (s.cyc + len) } ∧
    t.cyc = s.cyc + len ∧ (∀ r, r < 40 → (t.rail r).hold = false) ∧
    t.outside = { s.outside with lane := t.lane, rails := t.rails, lathe := t.lathe, cyc := t.cyc, glb := { s.outside.glb with lineAt := none } }) ∧
  (∀ fails len, s.lane.hold = some .selfTest → s.among fails = [] → runsTo (.holdSelfTestStage fails len) s fun t =>
    t.lane.govStop = true ∧ t.lane.holdRes = 3 ∧ t.lane.hold = none ∧ t.lane.holdLen = min 0xFFFF (len * s.cycTime) ∧ t.lane.vote = s.lane.vote ∧
    (∀ r, r < 40 → (t.rail r).hold = (!s.isIn r [.off, .absent] || (s.rail r).hold)) ∧ t.outside = { s.outside with lane := t.lane, rails := t.rails }) ∧
  (∀ rep agree fails len, s.lane.hold = none →
    exec (.holdCheckerStage rep len) s = .next s.drain ∧ exec (.holdReplayStage agree len) s = .next s.drain ∧ exec (.holdSelfTestStage fails len) s = .next s.drain)

/-- R300 to R303, R505: a source that fails away from a possible switch asserts its source, one that can be left begins
a clock switch; the end of a switch moves the core; a PLL that relocks releases its source; a stopped 32.768 kHz
oscillator stops the clock's count and sets RTC_OSF. R291, R301, R302: the hold of a clock switch ends, with nothing
held: the core runs from PLL B, or from PLL A after a return, the length is noted, the source whose fault began the switch
asserts and every rail goes on. With no
switch in progress nothing but the boundary buffers changes. -/
def Obligations.ClocksSwitchAndReturn : Prop :=
  (∀ s : State, s.ready → s.glb.mode = .run →
  (∀ c, c = .crystalStop ∨ c = .pllLockLoss false → s.maySwitch = true → runsTo c s fun t =>
    t.lane = { s.lane with xtalOk := if c = .crystalStop then false else s.lane.xtalOk, pllaLock := if c = .crystalStop then s.lane.pllaLock else false, switching := true, returning := false, swSrc := (if c = .crystalStop then 265 else 263), holdRes := 0, holdCause := 3, holdCnt := satAdd 0xFFFF s.lane.holdCnt 1 } ∧
    (∀ r, r < 40 → (t.rail r).hold = (!s.isIn r [.off, .absent] || (s.rail r).hold)) ∧ t = { s with lane := t.lane, rails := t.rails, glb := { s.glb with warmTick := false } }) ∧
  (s.maySwitch = false → runsTo .crystalStop s fun t => (t.src 265).line = true ∧ t.outside = { s.outside with lane := { s.lane with xtalOk := false } }) ∧
  (s.maySwitch = false → runsTo (.pllLockLoss false) s fun t => (t.src 263).line = true ∧ t.outside = { s.outside with lane := { s.lane with pllaLock := false } }) ∧
  (runsTo (.pllLockLoss true) s fun t => (t.src 264).line = true ∧ t.outside = { s.outside with lane := { s.lane with pllbLock := false } }) ∧
  (runsTo (.pllRelock false) s fun t => (t.src 263).line = false ∧ t.outside = { s.outside with lane := { s.lane with pllaLock := true } }) ∧
  (runsTo (.pllRelock true) s fun t => (t.src 264).line = false ∧ t.outside = { s.outside with lane := { s.lane with pllbLock := true } }) ∧
  (s.imb Img.clkRet = true → s.lane.clkSrc = 1 → s.lane.pllaLock = true → s.lane.xtalOk = true → s.lane.pllbPerm = false → runsTo .pllReturn s fun t =>
    t.lane = { s.lane with switching := true, returning := true, swSrc := 0, holdRes := 0, holdCause := 4, holdCnt := satAdd 0xFFFF s.lane.holdCnt 1 } ∧
    t = { s with lane := t.lane, rails := t.rails, glb := { s.glb with warmTick := false } }) ∧
  (s.imb Img.clkRet = false → exec .pllReturn s = .next s) ∧
  (runsTo (.clockOutOfRange .xtal) s fun t => (t.src 265).line = true ∧ t.outside = { s.outside with lane := { s.lane with xtalOk := false } }) ∧
  (runsTo (.clockOutOfRange .rc) s fun t => (t.src 267).line = true ∧ t.outside = { s.outside with lane := { s.lane with rcOk := false } }) ∧
  (runsTo (.clockOutOfRange .wdosc) s fun t => (t.src 268).line = true ∧ t.outside = { s.outside with lane := { s.lane with wdoscOk := false } }) ∧
  (runsTo .x32Stop s fun t => (t.src 266).line = true ∧ t.rtc = { s.rtc with stopped := true, osf := true } ∧
    t.outside = { s.outside with lane := { s.lane with x32Ok := false }, rtc := t.rtc })) ∧
  (∀ (s : State) (len : Nat), s.live = true → s.glb.mode = .run → s.lane.govStop = false → s.lane.hold = none → s.glb.warmBusy = false →
  (s.lane.switching = true → s.lane.boundary = [] → s.lane.tickHeld = 0 → runsTo (.clockSwitchDone len) s fun t =>
    t.lane = { s.lane with switching := false, returning := false, settled := none, switched := false, clkSrc := if s.lane.returning then 0 else 1, pllbPerm := s.lane.pllbPerm || (!s.lane.returning && !s.imb Img.clkRet), holdLen := min 0xFFFF (len * s.cycTime), holdMax := max s.lane.holdMax (min 0xFFFF (len * s.cycTime)), endCyc := some (s.cyc + len) } ∧
    t.cyc = s.cyc + len ∧ (∀ r, r < 40 → (t.rail r).hold = false) ∧ (s.lane.swSrc = 263 ∨ s.lane.swSrc = 265 → (t.src s.lane.swSrc).line = true) ∧
    t.outside = { s.outside with lane := t.lane, rails := t.rails, lathe := t.lathe, cyc := t.cyc, glb := { s.outside.glb with lineAt := none } }) ∧
  (s.lane.switching = false → exec (.clockSwitchDone len) s = .next s.drain))

/-- R304, R306 to R309, R312: a reference that disagrees leaves its consumers to another one; the pairs turn off on
reverse current or over-voltage and on again when both allow it; a watched supply follows its bit; LANE_HOLD_PK_CLR
clears the peak, and a hold that ends in the same core cycle loads it after the clear (R313). -/
def Obligations.SuppliesAndReferences : Prop := ∀ s : State, s.ready →
  (∀ k : Fin 3, runsTo (.referenceDisagree k true) s fun t => (t.src (269 + k)).line = true ∧ t.lane = s.lane.moveRef k ∧
    t.lane.refOk = mask3 s.lane.refOk k false ∧ t.outside = { s.outside with lane := t.lane }) ∧
  (∀ k : Fin 3, runsTo (.referenceDisagree k false) s fun t => (t.src 269).line = true ∧ (t.src 270).line = true ∧ (t.src 271).line = true ∧
    t.outside = { s.outside with lane := { s.lane with refOk := 0 } }) ∧
  (∀ b, runsTo (.reverseCurrent b) s fun t => t.lane.pairRc = mask2 s.lane.pairRc b true ∧ t.lane.pairOn = mask2 s.lane.pairOn b false ∧
    (t.src (356 + b2n b)).holds = (s.src (356 + b2n b)).holds ||| 2 ∧ ((s.src (356 + b2n b)).holds = 0 → (t.src (356 + b2n b)).line = true) ∧
    t.outside = { s.outside with lane := { s.lane with pairRc := t.lane.pairRc, pairOn := t.lane.pairOn } }) ∧
  (∀ b, s.lane.pairRc.getLsbD (b2n b) = true → (s.src (356 + b2n b)).holds = 2 → runsTo (.idealDiodeReenable b) s fun t =>
    t.lane.pairRc = mask2 s.lane.pairRc b false ∧ t.lane.pairOn = mask2 s.lane.pairOn b (!s.lane.pairOv.getLsbD (b2n b)) ∧
    (t.src (356 + b2n b)).line = false ∧ t.outside = { s.outside with lane := { s.lane with pairRc := t.lane.pairRc, pairOn := t.lane.pairOn } }) ∧
  (∀ b, runsTo (.vinOvervoltage b) s fun t => t.lane.pairOv = mask2 s.lane.pairOv b true ∧ t.lane.pairOn = mask2 s.lane.pairOn b false ∧
    (t.src (354 + b2n b)).line = true ∧ t.outside = { s.outside with lane := { s.lane with pairOv := t.lane.pairOv, pairOn := t.lane.pairOn } }) ∧
  (∀ b, s.lane.pairOv.getLsbD (b2n b) = true → runsTo (.vinOvRelease b) s fun t =>
    t.lane.pairOv = mask2 s.lane.pairOv b false ∧ t.lane.pairOn = mask2 s.lane.pairOn b (!s.lane.pairRc.getLsbD (b2n b)) ∧
    (t.src (354 + b2n b)).line = false ∧ t.outside = { s.outside with lane := { s.lane with pairOv := t.lane.pairOv, pairOn := t.lane.pairOn } }) ∧
  (∀ b, (s.src (356 + b2n b)).holds = 0 → runsTo (.idealDiodeGateFault b) s fun t => (t.src (356 + b2n b)).line = true ∧ (t.src (356 + b2n b)).holds = 1 ∧
    t.outside = s.outside) ∧
  (∀ sup, s.supplyWatched sup = true → (s.src (supplyPlace sup).1).holds = 0 → runsTo (.supplyUndervoltage sup true) s fun t =>
    (t.src (supplyPlace sup).1).line = true ∧
    t.outside = { s.outside with lane := { s.lane with supLow := s.lane.supLow ||| BitVec.ofNat 17 (2 ^ (supplyPlace sup).2.2) } }) ∧
  (∀ sup low, s.supplyWatched sup = false → exec (.supplyUndervoltage sup low) s = .next s) ∧
  (s.lane.endCyc ≠ some s.cyc → exec .laneHoldPkClr s = .next (s.modLane fun x => { x with holdMax := 0 })) ∧
  (s.lane.endCyc = some s.cyc → exec .laneHoldPkClr s = .next (s.modLane fun x => { x with holdMax := x.holdLen }))

/-- R350, R355 to R357, R381, R388: an eyelet trains when it locks, is UP once its echo returns, is FOREIGN against another
root, the parent eyelet too, and DOWN when lock or HELLO fails, with its sources; the parent eyelet takes the parent with
it. A training eyelet whose lock is lost goes back (the model's reading, assumption 40). A DOWN eyelet answers nothing. -/
def Obligations.EyeletsChangeState : Prop := ∀ (s : State) (e : Fin 4), s.ready → s.laceOn e = true →
  ((s.eye e).st = .down → runsTo (.eyeletLock e) s fun t =>
    t.eye e = { s.eye e with st := .train, sent := BitVec.ofNat 16 s.cyc :: (s.eye e).sent.filter (· ≠ BitVec.ofNat 16 s.cyc), hello := some (s.helloOf e) } ∧
    (∀ j, j ≠ e.val → t.eye j = s.eye j) ∧ t = { s with lace := t.lace }) ∧
  ((s.eye e).st ≠ .down → exec (.eyeletLock e) s = .next s) ∧
  (∀ c, c = .eyeletLockLoss e ∨ c = .helloTimeout e → (s.eye e).st = .up → s.lace.parent ≠ some e.val → runsTo c s fun t =>
    (t.eye e).st = .down ∧ (t.src (320 + 3 * e)).line = true ∧ t.lace.parent = s.lace.parent ∧ t.outside = { s.outside with lace := t.lace }) ∧
  (∀ c, c = .eyeletLockLoss e ∨ c = .helloTimeout e → (s.eye e).st = .up → s.lace.parent = some e.val → s.lace.energy = none → runsTo c s fun t =>
    (t.eye e).st = .down ∧ (t.src (320 + 3 * e)).line = true ∧ (t.src 332).line = true ∧ t.lace.parent = none ∧ t.lace.mySlot = 0 ∧ t.lace.hop = 255 ∧
    t.outside = { s.outside with lace := t.lace }) ∧
  ((s.eye e).st = .train → s.lace.parent ≠ some e.val → exec (.helloTimeout e) s = .next s ∧ runsTo (.eyeletLockLoss e) s fun t =>
    (t.eye e).st = .down ∧ t.srcs = s.srcs ∧ t = { s with lace := t.lace }) ∧
  (∀ c, c = .eyeletLockLoss e ∨ c = .helloTimeout e ∨ c = .helloSend e → (s.eye e).st = .down → exec c s = .next s) ∧
  ((s.eye e).st ≠ .down → runsTo (.helloSend e) s fun t =>
    t.eye e = { s.eye e with sent := BitVec.ofNat 16 s.cyc :: (s.eye e).sent.filter (· ≠ BitVec.ofNat 16 s.cyc), hello := some (s.helloOf e) } ∧
    (∀ j, j ≠ e.val → t.eye j = s.eye j) ∧ t = { s with lace := t.lace }) ∧
  (∀ h arr, (s.eye e).st = .down → exec (.hello e h arr) s = .next s) ∧
  (∀ h arr, (s.eye e).st = .train → (s.eye e).sent.contains h.echo = true → s.lace.parent ≠ some e.val → s.lace.hop = 255 → runsTo (.hello e h arr) s fun t =>
    (t.eye e).st = .up ∧ (t.eye e).txSeq = 0 ∧ (t.eye e).rxSeq = 0 ∧ (t.eye e).unacked = [] ∧ (t.eye e).txQ = [] ∧ (t.eye e).peer = h.uid ∧
    (t.eye e).rtt = (arr - h.echo - h.turn).toNat ∧ (t.src (320 + 3 * e)).line = false ∧ (∀ j, j ≠ e.val → t.eye j = s.eye j) ∧
    t.outside = { s.outside with lace := t.lace }) ∧
  (∀ h arr, (s.eye e).st = .up → h.hop ≠ 255 → s.lace.hop ≠ 255 → h.rootUid ≠ s.lace.rootUid → runsTo (.hello e h arr) s fun t =>
    (t.eye e).st = .foreign ∧ (t.eye e).unacked = [] ∧ (t.eye e).txQ = [] ∧ (t.src 334).line = true ∧ t.lace.rootUid = s.lace.rootUid ∧ (∀ j, j ≠ e.val → t.eye j = s.eye j) ∧
    t.outside = { s.outside with lace := t.lace }) ∧
  (∀ h arr, (s.eye e).st = .up → s.lace.parent = some e.val → h.hop = 255 ∨ s.lace.hop = 255 ∨ h.rootUid = s.lace.rootUid → runsTo (.hello e h arr) s fun t =>
    t.lace.hop = (if h.hop = 255 then 255 else h.hop.toNat + 1) ∧ t.lace.rootUid = (if h.hop = 255 then s.lace.rootUid else h.rootUid) ∧
    (t.eye e).st = .up ∧ t = { s with lace := t.lace })

/-- R353, R355, R357, R359: LINK frames carry the limits of now; a received one drops the acknowledged frames, repeats
the others on NAK and ends the wait for credit; discarded frames are counted against the threshold; an unexpected
SEQ sets NAK; a time-out repeats the unacknowledged frames; a class that waits too long for credit asserts FS322 +
3e. -/
def Obligations.LinksCountAndResend : Prop := ∀ (s : State) (e : Fin 4), s.ready → s.laceOn e = true →
  ((s.eye e).st = .up ∨ (s.eye e).st = .foreign → exec (.linkSend e) s = .next (s.modEye e fun x => { x with links := x.links + 1, granted := s.grantNow e, nak := false, link := some (x.rxSeq - 1, x.nak, (List.range 4).map fun c => (s.grantNow e).get 0 c) })) ∧
  (∀ ack f rest nak cr, (s.eye e).st = .up → (s.eye e).txQ = [] → (s.eye e).unacked = (ack, f) :: rest → runsTo (.link e ack nak cr) s fun t =>
    (t.eye e).unacked = rest ∧ (t.eye e).retx = (s.eye e).retx + (if nak then BitVec.ofNat 32 rest.length else 0) ∧
    (∀ c, c < 4 → (t.eye e).limits.get 0 c = (cr.getD c 0).toNat) ∧ (t.src (322 + 3 * e)).line = false ∧ (∀ j, j ≠ e.val → t.eye j = s.eye j) ∧
    t.outside = { s.outside with lace := t.lace }) ∧
  ((s.eye e).crcWin = 0 → runsTo (.frameDiscard e) s fun t => t.eye e = { s.eye e with crc := (s.eye e).crc + 1, crcWin := 1, crcStart := s.time } ∧
    (t.src (321 + 3 * e)).line = decide (s.im Img.laceCrcThr e < 1) ∧ (∀ j, j ≠ e.val → t.eye j = s.eye j) ∧ t.outside = { s.outside with lace := t.lace }) ∧
  ((s.eye e).crcWin ≠ 0 → s.time < (s.eye e).crcStart + 1000000 * usTime → runsTo (.frameDiscard e) s fun t =>
    t.eye e = { s.eye e with crc := (s.eye e).crc + 1, crcWin := (s.eye e).crcWin + 1 } ∧
    (t.src (321 + 3 * e)).line = decide (s.im Img.laceCrcThr e < (s.eye e).crcWin + 1) ∧ (∀ j, j ≠ e.val → t.eye j = s.eye j) ∧
    t.outside = { s.outside with lace := t.lace }) ∧
  ((s.eye e).st = .up → exec (.sequenceReject e) s = .next (s.modEye e fun x => { x with nak := true })) ∧
  ((s.eye e).st = .up → exec (.resendTimeout e) s = .next (s.modEye e fun x => { x with retx := x.retx + BitVec.ofNat 32 x.unacked.length })) ∧
  (∀ c, (s.eye e).st = .up → (s.eye e).starved c.val = true → runsTo (.creditTimeout e c) s fun t => (t.src (322 + 3 * e)).line = true ∧ t.outside = s.outside) ∧
  (∀ c, (s.eye e).starved c.val = false → exec (.creditTimeout e c) s = .next s) ∧
  ((s.eye e).st ≠ .up → (∀ c, exec (.creditTimeout e c) s = .next s) ∧ exec (.sequenceReject e) s = .next s ∧ exec (.resendTimeout e) s = .next s ∧
    ∀ ack nak cr, exec (.link e ack nak cr) s = .next s)

/-- R358, R360 to R364, R381: a relay passes a frame on when it has credit; a domain head announces its tick; a valid marker
sets the next tick, one whose CRC-8 fails is counted, one below the unit's own next tick is as if not received; a unit without markers for 3 epochs is
orphaned. R107, R357, R369, R374, R375, R378, R380, R384, R536: an operation from the parent waits at port 3; a
completion for no operation is counted late; a counted slot's set is staged and delivers its epoch; a standby root
keeps what is mirrored; ring bytes of a member enter the receive buffer. -/
def Obligations.FramesMarkersAndOperationsPass : Prop :=
  (∀ (s : State) (e : Fin 4), s.ready → s.glb.mode = .run →
  (∀ (p : Fin 4) f, s.framesPass e = true → f.kind = .delta → s.lace.parent = some p.val → p ≠ e → (s.eye p).st = .up → (s.eye p).txQ = [] →
    (s.eye p).maySend f = true → runsTo (.frameForward e f) s fun t =>
    (t.eye p).unacked = (s.eye p).unacked ++ [((s.eye p).txSeq, f)] ∧ (t.eye p).txSeq = (s.eye p).txSeq + 1 ∧ (t.eye p).txQ = [] ∧
    (t.eye e).rxSeq = (s.eye e).rxSeq + 1 ∧ (t.eye e).nak = false ∧ t = { s with lace := t.lace }) ∧
  (∀ f, s.framesPass e = false → exec (.frameForward e f) s = .next s) ∧
  (s.isDomainHead = true → s.lace.left = false → runsTo .markerSend s fun t =>
    t.lace.markers = s.lace.markers + s.childEyes.length ∧ t.lace.jump = s.lace.jump - 1 ∧
    (∃ m, t.lace.lastMarker = some m ∧ m.countdown = 12500 ∧ m.epoch = BitVec.ofNat 48 (s.tickNumber s.markerLead) ∧ m.jump = (s.lace.jump != 0) ∧
      m.takeover = s.rootTook ∧ m.crc = crc8 (markerSymbols m)) ∧
    t = { s with lace := t.lace }) ∧
  (s.isDomainHead = false → exec .markerSend s = .next s) ∧
  (∀ m : Marker, s.framesPass e = true → m.crc = crc8 (markerSymbols m) → s.lace.parent = some e.val → s.lace.raiseTo = none → s.led.epoch ≤ m.epoch.toNat →
    m.epoch.toNat ≤ s.led.epoch + s.markerLead →
    s.childEyes = [] → runsTo (.epochMarker e m) s fun t =>
    t.tickAt = s.cyc + m.countdown.toNat - (s.eye e).rtt / 2 - (m.epoch.toNat - s.led.epoch) * (250 * s.im Img.epochUs) ∧
    t.lace.noMarker = 0 ∧ t.lace.sinceMarker = 0 ∧ t.lace.markerEpoch = m.epoch.toNat ∧ t.lace.ddiv = m.ddiv.val ∧ t.lace.raiseTo = none ∧
    t = { s with tickAt := t.tickAt, lace := t.lace, freeCtr := t.freeCtr }) ∧
  (∀ m : Marker, s.framesPass e = true → m.crc = crc8 (markerSymbols m) → s.lace.parent = some e.val → s.tickNumber 0 ≤ m.epoch.toNat → s.tickNumber s.markerLead < m.epoch.toNat →
    runsTo (.epochMarker e m) s fun t =>
    t.lace.raiseTo = some m.epoch.toNat ∧ t.lace.raiseIn = s.markerLead ∧ t.lace.noMarker = 0 ∧ t = { s with tickAt := t.tickAt, lace := t.lace, freeCtr := t.freeCtr }) ∧
  (∀ m : Marker, m.crc = crc8 (markerSymbols m) → m.epoch.toNat < s.tickNumber 0 → exec (.epochMarker e m) s = .next s) ∧
  (∀ m : Marker, s.framesPass e = true → m.crc ≠ crc8 (markerSymbols m) → exec (.epochMarker e m) s = .next (s.modEye e fun x => { x with crc := x.crc + 1 })) ∧
  (3 ≤ s.lace.noMarker → s.lace.parent = some e.val → s.lace.energy = none → runsTo .parentLost s fun t =>
    t.lace.parent = none ∧ t.lace.hop = 255 ∧ t.lace.mySlot = 0 ∧ t.lace.relays = [] ∧ (t.src 332).line = true ∧ t.outside = { s.outside with lace := t.lace }) ∧
  (s.lace.noMarker < 3 → exec .parentLost s = .next s)) ∧
  (∀ (s : State) (e : Fin 4), s.ready → s.framesPass e = true →
  (∀ (dst : Fin 64) ws otag, s.lace.parent = some e.val → dst.val = s.lace.mySlot → s.isGroupHead = false → runsTo (.op e dst ws otag) s fun t =>
    t.asks 3 { Req.ofWords ws.w0 ws.w1 ws.w2 ws.w3 with ep := liOf (Req.ofWords ws.w0 ws.w1 ws.w2 ws.w3).ep, cls := 3, bnd := false, tree := (Req.ofWords ws.w0 ws.w1 ws.w2 ws.w3).bnd, fep := liOf (Req.ofWords ws.w0 ws.w1 ws.w2 ws.w3).ep, otag := otag.toNat } ∧
    (t.eye e).rxSeq = (s.eye e).rxSeq + 1 ∧ (t.eye e).opRcvd = ((s.eye e).opRcvd + 1) % 256 ∧ t = { s with lace := t.lace, pipe := t.pipe }) ∧
  (∀ dst ws otag, s.lace.parent ≠ some e.val → exec (.op e dst ws otag) s = .next s) ∧
  (∀ ws otag, s.lace.parent = some e.val → exec (.cpl e ws otag) s = .next s) ∧
  (∀ ws (otag : BitVec 10), s.isDomainHead = true → s.lace.parent ≠ some e.val → s.slotAt otag.toNat = none → runsTo (.cpl e ws otag) s fun t =>
    t.pipe = { s.pipe with lateCnt := s.pipe.lateCnt + 1 } ∧ (t.eye e).rxSeq = (s.eye e).rxSeq + 1 ∧ t = { s with lace := t.lace, pipe := t.pipe }) ∧
  (∀ ws (otag : BitVec 10), s.isDomainHead = false → s.lace.parent = none → runsTo (.cpl e ws otag) s fun t =>
    t.lace.relays = s.lace.relays.erase (otag.toNat, e.val) ∧ t = { s with lace := t.lace }) ∧
  (∀ (src : Fin 64) (d : DeltaFrame), s.isDomainHead = true → s.lace.parent ≠ some e.val → (s.slotRec src).st = .counted → d.last = true → d.full = false → d.parked = false →
    s.lace.staged = [] → runsTo (.delta e src d) s fun t =>
    t.lace.staged = [(src.val, d.epoch.toNat, true, d.recs.map fun x => (x.1.val, Entry.ofWords x.2))] ∧
    t.slotRec src = { s.slotRec src with ep := d.epoch.toNat, counts := (s.slotRec src).deliveredBy s.cyc, coming := (s.slotRec src).coming.filter (fun y => decide (s.cyc < y.2)) ++ [(d.epoch.toNat, s.cyc + (d.recs.length + 3) / 4 + 16)] } ∧ (∀ k, k ≠ src.val → t.slotRec k = s.slotRec k) ∧ t = { s with lace := t.lace }) ∧
  (∀ (src : Fin 64) (d : DeltaFrame), s.isDomainHead = true → s.lace.parent ≠ some e.val → ((s.slotRec src).st = .free ∨ (s.slotRec src).st = .unreachable) → runsTo (.delta e src d) s fun t =>
    t.lace.staged = s.lace.staged ∧ t.lace.slots = s.lace.slots ∧ t = { s with lace := t.lace }) ∧
  (∀ m : MirrorFrame, s.lace.parent = some e.val → s.glb.role = 2 → m.last = true → runsTo (.mirror e m) s fun t =>
    t.lace.mirrorEpoch = (if m.slots = [] then some m.epoch.toNat else s.lace.mirrorEpoch) ∧ (m.recs = [] → t.lace.shadow = s.lace.shadow) ∧
    (∀ x, m.recs = [x] → t.lace.shadow.get {} x.1.val = Entry.ofWords x.2) ∧ t = { s with lace := t.lace }) ∧
  (∀ m : MirrorFrame, s.lace.parent ≠ some e.val → exec (.mirror e m) s = .next s) ∧
  (∀ src ofs d, s.lace.parent ≠ some e.val → s.isDomainHead = true → runsTo (.bulk e src { kind := 1, ofs := ofs, data := d }) s fun t =>
    t.recd = { s.recd with remBuf := (s.recd.remBuf ++ d).take 65536 } ∧ (t.eye e).rxSeq = (s.eye e).rxSeq + 1 ∧ t = { s with lace := t.lace, recd := t.recd }))

/-- R365 to R371, R377, R391: a unit without a slot asks the offer with the lowest hop count; a domain head grants the
slot of R366 or refuses with its cause; a grant gives the unit its slot; a slot that leaves or whose hold passes is
FREE, one that is reported lost is declared at the next tick; a wake order holds IDLE for 100 µs. -/
def Obligations.UnitsJoinAndLeave : Prop := ∀ (s : State) (e : Fin 4), s.ready → s.glb.mode = .run →
  (∀ c j h, (c = .joinRequest ∧ s.lace.joining = none) ∨ (c = .joinRetry ∧ s.lace.refused = true) → s.mayJoin = true → s.lace.mySlot = 0 →
    s.chooseParent = some (j, h) → runsTo c s fun t =>
    t.lace.parent = some j ∧ t.lace.hop = h.hop.toNat + 1 ∧ t.lace.rootUid = h.rootUid ∧ t.lace.joining = some s.lace.formerSlot ∧
    t.lace.refused = false ∧ t.lace.noMarker = 0 ∧ t.lace.sinceMarker = s.lace.sinceMarker ∧ t.lace.mySlot = 0 ∧ t = { s with lace := t.lace }) ∧
  (s.chooseParent = none → exec .joinRequest s = .next s ∧ exec .joinRetry s = .next s) ∧
  (∀ src j len hops c, s.framesPass e = true → s.isDomainHead = true → s.lace.parent ≠ some e.val → s.joinDecide j len = (c, 0) → c ≠ 0 → runsTo (.joinReq e src j len hops) s fun t =>
    t.lace.joinRef = satAdd 0xFFFF s.lace.joinRef 1 ∧ t.lace.slots = s.lace.slots ∧ t = { s with lace := t.lace }) ∧
  (∀ src j len hops sl, s.framesPass e = true → s.isDomainHead = true → s.lace.parent ≠ some e.val → s.joinDecide j len = (0, sl) → runsTo (.joinReq e src j len hops) s fun t =>
    t.slotRec sl = { st := .joining, uid := j.uid, eye := e.val, hop := hops, gh := j.role.val == 4, sb := j.role.val == 2 } ∧
    (∀ k, k ≠ sl → t.slotRec k = s.slotRec k) ∧ t.lace.joinRef = s.lace.joinRef ∧ t = { s with lace := t.lace }) ∧
  (∀ j : Join, s.framesPass e = true → s.lace.parent = some e.val → j.uid = s.uid → s.lace.joining ≠ none → j.slot.val ≠ 0 → runsTo (.joinGrant e j) s fun t =>
    t.lace.mySlot = j.slot.val ∧ t.lace.joining = none ∧ t.lace.fullSet = true ∧ t.lace.grantEp = s.led.epoch ∧ t.lace.refused = false ∧ (t.src 332).line = false ∧
    t.outside = { s.outside with lace := t.lace }) ∧
  (∀ j : Join, s.framesPass e = true → s.lace.parent = some e.val → j.uid = s.uid → s.lace.joining ≠ none → j.slot.val = 0 → runsTo (.joinGrant e j) s fun t =>
    t.lace.mySlot = s.lace.mySlot ∧ t.lace.joining = none ∧ t.lace.refused = true ∧ t = { s with lace := t.lace }) ∧
  (∀ uid sl, s.framesPass e = true → s.isDomainHead = true → s.lace.parent ≠ some e.val → (List.range 64).find? (fun k => (s.slotRec k).st != .free && (s.slotRec k).uid == uid) = some sl → s.led.cmtNow < 3840 →
    runsTo (.leave e uid) s fun t => t.slotRec sl = {} ∧ t.led.slotPres.get .present sl = .free ∧ (∀ k, k ≠ sl → t.slotRec k = s.slotRec k) ∧
    t = { s with lace := t.lace, led := t.led }) ∧
  (∀ i, s.glb.role = 0 → exec (.leaveCommand i) s = .next s) ∧
  (∀ i, s.glb.role ≠ 0 → s.isDomainHead = false → runsTo (.leaveCommand i) s fun t =>
    t.glb = { s.glb with role := 0 } ∧ t.lace.left = true ∧ t.lace.parent = none ∧ t.lace.mySlot = 0 ∧ t.lace.hop = 255 ∧ t = { s with lace := t.lace, glb := t.glb }) ∧
  (∀ (m : BitVec 64) (k : Fin 64), s.framesPass e = true → s.isDomainHead = true → s.lace.parent ≠ some e.val → k.val ≠ 0 → m.getLsbD k = true → (s.slotRec k).st = .counted →
    runsTo (.lost e m) s fun t => t.slotRec k = { s.slotRec k with lost := true } ∧ t = { s with lace := t.lace }) ∧
  (∀ sl : Fin 64, s.isDomainHead = true → (s.slotRec sl).st = .unreachable → s.im Img.laceHoldS ≠ 0 → s.slotReserved sl = none → s.led.cmtNow < 3840 → runsTo (.slotHoldExpire sl) s fun t =>
    t.slotRec sl = {} ∧ t.led.slotPres.get .present sl = .free ∧ (∀ k, k ≠ sl.val → t.slotRec k = s.slotRec k) ∧ t = { s with lace := t.lace, led := t.led }) ∧
  (∀ sl : Fin 64, s.slotReserved sl ≠ none → exec (.slotHoldExpire sl) s = .next s) ∧
  (∀ i (sl : Fin 64), s.isDomainHead = true → sl.val ≠ 0 → s.laceOn (s.slotRec sl).eye = true →
    exec (.wakeSlotCommand i sl) s = .next (s.modEye (s.slotRec sl).eye fun x => { x with idleUntil := s.time + 100 * usTime })) ∧
  (∀ i (sl : Fin 64), s.laceOn (s.slotRec sl).eye = false → exec (.wakeSlotCommand i sl) s = .next s) ∧
  (∀ i, exec (.wakeSlotCommand i 0) s = .next s) ∧ (s.glb.parkPend = false → exec .laceWakeDetect s = .next s)

/-- R385, R386, R394, R395: a standby root whose conditions hold becomes root, presents its former slot UNREACHABLE,
notes FS337 and clears FS332; the time limit ends an energy order; a sinking end that loses its cover turns to
SOURCE and drives NET while the pack permits it; in PARKED a signal on the parent eyelet is wake condition 2. -/
def Obligations.TakeoverAndEnergyOrders : Prop := ∀ s : State, s.ready →
  (s.glb.mode = .run → s.glb.role = 2 → s.imb Img.laceTakeEn = true → s.im Img.laceTakeEp ≤ s.lace.sinceMarker → s.lace.mirrorOkAtMarker = true →
    (∀ e, e < 4 → (s.eye e).st ≠ .up) → s.lace.mySlot ≠ 0 → s.led.cmtNow < 3840 → runsTo .takeover s fun t =>
    t.lace.hop = 0 ∧ t.lace.rootUid = s.uid ∧ t.lace.parent = none ∧ t.lace.mySlot = 0 ∧ t.slotRec s.lace.mySlot = { st := .unreachable, uid := s.lace.rootUid } ∧
    t.led.slotPres.get .present s.lace.mySlot = .unreachable s.led.epoch ∧ (t.src 332).line = false ∧ (t.src 337).line = false ∧
    t.outside = { s.outside with glb := { s.outside.glb with role := 1, takenOver := true }, lace := t.lace }) ∧
  (s.glb.role ≠ 2 ∨ s.imb Img.laceTakeEn = false ∨ s.lace.sinceMarker < s.im Img.laceTakeEp ∨ s.lace.mirrorOkAtMarker = false → exec .takeover s = .next s) ∧
  (∀ o, s.lace.energy = some o → o.tlim ≠ 0 → runsTo .energyTimeLimit s fun t =>
    t.lace = { s.lace with energy := none } ∧ t.chg.conv = false ∧ t.chg.mode = 0 ∧ t.chg.netOn = false ∧
    t.asks 6 (stateReq liCharger .off 5 0x22) ∧ t.outside = { s.outside with lace := t.lace, chg := t.chg }) ∧
  (s.glb.mode = .parked → s.lace.parent ≠ none → s.glb.waking = none → exec .laceWakeDetect s = .next (s.modGlb fun g => { g with waking := some (2, s.cyc) })) ∧
  (s.lace.energy = none → exec .energyTimeLimit s = .next s ∧ exec .netCoverLoss s = .next s) ∧
  (∀ o, s.lace.energy = some o → o.order = 2 → exec .netCoverLoss s =
    .next ((s.modLace fun l => { l with energy := some { o with order := 1, tlim := 0 } }).modChg fun c => { c with mode := 6, conv := decide (s.im Img.chgRevVmin ≤ c.vpack), solOn := false, netOn := true, source := none, switchTo := none }))

/-- R397 to R400: a poll period makes every item wait for its poll, which begins when TWB1 is free; a transaction that fails
counts, and the third one declares the device UNREACHABLE; an operation that its read-back confirms commits; an answered
poll publishes the readings and leaves the other items as they are. The accesses are those of R397, in its order. -/
def Obligations.ForeignDevicesArePolled : Prop := ∀ (s : State) (d : Fin 32), s.ready →
  (s.imb Img.twb1DUsed d = true → runsTo (.foreignPoll d) s fun t => (t.fdev d).polling = true ∧
    (∀ i ∈ s.devItems d, (t.fdev d).miss.get 0 i = (s.fdev d).miss.get 0 i + 1) ∧
    (s.lace.twb1 ≠ none ∨ s.twb1Op ≠ none → t.lace = s.lace) ∧
    (s.lace.twb1 = none → s.twb1Op = none → (∀ k, k < d.val → (s.fdev k).polling = false) → t.lace = { s.lace with twb1 := some d.val }) ∧
    (∀ j, j ≠ d.val → t.fdev j = s.fdev j) ∧ t = { s with foreign := t.foreign, pipe := t.pipe, lace := t.lace }) ∧
  (s.imb Img.twb1DUsed d = true → (s.fdev d).fails < 2 → runsTo (.twb1TransactionDone d .failed) s fun t =>
    t.fdev d = { s.fdev d with fails := (s.fdev d).fails + 1, nack := satAdd 0xFFFF (s.fdev d).nack 1, polls := 0, polling := (s.fdev d).polling && s.lace.twb1 != some d.val } ∧
    (s.lace.twb1 ≠ none → s.lace.twb1 ≠ some d.val → t.lace = s.lace) ∧ (∀ j, j ≠ d.val → t.fdev j = s.fdev j) ∧ t = { s with foreign := t.foreign, lace := t.lace }) ∧
  (s.imb Img.twb1DUsed d = true → (s.fdev d).fails = 2 → s.devGone d = false → s.led.cmtNow < 3840 → s.inFlight = [] → s.pipe.fastQ = [] → s.pipe.normQ = [] → s.pipe.bundles = [] →
    (∀ i, i < 16 → s.edges.any (fun x => x.1 == liForeign (16 * d + i)) = false) → runsTo (.twb1TransactionDone d .failed) s fun t =>
    (t.fdev d).fails = 3 ∧ t.led.devPres.get .present d = .unreachable s.led.epoch ∧ (∀ j, j ≠ d.val → t.fdev j = s.fdev j) ∧
    t = { s with foreign := t.foreign, led := t.led, lace := t.lace }) ∧
  (∀ word status, s.imb Img.twb1DUsed d = true → s.devOp d = none → exec (.twb1TransactionDone d (.opDone word status)) s = .next s.twb1Begin) ∧
  (∀ (i : Fin 16) k x rb status, s.imb Img.twb1DUsed d = true → s.devOp d = some (k, x) → s.slotAt k = some x → x.op.req.ep = liForeign (16 * d + i) → x.op.req.kind = .setpoint →
    x.op.bundle = none → x.replacedBy = none → rb = (s.foreignWord (16 * d + i) x.op).1 → s.pipe.soleQ = [] → s.lace.twb1 = none →
    runsTo (.twb1TransactionDone d (.opDone rb status)) s fun t => (t.fdev d).fails = 0 ∧ (t.fdev d).wire = s.foreignWrites (16 * d + i) x.op ∧
    t.slotAt k = some { x with confirmed := true } ∧ t.pipe.soleQ.map (fun c => (c.op, c.link, c.final, c.slot)) = [(x.op, none, true, some k)] ∧
    (∀ j, j ≠ d.val → t.fdev j = s.fdev j) ∧ t = { s with foreign := t.foreign, pipe := t.pipe, freeCtr := t.freeCtr, lace := t.lace }) ∧
  (∀ (i : Fin 16) v, s.imb Img.twb1DUsed d = true → s.lace.twb1 = some d.val → s.devGone d = false → 2 ≤ s.im Img.twb1IType (16 * d.val + i.val) →
    runsTo (.twb1TransactionDone d (.pollDone [(i, v)] [])) s fun t =>
    (t.fdev d).fails = 0 ∧ (t.fdev d).polling = false ∧ (t.fdev d).wire = s.foreignReads d ∧ (t.fdev d).miss.get 0 i = 0 ∧
    (∀ j, j ≠ i.val → (t.fdev d).miss.get 0 j = (s.fdev d).miss.get 0 j) ∧
    t.asks 7 { ep := liForeign (16 * d.val + i.val), kind := .publish, val := (s.foreignRead (16 * d.val + i.val) v).1, val2 := 1, cls := 5, reqr := 0x29 } ∧
    (∀ j, j ≠ d.val → t.fdev j = s.fdev j) ∧ t = { s with foreign := t.foreign, pipe := t.pipe, freeCtr := t.freeCtr, lace := t.lace }) ∧
  (∀ vs os, s.imb Img.twb1DUsed d = true → s.lace.twb1 ≠ some d.val → exec (.twb1TransactionDone d (.pollDone vs os)) s = .next s.twb1Begin) ∧
  (∀ r, s.imb Img.twb1DUsed d = false → exec (.foreignPoll d) s = .next s ∧ exec (.twb1TransactionDone d r) s = .next s)

/-- R403, R404: a calibrated free slice takes the position whose turn it is and the slice that held it becomes free; a
result outside the limits retires the slice and asserts FS384 + k. R409: a conversion start counts in its sequencer
and leaves the others, on its two positions in turn; a derived source takes one step and gives its value in it. R422: in PARKED a permitted sequencer runs its list once, on its first position alone, and its results are awaited. R418: a
metering result is limited to 24 bits, and the calibrated one is (raw − offset) × gain / 2^22, rounded and limited.
R419: zero and full scale start only while none runs; restore takes the image's coefficients and forgets the learned
ones. -/
def Obligations.SlicesMetersAndSequencers : Prop :=
  (∀ s : State, s.lanesRun →
  (∀ k ofs gain, s.adc.free = some k → k < 17 → s.glb.mode = .run →
    (calOk ofs gain = true → s.adc.calRound < 16 → exec (.sliceCalibration ofs gain) s = .next (s.modAdc fun a => { a with slices := a.slices.set (0, 0x8000) k (ofs, gain), pos := a.pos.set none a.calPos (some k), free := a.pos.get none a.calPos, calPos := (a.calPos + 1) % 16, calRound := a.calRound + 1 })) ∧
    (calOk ofs gain = false → runsTo (.sliceCalibration ofs gain) s fun t => t.adc.retired.getLsbD k = true ∧ t.adc.free = none ∧
      (t.src (384 + k)).line = true ∧ t.outside = { s.outside with adc := t.adc })) ∧
  (∀ q : Fin 8, s.glb.mode = .run → s.imb Img.adcSeqUsed q = true → (s.aseq q).run = true → s.npos q = 2 → (s.aseq q).delay = 0 →
    srcDerived (s.chSrc (s.seqEntry (s.aseq q).idx).ch) = false → (s.aseq q).conv + 1 < 2 ^ (s.seqEntry (s.aseq q).idx).rep →
    exec (.conversionStep q) s = .next (s.modAseq q fun x => { x with steps := x.steps + 1, conv := x.conv + 1, ended := x.ended || (s.seqEntry x.idx).fin, turn := !x.turn, slices := x.slices ++ (s.adc.pos.get none (if x.turn then 2 * q + 1 else 2 * q)).toList })) ∧
  (∀ q : Fin 8, s.glb.mode = .run → s.imb Img.adcSeqUsed q = true → (s.aseq q).run = true → 0 < s.npos q → (s.aseq q).delay = 0 →
    srcDerived (s.chSrc (s.seqEntry (s.aseq q).idx).ch) = true → (s.seqEntry (s.aseq q).idx).delay = 0 → (s.aseq q).conv = 0 → runsTo (.conversionStep q) s fun t =>
    (t.aseq q).due = (s.aseq q).due ++ [((s.aseq q).idx, s.derivedX (s.chSrc (s.seqEntry (s.aseq q).idx).ch), (s.aseq q).slices)] ∧
    (t.aseq q).turn = (s.aseq q).turn ∧ (∀ r, r ≠ q.val → t.aseq r = s.aseq r) ∧ t = { s with adc := t.adc }) ∧
  (∀ q : Fin 8, s.glb.mode = .parked → s.imb Img.adcSeqUsed q = true → s.imb Img.adcSeqPark q = true →
    (s.adc.pos.get none (2 * q)).isSome = true → runsTo (.parkedListRun q) s fun t =>
    (t.aseq q).idx = s.im Img.adcSeqFirst q ∧ (t.aseq q).loops = (s.aseq q).loops + 1 ∧
    (t.aseq q).due = (s.aseq q).due ++ (s.seqList 256 (s.im Img.adcSeqFirst q)).map (s.parkedEntry q) ∧ (∀ r, r ≠ q.val → t.aseq r = s.aseq r) ∧
    t = { s with adc := t.adc })) ∧
  (∀ (s : State) (m : Fin 2), s.ready → s.imb Img.adcMtrUsed m = true →
  (∀ raw, s.glb.mode = .run → (s.meter m).cal = none → runsTo (.meteringResult m raw) s fun t =>
    (t.meter m).raw = sat24 raw ∧
    (t.meter m).val = sat24 (asr ((sat24 raw - (s.meter m).ofs) * (s.meter m).gain + 2 ^ 21) 22) ∧
    (t.meter m).ofs = (s.meter m).ofs ∧ (t.meter m).gain = (s.meter m).gain ∧ (∀ k, k ≠ m.val → t.meter k = s.meter k) ∧
    t.outside = { s.outside with adc := t.adc, gau := t.gau } ∧ (m = 1 → t.gau = s.gau)) ∧
  ((s.meter m).cal = none →
    exec (.mtrZero m) s = .next (s.modMeter m fun x => { x with cal := some (1, []) }) ∧
    exec (.mtrFullScale m) s = .next (s.modMeter m fun x => { x with cal := some (2, []) }) ∧
    (runsTo (.mtrRestore m) s fun t => t.meter m = { s.meter m with ofs := s.ims Img.adcMtrOfs m, gain := s.im Img.adcMtrGain m, calSrc := false, rej := false } ∧
      t.adc.learned.get none m = none ∧ t.outside = { s.outside with adc := t.adc })) ∧
  ((s.meter m).cal ≠ none → exec (.mtrZero m) s = .next s ∧ exec (.mtrFullScale m) s = .next s ∧ exec (.mtrRestore m) s = .next s))

/-- R412 to R416: a result is the oldest awaited one of its sequencer: it gives its channel the value, each code corrected for the
slice that made it, and the result
queue one entry where the channel asks for one, never more than 16,384. R415: the pop window gives the oldest entry
and removes it, all ones when empty; a flush empties the queue. R411, R424: an NTC's result of the thermal sequencer
refreshes its input. -/
def Obligations.ResultsQueueAndPop : Prop := ∀ s : State, s.lanesRun →
  (∀ (q : Fin 8) codes i v slices rest, (s.aseq q).due = (i, v, slices) :: rest → s.im Img.adcChQfmt (s.seqEntry i).ch = 0 →
    runsTo (.conversionResult q codes) s fun t => (t.aseq q).due = rest ∧ (t.chanOf (s.seqEntry i).ch).new = true ∧
      (t.chanOf (s.seqEntry i).ch).fresh = true ∧
      (t.chanOf (s.seqEntry i).ch).val = s.chValue (s.seqEntry i).ch (if srcDerived (s.chSrc (s.seqEntry i).ch) then v else
        resultX (srcDiff (s.chSrc (s.seqEntry i).ch)) (s.seqEntry i).rep (s.correctCodes slices codes)) ∧
      (∀ r, r ≠ q.val → t.aseq r = s.aseq r) ∧ (∀ c, c ≠ (s.seqEntry i).ch → t.chanOf c = s.chanOf c) ∧
      t.adc.rq = s.adc.rq ∧ (s.imb Img.adcSeqThm q = false → t.thm = s.thm) ∧ t = { s with adc := t.adc, thm := t.thm }) ∧
  (∀ (q : Fin 8) codes i v slices rest, (s.aseq q).due = (i, v, slices) :: rest → s.imb Img.adcSeqThm q = true →
    0x60 ≤ s.chSrc (s.seqEntry i).ch → s.chSrc (s.seqEntry i).ch < 0x6F → ratioValid (resultX false (s.seqEntry i).rep (s.correctCodes slices codes)).toNat = true →
    runsTo (.conversionResult q codes) s fun t =>
      (t.thmIn (s.chSrc (s.seqEntry i).ch - 48)).valid = true ∧
      (t.thmIn (s.chSrc (s.seqEntry i).ch - 48)).t = ntcMilliC (resultX false (s.seqEntry i).rep (s.correctCodes slices codes)).toNat
        (10 * s.im Img.thmNtcR25 (s.chSrc (s.seqEntry i).ch - 96)) (s.im Img.thmNtcBeta (s.chSrc (s.seqEntry i).ch - 96)) ∧
      (∀ n, n ≠ s.chSrc (s.seqEntry i).ch - 48 → t.thmIn n = s.thmIn n) ∧ t.outside = { s.outside with adc := t.adc, thm := t.thm }) ∧
  (∀ (q : Fin 8) codes, s.adc.rq.length ≤ 16384 → runsTo (.conversionResult q codes) s fun t =>
    t.adc.rq.length ≤ 16384 ∧ t.outside = { s.outside with adc := t.adc, thm := t.thm }) ∧
  (∀ i w rest, s.adc.rq = w :: rest → (s.src 402).line = false →
    exec (.resultQueuePop i) s = .next ((s.modAdc fun a => { a with rq := rest }).modIface i fun x => { x with reply := [w] })) ∧
  (∀ i, s.adc.rq = [] → exec (.resultQueuePop i) s = .next (s.modIface i fun x => { x with reply := [0xFFFFFFFF#32] })) ∧
  (s.live = true → (s.src 402).line = false → exec .adcRqFlush s = .next (s.modAdc fun a => { a with rq := [] })) ∧
  (s.live = true → (s.src 402).line = true → runsTo .adcRqFlush s fun t => t.adc = { s.adc with rq := [] } ∧ (t.src 402).line = false ∧
    t.outside = { s.outside with adc := t.adc })

/-- R131, R424, R426: a refreshed input holds a valid temperature, or is lost and keeps its latest one; an NTC input takes the ratio of its latest result and stays as it is before the first; the TMON of a phase
gives its stage temperature, but is idle while the rail's enable is low. R427, R428: a zone with fewer valid members than it needs is counted so and,
where the image asks for it, takes the whole excess; another one takes the temperature and the excess of its
members. R431: fast mode ends below its exit threshold. R430: a zone that is neither VALID nor DERATED has no rate.
-/
def Obligations.TemperaturesAndZones : Prop := ∀ s : State, s.ready →
  (∀ (n : Fin 112) tmp, n.val < 48 → -55000 ≤ tmp → tmp ≤ 175000 →
    exec (.sensorRefresh n (.milliC tmp)) s = .next (s.modThm fun x => { x with ins := x.ins.set {} n { s.thmIn n with valid := true, idle := false, t := tmp, had := true } })) ∧
  (∀ (n : Fin 112) tmp, n.val < 48 → (tmp < -55000 ∨ 175000 < tmp) →
    exec (.sensorRefresh n (.milliC tmp)) s = .next (s.modThm fun x => { x with ins := x.ins.set {} n { s.thmIn n with valid := false, idle := false } })) ∧
  (∀ (n : Fin 112) r, 48 ≤ n.val → n.val < 63 → (s.thmIn n).ratio = some r → ratioValid r = true →
    exec (.sensorRefresh n .ratio) s = .next (s.modThm fun x => { x with ins := x.ins.set {} n { s.thmIn n with valid := true, idle := false, had := true, t := ntcMilliC r (10 * s.im Img.thmNtcR25 (n - 48)) (s.im Img.thmNtcBeta (n - 48)) } })) ∧
  (∀ n : Fin 112, 48 ≤ n.val → n.val < 63 → (s.thmIn n).ratio = none → exec (.sensorRefresh n .ratio) s = .next s) ∧
  (∀ (n : Fin 112) uv, 64 ≤ n.val → (s.rail (s.phaseRail (n - 64))).en = true → 200000 ≤ uv → uv ≤ 2500000 →
    exec (.sensorRefresh n (.tmon uv)) s = .next ((s.modThm fun x => { x with ins := x.ins.set {} n { s.thmIn n with valid := true, idle := false, t := tmonMilliC uv, had := true } }).modPhase (n - 64)
      fun y => { y with temp := (clampInt 0 255 ((tmonMilliC uv).fdiv 1000 + 50)).toNat })) ∧
  (∀ (n : Fin 112) uv, 64 ≤ n.val → (s.rail (s.phaseRail (n - 64))).en = false →
    exec (.sensorRefresh n (.tmon uv)) s = .next (s.modThm fun x => { x with ins := x.ins.set {} n { s.thmIn n with valid := false, idle := true } })) ∧
  (∀ z : Fin 48, s.imb Img.thmZUsed z = true →
    (s.validMembers z).length < s.im Img.thmZNmin z + 1 → runsTo (.zoneEvaluation z) s fun t =>
      (t.zoneOf z).nval = (s.validMembers z).length ∧ (t.zoneOf z).stalePub = true ∧ (t.zoneOf z).t = (s.zoneOf z).t ∧
      t.zoneF z = (if s.imb Img.thmZStaleAct z then 1024 else (s.zoneOf z).f) ∧
      (∀ k, k ≠ z.val → t.zoneOf k = s.zoneOf k) ∧ (s.gau.learn = none → t.gau = s.gau) ∧ t.outside = { s.outside with thm := t.thm, gau := t.gau }) ∧
  (∀ z : Fin 48, s.imb Img.thmZUsed z = true →
    s.im Img.thmZNmin z + 1 ≤ (s.validMembers z).length → runsTo (.zoneEvaluation z) s fun t =>
      (t.zoneOf z).nval = (s.validMembers z).length ∧ (t.zoneOf z).stalePub = false ∧
      (t.zoneOf z).t = zoneTemp (s.imb Img.thmZAgg z) (s.validMembers z) ∧
      (t.zoneOf z).f = excess (t.zoneOf z).t (100 * s.ims Img.thmZTder z) (100 * s.ims Img.thmZTlim z) ∧
      (∀ k, k ≠ z.val → t.zoneOf k = s.zoneOf k) ∧ (s.gau.learn = none → t.gau = s.gau) ∧ t.outside = { s.outside with thm := t.thm, gau := t.gau }) ∧
  (∀ z : Fin 48, (s.zoneOf z).fast = true →
    (s.zoneOf z).t < 100 * (s.ims Img.thmZTder z - s.im Img.thmZFastm z - s.im Img.thmZHys z) →
    exec (.fastModeExit z) s = .next (s.modZone z fun x => { x with fast := false })) ∧
  (runsTo .rateOfRise s fun t =>
    (∀ z, z < 48 → s.imb Img.thmZUsed z = true → s.st (liZone z) ≠ .valid → s.st (liZone z) ≠ .derated →
      t.zoneOf z = { s.zoneOf z with hist := [], rate := 0 }) ∧
    (∀ z, s.imb Img.thmZUsed z = false → t.zoneOf z = s.zoneOf z) ∧ t.outside = { s.outside with thm := t.thm })

/-- R449, R454, R455: while the converter drives current into the pack, an over-voltage and a stage fault stop it and
ask for LATCHED_OFF at port 6; FS418 asserts, FS421 pulses. An under-voltage asserts FS425 and stops nothing. Only
the charger's mode, converter and input regulation change outside the collector's reach. R449: a hot pack is noted;
while current flows into it the converter stops, HELD is asked for and FS419 asserts. Cooling below the release
clears FS419. R455: the update that brings the equivalent count to the timer's length asserts FS416, stops the
converter and asks for LATCHED_OFF. R462: in reverse mode an over-current of the running converter, or a
NET that has not come up, ends the order: the converter and both pairs are off, OFF is asked for and FS424 pulses. Otherwise
the fault changes nothing. -/
def Obligations.ChargerFaultsAndReverseMode : Prop :=
  (∀ s : State, s.lanesRun → s.chgLive = true → s.intoPack = true →
  (runsTo .packOvervoltage s fun t => t.chg = { s.chg with conv := false, mode := 0, ivr := false } ∧
    t.asks 6 (stateReq liCharger .latchedOff 5 0x22) ∧ (t.src 418).line = true ∧ t.outside = { s.outside with chg := t.chg }) ∧
  (runsTo .chargerStageFault s fun t => t.chg = { s.chg with conv := false, mode := 0, ivr := false } ∧
    t.asks 6 (stateReq liCharger .latchedOff 5 0x22) ∧ t.outside = { s.outside with chg := t.chg }) ∧
  (runsTo .packUndervoltage s fun t => (t.src 425).line = true ∧ t.outside = s.outside)) ∧
  (∀ s : State, s.lanesRun → s.chgLive = true →
  (s.intoPack = true → s.chgCharging = true →
    runsTo (.packOvertemp true) s fun t => t.chg = { s.chg with hot := true, conv := false, mode := 0, ivr := false } ∧
      t.asks 6 (stateReq liCharger .held 5 0x22) ∧ (t.src 419).line = true ∧ t.outside = { s.outside with chg := t.chg }) ∧
  (s.intoPack = false → exec (.packOvertemp true) s = .next (s.modChg fun c => { c with hot := true })) ∧
  (runsTo (.packOvertemp false) s fun t => t.chg = { s.chg with hot := false } ∧ (t.src 419).line = false ∧
    t.outside = { s.outside with chg := t.chg })) ∧
  (∀ (s : State) (i : Nat), s.lanesRun → s.chgLive = true → s.intoPack = true →
  s.im Img.chgTmrMin * 6000 * 65536 ≤ s.chg.tmrEq + 8192 →
  runsTo (.safetyTimerUpdate i) s fun t => t.chg.conv = false ∧ t.chg.mode = 0 ∧ (t.src 416).line = true ∧
    t.asks 6 (stateReq liCharger .latchedOff 5 0x22) ∧ t.outside = { s.outside with chg := t.chg }) ∧
  (∀ (s : State) (oc : Bool), s.lanesRun →
  (s.chgLive = true → s.reversing = true → (s.chg.conv || !oc) = true → runsTo (.reverseModeFault oc) s fun t => t.lace = { s.lace with energy := none } ∧
    t.chg = { s.chg with conv := false, mode := 0, ivr := false, netOn := false, solOn := false, source := none } ∧
    t.asks 6 (stateReq liCharger .off 5 0x22) ∧ (t.src 424).line = false ∧ t.outside = { s.outside with lace := t.lace, chg := t.chg }) ∧
  (s.reversing = false ∨ (s.chg.conv || !oc) = false → exec (.reverseModeFault oc) s = .next s))

/-- R441, R446: 20 µs after a change the other pair is turned on; an input above its over-voltage threshold is cut off,
asserts FS422 (SOLAR) or FS423 (NET), and is not a source any more. R444: a selection that finds no source turns
both pairs off and stops the converter; one that finds the source already in use only keeps its measurement; with both pairs
off and no change under way the selected pair is turned on. R453: a tracking step on a tracked SOLAR source in mode
3 keeps its direction while the power rises and turns it when it does not, and asks for the limit one step on. -/
def Obligations.ChargerSourcesAndTracking : Prop :=
  (∀ s : State, s.lanesRun →
  (∀ src, s.chg.switchTo = some src →
    exec .sourceSwitchOn s = .next (s.modChg fun c => { c with solOn := src, netOn := !src, switchTo := none, conv := c.mode != 0, rampAt := some s.time })) ∧
  (∀ net, s.chgLive = true → runsTo (.sourceOvervoltage net) s fun t =>
    t.chg.ovOff.getLsbD (if net then 1 else 0) = true ∧ (if net then t.chg.netOn else t.chg.solOn) = false ∧
    t.chg.source ≠ some (!net) ∧ (s.chg.source = some (!net) → t.chg.conv = false) ∧
    (t.src (if net then 423 else 422)).line = true ∧ t.outside = { s.outside with chg := t.chg })) ∧
  (∀ (s : State) (m : SourceMeas), s.lanesRun → s.chgLive = true → s.reversing = false →
  s.chg.ovOff = 0 →
  (s.chgSelect m = none → runsTo (.sourceSelect m) s fun t =>
    t.chg.solOn = false ∧ t.chg.netOn = false ∧ t.chg.source = none ∧ t.chg.switchTo = none ∧ t.chg.conv = false ∧ t.chg.meas = m ∧
    t.outside = { s.outside with chg := t.chg }) ∧
  (∀ src, s.chgSelect m = some src → s.chg.source = some src → exec (.sourceSelect m) s = .next (s.modChg fun c => { c with meas := m })) ∧
  (∀ src, s.chgSelect m = some src → s.chg.source ≠ some src → s.chg.solOn = false → s.chg.netOn = false → s.chg.switchTo = none →
    exec (.sourceSelect m) s = .next (s.modChg fun c => { c with meas := m, solOn := src, netOn := !src, source := some src, trkUp := none, lowSteps := 0 })) ∧
  (∀ src, s.chgSelect m = some src → s.chg.source ≠ some src → (s.chg.solOn || s.chg.netOn) = true →
    exec (.sourceSelect m) s = .next (s.modChg fun c => { c with meas := m, solOn := false, netOn := false, source := some src, switchTo := some src, conv := false, trkUp := none, lowSteps := 0 }))) ∧
  (∀ (s : State) (pMean iOut : Nat) (u : Bool), s.lanesRun → s.chgLive = true →
  s.tracks = true → s.chg.trkUp = some u →
  runsTo (.trackingStep pMean iOut) s fun t =>
    t.chg = { s.chg with pout := pMean, iout := iOut, lowSteps := if pMean < 100 * s.im Img.chgSolPmin then min 10 (s.chg.lowSteps + 1) else 0, trkUp := some (if s.chg.pout < pMean then u else !u) } ∧
    t.asks 6 { ep := liCharger, kind := .limit, cls := 5, reqr := 0x22,
               val := wordOfInt (if (if s.chg.pout < pMean then u else !u) then s.chg.limTrk + ((10 * s.im Img.chgTrkStep : Nat) : Int)
                                 else max 0 (s.chg.limTrk - ((10 * s.im Img.chgTrkStep : Nat) : Int))) } ∧
    t = { s with chg := t.chg, pipe := t.pipe })

/-- R447: in a charge under way the evaluation of V runs the phases. With STARTING committed and nothing to stop the
charge, mode 1 moves to mode 2 at the tenth evaluation in a row at CHG_VTRK or above, and an evaluation below it
starts the count anew. With ON committed, no derating and no watched condition, an evaluation in mode 3 at V_CV
enters mode 4. R447, R448: termination in mode 4 stops the converter, notes the end and asks for OFF; a recharge
asks for STARTING. R454: while the converter charges, the 10 ms update adds one tick to the absolute count and the
current's share of CHG_ICC, at least an eighth and at most a whole, to the equivalent count; short of both limits
nothing else changes. -/
def Obligations.ChargeRunsItsPhases : Prop :=
  (∀ (s : State) (v : Nat), s.lanesRun → s.chgLive = true → s.reversing = false →
  s.sinking = false → s.chgMay = true → s.chg.bandNow = s.thm.band → (s.src 416).line = false → (s.src 417).line = false →
  (s.src 418).line = false → (s.src 425).line = false → s.seenSt liCharger = s.st liCharger →
  (s.st liCharger = .starting → s.chg.mode = 1 → s.cellsMv (s.im Img.chgVtrk) ≤ v → s.chg.evals = 9 →
    exec (.chargeEvaluation v false) s = .next (s.modChg fun c => { c with ivr := false, vpack := v, mode := 2, evals := 0, conv := true })) ∧
  (s.st liCharger = .starting → s.chg.mode = 1 → s.cellsMv (s.im Img.chgVtrk) ≤ v → s.chg.evals ≠ 9 →
    exec (.chargeEvaluation v false) s = .next (s.modChg fun c => { c with ivr := false, vpack := v, evals := s.chg.evals + 1, conv := true })) ∧
  (s.st liCharger = .starting → s.chg.mode = 1 → v < s.cellsMv (s.im Img.chgVtrk) →
    exec (.chargeEvaluation v false) s = .next (s.modChg fun c => { c with ivr := false, vpack := v, evals := 0, conv := true })) ∧
  (s.st liCharger = .on → s.chgDerates = false → s.chg.mode = 3 → s.vcv ≤ v →
    exec (.chargeEvaluation v false) s = .next (s.modChg fun c => { c with ivr := false, vpack := v, mode := 4, conv := true }))) ∧
  (∀ s : State, s.lanesRun → s.chgLive = true →
  (s.chg.mode = 4 → s.chgCharging = true → s.sinking = false → runsTo .chargeTermination s fun t =>
    t.chg = { s.chg with conv := false, mode := 0, ivr := false, terminated := true } ∧
    t.asks 6 (stateReq liCharger .off 5 0x22)) ∧
  (s.st liCharger = .off → s.chg.terminated = true → s.chg.run = true → s.chg.source.isSome = true → s.chg.switchTo = none →
    s.chg.present = true → s.chg.hot = false → s.imb Img.chgBEn s.chg.bandNow = true → runsTo .rechargeStart s fun t =>
    t.chg = { s.chg with terminated := false } ∧ t.asks 6 (stateReq liCharger .starting 5 0x22) ∧ t = { s with chg := t.chg, pipe := t.pipe })) ∧
  (∀ (s : State) (i : Nat), s.lanesRun → s.chgLive = true → s.intoPack = true →
  0 < s.im Img.chgIcc →
  s.chg.tmrEq + 65536 < s.im Img.chgTmrMin * 6000 * 65536 → s.chg.tmrAbs + 1 < 3 * (s.im Img.chgTmrMin * 6000) →
  s.chg.tmrAbs < 0xFFFFFFFF →
  exec (.safetyTimerUpdate i) s = .next (s.modChg fun c => { c with iout := i, tmrEq := c.tmrEq + max 8192 (min 65536 (i * 65536 / (10 * s.im Img.chgIcc))), tmrAbs := c.tmrAbs + 1 }))

/-- R443: a pack conversion keeps what it measured; a pack is present when PACK_ID lies below 2.0 V and the thermistor's
ratio is valid, unless it is declared removed. R456, R457: a removal stops the converter, zeroes the safety timer,
counts, asserts FS420 and, with a source that R444 selects, enters the supply mode and asks for ACTIVE, without one asks
for OFF; R458: an insertion
clears FS420 and asks an ACTIVE or LATCHED_OFF charger for OFF. -/
def Obligations.PacksComeAndGo : Prop :=
  (∀ (s : State) (idMv ntc : Nat), s.lanesRun → s.chgLive = true →
  runsTo (.packConversion idMv ntc) s fun t => t.chg.idMv = idMv ∧ t.chg.ntc = ntc ∧
    (t.chg.present = true ↔ idMv < 2000 ∧ ratioValid ntc = true ∧ s.chg.removed = false) ∧
    (ratioValid ntc = false → t.chg.ntcT = s.chg.ntcT) ∧ t = { s with chg := t.chg, thm := t.thm }) ∧
  (∀ s : State, s.lanesRun → s.chgLive = true → s.lace.energy = none →
  (s.chg.removed = false → s.st liCharger ≠ .latchedOff → (s.chgSelect s.chg.meas).isSome = true → runsTo .packRemoval s fun t =>
    (t.chg = { s.chg with tmrEq := 0, tmrAbs := 0, conv := t.chg.conv, mode := 5, ivr := false, removed := true, present := false, hot := false,
                          remCnt := satAdd 0xFFFF s.chg.remCnt 1, solOn := t.chg.solOn, netOn := t.chg.netOn, source := s.chgSelect s.chg.meas,
                          switchTo := t.chg.switchTo }) ∧
    (s.chg.source = s.chgSelect s.chg.meas → (s.chgSelect s.chg.meas = some true → s.chg.solOn = true) → (s.chgSelect s.chg.meas = some false → s.chg.netOn = true) →
      t.chg.conv = true ∧ t.chg.solOn = s.chg.solOn ∧ t.chg.netOn = s.chg.netOn ∧ t.chg.switchTo = s.chg.switchTo) ∧
    (s.chg.source ≠ s.chgSelect s.chg.meas → t.chg.conv = false ∧ t.chg.solOn = false ∧ t.chg.netOn = false ∧ t.chg.switchTo = s.chgSelect s.chg.meas) ∧
    (t.src 420).line = true ∧ t.asks 6 (stateReq liCharger .active 5 0x22) ∧ t.outside = { s.outside with chg := t.chg, gau := t.gau }) ∧
  (s.chg.removed = false → s.st liCharger ≠ .latchedOff → s.st liCharger ≠ .off → s.chgSelect s.chg.meas = none → runsTo .packRemoval s fun t =>
    t.chg = { s.chg with tmrEq := 0, tmrAbs := 0, conv := false, mode := 0, ivr := false, removed := true, present := false, hot := false,
                         remCnt := satAdd 0xFFFF s.chg.remCnt 1 } ∧
    (t.src 420).line = true ∧ t.asks 6 (stateReq liCharger .off 5 0x22) ∧ t.outside = { s.outside with chg := t.chg, gau := t.gau }) ∧
  (s.chg.removed = true → s.st liCharger = .latchedOff → s.imb Img.gauUsed = false → ∀ idMv, runsTo (.packInsertion idMv) s fun t =>
    t.chg = { s.chg with tmrEq := 0, tmrAbs := 0, conv := false, mode := 0, ivr := false, removed := false, present := true,
                         idMv := idMv, terminated := false } ∧
    (t.src 420).line = false ∧ t.asks 6 (stateReq liCharger .off 5 0x22) ∧ t.outside = { s.outside with chg := t.chg }))

/-- R469, R470, R472, R473: a model step of 1 s, or of 60 s while HELD, relaxes both voltages, ages the reference, lets
the uncertainty rise, keeps S_r within its range and moves S_i only while the observer is not frozen. R474, R482: an
evaluation takes current and cell voltage; without a pack it does nothing more; the first one after an insertion
sets S_i and S_r from the open-circuit voltage. At or below GAU_V_EMPTY both are 0 and FS434 asserts. -/
def Obligations.GaugeStepsAndEvaluates : Prop := ∀ s : State,
  (s.lanesRun → s.gauRuns = true → ∀ dt, dt = (if s.gau.hib then 60 else 1) →
    runsTo (.gaugeModelStep s.gau.hib) s fun t =>
      t.gau.v1 = relax s.gau.v1 (expNeg32 (10 * dt) (s.im Img.gauTau1 s.thm.band)) s.gau.iMa (s.im Img.gauR1 s.thm.band) ∧
      t.gau.v2 = relax s.gau.v2 (expNeg32 dt (s.im Img.gauTau2 s.thm.band)) s.gau.iMa (s.im Img.gauR2 s.thm.band) ∧
      t.gau.refAge = satAdd 0xFFFFFFFF s.gau.refAge dt ∧
      t.gau.unc = min (10000 * Config.uncUnit) (s.gau.unc + 163840 * dt * s.im Img.gauURate) ∧
      0 ≤ t.gau.sr ∧ t.gau.sr ≤ socFull ∧ ((s.loop 257).frozen = true → t.gau.si = s.gau.si) ∧
      t.outside = { s.outside with gau := t.gau, loops := t.loops, setAt := t.setAt }) ∧
  (s.ready → s.imb Img.gauUsed = true → s.gau.pres = false → ∀ i v, s.gaugeMeans = (i, v) → runsTo .gaugeEvaluation s fun t =>
    t.gau.iMa = i ∧ t.gau.vCell = v ∧ t.gau.si = s.gau.si ∧ t.gau.sr = s.gau.sr ∧ t = { s with gau := t.gau }) ∧
  (s.ready → s.imb Img.gauUsed = true → s.gau.pres = true → s.gau.binding = true → ∀ i v, s.gaugeMeans = (i, v) → runsTo .gaugeEvaluation s fun t =>
    t.gau.iMa = i ∧ t.gau.vCell = v ∧ t.gau.binding = false ∧ t.gau.si = t.gau.sr ∧
    t.gau.si = s.socAt s.thm.band (v * 65536 - dropOf i (s.im Img.gauR0 s.thm.band)) ∧ t.gau.v1 = s.gau.v1 ∧ t.gau.v2 = s.gau.v2 ∧
    t.gau.unc = 500 * Config.uncUnit ∧ t.gau.refAge = 0 ∧ (s.st liGauge = .off → t.asks 6 (stateReq liGauge .stale 5 0x24)) ∧
    t.outside = { s.outside with gau := t.gau, setAt := t.setAt }) ∧
  (s.ready → s.imb Img.gauUsed = true → s.gau.pres = true → s.gau.binding = false → s.gau.empty = false → s.gau.learn = none → s.gau.restDue = false →
    s.lace.energy = none → ∀ i v, s.gaugeMeans = (i, v) →
    v * 65536 - dropOf i (s.im Img.gauR0 s.thm.band) ≤ 65536 * (s.im Img.gauVEmpty : Nat) → 0 < s.im Img.gauWarnHys →
    runsTo .gaugeEvaluation s fun t => t.gau.si = 0 ∧ t.gau.sr = 0 ∧ t.gau.empty = true ∧ (t.src 434).line = true ∧
      t.outside = { s.outside with gau := t.gau, setAt := t.setAt })

/-- R471, R473: a clean reference restarts the age, sets the uncertainty to 1.00 % and ends staleness and disagreement;
at 72 hours a reference is stale, FS432 asserts and STALE is asked for. R478: the longest learning cycle ends. R483:
hibernation asks for HELD, its end for VALID or STALE. R485: a save stores the gauge's content and the clock's
seconds. -/
def Obligations.GaugeReferencesAndRests : Prop := ∀ s : State, s.lanesRun → s.gauRuns = true →
  (s.gau.iMa.natAbs ≤ s.im Img.gauRestI → runsTo .cleanReference s fun t =>
    t.gau.v1 = 0 ∧ t.gau.v2 = 0 ∧ t.gau.rest = true ∧ t.gau.refAge = 0 ∧ t.gau.unc = 100 * Config.uncUnit ∧ t.gau.stale = false ∧
    t.gau.disagree = false ∧ t.gau.si = s.socAt s.thm.band (s.gau.vCell * 65536) ∧ t.outside = { s.outside with gau := t.gau, setAt := t.setAt }) ∧
  (s.gau.stale = false → 259200 ≤ s.gau.refAge → s.gau.hib = false → s.st liGauge = .valid → runsTo .referenceStale s fun t =>
    t.gau = { s.gau with stale := true } ∧ (t.src 432).line = true ∧ t.asks 6 (stateReq liGauge .stale 5 0x24) ∧
    t.outside = { s.outside with gau := t.gau }) ∧
  (∀ ql qin tt, s.gau.learn = some (ql, qin, tt) → 86400 * s.im Img.gauLrnTmax ≤ tt → runsTo .learningTimeout s fun t =>
    t.gau = { s.gau with learn := none } ∧ t.asks 6 (stateReq liGauge (s.st liGauge) 5 0x24) ∧ t = { s with gau := t.gau, pipe := t.pipe }) ∧
  (s.gau.hib = false → s.gau.binding = false → s.st liGauge = .valid → runsTo .hibernationEnter s fun t =>
    t.gau = { s.gau with hib := true } ∧ t.asks 6 (stateReq liGauge .held 5 0x24) ∧ t = { s with gau := t.gau, pipe := t.pipe }) ∧
  (s.gau.hib = true → s.gau.hibPark = false → runsTo .hibernationExit s fun t =>
    t.gau = { s.gau with hib := false, hibPark := false } ∧
    t.asks 6 (stateReq liGauge (if s.gau.stale then .stale else .valid) 5 0x24) ∧ t = { s with gau := t.gau, pipe := t.pipe }) ∧
  (exec .gaugeSave s = .next (s.modGau fun g => { g with saved := some { si := g.si, unc := g.unc, refAge := g.refAge, q := g.q, idStored := g.idStored, lrnCnt := g.lrnCnt, rtcSec := s.rtc.sec.toNat } }))

/-- R494, R496: a counted oscillator cycle adds 2 to the 64-bit time, or 4 or 0 at a trim cycle, carry and wrap
included; the fraction's bit 0 stays 0, and with no alarm enabled nothing but the clock changes. R494, R502, R503: a
halted clock does not count and fires no alarm; R499 leaves it as it is. R499: outside RUN and PARKED the stopped
oscillator sets RTC_OSF; R493: FS360 follows VBKUP. -/
def Obligations.ClockCountsAndHalts : Prop :=
  (∀ s : State, s.rtc.stopped = false → s.rtc.halt = false →
  runsTo .rtcIncrement s fun t =>
    t.rtc.time = s.rtc.time + BitVec.ofNat 64 s.rtc.addend ∧
    (s.rtc.addend = 0 ∨ s.rtc.addend = 2 ∨ s.rtc.addend = 4) ∧
    (s.rtc.trimCyc = none → s.rtc.addend = 2) ∧
    (s.rtc.frac.getLsbD 0 = false → t.rtc.frac.getLsbD 0 = false) ∧
    (s.rtc.almEn = 0 → s.rtc.wakeDue = false → s.stalled = false → t = { s with rtc := t.rtc })) ∧
  (∀ s : State, s.rtc.stopped = false → s.rtc.halt = true → s.rtc.wakeDue = false → s.stalled = false →
  exec .rtcIncrement s = .next s) ∧
  (∀ s : State,
  (s.live = false → exec .oscillatorStopDetect s = .next (s.modRtc fun r => { r with stopped := true, osf := true })) ∧
  (s.live = true → exec .oscillatorStopDetect s = .next s) ∧
  (∀ low, s.lanesRun → runsTo (.vbkupLow low) s fun t => (t.src 360).line = low ∧ (∀ m, m ≠ 360 → pulsed m = false → (t.src m).line = (s.src m).line) ∧ t.outside = s.outside))

/-- R497: a read of RTC_FRAC answers the fraction and latches the seconds of that cycle for the reading interface alone.
R498: RTC_SET_GO makes the set registers wait, bit 0 of the fraction forced to 0, and is ignored while a load waits;
the load puts them into the clock, clears RTC_OSF and ends RTC_SET_BUSY. A clock whose entry is not STALE changes
nothing else. R501, R559: a write of RTC_HALT changes no clock field; it raises one P4 STATE request for the clock,
HELD for 1 and VALID for 0, with the interface's last tag plus 1. -/
def Obligations.ClockIsReadLoadedAndHalted : Prop :=
  (∀ (s : State) (i : Iface), s.ready →
  exec (.rtcFracRead i) s = .next (s.modIface i fun x => { x with rtcLatch := s.rtc.sec.toNat, reply := [wordOf s.rtc.frac.toNat] })) ∧
  (∀ (s : State),
  (∀ i, s.ready → s.rtc.busy = none →
    exec (.rtcSetGo i) s = .next (s.modRtc fun r => { r with busy := some (r.setFrac &&& 0xFFFE#16, r.setSec, i) })) ∧
  (∀ i, s.ready → s.rtc.busy ≠ none → exec (.rtcSetGo i) s = .next s) ∧
  (∀ f sec i, s.lanesRun → s.rtc.busy = some (f, sec, i) →
    runsTo .rtcLoad s fun t => t.rtc.frac = f ∧ t.rtc.sec = sec ∧ t.rtc.osf = false ∧ t.rtc.busy = none ∧
      t.rtc.cmp0 = s.rtc.cmp0 ∧ t.rtc.cmp1 = s.rtc.cmp1 ∧ t.rtc.msk0 = s.rtc.msk0 ∧ t.rtc.msk1 = s.rtc.msk1 ∧
      t.rtc.almEn = s.rtc.almEn ∧ t.rtc.almF = s.rtc.almF ∧ t.rtc.halt = s.rtc.halt ∧ t.rtc.bor = s.rtc.bor ∧ t.rtc.trim = s.rtc.trim ∧
      t = { s with rtc := t.rtc, led := t.led } ∧
      (s.st liRtc = .stale → (s.stored liRtc).st = .stale → s.live = true → s.led.cmtNow < 3840 → (t.stored liRtc).st = .valid ∧ (t.stored liRtc).val = sec.setWidth 32) ∧
      (s.st liRtc ≠ .stale → t.led = s.led))) ∧
  (∀ (s : State) (i : Iface) (v : Bool), s.ready → 1 ≤ s.p4Free →
  runsTo (.rtcHaltWrite i v) s fun t => t.rtc = s.rtc ∧ (t.iface i).lastTag = (s.iface i).lastTag + 1 ∧
    t.asks (ifacePort i) { stateReq liRtc (if v then .held else .valid) 4 (reqrIface i) with tag := (s.iface i).lastTag + 1 } ∧
    t = { s with pipe := t.pipe, host := t.host })

/-- R507: a write to a watchdog's key, check-in or period register waits for the next tick, and changes nothing else.
R508: a tick of a running watchdog with no write waiting counts, and at the end of the period expires it (R512):
pulse, check-ins cleared, FS448 + w asserted, the FAILED request at port 1. Every other watchdog keeps its state.
R513: the reset pulse ends, a first period begins, FS448 + w clears and the ACTIVE request waits at port 1. -/
def Obligations.WatchdogsWaitCountAndPulse : Prop :=
  (∀ (s : State) (i : Iface) (w : Fin 8), s.ready → s.imb Img.wdgUsed w = true →
  (∀ key, exec (.wdgKey i w key) s = .next (s.modWdg w fun x => { x with writes := x.writes ++ [.key key] })) ∧
  (∀ bits, exec (.wdgCheckin i w bits) s = .next (s.modWdg w fun x => { x with writes := x.writes ++ [.checkin bits] })) ∧
  (∀ p, exec (.wdgPeriodNew i w p) s = .next (s.modWdg w fun x => { x with writes := x.writes ++ [.period p] }))) ∧
  (∀ (s : State) (w : Fin 8), s.ready → s.imb Img.wdgUsed w = true →
  s.lane.wdoscOk = true → (s.wdg w).active = true → (s.wdg w).pulse = false → (s.wdg w).paused = false →
  s.wdgMustPause w = false → (s.wdg w).writes = [] →
  ((s.wdg w).n + 1 < s.wdgP w →
    runsTo (.watchdogTick w) s fun t => t.wdg w = { s.wdg w with n := (s.wdg w).n + 1 } ∧
      (∀ v, v ≠ w.val → t.wdg v = s.wdg v) ∧ t = { s with wdgs := t.wdgs }) ∧
  (s.wdgP w ≤ (s.wdg w).n + 1 →
    runsTo (.watchdogTick w) s fun t =>
      t.wdg w = { s.wdg w with n := s.wdgP w, pulse := true, checkin := 0, writes := [], expCnt := satAdd 0xFFFF (s.wdg w).expCnt 1 } ∧
      (t.src (448 + w)).line = true ∧ t.asks 1 (stateReq (liWdg w) .failed 1 (reqrSource (448 + w))) ∧
      (∀ v, v ≠ w.val → t.wdg v = s.wdg v) ∧ t.outside = { s.outside with wdgs := t.wdgs })) ∧
  (∀ (s : State) (w : Fin 8), s.lanesRun → (s.wdg w).pulse = true →
  runsTo (.resetPulseEnd w) s fun t =>
    t.wdg w = { s.wdg w with pulse := false, n := 0, first := true, checkin := 0 } ∧
    (t.src (448 + w)).line = false ∧ t.asks 1 (stateReq (liWdg w) .active 1 (reqrSource (448 + w))) ∧
    (∀ v, v ≠ w.val → t.wdg v = s.wdg v) ∧ t.outside = { s.outside with wdgs := t.wdgs })

/-- R565, R571 to R574: an accepted command of a BLANK unit makes the bits that it must program wait for their pulses, a
refused one sets OTP_REJ and nothing else; a pulse that reads 1 sets its bit alone, the eighth pulse that does not
ends the command with FS466. -/
def Obligations.OneTimeMemoryPrograms : Prop := ∀ (s : State) (i : Iface) (w : Word), s.ready →
  (s.otpFree = true → s.lifecycle = 0 → (s.otpWord (cmdWord w)).chk = 0 → thermWord (cmdWord w) = false →
    (∀ d, d = BitVec.ofNat 64 (s.otp.dataHi.toNat * 2 ^ 32 + s.otp.dataLo.toNat) → ((s.otpWord (cmdWord w)).data &&& ~~~d) = 0 → s.dataBits (cmdWord w) d ≠ [] →
    exec (.program i w) s = .next (s.modOtp fun o => { o with bits := s.dataBits (cmdWord w) d, pulses := 0, sealNext := if bitOf w.toNat 28 then some (cmdWord w) else none }))) ∧
  (s.otpFree = true → s.lifecycle = 0 → (s.otpWord (cmdWord w)).state = 1 → s.checkBits (cmdWord w) ≠ [] →
    exec (.sealWord i w) s = .next (s.modOtp fun o => { o with bits := s.checkBits (cmdWord w), pulses := 0, sealNext := none })) ∧
  (s.otpFree = true → s.lifecycle = 0 → s.lcBits 1 ≠ [] → exec (.lcAdvance i w) s = .next (s.modOtp fun o => { o with bits := s.lcBits 1, pulses := 0, sealNext := none })) ∧
  (s.otpFree = true → s.lifecycle = 0 → cmdWord w ≤ 7 → s.ownerUsable (some (cmdWord w)) = true → s.revokeBits (cmdWord w) ≠ [] →
    exec (.revoke i w) s = .next (s.modOtp fun o => { o with bits := s.revokeBits (cmdWord w), pulses := 0, sealNext := none })) ∧
  (s.otpFree = true → s.lifecycle = 0 → s.rollback 1 < cmdWord w → cmdWord w ≤ 256 → s.ctrBits 1 (cmdWord w) ≠ [] →
    exec (.ctrRaise i w) s = .next (s.modOtp fun o => { o with bits := s.ctrBits 1 (cmdWord w), pulses := 0, sealNext := none })) ∧
  (∀ c, c = .program i w ∨ c = .sealWord i w ∨ c = .lcAdvance i w ∨ c = .revoke i w ∨ c = .ctrRaise i w → s.otpFree = false ∨ s.lifecycle = 4 →
    exec c s = .next ((s.modOtp fun o => { o with rej := true }).setNow .otpRej)) ∧
  (thermWord (cmdWord w) = true → exec (.program i w) s = .next ((s.modOtp fun o => { o with rej := true }).setNow .otpRej)) ∧
  ((s.otpWord (cmdWord w)).state ≠ 1 → exec (.sealWord i w) s = .next ((s.modOtp fun o => { o with rej := true }).setNow .otpRej)) ∧
  (s.lifecycle = 1 → s.ownerUsable none = false → exec (.lcAdvance i w) s = .next ((s.modOtp fun o => { o with rej := true }).setNow .otpRej)) ∧
  (s.ownerUsable (some (cmdWord w)) = false → exec (.revoke i w) s = .next ((s.modOtp fun o => { o with rej := true }).setNow .otpRej)) ∧
  (cmdWord w ≤ s.rollback 1 → exec (.ctrRaise i w) s = .next ((s.modOtp fun o => { o with rej := true }).setNow .otpRej)) ∧
  (∀ k b rest, s.otp.bits = (k, b) :: rest → rest ≠ [] → s.seq.pf = false → s.glb.mode = .run → runsTo (.otpPulseDone true) s fun t =>
    t.otpWord k = (s.otpWord k).setBit b ∧ (∀ j, j ≠ k → t.otpWord j = s.otpWord j) ∧ t.otp.bits = rest ∧ t.otp.pulses = 0 ∧ t = { s with otp := t.otp }) ∧
  (∀ k b rest, s.otp.bits = (k, b) :: rest → s.otp.pulses < 7 → s.seq.pf = false → s.glb.mode = .run →
    exec (.otpPulseDone false) s = .next (s.modOtp fun o => { o with pulses := o.pulses + 1 })) ∧
  (∀ k b rest, s.otp.bits = (k, b) :: rest → s.otp.pulses = 7 → runsTo (.otpPulseDone false) s fun t =>
    t.otp.words = s.otp.words ∧ t.otp.bits = [] ∧ t.otp.fail = true ∧ t.otp.errWord = k ∧ (t.src 466).line = false ∧ t.outside = { s.outside with otp := t.otp, upd := t.upd, setAt := t.setAt }) ∧
  (∀ r, s.otp.bits = [] → exec (.otpPulseDone r) s = .next s)

/-- R578, R579: a token check begins by command, ends with a new nonce, and arms the authorisation of a token that
passes or sets UPD_AUTH_FAIL; an armed authorisation expires. The other interface keeps its own. R583, R584, R586: a
session opens for its source, takes its blocks when their CRC matches, and is verified. -/
def Obligations.TokensAndSessions : Prop :=
  (∀ (s : State) (i : Iface), s.ready →
  exec (.tokenVerify i) s = .next (s.modIface i fun x => { x with authBusy := true }) ∧
  ((s.iface i).authBusy = true → s.tokenPasses i = true → runsTo (.tokenCheckDone i) s fun t =>
    (t.iface i).armed = some (numAt (s.iface i).authBytes 0 2, wordOf (numAt (s.iface i).authBytes 20 4), numAt (s.iface i).authBytes 2 1) ∧
    (t.iface i).authBusy = false ∧ (t.iface i).authFail = (s.iface i).authFail ∧ t.iface (Iface.other i) = s.iface (Iface.other i) ∧
    t = { s with host := t.host, freeCtr := t.freeCtr }) ∧
  ((s.iface i).authBusy = true → s.tokenPasses i = false → runsTo (.tokenCheckDone i) s fun t =>
    (t.iface i).armed = (s.iface i).armed ∧ (t.iface i).authBusy = false ∧ (t.iface i).authFail = true ∧ t.iface (Iface.other i) = s.iface (Iface.other i) ∧
    t = { s with host := t.host, freeCtr := t.freeCtr, setAt := t.setAt }) ∧
  ((s.iface i).authBusy = false → exec (.tokenCheckDone i) s = .next s) ∧
  exec (.authExpire i) s = .next (s.modIface i fun x => { x with armed := none })) ∧
  (∀ (s : State) (i : Iface) (src : Src), s.ready →
  (s.upd.st = .idle → s.lifecycle ≠ 4 → s.upd.lock = false → runsTo (.openSession src) s fun t =>
    t.upd.st = .loading ∧ t.upd.owner = src ∧ t.upd.blocks = [] ∧ t.upd.blkBuf = [] ∧ t.upd.blkIdx = 0 ∧ t.upd.bank = s.upd.bank ∧ t = { s with upd := t.upd }) ∧
  (s.upd.lock = true ∨ s.lifecycle = 4 ∨ s.notOwner src = true → exec (.openSession src) s = .next ((s.modUpd fun u => { u with rej := true }).setNow .updRej)) ∧
  (∀ k, s.mayLoad (Iface.src i) = true → exec (.blockIndex i k) s = .next (s.modUpd fun u => { u with blkIdx := k.toNat, blkBuf := [] })) ∧
  (∀ w, s.mayLoad (Iface.src i) = true → s.upd.blkBuf.length < 4096 → exec (.blockData i w) s = .next (s.modUpd fun u => { u with blkBuf := u.blkBuf ++ leBytes 4 w.toNat })) ∧
  (∀ crc : Word, s.mayLoad (Iface.src i) = true → (crc32c s.upd.blkBuf).toNat = crc.toNat → s.upd.blkIdx < 385 → s.upd.blkBuf ≠ [] →
    exec (.blockCrc i crc) s = .next (s.modUpd fun u => { u with blkBuf := [], blocks := u.blocks.set [] u.blkIdx u.blkBuf })) ∧
  (∀ crc : Word, s.mayLoad (Iface.src i) = true → (crc32c s.upd.blkBuf).toNat ≠ crc.toNat → runsTo (.blockCrc i crc) s fun t =>
    t.upd = { s.upd with blkBuf := [] } ∧ (t.src 467).line = false ∧ t.outside = { s.outside with upd := t.upd }) ∧
  (s.mayLoad (Iface.src i) = false → (∀ k, exec (.blockIndex i k) s = .next s) ∧ (∀ w, exec (.blockData i w) s = .next s) ∧ ∀ crc, exec (.blockCrc i crc) s = .next s) ∧
  (s.upd.st = .loading → s.upd.owner = src → exec (.verify src) s = .next (s.modUpd fun u => { u with st := .verifying })) ∧
  (s.upd.st ≠ .loading → exec (.verify src) s = .next ((s.modUpd fun u => { u with rej := true }).setNow .updRej)))

/-- R585 to R591: a package that is not whole goes back to loading, one that fails a check ends its session, one that
passes is copied and is READY; activation is refused by the table of R589 or makes a warm start pending; ABORT ends
the session; the owner's lock follows its authorisation; remote commands go to the slot last written. -/
def Obligations.PackagesAreChecked : Prop := ∀ (s : State) (src : Src) (i : Iface), s.ready →
  (s.upd.st = .verifying → s.pkgWhole = false → exec .verifyDone s = .next ((s.modUpd fun u => { u with st := .loading, rej := true }).setNow .updRej)) ∧
  (∀ n, s.upd.st = .verifying → s.pkgWhole = true → s.pkgFault = some n → runsTo .verifyDone s fun t =>
    t.upd = { s.upd with st := .idle } ∧ (t.src n).line = false ∧ t.outside = { s.outside with upd := t.upd }) ∧
  (s.upd.st = .verifying → s.pkgWhole = true → s.pkgFault = none → s.pkgClass ≠ 3 → exec .verifyDone s = .next (s.modUpd fun u => { u with st := .copying })) ∧
  (∀ f, s.upd.st = .copying → s.pkgClass ≠ 2 → runsTo (.copyDone f) s fun t => t.upd = { s.upd with st := .ready } ∧ t.outside = { s.outside with upd := t.upd }) ∧
  (s.upd.st = .copying → s.pkgClass = 2 → runsTo (.copyDone .copyB) s fun t =>
    t.upd = { s.upd with st := .idle } ∧ (t.src 474).line = true ∧ t.newImg = s.newImg ∧ t.outside = { s.outside with upd := t.upd }) ∧
  (s.upd.st = .copying → s.pkgClass = 2 → runsTo (.copyDone .none) s fun t =>
    t.upd.st = .ready ∧ t.newImg = imgWords s.pkgPayload ∧ (t.src 473).line = false ∧ (t.src 474).line = false ∧
    t.outside = { s.outside with upd := t.upd, newImg := t.newImg, glb := { s.outside.glb with coldSect := t.glb.coldSect } }) ∧
  (∀ c, s.upd.st = .ready → s.upd.owner = src → s.actCause = some c → runsTo (.activate src) s fun t =>
    t.upd = { s.upd with refCause := c } ∧ t.outside = { s.outside with upd := t.upd }) ∧
  (s.upd.st = .ready → s.upd.owner = src → s.actCause = none → s.pkgClass ≠ 3 → runsTo (.activate src) s fun t =>
    t.upd = { s.upd with st := .pending } ∧ t.glb.warmPend = s.glb.warmPend ||| 1 ∧ t.otp = s.otp ∧
    t.outside = { s.outside with upd := t.upd, glb := { s.outside.glb with warmPend := t.glb.warmPend } }) ∧
  (s.upd.st ≠ .ready → exec (.activate src) s = .next ((s.modUpd fun u => { u with rej := true }).setNow .updRej)) ∧
  (s.upd.st = .idle ∨ s.upd.owner = src → runsTo (.abort src) s fun t => t.upd = { s.upd with st := .idle } ∧ t.glb.warmPend = s.glb.warmPend &&& 2 ∧
    t.otp.activation = none ∧ t.otp.words = s.otp.words ∧ t = { s with upd := t.upd, glb := t.glb, otp := t.otp }) ∧
  (∀ k, (s.iface i).armed = some (0x21, 0, k) → exec (.lock i) s = .next ((s.modIface i fun x => { x with armed := none }).modUpd fun u => { u with lock := true })) ∧
  (∀ k, (s.iface i).armed = some (0x22, 0, k) → exec (.unlock i) s = .next ((s.modIface i fun x => { x with armed := none }).modUpd fun u => { u with lock := false })) ∧
  ((s.iface i).armed = none → exec (.lock i) s = .next ((s.modUpd fun u => { u with rej := true }).setNow .updRej) ∧ exec (.unlock i) s = .next ((s.modUpd fun u => { u with rej := true }).setNow .updRej)) ∧
  exec (.remoteStage i 0) s = .next s ∧
  (∀ sl : Fin 64, sl.val ≠ 0 → s.isDomainHead = false → exec (.remoteStage i sl) s = .next (s.modUpd fun u => { u with remSlot := sl })) ∧
  (∀ c k e, (c = .remoteActivate i ∧ k = 3) ∨ (c = .remoteAbort i ∧ k = 4) → s.isDomainHead = true → s.upd.remSlot ≠ 0 → e = (s.slotRec s.upd.remSlot).eye →
    (s.eye e).st = .up → (s.eye e).txQ = [] → ∀ f : Frame, f = { kind := .bulk, dst := slotFin s.upd.remSlot, src := 0, otag := 0, slot := 0, payload := bulkPayload 3 0 (leBytes 4 k) } →
    (s.eye e).maySend f = true → runsTo c s fun t =>
    (t.eye e).unacked = (s.eye e).unacked ++ [((s.eye e).txSeq, f)] ∧ (t.eye e).txQ = [] ∧ (∀ j, j ≠ e → t.eye j = s.eye j) ∧ t = { s with lace := t.lace }) ∧
  (s.isDomainHead = false → exec (.remoteActivate i) s = .next s ∧ exec (.remoteAbort i) s = .next s)

/-- R524, R531 to R537: a flush that is due writes the buffered records to the ring; a seek places the cursor; a read gives the
record's next four bytes and moves on; an acknowledgement moves the unread mark; a freeze begins, ends and times
out; remote reads; the ring is cleared with an authorisation alone. -/
def Obligations.RecorderReadsAndFlushes : Prop := ∀ (s : State) (i : Iface), s.ready →
  (∀ r, s.recd.buf = [r] → s.recd.freeze = none → s.recd.stopped = false → recBytesUsed s.recd.ring + r.size ≤ Config.recRingBytes →
    (s.recd.trigger = true ∨ 1024 * s.im Img.recWm ≤ r.size ∨ s.im Img.recFlushS * 1000000 * usTime ≤ s.time - s.recd.flushT) → runsTo (.flush none) s fun t =>
    t.recd.buf = [] ∧ t.recd.ring = s.recd.ring ++ [{ r with seq := s.recd.seqNext, bad := false, pf := s.seq.pf }] ∧
    t.recd.seqNext = s.recd.seqNext + 1 ∧ t.recd.flushCnt = s.recd.flushCnt + 1 ∧ t.recd.unread = s.recd.unread ∧ t = { s with recd := t.recd }) ∧
  (s.recd.trigger = false → s.recd.stopped = false → recBytesUsed s.recd.buf < 1024 * s.im Img.recWm →
    (s.recd.buf = [] ∨ s.time - s.recd.flushT < s.im Img.recFlushS * 1000000 * usTime) → ∀ f, exec (.flush f) s = .next s) ∧
  exec (.recFlush i) s = .next (s.modRec fun q => { q with trigger := true }) ∧
  (∀ k, exec (.recordSeek i k) s = .next (s.modIface i fun x => { x with seek := some k })) ∧
  (∀ k, (s.iface i).seek = some k → (k - s.recd.seqOld).toNat < s.recd.ring.length → exec (.seekComplete i) s =
    .next (s.modIface i fun x => { x with seek := none, cursor := some (k, 0) })) ∧
  ((s.iface i).seek = none → exec (.seekComplete i) s = .next s) ∧
  (∀ bad, (s.iface i).cursor = none → exec (.recordRead i bad) s = .next (s.modIface i fun x => { x with reply := [0xFFFFFFFF] })) ∧
  (∀ k o r, (s.iface i).cursor = some (k, o) → k ≠ s.recd.seqNext → s.recd.ring[(k - s.recd.seqOld).toNat]? = some r → exec (.recordRead i false) s =
    .next (s.modIface i fun x => { x with reply := [wordOf (numAt r.bytes o 4)], cursor := some (if o + 4 < r.size then (k, o + 4) else (k + 1, 0)) })) ∧
  (∀ k, (k - s.recd.unread).toNat < (s.recd.seqNext - s.recd.unread).toNat → exec (.recordAck i k) s = .next (s.modRec fun q => { q with unread := k + 1 })) ∧
  (∀ k, (s.recd.seqNext - s.recd.unread).toNat ≤ (k - s.recd.unread).toNat → exec (.recordAck i k) s = .next s) ∧
  (s.recd.freeze = none → runsTo (.freezeBegin i) s fun t => t.recd.freeze = some (i, s.recd.unread) ∧ t.recd.frzIf = i ∧ t.recd.unread = s.recd.unread ∧ t.outside = s.outside) ∧
  (∀ k, s.recd.freeze = some (i, k) → exec (.freezeEnd i) s = .next (s.modRec fun q => { q with freeze := none })) ∧
  (∀ k, s.recd.freeze = some (Iface.other i, k) → exec (.freezeEnd i) s = .next s) ∧
  (s.recd.freeze ≠ none → exec .freezeTimeout s = .next ((s.modRec fun q => { q with freeze := none, frzLost := true }).setNow .freezeLost)) ∧
  (exec (.remoteReadRequest i 0) s = .next s) ∧
  (∀ (sl : Fin 64) e, sl.val ≠ 0 → s.isDomainHead = true → e = (s.slotRec sl).eye → (s.eye e).st = .up → (s.eye e).txQ = [] →
    ∀ f : Frame, f = { kind := .bulk, dst := slotFin sl, src := 0, otag := 0, slot := 0, payload := bulkPayload 1 s.recd.remOfs.toNat [] } →
    (s.eye e).maySend f = true → runsTo (.remoteReadRequest i sl) s fun t =>
    (t.eye e).unacked = (s.eye e).unacked ++ [((s.eye e).txSeq, f)] ∧ (t.eye e).txQ = [] ∧ (∀ j, j ≠ e → t.eye j = s.eye j) ∧ t = { s with lace := t.lace }) ∧
  (s.recd.remBuf = [] → exec (.remoteDataRead i) s = .next (s.modIface i fun x => { x with reply := [0xFFFFFFFF] })) ∧
  (s.recd.remBuf ≠ [] → exec (.remoteDataRead i) s =
    .next ((s.modRec fun q => { q with remBuf := q.remBuf.drop 4 }).modIface i fun x => { x with reply := [wordOf (numAt s.recd.remBuf 0 4)] })) ∧
  (∀ w, (s.iface i).armed = none → exec (.recorderClear i w) s = .next ((s.modRec fun q => { q with clrRej := true }).setNow .clearRej)) ∧
  (∀ w, s.recd.freeze ≠ none → exec (.recorderClear i w) s = .next ((s.modRec fun q => { q with clrRej := true }).setNow .clearRej)) ∧
  (∀ w a k, (s.iface i).armed = some (0x11, a, k) → a = 0 → w = (s.iface i).ticket → s.recd.freeze = none → s.seq.pf = false → runsTo (.recorderClear i w) s fun t =>
    t.recd.ring.map (fun r => (r.ty, r.seq)) = [(6, s.recd.seqNext)] ∧ t.recd.unread = s.recd.seqNext ∧ t.recd.seqNext = s.recd.seqNext + 1 ∧
    (t.iface i).armed = none ∧ t.recd.clrRej = s.recd.clrRej)

/-- R546, R549, R551: while the block governs, a read of TWB0 answers the bytes of its value; CAPABILITY, VOUT_MODE, the
identification and the status and telemetry commands change nothing but the answer. -/
def Obligations.PmbusReadsAnswer : Prop := ∀ (s : State) (c : Instr) (l : List Byte), s.ready →
  (c = .capability ∧ l = [0xD0]) ∨ (c = .voutMode ∧ l = [0x14]) ∨ (c = .pmbusRevision ∧ l = [0x33]) ∨
  (c = .mfrId ∧ l = [6, 0x51, 0x55, 0x4F, 0x4D, 0x55, 0x53]) ∨ (c = .mfrModel ∧ l = [6, 0x4B, 0x56, 0x39, 0x38, 0x34, 0x30]) ∨
  (c = .mfrRevision ∧ l = [2, 0x42, 0x31]) ∨ (c = .page .read ∧ l = leBytes 1 s.host.page) ∨ (c = .writeProtect .read ∧ l = leBytes 1 s.host.wp) ∨
  (c = .operation .read ∧ l = [if (s.st s.host.page).alive then 0x80 else 0x00]) ∨
  (c = .voutCommand .read ∧ l = leBytes 2 (min 0xFFFF ((2 * 4096 * (s.ent s.host.page).val.toInt.toNat + 1000) / 2000))) ∨
  (c = .statusByte ∧ l = leBytes 1 (s.statusWord s.host.page % 256)) ∨ (c = .statusWord ∧ l = leBytes 2 (s.statusWord s.host.page)) ∨
  (c = .statusVout ∧ l = leBytes 1 (s.statusVout s.host.page)) ∨ (c = .statusIout ∧ l = leBytes 1 (s.statusIout s.host.page)) ∨
  (c = .statusCml ∧ l = leBytes 1 s.host.cml.toNat) ∨
  (c = .readVout ∧ l = leBytes 2 (min 0xFFFF ((2 * 1024 * (s.rail s.host.page).vavg + 1000) / 2000))) ∨
  (c = .readIout ∧ l = leBytes 2 (linear11 (if (s.st s.host.page).alive then (s.rail s.host.page).iavg else 0) 1000)) ∨
  (c = .readTemperature1 ∧ l = leBytes 2 (linear11 ((s.hottest s.host.page).getD 0) 1000)) ∨
  (c = .mfrQcpl ∧ s.host.twb0.cplFifo = [] ∧ l = 16 :: List.replicate 16 0) →
  runsTo c s fun t => t.host.twb0.replyBytes = l ∧ t.host.twb0.nacked = false ∧ t = s.pmBytes l

/-- R542, R544, R546 to R551, R559: a PMBus write that its PEC and its protection level permit has its effect: PAGE,
WRITE_PROTECT, one STATE or SETPOINT request for the paged rail, the latched bits cleared, register words written, a
request raised; a failed PEC sets STATUS_CML bit 5, a level that forbids it bit 6, a command outside the tables bit
7. -/
def Obligations.PmbusWritesAct : Prop := ∀ (s : State) (p : Pec), s.ready →
  (s.pecBad p = false → s.host.wp = 0 →
    (∀ v, v < 40 → exec (.page (.write v p)) s = .next ((s.pmBytes []).modHost fun h => { h with page := v })) ∧
    (∀ v, 40 ≤ v → exec (.page (.write v p)) s = .next ((s.pmBytes []).cmlSet 0x40)) ∧
    (∀ v, wpAll.contains v = true → exec (.writeProtect (.write v p)) s = .next ((s.pmBytes []).modHost fun h => { h with wp := v })) ∧
    (∀ v st, (v = 0x80 ∧ st = EState.on) ∨ ((v = 0x40 ∨ v = 0x00) ∧ st = EState.off) → 1 ≤ s.p4Free → runsTo (.operation (.write v p)) s fun t =>
      t.asks (ifacePort .twb0) { stateReq s.host.page st 4 (reqrIface .twb0) with tag := s.host.twb0.lastTag + 1 } ∧
      t.host.twb0.lastTag = s.host.twb0.lastTag + 1 ∧ t.led = s.led ∧ t = { s with pipe := t.pipe, host := t.host }) ∧
    (∀ v, 1 ≤ s.p4Free → runsTo (.voutCommand (.write v p)) s fun t =>
      t.asks (ifacePort .twb0) { ep := s.host.page, kind := .setpoint, val := wordOf ((2000 * v + 4096) / 8192), cls := 4, reqr := reqrIface .twb0, tag := s.host.twb0.lastTag + 1 } ∧
      t.led = s.led ∧ t = { s with pipe := t.pipe, host := t.host }) ∧
    exec (.clearFaults p) s = .next ((s.pmBytes []).modHost fun h => { h with latched := h.latched.set 0 h.page (s.statusNow s.host.page), cml := 0 }) ∧
    (∀ addr w, addr.toNat ≠ 0x010030 → exec (.mfrQwrite addr [w] p) s = .next ((s.pmBytes []).regWrite .twb0 addr.toNat w)) ∧
    (∀ a b c d, exec (.mfrQreq [a, b, c, d] p) s = exec (.requestSubmit .twb0 a) ((s.pmBytes []).modIface .twb0 fun x => { x with w1 := b, w2 := c, w3 := d }))) ∧
  (s.pecBad p = false → wpAll.contains s.host.wp = true → ∀ (a b c d : Word) (r : Req), r = ((s.pmBytes []).modIface .twb0 fun x => { x with w1 := b, w2 := c, w3 := d }).hostReq .twb0 a → r.bnd = false →
    (1 ≤ s.p4Free → runsTo (.mfrQreq [a, b, c, d] p) s fun t => t.asks (ifacePort .twb0) r ∧ t.host.twb0.lastTag = r.tag ∧ t.host.twb0.w1 = b ∧ t.host.twb0.w2 = c ∧
      t.host.twb0.w3 = d ∧ t.host.twb0.reqRej = s.host.twb0.reqRej ∧ t.host.spi = s.host.spi ∧ t = { s with pipe := t.pipe, host := t.host }) ∧
    (s.p4Free = 0 → runsTo (.mfrQreq [a, b, c, d] p) s fun t => t.host.twb0.reqRej = true ∧ t.host.spi = s.host.spi ∧ t = { s with host := t.host })) ∧
  (s.pecBad p = true → ∀ c, (∃ v, c = .page (.write v p)) ∨ (∃ v, c = .operation (.write v p)) ∨ (∃ v, c = .voutCommand (.write v p)) ∨
    (∃ v, c = .writeProtect (.write v p)) ∨ c = .clearFaults p ∨ (∃ a ws, c = .mfrQwrite a ws p) ∨ (∃ ws, c = .mfrQreq ws p) → runsTo c s fun t =>
    t.host.cml = s.host.cml ||| 0x20 ∧ t.host.pec = satAdd 255 s.host.pec 1 ∧ t.host.page = s.host.page ∧ t.host.wp = s.host.wp ∧ t = { s with host := t.host }) ∧
  (s.pecBad p = false → s.host.wp = 0x80 → ∀ c, (∃ v, c = .page (.write v p)) ∨ (∃ v, c = .operation (.write v p)) ∨ (∃ v, c = .voutCommand (.write v p)) ∨
    c = .clearFaults p → exec c s = .next ((s.pmBytes []).cmlSet 0x40)) ∧
  (runsTo (.invalidCommand true) s fun t => t.host.twb0.nacked = true ∧ t.host.cml = s.host.cml ||| 0x80 ∧ t = { s with host := t.host }) ∧
  (runsTo (.invalidCommand false) s fun t => t.host.twb0.replyBytes = [0xFF] ∧ t.host.cml = s.host.cml ||| 0x80 ∧ t = { s with host := t.host }) ∧
  exec .twb0Timeout s = .next (s.modHost fun h => { h with tmo := satAdd 255 h.tmo 1 })

/-- R54, R549, R550, R552 to R558, R560: reads over MFR_QREAD, MFR_QFIFO and SPI give what the register read gives, with
its side effects; MFR_QCPL pops the oldest completion; MFR_QENTRY gives the paged rail's entry; the Alert Response
Address is answered while ALERT_N is low; Host Notify is sent and repeated; a rejected SPI frame is counted. -/
def Obligations.HostWordsAreServed : Prop := ∀ s : State, s.ready →
  (∀ addr bad w t, s.regRead .twb0 addr.toNat bad bad = (w, t) → exec (.mfrQread addr 1 1 [bad]) s = .next ((t.pmBytes (4 :: leBytes 4 w.toNat)).answer .twb0 [w])) ∧
  (∀ addr, exec (.mfrQread addr 1 1 []) s = exec (.mfrQread addr 1 1 [false]) s) ∧
  (∀ addr n, 1 ≤ n → n ≤ 32 → exec (.mfrQread addr n 0 []) s = .next ((s.pmBytes [BitVec.ofNat 8 (4 * n)]).answer .twb0 [])) ∧
  (∀ addr w t v u, s.regRead .twb0 addr.toNat false false = (w, t) → t.regRead .twb0 addr.toNat false false = (v, u) →
    exec (.mfrQfifo addr 2 2 []) s = .next ((u.pmBytes (8 :: (leBytes 4 w.toNat ++ leBytes 4 v.toNat))).answer .twb0 [w, v])) ∧
  (∀ c rest, s.host.twb0.cplFifo = c :: rest → runsTo .mfrQcpl s fun t => t.host.twb0.cplFifo = rest ∧
    t.host.twb0.replyBytes = 16 :: words4Bytes c.words ∧ t = { s with host := t.host }) ∧
  (s.host.twb0.entryLatch = none → s.host.page < 40 → runsTo (.mfrQentry false) s fun t =>
    t.host.twb0.replyBytes = 16 :: words4Bytes (s.fpEntry s.host.page).words ∧ t = { s with host := t.host }) ∧
  (s.alertLow = true → exec (.alertResponse true) s = .next (s.pmBytes (leBytes 1 (2 * s.twbAddr)))) ∧
  (exec (.alertResponse false) s = .next s) ∧ (s.alertLow = false → exec (.alertResponse true) s = .next s) ∧
  (∀ ok, s.imb Img.twbHnEn = true → s.intLow .twb0 = true → exec (.hostNotify ok) s =
    .next (s.modHost fun h => { h with hnWord := BitVec.ofNat 16 s.notifyWord, hnRetry := if ok then none else some 0 })) ∧
  (∀ ok, s.imb Img.twbHnEn = false → exec (.hostNotify ok) s = .next s) ∧
  (∀ k, s.host.hnRetry = some k → exec (.hostNotifyRetry true) s = .next (s.modHost fun h => { h with hnRetry := none })) ∧
  (∀ k, s.host.hnRetry = some k → k < 2 → exec (.hostNotifyRetry false) s = .next (s.modHost fun h => { h with hnRetry := some (k + 1) })) ∧
  (∀ k, s.host.hnRetry = some k → 2 ≤ k → exec (.hostNotifyRetry false) s = .next (s.modHost fun h => { h with hnRetry := none, hnFail := satAdd 255 h.hnFail 1 })) ∧
  (∀ ok, s.host.hnRetry = none → exec (.hostNotifyRetry ok) s = .next s) ∧
  (∀ a b c w t, s.regRead .spi (spiAddr [0, a, b, c]) false false = (w, t) → runsTo (.spiReadFrame [0, a, b, c] true []) s fun u =>
    u.host.spi.reply = [w] ∧ (∃ n st, u.host.spi.replyBytes = List.replicate n 0xFF ++ st :: leBytes 4 w.toNat ∧ st.getLsbD 7 = true) ∧
    u.host.spiRej = false ∧ u = { t with host := u.host }) ∧
  (∀ a b c, runsTo (.spiReadFrame [0, a, b, c] false []) s fun u =>
    u.host.spi.reply = [] ∧ u.host.spiRej = false ∧ u = { s with host := u.host }) ∧
  (∀ a b c w0 w1 w2 w3, s.imb Img.twbSpiCrcReq = false → spiAddr [0x40, a, b, c] ≠ 0x010030 → exec (.spiWriteFrame [0x40, a, b, c, w0, w1, w2, w3]) s =
    .next (s.regWrite .spi (spiAddr [0x40, a, b, c]) (wordOf (leNat [w0, w1, w2, w3])))) ∧
  (∀ a b c, exec (.spiWriteFrame [0x40, a, b, c]) s = .next (s.modHost fun h => { h with spiErr := satAdd 255 h.spiErr 1, spiRej := true }))

/-- R5, R24, R39, R126, R341, R488, R541, R564, R620, R625: host writes to registers without a row of their own act on
their own fields and nothing else, a 1 that meets the setting of its bit in the same cycle leaves it set; a write to a read-only or an unused address has no effect; board inputs follow
their filtered levels and are wake conditions where enabled. -/
def Obligations.RegistersAndPinsFollow : Prop := ∀ (s : State) (i : Iface), s.ready →
  (∀ (a : BitVec 24) w, a = 0x000060 ∨ a = 0x000064 → exec (.registerWrite i a w) s = .next (s.setRw a.toNat w)) ∧
  (∀ w : Word, w.getLsbD 16 = true → s.glb.avCyc ≠ some s.cyc → exec (.registerWrite i 0x000014 w) s = .next (s.modGlb fun g => { g with avLost := false })) ∧
  (∀ w : Word, w.getLsbD 16 = false ∨ s.glb.avCyc = some s.cyc → exec (.registerWrite i 0x000014 w) s = .next s) ∧
  (∀ w : Word, w.getLsbD 16 = true → exec (.registerWrite i 0x07000C w) s = .next (s.modLane fun l => { l with holdMax := if l.endCyc = some s.cyc then l.holdLen else 0 })) ∧
  (∀ w : Word, w.getLsbD 0 = true → exec (.registerWrite i 0x10000C w) s = .next (s.modHost fun h => { h with tmo := 0, pec := 0, spiErr := 0, hnFail := 0 })) ∧
  (∀ w : Word, (∀ k : Fin 4, s.justSet (.gauge k) = false) → exec (.registerWrite i 0x0C0060 w) s =
    .next (s.modGau fun g => { g with ie := BitVec.ofNat 4 (bitsOf w.toNat 19 16), intF := g.intF &&& ~~~(w.setWidth 4) })) ∧
  (∀ (w : Word) (k : Fin 4), s.justSet (.gauge k) = true → runsTo (.registerWrite i 0x0C0060 w) s fun t => t.gau.intF.getLsbD k = s.gau.intF.getLsbD k) ∧
  (∀ (a : BitVec 24) w, a = 0x000000 ∨ a = 0x000010 ∨ a = 0x000068 ∨ 0x130000 ≤ a.toNat → exec (.registerWrite i a w) s = .next s) ∧
  (∀ (n : Fin 32) lv, bitOf (s.im Img.wakeGpio) n.val = false → exec (.gpioChange n lv) s =
    .next (s.modGlb fun g => { g with gpioIn := if lv then g.gpioIn ||| BitVec.ofNat 32 (2 ^ n.val) else g.gpioIn &&& ~~~BitVec.ofNat 32 (2 ^ n.val) })) ∧
  (∀ (n : Fin 32) lv, bitOf (s.im Img.wakeGpio) n.val = true → s.glb.gpioIn.getLsbD n.val ≠ lv → s.glb.mode = .parked → s.glb.waking = none →
    runsTo (.gpioChange n lv) s fun t => t.glb.waking = some (3, s.cyc) ∧ t.glb.gpioIn.getLsbD n.val = lv ∧ t = { s with glb := t.glb }) ∧
  (∀ mv n, s.imb Img.wakeMotion = false → s.st liMotion ≠ .absent → s.led.cmtNow < 3840 → runsTo (.motionChange mv n) s fun t =>
    t.st liMotion = (if mv then .active else .clear) ∧ (t.stored liMotion).val = wordOf n ∧ (∀ id, id ≠ liMotion → t.stored id = s.stored id) ∧
    t = { s with led := t.led, freeCtr := t.freeCtr }) ∧
  ((s.st liMotion = .active ∨ s.st liMotion = .clear) → s.led.cmtNow < 3840 → runsTo .motionRefreshLimit s fun t =>
    t.st liMotion = .stale ∧ (t.stored liMotion).val = (s.stored liMotion).val ∧ (∀ id, id ≠ liMotion → t.stored id = s.stored id) ∧
    t = { s with led := t.led, freeCtr := t.freeCtr }) ∧
  (s.st liMotion = .stale → exec .motionRefreshLimit s = .next s) ∧
  (s.glb.mode = .parked → s.glb.waking = none → exec (.wakeCommand i) s = .next (s.modGlb fun g => { g with waking := some (1, s.cyc) })) ∧
  (s.glb.mode = .run → s.glb.parkPend = false → exec (.wakeCommand i) s = .next s)
end

