-- ==== Sys2Proof/Laws/Tables.lean ====
section
/-! SUPPORT. The laws of the sparse table: what an entry reads as after a write, and that a write keeps the canonical form. -/

namespace Sys2Proof

variable {α : Type}

theorem Tbl.get_ins (d v : α) (k : Nat) (t : Tbl α) (j : Nat) : Tbl.get d (Tbl.ins k v t) j = if k = j then v else Tbl.get d t j := by
  induction t with
  | nil => simp [Tbl.ins, Tbl.get]
  | cons a t ih =>
    obtain ⟨i, w⟩ := a
    simp only [Tbl.ins]
    split
    · simp [Tbl.get]
    · split
      · subst_vars; simp only [Tbl.get]; split <;> rfl
      · simp only [Tbl.get, ih]; split
        · subst_vars; split <;> simp_all
        · rfl

theorem Tbl.get_del (d : α) (k : Nat) (t : Tbl α) (j : Nat) : Tbl.get d (Tbl.del k t) j = if k = j then d else Tbl.get d t j := by
  induction t with
  | nil => simp [Tbl.del, Tbl.get]
  | cons a t ih =>
    obtain ⟨i, w⟩ := a
    simp only [Tbl.del]
    split
    · rw [ih]; subst_vars; simp only [Tbl.get]; split <;> rfl
    · simp only [Tbl.get, ih]; split
      · subst_vars; split <;> simp_all
      · rfl

theorem Tbl.mem_ins {k : Nat} {v : α} {t : Tbl α} {x : Nat × α} (h : x ∈ Tbl.ins k v t) : x = (k, v) ∨ x ∈ t := by
  induction t with
  | nil => simpa [Tbl.ins] using h
  | cons a t ih =>
    obtain ⟨j, w⟩ := a
    simp only [Tbl.ins] at h
    split at h
    · simpa using h
    · split at h
      · simp only [List.mem_cons] at h ⊢; tauto
      · simp only [List.mem_cons] at h ⊢; rcases h with h | h
        · tauto
        · rcases ih h with h | h <;> tauto

theorem Tbl.mem_del {k : Nat} {t : Tbl α} {x : Nat × α} (h : x ∈ Tbl.del k t) : x ∈ t := by
  induction t with
  | nil => simp [Tbl.del] at h
  | cons a t ih =>
    obtain ⟨j, w⟩ := a
    simp only [Tbl.del] at h
    split at h
    · exact List.mem_cons_of_mem _ (ih h)
    · simp only [List.mem_cons] at h ⊢; rcases h with h | h
      · exact .inl h
      · exact .inr (ih h)

variable [DecidableEq α]

/-- What an entry reads as after a write of entry k. -/
theorem Tbl.get_set (d v : α) (k : Nat) (t : Tbl α) (j : Nat) : Tbl.get d (Tbl.set d t k v) j = if k = j then v else Tbl.get d t j := by
  unfold Tbl.set; split
  · rw [Tbl.get_del]; subst_vars; rfl
  · exact Tbl.get_ins ..

@[simp] theorem Tbl.get_set_same (d v : α) (k : Nat) (t : Tbl α) : Tbl.get d (Tbl.set d t k v) k = v := by simp [Tbl.get_set]

theorem Tbl.get_set_other (d v : α) {k j : Nat} (h : j ≠ k) (t : Tbl α) : Tbl.get d (Tbl.set d t k v) j = Tbl.get d t j := by
  simp [Tbl.get_set, Ne.symm h]

/-- The canonical form, as two facts about a listed entry and the rest. -/
theorem Tbl.wf_cons (d : α) (j : Nat) (v : α) (t : Tbl α) :
    Tbl.wf d ((j, v) :: t) = true ↔ v ≠ d ∧ (∀ x ∈ t, j < x.1) ∧ Tbl.wf d t = true := by
  induction t generalizing j v with
  | nil => simp [Tbl.wf]
  | cons a t ih =>
    obtain ⟨k, w⟩ := a
    have := ih k w
    simp only [Tbl.wf, Bool.and_eq_true, bne_iff_ne, ne_eq, decide_eq_true_eq, List.mem_cons, forall_eq_or_imp]
    constructor
    · rintro ⟨⟨h1, h2⟩, h3⟩
      exact ⟨h1, ⟨h2, fun x hx => Nat.lt_trans h2 ((this.mp h3).2.1 x hx)⟩, h3⟩
    · rintro ⟨h1, ⟨h2, _⟩, h3⟩
      exact ⟨⟨h1, h2⟩, h3⟩

theorem Tbl.ins_wf {d v : α} (hv : v ≠ d) (k : Nat) (t : Tbl α) (h : Tbl.wf d t = true) : Tbl.wf d (Tbl.ins k v t) = true := by
  induction t with
  | nil => simp [Tbl.ins, Tbl.wf, hv]
  | cons a t ih =>
    obtain ⟨j, w⟩ := a
    rw [Tbl.wf_cons] at h
    obtain ⟨hw, hj, ht⟩ := h
    simp only [Tbl.ins]
    split
    · rename_i hk
      rw [Tbl.wf_cons]
      refine ⟨hv, fun x hx => ?_, by rw [Tbl.wf_cons]; exact ⟨hw, hj, ht⟩⟩
      rcases List.mem_cons.mp hx with rfl | hx
      · exact hk
      · exact Nat.lt_trans hk (hj x hx)
    · split
      · subst_vars; rw [Tbl.wf_cons]; exact ⟨hv, hj, ht⟩
      · rename_i h1 h2
        rw [Tbl.wf_cons]
        refine ⟨hw, fun x hx => ?_, ih ht⟩
        rcases Tbl.mem_ins hx with rfl | hx
        · simp only; omega
        · exact hj x hx

theorem Tbl.del_wf {d : α} (k : Nat) (t : Tbl α) (h : Tbl.wf d t = true) : Tbl.wf d (Tbl.del k t) = true := by
  induction t with
  | nil => rfl
  | cons a t ih =>
    obtain ⟨j, w⟩ := a
    rw [Tbl.wf_cons] at h
    simp only [Tbl.del]
    split
    · exact ih h.2.2
    · rw [Tbl.wf_cons]; exact ⟨h.1, fun x hx => h.2.1 x (Tbl.mem_del hx), ih h.2.2⟩

/-- A write keeps the canonical form: keys strictly rising, no entry equal to the default. -/
theorem Tbl.set_wf (d v : α) (t : Tbl α) (k : Nat) (h : Tbl.wf d t = true) : Tbl.wf d (Tbl.set d t k v) = true := by
  unfold Tbl.set; split
  · exact Tbl.del_wf k t h
  · rename_i hv; exact Tbl.ins_wf hv k t h

end Sys2Proof
end

