-- ==== Sys2Proof/Laws/State.lean ====
section
/-! SUPPORT. What each update of the state leaves in each field, one lemma per field and update, and what a table entry reads
as after an update of the table. -/

namespace Sys2Proof.Machine

variable (s : State)

@[simp] theorem State.modRail_pending (k : Nat) (f : Rail → Rail) : (s.modRail k f).pending = s.pending := rfl
@[simp] theorem State.modRail_freeCtr (k : Nat) (f : Rail → Rail) : (s.modRail k f).freeCtr = s.freeCtr := rfl
@[simp] theorem State.modRail_cyc (k : Nat) (f : Rail → Rail) : (s.modRail k f).cyc = s.cyc := rfl
@[simp] theorem State.modRail_tickAt (k : Nat) (f : Rail → Rail) : (s.modRail k f).tickAt = s.tickAt := rfl
@[simp] theorem State.modRail_img (k : Nat) (f : Rail → Rail) : (s.modRail k f).img = s.img := rfl
@[simp] theorem State.modRail_newImg (k : Nat) (f : Rail → Rail) : (s.modRail k f).newImg = s.newImg := rfl
@[simp] theorem State.modRail_rw (k : Nat) (f : Rail → Rail) : (s.modRail k f).rw = s.rw := rfl
@[simp] theorem State.modRail_glb (k : Nat) (f : Rail → Rail) : (s.modRail k f).glb = s.glb := rfl
@[simp] theorem State.modRail_led (k : Nat) (f : Rail → Rail) : (s.modRail k f).led = s.led := rfl
@[simp] theorem State.modRail_pipe (k : Nat) (f : Rail → Rail) : (s.modRail k f).pipe = s.pipe := rfl
@[simp] theorem State.modRail_pol (k : Nat) (f : Rail → Rail) : (s.modRail k f).pol = s.pol := rfl
@[simp] theorem State.modRail_loops (k : Nat) (f : Rail → Rail) : (s.modRail k f).loops = s.loops := rfl
@[simp] theorem State.modRail_lathe (k : Nat) (f : Rail → Rail) : (s.modRail k f).lathe = s.lathe := rfl
@[simp] theorem State.modRail_traces (k : Nat) (f : Rail → Rail) : (s.modRail k f).traces = s.traces := rfl
@[simp] theorem State.modRail_phases (k : Nat) (f : Rail → Rail) : (s.modRail k f).phases = s.phases := rfl
@[simp] theorem State.modRail_switches (k : Nat) (f : Rail → Rail) : (s.modRail k f).switches = s.switches := rfl
@[simp] theorem State.modRail_groups (k : Nat) (f : Rail → Rail) : (s.modRail k f).groups = s.groups := rfl
@[simp] theorem State.modRail_seq (k : Nat) (f : Rail → Rail) : (s.modRail k f).seq = s.seq := rfl
@[simp] theorem State.modRail_srcs (k : Nat) (f : Rail → Rail) : (s.modRail k f).srcs = s.srcs := rfl
@[simp] theorem State.modRail_faultN (k : Nat) (f : Rail → Rail) : (s.modRail k f).faultN = s.faultN := rfl
@[simp] theorem State.modRail_evts (k : Nat) (f : Rail → Rail) : (s.modRail k f).evts = s.evts := rfl
@[simp] theorem State.modRail_lane (k : Nat) (f : Rail → Rail) : (s.modRail k f).lane = s.lane := rfl
@[simp] theorem State.modRail_lace (k : Nat) (f : Rail → Rail) : (s.modRail k f).lace = s.lace := rfl
@[simp] theorem State.modRail_foreign (k : Nat) (f : Rail → Rail) : (s.modRail k f).foreign = s.foreign := rfl
@[simp] theorem State.modRail_vmodes (k : Nat) (f : Rail → Rail) : (s.modRail k f).vmodes = s.vmodes := rfl
@[simp] theorem State.modRail_adc (k : Nat) (f : Rail → Rail) : (s.modRail k f).adc = s.adc := rfl
@[simp] theorem State.modRail_thm (k : Nat) (f : Rail → Rail) : (s.modRail k f).thm = s.thm := rfl
@[simp] theorem State.modRail_chg (k : Nat) (f : Rail → Rail) : (s.modRail k f).chg = s.chg := rfl
@[simp] theorem State.modRail_gau (k : Nat) (f : Rail → Rail) : (s.modRail k f).gau = s.gau := rfl
@[simp] theorem State.modRail_rtc (k : Nat) (f : Rail → Rail) : (s.modRail k f).rtc = s.rtc := rfl
@[simp] theorem State.modRail_wdgs (k : Nat) (f : Rail → Rail) : (s.modRail k f).wdgs = s.wdgs := rfl
@[simp] theorem State.modRail_tbRc (k : Nat) (f : Rail → Rail) : (s.modRail k f).tbRc = s.tbRc := rfl
@[simp] theorem State.modRail_recd (k : Nat) (f : Rail → Rail) : (s.modRail k f).recd = s.recd := rfl
@[simp] theorem State.modRail_host (k : Nat) (f : Rail → Rail) : (s.modRail k f).host = s.host := rfl
@[simp] theorem State.modRail_otp (k : Nat) (f : Rail → Rail) : (s.modRail k f).otp = s.otp := rfl
@[simp] theorem State.modRail_upd (k : Nat) (f : Rail → Rail) : (s.modRail k f).upd = s.upd := rfl
@[simp] theorem State.modRail_mram (k : Nat) (f : Rail → Rail) : (s.modRail k f).mram = s.mram := rfl
@[simp] theorem State.modRail_setAt (k : Nat) (f : Rail → Rail) : (s.modRail k f).setAt = s.setAt := rfl
@[simp] theorem State.modRail_rail (k : Nat) (f : Rail → Rail) : (s.modRail k f).rail k = f (s.rail k) := by simp [State.modRail, State.rail]
theorem State.modRail_rail_at (k : Nat) (f : Rail → Rail) (j : Nat) : (s.modRail k f).rail j = if k = j then f (s.rail k) else s.rail j := by simp [State.modRail, State.rail, Tbl.get_set]
theorem State.modRail_rail_ne (k : Nat) (f : Rail → Rail) (j : Nat) (h : j ≠ k) : (s.modRail k f).rail j = s.rail j := by simp [State.modRail_rail_at, Ne.symm h]
@[simp] theorem State.modPhase_pending (k : Nat) (f : Phase → Phase) : (s.modPhase k f).pending = s.pending := rfl
@[simp] theorem State.modPhase_freeCtr (k : Nat) (f : Phase → Phase) : (s.modPhase k f).freeCtr = s.freeCtr := rfl
@[simp] theorem State.modPhase_cyc (k : Nat) (f : Phase → Phase) : (s.modPhase k f).cyc = s.cyc := rfl
@[simp] theorem State.modPhase_tickAt (k : Nat) (f : Phase → Phase) : (s.modPhase k f).tickAt = s.tickAt := rfl
@[simp] theorem State.modPhase_img (k : Nat) (f : Phase → Phase) : (s.modPhase k f).img = s.img := rfl
@[simp] theorem State.modPhase_newImg (k : Nat) (f : Phase → Phase) : (s.modPhase k f).newImg = s.newImg := rfl
@[simp] theorem State.modPhase_rw (k : Nat) (f : Phase → Phase) : (s.modPhase k f).rw = s.rw := rfl
@[simp] theorem State.modPhase_glb (k : Nat) (f : Phase → Phase) : (s.modPhase k f).glb = s.glb := rfl
@[simp] theorem State.modPhase_led (k : Nat) (f : Phase → Phase) : (s.modPhase k f).led = s.led := rfl
@[simp] theorem State.modPhase_pipe (k : Nat) (f : Phase → Phase) : (s.modPhase k f).pipe = s.pipe := rfl
@[simp] theorem State.modPhase_pol (k : Nat) (f : Phase → Phase) : (s.modPhase k f).pol = s.pol := rfl
@[simp] theorem State.modPhase_loops (k : Nat) (f : Phase → Phase) : (s.modPhase k f).loops = s.loops := rfl
@[simp] theorem State.modPhase_rails (k : Nat) (f : Phase → Phase) : (s.modPhase k f).rails = s.rails := rfl
@[simp] theorem State.modPhase_lathe (k : Nat) (f : Phase → Phase) : (s.modPhase k f).lathe = s.lathe := rfl
@[simp] theorem State.modPhase_traces (k : Nat) (f : Phase → Phase) : (s.modPhase k f).traces = s.traces := rfl
@[simp] theorem State.modPhase_switches (k : Nat) (f : Phase → Phase) : (s.modPhase k f).switches = s.switches := rfl
@[simp] theorem State.modPhase_groups (k : Nat) (f : Phase → Phase) : (s.modPhase k f).groups = s.groups := rfl
@[simp] theorem State.modPhase_seq (k : Nat) (f : Phase → Phase) : (s.modPhase k f).seq = s.seq := rfl
@[simp] theorem State.modPhase_srcs (k : Nat) (f : Phase → Phase) : (s.modPhase k f).srcs = s.srcs := rfl
@[simp] theorem State.modPhase_faultN (k : Nat) (f : Phase → Phase) : (s.modPhase k f).faultN = s.faultN := rfl
@[simp] theorem State.modPhase_evts (k : Nat) (f : Phase → Phase) : (s.modPhase k f).evts = s.evts := rfl
@[simp] theorem State.modPhase_lane (k : Nat) (f : Phase → Phase) : (s.modPhase k f).lane = s.lane := rfl
@[simp] theorem State.modPhase_lace (k : Nat) (f : Phase → Phase) : (s.modPhase k f).lace = s.lace := rfl
@[simp] theorem State.modPhase_foreign (k : Nat) (f : Phase → Phase) : (s.modPhase k f).foreign = s.foreign := rfl
@[simp] theorem State.modPhase_vmodes (k : Nat) (f : Phase → Phase) : (s.modPhase k f).vmodes = s.vmodes := rfl
@[simp] theorem State.modPhase_adc (k : Nat) (f : Phase → Phase) : (s.modPhase k f).adc = s.adc := rfl
@[simp] theorem State.modPhase_thm (k : Nat) (f : Phase → Phase) : (s.modPhase k f).thm = s.thm := rfl
@[simp] theorem State.modPhase_chg (k : Nat) (f : Phase → Phase) : (s.modPhase k f).chg = s.chg := rfl
@[simp] theorem State.modPhase_gau (k : Nat) (f : Phase → Phase) : (s.modPhase k f).gau = s.gau := rfl
@[simp] theorem State.modPhase_rtc (k : Nat) (f : Phase → Phase) : (s.modPhase k f).rtc = s.rtc := rfl
@[simp] theorem State.modPhase_wdgs (k : Nat) (f : Phase → Phase) : (s.modPhase k f).wdgs = s.wdgs := rfl
@[simp] theorem State.modPhase_tbRc (k : Nat) (f : Phase → Phase) : (s.modPhase k f).tbRc = s.tbRc := rfl
@[simp] theorem State.modPhase_recd (k : Nat) (f : Phase → Phase) : (s.modPhase k f).recd = s.recd := rfl
@[simp] theorem State.modPhase_host (k : Nat) (f : Phase → Phase) : (s.modPhase k f).host = s.host := rfl
@[simp] theorem State.modPhase_otp (k : Nat) (f : Phase → Phase) : (s.modPhase k f).otp = s.otp := rfl
@[simp] theorem State.modPhase_upd (k : Nat) (f : Phase → Phase) : (s.modPhase k f).upd = s.upd := rfl
@[simp] theorem State.modPhase_mram (k : Nat) (f : Phase → Phase) : (s.modPhase k f).mram = s.mram := rfl
@[simp] theorem State.modPhase_setAt (k : Nat) (f : Phase → Phase) : (s.modPhase k f).setAt = s.setAt := rfl
@[simp] theorem State.modPhase_phase (k : Nat) (f : Phase → Phase) : (s.modPhase k f).phase k = f (s.phase k) := by simp [State.modPhase, State.phase]
theorem State.modPhase_phase_at (k : Nat) (f : Phase → Phase) (j : Nat) : (s.modPhase k f).phase j = if k = j then f (s.phase k) else s.phase j := by simp [State.modPhase, State.phase, Tbl.get_set]
theorem State.modPhase_phase_ne (k : Nat) (f : Phase → Phase) (j : Nat) (h : j ≠ k) : (s.modPhase k f).phase j = s.phase j := by simp [State.modPhase_phase_at, Ne.symm h]
@[simp] theorem State.modSwitch_pending (k : Nat) (f : Switch → Switch) : (s.modSwitch k f).pending = s.pending := rfl
@[simp] theorem State.modSwitch_freeCtr (k : Nat) (f : Switch → Switch) : (s.modSwitch k f).freeCtr = s.freeCtr := rfl
@[simp] theorem State.modSwitch_cyc (k : Nat) (f : Switch → Switch) : (s.modSwitch k f).cyc = s.cyc := rfl
@[simp] theorem State.modSwitch_tickAt (k : Nat) (f : Switch → Switch) : (s.modSwitch k f).tickAt = s.tickAt := rfl
@[simp] theorem State.modSwitch_img (k : Nat) (f : Switch → Switch) : (s.modSwitch k f).img = s.img := rfl
@[simp] theorem State.modSwitch_newImg (k : Nat) (f : Switch → Switch) : (s.modSwitch k f).newImg = s.newImg := rfl
@[simp] theorem State.modSwitch_rw (k : Nat) (f : Switch → Switch) : (s.modSwitch k f).rw = s.rw := rfl
@[simp] theorem State.modSwitch_glb (k : Nat) (f : Switch → Switch) : (s.modSwitch k f).glb = s.glb := rfl
@[simp] theorem State.modSwitch_led (k : Nat) (f : Switch → Switch) : (s.modSwitch k f).led = s.led := rfl
@[simp] theorem State.modSwitch_pipe (k : Nat) (f : Switch → Switch) : (s.modSwitch k f).pipe = s.pipe := rfl
@[simp] theorem State.modSwitch_pol (k : Nat) (f : Switch → Switch) : (s.modSwitch k f).pol = s.pol := rfl
@[simp] theorem State.modSwitch_loops (k : Nat) (f : Switch → Switch) : (s.modSwitch k f).loops = s.loops := rfl
@[simp] theorem State.modSwitch_rails (k : Nat) (f : Switch → Switch) : (s.modSwitch k f).rails = s.rails := rfl
@[simp] theorem State.modSwitch_lathe (k : Nat) (f : Switch → Switch) : (s.modSwitch k f).lathe = s.lathe := rfl
@[simp] theorem State.modSwitch_traces (k : Nat) (f : Switch → Switch) : (s.modSwitch k f).traces = s.traces := rfl
@[simp] theorem State.modSwitch_phases (k : Nat) (f : Switch → Switch) : (s.modSwitch k f).phases = s.phases := rfl
@[simp] theorem State.modSwitch_groups (k : Nat) (f : Switch → Switch) : (s.modSwitch k f).groups = s.groups := rfl
@[simp] theorem State.modSwitch_seq (k : Nat) (f : Switch → Switch) : (s.modSwitch k f).seq = s.seq := rfl
@[simp] theorem State.modSwitch_srcs (k : Nat) (f : Switch → Switch) : (s.modSwitch k f).srcs = s.srcs := rfl
@[simp] theorem State.modSwitch_faultN (k : Nat) (f : Switch → Switch) : (s.modSwitch k f).faultN = s.faultN := rfl
@[simp] theorem State.modSwitch_evts (k : Nat) (f : Switch → Switch) : (s.modSwitch k f).evts = s.evts := rfl
@[simp] theorem State.modSwitch_lane (k : Nat) (f : Switch → Switch) : (s.modSwitch k f).lane = s.lane := rfl
@[simp] theorem State.modSwitch_lace (k : Nat) (f : Switch → Switch) : (s.modSwitch k f).lace = s.lace := rfl
@[simp] theorem State.modSwitch_foreign (k : Nat) (f : Switch → Switch) : (s.modSwitch k f).foreign = s.foreign := rfl
@[simp] theorem State.modSwitch_vmodes (k : Nat) (f : Switch → Switch) : (s.modSwitch k f).vmodes = s.vmodes := rfl
@[simp] theorem State.modSwitch_adc (k : Nat) (f : Switch → Switch) : (s.modSwitch k f).adc = s.adc := rfl
@[simp] theorem State.modSwitch_thm (k : Nat) (f : Switch → Switch) : (s.modSwitch k f).thm = s.thm := rfl
@[simp] theorem State.modSwitch_chg (k : Nat) (f : Switch → Switch) : (s.modSwitch k f).chg = s.chg := rfl
@[simp] theorem State.modSwitch_gau (k : Nat) (f : Switch → Switch) : (s.modSwitch k f).gau = s.gau := rfl
@[simp] theorem State.modSwitch_rtc (k : Nat) (f : Switch → Switch) : (s.modSwitch k f).rtc = s.rtc := rfl
@[simp] theorem State.modSwitch_wdgs (k : Nat) (f : Switch → Switch) : (s.modSwitch k f).wdgs = s.wdgs := rfl
@[simp] theorem State.modSwitch_tbRc (k : Nat) (f : Switch → Switch) : (s.modSwitch k f).tbRc = s.tbRc := rfl
@[simp] theorem State.modSwitch_recd (k : Nat) (f : Switch → Switch) : (s.modSwitch k f).recd = s.recd := rfl
@[simp] theorem State.modSwitch_host (k : Nat) (f : Switch → Switch) : (s.modSwitch k f).host = s.host := rfl
@[simp] theorem State.modSwitch_otp (k : Nat) (f : Switch → Switch) : (s.modSwitch k f).otp = s.otp := rfl
@[simp] theorem State.modSwitch_upd (k : Nat) (f : Switch → Switch) : (s.modSwitch k f).upd = s.upd := rfl
@[simp] theorem State.modSwitch_mram (k : Nat) (f : Switch → Switch) : (s.modSwitch k f).mram = s.mram := rfl
@[simp] theorem State.modSwitch_setAt (k : Nat) (f : Switch → Switch) : (s.modSwitch k f).setAt = s.setAt := rfl
@[simp] theorem State.modSwitch_switch (k : Nat) (f : Switch → Switch) : (s.modSwitch k f).switch k = f (s.switch k) := by simp [State.modSwitch, State.switch]
theorem State.modSwitch_switch_at (k : Nat) (f : Switch → Switch) (j : Nat) : (s.modSwitch k f).switch j = if k = j then f (s.switch k) else s.switch j := by simp [State.modSwitch, State.switch, Tbl.get_set]
theorem State.modSwitch_switch_ne (k : Nat) (f : Switch → Switch) (j : Nat) (h : j ≠ k) : (s.modSwitch k f).switch j = s.switch j := by simp [State.modSwitch_switch_at, Ne.symm h]
@[simp] theorem State.modGroup_pending (k : Nat) (f : Group → Group) : (s.modGroup k f).pending = s.pending := rfl
@[simp] theorem State.modGroup_freeCtr (k : Nat) (f : Group → Group) : (s.modGroup k f).freeCtr = s.freeCtr := rfl
@[simp] theorem State.modGroup_cyc (k : Nat) (f : Group → Group) : (s.modGroup k f).cyc = s.cyc := rfl
@[simp] theorem State.modGroup_tickAt (k : Nat) (f : Group → Group) : (s.modGroup k f).tickAt = s.tickAt := rfl
@[simp] theorem State.modGroup_img (k : Nat) (f : Group → Group) : (s.modGroup k f).img = s.img := rfl
@[simp] theorem State.modGroup_newImg (k : Nat) (f : Group → Group) : (s.modGroup k f).newImg = s.newImg := rfl
@[simp] theorem State.modGroup_rw (k : Nat) (f : Group → Group) : (s.modGroup k f).rw = s.rw := rfl
@[simp] theorem State.modGroup_glb (k : Nat) (f : Group → Group) : (s.modGroup k f).glb = s.glb := rfl
@[simp] theorem State.modGroup_led (k : Nat) (f : Group → Group) : (s.modGroup k f).led = s.led := rfl
@[simp] theorem State.modGroup_pipe (k : Nat) (f : Group → Group) : (s.modGroup k f).pipe = s.pipe := rfl
@[simp] theorem State.modGroup_pol (k : Nat) (f : Group → Group) : (s.modGroup k f).pol = s.pol := rfl
@[simp] theorem State.modGroup_loops (k : Nat) (f : Group → Group) : (s.modGroup k f).loops = s.loops := rfl
@[simp] theorem State.modGroup_rails (k : Nat) (f : Group → Group) : (s.modGroup k f).rails = s.rails := rfl
@[simp] theorem State.modGroup_lathe (k : Nat) (f : Group → Group) : (s.modGroup k f).lathe = s.lathe := rfl
@[simp] theorem State.modGroup_traces (k : Nat) (f : Group → Group) : (s.modGroup k f).traces = s.traces := rfl
@[simp] theorem State.modGroup_phases (k : Nat) (f : Group → Group) : (s.modGroup k f).phases = s.phases := rfl
@[simp] theorem State.modGroup_switches (k : Nat) (f : Group → Group) : (s.modGroup k f).switches = s.switches := rfl
@[simp] theorem State.modGroup_seq (k : Nat) (f : Group → Group) : (s.modGroup k f).seq = s.seq := rfl
@[simp] theorem State.modGroup_srcs (k : Nat) (f : Group → Group) : (s.modGroup k f).srcs = s.srcs := rfl
@[simp] theorem State.modGroup_faultN (k : Nat) (f : Group → Group) : (s.modGroup k f).faultN = s.faultN := rfl
@[simp] theorem State.modGroup_evts (k : Nat) (f : Group → Group) : (s.modGroup k f).evts = s.evts := rfl
@[simp] theorem State.modGroup_lane (k : Nat) (f : Group → Group) : (s.modGroup k f).lane = s.lane := rfl
@[simp] theorem State.modGroup_lace (k : Nat) (f : Group → Group) : (s.modGroup k f).lace = s.lace := rfl
@[simp] theorem State.modGroup_foreign (k : Nat) (f : Group → Group) : (s.modGroup k f).foreign = s.foreign := rfl
@[simp] theorem State.modGroup_vmodes (k : Nat) (f : Group → Group) : (s.modGroup k f).vmodes = s.vmodes := rfl
@[simp] theorem State.modGroup_adc (k : Nat) (f : Group → Group) : (s.modGroup k f).adc = s.adc := rfl
@[simp] theorem State.modGroup_thm (k : Nat) (f : Group → Group) : (s.modGroup k f).thm = s.thm := rfl
@[simp] theorem State.modGroup_chg (k : Nat) (f : Group → Group) : (s.modGroup k f).chg = s.chg := rfl
@[simp] theorem State.modGroup_gau (k : Nat) (f : Group → Group) : (s.modGroup k f).gau = s.gau := rfl
@[simp] theorem State.modGroup_rtc (k : Nat) (f : Group → Group) : (s.modGroup k f).rtc = s.rtc := rfl
@[simp] theorem State.modGroup_wdgs (k : Nat) (f : Group → Group) : (s.modGroup k f).wdgs = s.wdgs := rfl
@[simp] theorem State.modGroup_tbRc (k : Nat) (f : Group → Group) : (s.modGroup k f).tbRc = s.tbRc := rfl
@[simp] theorem State.modGroup_recd (k : Nat) (f : Group → Group) : (s.modGroup k f).recd = s.recd := rfl
@[simp] theorem State.modGroup_host (k : Nat) (f : Group → Group) : (s.modGroup k f).host = s.host := rfl
@[simp] theorem State.modGroup_otp (k : Nat) (f : Group → Group) : (s.modGroup k f).otp = s.otp := rfl
@[simp] theorem State.modGroup_upd (k : Nat) (f : Group → Group) : (s.modGroup k f).upd = s.upd := rfl
@[simp] theorem State.modGroup_mram (k : Nat) (f : Group → Group) : (s.modGroup k f).mram = s.mram := rfl
@[simp] theorem State.modGroup_setAt (k : Nat) (f : Group → Group) : (s.modGroup k f).setAt = s.setAt := rfl
@[simp] theorem State.modGroup_group (k : Nat) (f : Group → Group) : (s.modGroup k f).group k = f (s.group k) := by simp [State.modGroup, State.group]
theorem State.modGroup_group_at (k : Nat) (f : Group → Group) (j : Nat) : (s.modGroup k f).group j = if k = j then f (s.group k) else s.group j := by simp [State.modGroup, State.group, Tbl.get_set]
theorem State.modGroup_group_ne (k : Nat) (f : Group → Group) (j : Nat) (h : j ≠ k) : (s.modGroup k f).group j = s.group j := by simp [State.modGroup_group_at, Ne.symm h]
@[simp] theorem State.modSrc_pending (k : Nat) (f : Source → Source) : (s.modSrc k f).pending = s.pending := rfl
@[simp] theorem State.modSrc_freeCtr (k : Nat) (f : Source → Source) : (s.modSrc k f).freeCtr = s.freeCtr := rfl
@[simp] theorem State.modSrc_cyc (k : Nat) (f : Source → Source) : (s.modSrc k f).cyc = s.cyc := rfl
@[simp] theorem State.modSrc_tickAt (k : Nat) (f : Source → Source) : (s.modSrc k f).tickAt = s.tickAt := rfl
@[simp] theorem State.modSrc_img (k : Nat) (f : Source → Source) : (s.modSrc k f).img = s.img := rfl
@[simp] theorem State.modSrc_newImg (k : Nat) (f : Source → Source) : (s.modSrc k f).newImg = s.newImg := rfl
@[simp] theorem State.modSrc_rw (k : Nat) (f : Source → Source) : (s.modSrc k f).rw = s.rw := rfl
@[simp] theorem State.modSrc_glb (k : Nat) (f : Source → Source) : (s.modSrc k f).glb = s.glb := rfl
@[simp] theorem State.modSrc_led (k : Nat) (f : Source → Source) : (s.modSrc k f).led = s.led := rfl
@[simp] theorem State.modSrc_pipe (k : Nat) (f : Source → Source) : (s.modSrc k f).pipe = s.pipe := rfl
@[simp] theorem State.modSrc_pol (k : Nat) (f : Source → Source) : (s.modSrc k f).pol = s.pol := rfl
@[simp] theorem State.modSrc_loops (k : Nat) (f : Source → Source) : (s.modSrc k f).loops = s.loops := rfl
@[simp] theorem State.modSrc_rails (k : Nat) (f : Source → Source) : (s.modSrc k f).rails = s.rails := rfl
@[simp] theorem State.modSrc_lathe (k : Nat) (f : Source → Source) : (s.modSrc k f).lathe = s.lathe := rfl
@[simp] theorem State.modSrc_traces (k : Nat) (f : Source → Source) : (s.modSrc k f).traces = s.traces := rfl
@[simp] theorem State.modSrc_phases (k : Nat) (f : Source → Source) : (s.modSrc k f).phases = s.phases := rfl
@[simp] theorem State.modSrc_switches (k : Nat) (f : Source → Source) : (s.modSrc k f).switches = s.switches := rfl
@[simp] theorem State.modSrc_groups (k : Nat) (f : Source → Source) : (s.modSrc k f).groups = s.groups := rfl
@[simp] theorem State.modSrc_seq (k : Nat) (f : Source → Source) : (s.modSrc k f).seq = s.seq := rfl
@[simp] theorem State.modSrc_faultN (k : Nat) (f : Source → Source) : (s.modSrc k f).faultN = s.faultN := rfl
@[simp] theorem State.modSrc_evts (k : Nat) (f : Source → Source) : (s.modSrc k f).evts = s.evts := rfl
@[simp] theorem State.modSrc_lane (k : Nat) (f : Source → Source) : (s.modSrc k f).lane = s.lane := rfl
@[simp] theorem State.modSrc_lace (k : Nat) (f : Source → Source) : (s.modSrc k f).lace = s.lace := rfl
@[simp] theorem State.modSrc_foreign (k : Nat) (f : Source → Source) : (s.modSrc k f).foreign = s.foreign := rfl
@[simp] theorem State.modSrc_vmodes (k : Nat) (f : Source → Source) : (s.modSrc k f).vmodes = s.vmodes := rfl
@[simp] theorem State.modSrc_adc (k : Nat) (f : Source → Source) : (s.modSrc k f).adc = s.adc := rfl
@[simp] theorem State.modSrc_thm (k : Nat) (f : Source → Source) : (s.modSrc k f).thm = s.thm := rfl
@[simp] theorem State.modSrc_chg (k : Nat) (f : Source → Source) : (s.modSrc k f).chg = s.chg := rfl
@[simp] theorem State.modSrc_gau (k : Nat) (f : Source → Source) : (s.modSrc k f).gau = s.gau := rfl
@[simp] theorem State.modSrc_rtc (k : Nat) (f : Source → Source) : (s.modSrc k f).rtc = s.rtc := rfl
@[simp] theorem State.modSrc_wdgs (k : Nat) (f : Source → Source) : (s.modSrc k f).wdgs = s.wdgs := rfl
@[simp] theorem State.modSrc_tbRc (k : Nat) (f : Source → Source) : (s.modSrc k f).tbRc = s.tbRc := rfl
@[simp] theorem State.modSrc_recd (k : Nat) (f : Source → Source) : (s.modSrc k f).recd = s.recd := rfl
@[simp] theorem State.modSrc_host (k : Nat) (f : Source → Source) : (s.modSrc k f).host = s.host := rfl
@[simp] theorem State.modSrc_otp (k : Nat) (f : Source → Source) : (s.modSrc k f).otp = s.otp := rfl
@[simp] theorem State.modSrc_upd (k : Nat) (f : Source → Source) : (s.modSrc k f).upd = s.upd := rfl
@[simp] theorem State.modSrc_mram (k : Nat) (f : Source → Source) : (s.modSrc k f).mram = s.mram := rfl
@[simp] theorem State.modSrc_setAt (k : Nat) (f : Source → Source) : (s.modSrc k f).setAt = s.setAt := rfl
@[simp] theorem State.modSrc_src (k : Nat) (f : Source → Source) : (s.modSrc k f).src k = f (s.src k) := by simp [State.modSrc, State.src]
theorem State.modSrc_src_at (k : Nat) (f : Source → Source) (j : Nat) : (s.modSrc k f).src j = if k = j then f (s.src k) else s.src j := by simp [State.modSrc, State.src, Tbl.get_set]
theorem State.modSrc_src_ne (k : Nat) (f : Source → Source) (j : Nat) (h : j ≠ k) : (s.modSrc k f).src j = s.src j := by simp [State.modSrc_src_at, Ne.symm h]
@[simp] theorem State.modEvt_pending (k : Nat) (f : Event → Event) : (s.modEvt k f).pending = s.pending := rfl
@[simp] theorem State.modEvt_freeCtr (k : Nat) (f : Event → Event) : (s.modEvt k f).freeCtr = s.freeCtr := rfl
@[simp] theorem State.modEvt_cyc (k : Nat) (f : Event → Event) : (s.modEvt k f).cyc = s.cyc := rfl
@[simp] theorem State.modEvt_tickAt (k : Nat) (f : Event → Event) : (s.modEvt k f).tickAt = s.tickAt := rfl
@[simp] theorem State.modEvt_img (k : Nat) (f : Event → Event) : (s.modEvt k f).img = s.img := rfl
@[simp] theorem State.modEvt_newImg (k : Nat) (f : Event → Event) : (s.modEvt k f).newImg = s.newImg := rfl
@[simp] theorem State.modEvt_rw (k : Nat) (f : Event → Event) : (s.modEvt k f).rw = s.rw := rfl
@[simp] theorem State.modEvt_glb (k : Nat) (f : Event → Event) : (s.modEvt k f).glb = s.glb := rfl
@[simp] theorem State.modEvt_led (k : Nat) (f : Event → Event) : (s.modEvt k f).led = s.led := rfl
@[simp] theorem State.modEvt_pipe (k : Nat) (f : Event → Event) : (s.modEvt k f).pipe = s.pipe := rfl
@[simp] theorem State.modEvt_pol (k : Nat) (f : Event → Event) : (s.modEvt k f).pol = s.pol := rfl
@[simp] theorem State.modEvt_loops (k : Nat) (f : Event → Event) : (s.modEvt k f).loops = s.loops := rfl
@[simp] theorem State.modEvt_rails (k : Nat) (f : Event → Event) : (s.modEvt k f).rails = s.rails := rfl
@[simp] theorem State.modEvt_lathe (k : Nat) (f : Event → Event) : (s.modEvt k f).lathe = s.lathe := rfl
@[simp] theorem State.modEvt_traces (k : Nat) (f : Event → Event) : (s.modEvt k f).traces = s.traces := rfl
@[simp] theorem State.modEvt_phases (k : Nat) (f : Event → Event) : (s.modEvt k f).phases = s.phases := rfl
@[simp] theorem State.modEvt_switches (k : Nat) (f : Event → Event) : (s.modEvt k f).switches = s.switches := rfl
@[simp] theorem State.modEvt_groups (k : Nat) (f : Event → Event) : (s.modEvt k f).groups = s.groups := rfl
@[simp] theorem State.modEvt_seq (k : Nat) (f : Event → Event) : (s.modEvt k f).seq = s.seq := rfl
@[simp] theorem State.modEvt_srcs (k : Nat) (f : Event → Event) : (s.modEvt k f).srcs = s.srcs := rfl
@[simp] theorem State.modEvt_faultN (k : Nat) (f : Event → Event) : (s.modEvt k f).faultN = s.faultN := rfl
@[simp] theorem State.modEvt_lane (k : Nat) (f : Event → Event) : (s.modEvt k f).lane = s.lane := rfl
@[simp] theorem State.modEvt_lace (k : Nat) (f : Event → Event) : (s.modEvt k f).lace = s.lace := rfl
@[simp] theorem State.modEvt_foreign (k : Nat) (f : Event → Event) : (s.modEvt k f).foreign = s.foreign := rfl
@[simp] theorem State.modEvt_vmodes (k : Nat) (f : Event → Event) : (s.modEvt k f).vmodes = s.vmodes := rfl
@[simp] theorem State.modEvt_adc (k : Nat) (f : Event → Event) : (s.modEvt k f).adc = s.adc := rfl
@[simp] theorem State.modEvt_thm (k : Nat) (f : Event → Event) : (s.modEvt k f).thm = s.thm := rfl
@[simp] theorem State.modEvt_chg (k : Nat) (f : Event → Event) : (s.modEvt k f).chg = s.chg := rfl
@[simp] theorem State.modEvt_gau (k : Nat) (f : Event → Event) : (s.modEvt k f).gau = s.gau := rfl
@[simp] theorem State.modEvt_rtc (k : Nat) (f : Event → Event) : (s.modEvt k f).rtc = s.rtc := rfl
@[simp] theorem State.modEvt_wdgs (k : Nat) (f : Event → Event) : (s.modEvt k f).wdgs = s.wdgs := rfl
@[simp] theorem State.modEvt_tbRc (k : Nat) (f : Event → Event) : (s.modEvt k f).tbRc = s.tbRc := rfl
@[simp] theorem State.modEvt_recd (k : Nat) (f : Event → Event) : (s.modEvt k f).recd = s.recd := rfl
@[simp] theorem State.modEvt_host (k : Nat) (f : Event → Event) : (s.modEvt k f).host = s.host := rfl
@[simp] theorem State.modEvt_otp (k : Nat) (f : Event → Event) : (s.modEvt k f).otp = s.otp := rfl
@[simp] theorem State.modEvt_upd (k : Nat) (f : Event → Event) : (s.modEvt k f).upd = s.upd := rfl
@[simp] theorem State.modEvt_mram (k : Nat) (f : Event → Event) : (s.modEvt k f).mram = s.mram := rfl
@[simp] theorem State.modEvt_setAt (k : Nat) (f : Event → Event) : (s.modEvt k f).setAt = s.setAt := rfl
@[simp] theorem State.modEvt_evt (k : Nat) (f : Event → Event) : (s.modEvt k f).evt k = f (s.evt k) := by simp [State.modEvt, State.evt]
theorem State.modEvt_evt_at (k : Nat) (f : Event → Event) (j : Nat) : (s.modEvt k f).evt j = if k = j then f (s.evt k) else s.evt j := by simp [State.modEvt, State.evt, Tbl.get_set]
theorem State.modEvt_evt_ne (k : Nat) (f : Event → Event) (j : Nat) (h : j ≠ k) : (s.modEvt k f).evt j = s.evt j := by simp [State.modEvt_evt_at, Ne.symm h]
@[simp] theorem State.modPolicy_pending (k : Nat) (f : Policy → Policy) : (s.modPolicy k f).pending = s.pending := rfl
@[simp] theorem State.modPolicy_freeCtr (k : Nat) (f : Policy → Policy) : (s.modPolicy k f).freeCtr = s.freeCtr := rfl
@[simp] theorem State.modPolicy_cyc (k : Nat) (f : Policy → Policy) : (s.modPolicy k f).cyc = s.cyc := rfl
@[simp] theorem State.modPolicy_tickAt (k : Nat) (f : Policy → Policy) : (s.modPolicy k f).tickAt = s.tickAt := rfl
@[simp] theorem State.modPolicy_img (k : Nat) (f : Policy → Policy) : (s.modPolicy k f).img = s.img := rfl
@[simp] theorem State.modPolicy_newImg (k : Nat) (f : Policy → Policy) : (s.modPolicy k f).newImg = s.newImg := rfl
@[simp] theorem State.modPolicy_rw (k : Nat) (f : Policy → Policy) : (s.modPolicy k f).rw = s.rw := rfl
@[simp] theorem State.modPolicy_glb (k : Nat) (f : Policy → Policy) : (s.modPolicy k f).glb = s.glb := rfl
@[simp] theorem State.modPolicy_led (k : Nat) (f : Policy → Policy) : (s.modPolicy k f).led = s.led := rfl
@[simp] theorem State.modPolicy_pipe (k : Nat) (f : Policy → Policy) : (s.modPolicy k f).pipe = s.pipe := rfl
@[simp] theorem State.modPolicy_loops (k : Nat) (f : Policy → Policy) : (s.modPolicy k f).loops = s.loops := rfl
@[simp] theorem State.modPolicy_rails (k : Nat) (f : Policy → Policy) : (s.modPolicy k f).rails = s.rails := rfl
@[simp] theorem State.modPolicy_lathe (k : Nat) (f : Policy → Policy) : (s.modPolicy k f).lathe = s.lathe := rfl
@[simp] theorem State.modPolicy_traces (k : Nat) (f : Policy → Policy) : (s.modPolicy k f).traces = s.traces := rfl
@[simp] theorem State.modPolicy_phases (k : Nat) (f : Policy → Policy) : (s.modPolicy k f).phases = s.phases := rfl
@[simp] theorem State.modPolicy_switches (k : Nat) (f : Policy → Policy) : (s.modPolicy k f).switches = s.switches := rfl
@[simp] theorem State.modPolicy_groups (k : Nat) (f : Policy → Policy) : (s.modPolicy k f).groups = s.groups := rfl
@[simp] theorem State.modPolicy_seq (k : Nat) (f : Policy → Policy) : (s.modPolicy k f).seq = s.seq := rfl
@[simp] theorem State.modPolicy_srcs (k : Nat) (f : Policy → Policy) : (s.modPolicy k f).srcs = s.srcs := rfl
@[simp] theorem State.modPolicy_faultN (k : Nat) (f : Policy → Policy) : (s.modPolicy k f).faultN = s.faultN := rfl
@[simp] theorem State.modPolicy_evts (k : Nat) (f : Policy → Policy) : (s.modPolicy k f).evts = s.evts := rfl
@[simp] theorem State.modPolicy_lane (k : Nat) (f : Policy → Policy) : (s.modPolicy k f).lane = s.lane := rfl
@[simp] theorem State.modPolicy_lace (k : Nat) (f : Policy → Policy) : (s.modPolicy k f).lace = s.lace := rfl
@[simp] theorem State.modPolicy_foreign (k : Nat) (f : Policy → Policy) : (s.modPolicy k f).foreign = s.foreign := rfl
@[simp] theorem State.modPolicy_vmodes (k : Nat) (f : Policy → Policy) : (s.modPolicy k f).vmodes = s.vmodes := rfl
@[simp] theorem State.modPolicy_adc (k : Nat) (f : Policy → Policy) : (s.modPolicy k f).adc = s.adc := rfl
@[simp] theorem State.modPolicy_thm (k : Nat) (f : Policy → Policy) : (s.modPolicy k f).thm = s.thm := rfl
@[simp] theorem State.modPolicy_chg (k : Nat) (f : Policy → Policy) : (s.modPolicy k f).chg = s.chg := rfl
@[simp] theorem State.modPolicy_gau (k : Nat) (f : Policy → Policy) : (s.modPolicy k f).gau = s.gau := rfl
@[simp] theorem State.modPolicy_rtc (k : Nat) (f : Policy → Policy) : (s.modPolicy k f).rtc = s.rtc := rfl
@[simp] theorem State.modPolicy_wdgs (k : Nat) (f : Policy → Policy) : (s.modPolicy k f).wdgs = s.wdgs := rfl
@[simp] theorem State.modPolicy_tbRc (k : Nat) (f : Policy → Policy) : (s.modPolicy k f).tbRc = s.tbRc := rfl
@[simp] theorem State.modPolicy_recd (k : Nat) (f : Policy → Policy) : (s.modPolicy k f).recd = s.recd := rfl
@[simp] theorem State.modPolicy_host (k : Nat) (f : Policy → Policy) : (s.modPolicy k f).host = s.host := rfl
@[simp] theorem State.modPolicy_otp (k : Nat) (f : Policy → Policy) : (s.modPolicy k f).otp = s.otp := rfl
@[simp] theorem State.modPolicy_upd (k : Nat) (f : Policy → Policy) : (s.modPolicy k f).upd = s.upd := rfl
@[simp] theorem State.modPolicy_mram (k : Nat) (f : Policy → Policy) : (s.modPolicy k f).mram = s.mram := rfl
@[simp] theorem State.modPolicy_setAt (k : Nat) (f : Policy → Policy) : (s.modPolicy k f).setAt = s.setAt := rfl
@[simp] theorem State.modPolicy_policy (k : Nat) (f : Policy → Policy) : (s.modPolicy k f).policy k = f (s.policy k) := by simp [State.modPolicy, State.policy]
theorem State.modPolicy_policy_at (k : Nat) (f : Policy → Policy) (j : Nat) : (s.modPolicy k f).policy j = if k = j then f (s.policy k) else s.policy j := by simp [State.modPolicy, State.policy, Tbl.get_set]
theorem State.modPolicy_policy_ne (k : Nat) (f : Policy → Policy) (j : Nat) (h : j ≠ k) : (s.modPolicy k f).policy j = s.policy j := by simp [State.modPolicy_policy_at, Ne.symm h]
@[simp] theorem State.modLoop_pending (k : Nat) (f : Loop → Loop) : (s.modLoop k f).pending = s.pending := rfl
@[simp] theorem State.modLoop_freeCtr (k : Nat) (f : Loop → Loop) : (s.modLoop k f).freeCtr = s.freeCtr := rfl
@[simp] theorem State.modLoop_cyc (k : Nat) (f : Loop → Loop) : (s.modLoop k f).cyc = s.cyc := rfl
@[simp] theorem State.modLoop_tickAt (k : Nat) (f : Loop → Loop) : (s.modLoop k f).tickAt = s.tickAt := rfl
@[simp] theorem State.modLoop_img (k : Nat) (f : Loop → Loop) : (s.modLoop k f).img = s.img := rfl
@[simp] theorem State.modLoop_newImg (k : Nat) (f : Loop → Loop) : (s.modLoop k f).newImg = s.newImg := rfl
@[simp] theorem State.modLoop_rw (k : Nat) (f : Loop → Loop) : (s.modLoop k f).rw = s.rw := rfl
@[simp] theorem State.modLoop_glb (k : Nat) (f : Loop → Loop) : (s.modLoop k f).glb = s.glb := rfl
@[simp] theorem State.modLoop_led (k : Nat) (f : Loop → Loop) : (s.modLoop k f).led = s.led := rfl
@[simp] theorem State.modLoop_pipe (k : Nat) (f : Loop → Loop) : (s.modLoop k f).pipe = s.pipe := rfl
@[simp] theorem State.modLoop_pol (k : Nat) (f : Loop → Loop) : (s.modLoop k f).pol = s.pol := rfl
@[simp] theorem State.modLoop_rails (k : Nat) (f : Loop → Loop) : (s.modLoop k f).rails = s.rails := rfl
@[simp] theorem State.modLoop_lathe (k : Nat) (f : Loop → Loop) : (s.modLoop k f).lathe = s.lathe := rfl
@[simp] theorem State.modLoop_traces (k : Nat) (f : Loop → Loop) : (s.modLoop k f).traces = s.traces := rfl
@[simp] theorem State.modLoop_phases (k : Nat) (f : Loop → Loop) : (s.modLoop k f).phases = s.phases := rfl
@[simp] theorem State.modLoop_switches (k : Nat) (f : Loop → Loop) : (s.modLoop k f).switches = s.switches := rfl
@[simp] theorem State.modLoop_groups (k : Nat) (f : Loop → Loop) : (s.modLoop k f).groups = s.groups := rfl
@[simp] theorem State.modLoop_seq (k : Nat) (f : Loop → Loop) : (s.modLoop k f).seq = s.seq := rfl
@[simp] theorem State.modLoop_srcs (k : Nat) (f : Loop → Loop) : (s.modLoop k f).srcs = s.srcs := rfl
@[simp] theorem State.modLoop_faultN (k : Nat) (f : Loop → Loop) : (s.modLoop k f).faultN = s.faultN := rfl
@[simp] theorem State.modLoop_evts (k : Nat) (f : Loop → Loop) : (s.modLoop k f).evts = s.evts := rfl
@[simp] theorem State.modLoop_lane (k : Nat) (f : Loop → Loop) : (s.modLoop k f).lane = s.lane := rfl
@[simp] theorem State.modLoop_lace (k : Nat) (f : Loop → Loop) : (s.modLoop k f).lace = s.lace := rfl
@[simp] theorem State.modLoop_foreign (k : Nat) (f : Loop → Loop) : (s.modLoop k f).foreign = s.foreign := rfl
@[simp] theorem State.modLoop_vmodes (k : Nat) (f : Loop → Loop) : (s.modLoop k f).vmodes = s.vmodes := rfl
@[simp] theorem State.modLoop_adc (k : Nat) (f : Loop → Loop) : (s.modLoop k f).adc = s.adc := rfl
@[simp] theorem State.modLoop_thm (k : Nat) (f : Loop → Loop) : (s.modLoop k f).thm = s.thm := rfl
@[simp] theorem State.modLoop_chg (k : Nat) (f : Loop → Loop) : (s.modLoop k f).chg = s.chg := rfl
@[simp] theorem State.modLoop_gau (k : Nat) (f : Loop → Loop) : (s.modLoop k f).gau = s.gau := rfl
@[simp] theorem State.modLoop_rtc (k : Nat) (f : Loop → Loop) : (s.modLoop k f).rtc = s.rtc := rfl
@[simp] theorem State.modLoop_wdgs (k : Nat) (f : Loop → Loop) : (s.modLoop k f).wdgs = s.wdgs := rfl
@[simp] theorem State.modLoop_tbRc (k : Nat) (f : Loop → Loop) : (s.modLoop k f).tbRc = s.tbRc := rfl
@[simp] theorem State.modLoop_recd (k : Nat) (f : Loop → Loop) : (s.modLoop k f).recd = s.recd := rfl
@[simp] theorem State.modLoop_host (k : Nat) (f : Loop → Loop) : (s.modLoop k f).host = s.host := rfl
@[simp] theorem State.modLoop_otp (k : Nat) (f : Loop → Loop) : (s.modLoop k f).otp = s.otp := rfl
@[simp] theorem State.modLoop_upd (k : Nat) (f : Loop → Loop) : (s.modLoop k f).upd = s.upd := rfl
@[simp] theorem State.modLoop_mram (k : Nat) (f : Loop → Loop) : (s.modLoop k f).mram = s.mram := rfl
@[simp] theorem State.modLoop_setAt (k : Nat) (f : Loop → Loop) : (s.modLoop k f).setAt = s.setAt := rfl
@[simp] theorem State.modLoop_loop (k : Nat) (f : Loop → Loop) : (s.modLoop k f).loop k = f (s.loop k) := by simp [State.modLoop, State.loop]
theorem State.modLoop_loop_at (k : Nat) (f : Loop → Loop) (j : Nat) : (s.modLoop k f).loop j = if k = j then f (s.loop k) else s.loop j := by simp [State.modLoop, State.loop, Tbl.get_set]
theorem State.modLoop_loop_ne (k : Nat) (f : Loop → Loop) (j : Nat) (h : j ≠ k) : (s.modLoop k f).loop j = s.loop j := by simp [State.modLoop_loop_at, Ne.symm h]
@[simp] theorem State.modLoopSt_pending (k : Nat) (f : LoopSt → LoopSt) : (s.modLoopSt k f).pending = s.pending := rfl
@[simp] theorem State.modLoopSt_freeCtr (k : Nat) (f : LoopSt → LoopSt) : (s.modLoopSt k f).freeCtr = s.freeCtr := rfl
@[simp] theorem State.modLoopSt_cyc (k : Nat) (f : LoopSt → LoopSt) : (s.modLoopSt k f).cyc = s.cyc := rfl
@[simp] theorem State.modLoopSt_tickAt (k : Nat) (f : LoopSt → LoopSt) : (s.modLoopSt k f).tickAt = s.tickAt := rfl
@[simp] theorem State.modLoopSt_img (k : Nat) (f : LoopSt → LoopSt) : (s.modLoopSt k f).img = s.img := rfl
@[simp] theorem State.modLoopSt_newImg (k : Nat) (f : LoopSt → LoopSt) : (s.modLoopSt k f).newImg = s.newImg := rfl
@[simp] theorem State.modLoopSt_rw (k : Nat) (f : LoopSt → LoopSt) : (s.modLoopSt k f).rw = s.rw := rfl
@[simp] theorem State.modLoopSt_glb (k : Nat) (f : LoopSt → LoopSt) : (s.modLoopSt k f).glb = s.glb := rfl
@[simp] theorem State.modLoopSt_led (k : Nat) (f : LoopSt → LoopSt) : (s.modLoopSt k f).led = s.led := rfl
@[simp] theorem State.modLoopSt_pipe (k : Nat) (f : LoopSt → LoopSt) : (s.modLoopSt k f).pipe = s.pipe := rfl
@[simp] theorem State.modLoopSt_pol (k : Nat) (f : LoopSt → LoopSt) : (s.modLoopSt k f).pol = s.pol := rfl
@[simp] theorem State.modLoopSt_loops (k : Nat) (f : LoopSt → LoopSt) : (s.modLoopSt k f).loops = s.loops := rfl
@[simp] theorem State.modLoopSt_rails (k : Nat) (f : LoopSt → LoopSt) : (s.modLoopSt k f).rails = s.rails := rfl
@[simp] theorem State.modLoopSt_traces (k : Nat) (f : LoopSt → LoopSt) : (s.modLoopSt k f).traces = s.traces := rfl
@[simp] theorem State.modLoopSt_phases (k : Nat) (f : LoopSt → LoopSt) : (s.modLoopSt k f).phases = s.phases := rfl
@[simp] theorem State.modLoopSt_switches (k : Nat) (f : LoopSt → LoopSt) : (s.modLoopSt k f).switches = s.switches := rfl
@[simp] theorem State.modLoopSt_groups (k : Nat) (f : LoopSt → LoopSt) : (s.modLoopSt k f).groups = s.groups := rfl
@[simp] theorem State.modLoopSt_seq (k : Nat) (f : LoopSt → LoopSt) : (s.modLoopSt k f).seq = s.seq := rfl
@[simp] theorem State.modLoopSt_srcs (k : Nat) (f : LoopSt → LoopSt) : (s.modLoopSt k f).srcs = s.srcs := rfl
@[simp] theorem State.modLoopSt_faultN (k : Nat) (f : LoopSt → LoopSt) : (s.modLoopSt k f).faultN = s.faultN := rfl
@[simp] theorem State.modLoopSt_evts (k : Nat) (f : LoopSt → LoopSt) : (s.modLoopSt k f).evts = s.evts := rfl
@[simp] theorem State.modLoopSt_lane (k : Nat) (f : LoopSt → LoopSt) : (s.modLoopSt k f).lane = s.lane := rfl
@[simp] theorem State.modLoopSt_lace (k : Nat) (f : LoopSt → LoopSt) : (s.modLoopSt k f).lace = s.lace := rfl
@[simp] theorem State.modLoopSt_foreign (k : Nat) (f : LoopSt → LoopSt) : (s.modLoopSt k f).foreign = s.foreign := rfl
@[simp] theorem State.modLoopSt_vmodes (k : Nat) (f : LoopSt → LoopSt) : (s.modLoopSt k f).vmodes = s.vmodes := rfl
@[simp] theorem State.modLoopSt_adc (k : Nat) (f : LoopSt → LoopSt) : (s.modLoopSt k f).adc = s.adc := rfl
@[simp] theorem State.modLoopSt_thm (k : Nat) (f : LoopSt → LoopSt) : (s.modLoopSt k f).thm = s.thm := rfl
@[simp] theorem State.modLoopSt_chg (k : Nat) (f : LoopSt → LoopSt) : (s.modLoopSt k f).chg = s.chg := rfl
@[simp] theorem State.modLoopSt_gau (k : Nat) (f : LoopSt → LoopSt) : (s.modLoopSt k f).gau = s.gau := rfl
@[simp] theorem State.modLoopSt_rtc (k : Nat) (f : LoopSt → LoopSt) : (s.modLoopSt k f).rtc = s.rtc := rfl
@[simp] theorem State.modLoopSt_wdgs (k : Nat) (f : LoopSt → LoopSt) : (s.modLoopSt k f).wdgs = s.wdgs := rfl
@[simp] theorem State.modLoopSt_tbRc (k : Nat) (f : LoopSt → LoopSt) : (s.modLoopSt k f).tbRc = s.tbRc := rfl
@[simp] theorem State.modLoopSt_recd (k : Nat) (f : LoopSt → LoopSt) : (s.modLoopSt k f).recd = s.recd := rfl
@[simp] theorem State.modLoopSt_host (k : Nat) (f : LoopSt → LoopSt) : (s.modLoopSt k f).host = s.host := rfl
@[simp] theorem State.modLoopSt_otp (k : Nat) (f : LoopSt → LoopSt) : (s.modLoopSt k f).otp = s.otp := rfl
@[simp] theorem State.modLoopSt_upd (k : Nat) (f : LoopSt → LoopSt) : (s.modLoopSt k f).upd = s.upd := rfl
@[simp] theorem State.modLoopSt_mram (k : Nat) (f : LoopSt → LoopSt) : (s.modLoopSt k f).mram = s.mram := rfl
@[simp] theorem State.modLoopSt_setAt (k : Nat) (f : LoopSt → LoopSt) : (s.modLoopSt k f).setAt = s.setAt := rfl
@[simp] theorem State.modLoopSt_loopSt (k : Nat) (f : LoopSt → LoopSt) : (s.modLoopSt k f).loopSt k = f (s.loopSt k) := by simp [State.modLoopSt, State.loopSt]
theorem State.modLoopSt_loopSt_at (k : Nat) (f : LoopSt → LoopSt) (j : Nat) : (s.modLoopSt k f).loopSt j = if k = j then f (s.loopSt k) else s.loopSt j := by simp [State.modLoopSt, State.loopSt, Tbl.get_set]
theorem State.modLoopSt_loopSt_ne (k : Nat) (f : LoopSt → LoopSt) (j : Nat) (h : j ≠ k) : (s.modLoopSt k f).loopSt j = s.loopSt j := by simp [State.modLoopSt_loopSt_at, Ne.symm h]
@[simp] theorem State.modTrace_pending (k : Nat) (f : Trace → Trace) : (s.modTrace k f).pending = s.pending := rfl
@[simp] theorem State.modTrace_freeCtr (k : Nat) (f : Trace → Trace) : (s.modTrace k f).freeCtr = s.freeCtr := rfl
@[simp] theorem State.modTrace_cyc (k : Nat) (f : Trace → Trace) : (s.modTrace k f).cyc = s.cyc := rfl
@[simp] theorem State.modTrace_tickAt (k : Nat) (f : Trace → Trace) : (s.modTrace k f).tickAt = s.tickAt := rfl
@[simp] theorem State.modTrace_img (k : Nat) (f : Trace → Trace) : (s.modTrace k f).img = s.img := rfl
@[simp] theorem State.modTrace_newImg (k : Nat) (f : Trace → Trace) : (s.modTrace k f).newImg = s.newImg := rfl
@[simp] theorem State.modTrace_rw (k : Nat) (f : Trace → Trace) : (s.modTrace k f).rw = s.rw := rfl
@[simp] theorem State.modTrace_glb (k : Nat) (f : Trace → Trace) : (s.modTrace k f).glb = s.glb := rfl
@[simp] theorem State.modTrace_led (k : Nat) (f : Trace → Trace) : (s.modTrace k f).led = s.led := rfl
@[simp] theorem State.modTrace_pipe (k : Nat) (f : Trace → Trace) : (s.modTrace k f).pipe = s.pipe := rfl
@[simp] theorem State.modTrace_pol (k : Nat) (f : Trace → Trace) : (s.modTrace k f).pol = s.pol := rfl
@[simp] theorem State.modTrace_loops (k : Nat) (f : Trace → Trace) : (s.modTrace k f).loops = s.loops := rfl
@[simp] theorem State.modTrace_rails (k : Nat) (f : Trace → Trace) : (s.modTrace k f).rails = s.rails := rfl
@[simp] theorem State.modTrace_lathe (k : Nat) (f : Trace → Trace) : (s.modTrace k f).lathe = s.lathe := rfl
@[simp] theorem State.modTrace_phases (k : Nat) (f : Trace → Trace) : (s.modTrace k f).phases = s.phases := rfl
@[simp] theorem State.modTrace_switches (k : Nat) (f : Trace → Trace) : (s.modTrace k f).switches = s.switches := rfl
@[simp] theorem State.modTrace_groups (k : Nat) (f : Trace → Trace) : (s.modTrace k f).groups = s.groups := rfl
@[simp] theorem State.modTrace_seq (k : Nat) (f : Trace → Trace) : (s.modTrace k f).seq = s.seq := rfl
@[simp] theorem State.modTrace_srcs (k : Nat) (f : Trace → Trace) : (s.modTrace k f).srcs = s.srcs := rfl
@[simp] theorem State.modTrace_faultN (k : Nat) (f : Trace → Trace) : (s.modTrace k f).faultN = s.faultN := rfl
@[simp] theorem State.modTrace_evts (k : Nat) (f : Trace → Trace) : (s.modTrace k f).evts = s.evts := rfl
@[simp] theorem State.modTrace_lane (k : Nat) (f : Trace → Trace) : (s.modTrace k f).lane = s.lane := rfl
@[simp] theorem State.modTrace_lace (k : Nat) (f : Trace → Trace) : (s.modTrace k f).lace = s.lace := rfl
@[simp] theorem State.modTrace_foreign (k : Nat) (f : Trace → Trace) : (s.modTrace k f).foreign = s.foreign := rfl
@[simp] theorem State.modTrace_vmodes (k : Nat) (f : Trace → Trace) : (s.modTrace k f).vmodes = s.vmodes := rfl
@[simp] theorem State.modTrace_adc (k : Nat) (f : Trace → Trace) : (s.modTrace k f).adc = s.adc := rfl
@[simp] theorem State.modTrace_thm (k : Nat) (f : Trace → Trace) : (s.modTrace k f).thm = s.thm := rfl
@[simp] theorem State.modTrace_chg (k : Nat) (f : Trace → Trace) : (s.modTrace k f).chg = s.chg := rfl
@[simp] theorem State.modTrace_gau (k : Nat) (f : Trace → Trace) : (s.modTrace k f).gau = s.gau := rfl
@[simp] theorem State.modTrace_rtc (k : Nat) (f : Trace → Trace) : (s.modTrace k f).rtc = s.rtc := rfl
@[simp] theorem State.modTrace_wdgs (k : Nat) (f : Trace → Trace) : (s.modTrace k f).wdgs = s.wdgs := rfl
@[simp] theorem State.modTrace_tbRc (k : Nat) (f : Trace → Trace) : (s.modTrace k f).tbRc = s.tbRc := rfl
@[simp] theorem State.modTrace_recd (k : Nat) (f : Trace → Trace) : (s.modTrace k f).recd = s.recd := rfl
@[simp] theorem State.modTrace_host (k : Nat) (f : Trace → Trace) : (s.modTrace k f).host = s.host := rfl
@[simp] theorem State.modTrace_otp (k : Nat) (f : Trace → Trace) : (s.modTrace k f).otp = s.otp := rfl
@[simp] theorem State.modTrace_upd (k : Nat) (f : Trace → Trace) : (s.modTrace k f).upd = s.upd := rfl
@[simp] theorem State.modTrace_mram (k : Nat) (f : Trace → Trace) : (s.modTrace k f).mram = s.mram := rfl
@[simp] theorem State.modTrace_setAt (k : Nat) (f : Trace → Trace) : (s.modTrace k f).setAt = s.setAt := rfl
@[simp] theorem State.modTrace_trace (k : Nat) (f : Trace → Trace) : (s.modTrace k f).trace k = f (s.trace k) := by simp [State.modTrace, State.trace]
theorem State.modTrace_trace_at (k : Nat) (f : Trace → Trace) (j : Nat) : (s.modTrace k f).trace j = if k = j then f (s.trace k) else s.trace j := by simp [State.modTrace, State.trace, Tbl.get_set]
theorem State.modTrace_trace_ne (k : Nat) (f : Trace → Trace) (j : Nat) (h : j ≠ k) : (s.modTrace k f).trace j = s.trace j := by simp [State.modTrace_trace_at, Ne.symm h]
@[simp] theorem State.modWdg_pending (k : Nat) (f : Wdg → Wdg) : (s.modWdg k f).pending = s.pending := rfl
@[simp] theorem State.modWdg_freeCtr (k : Nat) (f : Wdg → Wdg) : (s.modWdg k f).freeCtr = s.freeCtr := rfl
@[simp] theorem State.modWdg_cyc (k : Nat) (f : Wdg → Wdg) : (s.modWdg k f).cyc = s.cyc := rfl
@[simp] theorem State.modWdg_tickAt (k : Nat) (f : Wdg → Wdg) : (s.modWdg k f).tickAt = s.tickAt := rfl
@[simp] theorem State.modWdg_img (k : Nat) (f : Wdg → Wdg) : (s.modWdg k f).img = s.img := rfl
@[simp] theorem State.modWdg_newImg (k : Nat) (f : Wdg → Wdg) : (s.modWdg k f).newImg = s.newImg := rfl
@[simp] theorem State.modWdg_rw (k : Nat) (f : Wdg → Wdg) : (s.modWdg k f).rw = s.rw := rfl
@[simp] theorem State.modWdg_glb (k : Nat) (f : Wdg → Wdg) : (s.modWdg k f).glb = s.glb := rfl
@[simp] theorem State.modWdg_led (k : Nat) (f : Wdg → Wdg) : (s.modWdg k f).led = s.led := rfl
@[simp] theorem State.modWdg_pipe (k : Nat) (f : Wdg → Wdg) : (s.modWdg k f).pipe = s.pipe := rfl
@[simp] theorem State.modWdg_pol (k : Nat) (f : Wdg → Wdg) : (s.modWdg k f).pol = s.pol := rfl
@[simp] theorem State.modWdg_loops (k : Nat) (f : Wdg → Wdg) : (s.modWdg k f).loops = s.loops := rfl
@[simp] theorem State.modWdg_rails (k : Nat) (f : Wdg → Wdg) : (s.modWdg k f).rails = s.rails := rfl
@[simp] theorem State.modWdg_lathe (k : Nat) (f : Wdg → Wdg) : (s.modWdg k f).lathe = s.lathe := rfl
@[simp] theorem State.modWdg_traces (k : Nat) (f : Wdg → Wdg) : (s.modWdg k f).traces = s.traces := rfl
@[simp] theorem State.modWdg_phases (k : Nat) (f : Wdg → Wdg) : (s.modWdg k f).phases = s.phases := rfl
@[simp] theorem State.modWdg_switches (k : Nat) (f : Wdg → Wdg) : (s.modWdg k f).switches = s.switches := rfl
@[simp] theorem State.modWdg_groups (k : Nat) (f : Wdg → Wdg) : (s.modWdg k f).groups = s.groups := rfl
@[simp] theorem State.modWdg_seq (k : Nat) (f : Wdg → Wdg) : (s.modWdg k f).seq = s.seq := rfl
@[simp] theorem State.modWdg_srcs (k : Nat) (f : Wdg → Wdg) : (s.modWdg k f).srcs = s.srcs := rfl
@[simp] theorem State.modWdg_faultN (k : Nat) (f : Wdg → Wdg) : (s.modWdg k f).faultN = s.faultN := rfl
@[simp] theorem State.modWdg_evts (k : Nat) (f : Wdg → Wdg) : (s.modWdg k f).evts = s.evts := rfl
@[simp] theorem State.modWdg_lane (k : Nat) (f : Wdg → Wdg) : (s.modWdg k f).lane = s.lane := rfl
@[simp] theorem State.modWdg_lace (k : Nat) (f : Wdg → Wdg) : (s.modWdg k f).lace = s.lace := rfl
@[simp] theorem State.modWdg_foreign (k : Nat) (f : Wdg → Wdg) : (s.modWdg k f).foreign = s.foreign := rfl
@[simp] theorem State.modWdg_vmodes (k : Nat) (f : Wdg → Wdg) : (s.modWdg k f).vmodes = s.vmodes := rfl
@[simp] theorem State.modWdg_adc (k : Nat) (f : Wdg → Wdg) : (s.modWdg k f).adc = s.adc := rfl
@[simp] theorem State.modWdg_thm (k : Nat) (f : Wdg → Wdg) : (s.modWdg k f).thm = s.thm := rfl
@[simp] theorem State.modWdg_chg (k : Nat) (f : Wdg → Wdg) : (s.modWdg k f).chg = s.chg := rfl
@[simp] theorem State.modWdg_gau (k : Nat) (f : Wdg → Wdg) : (s.modWdg k f).gau = s.gau := rfl
@[simp] theorem State.modWdg_rtc (k : Nat) (f : Wdg → Wdg) : (s.modWdg k f).rtc = s.rtc := rfl
@[simp] theorem State.modWdg_tbRc (k : Nat) (f : Wdg → Wdg) : (s.modWdg k f).tbRc = s.tbRc := rfl
@[simp] theorem State.modWdg_recd (k : Nat) (f : Wdg → Wdg) : (s.modWdg k f).recd = s.recd := rfl
@[simp] theorem State.modWdg_host (k : Nat) (f : Wdg → Wdg) : (s.modWdg k f).host = s.host := rfl
@[simp] theorem State.modWdg_otp (k : Nat) (f : Wdg → Wdg) : (s.modWdg k f).otp = s.otp := rfl
@[simp] theorem State.modWdg_upd (k : Nat) (f : Wdg → Wdg) : (s.modWdg k f).upd = s.upd := rfl
@[simp] theorem State.modWdg_mram (k : Nat) (f : Wdg → Wdg) : (s.modWdg k f).mram = s.mram := rfl
@[simp] theorem State.modWdg_setAt (k : Nat) (f : Wdg → Wdg) : (s.modWdg k f).setAt = s.setAt := rfl
@[simp] theorem State.modWdg_wdg (k : Nat) (f : Wdg → Wdg) : (s.modWdg k f).wdg k = f (s.wdg k) := by simp [State.modWdg, State.wdg]
theorem State.modWdg_wdg_at (k : Nat) (f : Wdg → Wdg) (j : Nat) : (s.modWdg k f).wdg j = if k = j then f (s.wdg k) else s.wdg j := by simp [State.modWdg, State.wdg, Tbl.get_set]
theorem State.modWdg_wdg_ne (k : Nat) (f : Wdg → Wdg) (j : Nat) (h : j ≠ k) : (s.modWdg k f).wdg j = s.wdg j := by simp [State.modWdg_wdg_at, Ne.symm h]
@[simp] theorem State.modFdev_pending (k : Nat) (f : Foreign → Foreign) : (s.modFdev k f).pending = s.pending := rfl
@[simp] theorem State.modFdev_freeCtr (k : Nat) (f : Foreign → Foreign) : (s.modFdev k f).freeCtr = s.freeCtr := rfl
@[simp] theorem State.modFdev_cyc (k : Nat) (f : Foreign → Foreign) : (s.modFdev k f).cyc = s.cyc := rfl
@[simp] theorem State.modFdev_tickAt (k : Nat) (f : Foreign → Foreign) : (s.modFdev k f).tickAt = s.tickAt := rfl
@[simp] theorem State.modFdev_img (k : Nat) (f : Foreign → Foreign) : (s.modFdev k f).img = s.img := rfl
@[simp] theorem State.modFdev_newImg (k : Nat) (f : Foreign → Foreign) : (s.modFdev k f).newImg = s.newImg := rfl
@[simp] theorem State.modFdev_rw (k : Nat) (f : Foreign → Foreign) : (s.modFdev k f).rw = s.rw := rfl
@[simp] theorem State.modFdev_glb (k : Nat) (f : Foreign → Foreign) : (s.modFdev k f).glb = s.glb := rfl
@[simp] theorem State.modFdev_led (k : Nat) (f : Foreign → Foreign) : (s.modFdev k f).led = s.led := rfl
@[simp] theorem State.modFdev_pipe (k : Nat) (f : Foreign → Foreign) : (s.modFdev k f).pipe = s.pipe := rfl
@[simp] theorem State.modFdev_pol (k : Nat) (f : Foreign → Foreign) : (s.modFdev k f).pol = s.pol := rfl
@[simp] theorem State.modFdev_loops (k : Nat) (f : Foreign → Foreign) : (s.modFdev k f).loops = s.loops := rfl
@[simp] theorem State.modFdev_rails (k : Nat) (f : Foreign → Foreign) : (s.modFdev k f).rails = s.rails := rfl
@[simp] theorem State.modFdev_lathe (k : Nat) (f : Foreign → Foreign) : (s.modFdev k f).lathe = s.lathe := rfl
@[simp] theorem State.modFdev_traces (k : Nat) (f : Foreign → Foreign) : (s.modFdev k f).traces = s.traces := rfl
@[simp] theorem State.modFdev_phases (k : Nat) (f : Foreign → Foreign) : (s.modFdev k f).phases = s.phases := rfl
@[simp] theorem State.modFdev_switches (k : Nat) (f : Foreign → Foreign) : (s.modFdev k f).switches = s.switches := rfl
@[simp] theorem State.modFdev_groups (k : Nat) (f : Foreign → Foreign) : (s.modFdev k f).groups = s.groups := rfl
@[simp] theorem State.modFdev_seq (k : Nat) (f : Foreign → Foreign) : (s.modFdev k f).seq = s.seq := rfl
@[simp] theorem State.modFdev_srcs (k : Nat) (f : Foreign → Foreign) : (s.modFdev k f).srcs = s.srcs := rfl
@[simp] theorem State.modFdev_faultN (k : Nat) (f : Foreign → Foreign) : (s.modFdev k f).faultN = s.faultN := rfl
@[simp] theorem State.modFdev_evts (k : Nat) (f : Foreign → Foreign) : (s.modFdev k f).evts = s.evts := rfl
@[simp] theorem State.modFdev_lane (k : Nat) (f : Foreign → Foreign) : (s.modFdev k f).lane = s.lane := rfl
@[simp] theorem State.modFdev_lace (k : Nat) (f : Foreign → Foreign) : (s.modFdev k f).lace = s.lace := rfl
@[simp] theorem State.modFdev_vmodes (k : Nat) (f : Foreign → Foreign) : (s.modFdev k f).vmodes = s.vmodes := rfl
@[simp] theorem State.modFdev_adc (k : Nat) (f : Foreign → Foreign) : (s.modFdev k f).adc = s.adc := rfl
@[simp] theorem State.modFdev_thm (k : Nat) (f : Foreign → Foreign) : (s.modFdev k f).thm = s.thm := rfl
@[simp] theorem State.modFdev_chg (k : Nat) (f : Foreign → Foreign) : (s.modFdev k f).chg = s.chg := rfl
@[simp] theorem State.modFdev_gau (k : Nat) (f : Foreign → Foreign) : (s.modFdev k f).gau = s.gau := rfl
@[simp] theorem State.modFdev_rtc (k : Nat) (f : Foreign → Foreign) : (s.modFdev k f).rtc = s.rtc := rfl
@[simp] theorem State.modFdev_wdgs (k : Nat) (f : Foreign → Foreign) : (s.modFdev k f).wdgs = s.wdgs := rfl
@[simp] theorem State.modFdev_tbRc (k : Nat) (f : Foreign → Foreign) : (s.modFdev k f).tbRc = s.tbRc := rfl
@[simp] theorem State.modFdev_recd (k : Nat) (f : Foreign → Foreign) : (s.modFdev k f).recd = s.recd := rfl
@[simp] theorem State.modFdev_host (k : Nat) (f : Foreign → Foreign) : (s.modFdev k f).host = s.host := rfl
@[simp] theorem State.modFdev_otp (k : Nat) (f : Foreign → Foreign) : (s.modFdev k f).otp = s.otp := rfl
@[simp] theorem State.modFdev_upd (k : Nat) (f : Foreign → Foreign) : (s.modFdev k f).upd = s.upd := rfl
@[simp] theorem State.modFdev_mram (k : Nat) (f : Foreign → Foreign) : (s.modFdev k f).mram = s.mram := rfl
@[simp] theorem State.modFdev_setAt (k : Nat) (f : Foreign → Foreign) : (s.modFdev k f).setAt = s.setAt := rfl
@[simp] theorem State.modFdev_fdev (k : Nat) (f : Foreign → Foreign) : (s.modFdev k f).fdev k = f (s.fdev k) := by simp [State.modFdev, State.fdev]
theorem State.modFdev_fdev_at (k : Nat) (f : Foreign → Foreign) (j : Nat) : (s.modFdev k f).fdev j = if k = j then f (s.fdev k) else s.fdev j := by simp [State.modFdev, State.fdev, Tbl.get_set]
theorem State.modFdev_fdev_ne (k : Nat) (f : Foreign → Foreign) (j : Nat) (h : j ≠ k) : (s.modFdev k f).fdev j = s.fdev j := by simp [State.modFdev_fdev_at, Ne.symm h]
@[simp] theorem State.modLed_pending (f : Ledger → Ledger) : (s.modLed f).pending = s.pending := rfl
@[simp] theorem State.modLed_freeCtr (f : Ledger → Ledger) : (s.modLed f).freeCtr = s.freeCtr := rfl
@[simp] theorem State.modLed_cyc (f : Ledger → Ledger) : (s.modLed f).cyc = s.cyc := rfl
@[simp] theorem State.modLed_tickAt (f : Ledger → Ledger) : (s.modLed f).tickAt = s.tickAt := rfl
@[simp] theorem State.modLed_img (f : Ledger → Ledger) : (s.modLed f).img = s.img := rfl
@[simp] theorem State.modLed_newImg (f : Ledger → Ledger) : (s.modLed f).newImg = s.newImg := rfl
@[simp] theorem State.modLed_rw (f : Ledger → Ledger) : (s.modLed f).rw = s.rw := rfl
@[simp] theorem State.modLed_glb (f : Ledger → Ledger) : (s.modLed f).glb = s.glb := rfl
@[simp] theorem State.modLed_led (f : Ledger → Ledger) : (s.modLed f).led = f s.led := rfl
@[simp] theorem State.modLed_pipe (f : Ledger → Ledger) : (s.modLed f).pipe = s.pipe := rfl
@[simp] theorem State.modLed_pol (f : Ledger → Ledger) : (s.modLed f).pol = s.pol := rfl
@[simp] theorem State.modLed_loops (f : Ledger → Ledger) : (s.modLed f).loops = s.loops := rfl
@[simp] theorem State.modLed_rails (f : Ledger → Ledger) : (s.modLed f).rails = s.rails := rfl
@[simp] theorem State.modLed_lathe (f : Ledger → Ledger) : (s.modLed f).lathe = s.lathe := rfl
@[simp] theorem State.modLed_traces (f : Ledger → Ledger) : (s.modLed f).traces = s.traces := rfl
@[simp] theorem State.modLed_phases (f : Ledger → Ledger) : (s.modLed f).phases = s.phases := rfl
@[simp] theorem State.modLed_switches (f : Ledger → Ledger) : (s.modLed f).switches = s.switches := rfl
@[simp] theorem State.modLed_groups (f : Ledger → Ledger) : (s.modLed f).groups = s.groups := rfl
@[simp] theorem State.modLed_seq (f : Ledger → Ledger) : (s.modLed f).seq = s.seq := rfl
@[simp] theorem State.modLed_srcs (f : Ledger → Ledger) : (s.modLed f).srcs = s.srcs := rfl
@[simp] theorem State.modLed_faultN (f : Ledger → Ledger) : (s.modLed f).faultN = s.faultN := rfl
@[simp] theorem State.modLed_evts (f : Ledger → Ledger) : (s.modLed f).evts = s.evts := rfl
@[simp] theorem State.modLed_lane (f : Ledger → Ledger) : (s.modLed f).lane = s.lane := rfl
@[simp] theorem State.modLed_lace (f : Ledger → Ledger) : (s.modLed f).lace = s.lace := rfl
@[simp] theorem State.modLed_foreign (f : Ledger → Ledger) : (s.modLed f).foreign = s.foreign := rfl
@[simp] theorem State.modLed_vmodes (f : Ledger → Ledger) : (s.modLed f).vmodes = s.vmodes := rfl
@[simp] theorem State.modLed_adc (f : Ledger → Ledger) : (s.modLed f).adc = s.adc := rfl
@[simp] theorem State.modLed_thm (f : Ledger → Ledger) : (s.modLed f).thm = s.thm := rfl
@[simp] theorem State.modLed_chg (f : Ledger → Ledger) : (s.modLed f).chg = s.chg := rfl
@[simp] theorem State.modLed_gau (f : Ledger → Ledger) : (s.modLed f).gau = s.gau := rfl
@[simp] theorem State.modLed_rtc (f : Ledger → Ledger) : (s.modLed f).rtc = s.rtc := rfl
@[simp] theorem State.modLed_wdgs (f : Ledger → Ledger) : (s.modLed f).wdgs = s.wdgs := rfl
@[simp] theorem State.modLed_tbRc (f : Ledger → Ledger) : (s.modLed f).tbRc = s.tbRc := rfl
@[simp] theorem State.modLed_recd (f : Ledger → Ledger) : (s.modLed f).recd = s.recd := rfl
@[simp] theorem State.modLed_host (f : Ledger → Ledger) : (s.modLed f).host = s.host := rfl
@[simp] theorem State.modLed_otp (f : Ledger → Ledger) : (s.modLed f).otp = s.otp := rfl
@[simp] theorem State.modLed_upd (f : Ledger → Ledger) : (s.modLed f).upd = s.upd := rfl
@[simp] theorem State.modLed_mram (f : Ledger → Ledger) : (s.modLed f).mram = s.mram := rfl
@[simp] theorem State.modLed_setAt (f : Ledger → Ledger) : (s.modLed f).setAt = s.setAt := rfl
@[simp] theorem State.setNow_pending (k : Sticky) : (s.setNow k).pending = s.pending := rfl
@[simp] theorem State.setNow_freeCtr (k : Sticky) : (s.setNow k).freeCtr = s.freeCtr := rfl
@[simp] theorem State.setNow_cyc (k : Sticky) : (s.setNow k).cyc = s.cyc := rfl
@[simp] theorem State.setNow_tickAt (k : Sticky) : (s.setNow k).tickAt = s.tickAt := rfl
@[simp] theorem State.setNow_img (k : Sticky) : (s.setNow k).img = s.img := rfl
@[simp] theorem State.setNow_newImg (k : Sticky) : (s.setNow k).newImg = s.newImg := rfl
@[simp] theorem State.setNow_rw (k : Sticky) : (s.setNow k).rw = s.rw := rfl
@[simp] theorem State.setNow_glb (k : Sticky) : (s.setNow k).glb = s.glb := rfl
@[simp] theorem State.setNow_pipe (k : Sticky) : (s.setNow k).pipe = s.pipe := rfl
@[simp] theorem State.setNow_pol (k : Sticky) : (s.setNow k).pol = s.pol := rfl
@[simp] theorem State.setNow_loops (k : Sticky) : (s.setNow k).loops = s.loops := rfl
@[simp] theorem State.setNow_rails (k : Sticky) : (s.setNow k).rails = s.rails := rfl
@[simp] theorem State.setNow_lathe (k : Sticky) : (s.setNow k).lathe = s.lathe := rfl
@[simp] theorem State.setNow_traces (k : Sticky) : (s.setNow k).traces = s.traces := rfl
@[simp] theorem State.setNow_phases (k : Sticky) : (s.setNow k).phases = s.phases := rfl
@[simp] theorem State.setNow_switches (k : Sticky) : (s.setNow k).switches = s.switches := rfl
@[simp] theorem State.setNow_groups (k : Sticky) : (s.setNow k).groups = s.groups := rfl
@[simp] theorem State.setNow_seq (k : Sticky) : (s.setNow k).seq = s.seq := rfl
@[simp] theorem State.setNow_srcs (k : Sticky) : (s.setNow k).srcs = s.srcs := rfl
@[simp] theorem State.setNow_faultN (k : Sticky) : (s.setNow k).faultN = s.faultN := rfl
@[simp] theorem State.setNow_evts (k : Sticky) : (s.setNow k).evts = s.evts := rfl
@[simp] theorem State.setNow_lane (k : Sticky) : (s.setNow k).lane = s.lane := rfl
@[simp] theorem State.setNow_lace (k : Sticky) : (s.setNow k).lace = s.lace := rfl
@[simp] theorem State.setNow_foreign (k : Sticky) : (s.setNow k).foreign = s.foreign := rfl
@[simp] theorem State.setNow_vmodes (k : Sticky) : (s.setNow k).vmodes = s.vmodes := rfl
@[simp] theorem State.setNow_adc (k : Sticky) : (s.setNow k).adc = s.adc := rfl
@[simp] theorem State.setNow_thm (k : Sticky) : (s.setNow k).thm = s.thm := rfl
@[simp] theorem State.setNow_chg (k : Sticky) : (s.setNow k).chg = s.chg := rfl
@[simp] theorem State.setNow_gau (k : Sticky) : (s.setNow k).gau = s.gau := rfl
@[simp] theorem State.setNow_rtc (k : Sticky) : (s.setNow k).rtc = s.rtc := rfl
@[simp] theorem State.setNow_wdgs (k : Sticky) : (s.setNow k).wdgs = s.wdgs := rfl
@[simp] theorem State.setNow_tbRc (k : Sticky) : (s.setNow k).tbRc = s.tbRc := rfl
@[simp] theorem State.setNow_recd (k : Sticky) : (s.setNow k).recd = s.recd := rfl
@[simp] theorem State.setNow_host (k : Sticky) : (s.setNow k).host = s.host := rfl
@[simp] theorem State.setNow_otp (k : Sticky) : (s.setNow k).otp = s.otp := rfl
@[simp] theorem State.setNow_upd (k : Sticky) : (s.setNow k).upd = s.upd := rfl
@[simp] theorem State.setNow_mram (k : Sticky) : (s.setNow k).mram = s.mram := rfl
@[simp] theorem State.setNow_led (k : Sticky) : (s.setNow k).led = s.led := rfl
@[simp] theorem State.setNow_setAt (k : Sticky) : (s.setNow k).setAt = s.setAt.set 0 k.num (s.cyc + 1) := rfl
@[simp] theorem State.modPipe_pending (f : Pipe → Pipe) : (s.modPipe f).pending = s.pending := rfl
@[simp] theorem State.modPipe_freeCtr (f : Pipe → Pipe) : (s.modPipe f).freeCtr = s.freeCtr := rfl
@[simp] theorem State.modPipe_cyc (f : Pipe → Pipe) : (s.modPipe f).cyc = s.cyc := rfl
@[simp] theorem State.modPipe_tickAt (f : Pipe → Pipe) : (s.modPipe f).tickAt = s.tickAt := rfl
@[simp] theorem State.modPipe_img (f : Pipe → Pipe) : (s.modPipe f).img = s.img := rfl
@[simp] theorem State.modPipe_newImg (f : Pipe → Pipe) : (s.modPipe f).newImg = s.newImg := rfl
@[simp] theorem State.modPipe_rw (f : Pipe → Pipe) : (s.modPipe f).rw = s.rw := rfl
@[simp] theorem State.modPipe_glb (f : Pipe → Pipe) : (s.modPipe f).glb = s.glb := rfl
@[simp] theorem State.modPipe_led (f : Pipe → Pipe) : (s.modPipe f).led = s.led := rfl
@[simp] theorem State.modPipe_pipe (f : Pipe → Pipe) : (s.modPipe f).pipe = f s.pipe := rfl
@[simp] theorem State.modPipe_pol (f : Pipe → Pipe) : (s.modPipe f).pol = s.pol := rfl
@[simp] theorem State.modPipe_loops (f : Pipe → Pipe) : (s.modPipe f).loops = s.loops := rfl
@[simp] theorem State.modPipe_rails (f : Pipe → Pipe) : (s.modPipe f).rails = s.rails := rfl
@[simp] theorem State.modPipe_lathe (f : Pipe → Pipe) : (s.modPipe f).lathe = s.lathe := rfl
@[simp] theorem State.modPipe_traces (f : Pipe → Pipe) : (s.modPipe f).traces = s.traces := rfl
@[simp] theorem State.modPipe_phases (f : Pipe → Pipe) : (s.modPipe f).phases = s.phases := rfl
@[simp] theorem State.modPipe_switches (f : Pipe → Pipe) : (s.modPipe f).switches = s.switches := rfl
@[simp] theorem State.modPipe_groups (f : Pipe → Pipe) : (s.modPipe f).groups = s.groups := rfl
@[simp] theorem State.modPipe_seq (f : Pipe → Pipe) : (s.modPipe f).seq = s.seq := rfl
@[simp] theorem State.modPipe_srcs (f : Pipe → Pipe) : (s.modPipe f).srcs = s.srcs := rfl
@[simp] theorem State.modPipe_faultN (f : Pipe → Pipe) : (s.modPipe f).faultN = s.faultN := rfl
@[simp] theorem State.modPipe_evts (f : Pipe → Pipe) : (s.modPipe f).evts = s.evts := rfl
@[simp] theorem State.modPipe_lane (f : Pipe → Pipe) : (s.modPipe f).lane = s.lane := rfl
@[simp] theorem State.modPipe_lace (f : Pipe → Pipe) : (s.modPipe f).lace = s.lace := rfl
@[simp] theorem State.modPipe_foreign (f : Pipe → Pipe) : (s.modPipe f).foreign = s.foreign := rfl
@[simp] theorem State.modPipe_vmodes (f : Pipe → Pipe) : (s.modPipe f).vmodes = s.vmodes := rfl
@[simp] theorem State.modPipe_adc (f : Pipe → Pipe) : (s.modPipe f).adc = s.adc := rfl
@[simp] theorem State.modPipe_thm (f : Pipe → Pipe) : (s.modPipe f).thm = s.thm := rfl
@[simp] theorem State.modPipe_chg (f : Pipe → Pipe) : (s.modPipe f).chg = s.chg := rfl
@[simp] theorem State.modPipe_gau (f : Pipe → Pipe) : (s.modPipe f).gau = s.gau := rfl
@[simp] theorem State.modPipe_rtc (f : Pipe → Pipe) : (s.modPipe f).rtc = s.rtc := rfl
@[simp] theorem State.modPipe_wdgs (f : Pipe → Pipe) : (s.modPipe f).wdgs = s.wdgs := rfl
@[simp] theorem State.modPipe_tbRc (f : Pipe → Pipe) : (s.modPipe f).tbRc = s.tbRc := rfl
@[simp] theorem State.modPipe_recd (f : Pipe → Pipe) : (s.modPipe f).recd = s.recd := rfl
@[simp] theorem State.modPipe_host (f : Pipe → Pipe) : (s.modPipe f).host = s.host := rfl
@[simp] theorem State.modPipe_otp (f : Pipe → Pipe) : (s.modPipe f).otp = s.otp := rfl
@[simp] theorem State.modPipe_upd (f : Pipe → Pipe) : (s.modPipe f).upd = s.upd := rfl
@[simp] theorem State.modPipe_mram (f : Pipe → Pipe) : (s.modPipe f).mram = s.mram := rfl
@[simp] theorem State.modPipe_setAt (f : Pipe → Pipe) : (s.modPipe f).setAt = s.setAt := rfl
@[simp] theorem State.modGlb_pending (f : Glb → Glb) : (s.modGlb f).pending = s.pending := rfl
@[simp] theorem State.modGlb_freeCtr (f : Glb → Glb) : (s.modGlb f).freeCtr = s.freeCtr := rfl
@[simp] theorem State.modGlb_cyc (f : Glb → Glb) : (s.modGlb f).cyc = s.cyc := rfl
@[simp] theorem State.modGlb_tickAt (f : Glb → Glb) : (s.modGlb f).tickAt = s.tickAt := rfl
@[simp] theorem State.modGlb_img (f : Glb → Glb) : (s.modGlb f).img = s.img := rfl
@[simp] theorem State.modGlb_newImg (f : Glb → Glb) : (s.modGlb f).newImg = s.newImg := rfl
@[simp] theorem State.modGlb_rw (f : Glb → Glb) : (s.modGlb f).rw = s.rw := rfl
@[simp] theorem State.modGlb_glb (f : Glb → Glb) : (s.modGlb f).glb = f s.glb := rfl
@[simp] theorem State.modGlb_led (f : Glb → Glb) : (s.modGlb f).led = s.led := rfl
@[simp] theorem State.modGlb_pipe (f : Glb → Glb) : (s.modGlb f).pipe = s.pipe := rfl
@[simp] theorem State.modGlb_pol (f : Glb → Glb) : (s.modGlb f).pol = s.pol := rfl
@[simp] theorem State.modGlb_loops (f : Glb → Glb) : (s.modGlb f).loops = s.loops := rfl
@[simp] theorem State.modGlb_rails (f : Glb → Glb) : (s.modGlb f).rails = s.rails := rfl
@[simp] theorem State.modGlb_lathe (f : Glb → Glb) : (s.modGlb f).lathe = s.lathe := rfl
@[simp] theorem State.modGlb_traces (f : Glb → Glb) : (s.modGlb f).traces = s.traces := rfl
@[simp] theorem State.modGlb_phases (f : Glb → Glb) : (s.modGlb f).phases = s.phases := rfl
@[simp] theorem State.modGlb_switches (f : Glb → Glb) : (s.modGlb f).switches = s.switches := rfl
@[simp] theorem State.modGlb_groups (f : Glb → Glb) : (s.modGlb f).groups = s.groups := rfl
@[simp] theorem State.modGlb_seq (f : Glb → Glb) : (s.modGlb f).seq = s.seq := rfl
@[simp] theorem State.modGlb_srcs (f : Glb → Glb) : (s.modGlb f).srcs = s.srcs := rfl
@[simp] theorem State.modGlb_faultN (f : Glb → Glb) : (s.modGlb f).faultN = s.faultN := rfl
@[simp] theorem State.modGlb_evts (f : Glb → Glb) : (s.modGlb f).evts = s.evts := rfl
@[simp] theorem State.modGlb_lane (f : Glb → Glb) : (s.modGlb f).lane = s.lane := rfl
@[simp] theorem State.modGlb_lace (f : Glb → Glb) : (s.modGlb f).lace = s.lace := rfl
@[simp] theorem State.modGlb_foreign (f : Glb → Glb) : (s.modGlb f).foreign = s.foreign := rfl
@[simp] theorem State.modGlb_vmodes (f : Glb → Glb) : (s.modGlb f).vmodes = s.vmodes := rfl
@[simp] theorem State.modGlb_adc (f : Glb → Glb) : (s.modGlb f).adc = s.adc := rfl
@[simp] theorem State.modGlb_thm (f : Glb → Glb) : (s.modGlb f).thm = s.thm := rfl
@[simp] theorem State.modGlb_chg (f : Glb → Glb) : (s.modGlb f).chg = s.chg := rfl
@[simp] theorem State.modGlb_gau (f : Glb → Glb) : (s.modGlb f).gau = s.gau := rfl
@[simp] theorem State.modGlb_rtc (f : Glb → Glb) : (s.modGlb f).rtc = s.rtc := rfl
@[simp] theorem State.modGlb_wdgs (f : Glb → Glb) : (s.modGlb f).wdgs = s.wdgs := rfl
@[simp] theorem State.modGlb_tbRc (f : Glb → Glb) : (s.modGlb f).tbRc = s.tbRc := rfl
@[simp] theorem State.modGlb_recd (f : Glb → Glb) : (s.modGlb f).recd = s.recd := rfl
@[simp] theorem State.modGlb_host (f : Glb → Glb) : (s.modGlb f).host = s.host := rfl
@[simp] theorem State.modGlb_otp (f : Glb → Glb) : (s.modGlb f).otp = s.otp := rfl
@[simp] theorem State.modGlb_upd (f : Glb → Glb) : (s.modGlb f).upd = s.upd := rfl
@[simp] theorem State.modGlb_mram (f : Glb → Glb) : (s.modGlb f).mram = s.mram := rfl
@[simp] theorem State.modGlb_setAt (f : Glb → Glb) : (s.modGlb f).setAt = s.setAt := rfl
@[simp] theorem State.modLane_pending (f : Lane → Lane) : (s.modLane f).pending = s.pending := rfl
@[simp] theorem State.modLane_freeCtr (f : Lane → Lane) : (s.modLane f).freeCtr = s.freeCtr := rfl
@[simp] theorem State.modLane_cyc (f : Lane → Lane) : (s.modLane f).cyc = s.cyc := rfl
@[simp] theorem State.modLane_tickAt (f : Lane → Lane) : (s.modLane f).tickAt = s.tickAt := rfl
@[simp] theorem State.modLane_img (f : Lane → Lane) : (s.modLane f).img = s.img := rfl
@[simp] theorem State.modLane_newImg (f : Lane → Lane) : (s.modLane f).newImg = s.newImg := rfl
@[simp] theorem State.modLane_rw (f : Lane → Lane) : (s.modLane f).rw = s.rw := rfl
@[simp] theorem State.modLane_glb (f : Lane → Lane) : (s.modLane f).glb = s.glb := rfl
@[simp] theorem State.modLane_led (f : Lane → Lane) : (s.modLane f).led = s.led := rfl
@[simp] theorem State.modLane_pipe (f : Lane → Lane) : (s.modLane f).pipe = s.pipe := rfl
@[simp] theorem State.modLane_pol (f : Lane → Lane) : (s.modLane f).pol = s.pol := rfl
@[simp] theorem State.modLane_loops (f : Lane → Lane) : (s.modLane f).loops = s.loops := rfl
@[simp] theorem State.modLane_rails (f : Lane → Lane) : (s.modLane f).rails = s.rails := rfl
@[simp] theorem State.modLane_lathe (f : Lane → Lane) : (s.modLane f).lathe = s.lathe := rfl
@[simp] theorem State.modLane_traces (f : Lane → Lane) : (s.modLane f).traces = s.traces := rfl
@[simp] theorem State.modLane_phases (f : Lane → Lane) : (s.modLane f).phases = s.phases := rfl
@[simp] theorem State.modLane_switches (f : Lane → Lane) : (s.modLane f).switches = s.switches := rfl
@[simp] theorem State.modLane_groups (f : Lane → Lane) : (s.modLane f).groups = s.groups := rfl
@[simp] theorem State.modLane_seq (f : Lane → Lane) : (s.modLane f).seq = s.seq := rfl
@[simp] theorem State.modLane_srcs (f : Lane → Lane) : (s.modLane f).srcs = s.srcs := rfl
@[simp] theorem State.modLane_faultN (f : Lane → Lane) : (s.modLane f).faultN = s.faultN := rfl
@[simp] theorem State.modLane_evts (f : Lane → Lane) : (s.modLane f).evts = s.evts := rfl
@[simp] theorem State.modLane_lane (f : Lane → Lane) : (s.modLane f).lane = f s.lane := rfl
@[simp] theorem State.modLane_lace (f : Lane → Lane) : (s.modLane f).lace = s.lace := rfl
@[simp] theorem State.modLane_foreign (f : Lane → Lane) : (s.modLane f).foreign = s.foreign := rfl
@[simp] theorem State.modLane_vmodes (f : Lane → Lane) : (s.modLane f).vmodes = s.vmodes := rfl
@[simp] theorem State.modLane_adc (f : Lane → Lane) : (s.modLane f).adc = s.adc := rfl
@[simp] theorem State.modLane_thm (f : Lane → Lane) : (s.modLane f).thm = s.thm := rfl
@[simp] theorem State.modLane_chg (f : Lane → Lane) : (s.modLane f).chg = s.chg := rfl
@[simp] theorem State.modLane_gau (f : Lane → Lane) : (s.modLane f).gau = s.gau := rfl
@[simp] theorem State.modLane_rtc (f : Lane → Lane) : (s.modLane f).rtc = s.rtc := rfl
@[simp] theorem State.modLane_wdgs (f : Lane → Lane) : (s.modLane f).wdgs = s.wdgs := rfl
@[simp] theorem State.modLane_tbRc (f : Lane → Lane) : (s.modLane f).tbRc = s.tbRc := rfl
@[simp] theorem State.modLane_recd (f : Lane → Lane) : (s.modLane f).recd = s.recd := rfl
@[simp] theorem State.modLane_host (f : Lane → Lane) : (s.modLane f).host = s.host := rfl
@[simp] theorem State.modLane_otp (f : Lane → Lane) : (s.modLane f).otp = s.otp := rfl
@[simp] theorem State.modLane_upd (f : Lane → Lane) : (s.modLane f).upd = s.upd := rfl
@[simp] theorem State.modLane_mram (f : Lane → Lane) : (s.modLane f).mram = s.mram := rfl
@[simp] theorem State.modLane_setAt (f : Lane → Lane) : (s.modLane f).setAt = s.setAt := rfl
@[simp] theorem State.modSeq_pending (f : SeqSt → SeqSt) : (s.modSeq f).pending = s.pending := rfl
@[simp] theorem State.modSeq_freeCtr (f : SeqSt → SeqSt) : (s.modSeq f).freeCtr = s.freeCtr := rfl
@[simp] theorem State.modSeq_cyc (f : SeqSt → SeqSt) : (s.modSeq f).cyc = s.cyc := rfl
@[simp] theorem State.modSeq_tickAt (f : SeqSt → SeqSt) : (s.modSeq f).tickAt = s.tickAt := rfl
@[simp] theorem State.modSeq_img (f : SeqSt → SeqSt) : (s.modSeq f).img = s.img := rfl
@[simp] theorem State.modSeq_newImg (f : SeqSt → SeqSt) : (s.modSeq f).newImg = s.newImg := rfl
@[simp] theorem State.modSeq_rw (f : SeqSt → SeqSt) : (s.modSeq f).rw = s.rw := rfl
@[simp] theorem State.modSeq_glb (f : SeqSt → SeqSt) : (s.modSeq f).glb = s.glb := rfl
@[simp] theorem State.modSeq_led (f : SeqSt → SeqSt) : (s.modSeq f).led = s.led := rfl
@[simp] theorem State.modSeq_pipe (f : SeqSt → SeqSt) : (s.modSeq f).pipe = s.pipe := rfl
@[simp] theorem State.modSeq_pol (f : SeqSt → SeqSt) : (s.modSeq f).pol = s.pol := rfl
@[simp] theorem State.modSeq_loops (f : SeqSt → SeqSt) : (s.modSeq f).loops = s.loops := rfl
@[simp] theorem State.modSeq_rails (f : SeqSt → SeqSt) : (s.modSeq f).rails = s.rails := rfl
@[simp] theorem State.modSeq_lathe (f : SeqSt → SeqSt) : (s.modSeq f).lathe = s.lathe := rfl
@[simp] theorem State.modSeq_traces (f : SeqSt → SeqSt) : (s.modSeq f).traces = s.traces := rfl
@[simp] theorem State.modSeq_phases (f : SeqSt → SeqSt) : (s.modSeq f).phases = s.phases := rfl
@[simp] theorem State.modSeq_switches (f : SeqSt → SeqSt) : (s.modSeq f).switches = s.switches := rfl
@[simp] theorem State.modSeq_groups (f : SeqSt → SeqSt) : (s.modSeq f).groups = s.groups := rfl
@[simp] theorem State.modSeq_seq (f : SeqSt → SeqSt) : (s.modSeq f).seq = f s.seq := rfl
@[simp] theorem State.modSeq_srcs (f : SeqSt → SeqSt) : (s.modSeq f).srcs = s.srcs := rfl
@[simp] theorem State.modSeq_faultN (f : SeqSt → SeqSt) : (s.modSeq f).faultN = s.faultN := rfl
@[simp] theorem State.modSeq_evts (f : SeqSt → SeqSt) : (s.modSeq f).evts = s.evts := rfl
@[simp] theorem State.modSeq_lane (f : SeqSt → SeqSt) : (s.modSeq f).lane = s.lane := rfl
@[simp] theorem State.modSeq_lace (f : SeqSt → SeqSt) : (s.modSeq f).lace = s.lace := rfl
@[simp] theorem State.modSeq_foreign (f : SeqSt → SeqSt) : (s.modSeq f).foreign = s.foreign := rfl
@[simp] theorem State.modSeq_vmodes (f : SeqSt → SeqSt) : (s.modSeq f).vmodes = s.vmodes := rfl
@[simp] theorem State.modSeq_adc (f : SeqSt → SeqSt) : (s.modSeq f).adc = s.adc := rfl
@[simp] theorem State.modSeq_thm (f : SeqSt → SeqSt) : (s.modSeq f).thm = s.thm := rfl
@[simp] theorem State.modSeq_chg (f : SeqSt → SeqSt) : (s.modSeq f).chg = s.chg := rfl
@[simp] theorem State.modSeq_gau (f : SeqSt → SeqSt) : (s.modSeq f).gau = s.gau := rfl
@[simp] theorem State.modSeq_rtc (f : SeqSt → SeqSt) : (s.modSeq f).rtc = s.rtc := rfl
@[simp] theorem State.modSeq_wdgs (f : SeqSt → SeqSt) : (s.modSeq f).wdgs = s.wdgs := rfl
@[simp] theorem State.modSeq_tbRc (f : SeqSt → SeqSt) : (s.modSeq f).tbRc = s.tbRc := rfl
@[simp] theorem State.modSeq_recd (f : SeqSt → SeqSt) : (s.modSeq f).recd = s.recd := rfl
@[simp] theorem State.modSeq_host (f : SeqSt → SeqSt) : (s.modSeq f).host = s.host := rfl
@[simp] theorem State.modSeq_otp (f : SeqSt → SeqSt) : (s.modSeq f).otp = s.otp := rfl
@[simp] theorem State.modSeq_upd (f : SeqSt → SeqSt) : (s.modSeq f).upd = s.upd := rfl
@[simp] theorem State.modSeq_mram (f : SeqSt → SeqSt) : (s.modSeq f).mram = s.mram := rfl
@[simp] theorem State.modSeq_setAt (f : SeqSt → SeqSt) : (s.modSeq f).setAt = s.setAt := rfl
@[simp] theorem State.modLace_pending (f : Lace → Lace) : (s.modLace f).pending = s.pending := rfl
@[simp] theorem State.modLace_freeCtr (f : Lace → Lace) : (s.modLace f).freeCtr = s.freeCtr := rfl
@[simp] theorem State.modLace_cyc (f : Lace → Lace) : (s.modLace f).cyc = s.cyc := rfl
@[simp] theorem State.modLace_tickAt (f : Lace → Lace) : (s.modLace f).tickAt = s.tickAt := rfl
@[simp] theorem State.modLace_img (f : Lace → Lace) : (s.modLace f).img = s.img := rfl
@[simp] theorem State.modLace_newImg (f : Lace → Lace) : (s.modLace f).newImg = s.newImg := rfl
@[simp] theorem State.modLace_rw (f : Lace → Lace) : (s.modLace f).rw = s.rw := rfl
@[simp] theorem State.modLace_glb (f : Lace → Lace) : (s.modLace f).glb = s.glb := rfl
@[simp] theorem State.modLace_led (f : Lace → Lace) : (s.modLace f).led = s.led := rfl
@[simp] theorem State.modLace_pipe (f : Lace → Lace) : (s.modLace f).pipe = s.pipe := rfl
@[simp] theorem State.modLace_pol (f : Lace → Lace) : (s.modLace f).pol = s.pol := rfl
@[simp] theorem State.modLace_loops (f : Lace → Lace) : (s.modLace f).loops = s.loops := rfl
@[simp] theorem State.modLace_rails (f : Lace → Lace) : (s.modLace f).rails = s.rails := rfl
@[simp] theorem State.modLace_lathe (f : Lace → Lace) : (s.modLace f).lathe = s.lathe := rfl
@[simp] theorem State.modLace_traces (f : Lace → Lace) : (s.modLace f).traces = s.traces := rfl
@[simp] theorem State.modLace_phases (f : Lace → Lace) : (s.modLace f).phases = s.phases := rfl
@[simp] theorem State.modLace_switches (f : Lace → Lace) : (s.modLace f).switches = s.switches := rfl
@[simp] theorem State.modLace_groups (f : Lace → Lace) : (s.modLace f).groups = s.groups := rfl
@[simp] theorem State.modLace_seq (f : Lace → Lace) : (s.modLace f).seq = s.seq := rfl
@[simp] theorem State.modLace_srcs (f : Lace → Lace) : (s.modLace f).srcs = s.srcs := rfl
@[simp] theorem State.modLace_faultN (f : Lace → Lace) : (s.modLace f).faultN = s.faultN := rfl
@[simp] theorem State.modLace_evts (f : Lace → Lace) : (s.modLace f).evts = s.evts := rfl
@[simp] theorem State.modLace_lane (f : Lace → Lace) : (s.modLace f).lane = s.lane := rfl
@[simp] theorem State.modLace_lace (f : Lace → Lace) : (s.modLace f).lace = f s.lace := rfl
@[simp] theorem State.modLace_foreign (f : Lace → Lace) : (s.modLace f).foreign = s.foreign := rfl
@[simp] theorem State.modLace_vmodes (f : Lace → Lace) : (s.modLace f).vmodes = s.vmodes := rfl
@[simp] theorem State.modLace_adc (f : Lace → Lace) : (s.modLace f).adc = s.adc := rfl
@[simp] theorem State.modLace_thm (f : Lace → Lace) : (s.modLace f).thm = s.thm := rfl
@[simp] theorem State.modLace_chg (f : Lace → Lace) : (s.modLace f).chg = s.chg := rfl
@[simp] theorem State.modLace_gau (f : Lace → Lace) : (s.modLace f).gau = s.gau := rfl
@[simp] theorem State.modLace_rtc (f : Lace → Lace) : (s.modLace f).rtc = s.rtc := rfl
@[simp] theorem State.modLace_wdgs (f : Lace → Lace) : (s.modLace f).wdgs = s.wdgs := rfl
@[simp] theorem State.modLace_tbRc (f : Lace → Lace) : (s.modLace f).tbRc = s.tbRc := rfl
@[simp] theorem State.modLace_recd (f : Lace → Lace) : (s.modLace f).recd = s.recd := rfl
@[simp] theorem State.modLace_host (f : Lace → Lace) : (s.modLace f).host = s.host := rfl
@[simp] theorem State.modLace_otp (f : Lace → Lace) : (s.modLace f).otp = s.otp := rfl
@[simp] theorem State.modLace_upd (f : Lace → Lace) : (s.modLace f).upd = s.upd := rfl
@[simp] theorem State.modLace_mram (f : Lace → Lace) : (s.modLace f).mram = s.mram := rfl
@[simp] theorem State.modLace_setAt (f : Lace → Lace) : (s.modLace f).setAt = s.setAt := rfl
@[simp] theorem State.modAdc_pending (f : Adc → Adc) : (s.modAdc f).pending = s.pending := rfl
@[simp] theorem State.modAdc_freeCtr (f : Adc → Adc) : (s.modAdc f).freeCtr = s.freeCtr := rfl
@[simp] theorem State.modAdc_cyc (f : Adc → Adc) : (s.modAdc f).cyc = s.cyc := rfl
@[simp] theorem State.modAdc_tickAt (f : Adc → Adc) : (s.modAdc f).tickAt = s.tickAt := rfl
@[simp] theorem State.modAdc_img (f : Adc → Adc) : (s.modAdc f).img = s.img := rfl
@[simp] theorem State.modAdc_newImg (f : Adc → Adc) : (s.modAdc f).newImg = s.newImg := rfl
@[simp] theorem State.modAdc_rw (f : Adc → Adc) : (s.modAdc f).rw = s.rw := rfl
@[simp] theorem State.modAdc_glb (f : Adc → Adc) : (s.modAdc f).glb = s.glb := rfl
@[simp] theorem State.modAdc_led (f : Adc → Adc) : (s.modAdc f).led = s.led := rfl
@[simp] theorem State.modAdc_pipe (f : Adc → Adc) : (s.modAdc f).pipe = s.pipe := rfl
@[simp] theorem State.modAdc_pol (f : Adc → Adc) : (s.modAdc f).pol = s.pol := rfl
@[simp] theorem State.modAdc_loops (f : Adc → Adc) : (s.modAdc f).loops = s.loops := rfl
@[simp] theorem State.modAdc_rails (f : Adc → Adc) : (s.modAdc f).rails = s.rails := rfl
@[simp] theorem State.modAdc_lathe (f : Adc → Adc) : (s.modAdc f).lathe = s.lathe := rfl
@[simp] theorem State.modAdc_traces (f : Adc → Adc) : (s.modAdc f).traces = s.traces := rfl
@[simp] theorem State.modAdc_phases (f : Adc → Adc) : (s.modAdc f).phases = s.phases := rfl
@[simp] theorem State.modAdc_switches (f : Adc → Adc) : (s.modAdc f).switches = s.switches := rfl
@[simp] theorem State.modAdc_groups (f : Adc → Adc) : (s.modAdc f).groups = s.groups := rfl
@[simp] theorem State.modAdc_seq (f : Adc → Adc) : (s.modAdc f).seq = s.seq := rfl
@[simp] theorem State.modAdc_srcs (f : Adc → Adc) : (s.modAdc f).srcs = s.srcs := rfl
@[simp] theorem State.modAdc_faultN (f : Adc → Adc) : (s.modAdc f).faultN = s.faultN := rfl
@[simp] theorem State.modAdc_evts (f : Adc → Adc) : (s.modAdc f).evts = s.evts := rfl
@[simp] theorem State.modAdc_lane (f : Adc → Adc) : (s.modAdc f).lane = s.lane := rfl
@[simp] theorem State.modAdc_lace (f : Adc → Adc) : (s.modAdc f).lace = s.lace := rfl
@[simp] theorem State.modAdc_foreign (f : Adc → Adc) : (s.modAdc f).foreign = s.foreign := rfl
@[simp] theorem State.modAdc_vmodes (f : Adc → Adc) : (s.modAdc f).vmodes = s.vmodes := rfl
@[simp] theorem State.modAdc_adc (f : Adc → Adc) : (s.modAdc f).adc = f s.adc := rfl
@[simp] theorem State.modAdc_thm (f : Adc → Adc) : (s.modAdc f).thm = s.thm := rfl
@[simp] theorem State.modAdc_chg (f : Adc → Adc) : (s.modAdc f).chg = s.chg := rfl
@[simp] theorem State.modAdc_gau (f : Adc → Adc) : (s.modAdc f).gau = s.gau := rfl
@[simp] theorem State.modAdc_rtc (f : Adc → Adc) : (s.modAdc f).rtc = s.rtc := rfl
@[simp] theorem State.modAdc_wdgs (f : Adc → Adc) : (s.modAdc f).wdgs = s.wdgs := rfl
@[simp] theorem State.modAdc_tbRc (f : Adc → Adc) : (s.modAdc f).tbRc = s.tbRc := rfl
@[simp] theorem State.modAdc_recd (f : Adc → Adc) : (s.modAdc f).recd = s.recd := rfl
@[simp] theorem State.modAdc_host (f : Adc → Adc) : (s.modAdc f).host = s.host := rfl
@[simp] theorem State.modAdc_otp (f : Adc → Adc) : (s.modAdc f).otp = s.otp := rfl
@[simp] theorem State.modAdc_upd (f : Adc → Adc) : (s.modAdc f).upd = s.upd := rfl
@[simp] theorem State.modAdc_mram (f : Adc → Adc) : (s.modAdc f).mram = s.mram := rfl
@[simp] theorem State.modAdc_setAt (f : Adc → Adc) : (s.modAdc f).setAt = s.setAt := rfl
@[simp] theorem State.modThm_pending (f : Thm → Thm) : (s.modThm f).pending = s.pending := rfl
@[simp] theorem State.modThm_freeCtr (f : Thm → Thm) : (s.modThm f).freeCtr = s.freeCtr := rfl
@[simp] theorem State.modThm_cyc (f : Thm → Thm) : (s.modThm f).cyc = s.cyc := rfl
@[simp] theorem State.modThm_tickAt (f : Thm → Thm) : (s.modThm f).tickAt = s.tickAt := rfl
@[simp] theorem State.modThm_img (f : Thm → Thm) : (s.modThm f).img = s.img := rfl
@[simp] theorem State.modThm_newImg (f : Thm → Thm) : (s.modThm f).newImg = s.newImg := rfl
@[simp] theorem State.modThm_rw (f : Thm → Thm) : (s.modThm f).rw = s.rw := rfl
@[simp] theorem State.modThm_glb (f : Thm → Thm) : (s.modThm f).glb = s.glb := rfl
@[simp] theorem State.modThm_led (f : Thm → Thm) : (s.modThm f).led = s.led := rfl
@[simp] theorem State.modThm_pipe (f : Thm → Thm) : (s.modThm f).pipe = s.pipe := rfl
@[simp] theorem State.modThm_pol (f : Thm → Thm) : (s.modThm f).pol = s.pol := rfl
@[simp] theorem State.modThm_loops (f : Thm → Thm) : (s.modThm f).loops = s.loops := rfl
@[simp] theorem State.modThm_rails (f : Thm → Thm) : (s.modThm f).rails = s.rails := rfl
@[simp] theorem State.modThm_lathe (f : Thm → Thm) : (s.modThm f).lathe = s.lathe := rfl
@[simp] theorem State.modThm_traces (f : Thm → Thm) : (s.modThm f).traces = s.traces := rfl
@[simp] theorem State.modThm_phases (f : Thm → Thm) : (s.modThm f).phases = s.phases := rfl
@[simp] theorem State.modThm_switches (f : Thm → Thm) : (s.modThm f).switches = s.switches := rfl
@[simp] theorem State.modThm_groups (f : Thm → Thm) : (s.modThm f).groups = s.groups := rfl
@[simp] theorem State.modThm_seq (f : Thm → Thm) : (s.modThm f).seq = s.seq := rfl
@[simp] theorem State.modThm_srcs (f : Thm → Thm) : (s.modThm f).srcs = s.srcs := rfl
@[simp] theorem State.modThm_faultN (f : Thm → Thm) : (s.modThm f).faultN = s.faultN := rfl
@[simp] theorem State.modThm_evts (f : Thm → Thm) : (s.modThm f).evts = s.evts := rfl
@[simp] theorem State.modThm_lane (f : Thm → Thm) : (s.modThm f).lane = s.lane := rfl
@[simp] theorem State.modThm_lace (f : Thm → Thm) : (s.modThm f).lace = s.lace := rfl
@[simp] theorem State.modThm_foreign (f : Thm → Thm) : (s.modThm f).foreign = s.foreign := rfl
@[simp] theorem State.modThm_vmodes (f : Thm → Thm) : (s.modThm f).vmodes = s.vmodes := rfl
@[simp] theorem State.modThm_adc (f : Thm → Thm) : (s.modThm f).adc = s.adc := rfl
@[simp] theorem State.modThm_thm (f : Thm → Thm) : (s.modThm f).thm = f s.thm := rfl
@[simp] theorem State.modThm_chg (f : Thm → Thm) : (s.modThm f).chg = s.chg := rfl
@[simp] theorem State.modThm_gau (f : Thm → Thm) : (s.modThm f).gau = s.gau := rfl
@[simp] theorem State.modThm_rtc (f : Thm → Thm) : (s.modThm f).rtc = s.rtc := rfl
@[simp] theorem State.modThm_wdgs (f : Thm → Thm) : (s.modThm f).wdgs = s.wdgs := rfl
@[simp] theorem State.modThm_tbRc (f : Thm → Thm) : (s.modThm f).tbRc = s.tbRc := rfl
@[simp] theorem State.modThm_recd (f : Thm → Thm) : (s.modThm f).recd = s.recd := rfl
@[simp] theorem State.modThm_host (f : Thm → Thm) : (s.modThm f).host = s.host := rfl
@[simp] theorem State.modThm_otp (f : Thm → Thm) : (s.modThm f).otp = s.otp := rfl
@[simp] theorem State.modThm_upd (f : Thm → Thm) : (s.modThm f).upd = s.upd := rfl
@[simp] theorem State.modThm_mram (f : Thm → Thm) : (s.modThm f).mram = s.mram := rfl
@[simp] theorem State.modThm_setAt (f : Thm → Thm) : (s.modThm f).setAt = s.setAt := rfl
@[simp] theorem State.modChg_pending (f : Chg → Chg) : (s.modChg f).pending = s.pending := rfl
@[simp] theorem State.modChg_freeCtr (f : Chg → Chg) : (s.modChg f).freeCtr = s.freeCtr := rfl
@[simp] theorem State.modChg_cyc (f : Chg → Chg) : (s.modChg f).cyc = s.cyc := rfl
@[simp] theorem State.modChg_tickAt (f : Chg → Chg) : (s.modChg f).tickAt = s.tickAt := rfl
@[simp] theorem State.modChg_img (f : Chg → Chg) : (s.modChg f).img = s.img := rfl
@[simp] theorem State.modChg_newImg (f : Chg → Chg) : (s.modChg f).newImg = s.newImg := rfl
@[simp] theorem State.modChg_rw (f : Chg → Chg) : (s.modChg f).rw = s.rw := rfl
@[simp] theorem State.modChg_glb (f : Chg → Chg) : (s.modChg f).glb = s.glb := rfl
@[simp] theorem State.modChg_led (f : Chg → Chg) : (s.modChg f).led = s.led := rfl
@[simp] theorem State.modChg_pipe (f : Chg → Chg) : (s.modChg f).pipe = s.pipe := rfl
@[simp] theorem State.modChg_pol (f : Chg → Chg) : (s.modChg f).pol = s.pol := rfl
@[simp] theorem State.modChg_loops (f : Chg → Chg) : (s.modChg f).loops = s.loops := rfl
@[simp] theorem State.modChg_rails (f : Chg → Chg) : (s.modChg f).rails = s.rails := rfl
@[simp] theorem State.modChg_lathe (f : Chg → Chg) : (s.modChg f).lathe = s.lathe := rfl
@[simp] theorem State.modChg_traces (f : Chg → Chg) : (s.modChg f).traces = s.traces := rfl
@[simp] theorem State.modChg_phases (f : Chg → Chg) : (s.modChg f).phases = s.phases := rfl
@[simp] theorem State.modChg_switches (f : Chg → Chg) : (s.modChg f).switches = s.switches := rfl
@[simp] theorem State.modChg_groups (f : Chg → Chg) : (s.modChg f).groups = s.groups := rfl
@[simp] theorem State.modChg_seq (f : Chg → Chg) : (s.modChg f).seq = s.seq := rfl
@[simp] theorem State.modChg_srcs (f : Chg → Chg) : (s.modChg f).srcs = s.srcs := rfl
@[simp] theorem State.modChg_faultN (f : Chg → Chg) : (s.modChg f).faultN = s.faultN := rfl
@[simp] theorem State.modChg_evts (f : Chg → Chg) : (s.modChg f).evts = s.evts := rfl
@[simp] theorem State.modChg_lane (f : Chg → Chg) : (s.modChg f).lane = s.lane := rfl
@[simp] theorem State.modChg_lace (f : Chg → Chg) : (s.modChg f).lace = s.lace := rfl
@[simp] theorem State.modChg_foreign (f : Chg → Chg) : (s.modChg f).foreign = s.foreign := rfl
@[simp] theorem State.modChg_vmodes (f : Chg → Chg) : (s.modChg f).vmodes = s.vmodes := rfl
@[simp] theorem State.modChg_adc (f : Chg → Chg) : (s.modChg f).adc = s.adc := rfl
@[simp] theorem State.modChg_thm (f : Chg → Chg) : (s.modChg f).thm = s.thm := rfl
@[simp] theorem State.modChg_chg (f : Chg → Chg) : (s.modChg f).chg = f s.chg := rfl
@[simp] theorem State.modChg_gau (f : Chg → Chg) : (s.modChg f).gau = s.gau := rfl
@[simp] theorem State.modChg_rtc (f : Chg → Chg) : (s.modChg f).rtc = s.rtc := rfl
@[simp] theorem State.modChg_wdgs (f : Chg → Chg) : (s.modChg f).wdgs = s.wdgs := rfl
@[simp] theorem State.modChg_tbRc (f : Chg → Chg) : (s.modChg f).tbRc = s.tbRc := rfl
@[simp] theorem State.modChg_recd (f : Chg → Chg) : (s.modChg f).recd = s.recd := rfl
@[simp] theorem State.modChg_host (f : Chg → Chg) : (s.modChg f).host = s.host := rfl
@[simp] theorem State.modChg_otp (f : Chg → Chg) : (s.modChg f).otp = s.otp := rfl
@[simp] theorem State.modChg_upd (f : Chg → Chg) : (s.modChg f).upd = s.upd := rfl
@[simp] theorem State.modChg_mram (f : Chg → Chg) : (s.modChg f).mram = s.mram := rfl
@[simp] theorem State.modChg_setAt (f : Chg → Chg) : (s.modChg f).setAt = s.setAt := rfl
@[simp] theorem State.modGau_pending (f : Gau → Gau) : (s.modGau f).pending = s.pending := rfl
@[simp] theorem State.modGau_freeCtr (f : Gau → Gau) : (s.modGau f).freeCtr = s.freeCtr := rfl
@[simp] theorem State.modGau_cyc (f : Gau → Gau) : (s.modGau f).cyc = s.cyc := rfl
@[simp] theorem State.modGau_tickAt (f : Gau → Gau) : (s.modGau f).tickAt = s.tickAt := rfl
@[simp] theorem State.modGau_img (f : Gau → Gau) : (s.modGau f).img = s.img := rfl
@[simp] theorem State.modGau_newImg (f : Gau → Gau) : (s.modGau f).newImg = s.newImg := rfl
@[simp] theorem State.modGau_rw (f : Gau → Gau) : (s.modGau f).rw = s.rw := rfl
@[simp] theorem State.modGau_glb (f : Gau → Gau) : (s.modGau f).glb = s.glb := rfl
@[simp] theorem State.modGau_led (f : Gau → Gau) : (s.modGau f).led = s.led := rfl
@[simp] theorem State.modGau_pipe (f : Gau → Gau) : (s.modGau f).pipe = s.pipe := rfl
@[simp] theorem State.modGau_pol (f : Gau → Gau) : (s.modGau f).pol = s.pol := rfl
@[simp] theorem State.modGau_loops (f : Gau → Gau) : (s.modGau f).loops = s.loops := rfl
@[simp] theorem State.modGau_rails (f : Gau → Gau) : (s.modGau f).rails = s.rails := rfl
@[simp] theorem State.modGau_lathe (f : Gau → Gau) : (s.modGau f).lathe = s.lathe := rfl
@[simp] theorem State.modGau_traces (f : Gau → Gau) : (s.modGau f).traces = s.traces := rfl
@[simp] theorem State.modGau_phases (f : Gau → Gau) : (s.modGau f).phases = s.phases := rfl
@[simp] theorem State.modGau_switches (f : Gau → Gau) : (s.modGau f).switches = s.switches := rfl
@[simp] theorem State.modGau_groups (f : Gau → Gau) : (s.modGau f).groups = s.groups := rfl
@[simp] theorem State.modGau_seq (f : Gau → Gau) : (s.modGau f).seq = s.seq := rfl
@[simp] theorem State.modGau_srcs (f : Gau → Gau) : (s.modGau f).srcs = s.srcs := rfl
@[simp] theorem State.modGau_faultN (f : Gau → Gau) : (s.modGau f).faultN = s.faultN := rfl
@[simp] theorem State.modGau_evts (f : Gau → Gau) : (s.modGau f).evts = s.evts := rfl
@[simp] theorem State.modGau_lane (f : Gau → Gau) : (s.modGau f).lane = s.lane := rfl
@[simp] theorem State.modGau_lace (f : Gau → Gau) : (s.modGau f).lace = s.lace := rfl
@[simp] theorem State.modGau_foreign (f : Gau → Gau) : (s.modGau f).foreign = s.foreign := rfl
@[simp] theorem State.modGau_vmodes (f : Gau → Gau) : (s.modGau f).vmodes = s.vmodes := rfl
@[simp] theorem State.modGau_adc (f : Gau → Gau) : (s.modGau f).adc = s.adc := rfl
@[simp] theorem State.modGau_thm (f : Gau → Gau) : (s.modGau f).thm = s.thm := rfl
@[simp] theorem State.modGau_chg (f : Gau → Gau) : (s.modGau f).chg = s.chg := rfl
@[simp] theorem State.modGau_gau (f : Gau → Gau) : (s.modGau f).gau = f s.gau := rfl
@[simp] theorem State.modGau_rtc (f : Gau → Gau) : (s.modGau f).rtc = s.rtc := rfl
@[simp] theorem State.modGau_wdgs (f : Gau → Gau) : (s.modGau f).wdgs = s.wdgs := rfl
@[simp] theorem State.modGau_tbRc (f : Gau → Gau) : (s.modGau f).tbRc = s.tbRc := rfl
@[simp] theorem State.modGau_recd (f : Gau → Gau) : (s.modGau f).recd = s.recd := rfl
@[simp] theorem State.modGau_host (f : Gau → Gau) : (s.modGau f).host = s.host := rfl
@[simp] theorem State.modGau_otp (f : Gau → Gau) : (s.modGau f).otp = s.otp := rfl
@[simp] theorem State.modGau_upd (f : Gau → Gau) : (s.modGau f).upd = s.upd := rfl
@[simp] theorem State.modGau_mram (f : Gau → Gau) : (s.modGau f).mram = s.mram := rfl
@[simp] theorem State.modGau_setAt (f : Gau → Gau) : (s.modGau f).setAt = s.setAt := rfl
@[simp] theorem State.modRtc_pending (f : Rtc → Rtc) : (s.modRtc f).pending = s.pending := rfl
@[simp] theorem State.modRtc_freeCtr (f : Rtc → Rtc) : (s.modRtc f).freeCtr = s.freeCtr := rfl
@[simp] theorem State.modRtc_cyc (f : Rtc → Rtc) : (s.modRtc f).cyc = s.cyc := rfl
@[simp] theorem State.modRtc_tickAt (f : Rtc → Rtc) : (s.modRtc f).tickAt = s.tickAt := rfl
@[simp] theorem State.modRtc_img (f : Rtc → Rtc) : (s.modRtc f).img = s.img := rfl
@[simp] theorem State.modRtc_newImg (f : Rtc → Rtc) : (s.modRtc f).newImg = s.newImg := rfl
@[simp] theorem State.modRtc_rw (f : Rtc → Rtc) : (s.modRtc f).rw = s.rw := rfl
@[simp] theorem State.modRtc_glb (f : Rtc → Rtc) : (s.modRtc f).glb = s.glb := rfl
@[simp] theorem State.modRtc_led (f : Rtc → Rtc) : (s.modRtc f).led = s.led := rfl
@[simp] theorem State.modRtc_pipe (f : Rtc → Rtc) : (s.modRtc f).pipe = s.pipe := rfl
@[simp] theorem State.modRtc_pol (f : Rtc → Rtc) : (s.modRtc f).pol = s.pol := rfl
@[simp] theorem State.modRtc_loops (f : Rtc → Rtc) : (s.modRtc f).loops = s.loops := rfl
@[simp] theorem State.modRtc_rails (f : Rtc → Rtc) : (s.modRtc f).rails = s.rails := rfl
@[simp] theorem State.modRtc_lathe (f : Rtc → Rtc) : (s.modRtc f).lathe = s.lathe := rfl
@[simp] theorem State.modRtc_traces (f : Rtc → Rtc) : (s.modRtc f).traces = s.traces := rfl
@[simp] theorem State.modRtc_phases (f : Rtc → Rtc) : (s.modRtc f).phases = s.phases := rfl
@[simp] theorem State.modRtc_switches (f : Rtc → Rtc) : (s.modRtc f).switches = s.switches := rfl
@[simp] theorem State.modRtc_groups (f : Rtc → Rtc) : (s.modRtc f).groups = s.groups := rfl
@[simp] theorem State.modRtc_seq (f : Rtc → Rtc) : (s.modRtc f).seq = s.seq := rfl
@[simp] theorem State.modRtc_srcs (f : Rtc → Rtc) : (s.modRtc f).srcs = s.srcs := rfl
@[simp] theorem State.modRtc_faultN (f : Rtc → Rtc) : (s.modRtc f).faultN = s.faultN := rfl
@[simp] theorem State.modRtc_evts (f : Rtc → Rtc) : (s.modRtc f).evts = s.evts := rfl
@[simp] theorem State.modRtc_lane (f : Rtc → Rtc) : (s.modRtc f).lane = s.lane := rfl
@[simp] theorem State.modRtc_lace (f : Rtc → Rtc) : (s.modRtc f).lace = s.lace := rfl
@[simp] theorem State.modRtc_foreign (f : Rtc → Rtc) : (s.modRtc f).foreign = s.foreign := rfl
@[simp] theorem State.modRtc_vmodes (f : Rtc → Rtc) : (s.modRtc f).vmodes = s.vmodes := rfl
@[simp] theorem State.modRtc_adc (f : Rtc → Rtc) : (s.modRtc f).adc = s.adc := rfl
@[simp] theorem State.modRtc_thm (f : Rtc → Rtc) : (s.modRtc f).thm = s.thm := rfl
@[simp] theorem State.modRtc_chg (f : Rtc → Rtc) : (s.modRtc f).chg = s.chg := rfl
@[simp] theorem State.modRtc_gau (f : Rtc → Rtc) : (s.modRtc f).gau = s.gau := rfl
@[simp] theorem State.modRtc_rtc (f : Rtc → Rtc) : (s.modRtc f).rtc = f s.rtc := rfl
@[simp] theorem State.modRtc_wdgs (f : Rtc → Rtc) : (s.modRtc f).wdgs = s.wdgs := rfl
@[simp] theorem State.modRtc_tbRc (f : Rtc → Rtc) : (s.modRtc f).tbRc = s.tbRc := rfl
@[simp] theorem State.modRtc_recd (f : Rtc → Rtc) : (s.modRtc f).recd = s.recd := rfl
@[simp] theorem State.modRtc_host (f : Rtc → Rtc) : (s.modRtc f).host = s.host := rfl
@[simp] theorem State.modRtc_otp (f : Rtc → Rtc) : (s.modRtc f).otp = s.otp := rfl
@[simp] theorem State.modRtc_upd (f : Rtc → Rtc) : (s.modRtc f).upd = s.upd := rfl
@[simp] theorem State.modRtc_mram (f : Rtc → Rtc) : (s.modRtc f).mram = s.mram := rfl
@[simp] theorem State.modRtc_setAt (f : Rtc → Rtc) : (s.modRtc f).setAt = s.setAt := rfl
@[simp] theorem State.modRec_pending (f : RecSt → RecSt) : (s.modRec f).pending = s.pending := rfl
@[simp] theorem State.modRec_freeCtr (f : RecSt → RecSt) : (s.modRec f).freeCtr = s.freeCtr := rfl
@[simp] theorem State.modRec_cyc (f : RecSt → RecSt) : (s.modRec f).cyc = s.cyc := rfl
@[simp] theorem State.modRec_tickAt (f : RecSt → RecSt) : (s.modRec f).tickAt = s.tickAt := rfl
@[simp] theorem State.modRec_img (f : RecSt → RecSt) : (s.modRec f).img = s.img := rfl
@[simp] theorem State.modRec_newImg (f : RecSt → RecSt) : (s.modRec f).newImg = s.newImg := rfl
@[simp] theorem State.modRec_rw (f : RecSt → RecSt) : (s.modRec f).rw = s.rw := rfl
@[simp] theorem State.modRec_glb (f : RecSt → RecSt) : (s.modRec f).glb = s.glb := rfl
@[simp] theorem State.modRec_led (f : RecSt → RecSt) : (s.modRec f).led = s.led := rfl
@[simp] theorem State.modRec_pipe (f : RecSt → RecSt) : (s.modRec f).pipe = s.pipe := rfl
@[simp] theorem State.modRec_pol (f : RecSt → RecSt) : (s.modRec f).pol = s.pol := rfl
@[simp] theorem State.modRec_loops (f : RecSt → RecSt) : (s.modRec f).loops = s.loops := rfl
@[simp] theorem State.modRec_rails (f : RecSt → RecSt) : (s.modRec f).rails = s.rails := rfl
@[simp] theorem State.modRec_lathe (f : RecSt → RecSt) : (s.modRec f).lathe = s.lathe := rfl
@[simp] theorem State.modRec_traces (f : RecSt → RecSt) : (s.modRec f).traces = s.traces := rfl
@[simp] theorem State.modRec_phases (f : RecSt → RecSt) : (s.modRec f).phases = s.phases := rfl
@[simp] theorem State.modRec_switches (f : RecSt → RecSt) : (s.modRec f).switches = s.switches := rfl
@[simp] theorem State.modRec_groups (f : RecSt → RecSt) : (s.modRec f).groups = s.groups := rfl
@[simp] theorem State.modRec_seq (f : RecSt → RecSt) : (s.modRec f).seq = s.seq := rfl
@[simp] theorem State.modRec_srcs (f : RecSt → RecSt) : (s.modRec f).srcs = s.srcs := rfl
@[simp] theorem State.modRec_faultN (f : RecSt → RecSt) : (s.modRec f).faultN = s.faultN := rfl
@[simp] theorem State.modRec_evts (f : RecSt → RecSt) : (s.modRec f).evts = s.evts := rfl
@[simp] theorem State.modRec_lane (f : RecSt → RecSt) : (s.modRec f).lane = s.lane := rfl
@[simp] theorem State.modRec_lace (f : RecSt → RecSt) : (s.modRec f).lace = s.lace := rfl
@[simp] theorem State.modRec_foreign (f : RecSt → RecSt) : (s.modRec f).foreign = s.foreign := rfl
@[simp] theorem State.modRec_vmodes (f : RecSt → RecSt) : (s.modRec f).vmodes = s.vmodes := rfl
@[simp] theorem State.modRec_adc (f : RecSt → RecSt) : (s.modRec f).adc = s.adc := rfl
@[simp] theorem State.modRec_thm (f : RecSt → RecSt) : (s.modRec f).thm = s.thm := rfl
@[simp] theorem State.modRec_chg (f : RecSt → RecSt) : (s.modRec f).chg = s.chg := rfl
@[simp] theorem State.modRec_gau (f : RecSt → RecSt) : (s.modRec f).gau = s.gau := rfl
@[simp] theorem State.modRec_rtc (f : RecSt → RecSt) : (s.modRec f).rtc = s.rtc := rfl
@[simp] theorem State.modRec_wdgs (f : RecSt → RecSt) : (s.modRec f).wdgs = s.wdgs := rfl
@[simp] theorem State.modRec_tbRc (f : RecSt → RecSt) : (s.modRec f).tbRc = s.tbRc := rfl
@[simp] theorem State.modRec_recd (f : RecSt → RecSt) : (s.modRec f).recd = f s.recd := rfl
@[simp] theorem State.modRec_host (f : RecSt → RecSt) : (s.modRec f).host = s.host := rfl
@[simp] theorem State.modRec_otp (f : RecSt → RecSt) : (s.modRec f).otp = s.otp := rfl
@[simp] theorem State.modRec_upd (f : RecSt → RecSt) : (s.modRec f).upd = s.upd := rfl
@[simp] theorem State.modRec_mram (f : RecSt → RecSt) : (s.modRec f).mram = s.mram := rfl
@[simp] theorem State.modRec_setAt (f : RecSt → RecSt) : (s.modRec f).setAt = s.setAt := rfl
@[simp] theorem State.modHost_pending (f : HostSt → HostSt) : (s.modHost f).pending = s.pending := rfl
@[simp] theorem State.modHost_freeCtr (f : HostSt → HostSt) : (s.modHost f).freeCtr = s.freeCtr := rfl
@[simp] theorem State.modHost_cyc (f : HostSt → HostSt) : (s.modHost f).cyc = s.cyc := rfl
@[simp] theorem State.modHost_tickAt (f : HostSt → HostSt) : (s.modHost f).tickAt = s.tickAt := rfl
@[simp] theorem State.modHost_img (f : HostSt → HostSt) : (s.modHost f).img = s.img := rfl
@[simp] theorem State.modHost_newImg (f : HostSt → HostSt) : (s.modHost f).newImg = s.newImg := rfl
@[simp] theorem State.modHost_rw (f : HostSt → HostSt) : (s.modHost f).rw = s.rw := rfl
@[simp] theorem State.modHost_glb (f : HostSt → HostSt) : (s.modHost f).glb = s.glb := rfl
@[simp] theorem State.modHost_led (f : HostSt → HostSt) : (s.modHost f).led = s.led := rfl
@[simp] theorem State.modHost_pipe (f : HostSt → HostSt) : (s.modHost f).pipe = s.pipe := rfl
@[simp] theorem State.modHost_pol (f : HostSt → HostSt) : (s.modHost f).pol = s.pol := rfl
@[simp] theorem State.modHost_loops (f : HostSt → HostSt) : (s.modHost f).loops = s.loops := rfl
@[simp] theorem State.modHost_rails (f : HostSt → HostSt) : (s.modHost f).rails = s.rails := rfl
@[simp] theorem State.modHost_lathe (f : HostSt → HostSt) : (s.modHost f).lathe = s.lathe := rfl
@[simp] theorem State.modHost_traces (f : HostSt → HostSt) : (s.modHost f).traces = s.traces := rfl
@[simp] theorem State.modHost_phases (f : HostSt → HostSt) : (s.modHost f).phases = s.phases := rfl
@[simp] theorem State.modHost_switches (f : HostSt → HostSt) : (s.modHost f).switches = s.switches := rfl
@[simp] theorem State.modHost_groups (f : HostSt → HostSt) : (s.modHost f).groups = s.groups := rfl
@[simp] theorem State.modHost_seq (f : HostSt → HostSt) : (s.modHost f).seq = s.seq := rfl
@[simp] theorem State.modHost_srcs (f : HostSt → HostSt) : (s.modHost f).srcs = s.srcs := rfl
@[simp] theorem State.modHost_faultN (f : HostSt → HostSt) : (s.modHost f).faultN = s.faultN := rfl
@[simp] theorem State.modHost_evts (f : HostSt → HostSt) : (s.modHost f).evts = s.evts := rfl
@[simp] theorem State.modHost_lane (f : HostSt → HostSt) : (s.modHost f).lane = s.lane := rfl
@[simp] theorem State.modHost_lace (f : HostSt → HostSt) : (s.modHost f).lace = s.lace := rfl
@[simp] theorem State.modHost_foreign (f : HostSt → HostSt) : (s.modHost f).foreign = s.foreign := rfl
@[simp] theorem State.modHost_vmodes (f : HostSt → HostSt) : (s.modHost f).vmodes = s.vmodes := rfl
@[simp] theorem State.modHost_adc (f : HostSt → HostSt) : (s.modHost f).adc = s.adc := rfl
@[simp] theorem State.modHost_thm (f : HostSt → HostSt) : (s.modHost f).thm = s.thm := rfl
@[simp] theorem State.modHost_chg (f : HostSt → HostSt) : (s.modHost f).chg = s.chg := rfl
@[simp] theorem State.modHost_gau (f : HostSt → HostSt) : (s.modHost f).gau = s.gau := rfl
@[simp] theorem State.modHost_rtc (f : HostSt → HostSt) : (s.modHost f).rtc = s.rtc := rfl
@[simp] theorem State.modHost_wdgs (f : HostSt → HostSt) : (s.modHost f).wdgs = s.wdgs := rfl
@[simp] theorem State.modHost_tbRc (f : HostSt → HostSt) : (s.modHost f).tbRc = s.tbRc := rfl
@[simp] theorem State.modHost_recd (f : HostSt → HostSt) : (s.modHost f).recd = s.recd := rfl
@[simp] theorem State.modHost_host (f : HostSt → HostSt) : (s.modHost f).host = f s.host := rfl
@[simp] theorem State.modHost_otp (f : HostSt → HostSt) : (s.modHost f).otp = s.otp := rfl
@[simp] theorem State.modHost_upd (f : HostSt → HostSt) : (s.modHost f).upd = s.upd := rfl
@[simp] theorem State.modHost_mram (f : HostSt → HostSt) : (s.modHost f).mram = s.mram := rfl
@[simp] theorem State.modHost_setAt (f : HostSt → HostSt) : (s.modHost f).setAt = s.setAt := rfl
@[simp] theorem State.modOtp_pending (f : Otp → Otp) : (s.modOtp f).pending = s.pending := rfl
@[simp] theorem State.modOtp_freeCtr (f : Otp → Otp) : (s.modOtp f).freeCtr = s.freeCtr := rfl
@[simp] theorem State.modOtp_cyc (f : Otp → Otp) : (s.modOtp f).cyc = s.cyc := rfl
@[simp] theorem State.modOtp_tickAt (f : Otp → Otp) : (s.modOtp f).tickAt = s.tickAt := rfl
@[simp] theorem State.modOtp_img (f : Otp → Otp) : (s.modOtp f).img = s.img := rfl
@[simp] theorem State.modOtp_newImg (f : Otp → Otp) : (s.modOtp f).newImg = s.newImg := rfl
@[simp] theorem State.modOtp_rw (f : Otp → Otp) : (s.modOtp f).rw = s.rw := rfl
@[simp] theorem State.modOtp_glb (f : Otp → Otp) : (s.modOtp f).glb = s.glb := rfl
@[simp] theorem State.modOtp_led (f : Otp → Otp) : (s.modOtp f).led = s.led := rfl
@[simp] theorem State.modOtp_pipe (f : Otp → Otp) : (s.modOtp f).pipe = s.pipe := rfl
@[simp] theorem State.modOtp_pol (f : Otp → Otp) : (s.modOtp f).pol = s.pol := rfl
@[simp] theorem State.modOtp_loops (f : Otp → Otp) : (s.modOtp f).loops = s.loops := rfl
@[simp] theorem State.modOtp_rails (f : Otp → Otp) : (s.modOtp f).rails = s.rails := rfl
@[simp] theorem State.modOtp_lathe (f : Otp → Otp) : (s.modOtp f).lathe = s.lathe := rfl
@[simp] theorem State.modOtp_traces (f : Otp → Otp) : (s.modOtp f).traces = s.traces := rfl
@[simp] theorem State.modOtp_phases (f : Otp → Otp) : (s.modOtp f).phases = s.phases := rfl
@[simp] theorem State.modOtp_switches (f : Otp → Otp) : (s.modOtp f).switches = s.switches := rfl
@[simp] theorem State.modOtp_groups (f : Otp → Otp) : (s.modOtp f).groups = s.groups := rfl
@[simp] theorem State.modOtp_seq (f : Otp → Otp) : (s.modOtp f).seq = s.seq := rfl
@[simp] theorem State.modOtp_srcs (f : Otp → Otp) : (s.modOtp f).srcs = s.srcs := rfl
@[simp] theorem State.modOtp_faultN (f : Otp → Otp) : (s.modOtp f).faultN = s.faultN := rfl
@[simp] theorem State.modOtp_evts (f : Otp → Otp) : (s.modOtp f).evts = s.evts := rfl
@[simp] theorem State.modOtp_lane (f : Otp → Otp) : (s.modOtp f).lane = s.lane := rfl
@[simp] theorem State.modOtp_lace (f : Otp → Otp) : (s.modOtp f).lace = s.lace := rfl
@[simp] theorem State.modOtp_foreign (f : Otp → Otp) : (s.modOtp f).foreign = s.foreign := rfl
@[simp] theorem State.modOtp_vmodes (f : Otp → Otp) : (s.modOtp f).vmodes = s.vmodes := rfl
@[simp] theorem State.modOtp_adc (f : Otp → Otp) : (s.modOtp f).adc = s.adc := rfl
@[simp] theorem State.modOtp_thm (f : Otp → Otp) : (s.modOtp f).thm = s.thm := rfl
@[simp] theorem State.modOtp_chg (f : Otp → Otp) : (s.modOtp f).chg = s.chg := rfl
@[simp] theorem State.modOtp_gau (f : Otp → Otp) : (s.modOtp f).gau = s.gau := rfl
@[simp] theorem State.modOtp_rtc (f : Otp → Otp) : (s.modOtp f).rtc = s.rtc := rfl
@[simp] theorem State.modOtp_wdgs (f : Otp → Otp) : (s.modOtp f).wdgs = s.wdgs := rfl
@[simp] theorem State.modOtp_tbRc (f : Otp → Otp) : (s.modOtp f).tbRc = s.tbRc := rfl
@[simp] theorem State.modOtp_recd (f : Otp → Otp) : (s.modOtp f).recd = s.recd := rfl
@[simp] theorem State.modOtp_host (f : Otp → Otp) : (s.modOtp f).host = s.host := rfl
@[simp] theorem State.modOtp_otp (f : Otp → Otp) : (s.modOtp f).otp = f s.otp := rfl
@[simp] theorem State.modOtp_upd (f : Otp → Otp) : (s.modOtp f).upd = s.upd := rfl
@[simp] theorem State.modOtp_mram (f : Otp → Otp) : (s.modOtp f).mram = s.mram := rfl
@[simp] theorem State.modOtp_setAt (f : Otp → Otp) : (s.modOtp f).setAt = s.setAt := rfl
@[simp] theorem State.modUpd_pending (f : Upd → Upd) : (s.modUpd f).pending = s.pending := rfl
@[simp] theorem State.modUpd_freeCtr (f : Upd → Upd) : (s.modUpd f).freeCtr = s.freeCtr := rfl
@[simp] theorem State.modUpd_cyc (f : Upd → Upd) : (s.modUpd f).cyc = s.cyc := rfl
@[simp] theorem State.modUpd_tickAt (f : Upd → Upd) : (s.modUpd f).tickAt = s.tickAt := rfl
@[simp] theorem State.modUpd_img (f : Upd → Upd) : (s.modUpd f).img = s.img := rfl
@[simp] theorem State.modUpd_newImg (f : Upd → Upd) : (s.modUpd f).newImg = s.newImg := rfl
@[simp] theorem State.modUpd_rw (f : Upd → Upd) : (s.modUpd f).rw = s.rw := rfl
@[simp] theorem State.modUpd_glb (f : Upd → Upd) : (s.modUpd f).glb = s.glb := rfl
@[simp] theorem State.modUpd_led (f : Upd → Upd) : (s.modUpd f).led = s.led := rfl
@[simp] theorem State.modUpd_pipe (f : Upd → Upd) : (s.modUpd f).pipe = s.pipe := rfl
@[simp] theorem State.modUpd_pol (f : Upd → Upd) : (s.modUpd f).pol = s.pol := rfl
@[simp] theorem State.modUpd_loops (f : Upd → Upd) : (s.modUpd f).loops = s.loops := rfl
@[simp] theorem State.modUpd_rails (f : Upd → Upd) : (s.modUpd f).rails = s.rails := rfl
@[simp] theorem State.modUpd_lathe (f : Upd → Upd) : (s.modUpd f).lathe = s.lathe := rfl
@[simp] theorem State.modUpd_traces (f : Upd → Upd) : (s.modUpd f).traces = s.traces := rfl
@[simp] theorem State.modUpd_phases (f : Upd → Upd) : (s.modUpd f).phases = s.phases := rfl
@[simp] theorem State.modUpd_switches (f : Upd → Upd) : (s.modUpd f).switches = s.switches := rfl
@[simp] theorem State.modUpd_groups (f : Upd → Upd) : (s.modUpd f).groups = s.groups := rfl
@[simp] theorem State.modUpd_seq (f : Upd → Upd) : (s.modUpd f).seq = s.seq := rfl
@[simp] theorem State.modUpd_srcs (f : Upd → Upd) : (s.modUpd f).srcs = s.srcs := rfl
@[simp] theorem State.modUpd_faultN (f : Upd → Upd) : (s.modUpd f).faultN = s.faultN := rfl
@[simp] theorem State.modUpd_evts (f : Upd → Upd) : (s.modUpd f).evts = s.evts := rfl
@[simp] theorem State.modUpd_lane (f : Upd → Upd) : (s.modUpd f).lane = s.lane := rfl
@[simp] theorem State.modUpd_lace (f : Upd → Upd) : (s.modUpd f).lace = s.lace := rfl
@[simp] theorem State.modUpd_foreign (f : Upd → Upd) : (s.modUpd f).foreign = s.foreign := rfl
@[simp] theorem State.modUpd_vmodes (f : Upd → Upd) : (s.modUpd f).vmodes = s.vmodes := rfl
@[simp] theorem State.modUpd_adc (f : Upd → Upd) : (s.modUpd f).adc = s.adc := rfl
@[simp] theorem State.modUpd_thm (f : Upd → Upd) : (s.modUpd f).thm = s.thm := rfl
@[simp] theorem State.modUpd_chg (f : Upd → Upd) : (s.modUpd f).chg = s.chg := rfl
@[simp] theorem State.modUpd_gau (f : Upd → Upd) : (s.modUpd f).gau = s.gau := rfl
@[simp] theorem State.modUpd_rtc (f : Upd → Upd) : (s.modUpd f).rtc = s.rtc := rfl
@[simp] theorem State.modUpd_wdgs (f : Upd → Upd) : (s.modUpd f).wdgs = s.wdgs := rfl
@[simp] theorem State.modUpd_tbRc (f : Upd → Upd) : (s.modUpd f).tbRc = s.tbRc := rfl
@[simp] theorem State.modUpd_recd (f : Upd → Upd) : (s.modUpd f).recd = s.recd := rfl
@[simp] theorem State.modUpd_host (f : Upd → Upd) : (s.modUpd f).host = s.host := rfl
@[simp] theorem State.modUpd_otp (f : Upd → Upd) : (s.modUpd f).otp = s.otp := rfl
@[simp] theorem State.modUpd_upd (f : Upd → Upd) : (s.modUpd f).upd = f s.upd := rfl
@[simp] theorem State.modUpd_mram (f : Upd → Upd) : (s.modUpd f).mram = s.mram := rfl
@[simp] theorem State.modUpd_setAt (f : Upd → Upd) : (s.modUpd f).setAt = s.setAt := rfl
@[simp] theorem State.modEye_pending (k : Nat) (f : Eyelet → Eyelet) : (s.modEye k f).pending = s.pending := rfl
@[simp] theorem State.modEye_freeCtr (k : Nat) (f : Eyelet → Eyelet) : (s.modEye k f).freeCtr = s.freeCtr := rfl
@[simp] theorem State.modEye_cyc (k : Nat) (f : Eyelet → Eyelet) : (s.modEye k f).cyc = s.cyc := rfl
@[simp] theorem State.modEye_tickAt (k : Nat) (f : Eyelet → Eyelet) : (s.modEye k f).tickAt = s.tickAt := rfl
@[simp] theorem State.modEye_img (k : Nat) (f : Eyelet → Eyelet) : (s.modEye k f).img = s.img := rfl
@[simp] theorem State.modEye_newImg (k : Nat) (f : Eyelet → Eyelet) : (s.modEye k f).newImg = s.newImg := rfl
@[simp] theorem State.modEye_rw (k : Nat) (f : Eyelet → Eyelet) : (s.modEye k f).rw = s.rw := rfl
@[simp] theorem State.modEye_glb (k : Nat) (f : Eyelet → Eyelet) : (s.modEye k f).glb = s.glb := rfl
@[simp] theorem State.modEye_led (k : Nat) (f : Eyelet → Eyelet) : (s.modEye k f).led = s.led := rfl
@[simp] theorem State.modEye_pipe (k : Nat) (f : Eyelet → Eyelet) : (s.modEye k f).pipe = s.pipe := rfl
@[simp] theorem State.modEye_pol (k : Nat) (f : Eyelet → Eyelet) : (s.modEye k f).pol = s.pol := rfl
@[simp] theorem State.modEye_loops (k : Nat) (f : Eyelet → Eyelet) : (s.modEye k f).loops = s.loops := rfl
@[simp] theorem State.modEye_rails (k : Nat) (f : Eyelet → Eyelet) : (s.modEye k f).rails = s.rails := rfl
@[simp] theorem State.modEye_lathe (k : Nat) (f : Eyelet → Eyelet) : (s.modEye k f).lathe = s.lathe := rfl
@[simp] theorem State.modEye_traces (k : Nat) (f : Eyelet → Eyelet) : (s.modEye k f).traces = s.traces := rfl
@[simp] theorem State.modEye_phases (k : Nat) (f : Eyelet → Eyelet) : (s.modEye k f).phases = s.phases := rfl
@[simp] theorem State.modEye_switches (k : Nat) (f : Eyelet → Eyelet) : (s.modEye k f).switches = s.switches := rfl
@[simp] theorem State.modEye_groups (k : Nat) (f : Eyelet → Eyelet) : (s.modEye k f).groups = s.groups := rfl
@[simp] theorem State.modEye_seq (k : Nat) (f : Eyelet → Eyelet) : (s.modEye k f).seq = s.seq := rfl
@[simp] theorem State.modEye_srcs (k : Nat) (f : Eyelet → Eyelet) : (s.modEye k f).srcs = s.srcs := rfl
@[simp] theorem State.modEye_faultN (k : Nat) (f : Eyelet → Eyelet) : (s.modEye k f).faultN = s.faultN := rfl
@[simp] theorem State.modEye_evts (k : Nat) (f : Eyelet → Eyelet) : (s.modEye k f).evts = s.evts := rfl
@[simp] theorem State.modEye_lane (k : Nat) (f : Eyelet → Eyelet) : (s.modEye k f).lane = s.lane := rfl
@[simp] theorem State.modEye_foreign (k : Nat) (f : Eyelet → Eyelet) : (s.modEye k f).foreign = s.foreign := rfl
@[simp] theorem State.modEye_vmodes (k : Nat) (f : Eyelet → Eyelet) : (s.modEye k f).vmodes = s.vmodes := rfl
@[simp] theorem State.modEye_adc (k : Nat) (f : Eyelet → Eyelet) : (s.modEye k f).adc = s.adc := rfl
@[simp] theorem State.modEye_thm (k : Nat) (f : Eyelet → Eyelet) : (s.modEye k f).thm = s.thm := rfl
@[simp] theorem State.modEye_chg (k : Nat) (f : Eyelet → Eyelet) : (s.modEye k f).chg = s.chg := rfl
@[simp] theorem State.modEye_gau (k : Nat) (f : Eyelet → Eyelet) : (s.modEye k f).gau = s.gau := rfl
@[simp] theorem State.modEye_rtc (k : Nat) (f : Eyelet → Eyelet) : (s.modEye k f).rtc = s.rtc := rfl
@[simp] theorem State.modEye_wdgs (k : Nat) (f : Eyelet → Eyelet) : (s.modEye k f).wdgs = s.wdgs := rfl
@[simp] theorem State.modEye_tbRc (k : Nat) (f : Eyelet → Eyelet) : (s.modEye k f).tbRc = s.tbRc := rfl
@[simp] theorem State.modEye_recd (k : Nat) (f : Eyelet → Eyelet) : (s.modEye k f).recd = s.recd := rfl
@[simp] theorem State.modEye_host (k : Nat) (f : Eyelet → Eyelet) : (s.modEye k f).host = s.host := rfl
@[simp] theorem State.modEye_otp (k : Nat) (f : Eyelet → Eyelet) : (s.modEye k f).otp = s.otp := rfl
@[simp] theorem State.modEye_upd (k : Nat) (f : Eyelet → Eyelet) : (s.modEye k f).upd = s.upd := rfl
@[simp] theorem State.modEye_mram (k : Nat) (f : Eyelet → Eyelet) : (s.modEye k f).mram = s.mram := rfl
@[simp] theorem State.modEye_setAt (k : Nat) (f : Eyelet → Eyelet) : (s.modEye k f).setAt = s.setAt := rfl
@[simp] theorem State.modEye_eye (k : Nat) (f : Eyelet → Eyelet) : (s.modEye k f).eye k = f (s.eye k) := by simp [State.modEye, State.eye]
theorem State.modEye_eye_at (k : Nat) (f : Eyelet → Eyelet) (j : Nat) : (s.modEye k f).eye j = if k = j then f (s.eye k) else s.eye j := by simp [State.modEye, State.eye, Tbl.get_set]
@[simp] theorem State.modSlot_pending (k : Nat) (f : SlotRec → SlotRec) : (s.modSlot k f).pending = s.pending := rfl
@[simp] theorem State.modSlot_freeCtr (k : Nat) (f : SlotRec → SlotRec) : (s.modSlot k f).freeCtr = s.freeCtr := rfl
@[simp] theorem State.modSlot_cyc (k : Nat) (f : SlotRec → SlotRec) : (s.modSlot k f).cyc = s.cyc := rfl
@[simp] theorem State.modSlot_tickAt (k : Nat) (f : SlotRec → SlotRec) : (s.modSlot k f).tickAt = s.tickAt := rfl
@[simp] theorem State.modSlot_img (k : Nat) (f : SlotRec → SlotRec) : (s.modSlot k f).img = s.img := rfl
@[simp] theorem State.modSlot_newImg (k : Nat) (f : SlotRec → SlotRec) : (s.modSlot k f).newImg = s.newImg := rfl
@[simp] theorem State.modSlot_rw (k : Nat) (f : SlotRec → SlotRec) : (s.modSlot k f).rw = s.rw := rfl
@[simp] theorem State.modSlot_glb (k : Nat) (f : SlotRec → SlotRec) : (s.modSlot k f).glb = s.glb := rfl
@[simp] theorem State.modSlot_led (k : Nat) (f : SlotRec → SlotRec) : (s.modSlot k f).led = s.led := rfl
@[simp] theorem State.modSlot_pipe (k : Nat) (f : SlotRec → SlotRec) : (s.modSlot k f).pipe = s.pipe := rfl
@[simp] theorem State.modSlot_pol (k : Nat) (f : SlotRec → SlotRec) : (s.modSlot k f).pol = s.pol := rfl
@[simp] theorem State.modSlot_loops (k : Nat) (f : SlotRec → SlotRec) : (s.modSlot k f).loops = s.loops := rfl
@[simp] theorem State.modSlot_rails (k : Nat) (f : SlotRec → SlotRec) : (s.modSlot k f).rails = s.rails := rfl
@[simp] theorem State.modSlot_lathe (k : Nat) (f : SlotRec → SlotRec) : (s.modSlot k f).lathe = s.lathe := rfl
@[simp] theorem State.modSlot_traces (k : Nat) (f : SlotRec → SlotRec) : (s.modSlot k f).traces = s.traces := rfl
@[simp] theorem State.modSlot_phases (k : Nat) (f : SlotRec → SlotRec) : (s.modSlot k f).phases = s.phases := rfl
@[simp] theorem State.modSlot_switches (k : Nat) (f : SlotRec → SlotRec) : (s.modSlot k f).switches = s.switches := rfl
@[simp] theorem State.modSlot_groups (k : Nat) (f : SlotRec → SlotRec) : (s.modSlot k f).groups = s.groups := rfl
@[simp] theorem State.modSlot_seq (k : Nat) (f : SlotRec → SlotRec) : (s.modSlot k f).seq = s.seq := rfl
@[simp] theorem State.modSlot_srcs (k : Nat) (f : SlotRec → SlotRec) : (s.modSlot k f).srcs = s.srcs := rfl
@[simp] theorem State.modSlot_faultN (k : Nat) (f : SlotRec → SlotRec) : (s.modSlot k f).faultN = s.faultN := rfl
@[simp] theorem State.modSlot_evts (k : Nat) (f : SlotRec → SlotRec) : (s.modSlot k f).evts = s.evts := rfl
@[simp] theorem State.modSlot_lane (k : Nat) (f : SlotRec → SlotRec) : (s.modSlot k f).lane = s.lane := rfl
@[simp] theorem State.modSlot_foreign (k : Nat) (f : SlotRec → SlotRec) : (s.modSlot k f).foreign = s.foreign := rfl
@[simp] theorem State.modSlot_vmodes (k : Nat) (f : SlotRec → SlotRec) : (s.modSlot k f).vmodes = s.vmodes := rfl
@[simp] theorem State.modSlot_adc (k : Nat) (f : SlotRec → SlotRec) : (s.modSlot k f).adc = s.adc := rfl
@[simp] theorem State.modSlot_thm (k : Nat) (f : SlotRec → SlotRec) : (s.modSlot k f).thm = s.thm := rfl
@[simp] theorem State.modSlot_chg (k : Nat) (f : SlotRec → SlotRec) : (s.modSlot k f).chg = s.chg := rfl
@[simp] theorem State.modSlot_gau (k : Nat) (f : SlotRec → SlotRec) : (s.modSlot k f).gau = s.gau := rfl
@[simp] theorem State.modSlot_rtc (k : Nat) (f : SlotRec → SlotRec) : (s.modSlot k f).rtc = s.rtc := rfl
@[simp] theorem State.modSlot_wdgs (k : Nat) (f : SlotRec → SlotRec) : (s.modSlot k f).wdgs = s.wdgs := rfl
@[simp] theorem State.modSlot_tbRc (k : Nat) (f : SlotRec → SlotRec) : (s.modSlot k f).tbRc = s.tbRc := rfl
@[simp] theorem State.modSlot_recd (k : Nat) (f : SlotRec → SlotRec) : (s.modSlot k f).recd = s.recd := rfl
@[simp] theorem State.modSlot_host (k : Nat) (f : SlotRec → SlotRec) : (s.modSlot k f).host = s.host := rfl
@[simp] theorem State.modSlot_otp (k : Nat) (f : SlotRec → SlotRec) : (s.modSlot k f).otp = s.otp := rfl
@[simp] theorem State.modSlot_upd (k : Nat) (f : SlotRec → SlotRec) : (s.modSlot k f).upd = s.upd := rfl
@[simp] theorem State.modSlot_mram (k : Nat) (f : SlotRec → SlotRec) : (s.modSlot k f).mram = s.mram := rfl
@[simp] theorem State.modSlot_setAt (k : Nat) (f : SlotRec → SlotRec) : (s.modSlot k f).setAt = s.setAt := rfl
@[simp] theorem State.modSlot_slotRec (k : Nat) (f : SlotRec → SlotRec) : (s.modSlot k f).slotRec k = f (s.slotRec k) := by simp [State.modSlot, State.slotRec]
theorem State.modSlot_slotRec_at (k : Nat) (f : SlotRec → SlotRec) (j : Nat) : (s.modSlot k f).slotRec j = if k = j then f (s.slotRec k) else s.slotRec j := by simp [State.modSlot, State.slotRec, Tbl.get_set]
@[simp] theorem State.modAseq_pending (k : Nat) (f : AdcSeq → AdcSeq) : (s.modAseq k f).pending = s.pending := rfl
@[simp] theorem State.modAseq_freeCtr (k : Nat) (f : AdcSeq → AdcSeq) : (s.modAseq k f).freeCtr = s.freeCtr := rfl
@[simp] theorem State.modAseq_cyc (k : Nat) (f : AdcSeq → AdcSeq) : (s.modAseq k f).cyc = s.cyc := rfl
@[simp] theorem State.modAseq_tickAt (k : Nat) (f : AdcSeq → AdcSeq) : (s.modAseq k f).tickAt = s.tickAt := rfl
@[simp] theorem State.modAseq_img (k : Nat) (f : AdcSeq → AdcSeq) : (s.modAseq k f).img = s.img := rfl
@[simp] theorem State.modAseq_newImg (k : Nat) (f : AdcSeq → AdcSeq) : (s.modAseq k f).newImg = s.newImg := rfl
@[simp] theorem State.modAseq_rw (k : Nat) (f : AdcSeq → AdcSeq) : (s.modAseq k f).rw = s.rw := rfl
@[simp] theorem State.modAseq_glb (k : Nat) (f : AdcSeq → AdcSeq) : (s.modAseq k f).glb = s.glb := rfl
@[simp] theorem State.modAseq_led (k : Nat) (f : AdcSeq → AdcSeq) : (s.modAseq k f).led = s.led := rfl
@[simp] theorem State.modAseq_pipe (k : Nat) (f : AdcSeq → AdcSeq) : (s.modAseq k f).pipe = s.pipe := rfl
@[simp] theorem State.modAseq_pol (k : Nat) (f : AdcSeq → AdcSeq) : (s.modAseq k f).pol = s.pol := rfl
@[simp] theorem State.modAseq_loops (k : Nat) (f : AdcSeq → AdcSeq) : (s.modAseq k f).loops = s.loops := rfl
@[simp] theorem State.modAseq_rails (k : Nat) (f : AdcSeq → AdcSeq) : (s.modAseq k f).rails = s.rails := rfl
@[simp] theorem State.modAseq_lathe (k : Nat) (f : AdcSeq → AdcSeq) : (s.modAseq k f).lathe = s.lathe := rfl
@[simp] theorem State.modAseq_traces (k : Nat) (f : AdcSeq → AdcSeq) : (s.modAseq k f).traces = s.traces := rfl
@[simp] theorem State.modAseq_phases (k : Nat) (f : AdcSeq → AdcSeq) : (s.modAseq k f).phases = s.phases := rfl
@[simp] theorem State.modAseq_switches (k : Nat) (f : AdcSeq → AdcSeq) : (s.modAseq k f).switches = s.switches := rfl
@[simp] theorem State.modAseq_groups (k : Nat) (f : AdcSeq → AdcSeq) : (s.modAseq k f).groups = s.groups := rfl
@[simp] theorem State.modAseq_seq (k : Nat) (f : AdcSeq → AdcSeq) : (s.modAseq k f).seq = s.seq := rfl
@[simp] theorem State.modAseq_srcs (k : Nat) (f : AdcSeq → AdcSeq) : (s.modAseq k f).srcs = s.srcs := rfl
@[simp] theorem State.modAseq_faultN (k : Nat) (f : AdcSeq → AdcSeq) : (s.modAseq k f).faultN = s.faultN := rfl
@[simp] theorem State.modAseq_evts (k : Nat) (f : AdcSeq → AdcSeq) : (s.modAseq k f).evts = s.evts := rfl
@[simp] theorem State.modAseq_lane (k : Nat) (f : AdcSeq → AdcSeq) : (s.modAseq k f).lane = s.lane := rfl
@[simp] theorem State.modAseq_lace (k : Nat) (f : AdcSeq → AdcSeq) : (s.modAseq k f).lace = s.lace := rfl
@[simp] theorem State.modAseq_foreign (k : Nat) (f : AdcSeq → AdcSeq) : (s.modAseq k f).foreign = s.foreign := rfl
@[simp] theorem State.modAseq_vmodes (k : Nat) (f : AdcSeq → AdcSeq) : (s.modAseq k f).vmodes = s.vmodes := rfl
@[simp] theorem State.modAseq_thm (k : Nat) (f : AdcSeq → AdcSeq) : (s.modAseq k f).thm = s.thm := rfl
@[simp] theorem State.modAseq_chg (k : Nat) (f : AdcSeq → AdcSeq) : (s.modAseq k f).chg = s.chg := rfl
@[simp] theorem State.modAseq_gau (k : Nat) (f : AdcSeq → AdcSeq) : (s.modAseq k f).gau = s.gau := rfl
@[simp] theorem State.modAseq_rtc (k : Nat) (f : AdcSeq → AdcSeq) : (s.modAseq k f).rtc = s.rtc := rfl
@[simp] theorem State.modAseq_wdgs (k : Nat) (f : AdcSeq → AdcSeq) : (s.modAseq k f).wdgs = s.wdgs := rfl
@[simp] theorem State.modAseq_tbRc (k : Nat) (f : AdcSeq → AdcSeq) : (s.modAseq k f).tbRc = s.tbRc := rfl
@[simp] theorem State.modAseq_recd (k : Nat) (f : AdcSeq → AdcSeq) : (s.modAseq k f).recd = s.recd := rfl
@[simp] theorem State.modAseq_host (k : Nat) (f : AdcSeq → AdcSeq) : (s.modAseq k f).host = s.host := rfl
@[simp] theorem State.modAseq_otp (k : Nat) (f : AdcSeq → AdcSeq) : (s.modAseq k f).otp = s.otp := rfl
@[simp] theorem State.modAseq_upd (k : Nat) (f : AdcSeq → AdcSeq) : (s.modAseq k f).upd = s.upd := rfl
@[simp] theorem State.modAseq_mram (k : Nat) (f : AdcSeq → AdcSeq) : (s.modAseq k f).mram = s.mram := rfl
@[simp] theorem State.modAseq_setAt (k : Nat) (f : AdcSeq → AdcSeq) : (s.modAseq k f).setAt = s.setAt := rfl
@[simp] theorem State.modAseq_aseq (k : Nat) (f : AdcSeq → AdcSeq) : (s.modAseq k f).aseq k = f (s.aseq k) := by simp [State.modAseq, State.aseq]
theorem State.modAseq_aseq_at (k : Nat) (f : AdcSeq → AdcSeq) (j : Nat) : (s.modAseq k f).aseq j = if k = j then f (s.aseq k) else s.aseq j := by simp [State.modAseq, State.aseq, Tbl.get_set]
@[simp] theorem State.modChan_pending (k : Nat) (f : Chan → Chan) : (s.modChan k f).pending = s.pending := rfl
@[simp] theorem State.modChan_freeCtr (k : Nat) (f : Chan → Chan) : (s.modChan k f).freeCtr = s.freeCtr := rfl
@[simp] theorem State.modChan_cyc (k : Nat) (f : Chan → Chan) : (s.modChan k f).cyc = s.cyc := rfl
@[simp] theorem State.modChan_tickAt (k : Nat) (f : Chan → Chan) : (s.modChan k f).tickAt = s.tickAt := rfl
@[simp] theorem State.modChan_img (k : Nat) (f : Chan → Chan) : (s.modChan k f).img = s.img := rfl
@[simp] theorem State.modChan_newImg (k : Nat) (f : Chan → Chan) : (s.modChan k f).newImg = s.newImg := rfl
@[simp] theorem State.modChan_rw (k : Nat) (f : Chan → Chan) : (s.modChan k f).rw = s.rw := rfl
@[simp] theorem State.modChan_glb (k : Nat) (f : Chan → Chan) : (s.modChan k f).glb = s.glb := rfl
@[simp] theorem State.modChan_led (k : Nat) (f : Chan → Chan) : (s.modChan k f).led = s.led := rfl
@[simp] theorem State.modChan_pipe (k : Nat) (f : Chan → Chan) : (s.modChan k f).pipe = s.pipe := rfl
@[simp] theorem State.modChan_pol (k : Nat) (f : Chan → Chan) : (s.modChan k f).pol = s.pol := rfl
@[simp] theorem State.modChan_loops (k : Nat) (f : Chan → Chan) : (s.modChan k f).loops = s.loops := rfl
@[simp] theorem State.modChan_rails (k : Nat) (f : Chan → Chan) : (s.modChan k f).rails = s.rails := rfl
@[simp] theorem State.modChan_lathe (k : Nat) (f : Chan → Chan) : (s.modChan k f).lathe = s.lathe := rfl
@[simp] theorem State.modChan_traces (k : Nat) (f : Chan → Chan) : (s.modChan k f).traces = s.traces := rfl
@[simp] theorem State.modChan_phases (k : Nat) (f : Chan → Chan) : (s.modChan k f).phases = s.phases := rfl
@[simp] theorem State.modChan_switches (k : Nat) (f : Chan → Chan) : (s.modChan k f).switches = s.switches := rfl
@[simp] theorem State.modChan_groups (k : Nat) (f : Chan → Chan) : (s.modChan k f).groups = s.groups := rfl
@[simp] theorem State.modChan_seq (k : Nat) (f : Chan → Chan) : (s.modChan k f).seq = s.seq := rfl
@[simp] theorem State.modChan_srcs (k : Nat) (f : Chan → Chan) : (s.modChan k f).srcs = s.srcs := rfl
@[simp] theorem State.modChan_faultN (k : Nat) (f : Chan → Chan) : (s.modChan k f).faultN = s.faultN := rfl
@[simp] theorem State.modChan_evts (k : Nat) (f : Chan → Chan) : (s.modChan k f).evts = s.evts := rfl
@[simp] theorem State.modChan_lane (k : Nat) (f : Chan → Chan) : (s.modChan k f).lane = s.lane := rfl
@[simp] theorem State.modChan_lace (k : Nat) (f : Chan → Chan) : (s.modChan k f).lace = s.lace := rfl
@[simp] theorem State.modChan_foreign (k : Nat) (f : Chan → Chan) : (s.modChan k f).foreign = s.foreign := rfl
@[simp] theorem State.modChan_vmodes (k : Nat) (f : Chan → Chan) : (s.modChan k f).vmodes = s.vmodes := rfl
@[simp] theorem State.modChan_thm (k : Nat) (f : Chan → Chan) : (s.modChan k f).thm = s.thm := rfl
@[simp] theorem State.modChan_chg (k : Nat) (f : Chan → Chan) : (s.modChan k f).chg = s.chg := rfl
@[simp] theorem State.modChan_gau (k : Nat) (f : Chan → Chan) : (s.modChan k f).gau = s.gau := rfl
@[simp] theorem State.modChan_rtc (k : Nat) (f : Chan → Chan) : (s.modChan k f).rtc = s.rtc := rfl
@[simp] theorem State.modChan_wdgs (k : Nat) (f : Chan → Chan) : (s.modChan k f).wdgs = s.wdgs := rfl
@[simp] theorem State.modChan_tbRc (k : Nat) (f : Chan → Chan) : (s.modChan k f).tbRc = s.tbRc := rfl
@[simp] theorem State.modChan_recd (k : Nat) (f : Chan → Chan) : (s.modChan k f).recd = s.recd := rfl
@[simp] theorem State.modChan_host (k : Nat) (f : Chan → Chan) : (s.modChan k f).host = s.host := rfl
@[simp] theorem State.modChan_otp (k : Nat) (f : Chan → Chan) : (s.modChan k f).otp = s.otp := rfl
@[simp] theorem State.modChan_upd (k : Nat) (f : Chan → Chan) : (s.modChan k f).upd = s.upd := rfl
@[simp] theorem State.modChan_mram (k : Nat) (f : Chan → Chan) : (s.modChan k f).mram = s.mram := rfl
@[simp] theorem State.modChan_setAt (k : Nat) (f : Chan → Chan) : (s.modChan k f).setAt = s.setAt := rfl
@[simp] theorem State.modChan_chanOf (k : Nat) (f : Chan → Chan) : (s.modChan k f).chanOf k = f (s.chanOf k) := by simp [State.modChan, State.chanOf]
theorem State.modChan_chanOf_at (k : Nat) (f : Chan → Chan) (j : Nat) : (s.modChan k f).chanOf j = if k = j then f (s.chanOf k) else s.chanOf j := by simp [State.modChan, State.chanOf, Tbl.get_set]
@[simp] theorem State.modMeter_pending (k : Nat) (f : Meter → Meter) : (s.modMeter k f).pending = s.pending := rfl
@[simp] theorem State.modMeter_freeCtr (k : Nat) (f : Meter → Meter) : (s.modMeter k f).freeCtr = s.freeCtr := rfl
@[simp] theorem State.modMeter_cyc (k : Nat) (f : Meter → Meter) : (s.modMeter k f).cyc = s.cyc := rfl
@[simp] theorem State.modMeter_tickAt (k : Nat) (f : Meter → Meter) : (s.modMeter k f).tickAt = s.tickAt := rfl
@[simp] theorem State.modMeter_img (k : Nat) (f : Meter → Meter) : (s.modMeter k f).img = s.img := rfl
@[simp] theorem State.modMeter_newImg (k : Nat) (f : Meter → Meter) : (s.modMeter k f).newImg = s.newImg := rfl
@[simp] theorem State.modMeter_rw (k : Nat) (f : Meter → Meter) : (s.modMeter k f).rw = s.rw := rfl
@[simp] theorem State.modMeter_glb (k : Nat) (f : Meter → Meter) : (s.modMeter k f).glb = s.glb := rfl
@[simp] theorem State.modMeter_led (k : Nat) (f : Meter → Meter) : (s.modMeter k f).led = s.led := rfl
@[simp] theorem State.modMeter_pipe (k : Nat) (f : Meter → Meter) : (s.modMeter k f).pipe = s.pipe := rfl
@[simp] theorem State.modMeter_pol (k : Nat) (f : Meter → Meter) : (s.modMeter k f).pol = s.pol := rfl
@[simp] theorem State.modMeter_loops (k : Nat) (f : Meter → Meter) : (s.modMeter k f).loops = s.loops := rfl
@[simp] theorem State.modMeter_rails (k : Nat) (f : Meter → Meter) : (s.modMeter k f).rails = s.rails := rfl
@[simp] theorem State.modMeter_lathe (k : Nat) (f : Meter → Meter) : (s.modMeter k f).lathe = s.lathe := rfl
@[simp] theorem State.modMeter_traces (k : Nat) (f : Meter → Meter) : (s.modMeter k f).traces = s.traces := rfl
@[simp] theorem State.modMeter_phases (k : Nat) (f : Meter → Meter) : (s.modMeter k f).phases = s.phases := rfl
@[simp] theorem State.modMeter_switches (k : Nat) (f : Meter → Meter) : (s.modMeter k f).switches = s.switches := rfl
@[simp] theorem State.modMeter_groups (k : Nat) (f : Meter → Meter) : (s.modMeter k f).groups = s.groups := rfl
@[simp] theorem State.modMeter_seq (k : Nat) (f : Meter → Meter) : (s.modMeter k f).seq = s.seq := rfl
@[simp] theorem State.modMeter_srcs (k : Nat) (f : Meter → Meter) : (s.modMeter k f).srcs = s.srcs := rfl
@[simp] theorem State.modMeter_faultN (k : Nat) (f : Meter → Meter) : (s.modMeter k f).faultN = s.faultN := rfl
@[simp] theorem State.modMeter_evts (k : Nat) (f : Meter → Meter) : (s.modMeter k f).evts = s.evts := rfl
@[simp] theorem State.modMeter_lane (k : Nat) (f : Meter → Meter) : (s.modMeter k f).lane = s.lane := rfl
@[simp] theorem State.modMeter_lace (k : Nat) (f : Meter → Meter) : (s.modMeter k f).lace = s.lace := rfl
@[simp] theorem State.modMeter_foreign (k : Nat) (f : Meter → Meter) : (s.modMeter k f).foreign = s.foreign := rfl
@[simp] theorem State.modMeter_vmodes (k : Nat) (f : Meter → Meter) : (s.modMeter k f).vmodes = s.vmodes := rfl
@[simp] theorem State.modMeter_thm (k : Nat) (f : Meter → Meter) : (s.modMeter k f).thm = s.thm := rfl
@[simp] theorem State.modMeter_chg (k : Nat) (f : Meter → Meter) : (s.modMeter k f).chg = s.chg := rfl
@[simp] theorem State.modMeter_gau (k : Nat) (f : Meter → Meter) : (s.modMeter k f).gau = s.gau := rfl
@[simp] theorem State.modMeter_rtc (k : Nat) (f : Meter → Meter) : (s.modMeter k f).rtc = s.rtc := rfl
@[simp] theorem State.modMeter_wdgs (k : Nat) (f : Meter → Meter) : (s.modMeter k f).wdgs = s.wdgs := rfl
@[simp] theorem State.modMeter_tbRc (k : Nat) (f : Meter → Meter) : (s.modMeter k f).tbRc = s.tbRc := rfl
@[simp] theorem State.modMeter_recd (k : Nat) (f : Meter → Meter) : (s.modMeter k f).recd = s.recd := rfl
@[simp] theorem State.modMeter_host (k : Nat) (f : Meter → Meter) : (s.modMeter k f).host = s.host := rfl
@[simp] theorem State.modMeter_otp (k : Nat) (f : Meter → Meter) : (s.modMeter k f).otp = s.otp := rfl
@[simp] theorem State.modMeter_upd (k : Nat) (f : Meter → Meter) : (s.modMeter k f).upd = s.upd := rfl
@[simp] theorem State.modMeter_mram (k : Nat) (f : Meter → Meter) : (s.modMeter k f).mram = s.mram := rfl
@[simp] theorem State.modMeter_setAt (k : Nat) (f : Meter → Meter) : (s.modMeter k f).setAt = s.setAt := rfl
@[simp] theorem State.modMeter_meter (k : Nat) (f : Meter → Meter) : (s.modMeter k f).meter k = f (s.meter k) := by simp [State.modMeter, State.meter]
theorem State.modMeter_meter_at (k : Nat) (f : Meter → Meter) (j : Nat) : (s.modMeter k f).meter j = if k = j then f (s.meter k) else s.meter j := by simp [State.modMeter, State.meter, Tbl.get_set]
@[simp] theorem State.modZone_pending (k : Nat) (f : Zone → Zone) : (s.modZone k f).pending = s.pending := rfl
@[simp] theorem State.modZone_freeCtr (k : Nat) (f : Zone → Zone) : (s.modZone k f).freeCtr = s.freeCtr := rfl
@[simp] theorem State.modZone_cyc (k : Nat) (f : Zone → Zone) : (s.modZone k f).cyc = s.cyc := rfl
@[simp] theorem State.modZone_tickAt (k : Nat) (f : Zone → Zone) : (s.modZone k f).tickAt = s.tickAt := rfl
@[simp] theorem State.modZone_img (k : Nat) (f : Zone → Zone) : (s.modZone k f).img = s.img := rfl
@[simp] theorem State.modZone_newImg (k : Nat) (f : Zone → Zone) : (s.modZone k f).newImg = s.newImg := rfl
@[simp] theorem State.modZone_rw (k : Nat) (f : Zone → Zone) : (s.modZone k f).rw = s.rw := rfl
@[simp] theorem State.modZone_glb (k : Nat) (f : Zone → Zone) : (s.modZone k f).glb = s.glb := rfl
@[simp] theorem State.modZone_led (k : Nat) (f : Zone → Zone) : (s.modZone k f).led = s.led := rfl
@[simp] theorem State.modZone_pipe (k : Nat) (f : Zone → Zone) : (s.modZone k f).pipe = s.pipe := rfl
@[simp] theorem State.modZone_pol (k : Nat) (f : Zone → Zone) : (s.modZone k f).pol = s.pol := rfl
@[simp] theorem State.modZone_loops (k : Nat) (f : Zone → Zone) : (s.modZone k f).loops = s.loops := rfl
@[simp] theorem State.modZone_rails (k : Nat) (f : Zone → Zone) : (s.modZone k f).rails = s.rails := rfl
@[simp] theorem State.modZone_lathe (k : Nat) (f : Zone → Zone) : (s.modZone k f).lathe = s.lathe := rfl
@[simp] theorem State.modZone_traces (k : Nat) (f : Zone → Zone) : (s.modZone k f).traces = s.traces := rfl
@[simp] theorem State.modZone_phases (k : Nat) (f : Zone → Zone) : (s.modZone k f).phases = s.phases := rfl
@[simp] theorem State.modZone_switches (k : Nat) (f : Zone → Zone) : (s.modZone k f).switches = s.switches := rfl
@[simp] theorem State.modZone_groups (k : Nat) (f : Zone → Zone) : (s.modZone k f).groups = s.groups := rfl
@[simp] theorem State.modZone_seq (k : Nat) (f : Zone → Zone) : (s.modZone k f).seq = s.seq := rfl
@[simp] theorem State.modZone_srcs (k : Nat) (f : Zone → Zone) : (s.modZone k f).srcs = s.srcs := rfl
@[simp] theorem State.modZone_faultN (k : Nat) (f : Zone → Zone) : (s.modZone k f).faultN = s.faultN := rfl
@[simp] theorem State.modZone_evts (k : Nat) (f : Zone → Zone) : (s.modZone k f).evts = s.evts := rfl
@[simp] theorem State.modZone_lane (k : Nat) (f : Zone → Zone) : (s.modZone k f).lane = s.lane := rfl
@[simp] theorem State.modZone_lace (k : Nat) (f : Zone → Zone) : (s.modZone k f).lace = s.lace := rfl
@[simp] theorem State.modZone_foreign (k : Nat) (f : Zone → Zone) : (s.modZone k f).foreign = s.foreign := rfl
@[simp] theorem State.modZone_vmodes (k : Nat) (f : Zone → Zone) : (s.modZone k f).vmodes = s.vmodes := rfl
@[simp] theorem State.modZone_adc (k : Nat) (f : Zone → Zone) : (s.modZone k f).adc = s.adc := rfl
@[simp] theorem State.modZone_chg (k : Nat) (f : Zone → Zone) : (s.modZone k f).chg = s.chg := rfl
@[simp] theorem State.modZone_gau (k : Nat) (f : Zone → Zone) : (s.modZone k f).gau = s.gau := rfl
@[simp] theorem State.modZone_rtc (k : Nat) (f : Zone → Zone) : (s.modZone k f).rtc = s.rtc := rfl
@[simp] theorem State.modZone_wdgs (k : Nat) (f : Zone → Zone) : (s.modZone k f).wdgs = s.wdgs := rfl
@[simp] theorem State.modZone_tbRc (k : Nat) (f : Zone → Zone) : (s.modZone k f).tbRc = s.tbRc := rfl
@[simp] theorem State.modZone_recd (k : Nat) (f : Zone → Zone) : (s.modZone k f).recd = s.recd := rfl
@[simp] theorem State.modZone_host (k : Nat) (f : Zone → Zone) : (s.modZone k f).host = s.host := rfl
@[simp] theorem State.modZone_otp (k : Nat) (f : Zone → Zone) : (s.modZone k f).otp = s.otp := rfl
@[simp] theorem State.modZone_upd (k : Nat) (f : Zone → Zone) : (s.modZone k f).upd = s.upd := rfl
@[simp] theorem State.modZone_mram (k : Nat) (f : Zone → Zone) : (s.modZone k f).mram = s.mram := rfl
@[simp] theorem State.modZone_setAt (k : Nat) (f : Zone → Zone) : (s.modZone k f).setAt = s.setAt := rfl
@[simp] theorem State.modZone_zoneOf (k : Nat) (f : Zone → Zone) : (s.modZone k f).zoneOf k = f (s.zoneOf k) := by simp [State.modZone, State.zoneOf]
theorem State.modZone_zoneOf_at (k : Nat) (f : Zone → Zone) (j : Nat) : (s.modZone k f).zoneOf j = if k = j then f (s.zoneOf k) else s.zoneOf j := by simp [State.modZone, State.zoneOf, Tbl.get_set]
@[simp] theorem State.modIface_pending (i : Iface) (f : HostIf → HostIf) : (s.modIface i f).pending = s.pending := by cases i <;> rfl
@[simp] theorem State.modIface_freeCtr (i : Iface) (f : HostIf → HostIf) : (s.modIface i f).freeCtr = s.freeCtr := by cases i <;> rfl
@[simp] theorem State.modIface_cyc (i : Iface) (f : HostIf → HostIf) : (s.modIface i f).cyc = s.cyc := by cases i <;> rfl
@[simp] theorem State.modIface_tickAt (i : Iface) (f : HostIf → HostIf) : (s.modIface i f).tickAt = s.tickAt := by cases i <;> rfl
@[simp] theorem State.modIface_img (i : Iface) (f : HostIf → HostIf) : (s.modIface i f).img = s.img := by cases i <;> rfl
@[simp] theorem State.modIface_newImg (i : Iface) (f : HostIf → HostIf) : (s.modIface i f).newImg = s.newImg := by cases i <;> rfl
@[simp] theorem State.modIface_rw (i : Iface) (f : HostIf → HostIf) : (s.modIface i f).rw = s.rw := by cases i <;> rfl
@[simp] theorem State.modIface_glb (i : Iface) (f : HostIf → HostIf) : (s.modIface i f).glb = s.glb := by cases i <;> rfl
@[simp] theorem State.modIface_led (i : Iface) (f : HostIf → HostIf) : (s.modIface i f).led = s.led := by cases i <;> rfl
@[simp] theorem State.modIface_pipe (i : Iface) (f : HostIf → HostIf) : (s.modIface i f).pipe = s.pipe := by cases i <;> rfl
@[simp] theorem State.modIface_pol (i : Iface) (f : HostIf → HostIf) : (s.modIface i f).pol = s.pol := by cases i <;> rfl
@[simp] theorem State.modIface_loops (i : Iface) (f : HostIf → HostIf) : (s.modIface i f).loops = s.loops := by cases i <;> rfl
@[simp] theorem State.modIface_rails (i : Iface) (f : HostIf → HostIf) : (s.modIface i f).rails = s.rails := by cases i <;> rfl
@[simp] theorem State.modIface_lathe (i : Iface) (f : HostIf → HostIf) : (s.modIface i f).lathe = s.lathe := by cases i <;> rfl
@[simp] theorem State.modIface_traces (i : Iface) (f : HostIf → HostIf) : (s.modIface i f).traces = s.traces := by cases i <;> rfl
@[simp] theorem State.modIface_phases (i : Iface) (f : HostIf → HostIf) : (s.modIface i f).phases = s.phases := by cases i <;> rfl
@[simp] theorem State.modIface_switches (i : Iface) (f : HostIf → HostIf) : (s.modIface i f).switches = s.switches := by cases i <;> rfl
@[simp] theorem State.modIface_groups (i : Iface) (f : HostIf → HostIf) : (s.modIface i f).groups = s.groups := by cases i <;> rfl
@[simp] theorem State.modIface_seq (i : Iface) (f : HostIf → HostIf) : (s.modIface i f).seq = s.seq := by cases i <;> rfl
@[simp] theorem State.modIface_srcs (i : Iface) (f : HostIf → HostIf) : (s.modIface i f).srcs = s.srcs := by cases i <;> rfl
@[simp] theorem State.modIface_faultN (i : Iface) (f : HostIf → HostIf) : (s.modIface i f).faultN = s.faultN := by cases i <;> rfl
@[simp] theorem State.modIface_evts (i : Iface) (f : HostIf → HostIf) : (s.modIface i f).evts = s.evts := by cases i <;> rfl
@[simp] theorem State.modIface_lane (i : Iface) (f : HostIf → HostIf) : (s.modIface i f).lane = s.lane := by cases i <;> rfl
@[simp] theorem State.modIface_lace (i : Iface) (f : HostIf → HostIf) : (s.modIface i f).lace = s.lace := by cases i <;> rfl
@[simp] theorem State.modIface_foreign (i : Iface) (f : HostIf → HostIf) : (s.modIface i f).foreign = s.foreign := by cases i <;> rfl
@[simp] theorem State.modIface_vmodes (i : Iface) (f : HostIf → HostIf) : (s.modIface i f).vmodes = s.vmodes := by cases i <;> rfl
@[simp] theorem State.modIface_adc (i : Iface) (f : HostIf → HostIf) : (s.modIface i f).adc = s.adc := by cases i <;> rfl
@[simp] theorem State.modIface_thm (i : Iface) (f : HostIf → HostIf) : (s.modIface i f).thm = s.thm := by cases i <;> rfl
@[simp] theorem State.modIface_chg (i : Iface) (f : HostIf → HostIf) : (s.modIface i f).chg = s.chg := by cases i <;> rfl
@[simp] theorem State.modIface_gau (i : Iface) (f : HostIf → HostIf) : (s.modIface i f).gau = s.gau := by cases i <;> rfl
@[simp] theorem State.modIface_rtc (i : Iface) (f : HostIf → HostIf) : (s.modIface i f).rtc = s.rtc := by cases i <;> rfl
@[simp] theorem State.modIface_wdgs (i : Iface) (f : HostIf → HostIf) : (s.modIface i f).wdgs = s.wdgs := by cases i <;> rfl
@[simp] theorem State.modIface_tbRc (i : Iface) (f : HostIf → HostIf) : (s.modIface i f).tbRc = s.tbRc := by cases i <;> rfl
@[simp] theorem State.modIface_recd (i : Iface) (f : HostIf → HostIf) : (s.modIface i f).recd = s.recd := by cases i <;> rfl
@[simp] theorem State.modIface_otp (i : Iface) (f : HostIf → HostIf) : (s.modIface i f).otp = s.otp := by cases i <;> rfl
@[simp] theorem State.modIface_upd (i : Iface) (f : HostIf → HostIf) : (s.modIface i f).upd = s.upd := by cases i <;> rfl
@[simp] theorem State.modIface_mram (i : Iface) (f : HostIf → HostIf) : (s.modIface i f).mram = s.mram := by cases i <;> rfl
@[simp] theorem State.modIface_setAt (i : Iface) (f : HostIf → HostIf) : (s.modIface i f).setAt = s.setAt := by cases i <;> rfl
@[simp] theorem State.modIface_iface (i : Iface) (f : HostIf → HostIf) : (s.modIface i f).iface i = f (s.iface i) := by cases i <;> rfl
@[simp] theorem State.modIface_other (i : Iface) (f : HostIf → HostIf) : (s.modIface i f).iface (Iface.other i) = s.iface (Iface.other i) := by cases i <;> rfl
@[simp] theorem State.setRw_pending (a : Nat) (w : Word) : (s.setRw a w).pending = s.pending := rfl
@[simp] theorem State.setRw_freeCtr (a : Nat) (w : Word) : (s.setRw a w).freeCtr = s.freeCtr := rfl
@[simp] theorem State.setRw_cyc (a : Nat) (w : Word) : (s.setRw a w).cyc = s.cyc := rfl
@[simp] theorem State.setRw_tickAt (a : Nat) (w : Word) : (s.setRw a w).tickAt = s.tickAt := rfl
@[simp] theorem State.setRw_img (a : Nat) (w : Word) : (s.setRw a w).img = s.img := rfl
@[simp] theorem State.setRw_newImg (a : Nat) (w : Word) : (s.setRw a w).newImg = s.newImg := rfl
@[simp] theorem State.setRw_glb (a : Nat) (w : Word) : (s.setRw a w).glb = s.glb := rfl
@[simp] theorem State.setRw_led (a : Nat) (w : Word) : (s.setRw a w).led = s.led := rfl
@[simp] theorem State.setRw_pipe (a : Nat) (w : Word) : (s.setRw a w).pipe = s.pipe := rfl
@[simp] theorem State.setRw_pol (a : Nat) (w : Word) : (s.setRw a w).pol = s.pol := rfl
@[simp] theorem State.setRw_loops (a : Nat) (w : Word) : (s.setRw a w).loops = s.loops := rfl
@[simp] theorem State.setRw_rails (a : Nat) (w : Word) : (s.setRw a w).rails = s.rails := rfl
@[simp] theorem State.setRw_lathe (a : Nat) (w : Word) : (s.setRw a w).lathe = s.lathe := rfl
@[simp] theorem State.setRw_traces (a : Nat) (w : Word) : (s.setRw a w).traces = s.traces := rfl
@[simp] theorem State.setRw_phases (a : Nat) (w : Word) : (s.setRw a w).phases = s.phases := rfl
@[simp] theorem State.setRw_switches (a : Nat) (w : Word) : (s.setRw a w).switches = s.switches := rfl
@[simp] theorem State.setRw_groups (a : Nat) (w : Word) : (s.setRw a w).groups = s.groups := rfl
@[simp] theorem State.setRw_seq (a : Nat) (w : Word) : (s.setRw a w).seq = s.seq := rfl
@[simp] theorem State.setRw_srcs (a : Nat) (w : Word) : (s.setRw a w).srcs = s.srcs := rfl
@[simp] theorem State.setRw_faultN (a : Nat) (w : Word) : (s.setRw a w).faultN = s.faultN := rfl
@[simp] theorem State.setRw_evts (a : Nat) (w : Word) : (s.setRw a w).evts = s.evts := rfl
@[simp] theorem State.setRw_lane (a : Nat) (w : Word) : (s.setRw a w).lane = s.lane := rfl
@[simp] theorem State.setRw_lace (a : Nat) (w : Word) : (s.setRw a w).lace = s.lace := rfl
@[simp] theorem State.setRw_foreign (a : Nat) (w : Word) : (s.setRw a w).foreign = s.foreign := rfl
@[simp] theorem State.setRw_vmodes (a : Nat) (w : Word) : (s.setRw a w).vmodes = s.vmodes := rfl
@[simp] theorem State.setRw_adc (a : Nat) (w : Word) : (s.setRw a w).adc = s.adc := rfl
@[simp] theorem State.setRw_thm (a : Nat) (w : Word) : (s.setRw a w).thm = s.thm := rfl
@[simp] theorem State.setRw_chg (a : Nat) (w : Word) : (s.setRw a w).chg = s.chg := rfl
@[simp] theorem State.setRw_gau (a : Nat) (w : Word) : (s.setRw a w).gau = s.gau := rfl
@[simp] theorem State.setRw_rtc (a : Nat) (w : Word) : (s.setRw a w).rtc = s.rtc := rfl
@[simp] theorem State.setRw_wdgs (a : Nat) (w : Word) : (s.setRw a w).wdgs = s.wdgs := rfl
@[simp] theorem State.setRw_tbRc (a : Nat) (w : Word) : (s.setRw a w).tbRc = s.tbRc := rfl
@[simp] theorem State.setRw_recd (a : Nat) (w : Word) : (s.setRw a w).recd = s.recd := rfl
@[simp] theorem State.setRw_host (a : Nat) (w : Word) : (s.setRw a w).host = s.host := rfl
@[simp] theorem State.setRw_otp (a : Nat) (w : Word) : (s.setRw a w).otp = s.otp := rfl
@[simp] theorem State.setRw_upd (a : Nat) (w : Word) : (s.setRw a w).upd = s.upd := rfl
@[simp] theorem State.setRw_mram (a : Nat) (w : Word) : (s.setRw a w).mram = s.mram := rfl
@[simp] theorem State.setRw_setAt (a : Nat) (w : Word) : (s.setRw a w).setAt = s.setAt := rfl
@[simp] theorem State.setRw_rwWord (a : Nat) (w : Word) : (s.setRw a w).rwWord a = w := by simp [State.setRw, State.rwWord]
@[simp] theorem State.modRail_im (k : Nat) (f : Rail → Rail) (d : Fld) (i : Nat) : (s.modRail k f).im d i = s.im d i := rfl
@[simp] theorem State.modRail_imb (k : Nat) (f : Rail → Rail) (d : Fld) (i : Nat) : (s.modRail k f).imb d i = s.imb d i := rfl
@[simp] theorem State.modPhase_im (k : Nat) (f : Phase → Phase) (d : Fld) (i : Nat) : (s.modPhase k f).im d i = s.im d i := rfl
@[simp] theorem State.modPhase_imb (k : Nat) (f : Phase → Phase) (d : Fld) (i : Nat) : (s.modPhase k f).imb d i = s.imb d i := rfl
@[simp] theorem State.modSwitch_im (k : Nat) (f : Switch → Switch) (d : Fld) (i : Nat) : (s.modSwitch k f).im d i = s.im d i := rfl
@[simp] theorem State.modSwitch_imb (k : Nat) (f : Switch → Switch) (d : Fld) (i : Nat) : (s.modSwitch k f).imb d i = s.imb d i := rfl
@[simp] theorem State.modGroup_im (k : Nat) (f : Group → Group) (d : Fld) (i : Nat) : (s.modGroup k f).im d i = s.im d i := rfl
@[simp] theorem State.modGroup_imb (k : Nat) (f : Group → Group) (d : Fld) (i : Nat) : (s.modGroup k f).imb d i = s.imb d i := rfl
@[simp] theorem State.modSrc_im (k : Nat) (f : Source → Source) (d : Fld) (i : Nat) : (s.modSrc k f).im d i = s.im d i := rfl
@[simp] theorem State.modSrc_imb (k : Nat) (f : Source → Source) (d : Fld) (i : Nat) : (s.modSrc k f).imb d i = s.imb d i := rfl
@[simp] theorem State.modEvt_im (k : Nat) (f : Event → Event) (d : Fld) (i : Nat) : (s.modEvt k f).im d i = s.im d i := rfl
@[simp] theorem State.modEvt_imb (k : Nat) (f : Event → Event) (d : Fld) (i : Nat) : (s.modEvt k f).imb d i = s.imb d i := rfl
@[simp] theorem State.modPolicy_im (k : Nat) (f : Policy → Policy) (d : Fld) (i : Nat) : (s.modPolicy k f).im d i = s.im d i := rfl
@[simp] theorem State.modPolicy_imb (k : Nat) (f : Policy → Policy) (d : Fld) (i : Nat) : (s.modPolicy k f).imb d i = s.imb d i := rfl
@[simp] theorem State.modLoop_im (k : Nat) (f : Loop → Loop) (d : Fld) (i : Nat) : (s.modLoop k f).im d i = s.im d i := rfl
@[simp] theorem State.modLoop_imb (k : Nat) (f : Loop → Loop) (d : Fld) (i : Nat) : (s.modLoop k f).imb d i = s.imb d i := rfl
@[simp] theorem State.modLoopSt_im (k : Nat) (f : LoopSt → LoopSt) (d : Fld) (i : Nat) : (s.modLoopSt k f).im d i = s.im d i := rfl
@[simp] theorem State.modLoopSt_imb (k : Nat) (f : LoopSt → LoopSt) (d : Fld) (i : Nat) : (s.modLoopSt k f).imb d i = s.imb d i := rfl
@[simp] theorem State.modTrace_im (k : Nat) (f : Trace → Trace) (d : Fld) (i : Nat) : (s.modTrace k f).im d i = s.im d i := rfl
@[simp] theorem State.modTrace_imb (k : Nat) (f : Trace → Trace) (d : Fld) (i : Nat) : (s.modTrace k f).imb d i = s.imb d i := rfl
@[simp] theorem State.modWdg_im (k : Nat) (f : Wdg → Wdg) (d : Fld) (i : Nat) : (s.modWdg k f).im d i = s.im d i := rfl
@[simp] theorem State.modWdg_imb (k : Nat) (f : Wdg → Wdg) (d : Fld) (i : Nat) : (s.modWdg k f).imb d i = s.imb d i := rfl
@[simp] theorem State.modFdev_im (k : Nat) (f : Foreign → Foreign) (d : Fld) (i : Nat) : (s.modFdev k f).im d i = s.im d i := rfl
@[simp] theorem State.modFdev_imb (k : Nat) (f : Foreign → Foreign) (d : Fld) (i : Nat) : (s.modFdev k f).imb d i = s.imb d i := rfl
@[simp] theorem State.modEye_im (k : Nat) (f : Eyelet → Eyelet) (d : Fld) (i : Nat) : (s.modEye k f).im d i = s.im d i := rfl
@[simp] theorem State.modEye_imb (k : Nat) (f : Eyelet → Eyelet) (d : Fld) (i : Nat) : (s.modEye k f).imb d i = s.imb d i := rfl
@[simp] theorem State.modSlot_im (k : Nat) (f : SlotRec → SlotRec) (d : Fld) (i : Nat) : (s.modSlot k f).im d i = s.im d i := rfl
@[simp] theorem State.modSlot_imb (k : Nat) (f : SlotRec → SlotRec) (d : Fld) (i : Nat) : (s.modSlot k f).imb d i = s.imb d i := rfl
@[simp] theorem State.modAseq_im (k : Nat) (f : AdcSeq → AdcSeq) (d : Fld) (i : Nat) : (s.modAseq k f).im d i = s.im d i := rfl
@[simp] theorem State.modAseq_imb (k : Nat) (f : AdcSeq → AdcSeq) (d : Fld) (i : Nat) : (s.modAseq k f).imb d i = s.imb d i := rfl
@[simp] theorem State.modChan_im (k : Nat) (f : Chan → Chan) (d : Fld) (i : Nat) : (s.modChan k f).im d i = s.im d i := rfl
@[simp] theorem State.modChan_imb (k : Nat) (f : Chan → Chan) (d : Fld) (i : Nat) : (s.modChan k f).imb d i = s.imb d i := rfl
@[simp] theorem State.modMeter_im (k : Nat) (f : Meter → Meter) (d : Fld) (i : Nat) : (s.modMeter k f).im d i = s.im d i := rfl
@[simp] theorem State.modMeter_imb (k : Nat) (f : Meter → Meter) (d : Fld) (i : Nat) : (s.modMeter k f).imb d i = s.imb d i := rfl
@[simp] theorem State.modZone_im (k : Nat) (f : Zone → Zone) (d : Fld) (i : Nat) : (s.modZone k f).im d i = s.im d i := rfl
@[simp] theorem State.modZone_imb (k : Nat) (f : Zone → Zone) (d : Fld) (i : Nat) : (s.modZone k f).imb d i = s.imb d i := rfl
@[simp] theorem State.modLed_im (f : Ledger → Ledger) (d : Fld) (i : Nat) : (s.modLed f).im d i = s.im d i := rfl
@[simp] theorem State.modLed_imb (f : Ledger → Ledger) (d : Fld) (i : Nat) : (s.modLed f).imb d i = s.imb d i := rfl
@[simp] theorem State.modPipe_im (f : Pipe → Pipe) (d : Fld) (i : Nat) : (s.modPipe f).im d i = s.im d i := rfl
@[simp] theorem State.modPipe_imb (f : Pipe → Pipe) (d : Fld) (i : Nat) : (s.modPipe f).imb d i = s.imb d i := rfl
@[simp] theorem State.modGlb_im (f : Glb → Glb) (d : Fld) (i : Nat) : (s.modGlb f).im d i = s.im d i := rfl
@[simp] theorem State.modGlb_imb (f : Glb → Glb) (d : Fld) (i : Nat) : (s.modGlb f).imb d i = s.imb d i := rfl
@[simp] theorem State.modLane_im (f : Lane → Lane) (d : Fld) (i : Nat) : (s.modLane f).im d i = s.im d i := rfl
@[simp] theorem State.modLane_imb (f : Lane → Lane) (d : Fld) (i : Nat) : (s.modLane f).imb d i = s.imb d i := rfl
@[simp] theorem State.modSeq_im (f : SeqSt → SeqSt) (d : Fld) (i : Nat) : (s.modSeq f).im d i = s.im d i := rfl
@[simp] theorem State.modSeq_imb (f : SeqSt → SeqSt) (d : Fld) (i : Nat) : (s.modSeq f).imb d i = s.imb d i := rfl
@[simp] theorem State.modLace_im (f : Lace → Lace) (d : Fld) (i : Nat) : (s.modLace f).im d i = s.im d i := rfl
@[simp] theorem State.modLace_imb (f : Lace → Lace) (d : Fld) (i : Nat) : (s.modLace f).imb d i = s.imb d i := rfl
@[simp] theorem State.modAdc_im (f : Adc → Adc) (d : Fld) (i : Nat) : (s.modAdc f).im d i = s.im d i := rfl
@[simp] theorem State.modAdc_imb (f : Adc → Adc) (d : Fld) (i : Nat) : (s.modAdc f).imb d i = s.imb d i := rfl
@[simp] theorem State.modThm_im (f : Thm → Thm) (d : Fld) (i : Nat) : (s.modThm f).im d i = s.im d i := rfl
@[simp] theorem State.modThm_imb (f : Thm → Thm) (d : Fld) (i : Nat) : (s.modThm f).imb d i = s.imb d i := rfl
@[simp] theorem State.modChg_im (f : Chg → Chg) (d : Fld) (i : Nat) : (s.modChg f).im d i = s.im d i := rfl
@[simp] theorem State.modChg_imb (f : Chg → Chg) (d : Fld) (i : Nat) : (s.modChg f).imb d i = s.imb d i := rfl
@[simp] theorem State.modGau_im (f : Gau → Gau) (d : Fld) (i : Nat) : (s.modGau f).im d i = s.im d i := rfl
@[simp] theorem State.modGau_imb (f : Gau → Gau) (d : Fld) (i : Nat) : (s.modGau f).imb d i = s.imb d i := rfl
@[simp] theorem State.modRtc_im (f : Rtc → Rtc) (d : Fld) (i : Nat) : (s.modRtc f).im d i = s.im d i := rfl
@[simp] theorem State.modRtc_imb (f : Rtc → Rtc) (d : Fld) (i : Nat) : (s.modRtc f).imb d i = s.imb d i := rfl
@[simp] theorem State.modRec_im (f : RecSt → RecSt) (d : Fld) (i : Nat) : (s.modRec f).im d i = s.im d i := rfl
@[simp] theorem State.modRec_imb (f : RecSt → RecSt) (d : Fld) (i : Nat) : (s.modRec f).imb d i = s.imb d i := rfl
@[simp] theorem State.modHost_im (f : HostSt → HostSt) (d : Fld) (i : Nat) : (s.modHost f).im d i = s.im d i := rfl
@[simp] theorem State.modHost_imb (f : HostSt → HostSt) (d : Fld) (i : Nat) : (s.modHost f).imb d i = s.imb d i := rfl
@[simp] theorem State.modOtp_im (f : Otp → Otp) (d : Fld) (i : Nat) : (s.modOtp f).im d i = s.im d i := rfl
@[simp] theorem State.modOtp_imb (f : Otp → Otp) (d : Fld) (i : Nat) : (s.modOtp f).imb d i = s.imb d i := rfl
@[simp] theorem State.modUpd_im (f : Upd → Upd) (d : Fld) (i : Nat) : (s.modUpd f).im d i = s.im d i := rfl
@[simp] theorem State.modUpd_imb (f : Upd → Upd) (d : Fld) (i : Nat) : (s.modUpd f).imb d i = s.imb d i := rfl
@[simp] theorem State.modIface_im (i : Iface) (f : HostIf → HostIf) (d : Fld) (j : Nat) : (s.modIface i f).im d j = s.im d j := by cases i <;> rfl
@[simp] theorem State.modIface_imb (i : Iface) (f : HostIf → HostIf) (d : Fld) (j : Nat) : (s.modIface i f).imb d j = s.imb d j := by cases i <;> rfl

/-- Noting what the last tick published changes nothing else of a ledger. -/
theorem Ledger.note_was (l : Ledger) (id : Nat) : l.note id = { l with was := (l.note id).was } := by unfold Ledger.note; split <;> rfl
@[simp] theorem Ledger.note_cur (l : Ledger) (id : Nat) : (l.note id).cur = l.cur := by rw [Ledger.note_was]
@[simp] theorem Ledger.note_fp (l : Ledger) (id : Nat) : (l.note id).fp = l.fp := by rw [Ledger.note_was]
@[simp] theorem Ledger.note_journal (l : Ledger) (id : Nat) : (l.note id).journal = l.journal := by rw [Ledger.note_was]
@[simp] theorem Ledger.note_slotPres (l : Ledger) (id : Nat) : (l.note id).slotPres = l.slotPres := by rw [Ledger.note_was]
@[simp] theorem Ledger.note_devPres (l : Ledger) (id : Nat) : (l.note id).devPres = l.devPres := by rw [Ledger.note_was]
@[simp] theorem Ledger.note_fpSlotPres (l : Ledger) (id : Nat) : (l.note id).fpSlotPres = l.fpSlotPres := by rw [Ledger.note_was]
@[simp] theorem Ledger.note_fpDevPres (l : Ledger) (id : Nat) : (l.note id).fpDevPres = l.fpDevPres := by rw [Ledger.note_was]
@[simp] theorem Ledger.note_epoch (l : Ledger) (id : Nat) : (l.note id).epoch = l.epoch := by rw [Ledger.note_was]
@[simp] theorem Ledger.note_pubEpoch (l : Ledger) (id : Nat) : (l.note id).pubEpoch = l.pubEpoch := by rw [Ledger.note_was]
@[simp] theorem Ledger.note_fpEpoch (l : Ledger) (id : Nat) : (l.note id).fpEpoch = l.fpEpoch := by rw [Ledger.note_was]
@[simp] theorem Ledger.note_snapEpoch (l : Ledger) (id : Nat) : (l.note id).snapEpoch = l.snapEpoch := by rw [Ledger.note_was]
@[simp] theorem Ledger.note_pinned (l : Ledger) (id : Nat) : (l.note id).pinned = l.pinned := by rw [Ledger.note_was]
@[simp] theorem Ledger.note_pinIf (l : Ledger) (id : Nat) : (l.note id).pinIf = l.pinIf := by rw [Ledger.note_was]
@[simp] theorem Ledger.note_pinLost (l : Ledger) (id : Nat) : (l.note id).pinLost = l.pinLost := by rw [Ledger.note_was]
@[simp] theorem Ledger.note_pinRelReq (l : Ledger) (id : Nat) : (l.note id).pinRelReq = l.pinRelReq := by rw [Ledger.note_was]
@[simp] theorem Ledger.note_pinCyc (l : Ledger) (id : Nat) : (l.note id).pinCyc = l.pinCyc := by rw [Ledger.note_was]
@[simp] theorem Ledger.note_catchUp (l : Ledger) (id : Nat) : (l.note id).catchUp = l.catchUp := by rw [Ledger.note_was]
@[simp] theorem Ledger.note_catchUpLen (l : Ledger) (id : Nat) : (l.note id).catchUpLen = l.catchUpLen := by rw [Ledger.note_was]
@[simp] theorem Ledger.note_relWaits (l : Ledger) (id : Nat) : (l.note id).relWaits = l.relWaits := by rw [Ledger.note_was]
@[simp] theorem Ledger.note_cmtNow (l : Ledger) (id : Nat) : (l.note id).cmtNow = l.cmtNow := by rw [Ledger.note_was]
@[simp] theorem Ledger.note_late (l : Ledger) (id : Nat) : (l.note id).late = l.late := by rw [Ledger.note_was]
@[simp] theorem Ledger.note_deferred (l : Ledger) (id : Nat) : (l.note id).deferred = l.deferred := by rw [Ledger.note_was]
@[simp] theorem Ledger.note_cmtLast (l : Ledger) (id : Nat) : (l.note id).cmtLast = l.cmtLast := by rw [Ledger.note_was]
@[simp] theorem Ledger.note_cmtPeak (l : Ledger) (id : Nat) : (l.note id).cmtPeak = l.cmtPeak := by rw [Ledger.note_was]
@[simp] theorem Ledger.put_cur (l : Ledger) (id : Nat) (e : Entry) : (l.put id e).cur = l.cur.set {} id e := by simp [Ledger.put]
@[simp] theorem Ledger.put_fp (l : Ledger) (id : Nat) (e : Entry) : (l.put id e).fp = l.fp := by simp [Ledger.put]
@[simp] theorem Ledger.put_journal (l : Ledger) (id : Nat) (e : Entry) : (l.put id e).journal = l.journal ++ [.entry l.epoch id e] := by simp [Ledger.put]
@[simp] theorem Ledger.put_slotPres (l : Ledger) (id : Nat) (e : Entry) : (l.put id e).slotPres = l.slotPres := by simp [Ledger.put]
@[simp] theorem Ledger.put_devPres (l : Ledger) (id : Nat) (e : Entry) : (l.put id e).devPres = l.devPres := by simp [Ledger.put]
@[simp] theorem Ledger.put_fpSlotPres (l : Ledger) (id : Nat) (e : Entry) : (l.put id e).fpSlotPres = l.fpSlotPres := by simp [Ledger.put]
@[simp] theorem Ledger.put_fpDevPres (l : Ledger) (id : Nat) (e : Entry) : (l.put id e).fpDevPres = l.fpDevPres := by simp [Ledger.put]
@[simp] theorem Ledger.put_epoch (l : Ledger) (id : Nat) (e : Entry) : (l.put id e).epoch = l.epoch := by simp [Ledger.put]
@[simp] theorem Ledger.put_pubEpoch (l : Ledger) (id : Nat) (e : Entry) : (l.put id e).pubEpoch = l.pubEpoch := by simp [Ledger.put]
@[simp] theorem Ledger.put_fpEpoch (l : Ledger) (id : Nat) (e : Entry) : (l.put id e).fpEpoch = l.fpEpoch := by simp [Ledger.put]
@[simp] theorem Ledger.put_snapEpoch (l : Ledger) (id : Nat) (e : Entry) : (l.put id e).snapEpoch = l.snapEpoch := by simp [Ledger.put]
@[simp] theorem Ledger.put_pinned (l : Ledger) (id : Nat) (e : Entry) : (l.put id e).pinned = l.pinned := by simp [Ledger.put]
@[simp] theorem Ledger.put_pinIf (l : Ledger) (id : Nat) (e : Entry) : (l.put id e).pinIf = l.pinIf := by simp [Ledger.put]
@[simp] theorem Ledger.put_pinLost (l : Ledger) (id : Nat) (e : Entry) : (l.put id e).pinLost = l.pinLost := by simp [Ledger.put]
@[simp] theorem Ledger.put_pinRelReq (l : Ledger) (id : Nat) (e : Entry) : (l.put id e).pinRelReq = l.pinRelReq := by simp [Ledger.put]
@[simp] theorem Ledger.put_pinCyc (l : Ledger) (id : Nat) (e : Entry) : (l.put id e).pinCyc = l.pinCyc := by simp [Ledger.put]
@[simp] theorem Ledger.put_catchUp (l : Ledger) (id : Nat) (e : Entry) : (l.put id e).catchUp = l.catchUp := by simp [Ledger.put]
@[simp] theorem Ledger.put_catchUpLen (l : Ledger) (id : Nat) (e : Entry) : (l.put id e).catchUpLen = l.catchUpLen := by simp [Ledger.put]
@[simp] theorem Ledger.put_relWaits (l : Ledger) (id : Nat) (e : Entry) : (l.put id e).relWaits = l.relWaits := by simp [Ledger.put]
@[simp] theorem Ledger.put_cmtNow (l : Ledger) (id : Nat) (e : Entry) : (l.put id e).cmtNow = l.cmtNow + 1 := by simp [Ledger.put]
@[simp] theorem Ledger.put_late (l : Ledger) (id : Nat) (e : Entry) : (l.put id e).late = l.late := by simp [Ledger.put]
@[simp] theorem Ledger.put_deferred (l : Ledger) (id : Nat) (e : Entry) : (l.put id e).deferred = l.deferred := by simp [Ledger.put]
@[simp] theorem Ledger.put_cmtLast (l : Ledger) (id : Nat) (e : Entry) : (l.put id e).cmtLast = l.cmtLast := by simp [Ledger.put]
@[simp] theorem Ledger.put_cmtPeak (l : Ledger) (id : Nat) (e : Entry) : (l.put id e).cmtPeak = l.cmtPeak := by simp [Ledger.put]
@[simp] theorem Ledger.defer_cur (l : Ledger) (d : Deferred) : (l.defer d).cur = l.cur := rfl
@[simp] theorem Ledger.defer_fp (l : Ledger) (d : Deferred) : (l.defer d).fp = l.fp := rfl
@[simp] theorem Ledger.defer_journal (l : Ledger) (d : Deferred) : (l.defer d).journal = l.journal := rfl
@[simp] theorem Ledger.defer_slotPres (l : Ledger) (d : Deferred) : (l.defer d).slotPres = l.slotPres := rfl
@[simp] theorem Ledger.defer_devPres (l : Ledger) (d : Deferred) : (l.defer d).devPres = l.devPres := rfl
@[simp] theorem Ledger.defer_fpSlotPres (l : Ledger) (d : Deferred) : (l.defer d).fpSlotPres = l.fpSlotPres := rfl
@[simp] theorem Ledger.defer_fpDevPres (l : Ledger) (d : Deferred) : (l.defer d).fpDevPres = l.fpDevPres := rfl
@[simp] theorem Ledger.defer_epoch (l : Ledger) (d : Deferred) : (l.defer d).epoch = l.epoch := rfl
@[simp] theorem Ledger.defer_pubEpoch (l : Ledger) (d : Deferred) : (l.defer d).pubEpoch = l.pubEpoch := rfl
@[simp] theorem Ledger.defer_fpEpoch (l : Ledger) (d : Deferred) : (l.defer d).fpEpoch = l.fpEpoch := rfl
@[simp] theorem Ledger.defer_snapEpoch (l : Ledger) (d : Deferred) : (l.defer d).snapEpoch = l.snapEpoch := rfl
@[simp] theorem Ledger.defer_pinned (l : Ledger) (d : Deferred) : (l.defer d).pinned = l.pinned := rfl
@[simp] theorem Ledger.defer_pinIf (l : Ledger) (d : Deferred) : (l.defer d).pinIf = l.pinIf := rfl
@[simp] theorem Ledger.defer_pinLost (l : Ledger) (d : Deferred) : (l.defer d).pinLost = l.pinLost := rfl
@[simp] theorem Ledger.defer_pinRelReq (l : Ledger) (d : Deferred) : (l.defer d).pinRelReq = l.pinRelReq := rfl
@[simp] theorem Ledger.defer_pinCyc (l : Ledger) (d : Deferred) : (l.defer d).pinCyc = l.pinCyc := rfl
@[simp] theorem Ledger.defer_catchUp (l : Ledger) (d : Deferred) : (l.defer d).catchUp = l.catchUp := rfl
@[simp] theorem Ledger.defer_catchUpLen (l : Ledger) (d : Deferred) : (l.defer d).catchUpLen = l.catchUpLen := rfl
@[simp] theorem Ledger.defer_relWaits (l : Ledger) (d : Deferred) : (l.defer d).relWaits = l.relWaits := rfl
@[simp] theorem Ledger.defer_cmtNow (l : Ledger) (d : Deferred) : (l.defer d).cmtNow = l.cmtNow := rfl
@[simp] theorem Ledger.defer_was (l : Ledger) (d : Deferred) : (l.defer d).was = l.was := rfl
@[simp] theorem Ledger.defer_late (l : Ledger) (d : Deferred) : (l.defer d).late = l.late ++ [d] := rfl
@[simp] theorem Ledger.defer_deferred (l : Ledger) (d : Deferred) : (l.defer d).deferred = l.deferred + 1 := rfl
@[simp] theorem Ledger.defer_cmtLast (l : Ledger) (d : Deferred) : (l.defer d).cmtLast = l.cmtLast := rfl
@[simp] theorem Ledger.defer_cmtPeak (l : Ledger) (d : Deferred) : (l.defer d).cmtPeak = l.cmtPeak := rfl

end Sys2Proof.Machine
end

