-- ==== Sys2Proof/Laws/Entries.lean ====
section
/-! SUPPORT. What each update of the state leaves in the entries that other blocks read: one lemma per accessor and update. -/

namespace Sys2Proof.Machine

variable (s : State)

@[simp] theorem State.modRail_phase_keep (k : Nat) (f : Rail → Rail) (j : Nat) : (s.modRail k f).phase j = s.phase j := rfl
@[simp] theorem State.modRail_switch_keep (k : Nat) (f : Rail → Rail) (j : Nat) : (s.modRail k f).switch j = s.switch j := rfl
@[simp] theorem State.modRail_group_keep (k : Nat) (f : Rail → Rail) (j : Nat) : (s.modRail k f).group j = s.group j := rfl
@[simp] theorem State.modRail_src_keep (k : Nat) (f : Rail → Rail) (j : Nat) : (s.modRail k f).src j = s.src j := rfl
@[simp] theorem State.modRail_evt_keep (k : Nat) (f : Rail → Rail) (j : Nat) : (s.modRail k f).evt j = s.evt j := rfl
@[simp] theorem State.modRail_policy_keep (k : Nat) (f : Rail → Rail) (j : Nat) : (s.modRail k f).policy j = s.policy j := rfl
@[simp] theorem State.modRail_loop_keep (k : Nat) (f : Rail → Rail) (j : Nat) : (s.modRail k f).loop j = s.loop j := rfl
@[simp] theorem State.modRail_loopSt_keep (k : Nat) (f : Rail → Rail) (j : Nat) : (s.modRail k f).loopSt j = s.loopSt j := rfl
@[simp] theorem State.modRail_trace_keep (k : Nat) (f : Rail → Rail) (j : Nat) : (s.modRail k f).trace j = s.trace j := rfl
@[simp] theorem State.modRail_wdg_keep (k : Nat) (f : Rail → Rail) (j : Nat) : (s.modRail k f).wdg j = s.wdg j := rfl
@[simp] theorem State.modRail_fdev_keep (k : Nat) (f : Rail → Rail) (j : Nat) : (s.modRail k f).fdev j = s.fdev j := rfl
@[simp] theorem State.modRail_eye_keep (k : Nat) (f : Rail → Rail) (j : Nat) : (s.modRail k f).eye j = s.eye j := rfl
@[simp] theorem State.modRail_slotRec_keep (k : Nat) (f : Rail → Rail) (j : Nat) : (s.modRail k f).slotRec j = s.slotRec j := rfl
@[simp] theorem State.modRail_aseq_keep (k : Nat) (f : Rail → Rail) (j : Nat) : (s.modRail k f).aseq j = s.aseq j := rfl
@[simp] theorem State.modRail_chanOf_keep (k : Nat) (f : Rail → Rail) (j : Nat) : (s.modRail k f).chanOf j = s.chanOf j := rfl
@[simp] theorem State.modRail_meter_keep (k : Nat) (f : Rail → Rail) (j : Nat) : (s.modRail k f).meter j = s.meter j := rfl
@[simp] theorem State.modRail_thmIn_keep (k : Nat) (f : Rail → Rail) (j : Nat) : (s.modRail k f).thmIn j = s.thmIn j := rfl
@[simp] theorem State.modRail_zoneOf_keep (k : Nat) (f : Rail → Rail) (j : Nat) : (s.modRail k f).zoneOf j = s.zoneOf j := rfl
@[simp] theorem State.modRail_rwWord_keep (k : Nat) (f : Rail → Rail) (j : Nat) : (s.modRail k f).rwWord j = s.rwWord j := rfl
@[simp] theorem State.modRail_stored_keep (k : Nat) (f : Rail → Rail) (j : Nat) : (s.modRail k f).stored j = s.stored j := rfl
@[simp] theorem State.modRail_st_keep (k : Nat) (f : Rail → Rail) (j : Nat) : (s.modRail k f).st j = s.st j := rfl
@[simp] theorem State.modRail_iface_keep (k : Nat) (f : Rail → Rail) (i : Iface) : (s.modRail k f).iface i = s.iface i := rfl
@[simp] theorem State.modRail_live (k : Nat) (f : Rail → Rail) : (s.modRail k f).live = s.live := rfl
@[simp] theorem State.modPhase_rail_keep (k : Nat) (f : Phase → Phase) (j : Nat) : (s.modPhase k f).rail j = s.rail j := rfl
@[simp] theorem State.modPhase_switch_keep (k : Nat) (f : Phase → Phase) (j : Nat) : (s.modPhase k f).switch j = s.switch j := rfl
@[simp] theorem State.modPhase_group_keep (k : Nat) (f : Phase → Phase) (j : Nat) : (s.modPhase k f).group j = s.group j := rfl
@[simp] theorem State.modPhase_src_keep (k : Nat) (f : Phase → Phase) (j : Nat) : (s.modPhase k f).src j = s.src j := rfl
@[simp] theorem State.modPhase_evt_keep (k : Nat) (f : Phase → Phase) (j : Nat) : (s.modPhase k f).evt j = s.evt j := rfl
@[simp] theorem State.modPhase_policy_keep (k : Nat) (f : Phase → Phase) (j : Nat) : (s.modPhase k f).policy j = s.policy j := rfl
@[simp] theorem State.modPhase_loop_keep (k : Nat) (f : Phase → Phase) (j : Nat) : (s.modPhase k f).loop j = s.loop j := rfl
@[simp] theorem State.modPhase_loopSt_keep (k : Nat) (f : Phase → Phase) (j : Nat) : (s.modPhase k f).loopSt j = s.loopSt j := rfl
@[simp] theorem State.modPhase_trace_keep (k : Nat) (f : Phase → Phase) (j : Nat) : (s.modPhase k f).trace j = s.trace j := rfl
@[simp] theorem State.modPhase_wdg_keep (k : Nat) (f : Phase → Phase) (j : Nat) : (s.modPhase k f).wdg j = s.wdg j := rfl
@[simp] theorem State.modPhase_fdev_keep (k : Nat) (f : Phase → Phase) (j : Nat) : (s.modPhase k f).fdev j = s.fdev j := rfl
@[simp] theorem State.modPhase_eye_keep (k : Nat) (f : Phase → Phase) (j : Nat) : (s.modPhase k f).eye j = s.eye j := rfl
@[simp] theorem State.modPhase_slotRec_keep (k : Nat) (f : Phase → Phase) (j : Nat) : (s.modPhase k f).slotRec j = s.slotRec j := rfl
@[simp] theorem State.modPhase_aseq_keep (k : Nat) (f : Phase → Phase) (j : Nat) : (s.modPhase k f).aseq j = s.aseq j := rfl
@[simp] theorem State.modPhase_chanOf_keep (k : Nat) (f : Phase → Phase) (j : Nat) : (s.modPhase k f).chanOf j = s.chanOf j := rfl
@[simp] theorem State.modPhase_meter_keep (k : Nat) (f : Phase → Phase) (j : Nat) : (s.modPhase k f).meter j = s.meter j := rfl
@[simp] theorem State.modPhase_thmIn_keep (k : Nat) (f : Phase → Phase) (j : Nat) : (s.modPhase k f).thmIn j = s.thmIn j := rfl
@[simp] theorem State.modPhase_zoneOf_keep (k : Nat) (f : Phase → Phase) (j : Nat) : (s.modPhase k f).zoneOf j = s.zoneOf j := rfl
@[simp] theorem State.modPhase_rwWord_keep (k : Nat) (f : Phase → Phase) (j : Nat) : (s.modPhase k f).rwWord j = s.rwWord j := rfl
@[simp] theorem State.modPhase_stored_keep (k : Nat) (f : Phase → Phase) (j : Nat) : (s.modPhase k f).stored j = s.stored j := rfl
@[simp] theorem State.modPhase_st_keep (k : Nat) (f : Phase → Phase) (j : Nat) : (s.modPhase k f).st j = s.st j := rfl
@[simp] theorem State.modPhase_iface_keep (k : Nat) (f : Phase → Phase) (i : Iface) : (s.modPhase k f).iface i = s.iface i := rfl
@[simp] theorem State.modPhase_live (k : Nat) (f : Phase → Phase) : (s.modPhase k f).live = s.live := rfl
@[simp] theorem State.modSwitch_rail_keep (k : Nat) (f : Switch → Switch) (j : Nat) : (s.modSwitch k f).rail j = s.rail j := rfl
@[simp] theorem State.modSwitch_phase_keep (k : Nat) (f : Switch → Switch) (j : Nat) : (s.modSwitch k f).phase j = s.phase j := rfl
@[simp] theorem State.modSwitch_group_keep (k : Nat) (f : Switch → Switch) (j : Nat) : (s.modSwitch k f).group j = s.group j := rfl
@[simp] theorem State.modSwitch_src_keep (k : Nat) (f : Switch → Switch) (j : Nat) : (s.modSwitch k f).src j = s.src j := rfl
@[simp] theorem State.modSwitch_evt_keep (k : Nat) (f : Switch → Switch) (j : Nat) : (s.modSwitch k f).evt j = s.evt j := rfl
@[simp] theorem State.modSwitch_policy_keep (k : Nat) (f : Switch → Switch) (j : Nat) : (s.modSwitch k f).policy j = s.policy j := rfl
@[simp] theorem State.modSwitch_loop_keep (k : Nat) (f : Switch → Switch) (j : Nat) : (s.modSwitch k f).loop j = s.loop j := rfl
@[simp] theorem State.modSwitch_loopSt_keep (k : Nat) (f : Switch → Switch) (j : Nat) : (s.modSwitch k f).loopSt j = s.loopSt j := rfl
@[simp] theorem State.modSwitch_trace_keep (k : Nat) (f : Switch → Switch) (j : Nat) : (s.modSwitch k f).trace j = s.trace j := rfl
@[simp] theorem State.modSwitch_wdg_keep (k : Nat) (f : Switch → Switch) (j : Nat) : (s.modSwitch k f).wdg j = s.wdg j := rfl
@[simp] theorem State.modSwitch_fdev_keep (k : Nat) (f : Switch → Switch) (j : Nat) : (s.modSwitch k f).fdev j = s.fdev j := rfl
@[simp] theorem State.modSwitch_eye_keep (k : Nat) (f : Switch → Switch) (j : Nat) : (s.modSwitch k f).eye j = s.eye j := rfl
@[simp] theorem State.modSwitch_slotRec_keep (k : Nat) (f : Switch → Switch) (j : Nat) : (s.modSwitch k f).slotRec j = s.slotRec j := rfl
@[simp] theorem State.modSwitch_aseq_keep (k : Nat) (f : Switch → Switch) (j : Nat) : (s.modSwitch k f).aseq j = s.aseq j := rfl
@[simp] theorem State.modSwitch_chanOf_keep (k : Nat) (f : Switch → Switch) (j : Nat) : (s.modSwitch k f).chanOf j = s.chanOf j := rfl
@[simp] theorem State.modSwitch_meter_keep (k : Nat) (f : Switch → Switch) (j : Nat) : (s.modSwitch k f).meter j = s.meter j := rfl
@[simp] theorem State.modSwitch_thmIn_keep (k : Nat) (f : Switch → Switch) (j : Nat) : (s.modSwitch k f).thmIn j = s.thmIn j := rfl
@[simp] theorem State.modSwitch_zoneOf_keep (k : Nat) (f : Switch → Switch) (j : Nat) : (s.modSwitch k f).zoneOf j = s.zoneOf j := rfl
@[simp] theorem State.modSwitch_rwWord_keep (k : Nat) (f : Switch → Switch) (j : Nat) : (s.modSwitch k f).rwWord j = s.rwWord j := rfl
@[simp] theorem State.modSwitch_stored_keep (k : Nat) (f : Switch → Switch) (j : Nat) : (s.modSwitch k f).stored j = s.stored j := rfl
@[simp] theorem State.modSwitch_st_keep (k : Nat) (f : Switch → Switch) (j : Nat) : (s.modSwitch k f).st j = s.st j := rfl
@[simp] theorem State.modSwitch_iface_keep (k : Nat) (f : Switch → Switch) (i : Iface) : (s.modSwitch k f).iface i = s.iface i := rfl
@[simp] theorem State.modSwitch_live (k : Nat) (f : Switch → Switch) : (s.modSwitch k f).live = s.live := rfl
@[simp] theorem State.modGroup_rail_keep (k : Nat) (f : Group → Group) (j : Nat) : (s.modGroup k f).rail j = s.rail j := rfl
@[simp] theorem State.modGroup_phase_keep (k : Nat) (f : Group → Group) (j : Nat) : (s.modGroup k f).phase j = s.phase j := rfl
@[simp] theorem State.modGroup_switch_keep (k : Nat) (f : Group → Group) (j : Nat) : (s.modGroup k f).switch j = s.switch j := rfl
@[simp] theorem State.modGroup_src_keep (k : Nat) (f : Group → Group) (j : Nat) : (s.modGroup k f).src j = s.src j := rfl
@[simp] theorem State.modGroup_evt_keep (k : Nat) (f : Group → Group) (j : Nat) : (s.modGroup k f).evt j = s.evt j := rfl
@[simp] theorem State.modGroup_policy_keep (k : Nat) (f : Group → Group) (j : Nat) : (s.modGroup k f).policy j = s.policy j := rfl
@[simp] theorem State.modGroup_loop_keep (k : Nat) (f : Group → Group) (j : Nat) : (s.modGroup k f).loop j = s.loop j := rfl
@[simp] theorem State.modGroup_loopSt_keep (k : Nat) (f : Group → Group) (j : Nat) : (s.modGroup k f).loopSt j = s.loopSt j := rfl
@[simp] theorem State.modGroup_trace_keep (k : Nat) (f : Group → Group) (j : Nat) : (s.modGroup k f).trace j = s.trace j := rfl
@[simp] theorem State.modGroup_wdg_keep (k : Nat) (f : Group → Group) (j : Nat) : (s.modGroup k f).wdg j = s.wdg j := rfl
@[simp] theorem State.modGroup_fdev_keep (k : Nat) (f : Group → Group) (j : Nat) : (s.modGroup k f).fdev j = s.fdev j := rfl
@[simp] theorem State.modGroup_eye_keep (k : Nat) (f : Group → Group) (j : Nat) : (s.modGroup k f).eye j = s.eye j := rfl
@[simp] theorem State.modGroup_slotRec_keep (k : Nat) (f : Group → Group) (j : Nat) : (s.modGroup k f).slotRec j = s.slotRec j := rfl
@[simp] theorem State.modGroup_aseq_keep (k : Nat) (f : Group → Group) (j : Nat) : (s.modGroup k f).aseq j = s.aseq j := rfl
@[simp] theorem State.modGroup_chanOf_keep (k : Nat) (f : Group → Group) (j : Nat) : (s.modGroup k f).chanOf j = s.chanOf j := rfl
@[simp] theorem State.modGroup_meter_keep (k : Nat) (f : Group → Group) (j : Nat) : (s.modGroup k f).meter j = s.meter j := rfl
@[simp] theorem State.modGroup_thmIn_keep (k : Nat) (f : Group → Group) (j : Nat) : (s.modGroup k f).thmIn j = s.thmIn j := rfl
@[simp] theorem State.modGroup_zoneOf_keep (k : Nat) (f : Group → Group) (j : Nat) : (s.modGroup k f).zoneOf j = s.zoneOf j := rfl
@[simp] theorem State.modGroup_rwWord_keep (k : Nat) (f : Group → Group) (j : Nat) : (s.modGroup k f).rwWord j = s.rwWord j := rfl
@[simp] theorem State.modGroup_stored_keep (k : Nat) (f : Group → Group) (j : Nat) : (s.modGroup k f).stored j = s.stored j := rfl
@[simp] theorem State.modGroup_st_keep (k : Nat) (f : Group → Group) (j : Nat) : (s.modGroup k f).st j = s.st j := rfl
@[simp] theorem State.modGroup_iface_keep (k : Nat) (f : Group → Group) (i : Iface) : (s.modGroup k f).iface i = s.iface i := rfl
@[simp] theorem State.modGroup_live (k : Nat) (f : Group → Group) : (s.modGroup k f).live = s.live := rfl
@[simp] theorem State.modSrc_rail_keep (k : Nat) (f : Source → Source) (j : Nat) : (s.modSrc k f).rail j = s.rail j := rfl
@[simp] theorem State.modSrc_phase_keep (k : Nat) (f : Source → Source) (j : Nat) : (s.modSrc k f).phase j = s.phase j := rfl
@[simp] theorem State.modSrc_switch_keep (k : Nat) (f : Source → Source) (j : Nat) : (s.modSrc k f).switch j = s.switch j := rfl
@[simp] theorem State.modSrc_group_keep (k : Nat) (f : Source → Source) (j : Nat) : (s.modSrc k f).group j = s.group j := rfl
@[simp] theorem State.modSrc_evt_keep (k : Nat) (f : Source → Source) (j : Nat) : (s.modSrc k f).evt j = s.evt j := rfl
@[simp] theorem State.modSrc_policy_keep (k : Nat) (f : Source → Source) (j : Nat) : (s.modSrc k f).policy j = s.policy j := rfl
@[simp] theorem State.modSrc_loop_keep (k : Nat) (f : Source → Source) (j : Nat) : (s.modSrc k f).loop j = s.loop j := rfl
@[simp] theorem State.modSrc_loopSt_keep (k : Nat) (f : Source → Source) (j : Nat) : (s.modSrc k f).loopSt j = s.loopSt j := rfl
@[simp] theorem State.modSrc_trace_keep (k : Nat) (f : Source → Source) (j : Nat) : (s.modSrc k f).trace j = s.trace j := rfl
@[simp] theorem State.modSrc_wdg_keep (k : Nat) (f : Source → Source) (j : Nat) : (s.modSrc k f).wdg j = s.wdg j := rfl
@[simp] theorem State.modSrc_fdev_keep (k : Nat) (f : Source → Source) (j : Nat) : (s.modSrc k f).fdev j = s.fdev j := rfl
@[simp] theorem State.modSrc_eye_keep (k : Nat) (f : Source → Source) (j : Nat) : (s.modSrc k f).eye j = s.eye j := rfl
@[simp] theorem State.modSrc_slotRec_keep (k : Nat) (f : Source → Source) (j : Nat) : (s.modSrc k f).slotRec j = s.slotRec j := rfl
@[simp] theorem State.modSrc_aseq_keep (k : Nat) (f : Source → Source) (j : Nat) : (s.modSrc k f).aseq j = s.aseq j := rfl
@[simp] theorem State.modSrc_chanOf_keep (k : Nat) (f : Source → Source) (j : Nat) : (s.modSrc k f).chanOf j = s.chanOf j := rfl
@[simp] theorem State.modSrc_meter_keep (k : Nat) (f : Source → Source) (j : Nat) : (s.modSrc k f).meter j = s.meter j := rfl
@[simp] theorem State.modSrc_thmIn_keep (k : Nat) (f : Source → Source) (j : Nat) : (s.modSrc k f).thmIn j = s.thmIn j := rfl
@[simp] theorem State.modSrc_zoneOf_keep (k : Nat) (f : Source → Source) (j : Nat) : (s.modSrc k f).zoneOf j = s.zoneOf j := rfl
@[simp] theorem State.modSrc_rwWord_keep (k : Nat) (f : Source → Source) (j : Nat) : (s.modSrc k f).rwWord j = s.rwWord j := rfl
@[simp] theorem State.modSrc_stored_keep (k : Nat) (f : Source → Source) (j : Nat) : (s.modSrc k f).stored j = s.stored j := rfl
@[simp] theorem State.modSrc_st_keep (k : Nat) (f : Source → Source) (j : Nat) : (s.modSrc k f).st j = s.st j := rfl
@[simp] theorem State.modSrc_iface_keep (k : Nat) (f : Source → Source) (i : Iface) : (s.modSrc k f).iface i = s.iface i := rfl
@[simp] theorem State.modSrc_live (k : Nat) (f : Source → Source) : (s.modSrc k f).live = s.live := rfl
@[simp] theorem State.modEvt_rail_keep (k : Nat) (f : Event → Event) (j : Nat) : (s.modEvt k f).rail j = s.rail j := rfl
@[simp] theorem State.modEvt_phase_keep (k : Nat) (f : Event → Event) (j : Nat) : (s.modEvt k f).phase j = s.phase j := rfl
@[simp] theorem State.modEvt_switch_keep (k : Nat) (f : Event → Event) (j : Nat) : (s.modEvt k f).switch j = s.switch j := rfl
@[simp] theorem State.modEvt_group_keep (k : Nat) (f : Event → Event) (j : Nat) : (s.modEvt k f).group j = s.group j := rfl
@[simp] theorem State.modEvt_src_keep (k : Nat) (f : Event → Event) (j : Nat) : (s.modEvt k f).src j = s.src j := rfl
@[simp] theorem State.modEvt_policy_keep (k : Nat) (f : Event → Event) (j : Nat) : (s.modEvt k f).policy j = s.policy j := rfl
@[simp] theorem State.modEvt_loop_keep (k : Nat) (f : Event → Event) (j : Nat) : (s.modEvt k f).loop j = s.loop j := rfl
@[simp] theorem State.modEvt_loopSt_keep (k : Nat) (f : Event → Event) (j : Nat) : (s.modEvt k f).loopSt j = s.loopSt j := rfl
@[simp] theorem State.modEvt_trace_keep (k : Nat) (f : Event → Event) (j : Nat) : (s.modEvt k f).trace j = s.trace j := rfl
@[simp] theorem State.modEvt_wdg_keep (k : Nat) (f : Event → Event) (j : Nat) : (s.modEvt k f).wdg j = s.wdg j := rfl
@[simp] theorem State.modEvt_fdev_keep (k : Nat) (f : Event → Event) (j : Nat) : (s.modEvt k f).fdev j = s.fdev j := rfl
@[simp] theorem State.modEvt_eye_keep (k : Nat) (f : Event → Event) (j : Nat) : (s.modEvt k f).eye j = s.eye j := rfl
@[simp] theorem State.modEvt_slotRec_keep (k : Nat) (f : Event → Event) (j : Nat) : (s.modEvt k f).slotRec j = s.slotRec j := rfl
@[simp] theorem State.modEvt_aseq_keep (k : Nat) (f : Event → Event) (j : Nat) : (s.modEvt k f).aseq j = s.aseq j := rfl
@[simp] theorem State.modEvt_chanOf_keep (k : Nat) (f : Event → Event) (j : Nat) : (s.modEvt k f).chanOf j = s.chanOf j := rfl
@[simp] theorem State.modEvt_meter_keep (k : Nat) (f : Event → Event) (j : Nat) : (s.modEvt k f).meter j = s.meter j := rfl
@[simp] theorem State.modEvt_thmIn_keep (k : Nat) (f : Event → Event) (j : Nat) : (s.modEvt k f).thmIn j = s.thmIn j := rfl
@[simp] theorem State.modEvt_zoneOf_keep (k : Nat) (f : Event → Event) (j : Nat) : (s.modEvt k f).zoneOf j = s.zoneOf j := rfl
@[simp] theorem State.modEvt_rwWord_keep (k : Nat) (f : Event → Event) (j : Nat) : (s.modEvt k f).rwWord j = s.rwWord j := rfl
@[simp] theorem State.modEvt_stored_keep (k : Nat) (f : Event → Event) (j : Nat) : (s.modEvt k f).stored j = s.stored j := rfl
@[simp] theorem State.modEvt_st_keep (k : Nat) (f : Event → Event) (j : Nat) : (s.modEvt k f).st j = s.st j := rfl
@[simp] theorem State.modEvt_iface_keep (k : Nat) (f : Event → Event) (i : Iface) : (s.modEvt k f).iface i = s.iface i := rfl
@[simp] theorem State.modEvt_live (k : Nat) (f : Event → Event) : (s.modEvt k f).live = s.live := rfl
@[simp] theorem State.modPolicy_rail_keep (k : Nat) (f : Policy → Policy) (j : Nat) : (s.modPolicy k f).rail j = s.rail j := rfl
@[simp] theorem State.modPolicy_phase_keep (k : Nat) (f : Policy → Policy) (j : Nat) : (s.modPolicy k f).phase j = s.phase j := rfl
@[simp] theorem State.modPolicy_switch_keep (k : Nat) (f : Policy → Policy) (j : Nat) : (s.modPolicy k f).switch j = s.switch j := rfl
@[simp] theorem State.modPolicy_group_keep (k : Nat) (f : Policy → Policy) (j : Nat) : (s.modPolicy k f).group j = s.group j := rfl
@[simp] theorem State.modPolicy_src_keep (k : Nat) (f : Policy → Policy) (j : Nat) : (s.modPolicy k f).src j = s.src j := rfl
@[simp] theorem State.modPolicy_evt_keep (k : Nat) (f : Policy → Policy) (j : Nat) : (s.modPolicy k f).evt j = s.evt j := rfl
@[simp] theorem State.modPolicy_loop_keep (k : Nat) (f : Policy → Policy) (j : Nat) : (s.modPolicy k f).loop j = s.loop j := rfl
@[simp] theorem State.modPolicy_loopSt_keep (k : Nat) (f : Policy → Policy) (j : Nat) : (s.modPolicy k f).loopSt j = s.loopSt j := rfl
@[simp] theorem State.modPolicy_trace_keep (k : Nat) (f : Policy → Policy) (j : Nat) : (s.modPolicy k f).trace j = s.trace j := rfl
@[simp] theorem State.modPolicy_wdg_keep (k : Nat) (f : Policy → Policy) (j : Nat) : (s.modPolicy k f).wdg j = s.wdg j := rfl
@[simp] theorem State.modPolicy_fdev_keep (k : Nat) (f : Policy → Policy) (j : Nat) : (s.modPolicy k f).fdev j = s.fdev j := rfl
@[simp] theorem State.modPolicy_eye_keep (k : Nat) (f : Policy → Policy) (j : Nat) : (s.modPolicy k f).eye j = s.eye j := rfl
@[simp] theorem State.modPolicy_slotRec_keep (k : Nat) (f : Policy → Policy) (j : Nat) : (s.modPolicy k f).slotRec j = s.slotRec j := rfl
@[simp] theorem State.modPolicy_aseq_keep (k : Nat) (f : Policy → Policy) (j : Nat) : (s.modPolicy k f).aseq j = s.aseq j := rfl
@[simp] theorem State.modPolicy_chanOf_keep (k : Nat) (f : Policy → Policy) (j : Nat) : (s.modPolicy k f).chanOf j = s.chanOf j := rfl
@[simp] theorem State.modPolicy_meter_keep (k : Nat) (f : Policy → Policy) (j : Nat) : (s.modPolicy k f).meter j = s.meter j := rfl
@[simp] theorem State.modPolicy_thmIn_keep (k : Nat) (f : Policy → Policy) (j : Nat) : (s.modPolicy k f).thmIn j = s.thmIn j := rfl
@[simp] theorem State.modPolicy_zoneOf_keep (k : Nat) (f : Policy → Policy) (j : Nat) : (s.modPolicy k f).zoneOf j = s.zoneOf j := rfl
@[simp] theorem State.modPolicy_rwWord_keep (k : Nat) (f : Policy → Policy) (j : Nat) : (s.modPolicy k f).rwWord j = s.rwWord j := rfl
@[simp] theorem State.modPolicy_stored_keep (k : Nat) (f : Policy → Policy) (j : Nat) : (s.modPolicy k f).stored j = s.stored j := rfl
@[simp] theorem State.modPolicy_st_keep (k : Nat) (f : Policy → Policy) (j : Nat) : (s.modPolicy k f).st j = s.st j := rfl
@[simp] theorem State.modPolicy_iface_keep (k : Nat) (f : Policy → Policy) (i : Iface) : (s.modPolicy k f).iface i = s.iface i := rfl
@[simp] theorem State.modPolicy_live (k : Nat) (f : Policy → Policy) : (s.modPolicy k f).live = s.live := rfl
@[simp] theorem State.modLoop_rail_keep (k : Nat) (f : Loop → Loop) (j : Nat) : (s.modLoop k f).rail j = s.rail j := rfl
@[simp] theorem State.modLoop_phase_keep (k : Nat) (f : Loop → Loop) (j : Nat) : (s.modLoop k f).phase j = s.phase j := rfl
@[simp] theorem State.modLoop_switch_keep (k : Nat) (f : Loop → Loop) (j : Nat) : (s.modLoop k f).switch j = s.switch j := rfl
@[simp] theorem State.modLoop_group_keep (k : Nat) (f : Loop → Loop) (j : Nat) : (s.modLoop k f).group j = s.group j := rfl
@[simp] theorem State.modLoop_src_keep (k : Nat) (f : Loop → Loop) (j : Nat) : (s.modLoop k f).src j = s.src j := rfl
@[simp] theorem State.modLoop_evt_keep (k : Nat) (f : Loop → Loop) (j : Nat) : (s.modLoop k f).evt j = s.evt j := rfl
@[simp] theorem State.modLoop_policy_keep (k : Nat) (f : Loop → Loop) (j : Nat) : (s.modLoop k f).policy j = s.policy j := rfl
@[simp] theorem State.modLoop_loopSt_keep (k : Nat) (f : Loop → Loop) (j : Nat) : (s.modLoop k f).loopSt j = s.loopSt j := rfl
@[simp] theorem State.modLoop_trace_keep (k : Nat) (f : Loop → Loop) (j : Nat) : (s.modLoop k f).trace j = s.trace j := rfl
@[simp] theorem State.modLoop_wdg_keep (k : Nat) (f : Loop → Loop) (j : Nat) : (s.modLoop k f).wdg j = s.wdg j := rfl
@[simp] theorem State.modLoop_fdev_keep (k : Nat) (f : Loop → Loop) (j : Nat) : (s.modLoop k f).fdev j = s.fdev j := rfl
@[simp] theorem State.modLoop_eye_keep (k : Nat) (f : Loop → Loop) (j : Nat) : (s.modLoop k f).eye j = s.eye j := rfl
@[simp] theorem State.modLoop_slotRec_keep (k : Nat) (f : Loop → Loop) (j : Nat) : (s.modLoop k f).slotRec j = s.slotRec j := rfl
@[simp] theorem State.modLoop_aseq_keep (k : Nat) (f : Loop → Loop) (j : Nat) : (s.modLoop k f).aseq j = s.aseq j := rfl
@[simp] theorem State.modLoop_chanOf_keep (k : Nat) (f : Loop → Loop) (j : Nat) : (s.modLoop k f).chanOf j = s.chanOf j := rfl
@[simp] theorem State.modLoop_meter_keep (k : Nat) (f : Loop → Loop) (j : Nat) : (s.modLoop k f).meter j = s.meter j := rfl
@[simp] theorem State.modLoop_thmIn_keep (k : Nat) (f : Loop → Loop) (j : Nat) : (s.modLoop k f).thmIn j = s.thmIn j := rfl
@[simp] theorem State.modLoop_zoneOf_keep (k : Nat) (f : Loop → Loop) (j : Nat) : (s.modLoop k f).zoneOf j = s.zoneOf j := rfl
@[simp] theorem State.modLoop_rwWord_keep (k : Nat) (f : Loop → Loop) (j : Nat) : (s.modLoop k f).rwWord j = s.rwWord j := rfl
@[simp] theorem State.modLoop_stored_keep (k : Nat) (f : Loop → Loop) (j : Nat) : (s.modLoop k f).stored j = s.stored j := rfl
@[simp] theorem State.modLoop_st_keep (k : Nat) (f : Loop → Loop) (j : Nat) : (s.modLoop k f).st j = s.st j := rfl
@[simp] theorem State.modLoop_iface_keep (k : Nat) (f : Loop → Loop) (i : Iface) : (s.modLoop k f).iface i = s.iface i := rfl
@[simp] theorem State.modLoop_live (k : Nat) (f : Loop → Loop) : (s.modLoop k f).live = s.live := rfl
@[simp] theorem State.modLoopSt_rail_keep (k : Nat) (f : LoopSt → LoopSt) (j : Nat) : (s.modLoopSt k f).rail j = s.rail j := rfl
@[simp] theorem State.modLoopSt_phase_keep (k : Nat) (f : LoopSt → LoopSt) (j : Nat) : (s.modLoopSt k f).phase j = s.phase j := rfl
@[simp] theorem State.modLoopSt_switch_keep (k : Nat) (f : LoopSt → LoopSt) (j : Nat) : (s.modLoopSt k f).switch j = s.switch j := rfl
@[simp] theorem State.modLoopSt_group_keep (k : Nat) (f : LoopSt → LoopSt) (j : Nat) : (s.modLoopSt k f).group j = s.group j := rfl
@[simp] theorem State.modLoopSt_src_keep (k : Nat) (f : LoopSt → LoopSt) (j : Nat) : (s.modLoopSt k f).src j = s.src j := rfl
@[simp] theorem State.modLoopSt_evt_keep (k : Nat) (f : LoopSt → LoopSt) (j : Nat) : (s.modLoopSt k f).evt j = s.evt j := rfl
@[simp] theorem State.modLoopSt_policy_keep (k : Nat) (f : LoopSt → LoopSt) (j : Nat) : (s.modLoopSt k f).policy j = s.policy j := rfl
@[simp] theorem State.modLoopSt_loop_keep (k : Nat) (f : LoopSt → LoopSt) (j : Nat) : (s.modLoopSt k f).loop j = s.loop j := rfl
@[simp] theorem State.modLoopSt_trace_keep (k : Nat) (f : LoopSt → LoopSt) (j : Nat) : (s.modLoopSt k f).trace j = s.trace j := rfl
@[simp] theorem State.modLoopSt_wdg_keep (k : Nat) (f : LoopSt → LoopSt) (j : Nat) : (s.modLoopSt k f).wdg j = s.wdg j := rfl
@[simp] theorem State.modLoopSt_fdev_keep (k : Nat) (f : LoopSt → LoopSt) (j : Nat) : (s.modLoopSt k f).fdev j = s.fdev j := rfl
@[simp] theorem State.modLoopSt_eye_keep (k : Nat) (f : LoopSt → LoopSt) (j : Nat) : (s.modLoopSt k f).eye j = s.eye j := rfl
@[simp] theorem State.modLoopSt_slotRec_keep (k : Nat) (f : LoopSt → LoopSt) (j : Nat) : (s.modLoopSt k f).slotRec j = s.slotRec j := rfl
@[simp] theorem State.modLoopSt_aseq_keep (k : Nat) (f : LoopSt → LoopSt) (j : Nat) : (s.modLoopSt k f).aseq j = s.aseq j := rfl
@[simp] theorem State.modLoopSt_chanOf_keep (k : Nat) (f : LoopSt → LoopSt) (j : Nat) : (s.modLoopSt k f).chanOf j = s.chanOf j := rfl
@[simp] theorem State.modLoopSt_meter_keep (k : Nat) (f : LoopSt → LoopSt) (j : Nat) : (s.modLoopSt k f).meter j = s.meter j := rfl
@[simp] theorem State.modLoopSt_thmIn_keep (k : Nat) (f : LoopSt → LoopSt) (j : Nat) : (s.modLoopSt k f).thmIn j = s.thmIn j := rfl
@[simp] theorem State.modLoopSt_zoneOf_keep (k : Nat) (f : LoopSt → LoopSt) (j : Nat) : (s.modLoopSt k f).zoneOf j = s.zoneOf j := rfl
@[simp] theorem State.modLoopSt_rwWord_keep (k : Nat) (f : LoopSt → LoopSt) (j : Nat) : (s.modLoopSt k f).rwWord j = s.rwWord j := rfl
@[simp] theorem State.modLoopSt_stored_keep (k : Nat) (f : LoopSt → LoopSt) (j : Nat) : (s.modLoopSt k f).stored j = s.stored j := rfl
@[simp] theorem State.modLoopSt_st_keep (k : Nat) (f : LoopSt → LoopSt) (j : Nat) : (s.modLoopSt k f).st j = s.st j := rfl
@[simp] theorem State.modLoopSt_iface_keep (k : Nat) (f : LoopSt → LoopSt) (i : Iface) : (s.modLoopSt k f).iface i = s.iface i := rfl
@[simp] theorem State.modLoopSt_live (k : Nat) (f : LoopSt → LoopSt) : (s.modLoopSt k f).live = s.live := rfl
@[simp] theorem State.modTrace_rail_keep (k : Nat) (f : Trace → Trace) (j : Nat) : (s.modTrace k f).rail j = s.rail j := rfl
@[simp] theorem State.modTrace_phase_keep (k : Nat) (f : Trace → Trace) (j : Nat) : (s.modTrace k f).phase j = s.phase j := rfl
@[simp] theorem State.modTrace_switch_keep (k : Nat) (f : Trace → Trace) (j : Nat) : (s.modTrace k f).switch j = s.switch j := rfl
@[simp] theorem State.modTrace_group_keep (k : Nat) (f : Trace → Trace) (j : Nat) : (s.modTrace k f).group j = s.group j := rfl
@[simp] theorem State.modTrace_src_keep (k : Nat) (f : Trace → Trace) (j : Nat) : (s.modTrace k f).src j = s.src j := rfl
@[simp] theorem State.modTrace_evt_keep (k : Nat) (f : Trace → Trace) (j : Nat) : (s.modTrace k f).evt j = s.evt j := rfl
@[simp] theorem State.modTrace_policy_keep (k : Nat) (f : Trace → Trace) (j : Nat) : (s.modTrace k f).policy j = s.policy j := rfl
@[simp] theorem State.modTrace_loop_keep (k : Nat) (f : Trace → Trace) (j : Nat) : (s.modTrace k f).loop j = s.loop j := rfl
@[simp] theorem State.modTrace_loopSt_keep (k : Nat) (f : Trace → Trace) (j : Nat) : (s.modTrace k f).loopSt j = s.loopSt j := rfl
@[simp] theorem State.modTrace_wdg_keep (k : Nat) (f : Trace → Trace) (j : Nat) : (s.modTrace k f).wdg j = s.wdg j := rfl
@[simp] theorem State.modTrace_fdev_keep (k : Nat) (f : Trace → Trace) (j : Nat) : (s.modTrace k f).fdev j = s.fdev j := rfl
@[simp] theorem State.modTrace_eye_keep (k : Nat) (f : Trace → Trace) (j : Nat) : (s.modTrace k f).eye j = s.eye j := rfl
@[simp] theorem State.modTrace_slotRec_keep (k : Nat) (f : Trace → Trace) (j : Nat) : (s.modTrace k f).slotRec j = s.slotRec j := rfl
@[simp] theorem State.modTrace_aseq_keep (k : Nat) (f : Trace → Trace) (j : Nat) : (s.modTrace k f).aseq j = s.aseq j := rfl
@[simp] theorem State.modTrace_chanOf_keep (k : Nat) (f : Trace → Trace) (j : Nat) : (s.modTrace k f).chanOf j = s.chanOf j := rfl
@[simp] theorem State.modTrace_meter_keep (k : Nat) (f : Trace → Trace) (j : Nat) : (s.modTrace k f).meter j = s.meter j := rfl
@[simp] theorem State.modTrace_thmIn_keep (k : Nat) (f : Trace → Trace) (j : Nat) : (s.modTrace k f).thmIn j = s.thmIn j := rfl
@[simp] theorem State.modTrace_zoneOf_keep (k : Nat) (f : Trace → Trace) (j : Nat) : (s.modTrace k f).zoneOf j = s.zoneOf j := rfl
@[simp] theorem State.modTrace_rwWord_keep (k : Nat) (f : Trace → Trace) (j : Nat) : (s.modTrace k f).rwWord j = s.rwWord j := rfl
@[simp] theorem State.modTrace_stored_keep (k : Nat) (f : Trace → Trace) (j : Nat) : (s.modTrace k f).stored j = s.stored j := rfl
@[simp] theorem State.modTrace_st_keep (k : Nat) (f : Trace → Trace) (j : Nat) : (s.modTrace k f).st j = s.st j := rfl
@[simp] theorem State.modTrace_iface_keep (k : Nat) (f : Trace → Trace) (i : Iface) : (s.modTrace k f).iface i = s.iface i := rfl
@[simp] theorem State.modTrace_live (k : Nat) (f : Trace → Trace) : (s.modTrace k f).live = s.live := rfl
@[simp] theorem State.modWdg_rail_keep (k : Nat) (f : Wdg → Wdg) (j : Nat) : (s.modWdg k f).rail j = s.rail j := rfl
@[simp] theorem State.modWdg_phase_keep (k : Nat) (f : Wdg → Wdg) (j : Nat) : (s.modWdg k f).phase j = s.phase j := rfl
@[simp] theorem State.modWdg_switch_keep (k : Nat) (f : Wdg → Wdg) (j : Nat) : (s.modWdg k f).switch j = s.switch j := rfl
@[simp] theorem State.modWdg_group_keep (k : Nat) (f : Wdg → Wdg) (j : Nat) : (s.modWdg k f).group j = s.group j := rfl
@[simp] theorem State.modWdg_src_keep (k : Nat) (f : Wdg → Wdg) (j : Nat) : (s.modWdg k f).src j = s.src j := rfl
@[simp] theorem State.modWdg_evt_keep (k : Nat) (f : Wdg → Wdg) (j : Nat) : (s.modWdg k f).evt j = s.evt j := rfl
@[simp] theorem State.modWdg_policy_keep (k : Nat) (f : Wdg → Wdg) (j : Nat) : (s.modWdg k f).policy j = s.policy j := rfl
@[simp] theorem State.modWdg_loop_keep (k : Nat) (f : Wdg → Wdg) (j : Nat) : (s.modWdg k f).loop j = s.loop j := rfl
@[simp] theorem State.modWdg_loopSt_keep (k : Nat) (f : Wdg → Wdg) (j : Nat) : (s.modWdg k f).loopSt j = s.loopSt j := rfl
@[simp] theorem State.modWdg_trace_keep (k : Nat) (f : Wdg → Wdg) (j : Nat) : (s.modWdg k f).trace j = s.trace j := rfl
@[simp] theorem State.modWdg_fdev_keep (k : Nat) (f : Wdg → Wdg) (j : Nat) : (s.modWdg k f).fdev j = s.fdev j := rfl
@[simp] theorem State.modWdg_eye_keep (k : Nat) (f : Wdg → Wdg) (j : Nat) : (s.modWdg k f).eye j = s.eye j := rfl
@[simp] theorem State.modWdg_slotRec_keep (k : Nat) (f : Wdg → Wdg) (j : Nat) : (s.modWdg k f).slotRec j = s.slotRec j := rfl
@[simp] theorem State.modWdg_aseq_keep (k : Nat) (f : Wdg → Wdg) (j : Nat) : (s.modWdg k f).aseq j = s.aseq j := rfl
@[simp] theorem State.modWdg_chanOf_keep (k : Nat) (f : Wdg → Wdg) (j : Nat) : (s.modWdg k f).chanOf j = s.chanOf j := rfl
@[simp] theorem State.modWdg_meter_keep (k : Nat) (f : Wdg → Wdg) (j : Nat) : (s.modWdg k f).meter j = s.meter j := rfl
@[simp] theorem State.modWdg_thmIn_keep (k : Nat) (f : Wdg → Wdg) (j : Nat) : (s.modWdg k f).thmIn j = s.thmIn j := rfl
@[simp] theorem State.modWdg_zoneOf_keep (k : Nat) (f : Wdg → Wdg) (j : Nat) : (s.modWdg k f).zoneOf j = s.zoneOf j := rfl
@[simp] theorem State.modWdg_rwWord_keep (k : Nat) (f : Wdg → Wdg) (j : Nat) : (s.modWdg k f).rwWord j = s.rwWord j := rfl
@[simp] theorem State.modWdg_stored_keep (k : Nat) (f : Wdg → Wdg) (j : Nat) : (s.modWdg k f).stored j = s.stored j := rfl
@[simp] theorem State.modWdg_st_keep (k : Nat) (f : Wdg → Wdg) (j : Nat) : (s.modWdg k f).st j = s.st j := rfl
@[simp] theorem State.modWdg_iface_keep (k : Nat) (f : Wdg → Wdg) (i : Iface) : (s.modWdg k f).iface i = s.iface i := rfl
@[simp] theorem State.modWdg_live (k : Nat) (f : Wdg → Wdg) : (s.modWdg k f).live = s.live := rfl
@[simp] theorem State.modFdev_rail_keep (k : Nat) (f : Foreign → Foreign) (j : Nat) : (s.modFdev k f).rail j = s.rail j := rfl
@[simp] theorem State.modFdev_phase_keep (k : Nat) (f : Foreign → Foreign) (j : Nat) : (s.modFdev k f).phase j = s.phase j := rfl
@[simp] theorem State.modFdev_switch_keep (k : Nat) (f : Foreign → Foreign) (j : Nat) : (s.modFdev k f).switch j = s.switch j := rfl
@[simp] theorem State.modFdev_group_keep (k : Nat) (f : Foreign → Foreign) (j : Nat) : (s.modFdev k f).group j = s.group j := rfl
@[simp] theorem State.modFdev_src_keep (k : Nat) (f : Foreign → Foreign) (j : Nat) : (s.modFdev k f).src j = s.src j := rfl
@[simp] theorem State.modFdev_evt_keep (k : Nat) (f : Foreign → Foreign) (j : Nat) : (s.modFdev k f).evt j = s.evt j := rfl
@[simp] theorem State.modFdev_policy_keep (k : Nat) (f : Foreign → Foreign) (j : Nat) : (s.modFdev k f).policy j = s.policy j := rfl
@[simp] theorem State.modFdev_loop_keep (k : Nat) (f : Foreign → Foreign) (j : Nat) : (s.modFdev k f).loop j = s.loop j := rfl
@[simp] theorem State.modFdev_loopSt_keep (k : Nat) (f : Foreign → Foreign) (j : Nat) : (s.modFdev k f).loopSt j = s.loopSt j := rfl
@[simp] theorem State.modFdev_trace_keep (k : Nat) (f : Foreign → Foreign) (j : Nat) : (s.modFdev k f).trace j = s.trace j := rfl
@[simp] theorem State.modFdev_wdg_keep (k : Nat) (f : Foreign → Foreign) (j : Nat) : (s.modFdev k f).wdg j = s.wdg j := rfl
@[simp] theorem State.modFdev_eye_keep (k : Nat) (f : Foreign → Foreign) (j : Nat) : (s.modFdev k f).eye j = s.eye j := rfl
@[simp] theorem State.modFdev_slotRec_keep (k : Nat) (f : Foreign → Foreign) (j : Nat) : (s.modFdev k f).slotRec j = s.slotRec j := rfl
@[simp] theorem State.modFdev_aseq_keep (k : Nat) (f : Foreign → Foreign) (j : Nat) : (s.modFdev k f).aseq j = s.aseq j := rfl
@[simp] theorem State.modFdev_chanOf_keep (k : Nat) (f : Foreign → Foreign) (j : Nat) : (s.modFdev k f).chanOf j = s.chanOf j := rfl
@[simp] theorem State.modFdev_meter_keep (k : Nat) (f : Foreign → Foreign) (j : Nat) : (s.modFdev k f).meter j = s.meter j := rfl
@[simp] theorem State.modFdev_thmIn_keep (k : Nat) (f : Foreign → Foreign) (j : Nat) : (s.modFdev k f).thmIn j = s.thmIn j := rfl
@[simp] theorem State.modFdev_zoneOf_keep (k : Nat) (f : Foreign → Foreign) (j : Nat) : (s.modFdev k f).zoneOf j = s.zoneOf j := rfl
@[simp] theorem State.modFdev_rwWord_keep (k : Nat) (f : Foreign → Foreign) (j : Nat) : (s.modFdev k f).rwWord j = s.rwWord j := rfl
@[simp] theorem State.modFdev_stored_keep (k : Nat) (f : Foreign → Foreign) (j : Nat) : (s.modFdev k f).stored j = s.stored j := rfl
@[simp] theorem State.modFdev_st_keep (k : Nat) (f : Foreign → Foreign) (j : Nat) : (s.modFdev k f).st j = s.st j := rfl
@[simp] theorem State.modFdev_iface_keep (k : Nat) (f : Foreign → Foreign) (i : Iface) : (s.modFdev k f).iface i = s.iface i := rfl
@[simp] theorem State.modFdev_live (k : Nat) (f : Foreign → Foreign) : (s.modFdev k f).live = s.live := rfl
@[simp] theorem State.modEye_rail_keep (k : Nat) (f : Eyelet → Eyelet) (j : Nat) : (s.modEye k f).rail j = s.rail j := rfl
@[simp] theorem State.modEye_phase_keep (k : Nat) (f : Eyelet → Eyelet) (j : Nat) : (s.modEye k f).phase j = s.phase j := rfl
@[simp] theorem State.modEye_switch_keep (k : Nat) (f : Eyelet → Eyelet) (j : Nat) : (s.modEye k f).switch j = s.switch j := rfl
@[simp] theorem State.modEye_group_keep (k : Nat) (f : Eyelet → Eyelet) (j : Nat) : (s.modEye k f).group j = s.group j := rfl
@[simp] theorem State.modEye_src_keep (k : Nat) (f : Eyelet → Eyelet) (j : Nat) : (s.modEye k f).src j = s.src j := rfl
@[simp] theorem State.modEye_evt_keep (k : Nat) (f : Eyelet → Eyelet) (j : Nat) : (s.modEye k f).evt j = s.evt j := rfl
@[simp] theorem State.modEye_policy_keep (k : Nat) (f : Eyelet → Eyelet) (j : Nat) : (s.modEye k f).policy j = s.policy j := rfl
@[simp] theorem State.modEye_loop_keep (k : Nat) (f : Eyelet → Eyelet) (j : Nat) : (s.modEye k f).loop j = s.loop j := rfl
@[simp] theorem State.modEye_loopSt_keep (k : Nat) (f : Eyelet → Eyelet) (j : Nat) : (s.modEye k f).loopSt j = s.loopSt j := rfl
@[simp] theorem State.modEye_trace_keep (k : Nat) (f : Eyelet → Eyelet) (j : Nat) : (s.modEye k f).trace j = s.trace j := rfl
@[simp] theorem State.modEye_wdg_keep (k : Nat) (f : Eyelet → Eyelet) (j : Nat) : (s.modEye k f).wdg j = s.wdg j := rfl
@[simp] theorem State.modEye_fdev_keep (k : Nat) (f : Eyelet → Eyelet) (j : Nat) : (s.modEye k f).fdev j = s.fdev j := rfl
@[simp] theorem State.modEye_aseq_keep (k : Nat) (f : Eyelet → Eyelet) (j : Nat) : (s.modEye k f).aseq j = s.aseq j := rfl
@[simp] theorem State.modEye_chanOf_keep (k : Nat) (f : Eyelet → Eyelet) (j : Nat) : (s.modEye k f).chanOf j = s.chanOf j := rfl
@[simp] theorem State.modEye_meter_keep (k : Nat) (f : Eyelet → Eyelet) (j : Nat) : (s.modEye k f).meter j = s.meter j := rfl
@[simp] theorem State.modEye_thmIn_keep (k : Nat) (f : Eyelet → Eyelet) (j : Nat) : (s.modEye k f).thmIn j = s.thmIn j := rfl
@[simp] theorem State.modEye_zoneOf_keep (k : Nat) (f : Eyelet → Eyelet) (j : Nat) : (s.modEye k f).zoneOf j = s.zoneOf j := rfl
@[simp] theorem State.modEye_rwWord_keep (k : Nat) (f : Eyelet → Eyelet) (j : Nat) : (s.modEye k f).rwWord j = s.rwWord j := rfl
@[simp] theorem State.modEye_stored_keep (k : Nat) (f : Eyelet → Eyelet) (j : Nat) : (s.modEye k f).stored j = s.stored j := rfl
@[simp] theorem State.modEye_st_keep (k : Nat) (f : Eyelet → Eyelet) (j : Nat) : (s.modEye k f).st j = s.st j := rfl
@[simp] theorem State.modEye_iface_keep (k : Nat) (f : Eyelet → Eyelet) (i : Iface) : (s.modEye k f).iface i = s.iface i := rfl
@[simp] theorem State.modEye_live (k : Nat) (f : Eyelet → Eyelet) : (s.modEye k f).live = s.live := rfl
@[simp] theorem State.modSlot_rail_keep (k : Nat) (f : SlotRec → SlotRec) (j : Nat) : (s.modSlot k f).rail j = s.rail j := rfl
@[simp] theorem State.modSlot_phase_keep (k : Nat) (f : SlotRec → SlotRec) (j : Nat) : (s.modSlot k f).phase j = s.phase j := rfl
@[simp] theorem State.modSlot_switch_keep (k : Nat) (f : SlotRec → SlotRec) (j : Nat) : (s.modSlot k f).switch j = s.switch j := rfl
@[simp] theorem State.modSlot_group_keep (k : Nat) (f : SlotRec → SlotRec) (j : Nat) : (s.modSlot k f).group j = s.group j := rfl
@[simp] theorem State.modSlot_src_keep (k : Nat) (f : SlotRec → SlotRec) (j : Nat) : (s.modSlot k f).src j = s.src j := rfl
@[simp] theorem State.modSlot_evt_keep (k : Nat) (f : SlotRec → SlotRec) (j : Nat) : (s.modSlot k f).evt j = s.evt j := rfl
@[simp] theorem State.modSlot_policy_keep (k : Nat) (f : SlotRec → SlotRec) (j : Nat) : (s.modSlot k f).policy j = s.policy j := rfl
@[simp] theorem State.modSlot_loop_keep (k : Nat) (f : SlotRec → SlotRec) (j : Nat) : (s.modSlot k f).loop j = s.loop j := rfl
@[simp] theorem State.modSlot_loopSt_keep (k : Nat) (f : SlotRec → SlotRec) (j : Nat) : (s.modSlot k f).loopSt j = s.loopSt j := rfl
@[simp] theorem State.modSlot_trace_keep (k : Nat) (f : SlotRec → SlotRec) (j : Nat) : (s.modSlot k f).trace j = s.trace j := rfl
@[simp] theorem State.modSlot_wdg_keep (k : Nat) (f : SlotRec → SlotRec) (j : Nat) : (s.modSlot k f).wdg j = s.wdg j := rfl
@[simp] theorem State.modSlot_fdev_keep (k : Nat) (f : SlotRec → SlotRec) (j : Nat) : (s.modSlot k f).fdev j = s.fdev j := rfl
@[simp] theorem State.modSlot_aseq_keep (k : Nat) (f : SlotRec → SlotRec) (j : Nat) : (s.modSlot k f).aseq j = s.aseq j := rfl
@[simp] theorem State.modSlot_chanOf_keep (k : Nat) (f : SlotRec → SlotRec) (j : Nat) : (s.modSlot k f).chanOf j = s.chanOf j := rfl
@[simp] theorem State.modSlot_meter_keep (k : Nat) (f : SlotRec → SlotRec) (j : Nat) : (s.modSlot k f).meter j = s.meter j := rfl
@[simp] theorem State.modSlot_thmIn_keep (k : Nat) (f : SlotRec → SlotRec) (j : Nat) : (s.modSlot k f).thmIn j = s.thmIn j := rfl
@[simp] theorem State.modSlot_zoneOf_keep (k : Nat) (f : SlotRec → SlotRec) (j : Nat) : (s.modSlot k f).zoneOf j = s.zoneOf j := rfl
@[simp] theorem State.modSlot_rwWord_keep (k : Nat) (f : SlotRec → SlotRec) (j : Nat) : (s.modSlot k f).rwWord j = s.rwWord j := rfl
@[simp] theorem State.modSlot_stored_keep (k : Nat) (f : SlotRec → SlotRec) (j : Nat) : (s.modSlot k f).stored j = s.stored j := rfl
@[simp] theorem State.modSlot_st_keep (k : Nat) (f : SlotRec → SlotRec) (j : Nat) : (s.modSlot k f).st j = s.st j := rfl
@[simp] theorem State.modSlot_iface_keep (k : Nat) (f : SlotRec → SlotRec) (i : Iface) : (s.modSlot k f).iface i = s.iface i := rfl
@[simp] theorem State.modSlot_live (k : Nat) (f : SlotRec → SlotRec) : (s.modSlot k f).live = s.live := rfl
@[simp] theorem State.modAseq_rail_keep (k : Nat) (f : AdcSeq → AdcSeq) (j : Nat) : (s.modAseq k f).rail j = s.rail j := rfl
@[simp] theorem State.modAseq_phase_keep (k : Nat) (f : AdcSeq → AdcSeq) (j : Nat) : (s.modAseq k f).phase j = s.phase j := rfl
@[simp] theorem State.modAseq_switch_keep (k : Nat) (f : AdcSeq → AdcSeq) (j : Nat) : (s.modAseq k f).switch j = s.switch j := rfl
@[simp] theorem State.modAseq_group_keep (k : Nat) (f : AdcSeq → AdcSeq) (j : Nat) : (s.modAseq k f).group j = s.group j := rfl
@[simp] theorem State.modAseq_src_keep (k : Nat) (f : AdcSeq → AdcSeq) (j : Nat) : (s.modAseq k f).src j = s.src j := rfl
@[simp] theorem State.modAseq_evt_keep (k : Nat) (f : AdcSeq → AdcSeq) (j : Nat) : (s.modAseq k f).evt j = s.evt j := rfl
@[simp] theorem State.modAseq_policy_keep (k : Nat) (f : AdcSeq → AdcSeq) (j : Nat) : (s.modAseq k f).policy j = s.policy j := rfl
@[simp] theorem State.modAseq_loop_keep (k : Nat) (f : AdcSeq → AdcSeq) (j : Nat) : (s.modAseq k f).loop j = s.loop j := rfl
@[simp] theorem State.modAseq_loopSt_keep (k : Nat) (f : AdcSeq → AdcSeq) (j : Nat) : (s.modAseq k f).loopSt j = s.loopSt j := rfl
@[simp] theorem State.modAseq_trace_keep (k : Nat) (f : AdcSeq → AdcSeq) (j : Nat) : (s.modAseq k f).trace j = s.trace j := rfl
@[simp] theorem State.modAseq_wdg_keep (k : Nat) (f : AdcSeq → AdcSeq) (j : Nat) : (s.modAseq k f).wdg j = s.wdg j := rfl
@[simp] theorem State.modAseq_fdev_keep (k : Nat) (f : AdcSeq → AdcSeq) (j : Nat) : (s.modAseq k f).fdev j = s.fdev j := rfl
@[simp] theorem State.modAseq_eye_keep (k : Nat) (f : AdcSeq → AdcSeq) (j : Nat) : (s.modAseq k f).eye j = s.eye j := rfl
@[simp] theorem State.modAseq_slotRec_keep (k : Nat) (f : AdcSeq → AdcSeq) (j : Nat) : (s.modAseq k f).slotRec j = s.slotRec j := rfl
@[simp] theorem State.modAseq_thmIn_keep (k : Nat) (f : AdcSeq → AdcSeq) (j : Nat) : (s.modAseq k f).thmIn j = s.thmIn j := rfl
@[simp] theorem State.modAseq_zoneOf_keep (k : Nat) (f : AdcSeq → AdcSeq) (j : Nat) : (s.modAseq k f).zoneOf j = s.zoneOf j := rfl
@[simp] theorem State.modAseq_rwWord_keep (k : Nat) (f : AdcSeq → AdcSeq) (j : Nat) : (s.modAseq k f).rwWord j = s.rwWord j := rfl
@[simp] theorem State.modAseq_stored_keep (k : Nat) (f : AdcSeq → AdcSeq) (j : Nat) : (s.modAseq k f).stored j = s.stored j := rfl
@[simp] theorem State.modAseq_st_keep (k : Nat) (f : AdcSeq → AdcSeq) (j : Nat) : (s.modAseq k f).st j = s.st j := rfl
@[simp] theorem State.modAseq_iface_keep (k : Nat) (f : AdcSeq → AdcSeq) (i : Iface) : (s.modAseq k f).iface i = s.iface i := rfl
@[simp] theorem State.modAseq_live (k : Nat) (f : AdcSeq → AdcSeq) : (s.modAseq k f).live = s.live := rfl
@[simp] theorem State.modChan_rail_keep (k : Nat) (f : Chan → Chan) (j : Nat) : (s.modChan k f).rail j = s.rail j := rfl
@[simp] theorem State.modChan_phase_keep (k : Nat) (f : Chan → Chan) (j : Nat) : (s.modChan k f).phase j = s.phase j := rfl
@[simp] theorem State.modChan_switch_keep (k : Nat) (f : Chan → Chan) (j : Nat) : (s.modChan k f).switch j = s.switch j := rfl
@[simp] theorem State.modChan_group_keep (k : Nat) (f : Chan → Chan) (j : Nat) : (s.modChan k f).group j = s.group j := rfl
@[simp] theorem State.modChan_src_keep (k : Nat) (f : Chan → Chan) (j : Nat) : (s.modChan k f).src j = s.src j := rfl
@[simp] theorem State.modChan_evt_keep (k : Nat) (f : Chan → Chan) (j : Nat) : (s.modChan k f).evt j = s.evt j := rfl
@[simp] theorem State.modChan_policy_keep (k : Nat) (f : Chan → Chan) (j : Nat) : (s.modChan k f).policy j = s.policy j := rfl
@[simp] theorem State.modChan_loop_keep (k : Nat) (f : Chan → Chan) (j : Nat) : (s.modChan k f).loop j = s.loop j := rfl
@[simp] theorem State.modChan_loopSt_keep (k : Nat) (f : Chan → Chan) (j : Nat) : (s.modChan k f).loopSt j = s.loopSt j := rfl
@[simp] theorem State.modChan_trace_keep (k : Nat) (f : Chan → Chan) (j : Nat) : (s.modChan k f).trace j = s.trace j := rfl
@[simp] theorem State.modChan_wdg_keep (k : Nat) (f : Chan → Chan) (j : Nat) : (s.modChan k f).wdg j = s.wdg j := rfl
@[simp] theorem State.modChan_fdev_keep (k : Nat) (f : Chan → Chan) (j : Nat) : (s.modChan k f).fdev j = s.fdev j := rfl
@[simp] theorem State.modChan_eye_keep (k : Nat) (f : Chan → Chan) (j : Nat) : (s.modChan k f).eye j = s.eye j := rfl
@[simp] theorem State.modChan_slotRec_keep (k : Nat) (f : Chan → Chan) (j : Nat) : (s.modChan k f).slotRec j = s.slotRec j := rfl
@[simp] theorem State.modChan_thmIn_keep (k : Nat) (f : Chan → Chan) (j : Nat) : (s.modChan k f).thmIn j = s.thmIn j := rfl
@[simp] theorem State.modChan_zoneOf_keep (k : Nat) (f : Chan → Chan) (j : Nat) : (s.modChan k f).zoneOf j = s.zoneOf j := rfl
@[simp] theorem State.modChan_rwWord_keep (k : Nat) (f : Chan → Chan) (j : Nat) : (s.modChan k f).rwWord j = s.rwWord j := rfl
@[simp] theorem State.modChan_stored_keep (k : Nat) (f : Chan → Chan) (j : Nat) : (s.modChan k f).stored j = s.stored j := rfl
@[simp] theorem State.modChan_st_keep (k : Nat) (f : Chan → Chan) (j : Nat) : (s.modChan k f).st j = s.st j := rfl
@[simp] theorem State.modChan_iface_keep (k : Nat) (f : Chan → Chan) (i : Iface) : (s.modChan k f).iface i = s.iface i := rfl
@[simp] theorem State.modChan_live (k : Nat) (f : Chan → Chan) : (s.modChan k f).live = s.live := rfl
@[simp] theorem State.modMeter_rail_keep (k : Nat) (f : Meter → Meter) (j : Nat) : (s.modMeter k f).rail j = s.rail j := rfl
@[simp] theorem State.modMeter_phase_keep (k : Nat) (f : Meter → Meter) (j : Nat) : (s.modMeter k f).phase j = s.phase j := rfl
@[simp] theorem State.modMeter_switch_keep (k : Nat) (f : Meter → Meter) (j : Nat) : (s.modMeter k f).switch j = s.switch j := rfl
@[simp] theorem State.modMeter_group_keep (k : Nat) (f : Meter → Meter) (j : Nat) : (s.modMeter k f).group j = s.group j := rfl
@[simp] theorem State.modMeter_src_keep (k : Nat) (f : Meter → Meter) (j : Nat) : (s.modMeter k f).src j = s.src j := rfl
@[simp] theorem State.modMeter_evt_keep (k : Nat) (f : Meter → Meter) (j : Nat) : (s.modMeter k f).evt j = s.evt j := rfl
@[simp] theorem State.modMeter_policy_keep (k : Nat) (f : Meter → Meter) (j : Nat) : (s.modMeter k f).policy j = s.policy j := rfl
@[simp] theorem State.modMeter_loop_keep (k : Nat) (f : Meter → Meter) (j : Nat) : (s.modMeter k f).loop j = s.loop j := rfl
@[simp] theorem State.modMeter_loopSt_keep (k : Nat) (f : Meter → Meter) (j : Nat) : (s.modMeter k f).loopSt j = s.loopSt j := rfl
@[simp] theorem State.modMeter_trace_keep (k : Nat) (f : Meter → Meter) (j : Nat) : (s.modMeter k f).trace j = s.trace j := rfl
@[simp] theorem State.modMeter_wdg_keep (k : Nat) (f : Meter → Meter) (j : Nat) : (s.modMeter k f).wdg j = s.wdg j := rfl
@[simp] theorem State.modMeter_fdev_keep (k : Nat) (f : Meter → Meter) (j : Nat) : (s.modMeter k f).fdev j = s.fdev j := rfl
@[simp] theorem State.modMeter_eye_keep (k : Nat) (f : Meter → Meter) (j : Nat) : (s.modMeter k f).eye j = s.eye j := rfl
@[simp] theorem State.modMeter_slotRec_keep (k : Nat) (f : Meter → Meter) (j : Nat) : (s.modMeter k f).slotRec j = s.slotRec j := rfl
@[simp] theorem State.modMeter_thmIn_keep (k : Nat) (f : Meter → Meter) (j : Nat) : (s.modMeter k f).thmIn j = s.thmIn j := rfl
@[simp] theorem State.modMeter_zoneOf_keep (k : Nat) (f : Meter → Meter) (j : Nat) : (s.modMeter k f).zoneOf j = s.zoneOf j := rfl
@[simp] theorem State.modMeter_rwWord_keep (k : Nat) (f : Meter → Meter) (j : Nat) : (s.modMeter k f).rwWord j = s.rwWord j := rfl
@[simp] theorem State.modMeter_stored_keep (k : Nat) (f : Meter → Meter) (j : Nat) : (s.modMeter k f).stored j = s.stored j := rfl
@[simp] theorem State.modMeter_st_keep (k : Nat) (f : Meter → Meter) (j : Nat) : (s.modMeter k f).st j = s.st j := rfl
@[simp] theorem State.modMeter_iface_keep (k : Nat) (f : Meter → Meter) (i : Iface) : (s.modMeter k f).iface i = s.iface i := rfl
@[simp] theorem State.modMeter_live (k : Nat) (f : Meter → Meter) : (s.modMeter k f).live = s.live := rfl
@[simp] theorem State.modZone_rail_keep (k : Nat) (f : Zone → Zone) (j : Nat) : (s.modZone k f).rail j = s.rail j := rfl
@[simp] theorem State.modZone_phase_keep (k : Nat) (f : Zone → Zone) (j : Nat) : (s.modZone k f).phase j = s.phase j := rfl
@[simp] theorem State.modZone_switch_keep (k : Nat) (f : Zone → Zone) (j : Nat) : (s.modZone k f).switch j = s.switch j := rfl
@[simp] theorem State.modZone_group_keep (k : Nat) (f : Zone → Zone) (j : Nat) : (s.modZone k f).group j = s.group j := rfl
@[simp] theorem State.modZone_src_keep (k : Nat) (f : Zone → Zone) (j : Nat) : (s.modZone k f).src j = s.src j := rfl
@[simp] theorem State.modZone_evt_keep (k : Nat) (f : Zone → Zone) (j : Nat) : (s.modZone k f).evt j = s.evt j := rfl
@[simp] theorem State.modZone_policy_keep (k : Nat) (f : Zone → Zone) (j : Nat) : (s.modZone k f).policy j = s.policy j := rfl
@[simp] theorem State.modZone_loop_keep (k : Nat) (f : Zone → Zone) (j : Nat) : (s.modZone k f).loop j = s.loop j := rfl
@[simp] theorem State.modZone_loopSt_keep (k : Nat) (f : Zone → Zone) (j : Nat) : (s.modZone k f).loopSt j = s.loopSt j := rfl
@[simp] theorem State.modZone_trace_keep (k : Nat) (f : Zone → Zone) (j : Nat) : (s.modZone k f).trace j = s.trace j := rfl
@[simp] theorem State.modZone_wdg_keep (k : Nat) (f : Zone → Zone) (j : Nat) : (s.modZone k f).wdg j = s.wdg j := rfl
@[simp] theorem State.modZone_fdev_keep (k : Nat) (f : Zone → Zone) (j : Nat) : (s.modZone k f).fdev j = s.fdev j := rfl
@[simp] theorem State.modZone_eye_keep (k : Nat) (f : Zone → Zone) (j : Nat) : (s.modZone k f).eye j = s.eye j := rfl
@[simp] theorem State.modZone_slotRec_keep (k : Nat) (f : Zone → Zone) (j : Nat) : (s.modZone k f).slotRec j = s.slotRec j := rfl
@[simp] theorem State.modZone_aseq_keep (k : Nat) (f : Zone → Zone) (j : Nat) : (s.modZone k f).aseq j = s.aseq j := rfl
@[simp] theorem State.modZone_chanOf_keep (k : Nat) (f : Zone → Zone) (j : Nat) : (s.modZone k f).chanOf j = s.chanOf j := rfl
@[simp] theorem State.modZone_meter_keep (k : Nat) (f : Zone → Zone) (j : Nat) : (s.modZone k f).meter j = s.meter j := rfl
@[simp] theorem State.modZone_rwWord_keep (k : Nat) (f : Zone → Zone) (j : Nat) : (s.modZone k f).rwWord j = s.rwWord j := rfl
@[simp] theorem State.modZone_stored_keep (k : Nat) (f : Zone → Zone) (j : Nat) : (s.modZone k f).stored j = s.stored j := rfl
@[simp] theorem State.modZone_st_keep (k : Nat) (f : Zone → Zone) (j : Nat) : (s.modZone k f).st j = s.st j := rfl
@[simp] theorem State.modZone_iface_keep (k : Nat) (f : Zone → Zone) (i : Iface) : (s.modZone k f).iface i = s.iface i := rfl
@[simp] theorem State.modZone_live (k : Nat) (f : Zone → Zone) : (s.modZone k f).live = s.live := rfl
@[simp] theorem State.modLed_rail_keep (f : Ledger → Ledger) (j : Nat) : (s.modLed f).rail j = s.rail j := rfl
@[simp] theorem State.modLed_phase_keep (f : Ledger → Ledger) (j : Nat) : (s.modLed f).phase j = s.phase j := rfl
@[simp] theorem State.modLed_switch_keep (f : Ledger → Ledger) (j : Nat) : (s.modLed f).switch j = s.switch j := rfl
@[simp] theorem State.modLed_group_keep (f : Ledger → Ledger) (j : Nat) : (s.modLed f).group j = s.group j := rfl
@[simp] theorem State.modLed_src_keep (f : Ledger → Ledger) (j : Nat) : (s.modLed f).src j = s.src j := rfl
@[simp] theorem State.modLed_evt_keep (f : Ledger → Ledger) (j : Nat) : (s.modLed f).evt j = s.evt j := rfl
@[simp] theorem State.modLed_policy_keep (f : Ledger → Ledger) (j : Nat) : (s.modLed f).policy j = s.policy j := rfl
@[simp] theorem State.modLed_loop_keep (f : Ledger → Ledger) (j : Nat) : (s.modLed f).loop j = s.loop j := rfl
@[simp] theorem State.modLed_loopSt_keep (f : Ledger → Ledger) (j : Nat) : (s.modLed f).loopSt j = s.loopSt j := rfl
@[simp] theorem State.modLed_trace_keep (f : Ledger → Ledger) (j : Nat) : (s.modLed f).trace j = s.trace j := rfl
@[simp] theorem State.modLed_wdg_keep (f : Ledger → Ledger) (j : Nat) : (s.modLed f).wdg j = s.wdg j := rfl
@[simp] theorem State.modLed_fdev_keep (f : Ledger → Ledger) (j : Nat) : (s.modLed f).fdev j = s.fdev j := rfl
@[simp] theorem State.modLed_eye_keep (f : Ledger → Ledger) (j : Nat) : (s.modLed f).eye j = s.eye j := rfl
@[simp] theorem State.modLed_slotRec_keep (f : Ledger → Ledger) (j : Nat) : (s.modLed f).slotRec j = s.slotRec j := rfl
@[simp] theorem State.modLed_aseq_keep (f : Ledger → Ledger) (j : Nat) : (s.modLed f).aseq j = s.aseq j := rfl
@[simp] theorem State.modLed_chanOf_keep (f : Ledger → Ledger) (j : Nat) : (s.modLed f).chanOf j = s.chanOf j := rfl
@[simp] theorem State.modLed_meter_keep (f : Ledger → Ledger) (j : Nat) : (s.modLed f).meter j = s.meter j := rfl
@[simp] theorem State.modLed_thmIn_keep (f : Ledger → Ledger) (j : Nat) : (s.modLed f).thmIn j = s.thmIn j := rfl
@[simp] theorem State.modLed_zoneOf_keep (f : Ledger → Ledger) (j : Nat) : (s.modLed f).zoneOf j = s.zoneOf j := rfl
@[simp] theorem State.modLed_rwWord_keep (f : Ledger → Ledger) (j : Nat) : (s.modLed f).rwWord j = s.rwWord j := rfl
@[simp] theorem State.modLed_iface_keep (f : Ledger → Ledger) (i : Iface) : (s.modLed f).iface i = s.iface i := rfl
@[simp] theorem State.modLed_live (f : Ledger → Ledger) : (s.modLed f).live = s.live := rfl
@[simp] theorem State.modPipe_rail_keep (f : Pipe → Pipe) (j : Nat) : (s.modPipe f).rail j = s.rail j := rfl
@[simp] theorem State.modPipe_phase_keep (f : Pipe → Pipe) (j : Nat) : (s.modPipe f).phase j = s.phase j := rfl
@[simp] theorem State.modPipe_switch_keep (f : Pipe → Pipe) (j : Nat) : (s.modPipe f).switch j = s.switch j := rfl
@[simp] theorem State.modPipe_group_keep (f : Pipe → Pipe) (j : Nat) : (s.modPipe f).group j = s.group j := rfl
@[simp] theorem State.modPipe_src_keep (f : Pipe → Pipe) (j : Nat) : (s.modPipe f).src j = s.src j := rfl
@[simp] theorem State.modPipe_evt_keep (f : Pipe → Pipe) (j : Nat) : (s.modPipe f).evt j = s.evt j := rfl
@[simp] theorem State.modPipe_policy_keep (f : Pipe → Pipe) (j : Nat) : (s.modPipe f).policy j = s.policy j := rfl
@[simp] theorem State.modPipe_loop_keep (f : Pipe → Pipe) (j : Nat) : (s.modPipe f).loop j = s.loop j := rfl
@[simp] theorem State.modPipe_loopSt_keep (f : Pipe → Pipe) (j : Nat) : (s.modPipe f).loopSt j = s.loopSt j := rfl
@[simp] theorem State.modPipe_trace_keep (f : Pipe → Pipe) (j : Nat) : (s.modPipe f).trace j = s.trace j := rfl
@[simp] theorem State.modPipe_wdg_keep (f : Pipe → Pipe) (j : Nat) : (s.modPipe f).wdg j = s.wdg j := rfl
@[simp] theorem State.modPipe_fdev_keep (f : Pipe → Pipe) (j : Nat) : (s.modPipe f).fdev j = s.fdev j := rfl
@[simp] theorem State.modPipe_eye_keep (f : Pipe → Pipe) (j : Nat) : (s.modPipe f).eye j = s.eye j := rfl
@[simp] theorem State.modPipe_slotRec_keep (f : Pipe → Pipe) (j : Nat) : (s.modPipe f).slotRec j = s.slotRec j := rfl
@[simp] theorem State.modPipe_aseq_keep (f : Pipe → Pipe) (j : Nat) : (s.modPipe f).aseq j = s.aseq j := rfl
@[simp] theorem State.modPipe_chanOf_keep (f : Pipe → Pipe) (j : Nat) : (s.modPipe f).chanOf j = s.chanOf j := rfl
@[simp] theorem State.modPipe_meter_keep (f : Pipe → Pipe) (j : Nat) : (s.modPipe f).meter j = s.meter j := rfl
@[simp] theorem State.modPipe_thmIn_keep (f : Pipe → Pipe) (j : Nat) : (s.modPipe f).thmIn j = s.thmIn j := rfl
@[simp] theorem State.modPipe_zoneOf_keep (f : Pipe → Pipe) (j : Nat) : (s.modPipe f).zoneOf j = s.zoneOf j := rfl
@[simp] theorem State.modPipe_rwWord_keep (f : Pipe → Pipe) (j : Nat) : (s.modPipe f).rwWord j = s.rwWord j := rfl
@[simp] theorem State.modPipe_stored_keep (f : Pipe → Pipe) (j : Nat) : (s.modPipe f).stored j = s.stored j := rfl
@[simp] theorem State.modPipe_st_keep (f : Pipe → Pipe) (j : Nat) : (s.modPipe f).st j = s.st j := rfl
@[simp] theorem State.modPipe_iface_keep (f : Pipe → Pipe) (i : Iface) : (s.modPipe f).iface i = s.iface i := rfl
@[simp] theorem State.modPipe_live (f : Pipe → Pipe) : (s.modPipe f).live = s.live := rfl
@[simp] theorem State.modGlb_rail_keep (f : Glb → Glb) (j : Nat) : (s.modGlb f).rail j = s.rail j := rfl
@[simp] theorem State.modGlb_phase_keep (f : Glb → Glb) (j : Nat) : (s.modGlb f).phase j = s.phase j := rfl
@[simp] theorem State.modGlb_switch_keep (f : Glb → Glb) (j : Nat) : (s.modGlb f).switch j = s.switch j := rfl
@[simp] theorem State.modGlb_group_keep (f : Glb → Glb) (j : Nat) : (s.modGlb f).group j = s.group j := rfl
@[simp] theorem State.modGlb_src_keep (f : Glb → Glb) (j : Nat) : (s.modGlb f).src j = s.src j := rfl
@[simp] theorem State.modGlb_evt_keep (f : Glb → Glb) (j : Nat) : (s.modGlb f).evt j = s.evt j := rfl
@[simp] theorem State.modGlb_policy_keep (f : Glb → Glb) (j : Nat) : (s.modGlb f).policy j = s.policy j := rfl
@[simp] theorem State.modGlb_loop_keep (f : Glb → Glb) (j : Nat) : (s.modGlb f).loop j = s.loop j := rfl
@[simp] theorem State.modGlb_loopSt_keep (f : Glb → Glb) (j : Nat) : (s.modGlb f).loopSt j = s.loopSt j := rfl
@[simp] theorem State.modGlb_trace_keep (f : Glb → Glb) (j : Nat) : (s.modGlb f).trace j = s.trace j := rfl
@[simp] theorem State.modGlb_wdg_keep (f : Glb → Glb) (j : Nat) : (s.modGlb f).wdg j = s.wdg j := rfl
@[simp] theorem State.modGlb_fdev_keep (f : Glb → Glb) (j : Nat) : (s.modGlb f).fdev j = s.fdev j := rfl
@[simp] theorem State.modGlb_eye_keep (f : Glb → Glb) (j : Nat) : (s.modGlb f).eye j = s.eye j := rfl
@[simp] theorem State.modGlb_slotRec_keep (f : Glb → Glb) (j : Nat) : (s.modGlb f).slotRec j = s.slotRec j := rfl
@[simp] theorem State.modGlb_aseq_keep (f : Glb → Glb) (j : Nat) : (s.modGlb f).aseq j = s.aseq j := rfl
@[simp] theorem State.modGlb_chanOf_keep (f : Glb → Glb) (j : Nat) : (s.modGlb f).chanOf j = s.chanOf j := rfl
@[simp] theorem State.modGlb_meter_keep (f : Glb → Glb) (j : Nat) : (s.modGlb f).meter j = s.meter j := rfl
@[simp] theorem State.modGlb_thmIn_keep (f : Glb → Glb) (j : Nat) : (s.modGlb f).thmIn j = s.thmIn j := rfl
@[simp] theorem State.modGlb_zoneOf_keep (f : Glb → Glb) (j : Nat) : (s.modGlb f).zoneOf j = s.zoneOf j := rfl
@[simp] theorem State.modGlb_rwWord_keep (f : Glb → Glb) (j : Nat) : (s.modGlb f).rwWord j = s.rwWord j := rfl
@[simp] theorem State.modGlb_stored_keep (f : Glb → Glb) (j : Nat) : (s.modGlb f).stored j = s.stored j := rfl
@[simp] theorem State.modGlb_st_keep (f : Glb → Glb) (j : Nat) : (s.modGlb f).st j = s.st j := rfl
@[simp] theorem State.modGlb_iface_keep (f : Glb → Glb) (i : Iface) : (s.modGlb f).iface i = s.iface i := rfl
@[simp] theorem State.modLane_rail_keep (f : Lane → Lane) (j : Nat) : (s.modLane f).rail j = s.rail j := rfl
@[simp] theorem State.modLane_phase_keep (f : Lane → Lane) (j : Nat) : (s.modLane f).phase j = s.phase j := rfl
@[simp] theorem State.modLane_switch_keep (f : Lane → Lane) (j : Nat) : (s.modLane f).switch j = s.switch j := rfl
@[simp] theorem State.modLane_group_keep (f : Lane → Lane) (j : Nat) : (s.modLane f).group j = s.group j := rfl
@[simp] theorem State.modLane_src_keep (f : Lane → Lane) (j : Nat) : (s.modLane f).src j = s.src j := rfl
@[simp] theorem State.modLane_evt_keep (f : Lane → Lane) (j : Nat) : (s.modLane f).evt j = s.evt j := rfl
@[simp] theorem State.modLane_policy_keep (f : Lane → Lane) (j : Nat) : (s.modLane f).policy j = s.policy j := rfl
@[simp] theorem State.modLane_loop_keep (f : Lane → Lane) (j : Nat) : (s.modLane f).loop j = s.loop j := rfl
@[simp] theorem State.modLane_loopSt_keep (f : Lane → Lane) (j : Nat) : (s.modLane f).loopSt j = s.loopSt j := rfl
@[simp] theorem State.modLane_trace_keep (f : Lane → Lane) (j : Nat) : (s.modLane f).trace j = s.trace j := rfl
@[simp] theorem State.modLane_wdg_keep (f : Lane → Lane) (j : Nat) : (s.modLane f).wdg j = s.wdg j := rfl
@[simp] theorem State.modLane_fdev_keep (f : Lane → Lane) (j : Nat) : (s.modLane f).fdev j = s.fdev j := rfl
@[simp] theorem State.modLane_eye_keep (f : Lane → Lane) (j : Nat) : (s.modLane f).eye j = s.eye j := rfl
@[simp] theorem State.modLane_slotRec_keep (f : Lane → Lane) (j : Nat) : (s.modLane f).slotRec j = s.slotRec j := rfl
@[simp] theorem State.modLane_aseq_keep (f : Lane → Lane) (j : Nat) : (s.modLane f).aseq j = s.aseq j := rfl
@[simp] theorem State.modLane_chanOf_keep (f : Lane → Lane) (j : Nat) : (s.modLane f).chanOf j = s.chanOf j := rfl
@[simp] theorem State.modLane_meter_keep (f : Lane → Lane) (j : Nat) : (s.modLane f).meter j = s.meter j := rfl
@[simp] theorem State.modLane_thmIn_keep (f : Lane → Lane) (j : Nat) : (s.modLane f).thmIn j = s.thmIn j := rfl
@[simp] theorem State.modLane_zoneOf_keep (f : Lane → Lane) (j : Nat) : (s.modLane f).zoneOf j = s.zoneOf j := rfl
@[simp] theorem State.modLane_rwWord_keep (f : Lane → Lane) (j : Nat) : (s.modLane f).rwWord j = s.rwWord j := rfl
@[simp] theorem State.modLane_stored_keep (f : Lane → Lane) (j : Nat) : (s.modLane f).stored j = s.stored j := rfl
@[simp] theorem State.modLane_st_keep (f : Lane → Lane) (j : Nat) : (s.modLane f).st j = s.st j := rfl
@[simp] theorem State.modLane_iface_keep (f : Lane → Lane) (i : Iface) : (s.modLane f).iface i = s.iface i := rfl
@[simp] theorem State.modLane_live (f : Lane → Lane) : (s.modLane f).live = s.live := rfl
@[simp] theorem State.modSeq_rail_keep (f : SeqSt → SeqSt) (j : Nat) : (s.modSeq f).rail j = s.rail j := rfl
@[simp] theorem State.modSeq_phase_keep (f : SeqSt → SeqSt) (j : Nat) : (s.modSeq f).phase j = s.phase j := rfl
@[simp] theorem State.modSeq_switch_keep (f : SeqSt → SeqSt) (j : Nat) : (s.modSeq f).switch j = s.switch j := rfl
@[simp] theorem State.modSeq_group_keep (f : SeqSt → SeqSt) (j : Nat) : (s.modSeq f).group j = s.group j := rfl
@[simp] theorem State.modSeq_src_keep (f : SeqSt → SeqSt) (j : Nat) : (s.modSeq f).src j = s.src j := rfl
@[simp] theorem State.modSeq_evt_keep (f : SeqSt → SeqSt) (j : Nat) : (s.modSeq f).evt j = s.evt j := rfl
@[simp] theorem State.modSeq_policy_keep (f : SeqSt → SeqSt) (j : Nat) : (s.modSeq f).policy j = s.policy j := rfl
@[simp] theorem State.modSeq_loop_keep (f : SeqSt → SeqSt) (j : Nat) : (s.modSeq f).loop j = s.loop j := rfl
@[simp] theorem State.modSeq_loopSt_keep (f : SeqSt → SeqSt) (j : Nat) : (s.modSeq f).loopSt j = s.loopSt j := rfl
@[simp] theorem State.modSeq_trace_keep (f : SeqSt → SeqSt) (j : Nat) : (s.modSeq f).trace j = s.trace j := rfl
@[simp] theorem State.modSeq_wdg_keep (f : SeqSt → SeqSt) (j : Nat) : (s.modSeq f).wdg j = s.wdg j := rfl
@[simp] theorem State.modSeq_fdev_keep (f : SeqSt → SeqSt) (j : Nat) : (s.modSeq f).fdev j = s.fdev j := rfl
@[simp] theorem State.modSeq_eye_keep (f : SeqSt → SeqSt) (j : Nat) : (s.modSeq f).eye j = s.eye j := rfl
@[simp] theorem State.modSeq_slotRec_keep (f : SeqSt → SeqSt) (j : Nat) : (s.modSeq f).slotRec j = s.slotRec j := rfl
@[simp] theorem State.modSeq_aseq_keep (f : SeqSt → SeqSt) (j : Nat) : (s.modSeq f).aseq j = s.aseq j := rfl
@[simp] theorem State.modSeq_chanOf_keep (f : SeqSt → SeqSt) (j : Nat) : (s.modSeq f).chanOf j = s.chanOf j := rfl
@[simp] theorem State.modSeq_meter_keep (f : SeqSt → SeqSt) (j : Nat) : (s.modSeq f).meter j = s.meter j := rfl
@[simp] theorem State.modSeq_thmIn_keep (f : SeqSt → SeqSt) (j : Nat) : (s.modSeq f).thmIn j = s.thmIn j := rfl
@[simp] theorem State.modSeq_zoneOf_keep (f : SeqSt → SeqSt) (j : Nat) : (s.modSeq f).zoneOf j = s.zoneOf j := rfl
@[simp] theorem State.modSeq_rwWord_keep (f : SeqSt → SeqSt) (j : Nat) : (s.modSeq f).rwWord j = s.rwWord j := rfl
@[simp] theorem State.modSeq_stored_keep (f : SeqSt → SeqSt) (j : Nat) : (s.modSeq f).stored j = s.stored j := rfl
@[simp] theorem State.modSeq_st_keep (f : SeqSt → SeqSt) (j : Nat) : (s.modSeq f).st j = s.st j := rfl
@[simp] theorem State.modSeq_iface_keep (f : SeqSt → SeqSt) (i : Iface) : (s.modSeq f).iface i = s.iface i := rfl
@[simp] theorem State.modSeq_live (f : SeqSt → SeqSt) : (s.modSeq f).live = s.live := rfl
@[simp] theorem State.modLace_rail_keep (f : Lace → Lace) (j : Nat) : (s.modLace f).rail j = s.rail j := rfl
@[simp] theorem State.modLace_phase_keep (f : Lace → Lace) (j : Nat) : (s.modLace f).phase j = s.phase j := rfl
@[simp] theorem State.modLace_switch_keep (f : Lace → Lace) (j : Nat) : (s.modLace f).switch j = s.switch j := rfl
@[simp] theorem State.modLace_group_keep (f : Lace → Lace) (j : Nat) : (s.modLace f).group j = s.group j := rfl
@[simp] theorem State.modLace_src_keep (f : Lace → Lace) (j : Nat) : (s.modLace f).src j = s.src j := rfl
@[simp] theorem State.modLace_evt_keep (f : Lace → Lace) (j : Nat) : (s.modLace f).evt j = s.evt j := rfl
@[simp] theorem State.modLace_policy_keep (f : Lace → Lace) (j : Nat) : (s.modLace f).policy j = s.policy j := rfl
@[simp] theorem State.modLace_loop_keep (f : Lace → Lace) (j : Nat) : (s.modLace f).loop j = s.loop j := rfl
@[simp] theorem State.modLace_loopSt_keep (f : Lace → Lace) (j : Nat) : (s.modLace f).loopSt j = s.loopSt j := rfl
@[simp] theorem State.modLace_trace_keep (f : Lace → Lace) (j : Nat) : (s.modLace f).trace j = s.trace j := rfl
@[simp] theorem State.modLace_wdg_keep (f : Lace → Lace) (j : Nat) : (s.modLace f).wdg j = s.wdg j := rfl
@[simp] theorem State.modLace_fdev_keep (f : Lace → Lace) (j : Nat) : (s.modLace f).fdev j = s.fdev j := rfl
@[simp] theorem State.modLace_aseq_keep (f : Lace → Lace) (j : Nat) : (s.modLace f).aseq j = s.aseq j := rfl
@[simp] theorem State.modLace_chanOf_keep (f : Lace → Lace) (j : Nat) : (s.modLace f).chanOf j = s.chanOf j := rfl
@[simp] theorem State.modLace_meter_keep (f : Lace → Lace) (j : Nat) : (s.modLace f).meter j = s.meter j := rfl
@[simp] theorem State.modLace_thmIn_keep (f : Lace → Lace) (j : Nat) : (s.modLace f).thmIn j = s.thmIn j := rfl
@[simp] theorem State.modLace_zoneOf_keep (f : Lace → Lace) (j : Nat) : (s.modLace f).zoneOf j = s.zoneOf j := rfl
@[simp] theorem State.modLace_rwWord_keep (f : Lace → Lace) (j : Nat) : (s.modLace f).rwWord j = s.rwWord j := rfl
@[simp] theorem State.modLace_stored_keep (f : Lace → Lace) (j : Nat) : (s.modLace f).stored j = s.stored j := rfl
@[simp] theorem State.modLace_st_keep (f : Lace → Lace) (j : Nat) : (s.modLace f).st j = s.st j := rfl
@[simp] theorem State.modLace_iface_keep (f : Lace → Lace) (i : Iface) : (s.modLace f).iface i = s.iface i := rfl
@[simp] theorem State.modLace_live (f : Lace → Lace) : (s.modLace f).live = s.live := rfl
@[simp] theorem State.modAdc_rail_keep (f : Adc → Adc) (j : Nat) : (s.modAdc f).rail j = s.rail j := rfl
@[simp] theorem State.modAdc_phase_keep (f : Adc → Adc) (j : Nat) : (s.modAdc f).phase j = s.phase j := rfl
@[simp] theorem State.modAdc_switch_keep (f : Adc → Adc) (j : Nat) : (s.modAdc f).switch j = s.switch j := rfl
@[simp] theorem State.modAdc_group_keep (f : Adc → Adc) (j : Nat) : (s.modAdc f).group j = s.group j := rfl
@[simp] theorem State.modAdc_src_keep (f : Adc → Adc) (j : Nat) : (s.modAdc f).src j = s.src j := rfl
@[simp] theorem State.modAdc_evt_keep (f : Adc → Adc) (j : Nat) : (s.modAdc f).evt j = s.evt j := rfl
@[simp] theorem State.modAdc_policy_keep (f : Adc → Adc) (j : Nat) : (s.modAdc f).policy j = s.policy j := rfl
@[simp] theorem State.modAdc_loop_keep (f : Adc → Adc) (j : Nat) : (s.modAdc f).loop j = s.loop j := rfl
@[simp] theorem State.modAdc_loopSt_keep (f : Adc → Adc) (j : Nat) : (s.modAdc f).loopSt j = s.loopSt j := rfl
@[simp] theorem State.modAdc_trace_keep (f : Adc → Adc) (j : Nat) : (s.modAdc f).trace j = s.trace j := rfl
@[simp] theorem State.modAdc_wdg_keep (f : Adc → Adc) (j : Nat) : (s.modAdc f).wdg j = s.wdg j := rfl
@[simp] theorem State.modAdc_fdev_keep (f : Adc → Adc) (j : Nat) : (s.modAdc f).fdev j = s.fdev j := rfl
@[simp] theorem State.modAdc_eye_keep (f : Adc → Adc) (j : Nat) : (s.modAdc f).eye j = s.eye j := rfl
@[simp] theorem State.modAdc_slotRec_keep (f : Adc → Adc) (j : Nat) : (s.modAdc f).slotRec j = s.slotRec j := rfl
@[simp] theorem State.modAdc_thmIn_keep (f : Adc → Adc) (j : Nat) : (s.modAdc f).thmIn j = s.thmIn j := rfl
@[simp] theorem State.modAdc_zoneOf_keep (f : Adc → Adc) (j : Nat) : (s.modAdc f).zoneOf j = s.zoneOf j := rfl
@[simp] theorem State.modAdc_rwWord_keep (f : Adc → Adc) (j : Nat) : (s.modAdc f).rwWord j = s.rwWord j := rfl
@[simp] theorem State.modAdc_stored_keep (f : Adc → Adc) (j : Nat) : (s.modAdc f).stored j = s.stored j := rfl
@[simp] theorem State.modAdc_st_keep (f : Adc → Adc) (j : Nat) : (s.modAdc f).st j = s.st j := rfl
@[simp] theorem State.modAdc_iface_keep (f : Adc → Adc) (i : Iface) : (s.modAdc f).iface i = s.iface i := rfl
@[simp] theorem State.modAdc_live (f : Adc → Adc) : (s.modAdc f).live = s.live := rfl
@[simp] theorem State.modThm_rail_keep (f : Thm → Thm) (j : Nat) : (s.modThm f).rail j = s.rail j := rfl
@[simp] theorem State.modThm_phase_keep (f : Thm → Thm) (j : Nat) : (s.modThm f).phase j = s.phase j := rfl
@[simp] theorem State.modThm_switch_keep (f : Thm → Thm) (j : Nat) : (s.modThm f).switch j = s.switch j := rfl
@[simp] theorem State.modThm_group_keep (f : Thm → Thm) (j : Nat) : (s.modThm f).group j = s.group j := rfl
@[simp] theorem State.modThm_src_keep (f : Thm → Thm) (j : Nat) : (s.modThm f).src j = s.src j := rfl
@[simp] theorem State.modThm_evt_keep (f : Thm → Thm) (j : Nat) : (s.modThm f).evt j = s.evt j := rfl
@[simp] theorem State.modThm_policy_keep (f : Thm → Thm) (j : Nat) : (s.modThm f).policy j = s.policy j := rfl
@[simp] theorem State.modThm_loop_keep (f : Thm → Thm) (j : Nat) : (s.modThm f).loop j = s.loop j := rfl
@[simp] theorem State.modThm_loopSt_keep (f : Thm → Thm) (j : Nat) : (s.modThm f).loopSt j = s.loopSt j := rfl
@[simp] theorem State.modThm_trace_keep (f : Thm → Thm) (j : Nat) : (s.modThm f).trace j = s.trace j := rfl
@[simp] theorem State.modThm_wdg_keep (f : Thm → Thm) (j : Nat) : (s.modThm f).wdg j = s.wdg j := rfl
@[simp] theorem State.modThm_fdev_keep (f : Thm → Thm) (j : Nat) : (s.modThm f).fdev j = s.fdev j := rfl
@[simp] theorem State.modThm_eye_keep (f : Thm → Thm) (j : Nat) : (s.modThm f).eye j = s.eye j := rfl
@[simp] theorem State.modThm_slotRec_keep (f : Thm → Thm) (j : Nat) : (s.modThm f).slotRec j = s.slotRec j := rfl
@[simp] theorem State.modThm_aseq_keep (f : Thm → Thm) (j : Nat) : (s.modThm f).aseq j = s.aseq j := rfl
@[simp] theorem State.modThm_chanOf_keep (f : Thm → Thm) (j : Nat) : (s.modThm f).chanOf j = s.chanOf j := rfl
@[simp] theorem State.modThm_meter_keep (f : Thm → Thm) (j : Nat) : (s.modThm f).meter j = s.meter j := rfl
@[simp] theorem State.modThm_rwWord_keep (f : Thm → Thm) (j : Nat) : (s.modThm f).rwWord j = s.rwWord j := rfl
@[simp] theorem State.modThm_stored_keep (f : Thm → Thm) (j : Nat) : (s.modThm f).stored j = s.stored j := rfl
@[simp] theorem State.modThm_st_keep (f : Thm → Thm) (j : Nat) : (s.modThm f).st j = s.st j := rfl
@[simp] theorem State.modThm_iface_keep (f : Thm → Thm) (i : Iface) : (s.modThm f).iface i = s.iface i := rfl
@[simp] theorem State.modThm_live (f : Thm → Thm) : (s.modThm f).live = s.live := rfl
@[simp] theorem State.modChg_rail_keep (f : Chg → Chg) (j : Nat) : (s.modChg f).rail j = s.rail j := rfl
@[simp] theorem State.modChg_phase_keep (f : Chg → Chg) (j : Nat) : (s.modChg f).phase j = s.phase j := rfl
@[simp] theorem State.modChg_switch_keep (f : Chg → Chg) (j : Nat) : (s.modChg f).switch j = s.switch j := rfl
@[simp] theorem State.modChg_group_keep (f : Chg → Chg) (j : Nat) : (s.modChg f).group j = s.group j := rfl
@[simp] theorem State.modChg_src_keep (f : Chg → Chg) (j : Nat) : (s.modChg f).src j = s.src j := rfl
@[simp] theorem State.modChg_evt_keep (f : Chg → Chg) (j : Nat) : (s.modChg f).evt j = s.evt j := rfl
@[simp] theorem State.modChg_policy_keep (f : Chg → Chg) (j : Nat) : (s.modChg f).policy j = s.policy j := rfl
@[simp] theorem State.modChg_loop_keep (f : Chg → Chg) (j : Nat) : (s.modChg f).loop j = s.loop j := rfl
@[simp] theorem State.modChg_loopSt_keep (f : Chg → Chg) (j : Nat) : (s.modChg f).loopSt j = s.loopSt j := rfl
@[simp] theorem State.modChg_trace_keep (f : Chg → Chg) (j : Nat) : (s.modChg f).trace j = s.trace j := rfl
@[simp] theorem State.modChg_wdg_keep (f : Chg → Chg) (j : Nat) : (s.modChg f).wdg j = s.wdg j := rfl
@[simp] theorem State.modChg_fdev_keep (f : Chg → Chg) (j : Nat) : (s.modChg f).fdev j = s.fdev j := rfl
@[simp] theorem State.modChg_eye_keep (f : Chg → Chg) (j : Nat) : (s.modChg f).eye j = s.eye j := rfl
@[simp] theorem State.modChg_slotRec_keep (f : Chg → Chg) (j : Nat) : (s.modChg f).slotRec j = s.slotRec j := rfl
@[simp] theorem State.modChg_aseq_keep (f : Chg → Chg) (j : Nat) : (s.modChg f).aseq j = s.aseq j := rfl
@[simp] theorem State.modChg_chanOf_keep (f : Chg → Chg) (j : Nat) : (s.modChg f).chanOf j = s.chanOf j := rfl
@[simp] theorem State.modChg_meter_keep (f : Chg → Chg) (j : Nat) : (s.modChg f).meter j = s.meter j := rfl
@[simp] theorem State.modChg_thmIn_keep (f : Chg → Chg) (j : Nat) : (s.modChg f).thmIn j = s.thmIn j := rfl
@[simp] theorem State.modChg_zoneOf_keep (f : Chg → Chg) (j : Nat) : (s.modChg f).zoneOf j = s.zoneOf j := rfl
@[simp] theorem State.modChg_rwWord_keep (f : Chg → Chg) (j : Nat) : (s.modChg f).rwWord j = s.rwWord j := rfl
@[simp] theorem State.modChg_stored_keep (f : Chg → Chg) (j : Nat) : (s.modChg f).stored j = s.stored j := rfl
@[simp] theorem State.modChg_st_keep (f : Chg → Chg) (j : Nat) : (s.modChg f).st j = s.st j := rfl
@[simp] theorem State.modChg_iface_keep (f : Chg → Chg) (i : Iface) : (s.modChg f).iface i = s.iface i := rfl
@[simp] theorem State.modChg_live (f : Chg → Chg) : (s.modChg f).live = s.live := rfl
@[simp] theorem State.modGau_rail_keep (f : Gau → Gau) (j : Nat) : (s.modGau f).rail j = s.rail j := rfl
@[simp] theorem State.modGau_phase_keep (f : Gau → Gau) (j : Nat) : (s.modGau f).phase j = s.phase j := rfl
@[simp] theorem State.modGau_switch_keep (f : Gau → Gau) (j : Nat) : (s.modGau f).switch j = s.switch j := rfl
@[simp] theorem State.modGau_group_keep (f : Gau → Gau) (j : Nat) : (s.modGau f).group j = s.group j := rfl
@[simp] theorem State.modGau_src_keep (f : Gau → Gau) (j : Nat) : (s.modGau f).src j = s.src j := rfl
@[simp] theorem State.modGau_evt_keep (f : Gau → Gau) (j : Nat) : (s.modGau f).evt j = s.evt j := rfl
@[simp] theorem State.modGau_policy_keep (f : Gau → Gau) (j : Nat) : (s.modGau f).policy j = s.policy j := rfl
@[simp] theorem State.modGau_loop_keep (f : Gau → Gau) (j : Nat) : (s.modGau f).loop j = s.loop j := rfl
@[simp] theorem State.modGau_loopSt_keep (f : Gau → Gau) (j : Nat) : (s.modGau f).loopSt j = s.loopSt j := rfl
@[simp] theorem State.modGau_trace_keep (f : Gau → Gau) (j : Nat) : (s.modGau f).trace j = s.trace j := rfl
@[simp] theorem State.modGau_wdg_keep (f : Gau → Gau) (j : Nat) : (s.modGau f).wdg j = s.wdg j := rfl
@[simp] theorem State.modGau_fdev_keep (f : Gau → Gau) (j : Nat) : (s.modGau f).fdev j = s.fdev j := rfl
@[simp] theorem State.modGau_eye_keep (f : Gau → Gau) (j : Nat) : (s.modGau f).eye j = s.eye j := rfl
@[simp] theorem State.modGau_slotRec_keep (f : Gau → Gau) (j : Nat) : (s.modGau f).slotRec j = s.slotRec j := rfl
@[simp] theorem State.modGau_aseq_keep (f : Gau → Gau) (j : Nat) : (s.modGau f).aseq j = s.aseq j := rfl
@[simp] theorem State.modGau_chanOf_keep (f : Gau → Gau) (j : Nat) : (s.modGau f).chanOf j = s.chanOf j := rfl
@[simp] theorem State.modGau_meter_keep (f : Gau → Gau) (j : Nat) : (s.modGau f).meter j = s.meter j := rfl
@[simp] theorem State.modGau_thmIn_keep (f : Gau → Gau) (j : Nat) : (s.modGau f).thmIn j = s.thmIn j := rfl
@[simp] theorem State.modGau_zoneOf_keep (f : Gau → Gau) (j : Nat) : (s.modGau f).zoneOf j = s.zoneOf j := rfl
@[simp] theorem State.modGau_rwWord_keep (f : Gau → Gau) (j : Nat) : (s.modGau f).rwWord j = s.rwWord j := rfl
@[simp] theorem State.modGau_stored_keep (f : Gau → Gau) (j : Nat) : (s.modGau f).stored j = s.stored j := rfl
@[simp] theorem State.modGau_st_keep (f : Gau → Gau) (j : Nat) : (s.modGau f).st j = s.st j := rfl
@[simp] theorem State.modGau_iface_keep (f : Gau → Gau) (i : Iface) : (s.modGau f).iface i = s.iface i := rfl
@[simp] theorem State.modGau_live (f : Gau → Gau) : (s.modGau f).live = s.live := rfl
@[simp] theorem State.modRtc_rail_keep (f : Rtc → Rtc) (j : Nat) : (s.modRtc f).rail j = s.rail j := rfl
@[simp] theorem State.modRtc_phase_keep (f : Rtc → Rtc) (j : Nat) : (s.modRtc f).phase j = s.phase j := rfl
@[simp] theorem State.modRtc_switch_keep (f : Rtc → Rtc) (j : Nat) : (s.modRtc f).switch j = s.switch j := rfl
@[simp] theorem State.modRtc_group_keep (f : Rtc → Rtc) (j : Nat) : (s.modRtc f).group j = s.group j := rfl
@[simp] theorem State.modRtc_src_keep (f : Rtc → Rtc) (j : Nat) : (s.modRtc f).src j = s.src j := rfl
@[simp] theorem State.modRtc_evt_keep (f : Rtc → Rtc) (j : Nat) : (s.modRtc f).evt j = s.evt j := rfl
@[simp] theorem State.modRtc_policy_keep (f : Rtc → Rtc) (j : Nat) : (s.modRtc f).policy j = s.policy j := rfl
@[simp] theorem State.modRtc_loop_keep (f : Rtc → Rtc) (j : Nat) : (s.modRtc f).loop j = s.loop j := rfl
@[simp] theorem State.modRtc_loopSt_keep (f : Rtc → Rtc) (j : Nat) : (s.modRtc f).loopSt j = s.loopSt j := rfl
@[simp] theorem State.modRtc_trace_keep (f : Rtc → Rtc) (j : Nat) : (s.modRtc f).trace j = s.trace j := rfl
@[simp] theorem State.modRtc_wdg_keep (f : Rtc → Rtc) (j : Nat) : (s.modRtc f).wdg j = s.wdg j := rfl
@[simp] theorem State.modRtc_fdev_keep (f : Rtc → Rtc) (j : Nat) : (s.modRtc f).fdev j = s.fdev j := rfl
@[simp] theorem State.modRtc_eye_keep (f : Rtc → Rtc) (j : Nat) : (s.modRtc f).eye j = s.eye j := rfl
@[simp] theorem State.modRtc_slotRec_keep (f : Rtc → Rtc) (j : Nat) : (s.modRtc f).slotRec j = s.slotRec j := rfl
@[simp] theorem State.modRtc_aseq_keep (f : Rtc → Rtc) (j : Nat) : (s.modRtc f).aseq j = s.aseq j := rfl
@[simp] theorem State.modRtc_chanOf_keep (f : Rtc → Rtc) (j : Nat) : (s.modRtc f).chanOf j = s.chanOf j := rfl
@[simp] theorem State.modRtc_meter_keep (f : Rtc → Rtc) (j : Nat) : (s.modRtc f).meter j = s.meter j := rfl
@[simp] theorem State.modRtc_thmIn_keep (f : Rtc → Rtc) (j : Nat) : (s.modRtc f).thmIn j = s.thmIn j := rfl
@[simp] theorem State.modRtc_zoneOf_keep (f : Rtc → Rtc) (j : Nat) : (s.modRtc f).zoneOf j = s.zoneOf j := rfl
@[simp] theorem State.modRtc_rwWord_keep (f : Rtc → Rtc) (j : Nat) : (s.modRtc f).rwWord j = s.rwWord j := rfl
@[simp] theorem State.modRtc_stored_keep (f : Rtc → Rtc) (j : Nat) : (s.modRtc f).stored j = s.stored j := rfl
@[simp] theorem State.modRtc_st_keep (f : Rtc → Rtc) (j : Nat) : (s.modRtc f).st j = s.st j := rfl
@[simp] theorem State.modRtc_iface_keep (f : Rtc → Rtc) (i : Iface) : (s.modRtc f).iface i = s.iface i := rfl
@[simp] theorem State.modRtc_live (f : Rtc → Rtc) : (s.modRtc f).live = s.live := rfl
@[simp] theorem State.modRec_rail_keep (f : RecSt → RecSt) (j : Nat) : (s.modRec f).rail j = s.rail j := rfl
@[simp] theorem State.modRec_phase_keep (f : RecSt → RecSt) (j : Nat) : (s.modRec f).phase j = s.phase j := rfl
@[simp] theorem State.modRec_switch_keep (f : RecSt → RecSt) (j : Nat) : (s.modRec f).switch j = s.switch j := rfl
@[simp] theorem State.modRec_group_keep (f : RecSt → RecSt) (j : Nat) : (s.modRec f).group j = s.group j := rfl
@[simp] theorem State.modRec_src_keep (f : RecSt → RecSt) (j : Nat) : (s.modRec f).src j = s.src j := rfl
@[simp] theorem State.modRec_evt_keep (f : RecSt → RecSt) (j : Nat) : (s.modRec f).evt j = s.evt j := rfl
@[simp] theorem State.modRec_policy_keep (f : RecSt → RecSt) (j : Nat) : (s.modRec f).policy j = s.policy j := rfl
@[simp] theorem State.modRec_loop_keep (f : RecSt → RecSt) (j : Nat) : (s.modRec f).loop j = s.loop j := rfl
@[simp] theorem State.modRec_loopSt_keep (f : RecSt → RecSt) (j : Nat) : (s.modRec f).loopSt j = s.loopSt j := rfl
@[simp] theorem State.modRec_trace_keep (f : RecSt → RecSt) (j : Nat) : (s.modRec f).trace j = s.trace j := rfl
@[simp] theorem State.modRec_wdg_keep (f : RecSt → RecSt) (j : Nat) : (s.modRec f).wdg j = s.wdg j := rfl
@[simp] theorem State.modRec_fdev_keep (f : RecSt → RecSt) (j : Nat) : (s.modRec f).fdev j = s.fdev j := rfl
@[simp] theorem State.modRec_eye_keep (f : RecSt → RecSt) (j : Nat) : (s.modRec f).eye j = s.eye j := rfl
@[simp] theorem State.modRec_slotRec_keep (f : RecSt → RecSt) (j : Nat) : (s.modRec f).slotRec j = s.slotRec j := rfl
@[simp] theorem State.modRec_aseq_keep (f : RecSt → RecSt) (j : Nat) : (s.modRec f).aseq j = s.aseq j := rfl
@[simp] theorem State.modRec_chanOf_keep (f : RecSt → RecSt) (j : Nat) : (s.modRec f).chanOf j = s.chanOf j := rfl
@[simp] theorem State.modRec_meter_keep (f : RecSt → RecSt) (j : Nat) : (s.modRec f).meter j = s.meter j := rfl
@[simp] theorem State.modRec_thmIn_keep (f : RecSt → RecSt) (j : Nat) : (s.modRec f).thmIn j = s.thmIn j := rfl
@[simp] theorem State.modRec_zoneOf_keep (f : RecSt → RecSt) (j : Nat) : (s.modRec f).zoneOf j = s.zoneOf j := rfl
@[simp] theorem State.modRec_rwWord_keep (f : RecSt → RecSt) (j : Nat) : (s.modRec f).rwWord j = s.rwWord j := rfl
@[simp] theorem State.modRec_stored_keep (f : RecSt → RecSt) (j : Nat) : (s.modRec f).stored j = s.stored j := rfl
@[simp] theorem State.modRec_st_keep (f : RecSt → RecSt) (j : Nat) : (s.modRec f).st j = s.st j := rfl
@[simp] theorem State.modRec_iface_keep (f : RecSt → RecSt) (i : Iface) : (s.modRec f).iface i = s.iface i := rfl
@[simp] theorem State.modRec_live (f : RecSt → RecSt) : (s.modRec f).live = s.live := rfl
@[simp] theorem State.modHost_rail_keep (f : HostSt → HostSt) (j : Nat) : (s.modHost f).rail j = s.rail j := rfl
@[simp] theorem State.modHost_phase_keep (f : HostSt → HostSt) (j : Nat) : (s.modHost f).phase j = s.phase j := rfl
@[simp] theorem State.modHost_switch_keep (f : HostSt → HostSt) (j : Nat) : (s.modHost f).switch j = s.switch j := rfl
@[simp] theorem State.modHost_group_keep (f : HostSt → HostSt) (j : Nat) : (s.modHost f).group j = s.group j := rfl
@[simp] theorem State.modHost_src_keep (f : HostSt → HostSt) (j : Nat) : (s.modHost f).src j = s.src j := rfl
@[simp] theorem State.modHost_evt_keep (f : HostSt → HostSt) (j : Nat) : (s.modHost f).evt j = s.evt j := rfl
@[simp] theorem State.modHost_policy_keep (f : HostSt → HostSt) (j : Nat) : (s.modHost f).policy j = s.policy j := rfl
@[simp] theorem State.modHost_loop_keep (f : HostSt → HostSt) (j : Nat) : (s.modHost f).loop j = s.loop j := rfl
@[simp] theorem State.modHost_loopSt_keep (f : HostSt → HostSt) (j : Nat) : (s.modHost f).loopSt j = s.loopSt j := rfl
@[simp] theorem State.modHost_trace_keep (f : HostSt → HostSt) (j : Nat) : (s.modHost f).trace j = s.trace j := rfl
@[simp] theorem State.modHost_wdg_keep (f : HostSt → HostSt) (j : Nat) : (s.modHost f).wdg j = s.wdg j := rfl
@[simp] theorem State.modHost_fdev_keep (f : HostSt → HostSt) (j : Nat) : (s.modHost f).fdev j = s.fdev j := rfl
@[simp] theorem State.modHost_eye_keep (f : HostSt → HostSt) (j : Nat) : (s.modHost f).eye j = s.eye j := rfl
@[simp] theorem State.modHost_slotRec_keep (f : HostSt → HostSt) (j : Nat) : (s.modHost f).slotRec j = s.slotRec j := rfl
@[simp] theorem State.modHost_aseq_keep (f : HostSt → HostSt) (j : Nat) : (s.modHost f).aseq j = s.aseq j := rfl
@[simp] theorem State.modHost_chanOf_keep (f : HostSt → HostSt) (j : Nat) : (s.modHost f).chanOf j = s.chanOf j := rfl
@[simp] theorem State.modHost_meter_keep (f : HostSt → HostSt) (j : Nat) : (s.modHost f).meter j = s.meter j := rfl
@[simp] theorem State.modHost_thmIn_keep (f : HostSt → HostSt) (j : Nat) : (s.modHost f).thmIn j = s.thmIn j := rfl
@[simp] theorem State.modHost_zoneOf_keep (f : HostSt → HostSt) (j : Nat) : (s.modHost f).zoneOf j = s.zoneOf j := rfl
@[simp] theorem State.modHost_rwWord_keep (f : HostSt → HostSt) (j : Nat) : (s.modHost f).rwWord j = s.rwWord j := rfl
@[simp] theorem State.modHost_stored_keep (f : HostSt → HostSt) (j : Nat) : (s.modHost f).stored j = s.stored j := rfl
@[simp] theorem State.modHost_st_keep (f : HostSt → HostSt) (j : Nat) : (s.modHost f).st j = s.st j := rfl
@[simp] theorem State.modHost_live (f : HostSt → HostSt) : (s.modHost f).live = s.live := rfl
@[simp] theorem State.modOtp_rail_keep (f : Otp → Otp) (j : Nat) : (s.modOtp f).rail j = s.rail j := rfl
@[simp] theorem State.modOtp_phase_keep (f : Otp → Otp) (j : Nat) : (s.modOtp f).phase j = s.phase j := rfl
@[simp] theorem State.modOtp_switch_keep (f : Otp → Otp) (j : Nat) : (s.modOtp f).switch j = s.switch j := rfl
@[simp] theorem State.modOtp_group_keep (f : Otp → Otp) (j : Nat) : (s.modOtp f).group j = s.group j := rfl
@[simp] theorem State.modOtp_src_keep (f : Otp → Otp) (j : Nat) : (s.modOtp f).src j = s.src j := rfl
@[simp] theorem State.modOtp_evt_keep (f : Otp → Otp) (j : Nat) : (s.modOtp f).evt j = s.evt j := rfl
@[simp] theorem State.modOtp_policy_keep (f : Otp → Otp) (j : Nat) : (s.modOtp f).policy j = s.policy j := rfl
@[simp] theorem State.modOtp_loop_keep (f : Otp → Otp) (j : Nat) : (s.modOtp f).loop j = s.loop j := rfl
@[simp] theorem State.modOtp_loopSt_keep (f : Otp → Otp) (j : Nat) : (s.modOtp f).loopSt j = s.loopSt j := rfl
@[simp] theorem State.modOtp_trace_keep (f : Otp → Otp) (j : Nat) : (s.modOtp f).trace j = s.trace j := rfl
@[simp] theorem State.modOtp_wdg_keep (f : Otp → Otp) (j : Nat) : (s.modOtp f).wdg j = s.wdg j := rfl
@[simp] theorem State.modOtp_fdev_keep (f : Otp → Otp) (j : Nat) : (s.modOtp f).fdev j = s.fdev j := rfl
@[simp] theorem State.modOtp_eye_keep (f : Otp → Otp) (j : Nat) : (s.modOtp f).eye j = s.eye j := rfl
@[simp] theorem State.modOtp_slotRec_keep (f : Otp → Otp) (j : Nat) : (s.modOtp f).slotRec j = s.slotRec j := rfl
@[simp] theorem State.modOtp_aseq_keep (f : Otp → Otp) (j : Nat) : (s.modOtp f).aseq j = s.aseq j := rfl
@[simp] theorem State.modOtp_chanOf_keep (f : Otp → Otp) (j : Nat) : (s.modOtp f).chanOf j = s.chanOf j := rfl
@[simp] theorem State.modOtp_meter_keep (f : Otp → Otp) (j : Nat) : (s.modOtp f).meter j = s.meter j := rfl
@[simp] theorem State.modOtp_thmIn_keep (f : Otp → Otp) (j : Nat) : (s.modOtp f).thmIn j = s.thmIn j := rfl
@[simp] theorem State.modOtp_zoneOf_keep (f : Otp → Otp) (j : Nat) : (s.modOtp f).zoneOf j = s.zoneOf j := rfl
@[simp] theorem State.modOtp_rwWord_keep (f : Otp → Otp) (j : Nat) : (s.modOtp f).rwWord j = s.rwWord j := rfl
@[simp] theorem State.modOtp_stored_keep (f : Otp → Otp) (j : Nat) : (s.modOtp f).stored j = s.stored j := rfl
@[simp] theorem State.modOtp_st_keep (f : Otp → Otp) (j : Nat) : (s.modOtp f).st j = s.st j := rfl
@[simp] theorem State.modOtp_iface_keep (f : Otp → Otp) (i : Iface) : (s.modOtp f).iface i = s.iface i := rfl
@[simp] theorem State.modOtp_live (f : Otp → Otp) : (s.modOtp f).live = s.live := rfl
@[simp] theorem State.modUpd_rail_keep (f : Upd → Upd) (j : Nat) : (s.modUpd f).rail j = s.rail j := rfl
@[simp] theorem State.modUpd_phase_keep (f : Upd → Upd) (j : Nat) : (s.modUpd f).phase j = s.phase j := rfl
@[simp] theorem State.modUpd_switch_keep (f : Upd → Upd) (j : Nat) : (s.modUpd f).switch j = s.switch j := rfl
@[simp] theorem State.modUpd_group_keep (f : Upd → Upd) (j : Nat) : (s.modUpd f).group j = s.group j := rfl
@[simp] theorem State.modUpd_src_keep (f : Upd → Upd) (j : Nat) : (s.modUpd f).src j = s.src j := rfl
@[simp] theorem State.modUpd_evt_keep (f : Upd → Upd) (j : Nat) : (s.modUpd f).evt j = s.evt j := rfl
@[simp] theorem State.modUpd_policy_keep (f : Upd → Upd) (j : Nat) : (s.modUpd f).policy j = s.policy j := rfl
@[simp] theorem State.modUpd_loop_keep (f : Upd → Upd) (j : Nat) : (s.modUpd f).loop j = s.loop j := rfl
@[simp] theorem State.modUpd_loopSt_keep (f : Upd → Upd) (j : Nat) : (s.modUpd f).loopSt j = s.loopSt j := rfl
@[simp] theorem State.modUpd_trace_keep (f : Upd → Upd) (j : Nat) : (s.modUpd f).trace j = s.trace j := rfl
@[simp] theorem State.modUpd_wdg_keep (f : Upd → Upd) (j : Nat) : (s.modUpd f).wdg j = s.wdg j := rfl
@[simp] theorem State.modUpd_fdev_keep (f : Upd → Upd) (j : Nat) : (s.modUpd f).fdev j = s.fdev j := rfl
@[simp] theorem State.modUpd_eye_keep (f : Upd → Upd) (j : Nat) : (s.modUpd f).eye j = s.eye j := rfl
@[simp] theorem State.modUpd_slotRec_keep (f : Upd → Upd) (j : Nat) : (s.modUpd f).slotRec j = s.slotRec j := rfl
@[simp] theorem State.modUpd_aseq_keep (f : Upd → Upd) (j : Nat) : (s.modUpd f).aseq j = s.aseq j := rfl
@[simp] theorem State.modUpd_chanOf_keep (f : Upd → Upd) (j : Nat) : (s.modUpd f).chanOf j = s.chanOf j := rfl
@[simp] theorem State.modUpd_meter_keep (f : Upd → Upd) (j : Nat) : (s.modUpd f).meter j = s.meter j := rfl
@[simp] theorem State.modUpd_thmIn_keep (f : Upd → Upd) (j : Nat) : (s.modUpd f).thmIn j = s.thmIn j := rfl
@[simp] theorem State.modUpd_zoneOf_keep (f : Upd → Upd) (j : Nat) : (s.modUpd f).zoneOf j = s.zoneOf j := rfl
@[simp] theorem State.modUpd_rwWord_keep (f : Upd → Upd) (j : Nat) : (s.modUpd f).rwWord j = s.rwWord j := rfl
@[simp] theorem State.modUpd_stored_keep (f : Upd → Upd) (j : Nat) : (s.modUpd f).stored j = s.stored j := rfl
@[simp] theorem State.modUpd_st_keep (f : Upd → Upd) (j : Nat) : (s.modUpd f).st j = s.st j := rfl
@[simp] theorem State.modUpd_iface_keep (f : Upd → Upd) (i : Iface) : (s.modUpd f).iface i = s.iface i := rfl
@[simp] theorem State.modUpd_live (f : Upd → Upd) : (s.modUpd f).live = s.live := rfl
@[simp] theorem State.modIface_rail_keep (i : Iface) (f : HostIf → HostIf) (j : Nat) : (s.modIface i f).rail j = s.rail j := by cases i <;> rfl
@[simp] theorem State.modIface_phase_keep (i : Iface) (f : HostIf → HostIf) (j : Nat) : (s.modIface i f).phase j = s.phase j := by cases i <;> rfl
@[simp] theorem State.modIface_switch_keep (i : Iface) (f : HostIf → HostIf) (j : Nat) : (s.modIface i f).switch j = s.switch j := by cases i <;> rfl
@[simp] theorem State.modIface_group_keep (i : Iface) (f : HostIf → HostIf) (j : Nat) : (s.modIface i f).group j = s.group j := by cases i <;> rfl
@[simp] theorem State.modIface_src_keep (i : Iface) (f : HostIf → HostIf) (j : Nat) : (s.modIface i f).src j = s.src j := by cases i <;> rfl
@[simp] theorem State.modIface_evt_keep (i : Iface) (f : HostIf → HostIf) (j : Nat) : (s.modIface i f).evt j = s.evt j := by cases i <;> rfl
@[simp] theorem State.modIface_policy_keep (i : Iface) (f : HostIf → HostIf) (j : Nat) : (s.modIface i f).policy j = s.policy j := by cases i <;> rfl
@[simp] theorem State.modIface_loop_keep (i : Iface) (f : HostIf → HostIf) (j : Nat) : (s.modIface i f).loop j = s.loop j := by cases i <;> rfl
@[simp] theorem State.modIface_loopSt_keep (i : Iface) (f : HostIf → HostIf) (j : Nat) : (s.modIface i f).loopSt j = s.loopSt j := by cases i <;> rfl
@[simp] theorem State.modIface_trace_keep (i : Iface) (f : HostIf → HostIf) (j : Nat) : (s.modIface i f).trace j = s.trace j := by cases i <;> rfl
@[simp] theorem State.modIface_wdg_keep (i : Iface) (f : HostIf → HostIf) (j : Nat) : (s.modIface i f).wdg j = s.wdg j := by cases i <;> rfl
@[simp] theorem State.modIface_fdev_keep (i : Iface) (f : HostIf → HostIf) (j : Nat) : (s.modIface i f).fdev j = s.fdev j := by cases i <;> rfl
@[simp] theorem State.modIface_eye_keep (i : Iface) (f : HostIf → HostIf) (j : Nat) : (s.modIface i f).eye j = s.eye j := by cases i <;> rfl
@[simp] theorem State.modIface_slotRec_keep (i : Iface) (f : HostIf → HostIf) (j : Nat) : (s.modIface i f).slotRec j = s.slotRec j := by cases i <;> rfl
@[simp] theorem State.modIface_aseq_keep (i : Iface) (f : HostIf → HostIf) (j : Nat) : (s.modIface i f).aseq j = s.aseq j := by cases i <;> rfl
@[simp] theorem State.modIface_chanOf_keep (i : Iface) (f : HostIf → HostIf) (j : Nat) : (s.modIface i f).chanOf j = s.chanOf j := by cases i <;> rfl
@[simp] theorem State.modIface_meter_keep (i : Iface) (f : HostIf → HostIf) (j : Nat) : (s.modIface i f).meter j = s.meter j := by cases i <;> rfl
@[simp] theorem State.modIface_thmIn_keep (i : Iface) (f : HostIf → HostIf) (j : Nat) : (s.modIface i f).thmIn j = s.thmIn j := by cases i <;> rfl
@[simp] theorem State.modIface_zoneOf_keep (i : Iface) (f : HostIf → HostIf) (j : Nat) : (s.modIface i f).zoneOf j = s.zoneOf j := by cases i <;> rfl
@[simp] theorem State.modIface_rwWord_keep (i : Iface) (f : HostIf → HostIf) (j : Nat) : (s.modIface i f).rwWord j = s.rwWord j := by cases i <;> rfl
@[simp] theorem State.modIface_stored_keep (i : Iface) (f : HostIf → HostIf) (j : Nat) : (s.modIface i f).stored j = s.stored j := by cases i <;> rfl
@[simp] theorem State.modIface_st_keep (i : Iface) (f : HostIf → HostIf) (j : Nat) : (s.modIface i f).st j = s.st j := by cases i <;> rfl
@[simp] theorem State.modIface_live (i : Iface) (f : HostIf → HostIf) : (s.modIface i f).live = s.live := by cases i <;> rfl

end Sys2Proof.Machine
end

