-- ==== Sys2Proof/Laws/Collector.lean ====
section
/-! SUPPORT. What the fault collector, the events and their requests can do: an assertion, a release, a pulse, an event and a
wake condition stir only what `State.outside` blanks, keep every request that waits at a port but the requests of R273 to a
group, and move no source's line but their own and those of the pulses that events give. -/

namespace Sys2Proof.Machine

/-- What waits at a port and is, at port 1, no request to a group and no forced stop: those a graver source of their core cycle
replaces or takes over (R273). -/
def stays (x : Nat × List Req) : Prop := x.1 = 1 → ∀ q ∈ x.2, q.ep < 0x550 ∧ q.disch = false

theorem stays.not_reacts {x : Nat × List Req} (w : stays x) (h : x.1 = 1) (s : State) (g m : Nat) {q : Req} (hq : q ∈ x.2) :
    s.reactsFor g m q = false := by
  obtain ⟨h1, h2⟩ := w h q hq
  have : (q.ep == liGroup g) = false := beq_eq_false_iff_ne.2 (by simp only [liGroup]; omega)
  simp [State.reactsFor, h2, this]

/-- A request placed at a port waits there. -/
theorem placeOffer_new (p : Nat) (r : Req) (k : Nat) (l : List (Nat × List Req)) : (p, [r]) ∈ placeOffer p r k l := by
  induction l generalizing k with
  | nil => exact .head _
  | cons o t ih =>
    unfold placeOffer
    split
    · exact List.mem_cons_of_mem _ (ih _)
    · split
      · exact List.mem_cons_of_mem _ (ih _)
      · split
        · exact .head _
        · exact List.mem_cons_of_mem _ (ih _)

/-- Placing a request at a port keeps what waits at every port. -/
theorem placeOffer_mem {x : Nat × List Req} (p : Nat) (r : Req) (k : Nat) {l : List (Nat × List Req)} (h : x ∈ l) :
    x ∈ placeOffer p r k l := by
  induction l generalizing k with
  | nil => cases h
  | cons o t ih =>
    unfold placeOffer
    rcases List.mem_cons.1 h with h | h
    · split
      · exact List.mem_cons.2 (.inl h)
      · split
        · exact List.mem_cons.2 (.inl h)
        · split
          · exact List.mem_cons_of_mem _ (List.mem_cons.2 (.inl h))
          · exact List.mem_cons.2 (.inl h)
    · split
      · exact List.mem_cons_of_mem _ (ih _ h)
      · split
        · exact List.mem_cons_of_mem _ (ih _ h)
        · split
          · exact List.mem_cons_of_mem _ (List.mem_cons_of_mem _ h)
          · exact List.mem_cons_of_mem _ (ih _ h)

/-- From s the collector can have made t. -/
structure Stirs (s t : State) : Prop where
  outside : t.outside = s.outside
  lines : ∀ m, pulsed m = false → (t.src m).line = (s.src m).line
  offers : ∀ x ∈ s.pipe.offers, stays x → x ∈ t.pipe.offers
  stored : ∀ id, id < 0x550 → t.stored id = s.stored id
  slotPres : t.led.slotPres = s.led.slotPres
  devPres : t.led.devPres = s.led.devPres

theorem Stirs.refl (s : State) : Stirs s s := ⟨rfl, fun _ _ => rfl, fun _ h _ => h, fun _ _ => rfl, rfl, rfl⟩

theorem Stirs.trans {a b c : State} (h : Stirs a b) (k : Stirs b c) : Stirs a c :=
  ⟨k.outside.trans h.outside, fun m hm => (k.lines m hm).trans (h.lines m hm), fun x hx w => k.offers x (h.offers x hx w) w,
   fun id hi => (k.stored id hi).trans (h.stored id hi), k.slotPres.trans h.slotPres, k.devPres.trans h.devPres⟩

theorem Stirs.ite {a b c : State} {p : Prop} [Decidable p] (h : Stirs a b) (k : Stirs a c) : Stirs a (if p then b else c) := by
  split <;> assumption

theorem Stirs.foldl {α : Type} (f : State → α → State) (h : ∀ s a, Stirs s (f s a)) (l : List α) (s : State) :
    Stirs s (l.foldl f s) := by
  induction l generalizing s with
  | nil => exact .refl s
  | cons a t ih => exact (h s a).trans (ih _)

/-- A state that differs from s only in blanked fields other than sources, pipeline and ledger. -/
theorem Stirs.of_eq {s t : State} (h : t.outside = s.outside) (h2 : t.srcs = s.srcs) (h3 : t.pipe = s.pipe) (h4 : t.led = s.led := by rfl) : Stirs s t :=
  ⟨h, fun m _ => by simp [State.src, h2], fun x hx _ => by rw [h3]; exact hx, fun _ _ => by simp [State.stored, h4], by rw [h4], by rw [h4]⟩

theorem Stirs.modSrc (s : State) (n : Nat) (f : Source → Source) (h : ∀ x, (f x).line = x.line) : Stirs s (s.modSrc n f) :=
  ⟨rfl, fun m _ => by rw [State.modSrc_src_at]; split <;> simp_all, fun _ h _ => h, fun _ _ => rfl, rfl, rfl⟩

theorem Stirs.modPulsed (s : State) (n : Nat) (f : Source → Source) (h : pulsed n = true) : Stirs s (s.modSrc n f) :=
  ⟨rfl, fun m hm => by rw [State.modSrc_src_at]; split <;> simp_all, fun _ h _ => h, fun _ _ => rfl, rfl, rfl⟩

theorem Stirs.modGroup (s : State) (g : Nat) (f : Group → Group) : Stirs s (s.modGroup g f) := .of_eq rfl rfl rfl
theorem Stirs.modTrace (s : State) (b : Nat) (f : Trace → Trace) : Stirs s (s.modTrace b f) := .of_eq rfl rfl rfl
theorem Stirs.modPolicy (s : State) (li : Nat) (f : Policy → Policy) : Stirs s (s.modPolicy li f) := .of_eq rfl rfl rfl
theorem Stirs.modEvt (s : State) (e : Nat) (f : Event → Event) : Stirs s (s.modEvt e f) := .of_eq rfl rfl rfl
theorem Stirs.modRec (s : State) (f : RecSt → RecSt) : Stirs s (s.modRec f) := .of_eq rfl rfl rfl
theorem Stirs.faultN (s : State) (b : Bool) : Stirs s { s with faultN := b } := .of_eq rfl rfl rfl

theorem Stirs.latched (s : State) (v : HostSt → Tbl (BitVec 16)) : Stirs s (s.modHost fun h => { h with latched := v h }) := .of_eq rfl rfl rfl

theorem Stirs.commit (s : State) (id : Nat) (c : Cm) (h : 0x550 ≤ id) : Stirs s (s.commit id c) := by
  unfold State.commit
  refine .ite (.refl s) (.ite ⟨rfl, fun _ _ => rfl, fun _ h _ => h, fun j hj => ?_, by simp, by simp⟩ ?_)
  · simp only [State.stored, State.modLed_led, Ledger.put_cur]
    exact Tbl.get_set_other _ _ (by omega) _
  · exact ⟨rfl, fun _ _ => rfl, fun _ h _ => h, fun _ _ => rfl, rfl, rfl⟩

/-- A request at a port that keeps what waits there: every port but those of the loops and the publishers. -/
theorem Stirs.offer (s : State) (port : Nat) (l : List Req) (h : port ≠ 6 ∧ port ≠ 7) : Stirs s (s.offer port l) := by
  unfold State.offer
  simp only [h.1, h.2, or_self, if_false]
  have hq : ∀ l, Stirs s (s.modPipe fun p => { p with offers := p.offers ++ [(port, l)] }) :=
    fun l => ⟨rfl, fun _ _ => rfl, fun x hx _ => List.mem_append_left _ hx, fun _ _ => rfl, rfl, rfl⟩
  split
  · exact .ite ⟨rfl, fun _ _ => rfl, fun x hx _ => placeOffer_mem _ _ _ hx, fun _ _ => rfl, rfl, rfl⟩ (hq _)
  · exact hq _

theorem Stirs.addRec (s : State) (ty : Nat) (p : List Byte) : Stirs s (s.addRec ty p) := by
  unfold State.addRec
  extract_lets r need c n
  have hw : ∀ s r b, Stirs s (s.ringWrite r b) := fun s r b => .modRec s _
  exact .ite (.trans (.ite (.refl s) ((hw ..).trans (.modRec ..))) (hw ..)) (.ite (.ite (.modRec ..) (.modRec ..)) (.modRec ..))

theorem Stirs.srcEntry (s : State) (n : Nat) : Stirs s (s.srcEntry n) := by
  unfold State.srcEntry
  extract_lets now r
  have h1 : Stirs s (s.modSrc n fun x => { x with committed := true, dirty := false, sent := now }) := .modSrc _ _ _ fun _ => rfl
  exact .ite (.refl s) (.ite (.modSrc _ _ _ fun _ => rfl) (.ite (.modSrc _ _ _ fun _ => rfl) (h1.trans (.offer _ _ _ (by decide)))))

theorem Stirs.forceOff (s : State) (lis : List Nat) (port cls reqr : Nat) (h : port ≠ 6 ∧ port ≠ 7) :
    Stirs s (s.forceOff lis port cls reqr) := by
  unfold State.forceOff
  refine .foldl _ (fun s li => ?_) _ _
  have h1 := Stirs.offer s port [{ stateReq li .off cls reqr with disch := true }] h
  dsimp only
  split
  · exact h1.trans (.modGroup ..)
  · exact h1

theorem Stirs.groupCommit (s : State) (g : Nat) (st : Option EState) : Stirs s (s.groupCommit g st) :=
  (Stirs.modGroup s g _).trans (.commit _ _ _ (by simp only [liGroup]; omega))

theorem Stirs.dropGroupOp (s : State) (g : Nat) : Stirs s (s.dropGroupOp g) := by
  unfold State.dropGroupOp
  refine .ite (.refl s) (.foldl _ (fun s x => ?_) _ s)
  split
  · exact .ite ⟨rfl, fun _ _ => rfl, fun _ h _ => h, fun _ _ => rfl, rfl, rfl⟩ ⟨rfl, fun _ _ => rfl, fun _ h _ => h, fun _ _ => rfl, rfl, rfl⟩
  · exact .refl s

theorem Stirs.groupImmediate (s : State) (g port cls reqr : Nat) (h : port ≠ 6 ∧ port ≠ 7) : Stirs s (s.groupImmediate g port cls reqr) := by
  unfold State.groupImmediate
  extract_lets l s1 s2 s3
  have h1 : Stirs s s1 := .forceOff _ _ _ _ _ h
  have h2 : Stirs s s2 := (h1.trans (.dropGroupOp ..)).trans (.modGroup ..)
  have h3 : Stirs s s3 := h2.trans (.ite (.refl _) (.groupCommit ..))
  exact .ite (h3.trans ((Stirs.modGroup ..).trans (.groupCommit ..))) h3

theorem Stirs.phaseRequests (s : State) (n : Nat) : Stirs s (s.phaseRequests n) := by
  unfold State.phaseRequests
  extract_lets p r on s1
  refine .ite (.refl s) ?_
  split
  · exact .offer _ _ _ (by decide)
  · have h1 : Stirs s s1 := .offer _ _ _ (by decide)
    exact .ite h1 (h1.trans (.offer _ _ _ (by decide)))

theorem Stirs.builtIn (s : State) (n cause : Nat) (o : Bool) : Stirs s (s.builtIn n cause o) := by
  unfold State.builtIn
  dsimp only
  repeat' (first | exact .refl s | exact .phaseRequests s n | exact .offer s _ _ (by decide) | split)

theorem Stirs.localReaction (s : State) (n cause : Nat) : Stirs s (s.localReaction n cause) := by
  unfold State.localReaction
  dsimp only
  split
  · exact .refl s
  · split <;> first | exact .refl s | exact .offer s _ _ (by decide)

theorem Stirs.groupReaction (s : State) (n sev g : Nat) : Stirs s (s.groupReaction n sev g) := by
  unfold State.groupReaction
  extract_lets now earlier asks react
  have ha : ∀ s, Stirs s (asks s) := fun s => .modGroup s g _
  have hr : ∀ s, Stirs s (react s) := fun s => by
    dsimp only [react]
    split
    · exact .refl s
    · exact .ite ((ha s).trans (.groupImmediate _ _ _ _ _ (by decide))) ((ha s).trans (.offer _ _ _ (by decide)))
  refine .ite (.refl s) ?_
  clear_value earlier
  rcases earlier with _ | ⟨sv, m⟩
  · exact hr s
  · refine .ite (.refl s) (.ite ((ha s).trans ?_) (.ite (.refl s) (.trans ?_ (hr _))))
    · refine ⟨rfl, fun _ _ => rfl, fun x hx w => List.mem_map.2 ⟨x, hx, ?_⟩, fun _ _ => rfl, rfl, rfl⟩
      split
      · rename_i h1
        have : x.2.map (fun q => if s.reactsFor g m q then { q with reqr := reqrSource n } else q) = x.2 :=
          (List.map_congr_left fun q hq => by simp [w.not_reacts h1 _ _ _ hq]).trans (List.map_id _)
        exact Prod.ext rfl this
      · rfl
    · refine ⟨rfl, fun _ _ => rfl, fun x hx w => List.mem_filter.2 ⟨hx, ?_⟩, fun _ _ => rfl, rfl, rfl⟩
      by_cases h1 : x.1 = 1
      · simp only [Bool.not_eq_true', Bool.and_eq_false_iff, List.any_eq_false]
        exact .inr fun q hq => by simp [w.not_reacts h1 _ _ _ hq]
      · simp [h1]

theorem Stirs.traceExt (s : State) (cond : Nat → Nat → Nat → Bool) : Stirs s (s.traceExt cond) := by
  unfold State.traceExt
  exact .foldl _ (fun s b => .ite (.modTrace ..) (.refl s)) _ _

theorem Stirs.latchStatus (s : State) (n cause : Nat) : Stirs s (s.latchStatus n cause) := by
  unfold State.latchStatus
  split
  · exact .refl s
  · exact Stirs.latched s _

theorem Stirs.latchNote (s : State) (n : Nat) : Stirs s (s.latchNote n) := by
  unfold State.latchNote
  split
  · exact .ite (.modPolicy ..) (.refl s)
  · exact .refl s

theorem Stirs.raiseWith (pulse : State → Nat → State) (hp : ∀ s n, pulsed n = true → Stirs s (pulse s n)) (s : State) (e reqr : Nat) :
    Stirs s (s.raiseWith pulse e reqr) := by
  unfold State.raiseWith
  extract_lets x val now s1 s2 s3 n
  have h1 : Stirs s s1 := .modEvt ..
  have h3 : Stirs s s3 := (h1.trans (.addRec ..)).trans (.offer _ _ _ (by decide))
  refine .ite (.refl s) ?_
  split
  · rename_i h; exact h3.trans (hp _ _ (by simp only [pulsed, Bool.or_eq_true, Bool.and_eq_true, decide_eq_true_eq]; right; omega))
  · exact h3

theorem Stirs.wakeWith (raise : State → Nat → Nat → State) (pulse : State → Nat → State) (hr : ∀ s e r, Stirs s (raise s e r))
    (hp : ∀ s n, pulsed n = true → Stirs s (pulse s n)) (s : State) (code : Nat) : Stirs s (s.wakeWith raise pulse code) := by
  unfold State.wakeWith
  extract_lets now s1
  refine .ite ?_ (.ite ?_ (.refl s))
  · split
    · exact .of_eq rfl rfl rfl
    · exact .ite (.of_eq rfl rfl rfl) (.refl s)
  · have h1 : Stirs s s1 := .of_eq rfl rfl rfl
    exact (h1.trans (hr _ _ _)).trans (hp _ _ rfl)

theorem Stirs.qualifyWith (wake : State → Nat → State) (hw : ∀ s n, Stirs s (wake s n)) (s : State) (n : Nat) (moved : Bool) :
    Stirs s (s.qualifyWith wake n moved) := by
  unfold State.qualifyWith
  extract_lets cause sev s1 now s2 s3 s4 s5 s6
  have h1 : Stirs s s1 := .modSrc _ _ _ fun _ => rfl
  have h2 : Stirs s s2 := h1.trans (.modSrc _ _ _ fun _ => rfl)
  have h3 : Stirs s s3 := h2.trans (.modRec ..)
  have h4 : Stirs s s4 := h3.trans (.ite (.refl _) (.localReaction ..))
  have h5 : Stirs s s5 := h4.trans (.ite (by split <;> first | exact .groupReaction .. | exact .refl _)
    (.ite (.foldl _ (fun s g => .groupReaction ..) _ _) (.refl _)))
  have h6 : Stirs s s6 := h5.trans (.ite (.faultN ..) (.refl _))
  exact .ite h1 (.ite (h6.trans (hw _ _)) h6)

theorem Stirs.leaveCount (s : State) (n : Nat) : Stirs s (s.leaveCount n) := by
  unfold State.leaveCount
  exact .ite (.refl s) (.modSrc _ _ _ fun _ => rfl)

theorem Stirs.occurWith (wake : State → Nat → State) (hw : ∀ s n, Stirs s (wake s n)) (s : State) (n cause : Nat) (o : Bool) :
    Stirs s (s.occurWith wake n cause o) := by
  unfold State.occurWith
  extract_lets s1 s2 moved s3 s4 x qual s6 s7
  have h0 : Stirs s (s.modSrc n fun x => { x with cause := cause }) := .modSrc _ _ _ fun _ => rfl
  have h1 : Stirs s s1 := h0.trans (.latchStatus ..)
  have h2 : Stirs s s2 := h1.trans (.traceExt ..)
  have h3 : Stirs s s3 := h2.trans (.builtIn ..)
  have h4 : Stirs s s4 := ((h3.trans (.leaveCount ..)).trans (Stirs.modSrc (s3.leaveCount n) n
    (fun x => { x with sticky := true, occ := x.occ ++ [s3.glb.lineAt.getD s3.time] }) fun _ => rfl)).trans (.latchNote ..)
  have h6 : Stirs s s6 := h4.trans (.addRec ..)
  have h7 : Stirs s s7 := h6.trans (.ite (.qualifyWith wake hw ..) (.refl _))
  exact h7.trans (.srcEntry ..)

theorem Stirs.clearSrc (s : State) (n : Nat) : Stirs s (s.clearSrc n) := by
  unfold State.clearSrc
  extract_lets s1 s2
  have h1 : Stirs s s1 := .modSrc _ _ _ fun _ => rfl
  have h2 : Stirs s s2 := h1.trans (.ite (.faultN ..) (.refl _))
  exact h2.trans (.srcEntry ..)

/-- A change of source n: the change itself, and what the collector makes of it. -/
theorem Stirs.srcChangeWith (wake : State → Nat → State) (hw : ∀ s n, Stirs s (wake s n)) (s : State) (n : Nat)
    (f : Source → Source) (cause : Nat) (o : Bool) : Stirs (s.modSrc n f) (s.srcChangeWith wake n f cause o) := by
  unfold State.srcChangeWith
  dsimp only
  exact .ite (.ite (.modSrc _ _ _ fun _ => rfl) (.refl _)) (.ite (.ite (.builtIn ..) (.refl _)) (.ite (.occurWith wake hw ..) (.ite (.clearSrc ..) (.ite (.srcEntry ..) (.refl _)))))

theorem Stirs.pulseN (k : Nat) (s : State) (n : Nat) (h : pulsed n = true) : Stirs s (State.pulseN k s n) := by
  induction k generalizing s n with
  | zero => exact .refl s
  | succ k ih =>
    have hr : ∀ s e r, Stirs s (State.raiseWith (State.pulseN k) s e r) := fun s e r => .raiseWith _ (fun s n h => ih s n h) s e r
    have hw : ∀ s c, Stirs s (State.wakeWith (State.raiseWith (State.pulseN k)) (State.pulseN k) s c) :=
      fun s c => .wakeWith _ _ hr (fun s n h => ih s n h) s c
    unfold State.pulseN
    exact .ite (.refl s) ((((Stirs.modPulsed _ _ _ h).trans (.srcChangeWith _ hw ..)).trans (.modPulsed _ _ _ h)).trans (.srcChangeWith _ hw ..))

theorem Stirs.raiseEvt (s : State) (e reqr : Nat) : Stirs s (s.raiseEvt e reqr) :=
  .raiseWith _ (fun s n h => .pulseN 4 s n h) s e reqr

theorem Stirs.wake (s : State) (code : Nat) : Stirs s (s.wake code) :=
  .wakeWith _ _ Stirs.raiseEvt (fun s n h => .pulseN 4 s n h) s code

theorem Stirs.srcChange (s : State) (n : Nat) (f : Source → Source) (cause : Nat) (o : Bool) :
    Stirs (s.modSrc n f) (s.srcChange n f cause o) := .srcChangeWith _ Stirs.wake ..

/-- What a change of source n leaves, read off the change itself. -/
theorem State.srcChange_outside (s : State) (n : Nat) (f : Source → Source) (cause : Nat) (o : Bool) :
    (s.srcChange n f cause o).outside = s.outside := (Stirs.srcChange s n f cause o).outside

theorem State.srcChange_offers (s : State) (n : Nat) (f : Source → Source) (cause : Nat) (o : Bool) {x : Nat × List Req}
    (h : x ∈ s.pipe.offers) (w : stays x) : x ∈ (s.srcChange n f cause o).pipe.offers := (Stirs.srcChange s n f cause o).offers x h w

theorem State.srcChange_line (s : State) (n : Nat) (f : Source → Source) (cause : Nat) (o : Bool) (m : Nat) (h : pulsed m = false) :
    ((s.srcChange n f cause o).src m).line = if n = m then (f (s.src n)).line else (s.src m).line := by
  rw [(Stirs.srcChange s n f cause o).lines m h, State.modSrc_src_at]; split <;> rfl

theorem Stirs.assertOther (s : State) (n cause m : Nat) (h : pulsed m = false) : ((s.assertSrc n cause).src m).line = if n = m then true else (s.src m).line :=
  State.srcChange_line _ _ _ _ _ _ h

/-- The line of source n asserts. -/
theorem State.assertSrc_line (s : State) (n cause : Nat) (h : pulsed n = false) : ((s.assertSrc n cause).src n).line = true := by
  simp [State.assertSrc, State.srcChange_line, h]

/-- The line of source n clears. -/
theorem State.releaseSrc_line (s : State) (n : Nat) (h : pulsed n = false) : ((s.releaseSrc n).src n).line = false := by
  simp [State.releaseSrc, State.srcChange_line, h]

@[simp] theorem State.raiseEvt_outside (s : State) (e reqr : Nat) : (s.raiseEvt e reqr).outside = s.outside := (Stirs.raiseEvt s e reqr).outside
@[simp] theorem State.wake_outside (s : State) (c : Nat) : (s.wake c).outside = s.outside := (Stirs.wake s c).outside
@[simp] theorem State.assertSrc_outside (s : State) (n c : Nat) : (s.assertSrc n c).outside = s.outside := State.srcChange_outside ..
@[simp] theorem State.releaseSrc_outside (s : State) (n : Nat) : (s.releaseSrc n).outside = s.outside := State.srcChange_outside ..
@[simp] theorem State.pulseSrc_outside (s : State) (n c : Nat) : (s.pulseSrc n c).outside = s.outside := by simp [State.pulseSrc]
@[simp] theorem State.followSrc_outside (s : State) (n c : Nat) (b : Bool) : (s.followSrc n c b).outside = s.outside := by
  unfold State.followSrc; split <;> simp

@[simp] theorem State.raiseEvt_pending (s : State) (e reqr : Nat) : (s.raiseEvt e reqr).pending = s.pending := (congrArg State.pending (State.raiseEvt_outside s e reqr) :)
@[simp] theorem State.raiseEvt_freeCtr (s : State) (e reqr : Nat) : (s.raiseEvt e reqr).freeCtr = s.freeCtr := (congrArg State.freeCtr (State.raiseEvt_outside s e reqr) :)
@[simp] theorem State.raiseEvt_cyc (s : State) (e reqr : Nat) : (s.raiseEvt e reqr).cyc = s.cyc := (congrArg State.cyc (State.raiseEvt_outside s e reqr) :)
@[simp] theorem State.raiseEvt_tickAt (s : State) (e reqr : Nat) : (s.raiseEvt e reqr).tickAt = s.tickAt := (congrArg State.tickAt (State.raiseEvt_outside s e reqr) :)
@[simp] theorem State.raiseEvt_img (s : State) (e reqr : Nat) : (s.raiseEvt e reqr).img = s.img := (congrArg State.img (State.raiseEvt_outside s e reqr) :)
@[simp] theorem State.raiseEvt_newImg (s : State) (e reqr : Nat) : (s.raiseEvt e reqr).newImg = s.newImg := (congrArg State.newImg (State.raiseEvt_outside s e reqr) :)
@[simp] theorem State.raiseEvt_rw (s : State) (e reqr : Nat) : (s.raiseEvt e reqr).rw = s.rw := (congrArg State.rw (State.raiseEvt_outside s e reqr) :)
@[simp] theorem State.raiseEvt_loops (s : State) (e reqr : Nat) : (s.raiseEvt e reqr).loops = s.loops := (congrArg State.loops (State.raiseEvt_outside s e reqr) :)
@[simp] theorem State.raiseEvt_rails (s : State) (e reqr : Nat) : (s.raiseEvt e reqr).rails = s.rails := (congrArg State.rails (State.raiseEvt_outside s e reqr) :)
@[simp] theorem State.raiseEvt_lathe (s : State) (e reqr : Nat) : (s.raiseEvt e reqr).lathe = s.lathe := (congrArg State.lathe (State.raiseEvt_outside s e reqr) :)
@[simp] theorem State.raiseEvt_phases (s : State) (e reqr : Nat) : (s.raiseEvt e reqr).phases = s.phases := (congrArg State.phases (State.raiseEvt_outside s e reqr) :)
@[simp] theorem State.raiseEvt_switches (s : State) (e reqr : Nat) : (s.raiseEvt e reqr).switches = s.switches := (congrArg State.switches (State.raiseEvt_outside s e reqr) :)
@[simp] theorem State.raiseEvt_seq (s : State) (e reqr : Nat) : (s.raiseEvt e reqr).seq = s.seq := (congrArg State.seq (State.raiseEvt_outside s e reqr) :)
@[simp] theorem State.raiseEvt_lane (s : State) (e reqr : Nat) : (s.raiseEvt e reqr).lane = s.lane := (congrArg State.lane (State.raiseEvt_outside s e reqr) :)
@[simp] theorem State.raiseEvt_lace (s : State) (e reqr : Nat) : (s.raiseEvt e reqr).lace = s.lace := (congrArg State.lace (State.raiseEvt_outside s e reqr) :)
@[simp] theorem State.raiseEvt_foreign (s : State) (e reqr : Nat) : (s.raiseEvt e reqr).foreign = s.foreign := (congrArg State.foreign (State.raiseEvt_outside s e reqr) :)
@[simp] theorem State.raiseEvt_vmodes (s : State) (e reqr : Nat) : (s.raiseEvt e reqr).vmodes = s.vmodes := (congrArg State.vmodes (State.raiseEvt_outside s e reqr) :)
@[simp] theorem State.raiseEvt_adc (s : State) (e reqr : Nat) : (s.raiseEvt e reqr).adc = s.adc := (congrArg State.adc (State.raiseEvt_outside s e reqr) :)
@[simp] theorem State.raiseEvt_thm (s : State) (e reqr : Nat) : (s.raiseEvt e reqr).thm = s.thm := (congrArg State.thm (State.raiseEvt_outside s e reqr) :)
@[simp] theorem State.raiseEvt_chg (s : State) (e reqr : Nat) : (s.raiseEvt e reqr).chg = s.chg := (congrArg State.chg (State.raiseEvt_outside s e reqr) :)
@[simp] theorem State.raiseEvt_gau (s : State) (e reqr : Nat) : (s.raiseEvt e reqr).gau = s.gau := (congrArg State.gau (State.raiseEvt_outside s e reqr) :)
@[simp] theorem State.raiseEvt_rtc (s : State) (e reqr : Nat) : (s.raiseEvt e reqr).rtc = s.rtc := (congrArg State.rtc (State.raiseEvt_outside s e reqr) :)
@[simp] theorem State.raiseEvt_wdgs (s : State) (e reqr : Nat) : (s.raiseEvt e reqr).wdgs = s.wdgs := (congrArg State.wdgs (State.raiseEvt_outside s e reqr) :)
@[simp] theorem State.raiseEvt_tbRc (s : State) (e reqr : Nat) : (s.raiseEvt e reqr).tbRc = s.tbRc := (congrArg State.tbRc (State.raiseEvt_outside s e reqr) :)
@[simp] theorem State.raiseEvt_otp (s : State) (e reqr : Nat) : (s.raiseEvt e reqr).otp = s.otp := (congrArg State.otp (State.raiseEvt_outside s e reqr) :)
@[simp] theorem State.raiseEvt_upd (s : State) (e reqr : Nat) : (s.raiseEvt e reqr).upd = s.upd := (congrArg State.upd (State.raiseEvt_outside s e reqr) :)
@[simp] theorem State.raiseEvt_mram (s : State) (e reqr : Nat) : (s.raiseEvt e reqr).mram = s.mram := (congrArg State.mram (State.raiseEvt_outside s e reqr) :)
@[simp] theorem State.raiseEvt_setAt (s : State) (e reqr : Nat) : (s.raiseEvt e reqr).setAt = s.setAt := (congrArg State.setAt (State.raiseEvt_outside s e reqr) :)
@[simp] theorem State.raiseEvt_mode (s : State) (e reqr : Nat) : (s.raiseEvt e reqr).glb.mode = s.glb.mode := (congrArg (fun t => t.glb.mode) (State.raiseEvt_outside s e reqr) :)
@[simp] theorem State.wake_pending (s : State) (c : Nat) : (s.wake c).pending = s.pending := (congrArg State.pending (State.wake_outside s c) :)
@[simp] theorem State.wake_freeCtr (s : State) (c : Nat) : (s.wake c).freeCtr = s.freeCtr := (congrArg State.freeCtr (State.wake_outside s c) :)
@[simp] theorem State.wake_cyc (s : State) (c : Nat) : (s.wake c).cyc = s.cyc := (congrArg State.cyc (State.wake_outside s c) :)
@[simp] theorem State.wake_tickAt (s : State) (c : Nat) : (s.wake c).tickAt = s.tickAt := (congrArg State.tickAt (State.wake_outside s c) :)
@[simp] theorem State.wake_img (s : State) (c : Nat) : (s.wake c).img = s.img := (congrArg State.img (State.wake_outside s c) :)
@[simp] theorem State.wake_newImg (s : State) (c : Nat) : (s.wake c).newImg = s.newImg := (congrArg State.newImg (State.wake_outside s c) :)
@[simp] theorem State.wake_rw (s : State) (c : Nat) : (s.wake c).rw = s.rw := (congrArg State.rw (State.wake_outside s c) :)
@[simp] theorem State.wake_loops (s : State) (c : Nat) : (s.wake c).loops = s.loops := (congrArg State.loops (State.wake_outside s c) :)
@[simp] theorem State.wake_rails (s : State) (c : Nat) : (s.wake c).rails = s.rails := (congrArg State.rails (State.wake_outside s c) :)
@[simp] theorem State.wake_lathe (s : State) (c : Nat) : (s.wake c).lathe = s.lathe := (congrArg State.lathe (State.wake_outside s c) :)
@[simp] theorem State.wake_phases (s : State) (c : Nat) : (s.wake c).phases = s.phases := (congrArg State.phases (State.wake_outside s c) :)
@[simp] theorem State.wake_switches (s : State) (c : Nat) : (s.wake c).switches = s.switches := (congrArg State.switches (State.wake_outside s c) :)
@[simp] theorem State.wake_seq (s : State) (c : Nat) : (s.wake c).seq = s.seq := (congrArg State.seq (State.wake_outside s c) :)
@[simp] theorem State.wake_lane (s : State) (c : Nat) : (s.wake c).lane = s.lane := (congrArg State.lane (State.wake_outside s c) :)
@[simp] theorem State.wake_lace (s : State) (c : Nat) : (s.wake c).lace = s.lace := (congrArg State.lace (State.wake_outside s c) :)
@[simp] theorem State.wake_foreign (s : State) (c : Nat) : (s.wake c).foreign = s.foreign := (congrArg State.foreign (State.wake_outside s c) :)
@[simp] theorem State.wake_vmodes (s : State) (c : Nat) : (s.wake c).vmodes = s.vmodes := (congrArg State.vmodes (State.wake_outside s c) :)
@[simp] theorem State.wake_adc (s : State) (c : Nat) : (s.wake c).adc = s.adc := (congrArg State.adc (State.wake_outside s c) :)
@[simp] theorem State.wake_thm (s : State) (c : Nat) : (s.wake c).thm = s.thm := (congrArg State.thm (State.wake_outside s c) :)
@[simp] theorem State.wake_chg (s : State) (c : Nat) : (s.wake c).chg = s.chg := (congrArg State.chg (State.wake_outside s c) :)
@[simp] theorem State.wake_gau (s : State) (c : Nat) : (s.wake c).gau = s.gau := (congrArg State.gau (State.wake_outside s c) :)
@[simp] theorem State.wake_rtc (s : State) (c : Nat) : (s.wake c).rtc = s.rtc := (congrArg State.rtc (State.wake_outside s c) :)
@[simp] theorem State.wake_wdgs (s : State) (c : Nat) : (s.wake c).wdgs = s.wdgs := (congrArg State.wdgs (State.wake_outside s c) :)
@[simp] theorem State.wake_tbRc (s : State) (c : Nat) : (s.wake c).tbRc = s.tbRc := (congrArg State.tbRc (State.wake_outside s c) :)
@[simp] theorem State.wake_otp (s : State) (c : Nat) : (s.wake c).otp = s.otp := (congrArg State.otp (State.wake_outside s c) :)
@[simp] theorem State.wake_upd (s : State) (c : Nat) : (s.wake c).upd = s.upd := (congrArg State.upd (State.wake_outside s c) :)
@[simp] theorem State.wake_mram (s : State) (c : Nat) : (s.wake c).mram = s.mram := (congrArg State.mram (State.wake_outside s c) :)
@[simp] theorem State.wake_setAt (s : State) (c : Nat) : (s.wake c).setAt = s.setAt := (congrArg State.setAt (State.wake_outside s c) :)
@[simp] theorem State.wake_mode (s : State) (c : Nat) : (s.wake c).glb.mode = s.glb.mode := (congrArg (fun t => t.glb.mode) (State.wake_outside s c) :)
@[simp] theorem State.assertSrc_pending (s : State) (n c : Nat) : (s.assertSrc n c).pending = s.pending := (congrArg State.pending (State.assertSrc_outside s n c) :)
@[simp] theorem State.assertSrc_freeCtr (s : State) (n c : Nat) : (s.assertSrc n c).freeCtr = s.freeCtr := (congrArg State.freeCtr (State.assertSrc_outside s n c) :)
@[simp] theorem State.assertSrc_cyc (s : State) (n c : Nat) : (s.assertSrc n c).cyc = s.cyc := (congrArg State.cyc (State.assertSrc_outside s n c) :)
@[simp] theorem State.assertSrc_tickAt (s : State) (n c : Nat) : (s.assertSrc n c).tickAt = s.tickAt := (congrArg State.tickAt (State.assertSrc_outside s n c) :)
@[simp] theorem State.assertSrc_img (s : State) (n c : Nat) : (s.assertSrc n c).img = s.img := (congrArg State.img (State.assertSrc_outside s n c) :)
@[simp] theorem State.assertSrc_newImg (s : State) (n c : Nat) : (s.assertSrc n c).newImg = s.newImg := (congrArg State.newImg (State.assertSrc_outside s n c) :)
@[simp] theorem State.assertSrc_rw (s : State) (n c : Nat) : (s.assertSrc n c).rw = s.rw := (congrArg State.rw (State.assertSrc_outside s n c) :)
@[simp] theorem State.assertSrc_loops (s : State) (n c : Nat) : (s.assertSrc n c).loops = s.loops := (congrArg State.loops (State.assertSrc_outside s n c) :)
@[simp] theorem State.assertSrc_rails (s : State) (n c : Nat) : (s.assertSrc n c).rails = s.rails := (congrArg State.rails (State.assertSrc_outside s n c) :)
@[simp] theorem State.assertSrc_lathe (s : State) (n c : Nat) : (s.assertSrc n c).lathe = s.lathe := (congrArg State.lathe (State.assertSrc_outside s n c) :)
@[simp] theorem State.assertSrc_phases (s : State) (n c : Nat) : (s.assertSrc n c).phases = s.phases := (congrArg State.phases (State.assertSrc_outside s n c) :)
@[simp] theorem State.assertSrc_switches (s : State) (n c : Nat) : (s.assertSrc n c).switches = s.switches := (congrArg State.switches (State.assertSrc_outside s n c) :)
@[simp] theorem State.assertSrc_seq (s : State) (n c : Nat) : (s.assertSrc n c).seq = s.seq := (congrArg State.seq (State.assertSrc_outside s n c) :)
@[simp] theorem State.assertSrc_lane (s : State) (n c : Nat) : (s.assertSrc n c).lane = s.lane := (congrArg State.lane (State.assertSrc_outside s n c) :)
@[simp] theorem State.assertSrc_lace (s : State) (n c : Nat) : (s.assertSrc n c).lace = s.lace := (congrArg State.lace (State.assertSrc_outside s n c) :)
@[simp] theorem State.assertSrc_foreign (s : State) (n c : Nat) : (s.assertSrc n c).foreign = s.foreign := (congrArg State.foreign (State.assertSrc_outside s n c) :)
@[simp] theorem State.assertSrc_vmodes (s : State) (n c : Nat) : (s.assertSrc n c).vmodes = s.vmodes := (congrArg State.vmodes (State.assertSrc_outside s n c) :)
@[simp] theorem State.assertSrc_adc (s : State) (n c : Nat) : (s.assertSrc n c).adc = s.adc := (congrArg State.adc (State.assertSrc_outside s n c) :)
@[simp] theorem State.assertSrc_thm (s : State) (n c : Nat) : (s.assertSrc n c).thm = s.thm := (congrArg State.thm (State.assertSrc_outside s n c) :)
@[simp] theorem State.assertSrc_chg (s : State) (n c : Nat) : (s.assertSrc n c).chg = s.chg := (congrArg State.chg (State.assertSrc_outside s n c) :)
@[simp] theorem State.assertSrc_gau (s : State) (n c : Nat) : (s.assertSrc n c).gau = s.gau := (congrArg State.gau (State.assertSrc_outside s n c) :)
@[simp] theorem State.assertSrc_rtc (s : State) (n c : Nat) : (s.assertSrc n c).rtc = s.rtc := (congrArg State.rtc (State.assertSrc_outside s n c) :)
@[simp] theorem State.assertSrc_wdgs (s : State) (n c : Nat) : (s.assertSrc n c).wdgs = s.wdgs := (congrArg State.wdgs (State.assertSrc_outside s n c) :)
@[simp] theorem State.assertSrc_tbRc (s : State) (n c : Nat) : (s.assertSrc n c).tbRc = s.tbRc := (congrArg State.tbRc (State.assertSrc_outside s n c) :)
@[simp] theorem State.assertSrc_otp (s : State) (n c : Nat) : (s.assertSrc n c).otp = s.otp := (congrArg State.otp (State.assertSrc_outside s n c) :)
@[simp] theorem State.assertSrc_upd (s : State) (n c : Nat) : (s.assertSrc n c).upd = s.upd := (congrArg State.upd (State.assertSrc_outside s n c) :)
@[simp] theorem State.assertSrc_mram (s : State) (n c : Nat) : (s.assertSrc n c).mram = s.mram := (congrArg State.mram (State.assertSrc_outside s n c) :)
@[simp] theorem State.assertSrc_setAt (s : State) (n c : Nat) : (s.assertSrc n c).setAt = s.setAt := (congrArg State.setAt (State.assertSrc_outside s n c) :)
@[simp] theorem State.assertSrc_mode (s : State) (n c : Nat) : (s.assertSrc n c).glb.mode = s.glb.mode := (congrArg (fun t => t.glb.mode) (State.assertSrc_outside s n c) :)
@[simp] theorem State.releaseSrc_pending (s : State) (n : Nat) : (s.releaseSrc n).pending = s.pending := (congrArg State.pending (State.releaseSrc_outside s n) :)
@[simp] theorem State.releaseSrc_freeCtr (s : State) (n : Nat) : (s.releaseSrc n).freeCtr = s.freeCtr := (congrArg State.freeCtr (State.releaseSrc_outside s n) :)
@[simp] theorem State.releaseSrc_cyc (s : State) (n : Nat) : (s.releaseSrc n).cyc = s.cyc := (congrArg State.cyc (State.releaseSrc_outside s n) :)
@[simp] theorem State.releaseSrc_tickAt (s : State) (n : Nat) : (s.releaseSrc n).tickAt = s.tickAt := (congrArg State.tickAt (State.releaseSrc_outside s n) :)
@[simp] theorem State.releaseSrc_img (s : State) (n : Nat) : (s.releaseSrc n).img = s.img := (congrArg State.img (State.releaseSrc_outside s n) :)
@[simp] theorem State.releaseSrc_newImg (s : State) (n : Nat) : (s.releaseSrc n).newImg = s.newImg := (congrArg State.newImg (State.releaseSrc_outside s n) :)
@[simp] theorem State.releaseSrc_rw (s : State) (n : Nat) : (s.releaseSrc n).rw = s.rw := (congrArg State.rw (State.releaseSrc_outside s n) :)
@[simp] theorem State.releaseSrc_loops (s : State) (n : Nat) : (s.releaseSrc n).loops = s.loops := (congrArg State.loops (State.releaseSrc_outside s n) :)
@[simp] theorem State.releaseSrc_rails (s : State) (n : Nat) : (s.releaseSrc n).rails = s.rails := (congrArg State.rails (State.releaseSrc_outside s n) :)
@[simp] theorem State.releaseSrc_lathe (s : State) (n : Nat) : (s.releaseSrc n).lathe = s.lathe := (congrArg State.lathe (State.releaseSrc_outside s n) :)
@[simp] theorem State.releaseSrc_phases (s : State) (n : Nat) : (s.releaseSrc n).phases = s.phases := (congrArg State.phases (State.releaseSrc_outside s n) :)
@[simp] theorem State.releaseSrc_switches (s : State) (n : Nat) : (s.releaseSrc n).switches = s.switches := (congrArg State.switches (State.releaseSrc_outside s n) :)
@[simp] theorem State.releaseSrc_seq (s : State) (n : Nat) : (s.releaseSrc n).seq = s.seq := (congrArg State.seq (State.releaseSrc_outside s n) :)
@[simp] theorem State.releaseSrc_lane (s : State) (n : Nat) : (s.releaseSrc n).lane = s.lane := (congrArg State.lane (State.releaseSrc_outside s n) :)
@[simp] theorem State.releaseSrc_lace (s : State) (n : Nat) : (s.releaseSrc n).lace = s.lace := (congrArg State.lace (State.releaseSrc_outside s n) :)
@[simp] theorem State.releaseSrc_foreign (s : State) (n : Nat) : (s.releaseSrc n).foreign = s.foreign := (congrArg State.foreign (State.releaseSrc_outside s n) :)
@[simp] theorem State.releaseSrc_vmodes (s : State) (n : Nat) : (s.releaseSrc n).vmodes = s.vmodes := (congrArg State.vmodes (State.releaseSrc_outside s n) :)
@[simp] theorem State.releaseSrc_adc (s : State) (n : Nat) : (s.releaseSrc n).adc = s.adc := (congrArg State.adc (State.releaseSrc_outside s n) :)
@[simp] theorem State.releaseSrc_thm (s : State) (n : Nat) : (s.releaseSrc n).thm = s.thm := (congrArg State.thm (State.releaseSrc_outside s n) :)
@[simp] theorem State.releaseSrc_chg (s : State) (n : Nat) : (s.releaseSrc n).chg = s.chg := (congrArg State.chg (State.releaseSrc_outside s n) :)
@[simp] theorem State.releaseSrc_gau (s : State) (n : Nat) : (s.releaseSrc n).gau = s.gau := (congrArg State.gau (State.releaseSrc_outside s n) :)
@[simp] theorem State.releaseSrc_rtc (s : State) (n : Nat) : (s.releaseSrc n).rtc = s.rtc := (congrArg State.rtc (State.releaseSrc_outside s n) :)
@[simp] theorem State.releaseSrc_wdgs (s : State) (n : Nat) : (s.releaseSrc n).wdgs = s.wdgs := (congrArg State.wdgs (State.releaseSrc_outside s n) :)
@[simp] theorem State.releaseSrc_tbRc (s : State) (n : Nat) : (s.releaseSrc n).tbRc = s.tbRc := (congrArg State.tbRc (State.releaseSrc_outside s n) :)
@[simp] theorem State.releaseSrc_otp (s : State) (n : Nat) : (s.releaseSrc n).otp = s.otp := (congrArg State.otp (State.releaseSrc_outside s n) :)
@[simp] theorem State.releaseSrc_upd (s : State) (n : Nat) : (s.releaseSrc n).upd = s.upd := (congrArg State.upd (State.releaseSrc_outside s n) :)
@[simp] theorem State.releaseSrc_mram (s : State) (n : Nat) : (s.releaseSrc n).mram = s.mram := (congrArg State.mram (State.releaseSrc_outside s n) :)
@[simp] theorem State.releaseSrc_setAt (s : State) (n : Nat) : (s.releaseSrc n).setAt = s.setAt := (congrArg State.setAt (State.releaseSrc_outside s n) :)
@[simp] theorem State.releaseSrc_mode (s : State) (n : Nat) : (s.releaseSrc n).glb.mode = s.glb.mode := (congrArg (fun t => t.glb.mode) (State.releaseSrc_outside s n) :)
@[simp] theorem State.pulseSrc_pending (s : State) (n c : Nat) : (s.pulseSrc n c).pending = s.pending := (congrArg State.pending (State.pulseSrc_outside s n c) :)
@[simp] theorem State.pulseSrc_freeCtr (s : State) (n c : Nat) : (s.pulseSrc n c).freeCtr = s.freeCtr := (congrArg State.freeCtr (State.pulseSrc_outside s n c) :)
@[simp] theorem State.pulseSrc_cyc (s : State) (n c : Nat) : (s.pulseSrc n c).cyc = s.cyc := (congrArg State.cyc (State.pulseSrc_outside s n c) :)
@[simp] theorem State.pulseSrc_tickAt (s : State) (n c : Nat) : (s.pulseSrc n c).tickAt = s.tickAt := (congrArg State.tickAt (State.pulseSrc_outside s n c) :)
@[simp] theorem State.pulseSrc_img (s : State) (n c : Nat) : (s.pulseSrc n c).img = s.img := (congrArg State.img (State.pulseSrc_outside s n c) :)
@[simp] theorem State.pulseSrc_newImg (s : State) (n c : Nat) : (s.pulseSrc n c).newImg = s.newImg := (congrArg State.newImg (State.pulseSrc_outside s n c) :)
@[simp] theorem State.pulseSrc_rw (s : State) (n c : Nat) : (s.pulseSrc n c).rw = s.rw := (congrArg State.rw (State.pulseSrc_outside s n c) :)
@[simp] theorem State.pulseSrc_loops (s : State) (n c : Nat) : (s.pulseSrc n c).loops = s.loops := (congrArg State.loops (State.pulseSrc_outside s n c) :)
@[simp] theorem State.pulseSrc_rails (s : State) (n c : Nat) : (s.pulseSrc n c).rails = s.rails := (congrArg State.rails (State.pulseSrc_outside s n c) :)
@[simp] theorem State.pulseSrc_lathe (s : State) (n c : Nat) : (s.pulseSrc n c).lathe = s.lathe := (congrArg State.lathe (State.pulseSrc_outside s n c) :)
@[simp] theorem State.pulseSrc_phases (s : State) (n c : Nat) : (s.pulseSrc n c).phases = s.phases := (congrArg State.phases (State.pulseSrc_outside s n c) :)
@[simp] theorem State.pulseSrc_switches (s : State) (n c : Nat) : (s.pulseSrc n c).switches = s.switches := (congrArg State.switches (State.pulseSrc_outside s n c) :)
@[simp] theorem State.pulseSrc_seq (s : State) (n c : Nat) : (s.pulseSrc n c).seq = s.seq := (congrArg State.seq (State.pulseSrc_outside s n c) :)
@[simp] theorem State.pulseSrc_lane (s : State) (n c : Nat) : (s.pulseSrc n c).lane = s.lane := (congrArg State.lane (State.pulseSrc_outside s n c) :)
@[simp] theorem State.pulseSrc_lace (s : State) (n c : Nat) : (s.pulseSrc n c).lace = s.lace := (congrArg State.lace (State.pulseSrc_outside s n c) :)
@[simp] theorem State.pulseSrc_foreign (s : State) (n c : Nat) : (s.pulseSrc n c).foreign = s.foreign := (congrArg State.foreign (State.pulseSrc_outside s n c) :)
@[simp] theorem State.pulseSrc_vmodes (s : State) (n c : Nat) : (s.pulseSrc n c).vmodes = s.vmodes := (congrArg State.vmodes (State.pulseSrc_outside s n c) :)
@[simp] theorem State.pulseSrc_adc (s : State) (n c : Nat) : (s.pulseSrc n c).adc = s.adc := (congrArg State.adc (State.pulseSrc_outside s n c) :)
@[simp] theorem State.pulseSrc_thm (s : State) (n c : Nat) : (s.pulseSrc n c).thm = s.thm := (congrArg State.thm (State.pulseSrc_outside s n c) :)
@[simp] theorem State.pulseSrc_chg (s : State) (n c : Nat) : (s.pulseSrc n c).chg = s.chg := (congrArg State.chg (State.pulseSrc_outside s n c) :)
@[simp] theorem State.pulseSrc_gau (s : State) (n c : Nat) : (s.pulseSrc n c).gau = s.gau := (congrArg State.gau (State.pulseSrc_outside s n c) :)
@[simp] theorem State.pulseSrc_rtc (s : State) (n c : Nat) : (s.pulseSrc n c).rtc = s.rtc := (congrArg State.rtc (State.pulseSrc_outside s n c) :)
@[simp] theorem State.pulseSrc_wdgs (s : State) (n c : Nat) : (s.pulseSrc n c).wdgs = s.wdgs := (congrArg State.wdgs (State.pulseSrc_outside s n c) :)
@[simp] theorem State.pulseSrc_tbRc (s : State) (n c : Nat) : (s.pulseSrc n c).tbRc = s.tbRc := (congrArg State.tbRc (State.pulseSrc_outside s n c) :)
@[simp] theorem State.pulseSrc_otp (s : State) (n c : Nat) : (s.pulseSrc n c).otp = s.otp := (congrArg State.otp (State.pulseSrc_outside s n c) :)
@[simp] theorem State.pulseSrc_upd (s : State) (n c : Nat) : (s.pulseSrc n c).upd = s.upd := (congrArg State.upd (State.pulseSrc_outside s n c) :)
@[simp] theorem State.pulseSrc_mram (s : State) (n c : Nat) : (s.pulseSrc n c).mram = s.mram := (congrArg State.mram (State.pulseSrc_outside s n c) :)
@[simp] theorem State.pulseSrc_setAt (s : State) (n c : Nat) : (s.pulseSrc n c).setAt = s.setAt := (congrArg State.setAt (State.pulseSrc_outside s n c) :)
@[simp] theorem State.pulseSrc_mode (s : State) (n c : Nat) : (s.pulseSrc n c).glb.mode = s.glb.mode := (congrArg (fun t => t.glb.mode) (State.pulseSrc_outside s n c) :)
@[simp] theorem State.followSrc_pending (s : State) (n c : Nat) (b : Bool) : (s.followSrc n c b).pending = s.pending := (congrArg State.pending (State.followSrc_outside s n c b) :)
@[simp] theorem State.followSrc_freeCtr (s : State) (n c : Nat) (b : Bool) : (s.followSrc n c b).freeCtr = s.freeCtr := (congrArg State.freeCtr (State.followSrc_outside s n c b) :)
@[simp] theorem State.followSrc_cyc (s : State) (n c : Nat) (b : Bool) : (s.followSrc n c b).cyc = s.cyc := (congrArg State.cyc (State.followSrc_outside s n c b) :)
@[simp] theorem State.followSrc_tickAt (s : State) (n c : Nat) (b : Bool) : (s.followSrc n c b).tickAt = s.tickAt := (congrArg State.tickAt (State.followSrc_outside s n c b) :)
@[simp] theorem State.followSrc_img (s : State) (n c : Nat) (b : Bool) : (s.followSrc n c b).img = s.img := (congrArg State.img (State.followSrc_outside s n c b) :)
@[simp] theorem State.followSrc_newImg (s : State) (n c : Nat) (b : Bool) : (s.followSrc n c b).newImg = s.newImg := (congrArg State.newImg (State.followSrc_outside s n c b) :)
@[simp] theorem State.followSrc_rw (s : State) (n c : Nat) (b : Bool) : (s.followSrc n c b).rw = s.rw := (congrArg State.rw (State.followSrc_outside s n c b) :)
@[simp] theorem State.followSrc_loops (s : State) (n c : Nat) (b : Bool) : (s.followSrc n c b).loops = s.loops := (congrArg State.loops (State.followSrc_outside s n c b) :)
@[simp] theorem State.followSrc_rails (s : State) (n c : Nat) (b : Bool) : (s.followSrc n c b).rails = s.rails := (congrArg State.rails (State.followSrc_outside s n c b) :)
@[simp] theorem State.followSrc_lathe (s : State) (n c : Nat) (b : Bool) : (s.followSrc n c b).lathe = s.lathe := (congrArg State.lathe (State.followSrc_outside s n c b) :)
@[simp] theorem State.followSrc_phases (s : State) (n c : Nat) (b : Bool) : (s.followSrc n c b).phases = s.phases := (congrArg State.phases (State.followSrc_outside s n c b) :)
@[simp] theorem State.followSrc_switches (s : State) (n c : Nat) (b : Bool) : (s.followSrc n c b).switches = s.switches := (congrArg State.switches (State.followSrc_outside s n c b) :)
@[simp] theorem State.followSrc_seq (s : State) (n c : Nat) (b : Bool) : (s.followSrc n c b).seq = s.seq := (congrArg State.seq (State.followSrc_outside s n c b) :)
@[simp] theorem State.followSrc_lane (s : State) (n c : Nat) (b : Bool) : (s.followSrc n c b).lane = s.lane := (congrArg State.lane (State.followSrc_outside s n c b) :)
@[simp] theorem State.followSrc_lace (s : State) (n c : Nat) (b : Bool) : (s.followSrc n c b).lace = s.lace := (congrArg State.lace (State.followSrc_outside s n c b) :)
@[simp] theorem State.followSrc_foreign (s : State) (n c : Nat) (b : Bool) : (s.followSrc n c b).foreign = s.foreign := (congrArg State.foreign (State.followSrc_outside s n c b) :)
@[simp] theorem State.followSrc_vmodes (s : State) (n c : Nat) (b : Bool) : (s.followSrc n c b).vmodes = s.vmodes := (congrArg State.vmodes (State.followSrc_outside s n c b) :)
@[simp] theorem State.followSrc_adc (s : State) (n c : Nat) (b : Bool) : (s.followSrc n c b).adc = s.adc := (congrArg State.adc (State.followSrc_outside s n c b) :)
@[simp] theorem State.followSrc_thm (s : State) (n c : Nat) (b : Bool) : (s.followSrc n c b).thm = s.thm := (congrArg State.thm (State.followSrc_outside s n c b) :)
@[simp] theorem State.followSrc_chg (s : State) (n c : Nat) (b : Bool) : (s.followSrc n c b).chg = s.chg := (congrArg State.chg (State.followSrc_outside s n c b) :)
@[simp] theorem State.followSrc_gau (s : State) (n c : Nat) (b : Bool) : (s.followSrc n c b).gau = s.gau := (congrArg State.gau (State.followSrc_outside s n c b) :)
@[simp] theorem State.followSrc_rtc (s : State) (n c : Nat) (b : Bool) : (s.followSrc n c b).rtc = s.rtc := (congrArg State.rtc (State.followSrc_outside s n c b) :)
@[simp] theorem State.followSrc_wdgs (s : State) (n c : Nat) (b : Bool) : (s.followSrc n c b).wdgs = s.wdgs := (congrArg State.wdgs (State.followSrc_outside s n c b) :)
@[simp] theorem State.followSrc_tbRc (s : State) (n c : Nat) (b : Bool) : (s.followSrc n c b).tbRc = s.tbRc := (congrArg State.tbRc (State.followSrc_outside s n c b) :)
@[simp] theorem State.followSrc_otp (s : State) (n c : Nat) (b : Bool) : (s.followSrc n c b).otp = s.otp := (congrArg State.otp (State.followSrc_outside s n c b) :)
@[simp] theorem State.followSrc_upd (s : State) (n c : Nat) (b : Bool) : (s.followSrc n c b).upd = s.upd := (congrArg State.upd (State.followSrc_outside s n c b) :)
@[simp] theorem State.followSrc_mram (s : State) (n c : Nat) (b : Bool) : (s.followSrc n c b).mram = s.mram := (congrArg State.mram (State.followSrc_outside s n c b) :)
@[simp] theorem State.followSrc_setAt (s : State) (n c : Nat) (b : Bool) : (s.followSrc n c b).setAt = s.setAt := (congrArg State.setAt (State.followSrc_outside s n c b) :)
@[simp] theorem State.followSrc_mode (s : State) (n c : Nat) (b : Bool) : (s.followSrc n c b).glb.mode = s.glb.mode := (congrArg (fun t => t.glb.mode) (State.followSrc_outside s n c b) :)
@[simp] theorem State.raiseEvt_im (s : State) (e reqr : Nat) (d : Fld) (i : Nat) : (s.raiseEvt e reqr).im d i = s.im d i := by simp [State.im, State.im]
@[simp] theorem State.raiseEvt_imb (s : State) (e reqr : Nat) (d : Fld) (i : Nat) : (s.raiseEvt e reqr).imb d i = s.imb d i := by simp [State.imb, State.im]
theorem State.raiseEvt_offers (s : State) (e reqr : Nat) {x : Nat × List Req} (h : x ∈ s.pipe.offers) (w : stays x) : x ∈ (s.raiseEvt e reqr).pipe.offers := (Stirs.raiseEvt ..).offers x h w
@[simp] theorem State.wake_im (s : State) (c : Nat) (d : Fld) (i : Nat) : (s.wake c).im d i = s.im d i := by simp [State.im, State.im]
@[simp] theorem State.wake_imb (s : State) (c : Nat) (d : Fld) (i : Nat) : (s.wake c).imb d i = s.imb d i := by simp [State.imb, State.im]
theorem State.wake_offers (s : State) (c : Nat) {x : Nat × List Req} (h : x ∈ s.pipe.offers) (w : stays x) : x ∈ (s.wake c).pipe.offers := (Stirs.wake ..).offers x h w
@[simp] theorem State.assertSrc_im (s : State) (n c : Nat) (d : Fld) (i : Nat) : (s.assertSrc n c).im d i = s.im d i := by simp [State.im, State.im]
@[simp] theorem State.assertSrc_imb (s : State) (n c : Nat) (d : Fld) (i : Nat) : (s.assertSrc n c).imb d i = s.imb d i := by simp [State.imb, State.im]
theorem State.assertSrc_offers (s : State) (n c : Nat) {x : Nat × List Req} (h : x ∈ s.pipe.offers) (w : stays x) : x ∈ (s.assertSrc n c).pipe.offers := State.srcChange_offers _ _ _ _ _ h w
@[simp] theorem State.releaseSrc_im (s : State) (n : Nat) (d : Fld) (i : Nat) : (s.releaseSrc n).im d i = s.im d i := by simp [State.im, State.im]
@[simp] theorem State.releaseSrc_imb (s : State) (n : Nat) (d : Fld) (i : Nat) : (s.releaseSrc n).imb d i = s.imb d i := by simp [State.imb, State.im]
theorem State.releaseSrc_offers (s : State) (n : Nat) {x : Nat × List Req} (h : x ∈ s.pipe.offers) (w : stays x) : x ∈ (s.releaseSrc n).pipe.offers := State.srcChange_offers _ _ _ _ _ h w
@[simp] theorem State.pulseSrc_im (s : State) (n c : Nat) (d : Fld) (i : Nat) : (s.pulseSrc n c).im d i = s.im d i := by simp [State.im, State.im]
@[simp] theorem State.pulseSrc_imb (s : State) (n c : Nat) (d : Fld) (i : Nat) : (s.pulseSrc n c).imb d i = s.imb d i := by simp [State.imb, State.im]
theorem State.pulseSrc_offers (s : State) (n c : Nat) {x : Nat × List Req} (h : x ∈ s.pipe.offers) (w : stays x) : x ∈ (s.pulseSrc n c).pipe.offers := State.srcChange_offers _ _ _ _ _ (State.srcChange_offers _ _ _ _ _ h w) w
@[simp] theorem State.followSrc_im (s : State) (n c : Nat) (b : Bool) (d : Fld) (i : Nat) : (s.followSrc n c b).im d i = s.im d i := by simp [State.im, State.im]
@[simp] theorem State.followSrc_imb (s : State) (n c : Nat) (b : Bool) (d : Fld) (i : Nat) : (s.followSrc n c b).imb d i = s.imb d i := by simp [State.imb, State.im]
theorem State.followSrc_offers (s : State) (n c : Nat) (b : Bool) {x : Nat × List Req} (h : x ∈ s.pipe.offers) (w : stays x) : x ∈ (s.followSrc n c b).pipe.offers := by unfold State.followSrc; split <;> exact State.srcChange_offers _ _ _ _ _ h w

/-- The committed state of an endpoint below the groups, as blocks read it, stays. -/
theorem Stirs.ent {s t : State} (h : Stirs s t) {id : Nat} (hi : id < 0x550) : t.ent id = s.ent id := by
  simp only [State.ent, h.stored id hi, Ledger.presOf, h.slotPres, h.devPres]

theorem Stirs.st {s t : State} (h : Stirs s t) {id : Nat} (hi : id < 0x550) : t.st id = s.st id := by simp only [State.st, h.ent hi]

theorem Stirs.assertSrc (s : State) (n c : Nat) : Stirs (s.modSrc n fun x => { x with line := true }) (s.assertSrc n c) := .srcChange ..
theorem Stirs.releaseSrc (s : State) (n : Nat) : Stirs (s.modSrc n fun x => { x with line := false }) (s.releaseSrc n) := .srcChange ..

theorem State.assertSrc_st (s : State) (n c : Nat) {id : Nat} (hi : id < 0x550) : (s.assertSrc n c).st id = s.st id := (Stirs.assertSrc s n c).st hi
theorem State.releaseSrc_st (s : State) (n : Nat) {id : Nat} (hi : id < 0x550) : (s.releaseSrc n).st id = s.st id := (Stirs.releaseSrc s n).st hi
theorem State.pulseSrc_st (s : State) (n c : Nat) {id : Nat} (hi : id < 0x550) : (s.pulseSrc n c).st id = s.st id := by
  rw [State.pulseSrc, State.releaseSrc_st _ _ hi, State.assertSrc_st _ _ _ hi]
theorem State.raiseEvt_st (s : State) (e r : Nat) {id : Nat} (hi : id < 0x550) : (s.raiseEvt e r).st id = s.st id := (Stirs.raiseEvt s e r).st hi
theorem State.wake_st (s : State) (c : Nat) {id : Nat} (hi : id < 0x550) : (s.wake c).st id = s.st id := (Stirs.wake s c).st hi

-- entries
@[simp] theorem State.raiseEvt_rail_keep (s : State) (e reqr : Nat) (m : Nat) : (s.raiseEvt e reqr).rail m = s.rail m := by simp [State.rail]
@[simp] theorem State.raiseEvt_phase_keep (s : State) (e reqr : Nat) (m : Nat) : (s.raiseEvt e reqr).phase m = s.phase m := by simp [State.phase]
@[simp] theorem State.raiseEvt_switch_keep (s : State) (e reqr : Nat) (m : Nat) : (s.raiseEvt e reqr).switch m = s.switch m := by simp [State.switch]
@[simp] theorem State.raiseEvt_loop_keep (s : State) (e reqr : Nat) (m : Nat) : (s.raiseEvt e reqr).loop m = s.loop m := by simp [State.loop]
@[simp] theorem State.raiseEvt_loopSt_keep (s : State) (e reqr : Nat) (m : Nat) : (s.raiseEvt e reqr).loopSt m = s.loopSt m := by simp [State.loopSt]
@[simp] theorem State.raiseEvt_wdg_keep (s : State) (e reqr : Nat) (m : Nat) : (s.raiseEvt e reqr).wdg m = s.wdg m := by simp [State.wdg]
@[simp] theorem State.raiseEvt_fdev_keep (s : State) (e reqr : Nat) (m : Nat) : (s.raiseEvt e reqr).fdev m = s.fdev m := by simp [State.fdev]
@[simp] theorem State.raiseEvt_eye_keep (s : State) (e reqr : Nat) (m : Nat) : (s.raiseEvt e reqr).eye m = s.eye m := by simp [State.eye]
@[simp] theorem State.raiseEvt_slotRec_keep (s : State) (e reqr : Nat) (m : Nat) : (s.raiseEvt e reqr).slotRec m = s.slotRec m := by simp [State.slotRec]
@[simp] theorem State.raiseEvt_aseq_keep (s : State) (e reqr : Nat) (m : Nat) : (s.raiseEvt e reqr).aseq m = s.aseq m := by simp [State.aseq]
@[simp] theorem State.raiseEvt_chanOf_keep (s : State) (e reqr : Nat) (m : Nat) : (s.raiseEvt e reqr).chanOf m = s.chanOf m := by simp [State.chanOf]
@[simp] theorem State.raiseEvt_meter_keep (s : State) (e reqr : Nat) (m : Nat) : (s.raiseEvt e reqr).meter m = s.meter m := by simp [State.meter]
@[simp] theorem State.raiseEvt_thmIn_keep (s : State) (e reqr : Nat) (m : Nat) : (s.raiseEvt e reqr).thmIn m = s.thmIn m := by simp [State.thmIn]
@[simp] theorem State.raiseEvt_zoneOf_keep (s : State) (e reqr : Nat) (m : Nat) : (s.raiseEvt e reqr).zoneOf m = s.zoneOf m := by simp [State.zoneOf]
@[simp] theorem State.raiseEvt_rwWord_keep (s : State) (e reqr : Nat) (m : Nat) : (s.raiseEvt e reqr).rwWord m = s.rwWord m := by simp [State.rwWord]
@[simp] theorem State.raiseEvt_live (s : State) (e reqr : Nat) : (s.raiseEvt e reqr).live = s.live := by simp [State.live]
@[simp] theorem State.wake_rail_keep (s : State) (c : Nat) (m : Nat) : (s.wake c).rail m = s.rail m := by simp [State.rail]
@[simp] theorem State.wake_phase_keep (s : State) (c : Nat) (m : Nat) : (s.wake c).phase m = s.phase m := by simp [State.phase]
@[simp] theorem State.wake_switch_keep (s : State) (c : Nat) (m : Nat) : (s.wake c).switch m = s.switch m := by simp [State.switch]
@[simp] theorem State.wake_loop_keep (s : State) (c : Nat) (m : Nat) : (s.wake c).loop m = s.loop m := by simp [State.loop]
@[simp] theorem State.wake_loopSt_keep (s : State) (c : Nat) (m : Nat) : (s.wake c).loopSt m = s.loopSt m := by simp [State.loopSt]
@[simp] theorem State.wake_wdg_keep (s : State) (c : Nat) (m : Nat) : (s.wake c).wdg m = s.wdg m := by simp [State.wdg]
@[simp] theorem State.wake_fdev_keep (s : State) (c : Nat) (m : Nat) : (s.wake c).fdev m = s.fdev m := by simp [State.fdev]
@[simp] theorem State.wake_eye_keep (s : State) (c : Nat) (m : Nat) : (s.wake c).eye m = s.eye m := by simp [State.eye]
@[simp] theorem State.wake_slotRec_keep (s : State) (c : Nat) (m : Nat) : (s.wake c).slotRec m = s.slotRec m := by simp [State.slotRec]
@[simp] theorem State.wake_aseq_keep (s : State) (c : Nat) (m : Nat) : (s.wake c).aseq m = s.aseq m := by simp [State.aseq]
@[simp] theorem State.wake_chanOf_keep (s : State) (c : Nat) (m : Nat) : (s.wake c).chanOf m = s.chanOf m := by simp [State.chanOf]
@[simp] theorem State.wake_meter_keep (s : State) (c : Nat) (m : Nat) : (s.wake c).meter m = s.meter m := by simp [State.meter]
@[simp] theorem State.wake_thmIn_keep (s : State) (c : Nat) (m : Nat) : (s.wake c).thmIn m = s.thmIn m := by simp [State.thmIn]
@[simp] theorem State.wake_zoneOf_keep (s : State) (c : Nat) (m : Nat) : (s.wake c).zoneOf m = s.zoneOf m := by simp [State.zoneOf]
@[simp] theorem State.wake_rwWord_keep (s : State) (c : Nat) (m : Nat) : (s.wake c).rwWord m = s.rwWord m := by simp [State.rwWord]
@[simp] theorem State.wake_live (s : State) (c : Nat) : (s.wake c).live = s.live := by simp [State.live]
@[simp] theorem State.assertSrc_rail_keep (s : State) (n c : Nat) (m : Nat) : (s.assertSrc n c).rail m = s.rail m := by simp [State.rail]
@[simp] theorem State.assertSrc_phase_keep (s : State) (n c : Nat) (m : Nat) : (s.assertSrc n c).phase m = s.phase m := by simp [State.phase]
@[simp] theorem State.assertSrc_switch_keep (s : State) (n c : Nat) (m : Nat) : (s.assertSrc n c).switch m = s.switch m := by simp [State.switch]
@[simp] theorem State.assertSrc_loop_keep (s : State) (n c : Nat) (m : Nat) : (s.assertSrc n c).loop m = s.loop m := by simp [State.loop]
@[simp] theorem State.assertSrc_loopSt_keep (s : State) (n c : Nat) (m : Nat) : (s.assertSrc n c).loopSt m = s.loopSt m := by simp [State.loopSt]
@[simp] theorem State.assertSrc_wdg_keep (s : State) (n c : Nat) (m : Nat) : (s.assertSrc n c).wdg m = s.wdg m := by simp [State.wdg]
@[simp] theorem State.assertSrc_fdev_keep (s : State) (n c : Nat) (m : Nat) : (s.assertSrc n c).fdev m = s.fdev m := by simp [State.fdev]
@[simp] theorem State.assertSrc_eye_keep (s : State) (n c : Nat) (m : Nat) : (s.assertSrc n c).eye m = s.eye m := by simp [State.eye]
@[simp] theorem State.assertSrc_slotRec_keep (s : State) (n c : Nat) (m : Nat) : (s.assertSrc n c).slotRec m = s.slotRec m := by simp [State.slotRec]
@[simp] theorem State.assertSrc_aseq_keep (s : State) (n c : Nat) (m : Nat) : (s.assertSrc n c).aseq m = s.aseq m := by simp [State.aseq]
@[simp] theorem State.assertSrc_chanOf_keep (s : State) (n c : Nat) (m : Nat) : (s.assertSrc n c).chanOf m = s.chanOf m := by simp [State.chanOf]
@[simp] theorem State.assertSrc_meter_keep (s : State) (n c : Nat) (m : Nat) : (s.assertSrc n c).meter m = s.meter m := by simp [State.meter]
@[simp] theorem State.assertSrc_thmIn_keep (s : State) (n c : Nat) (m : Nat) : (s.assertSrc n c).thmIn m = s.thmIn m := by simp [State.thmIn]
@[simp] theorem State.assertSrc_zoneOf_keep (s : State) (n c : Nat) (m : Nat) : (s.assertSrc n c).zoneOf m = s.zoneOf m := by simp [State.zoneOf]
@[simp] theorem State.assertSrc_rwWord_keep (s : State) (n c : Nat) (m : Nat) : (s.assertSrc n c).rwWord m = s.rwWord m := by simp [State.rwWord]
@[simp] theorem State.assertSrc_live (s : State) (n c : Nat) : (s.assertSrc n c).live = s.live := by simp [State.live]
@[simp] theorem State.releaseSrc_rail_keep (s : State) (n : Nat) (m : Nat) : (s.releaseSrc n).rail m = s.rail m := by simp [State.rail]
@[simp] theorem State.releaseSrc_phase_keep (s : State) (n : Nat) (m : Nat) : (s.releaseSrc n).phase m = s.phase m := by simp [State.phase]
@[simp] theorem State.releaseSrc_switch_keep (s : State) (n : Nat) (m : Nat) : (s.releaseSrc n).switch m = s.switch m := by simp [State.switch]
@[simp] theorem State.releaseSrc_loop_keep (s : State) (n : Nat) (m : Nat) : (s.releaseSrc n).loop m = s.loop m := by simp [State.loop]
@[simp] theorem State.releaseSrc_loopSt_keep (s : State) (n : Nat) (m : Nat) : (s.releaseSrc n).loopSt m = s.loopSt m := by simp [State.loopSt]
@[simp] theorem State.releaseSrc_wdg_keep (s : State) (n : Nat) (m : Nat) : (s.releaseSrc n).wdg m = s.wdg m := by simp [State.wdg]
@[simp] theorem State.releaseSrc_fdev_keep (s : State) (n : Nat) (m : Nat) : (s.releaseSrc n).fdev m = s.fdev m := by simp [State.fdev]
@[simp] theorem State.releaseSrc_eye_keep (s : State) (n : Nat) (m : Nat) : (s.releaseSrc n).eye m = s.eye m := by simp [State.eye]
@[simp] theorem State.releaseSrc_slotRec_keep (s : State) (n : Nat) (m : Nat) : (s.releaseSrc n).slotRec m = s.slotRec m := by simp [State.slotRec]
@[simp] theorem State.releaseSrc_aseq_keep (s : State) (n : Nat) (m : Nat) : (s.releaseSrc n).aseq m = s.aseq m := by simp [State.aseq]
@[simp] theorem State.releaseSrc_chanOf_keep (s : State) (n : Nat) (m : Nat) : (s.releaseSrc n).chanOf m = s.chanOf m := by simp [State.chanOf]
@[simp] theorem State.releaseSrc_meter_keep (s : State) (n : Nat) (m : Nat) : (s.releaseSrc n).meter m = s.meter m := by simp [State.meter]
@[simp] theorem State.releaseSrc_thmIn_keep (s : State) (n : Nat) (m : Nat) : (s.releaseSrc n).thmIn m = s.thmIn m := by simp [State.thmIn]
@[simp] theorem State.releaseSrc_zoneOf_keep (s : State) (n : Nat) (m : Nat) : (s.releaseSrc n).zoneOf m = s.zoneOf m := by simp [State.zoneOf]
@[simp] theorem State.releaseSrc_rwWord_keep (s : State) (n : Nat) (m : Nat) : (s.releaseSrc n).rwWord m = s.rwWord m := by simp [State.rwWord]
@[simp] theorem State.releaseSrc_live (s : State) (n : Nat) : (s.releaseSrc n).live = s.live := by simp [State.live]
@[simp] theorem State.pulseSrc_rail_keep (s : State) (n c : Nat) (m : Nat) : (s.pulseSrc n c).rail m = s.rail m := by simp [State.rail]
@[simp] theorem State.pulseSrc_phase_keep (s : State) (n c : Nat) (m : Nat) : (s.pulseSrc n c).phase m = s.phase m := by simp [State.phase]
@[simp] theorem State.pulseSrc_switch_keep (s : State) (n c : Nat) (m : Nat) : (s.pulseSrc n c).switch m = s.switch m := by simp [State.switch]
@[simp] theorem State.pulseSrc_loop_keep (s : State) (n c : Nat) (m : Nat) : (s.pulseSrc n c).loop m = s.loop m := by simp [State.loop]
@[simp] theorem State.pulseSrc_loopSt_keep (s : State) (n c : Nat) (m : Nat) : (s.pulseSrc n c).loopSt m = s.loopSt m := by simp [State.loopSt]
@[simp] theorem State.pulseSrc_wdg_keep (s : State) (n c : Nat) (m : Nat) : (s.pulseSrc n c).wdg m = s.wdg m := by simp [State.wdg]
@[simp] theorem State.pulseSrc_fdev_keep (s : State) (n c : Nat) (m : Nat) : (s.pulseSrc n c).fdev m = s.fdev m := by simp [State.fdev]
@[simp] theorem State.pulseSrc_eye_keep (s : State) (n c : Nat) (m : Nat) : (s.pulseSrc n c).eye m = s.eye m := by simp [State.eye]
@[simp] theorem State.pulseSrc_slotRec_keep (s : State) (n c : Nat) (m : Nat) : (s.pulseSrc n c).slotRec m = s.slotRec m := by simp [State.slotRec]
@[simp] theorem State.pulseSrc_aseq_keep (s : State) (n c : Nat) (m : Nat) : (s.pulseSrc n c).aseq m = s.aseq m := by simp [State.aseq]
@[simp] theorem State.pulseSrc_chanOf_keep (s : State) (n c : Nat) (m : Nat) : (s.pulseSrc n c).chanOf m = s.chanOf m := by simp [State.chanOf]
@[simp] theorem State.pulseSrc_meter_keep (s : State) (n c : Nat) (m : Nat) : (s.pulseSrc n c).meter m = s.meter m := by simp [State.meter]
@[simp] theorem State.pulseSrc_thmIn_keep (s : State) (n c : Nat) (m : Nat) : (s.pulseSrc n c).thmIn m = s.thmIn m := by simp [State.thmIn]
@[simp] theorem State.pulseSrc_zoneOf_keep (s : State) (n c : Nat) (m : Nat) : (s.pulseSrc n c).zoneOf m = s.zoneOf m := by simp [State.zoneOf]
@[simp] theorem State.pulseSrc_rwWord_keep (s : State) (n c : Nat) (m : Nat) : (s.pulseSrc n c).rwWord m = s.rwWord m := by simp [State.rwWord]
@[simp] theorem State.pulseSrc_live (s : State) (n c : Nat) : (s.pulseSrc n c).live = s.live := by simp [State.live]
@[simp] theorem State.followSrc_rail_keep (s : State) (n c : Nat) (b : Bool) (m : Nat) : (s.followSrc n c b).rail m = s.rail m := by simp [State.rail]
@[simp] theorem State.followSrc_phase_keep (s : State) (n c : Nat) (b : Bool) (m : Nat) : (s.followSrc n c b).phase m = s.phase m := by simp [State.phase]
@[simp] theorem State.followSrc_switch_keep (s : State) (n c : Nat) (b : Bool) (m : Nat) : (s.followSrc n c b).switch m = s.switch m := by simp [State.switch]
@[simp] theorem State.followSrc_loop_keep (s : State) (n c : Nat) (b : Bool) (m : Nat) : (s.followSrc n c b).loop m = s.loop m := by simp [State.loop]
@[simp] theorem State.followSrc_loopSt_keep (s : State) (n c : Nat) (b : Bool) (m : Nat) : (s.followSrc n c b).loopSt m = s.loopSt m := by simp [State.loopSt]
@[simp] theorem State.followSrc_wdg_keep (s : State) (n c : Nat) (b : Bool) (m : Nat) : (s.followSrc n c b).wdg m = s.wdg m := by simp [State.wdg]
@[simp] theorem State.followSrc_fdev_keep (s : State) (n c : Nat) (b : Bool) (m : Nat) : (s.followSrc n c b).fdev m = s.fdev m := by simp [State.fdev]
@[simp] theorem State.followSrc_eye_keep (s : State) (n c : Nat) (b : Bool) (m : Nat) : (s.followSrc n c b).eye m = s.eye m := by simp [State.eye]
@[simp] theorem State.followSrc_slotRec_keep (s : State) (n c : Nat) (b : Bool) (m : Nat) : (s.followSrc n c b).slotRec m = s.slotRec m := by simp [State.slotRec]
@[simp] theorem State.followSrc_aseq_keep (s : State) (n c : Nat) (b : Bool) (m : Nat) : (s.followSrc n c b).aseq m = s.aseq m := by simp [State.aseq]
@[simp] theorem State.followSrc_chanOf_keep (s : State) (n c : Nat) (b : Bool) (m : Nat) : (s.followSrc n c b).chanOf m = s.chanOf m := by simp [State.chanOf]
@[simp] theorem State.followSrc_meter_keep (s : State) (n c : Nat) (b : Bool) (m : Nat) : (s.followSrc n c b).meter m = s.meter m := by simp [State.meter]
@[simp] theorem State.followSrc_thmIn_keep (s : State) (n c : Nat) (b : Bool) (m : Nat) : (s.followSrc n c b).thmIn m = s.thmIn m := by simp [State.thmIn]
@[simp] theorem State.followSrc_zoneOf_keep (s : State) (n c : Nat) (b : Bool) (m : Nat) : (s.followSrc n c b).zoneOf m = s.zoneOf m := by simp [State.zoneOf]
@[simp] theorem State.followSrc_rwWord_keep (s : State) (n c : Nat) (b : Bool) (m : Nat) : (s.followSrc n c b).rwWord m = s.rwWord m := by simp [State.rwWord]
@[simp] theorem State.followSrc_live (s : State) (n c : Nat) (b : Bool) : (s.followSrc n c b).live = s.live := by simp [State.live]
-- end of entries

end Sys2Proof.Machine
end

