-- ==== Sys2Proof/Laws/Requests.lean ====
section
/-! SUPPORT. Commands reach the lanes at once while nothing holds them; what a request at a port, a commit and a record change. -/

namespace Sys2Proof.Machine

/-- With the lanes running a command has its effect at once (R291). -/
theorem State.arrive_runs {s : State} (h : s.lanesRun) (c : Instr) (o : Host.Outcome State Fault Refusal) : s.arrive c o = o := by
  obtain ⟨h1, h2, h3, h4⟩ := h
  simp [State.arrive, State.stalled, Lane.held, h1, h2, h3, h4]

/-- The request that is offered waits at its port. -/
theorem State.offer_mem (s : State) (port : Nat) (l : List Req) : (port, l) ∈ (s.offer port l).pipe.offers := by
  unfold State.offer; dsimp only; split
  · split <;> simp
  · split
    · split
      · exact placeOffer_new ..
      · simp
    · simp

/-- A request at any port but the publishers' changes the pipeline alone. -/
theorem State.offer_only {port : Nat} (h : port ≠ 7) (s : State) (l : List Req) : s.offer port l = { s with pipe := (s.offer port l).pipe } := by
  unfold State.offer; dsimp only
  split
  · rename_i h6
    have : port = 6 := by tauto
    subst this
    simp
    rfl
  · split
    · split <;> rfl
    · rfl

theorem State.offer_outside {port : Nat} (h : port ≠ 7) (s : State) (l : List Req) : (s.offer port l).outside = s.outside := by
  rw [State.offer_only h]; rfl

/-- A loop's request waits at port 6. -/
theorem State.loopRequest_asks (s : State) (li : Nat) (st : EState) (r : Nat) : (s.loopRequest li st r).asks 6 (stateReq li st 5 r) :=
  State.offer_mem ..

@[simp] theorem State.loopRequest_outside (s : State) (li : Nat) (st : EState) (r : Nat) : (s.loopRequest li st r).outside = s.outside :=
  State.offer_outside (by decide) ..

theorem State.loopRequest_only (s : State) (li : Nat) (st : EState) (r : Nat) : s.loopRequest li st r = { s with pipe := (s.loopRequest li st r).pipe } :=
  State.offer_only (by decide) ..

/-- A commit changes the ledger alone (R48). -/
theorem State.commit_only (s : State) (id : Nat) (c : Cm) : s.commit id c = { s with led := (s.commit id c).led } := by
  unfold State.commit; dsimp only; split
  · rfl
  · split <;> rfl

@[simp] theorem State.commit_outside (s : State) (id : Nat) (c : Cm) : (s.commit id c).outside = s.outside := by rw [State.commit_only]; rfl

/-- The entry after a commit (R31, R32) for which the epoch has room (R109); an ABSENT entry takes none (R28). -/
theorem State.commit_stored (s : State) (id : Nat) (c : Cm) (j : Nat) :
    (s.commit id c).stored j = if id = j ∧ (s.stored id).st ≠ .absent ∧ s.led.room (decide (c.cls ≤ 1) || c.comp) = true then s.entryAfter id c else s.stored j := by
  unfold State.commit; split
  · rename_i h; simp [h]
  · rename_i h; dsimp only; split
    · rename_i k; simp [State.stored, Tbl.get_set, k] at *; split <;> simp_all
    · rename_i k; simp [State.stored, k]

/-- A record changes the recorder alone (R522, R523). -/
theorem State.addRec_only (s : State) (ty : Nat) (p : List Byte) : s.addRec ty p = { s with recd := (s.addRec ty p).recd } := by
  unfold State.addRec State.ringWrite; dsimp only; repeat' split
  all_goals rfl

@[simp] theorem State.addRec_outside (s : State) (ty : Nat) (p : List Byte) : (s.addRec ty p).outside = s.outside := by rw [State.addRec_only]; rfl

@[simp] theorem State.loopRequest_pending (s : State) (li : Nat) (st : EState) (r : Nat) : (s.loopRequest li st r).pending = s.pending := (congrArg State.pending (State.loopRequest_only s li st r) :)
@[simp] theorem State.loopRequest_freeCtr (s : State) (li : Nat) (st : EState) (r : Nat) : (s.loopRequest li st r).freeCtr = s.freeCtr := (congrArg State.freeCtr (State.loopRequest_only s li st r) :)
@[simp] theorem State.loopRequest_cyc (s : State) (li : Nat) (st : EState) (r : Nat) : (s.loopRequest li st r).cyc = s.cyc := (congrArg State.cyc (State.loopRequest_only s li st r) :)
@[simp] theorem State.loopRequest_tickAt (s : State) (li : Nat) (st : EState) (r : Nat) : (s.loopRequest li st r).tickAt = s.tickAt := (congrArg State.tickAt (State.loopRequest_only s li st r) :)
@[simp] theorem State.loopRequest_img (s : State) (li : Nat) (st : EState) (r : Nat) : (s.loopRequest li st r).img = s.img := (congrArg State.img (State.loopRequest_only s li st r) :)
@[simp] theorem State.loopRequest_newImg (s : State) (li : Nat) (st : EState) (r : Nat) : (s.loopRequest li st r).newImg = s.newImg := (congrArg State.newImg (State.loopRequest_only s li st r) :)
@[simp] theorem State.loopRequest_rw (s : State) (li : Nat) (st : EState) (r : Nat) : (s.loopRequest li st r).rw = s.rw := (congrArg State.rw (State.loopRequest_only s li st r) :)
@[simp] theorem State.loopRequest_glb (s : State) (li : Nat) (st : EState) (r : Nat) : (s.loopRequest li st r).glb = s.glb := (congrArg State.glb (State.loopRequest_only s li st r) :)
@[simp] theorem State.loopRequest_led (s : State) (li : Nat) (st : EState) (r : Nat) : (s.loopRequest li st r).led = s.led := (congrArg State.led (State.loopRequest_only s li st r) :)
@[simp] theorem State.loopRequest_pol (s : State) (li : Nat) (st : EState) (r : Nat) : (s.loopRequest li st r).pol = s.pol := (congrArg State.pol (State.loopRequest_only s li st r) :)
@[simp] theorem State.loopRequest_loops (s : State) (li : Nat) (st : EState) (r : Nat) : (s.loopRequest li st r).loops = s.loops := (congrArg State.loops (State.loopRequest_only s li st r) :)
@[simp] theorem State.loopRequest_rails (s : State) (li : Nat) (st : EState) (r : Nat) : (s.loopRequest li st r).rails = s.rails := (congrArg State.rails (State.loopRequest_only s li st r) :)
@[simp] theorem State.loopRequest_lathe (s : State) (li : Nat) (st : EState) (r : Nat) : (s.loopRequest li st r).lathe = s.lathe := (congrArg State.lathe (State.loopRequest_only s li st r) :)
@[simp] theorem State.loopRequest_traces (s : State) (li : Nat) (st : EState) (r : Nat) : (s.loopRequest li st r).traces = s.traces := (congrArg State.traces (State.loopRequest_only s li st r) :)
@[simp] theorem State.loopRequest_phases (s : State) (li : Nat) (st : EState) (r : Nat) : (s.loopRequest li st r).phases = s.phases := (congrArg State.phases (State.loopRequest_only s li st r) :)
@[simp] theorem State.loopRequest_switches (s : State) (li : Nat) (st : EState) (r : Nat) : (s.loopRequest li st r).switches = s.switches := (congrArg State.switches (State.loopRequest_only s li st r) :)
@[simp] theorem State.loopRequest_groups (s : State) (li : Nat) (st : EState) (r : Nat) : (s.loopRequest li st r).groups = s.groups := (congrArg State.groups (State.loopRequest_only s li st r) :)
@[simp] theorem State.loopRequest_seq (s : State) (li : Nat) (st : EState) (r : Nat) : (s.loopRequest li st r).seq = s.seq := (congrArg State.seq (State.loopRequest_only s li st r) :)
@[simp] theorem State.loopRequest_srcs (s : State) (li : Nat) (st : EState) (r : Nat) : (s.loopRequest li st r).srcs = s.srcs := (congrArg State.srcs (State.loopRequest_only s li st r) :)
@[simp] theorem State.loopRequest_faultN (s : State) (li : Nat) (st : EState) (r : Nat) : (s.loopRequest li st r).faultN = s.faultN := (congrArg State.faultN (State.loopRequest_only s li st r) :)
@[simp] theorem State.loopRequest_evts (s : State) (li : Nat) (st : EState) (r : Nat) : (s.loopRequest li st r).evts = s.evts := (congrArg State.evts (State.loopRequest_only s li st r) :)
@[simp] theorem State.loopRequest_lane (s : State) (li : Nat) (st : EState) (r : Nat) : (s.loopRequest li st r).lane = s.lane := (congrArg State.lane (State.loopRequest_only s li st r) :)
@[simp] theorem State.loopRequest_lace (s : State) (li : Nat) (st : EState) (r : Nat) : (s.loopRequest li st r).lace = s.lace := (congrArg State.lace (State.loopRequest_only s li st r) :)
@[simp] theorem State.loopRequest_foreign (s : State) (li : Nat) (st : EState) (r : Nat) : (s.loopRequest li st r).foreign = s.foreign := (congrArg State.foreign (State.loopRequest_only s li st r) :)
@[simp] theorem State.loopRequest_vmodes (s : State) (li : Nat) (st : EState) (r : Nat) : (s.loopRequest li st r).vmodes = s.vmodes := (congrArg State.vmodes (State.loopRequest_only s li st r) :)
@[simp] theorem State.loopRequest_adc (s : State) (li : Nat) (st : EState) (r : Nat) : (s.loopRequest li st r).adc = s.adc := (congrArg State.adc (State.loopRequest_only s li st r) :)
@[simp] theorem State.loopRequest_thm (s : State) (li : Nat) (st : EState) (r : Nat) : (s.loopRequest li st r).thm = s.thm := (congrArg State.thm (State.loopRequest_only s li st r) :)
@[simp] theorem State.loopRequest_chg (s : State) (li : Nat) (st : EState) (r : Nat) : (s.loopRequest li st r).chg = s.chg := (congrArg State.chg (State.loopRequest_only s li st r) :)
@[simp] theorem State.loopRequest_gau (s : State) (li : Nat) (st : EState) (r : Nat) : (s.loopRequest li st r).gau = s.gau := (congrArg State.gau (State.loopRequest_only s li st r) :)
@[simp] theorem State.loopRequest_rtc (s : State) (li : Nat) (st : EState) (r : Nat) : (s.loopRequest li st r).rtc = s.rtc := (congrArg State.rtc (State.loopRequest_only s li st r) :)
@[simp] theorem State.loopRequest_wdgs (s : State) (li : Nat) (st : EState) (r : Nat) : (s.loopRequest li st r).wdgs = s.wdgs := (congrArg State.wdgs (State.loopRequest_only s li st r) :)
@[simp] theorem State.loopRequest_tbRc (s : State) (li : Nat) (st : EState) (r : Nat) : (s.loopRequest li st r).tbRc = s.tbRc := (congrArg State.tbRc (State.loopRequest_only s li st r) :)
@[simp] theorem State.loopRequest_recd (s : State) (li : Nat) (st : EState) (r : Nat) : (s.loopRequest li st r).recd = s.recd := (congrArg State.recd (State.loopRequest_only s li st r) :)
@[simp] theorem State.loopRequest_host (s : State) (li : Nat) (st : EState) (r : Nat) : (s.loopRequest li st r).host = s.host := (congrArg State.host (State.loopRequest_only s li st r) :)
@[simp] theorem State.loopRequest_otp (s : State) (li : Nat) (st : EState) (r : Nat) : (s.loopRequest li st r).otp = s.otp := (congrArg State.otp (State.loopRequest_only s li st r) :)
@[simp] theorem State.loopRequest_upd (s : State) (li : Nat) (st : EState) (r : Nat) : (s.loopRequest li st r).upd = s.upd := (congrArg State.upd (State.loopRequest_only s li st r) :)
@[simp] theorem State.loopRequest_mram (s : State) (li : Nat) (st : EState) (r : Nat) : (s.loopRequest li st r).mram = s.mram := (congrArg State.mram (State.loopRequest_only s li st r) :)
@[simp] theorem State.loopRequest_setAt (s : State) (li : Nat) (st : EState) (r : Nat) : (s.loopRequest li st r).setAt = s.setAt := (congrArg State.setAt (State.loopRequest_only s li st r) :)
@[simp] theorem State.commit_pending (s : State) (id : Nat) (c : Cm) : (s.commit id c).pending = s.pending := (congrArg State.pending (State.commit_only s id c) :)
@[simp] theorem State.commit_freeCtr (s : State) (id : Nat) (c : Cm) : (s.commit id c).freeCtr = s.freeCtr := (congrArg State.freeCtr (State.commit_only s id c) :)
@[simp] theorem State.commit_cyc (s : State) (id : Nat) (c : Cm) : (s.commit id c).cyc = s.cyc := (congrArg State.cyc (State.commit_only s id c) :)
@[simp] theorem State.commit_tickAt (s : State) (id : Nat) (c : Cm) : (s.commit id c).tickAt = s.tickAt := (congrArg State.tickAt (State.commit_only s id c) :)
@[simp] theorem State.commit_img (s : State) (id : Nat) (c : Cm) : (s.commit id c).img = s.img := (congrArg State.img (State.commit_only s id c) :)
@[simp] theorem State.commit_newImg (s : State) (id : Nat) (c : Cm) : (s.commit id c).newImg = s.newImg := (congrArg State.newImg (State.commit_only s id c) :)
@[simp] theorem State.commit_rw (s : State) (id : Nat) (c : Cm) : (s.commit id c).rw = s.rw := (congrArg State.rw (State.commit_only s id c) :)
@[simp] theorem State.commit_glb (s : State) (id : Nat) (c : Cm) : (s.commit id c).glb = s.glb := (congrArg State.glb (State.commit_only s id c) :)
@[simp] theorem State.commit_pipe (s : State) (id : Nat) (c : Cm) : (s.commit id c).pipe = s.pipe := (congrArg State.pipe (State.commit_only s id c) :)
@[simp] theorem State.commit_pol (s : State) (id : Nat) (c : Cm) : (s.commit id c).pol = s.pol := (congrArg State.pol (State.commit_only s id c) :)
@[simp] theorem State.commit_loops (s : State) (id : Nat) (c : Cm) : (s.commit id c).loops = s.loops := (congrArg State.loops (State.commit_only s id c) :)
@[simp] theorem State.commit_rails (s : State) (id : Nat) (c : Cm) : (s.commit id c).rails = s.rails := (congrArg State.rails (State.commit_only s id c) :)
@[simp] theorem State.commit_lathe (s : State) (id : Nat) (c : Cm) : (s.commit id c).lathe = s.lathe := (congrArg State.lathe (State.commit_only s id c) :)
@[simp] theorem State.commit_traces (s : State) (id : Nat) (c : Cm) : (s.commit id c).traces = s.traces := (congrArg State.traces (State.commit_only s id c) :)
@[simp] theorem State.commit_phases (s : State) (id : Nat) (c : Cm) : (s.commit id c).phases = s.phases := (congrArg State.phases (State.commit_only s id c) :)
@[simp] theorem State.commit_switches (s : State) (id : Nat) (c : Cm) : (s.commit id c).switches = s.switches := (congrArg State.switches (State.commit_only s id c) :)
@[simp] theorem State.commit_groups (s : State) (id : Nat) (c : Cm) : (s.commit id c).groups = s.groups := (congrArg State.groups (State.commit_only s id c) :)
@[simp] theorem State.commit_seq (s : State) (id : Nat) (c : Cm) : (s.commit id c).seq = s.seq := (congrArg State.seq (State.commit_only s id c) :)
@[simp] theorem State.commit_srcs (s : State) (id : Nat) (c : Cm) : (s.commit id c).srcs = s.srcs := (congrArg State.srcs (State.commit_only s id c) :)
@[simp] theorem State.commit_faultN (s : State) (id : Nat) (c : Cm) : (s.commit id c).faultN = s.faultN := (congrArg State.faultN (State.commit_only s id c) :)
@[simp] theorem State.commit_evts (s : State) (id : Nat) (c : Cm) : (s.commit id c).evts = s.evts := (congrArg State.evts (State.commit_only s id c) :)
@[simp] theorem State.commit_lane (s : State) (id : Nat) (c : Cm) : (s.commit id c).lane = s.lane := (congrArg State.lane (State.commit_only s id c) :)
@[simp] theorem State.commit_lace (s : State) (id : Nat) (c : Cm) : (s.commit id c).lace = s.lace := (congrArg State.lace (State.commit_only s id c) :)
@[simp] theorem State.commit_foreign (s : State) (id : Nat) (c : Cm) : (s.commit id c).foreign = s.foreign := (congrArg State.foreign (State.commit_only s id c) :)
@[simp] theorem State.commit_vmodes (s : State) (id : Nat) (c : Cm) : (s.commit id c).vmodes = s.vmodes := (congrArg State.vmodes (State.commit_only s id c) :)
@[simp] theorem State.commit_adc (s : State) (id : Nat) (c : Cm) : (s.commit id c).adc = s.adc := (congrArg State.adc (State.commit_only s id c) :)
@[simp] theorem State.commit_thm (s : State) (id : Nat) (c : Cm) : (s.commit id c).thm = s.thm := (congrArg State.thm (State.commit_only s id c) :)
@[simp] theorem State.commit_chg (s : State) (id : Nat) (c : Cm) : (s.commit id c).chg = s.chg := (congrArg State.chg (State.commit_only s id c) :)
@[simp] theorem State.commit_gau (s : State) (id : Nat) (c : Cm) : (s.commit id c).gau = s.gau := (congrArg State.gau (State.commit_only s id c) :)
@[simp] theorem State.commit_rtc (s : State) (id : Nat) (c : Cm) : (s.commit id c).rtc = s.rtc := (congrArg State.rtc (State.commit_only s id c) :)
@[simp] theorem State.commit_wdgs (s : State) (id : Nat) (c : Cm) : (s.commit id c).wdgs = s.wdgs := (congrArg State.wdgs (State.commit_only s id c) :)
@[simp] theorem State.commit_tbRc (s : State) (id : Nat) (c : Cm) : (s.commit id c).tbRc = s.tbRc := (congrArg State.tbRc (State.commit_only s id c) :)
@[simp] theorem State.commit_recd (s : State) (id : Nat) (c : Cm) : (s.commit id c).recd = s.recd := (congrArg State.recd (State.commit_only s id c) :)
@[simp] theorem State.commit_host (s : State) (id : Nat) (c : Cm) : (s.commit id c).host = s.host := (congrArg State.host (State.commit_only s id c) :)
@[simp] theorem State.commit_otp (s : State) (id : Nat) (c : Cm) : (s.commit id c).otp = s.otp := (congrArg State.otp (State.commit_only s id c) :)
@[simp] theorem State.commit_upd (s : State) (id : Nat) (c : Cm) : (s.commit id c).upd = s.upd := (congrArg State.upd (State.commit_only s id c) :)
@[simp] theorem State.commit_mram (s : State) (id : Nat) (c : Cm) : (s.commit id c).mram = s.mram := (congrArg State.mram (State.commit_only s id c) :)
@[simp] theorem State.commit_setAt (s : State) (id : Nat) (c : Cm) : (s.commit id c).setAt = s.setAt := (congrArg State.setAt (State.commit_only s id c) :)
@[simp] theorem State.addRec_pending (s : State) (ty : Nat) (p : List Byte) : (s.addRec ty p).pending = s.pending := (congrArg State.pending (State.addRec_only s ty p) :)
@[simp] theorem State.addRec_freeCtr (s : State) (ty : Nat) (p : List Byte) : (s.addRec ty p).freeCtr = s.freeCtr := (congrArg State.freeCtr (State.addRec_only s ty p) :)
@[simp] theorem State.addRec_cyc (s : State) (ty : Nat) (p : List Byte) : (s.addRec ty p).cyc = s.cyc := (congrArg State.cyc (State.addRec_only s ty p) :)
@[simp] theorem State.addRec_tickAt (s : State) (ty : Nat) (p : List Byte) : (s.addRec ty p).tickAt = s.tickAt := (congrArg State.tickAt (State.addRec_only s ty p) :)
@[simp] theorem State.addRec_img (s : State) (ty : Nat) (p : List Byte) : (s.addRec ty p).img = s.img := (congrArg State.img (State.addRec_only s ty p) :)
@[simp] theorem State.addRec_newImg (s : State) (ty : Nat) (p : List Byte) : (s.addRec ty p).newImg = s.newImg := (congrArg State.newImg (State.addRec_only s ty p) :)
@[simp] theorem State.addRec_rw (s : State) (ty : Nat) (p : List Byte) : (s.addRec ty p).rw = s.rw := (congrArg State.rw (State.addRec_only s ty p) :)
@[simp] theorem State.addRec_glb (s : State) (ty : Nat) (p : List Byte) : (s.addRec ty p).glb = s.glb := (congrArg State.glb (State.addRec_only s ty p) :)
@[simp] theorem State.addRec_led (s : State) (ty : Nat) (p : List Byte) : (s.addRec ty p).led = s.led := (congrArg State.led (State.addRec_only s ty p) :)
@[simp] theorem State.addRec_pipe (s : State) (ty : Nat) (p : List Byte) : (s.addRec ty p).pipe = s.pipe := (congrArg State.pipe (State.addRec_only s ty p) :)
@[simp] theorem State.addRec_pol (s : State) (ty : Nat) (p : List Byte) : (s.addRec ty p).pol = s.pol := (congrArg State.pol (State.addRec_only s ty p) :)
@[simp] theorem State.addRec_loops (s : State) (ty : Nat) (p : List Byte) : (s.addRec ty p).loops = s.loops := (congrArg State.loops (State.addRec_only s ty p) :)
@[simp] theorem State.addRec_rails (s : State) (ty : Nat) (p : List Byte) : (s.addRec ty p).rails = s.rails := (congrArg State.rails (State.addRec_only s ty p) :)
@[simp] theorem State.addRec_lathe (s : State) (ty : Nat) (p : List Byte) : (s.addRec ty p).lathe = s.lathe := (congrArg State.lathe (State.addRec_only s ty p) :)
@[simp] theorem State.addRec_traces (s : State) (ty : Nat) (p : List Byte) : (s.addRec ty p).traces = s.traces := (congrArg State.traces (State.addRec_only s ty p) :)
@[simp] theorem State.addRec_phases (s : State) (ty : Nat) (p : List Byte) : (s.addRec ty p).phases = s.phases := (congrArg State.phases (State.addRec_only s ty p) :)
@[simp] theorem State.addRec_switches (s : State) (ty : Nat) (p : List Byte) : (s.addRec ty p).switches = s.switches := (congrArg State.switches (State.addRec_only s ty p) :)
@[simp] theorem State.addRec_groups (s : State) (ty : Nat) (p : List Byte) : (s.addRec ty p).groups = s.groups := (congrArg State.groups (State.addRec_only s ty p) :)
@[simp] theorem State.addRec_seq (s : State) (ty : Nat) (p : List Byte) : (s.addRec ty p).seq = s.seq := (congrArg State.seq (State.addRec_only s ty p) :)
@[simp] theorem State.addRec_srcs (s : State) (ty : Nat) (p : List Byte) : (s.addRec ty p).srcs = s.srcs := (congrArg State.srcs (State.addRec_only s ty p) :)
@[simp] theorem State.addRec_faultN (s : State) (ty : Nat) (p : List Byte) : (s.addRec ty p).faultN = s.faultN := (congrArg State.faultN (State.addRec_only s ty p) :)
@[simp] theorem State.addRec_evts (s : State) (ty : Nat) (p : List Byte) : (s.addRec ty p).evts = s.evts := (congrArg State.evts (State.addRec_only s ty p) :)
@[simp] theorem State.addRec_lane (s : State) (ty : Nat) (p : List Byte) : (s.addRec ty p).lane = s.lane := (congrArg State.lane (State.addRec_only s ty p) :)
@[simp] theorem State.addRec_lace (s : State) (ty : Nat) (p : List Byte) : (s.addRec ty p).lace = s.lace := (congrArg State.lace (State.addRec_only s ty p) :)
@[simp] theorem State.addRec_foreign (s : State) (ty : Nat) (p : List Byte) : (s.addRec ty p).foreign = s.foreign := (congrArg State.foreign (State.addRec_only s ty p) :)
@[simp] theorem State.addRec_vmodes (s : State) (ty : Nat) (p : List Byte) : (s.addRec ty p).vmodes = s.vmodes := (congrArg State.vmodes (State.addRec_only s ty p) :)
@[simp] theorem State.addRec_adc (s : State) (ty : Nat) (p : List Byte) : (s.addRec ty p).adc = s.adc := (congrArg State.adc (State.addRec_only s ty p) :)
@[simp] theorem State.addRec_thm (s : State) (ty : Nat) (p : List Byte) : (s.addRec ty p).thm = s.thm := (congrArg State.thm (State.addRec_only s ty p) :)
@[simp] theorem State.addRec_chg (s : State) (ty : Nat) (p : List Byte) : (s.addRec ty p).chg = s.chg := (congrArg State.chg (State.addRec_only s ty p) :)
@[simp] theorem State.addRec_gau (s : State) (ty : Nat) (p : List Byte) : (s.addRec ty p).gau = s.gau := (congrArg State.gau (State.addRec_only s ty p) :)
@[simp] theorem State.addRec_rtc (s : State) (ty : Nat) (p : List Byte) : (s.addRec ty p).rtc = s.rtc := (congrArg State.rtc (State.addRec_only s ty p) :)
@[simp] theorem State.addRec_wdgs (s : State) (ty : Nat) (p : List Byte) : (s.addRec ty p).wdgs = s.wdgs := (congrArg State.wdgs (State.addRec_only s ty p) :)
@[simp] theorem State.addRec_tbRc (s : State) (ty : Nat) (p : List Byte) : (s.addRec ty p).tbRc = s.tbRc := (congrArg State.tbRc (State.addRec_only s ty p) :)
@[simp] theorem State.addRec_host (s : State) (ty : Nat) (p : List Byte) : (s.addRec ty p).host = s.host := (congrArg State.host (State.addRec_only s ty p) :)
@[simp] theorem State.addRec_otp (s : State) (ty : Nat) (p : List Byte) : (s.addRec ty p).otp = s.otp := (congrArg State.otp (State.addRec_only s ty p) :)
@[simp] theorem State.addRec_upd (s : State) (ty : Nat) (p : List Byte) : (s.addRec ty p).upd = s.upd := (congrArg State.upd (State.addRec_only s ty p) :)
@[simp] theorem State.addRec_mram (s : State) (ty : Nat) (p : List Byte) : (s.addRec ty p).mram = s.mram := (congrArg State.mram (State.addRec_only s ty p) :)
theorem State.offer_pending {port : Nat} (h : port ≠ 7) (s : State) (l : List Req) : (s.offer port l).pending = s.pending := (congrArg State.pending (State.offer_only h s l) :)
theorem State.offer_freeCtr {port : Nat} (h : port ≠ 7) (s : State) (l : List Req) : (s.offer port l).freeCtr = s.freeCtr := (congrArg State.freeCtr (State.offer_only h s l) :)
theorem State.offer_cyc {port : Nat} (h : port ≠ 7) (s : State) (l : List Req) : (s.offer port l).cyc = s.cyc := (congrArg State.cyc (State.offer_only h s l) :)
theorem State.offer_tickAt {port : Nat} (h : port ≠ 7) (s : State) (l : List Req) : (s.offer port l).tickAt = s.tickAt := (congrArg State.tickAt (State.offer_only h s l) :)
theorem State.offer_img {port : Nat} (h : port ≠ 7) (s : State) (l : List Req) : (s.offer port l).img = s.img := (congrArg State.img (State.offer_only h s l) :)
theorem State.offer_newImg {port : Nat} (h : port ≠ 7) (s : State) (l : List Req) : (s.offer port l).newImg = s.newImg := (congrArg State.newImg (State.offer_only h s l) :)
theorem State.offer_rw {port : Nat} (h : port ≠ 7) (s : State) (l : List Req) : (s.offer port l).rw = s.rw := (congrArg State.rw (State.offer_only h s l) :)
theorem State.offer_glb {port : Nat} (h : port ≠ 7) (s : State) (l : List Req) : (s.offer port l).glb = s.glb := (congrArg State.glb (State.offer_only h s l) :)
theorem State.offer_led {port : Nat} (h : port ≠ 7) (s : State) (l : List Req) : (s.offer port l).led = s.led := (congrArg State.led (State.offer_only h s l) :)
theorem State.offer_pol {port : Nat} (h : port ≠ 7) (s : State) (l : List Req) : (s.offer port l).pol = s.pol := (congrArg State.pol (State.offer_only h s l) :)
theorem State.offer_loops {port : Nat} (h : port ≠ 7) (s : State) (l : List Req) : (s.offer port l).loops = s.loops := (congrArg State.loops (State.offer_only h s l) :)
theorem State.offer_rails {port : Nat} (h : port ≠ 7) (s : State) (l : List Req) : (s.offer port l).rails = s.rails := (congrArg State.rails (State.offer_only h s l) :)
theorem State.offer_lathe {port : Nat} (h : port ≠ 7) (s : State) (l : List Req) : (s.offer port l).lathe = s.lathe := (congrArg State.lathe (State.offer_only h s l) :)
theorem State.offer_traces {port : Nat} (h : port ≠ 7) (s : State) (l : List Req) : (s.offer port l).traces = s.traces := (congrArg State.traces (State.offer_only h s l) :)
theorem State.offer_phases {port : Nat} (h : port ≠ 7) (s : State) (l : List Req) : (s.offer port l).phases = s.phases := (congrArg State.phases (State.offer_only h s l) :)
theorem State.offer_switches {port : Nat} (h : port ≠ 7) (s : State) (l : List Req) : (s.offer port l).switches = s.switches := (congrArg State.switches (State.offer_only h s l) :)
theorem State.offer_groups {port : Nat} (h : port ≠ 7) (s : State) (l : List Req) : (s.offer port l).groups = s.groups := (congrArg State.groups (State.offer_only h s l) :)
theorem State.offer_seq {port : Nat} (h : port ≠ 7) (s : State) (l : List Req) : (s.offer port l).seq = s.seq := (congrArg State.seq (State.offer_only h s l) :)
theorem State.offer_srcs {port : Nat} (h : port ≠ 7) (s : State) (l : List Req) : (s.offer port l).srcs = s.srcs := (congrArg State.srcs (State.offer_only h s l) :)
theorem State.offer_faultN {port : Nat} (h : port ≠ 7) (s : State) (l : List Req) : (s.offer port l).faultN = s.faultN := (congrArg State.faultN (State.offer_only h s l) :)
theorem State.offer_evts {port : Nat} (h : port ≠ 7) (s : State) (l : List Req) : (s.offer port l).evts = s.evts := (congrArg State.evts (State.offer_only h s l) :)
theorem State.offer_lane {port : Nat} (h : port ≠ 7) (s : State) (l : List Req) : (s.offer port l).lane = s.lane := (congrArg State.lane (State.offer_only h s l) :)
theorem State.offer_lace {port : Nat} (h : port ≠ 7) (s : State) (l : List Req) : (s.offer port l).lace = s.lace := (congrArg State.lace (State.offer_only h s l) :)
theorem State.offer_foreign {port : Nat} (h : port ≠ 7) (s : State) (l : List Req) : (s.offer port l).foreign = s.foreign := (congrArg State.foreign (State.offer_only h s l) :)
theorem State.offer_vmodes {port : Nat} (h : port ≠ 7) (s : State) (l : List Req) : (s.offer port l).vmodes = s.vmodes := (congrArg State.vmodes (State.offer_only h s l) :)
theorem State.offer_adc {port : Nat} (h : port ≠ 7) (s : State) (l : List Req) : (s.offer port l).adc = s.adc := (congrArg State.adc (State.offer_only h s l) :)
theorem State.offer_thm {port : Nat} (h : port ≠ 7) (s : State) (l : List Req) : (s.offer port l).thm = s.thm := (congrArg State.thm (State.offer_only h s l) :)
theorem State.offer_chg {port : Nat} (h : port ≠ 7) (s : State) (l : List Req) : (s.offer port l).chg = s.chg := (congrArg State.chg (State.offer_only h s l) :)
theorem State.offer_gau {port : Nat} (h : port ≠ 7) (s : State) (l : List Req) : (s.offer port l).gau = s.gau := (congrArg State.gau (State.offer_only h s l) :)
theorem State.offer_rtc {port : Nat} (h : port ≠ 7) (s : State) (l : List Req) : (s.offer port l).rtc = s.rtc := (congrArg State.rtc (State.offer_only h s l) :)
theorem State.offer_wdgs {port : Nat} (h : port ≠ 7) (s : State) (l : List Req) : (s.offer port l).wdgs = s.wdgs := (congrArg State.wdgs (State.offer_only h s l) :)
theorem State.offer_tbRc {port : Nat} (h : port ≠ 7) (s : State) (l : List Req) : (s.offer port l).tbRc = s.tbRc := (congrArg State.tbRc (State.offer_only h s l) :)
theorem State.offer_recd {port : Nat} (h : port ≠ 7) (s : State) (l : List Req) : (s.offer port l).recd = s.recd := (congrArg State.recd (State.offer_only h s l) :)
theorem State.offer_host {port : Nat} (h : port ≠ 7) (s : State) (l : List Req) : (s.offer port l).host = s.host := (congrArg State.host (State.offer_only h s l) :)
theorem State.offer_otp {port : Nat} (h : port ≠ 7) (s : State) (l : List Req) : (s.offer port l).otp = s.otp := (congrArg State.otp (State.offer_only h s l) :)
theorem State.offer_upd {port : Nat} (h : port ≠ 7) (s : State) (l : List Req) : (s.offer port l).upd = s.upd := (congrArg State.upd (State.offer_only h s l) :)
theorem State.offer_mram {port : Nat} (h : port ≠ 7) (s : State) (l : List Req) : (s.offer port l).mram = s.mram := (congrArg State.mram (State.offer_only h s l) :)

/-- A request at any port but 6 and 7 leaves every waiting one. -/
theorem State.offer_offers {port : Nat} (hp : port ≠ 6 ∧ port ≠ 7) (s : State) (l : List Req) {x : Nat × List Req} (h : x ∈ s.pipe.offers) (w : stays x) :
    x ∈ (s.offer port l).pipe.offers := (Stirs.offer s port l hp).offers x h w

/-- A command at the front of the queue runs with the queue's rest. -/
theorem step_cons (s : State) (c : Instr) (rest : List Instr) : step { s with pending := c :: rest } = exec c { s with pending := rest } := rfl
@[simp] theorem State.loopRequest_im (s : State) (li : Nat) (st : EState) (r : Nat) (d : Fld) (i : Nat) : (s.loopRequest li st r).im d i = s.im d i := by simp [State.im, State.im]
@[simp] theorem State.loopRequest_imb (s : State) (li : Nat) (st : EState) (r : Nat) (d : Fld) (i : Nat) : (s.loopRequest li st r).imb d i = s.imb d i := by simp [State.imb, State.im]
@[simp] theorem State.commit_im (s : State) (id : Nat) (c : Cm) (d : Fld) (i : Nat) : (s.commit id c).im d i = s.im d i := by simp [State.im, State.im]
@[simp] theorem State.commit_imb (s : State) (id : Nat) (c : Cm) (d : Fld) (i : Nat) : (s.commit id c).imb d i = s.imb d i := by simp [State.imb, State.im]
@[simp] theorem State.addRec_im (s : State) (ty : Nat) (p : List Byte) (d : Fld) (i : Nat) : (s.addRec ty p).im d i = s.im d i := by simp [State.im, State.im]
@[simp] theorem State.addRec_imb (s : State) (ty : Nat) (p : List Byte) (d : Fld) (i : Nat) : (s.addRec ty p).imb d i = s.imb d i := by simp [State.imb, State.im]

-- entries
@[simp] theorem State.loopRequest_rail_keep (s : State) (li : Nat) (st : EState) (r : Nat) (m : Nat) : (s.loopRequest li st r).rail m = s.rail m := by simp [State.rail]
@[simp] theorem State.loopRequest_phase_keep (s : State) (li : Nat) (st : EState) (r : Nat) (m : Nat) : (s.loopRequest li st r).phase m = s.phase m := by simp [State.phase]
@[simp] theorem State.loopRequest_switch_keep (s : State) (li : Nat) (st : EState) (r : Nat) (m : Nat) : (s.loopRequest li st r).switch m = s.switch m := by simp [State.switch]
@[simp] theorem State.loopRequest_group_keep (s : State) (li : Nat) (st : EState) (r : Nat) (m : Nat) : (s.loopRequest li st r).group m = s.group m := by simp [State.group]
@[simp] theorem State.loopRequest_src_keep (s : State) (li : Nat) (st : EState) (r : Nat) (m : Nat) : (s.loopRequest li st r).src m = s.src m := by simp [State.src]
@[simp] theorem State.loopRequest_evt_keep (s : State) (li : Nat) (st : EState) (r : Nat) (m : Nat) : (s.loopRequest li st r).evt m = s.evt m := by simp [State.evt]
@[simp] theorem State.loopRequest_policy_keep (s : State) (li : Nat) (st : EState) (r : Nat) (m : Nat) : (s.loopRequest li st r).policy m = s.policy m := by simp [State.policy]
@[simp] theorem State.loopRequest_loop_keep (s : State) (li : Nat) (st : EState) (r : Nat) (m : Nat) : (s.loopRequest li st r).loop m = s.loop m := by simp [State.loop]
@[simp] theorem State.loopRequest_loopSt_keep (s : State) (li : Nat) (st : EState) (r : Nat) (m : Nat) : (s.loopRequest li st r).loopSt m = s.loopSt m := by simp [State.loopSt]
@[simp] theorem State.loopRequest_trace_keep (s : State) (li : Nat) (st : EState) (r : Nat) (m : Nat) : (s.loopRequest li st r).trace m = s.trace m := by simp [State.trace]
@[simp] theorem State.loopRequest_wdg_keep (s : State) (li : Nat) (st : EState) (r : Nat) (m : Nat) : (s.loopRequest li st r).wdg m = s.wdg m := by simp [State.wdg]
@[simp] theorem State.loopRequest_fdev_keep (s : State) (li : Nat) (st : EState) (r : Nat) (m : Nat) : (s.loopRequest li st r).fdev m = s.fdev m := by simp [State.fdev]
@[simp] theorem State.loopRequest_eye_keep (s : State) (li : Nat) (st : EState) (r : Nat) (m : Nat) : (s.loopRequest li st r).eye m = s.eye m := by simp [State.eye]
@[simp] theorem State.loopRequest_slotRec_keep (s : State) (li : Nat) (st : EState) (r : Nat) (m : Nat) : (s.loopRequest li st r).slotRec m = s.slotRec m := by simp [State.slotRec]
@[simp] theorem State.loopRequest_aseq_keep (s : State) (li : Nat) (st : EState) (r : Nat) (m : Nat) : (s.loopRequest li st r).aseq m = s.aseq m := by simp [State.aseq]
@[simp] theorem State.loopRequest_chanOf_keep (s : State) (li : Nat) (st : EState) (r : Nat) (m : Nat) : (s.loopRequest li st r).chanOf m = s.chanOf m := by simp [State.chanOf]
@[simp] theorem State.loopRequest_meter_keep (s : State) (li : Nat) (st : EState) (r : Nat) (m : Nat) : (s.loopRequest li st r).meter m = s.meter m := by simp [State.meter]
@[simp] theorem State.loopRequest_thmIn_keep (s : State) (li : Nat) (st : EState) (r : Nat) (m : Nat) : (s.loopRequest li st r).thmIn m = s.thmIn m := by simp [State.thmIn]
@[simp] theorem State.loopRequest_zoneOf_keep (s : State) (li : Nat) (st : EState) (r : Nat) (m : Nat) : (s.loopRequest li st r).zoneOf m = s.zoneOf m := by simp [State.zoneOf]
@[simp] theorem State.loopRequest_rwWord_keep (s : State) (li : Nat) (st : EState) (r : Nat) (m : Nat) : (s.loopRequest li st r).rwWord m = s.rwWord m := by simp [State.rwWord]
@[simp] theorem State.loopRequest_stored_keep (s : State) (li : Nat) (st : EState) (r : Nat) (m : Nat) : (s.loopRequest li st r).stored m = s.stored m := by simp [State.stored]
@[simp] theorem State.loopRequest_st_keep (s : State) (li : Nat) (st : EState) (r : Nat) (m : Nat) : (s.loopRequest li st r).st m = s.st m := by simp [State.st, State.ent]
@[simp] theorem State.loopRequest_iface_keep (s : State) (li : Nat) (st : EState) (r : Nat) (i : Iface) : (s.loopRequest li st r).iface i = s.iface i := by simp [State.iface]
@[simp] theorem State.loopRequest_live (s : State) (li : Nat) (st : EState) (r : Nat) : (s.loopRequest li st r).live = s.live := by simp [State.live]
@[simp] theorem State.commit_rail_keep (s : State) (id : Nat) (c : Cm) (m : Nat) : (s.commit id c).rail m = s.rail m := by simp [State.rail]
@[simp] theorem State.commit_phase_keep (s : State) (id : Nat) (c : Cm) (m : Nat) : (s.commit id c).phase m = s.phase m := by simp [State.phase]
@[simp] theorem State.commit_switch_keep (s : State) (id : Nat) (c : Cm) (m : Nat) : (s.commit id c).switch m = s.switch m := by simp [State.switch]
@[simp] theorem State.commit_group_keep (s : State) (id : Nat) (c : Cm) (m : Nat) : (s.commit id c).group m = s.group m := by simp [State.group]
@[simp] theorem State.commit_src_keep (s : State) (id : Nat) (c : Cm) (m : Nat) : (s.commit id c).src m = s.src m := by simp [State.src]
@[simp] theorem State.commit_evt_keep (s : State) (id : Nat) (c : Cm) (m : Nat) : (s.commit id c).evt m = s.evt m := by simp [State.evt]
@[simp] theorem State.commit_policy_keep (s : State) (id : Nat) (c : Cm) (m : Nat) : (s.commit id c).policy m = s.policy m := by simp [State.policy]
@[simp] theorem State.commit_loop_keep (s : State) (id : Nat) (c : Cm) (m : Nat) : (s.commit id c).loop m = s.loop m := by simp [State.loop]
@[simp] theorem State.commit_loopSt_keep (s : State) (id : Nat) (c : Cm) (m : Nat) : (s.commit id c).loopSt m = s.loopSt m := by simp [State.loopSt]
@[simp] theorem State.commit_trace_keep (s : State) (id : Nat) (c : Cm) (m : Nat) : (s.commit id c).trace m = s.trace m := by simp [State.trace]
@[simp] theorem State.commit_wdg_keep (s : State) (id : Nat) (c : Cm) (m : Nat) : (s.commit id c).wdg m = s.wdg m := by simp [State.wdg]
@[simp] theorem State.commit_fdev_keep (s : State) (id : Nat) (c : Cm) (m : Nat) : (s.commit id c).fdev m = s.fdev m := by simp [State.fdev]
@[simp] theorem State.commit_eye_keep (s : State) (id : Nat) (c : Cm) (m : Nat) : (s.commit id c).eye m = s.eye m := by simp [State.eye]
@[simp] theorem State.commit_slotRec_keep (s : State) (id : Nat) (c : Cm) (m : Nat) : (s.commit id c).slotRec m = s.slotRec m := by simp [State.slotRec]
@[simp] theorem State.commit_aseq_keep (s : State) (id : Nat) (c : Cm) (m : Nat) : (s.commit id c).aseq m = s.aseq m := by simp [State.aseq]
@[simp] theorem State.commit_chanOf_keep (s : State) (id : Nat) (c : Cm) (m : Nat) : (s.commit id c).chanOf m = s.chanOf m := by simp [State.chanOf]
@[simp] theorem State.commit_meter_keep (s : State) (id : Nat) (c : Cm) (m : Nat) : (s.commit id c).meter m = s.meter m := by simp [State.meter]
@[simp] theorem State.commit_thmIn_keep (s : State) (id : Nat) (c : Cm) (m : Nat) : (s.commit id c).thmIn m = s.thmIn m := by simp [State.thmIn]
@[simp] theorem State.commit_zoneOf_keep (s : State) (id : Nat) (c : Cm) (m : Nat) : (s.commit id c).zoneOf m = s.zoneOf m := by simp [State.zoneOf]
@[simp] theorem State.commit_rwWord_keep (s : State) (id : Nat) (c : Cm) (m : Nat) : (s.commit id c).rwWord m = s.rwWord m := by simp [State.rwWord]
@[simp] theorem State.commit_iface_keep (s : State) (id : Nat) (c : Cm) (i : Iface) : (s.commit id c).iface i = s.iface i := by simp [State.iface]
@[simp] theorem State.commit_live (s : State) (id : Nat) (c : Cm) : (s.commit id c).live = s.live := by simp [State.live]
@[simp] theorem State.addRec_rail_keep (s : State) (ty : Nat) (p : List Byte) (m : Nat) : (s.addRec ty p).rail m = s.rail m := by simp [State.rail]
@[simp] theorem State.addRec_phase_keep (s : State) (ty : Nat) (p : List Byte) (m : Nat) : (s.addRec ty p).phase m = s.phase m := by simp [State.phase]
@[simp] theorem State.addRec_switch_keep (s : State) (ty : Nat) (p : List Byte) (m : Nat) : (s.addRec ty p).switch m = s.switch m := by simp [State.switch]
@[simp] theorem State.addRec_group_keep (s : State) (ty : Nat) (p : List Byte) (m : Nat) : (s.addRec ty p).group m = s.group m := by simp [State.group]
@[simp] theorem State.addRec_src_keep (s : State) (ty : Nat) (p : List Byte) (m : Nat) : (s.addRec ty p).src m = s.src m := by simp [State.src]
@[simp] theorem State.addRec_evt_keep (s : State) (ty : Nat) (p : List Byte) (m : Nat) : (s.addRec ty p).evt m = s.evt m := by simp [State.evt]
@[simp] theorem State.addRec_policy_keep (s : State) (ty : Nat) (p : List Byte) (m : Nat) : (s.addRec ty p).policy m = s.policy m := by simp [State.policy]
@[simp] theorem State.addRec_loop_keep (s : State) (ty : Nat) (p : List Byte) (m : Nat) : (s.addRec ty p).loop m = s.loop m := by simp [State.loop]
@[simp] theorem State.addRec_loopSt_keep (s : State) (ty : Nat) (p : List Byte) (m : Nat) : (s.addRec ty p).loopSt m = s.loopSt m := by simp [State.loopSt]
@[simp] theorem State.addRec_trace_keep (s : State) (ty : Nat) (p : List Byte) (m : Nat) : (s.addRec ty p).trace m = s.trace m := by simp [State.trace]
@[simp] theorem State.addRec_wdg_keep (s : State) (ty : Nat) (p : List Byte) (m : Nat) : (s.addRec ty p).wdg m = s.wdg m := by simp [State.wdg]
@[simp] theorem State.addRec_fdev_keep (s : State) (ty : Nat) (p : List Byte) (m : Nat) : (s.addRec ty p).fdev m = s.fdev m := by simp [State.fdev]
@[simp] theorem State.addRec_eye_keep (s : State) (ty : Nat) (p : List Byte) (m : Nat) : (s.addRec ty p).eye m = s.eye m := by simp [State.eye]
@[simp] theorem State.addRec_slotRec_keep (s : State) (ty : Nat) (p : List Byte) (m : Nat) : (s.addRec ty p).slotRec m = s.slotRec m := by simp [State.slotRec]
@[simp] theorem State.addRec_aseq_keep (s : State) (ty : Nat) (p : List Byte) (m : Nat) : (s.addRec ty p).aseq m = s.aseq m := by simp [State.aseq]
@[simp] theorem State.addRec_chanOf_keep (s : State) (ty : Nat) (p : List Byte) (m : Nat) : (s.addRec ty p).chanOf m = s.chanOf m := by simp [State.chanOf]
@[simp] theorem State.addRec_meter_keep (s : State) (ty : Nat) (p : List Byte) (m : Nat) : (s.addRec ty p).meter m = s.meter m := by simp [State.meter]
@[simp] theorem State.addRec_thmIn_keep (s : State) (ty : Nat) (p : List Byte) (m : Nat) : (s.addRec ty p).thmIn m = s.thmIn m := by simp [State.thmIn]
@[simp] theorem State.addRec_zoneOf_keep (s : State) (ty : Nat) (p : List Byte) (m : Nat) : (s.addRec ty p).zoneOf m = s.zoneOf m := by simp [State.zoneOf]
@[simp] theorem State.addRec_rwWord_keep (s : State) (ty : Nat) (p : List Byte) (m : Nat) : (s.addRec ty p).rwWord m = s.rwWord m := by simp [State.rwWord]
@[simp] theorem State.addRec_stored_keep (s : State) (ty : Nat) (p : List Byte) (m : Nat) : (s.addRec ty p).stored m = s.stored m := by simp [State.stored]
@[simp] theorem State.addRec_st_keep (s : State) (ty : Nat) (p : List Byte) (m : Nat) : (s.addRec ty p).st m = s.st m := by simp [State.st, State.ent]
@[simp] theorem State.addRec_iface_keep (s : State) (ty : Nat) (p : List Byte) (i : Iface) : (s.addRec ty p).iface i = s.iface i := by simp [State.iface]
@[simp] theorem State.addRec_live (s : State) (ty : Nat) (p : List Byte) : (s.addRec ty p).live = s.live := by simp [State.live]
-- end of entries

end Sys2Proof.Machine
end

