-- ==== Sys2Proof/Laws/Frames.lean ====
section
/-! SUPPORT. Frames of the whole machine: what only a start, a tick, an image taken into use or a one-time pulse
changes. Every other operation and every other command leaves it as it was. -/

set_option linter.unusedTactic false
set_option linter.unreachableTactic false
set_option linter.unusedSimpArgs false

namespace Sys2Proof.Machine
/-- The mode, the image, the one-time words, the waiting commands, the epochs and the core cycles. -/
def State.fixed (s : State) : (Mode × Tbl Word × Tbl OtpWord × List Instr) × (Nat × Nat × Nat × Nat) := ((s.glb.mode, s.img, s.otp.words, s.pending), (s.led.epoch, s.led.pubEpoch, s.cyc, s.tickAt))
theorem State.fixed_ite {c : Prop} [Decidable c] (a b : State) : (if c then a else b).fixed = if c then a.fixed else b.fixed := by split <;> rfl
@[simp ↓] theorem State.ite_fx {x : (Mode × Tbl Word × Tbl OtpWord × List Instr) × (Nat × Nat × Nat × Nat)} {c : Prop} [Decidable c] {a b : State} (h1 : a.fixed = x) (h2 : b.fixed = x) : ((if c then a else b).fixed = x) = True := by split <;> simp_all
@[simp ↓] theorem State.ite_fx1 {β : Type} {x : (Mode × Tbl Word × Tbl OtpWord × List Instr) × (Nat × Nat × Nat × Nat)} {c : Prop} [Decidable c] {a b : State × β} (h1 : a.1.fixed = x) (h2 : b.1.fixed = x) : ((if c then a else b).1.fixed = x) = True := by split <;> simp_all
@[simp ↓] theorem State.ite_fx2 {β : Type} {x : (Mode × Tbl Word × Tbl OtpWord × List Instr) × (Nat × Nat × Nat × Nat)} {c : Prop} [Decidable c] {a b : β × State} (h1 : a.2.fixed = x) (h2 : b.2.fixed = x) : ((if c then a else b).2.fixed = x) = True := by split <;> simp_all
theorem State.of_ite {x : (Mode × Tbl Word × Tbl OtpWord × List Instr) × (Nat × Nat × Nat × Nat)} {c : Prop} [Decidable c] {a b : State} (h1 : a.fixed = x) (h2 : b.fixed = x) : (if c then a else b).fixed = x := by split <;> simp_all
theorem State.of_ite1 {β : Type} {x : (Mode × Tbl Word × Tbl OtpWord × List Instr) × (Nat × Nat × Nat × Nat)} {c : Prop} [Decidable c] {a b : State × β} (h1 : a.1.fixed = x) (h2 : b.1.fixed = x) : (if c then a else b).1.fixed = x := by split <;> simp_all
@[simp ↓] theorem State.foldl_fx {α : Type} {x : (Mode × Tbl Word × Tbl OtpWord × List Instr) × (Nat × Nat × Nat × Nat)} (f : State → α → State) (l : List α) (s : State) (h0 : s.fixed = x) (h : ∀ (a : State) (b : α), (f a b).fixed = a.fixed) : ((l.foldl f s).fixed = x) = True := by
  simp only [eq_iff_iff, iff_true]
  induction l generalizing s with
  | nil => exact h0
  | cons b t ih => exact ih _ ((h _ _).trans h0)
theorem State.of_foldl {α : Type} {x : (Mode × Tbl Word × Tbl OtpWord × List Instr) × (Nat × Nat × Nat × Nat)} (f : State → α → State) (l : List α) (s : State) (h0 : s.fixed = x) (h : ∀ (a : State) (b : α), (f a b).fixed = a.fixed) : (l.foldl f s).fixed = x := by
  induction l generalizing s with
  | nil => exact h0
  | cons b t ih => exact ih _ ((h _ _).trans h0)
@[simp ↓] theorem State.modGlb_fixed (s : State) (f : Glb → Glb) (h : (f s.glb).mode = s.glb.mode) : (s.modGlb f).fixed = s.fixed := by simp [State.fixed, State.modGlb, h]
@[simp ↓] theorem State.modOtp_fixed (s : State) (f : Otp → Otp) (h : (f s.otp).words = s.otp.words) : (s.modOtp f).fixed = s.fixed := by simp [State.fixed, State.modOtp, h]
@[simp ↓] theorem State.modLed_fixed (s : State) (f : Ledger → Ledger) (h : (f s.led).epoch = s.led.epoch) (k : (f s.led).pubEpoch = s.led.pubEpoch) : (s.modLed f).fixed = s.fixed := by simp [State.fixed, State.modLed, h, k]
@[simp ↓] theorem State.after_next (s t : State) : s.after (.next t) = t := rfl
theorem foldl_fixed {α : Type} (f : State → α → State) (h : ∀ s a, (f s a).fixed = s.fixed) (l : List α) (s : State) : (l.foldl f s).fixed = s.fixed := by
  induction l generalizing s with
  | nil => rfl
  | cons a t ih => rw [List.foldl_cons, ih, h]
@[simp ↓] theorem with_faultN_fixed (s : State) (x : Bool) : ({ s with faultN := x } : State).fixed = s.fixed := rfl
@[simp ↓] theorem with_freeCtr_fixed (s : State) (x : Nat) : ({ s with freeCtr := x } : State).fixed = s.fixed := rfl
@[simp ↓] theorem with_mram_fixed (s : State) (x : Mram) : ({ s with mram := x } : State).fixed = s.fixed := rfl
@[simp ↓] theorem with_rw_fixed (s : State) (x : Tbl Word) : ({ s with rw := x } : State).fixed = s.fixed := rfl
@[simp ↓] theorem with_tbRc_fixed (s : State) (x : Bool) : ({ s with tbRc := x } : State).fixed = s.fixed := rfl
@[simp ↓] theorem with_rtc_fixed (s : State) (x : Rtc) : ({ s with rtc := x } : State).fixed = s.fixed := rfl
@[simp ↓] theorem with_newImg_fixed (s : State) (x : Tbl Word) : ({ s with newImg := x } : State).fixed = s.fixed := rfl
@[simp ↓] theorem State.modRail_fixed (s : State) (r : Nat) (f : Rail → Rail) : (State.modRail s r f).fixed = s.fixed := by unfold State.fixed State.modRail; rfl
@[simp ↓] theorem State.modPhase_fixed (s : State) (p : Nat) (f : Phase → Phase) : (State.modPhase s p f).fixed = s.fixed := by unfold State.fixed State.modPhase; rfl
@[simp ↓] theorem State.modSwitch_fixed (s : State) (n : Nat) (f : Switch → Switch) : (State.modSwitch s n f).fixed = s.fixed := by unfold State.fixed State.modSwitch; rfl
@[simp ↓] theorem State.modGroup_fixed (s : State) (g : Nat) (f : Group → Group) : (State.modGroup s g f).fixed = s.fixed := by unfold State.fixed State.modGroup; rfl
@[simp ↓] theorem State.modSrc_fixed (s : State) (n : Nat) (f : Source → Source) : (State.modSrc s n f).fixed = s.fixed := by unfold State.fixed State.modSrc; rfl
@[simp ↓] theorem State.modEvt_fixed (s : State) (e : Nat) (f : Event → Event) : (State.modEvt s e f).fixed = s.fixed := by unfold State.fixed State.modEvt; rfl
@[simp ↓] theorem State.modPolicy_fixed (s : State) (li : Nat) (f : Policy → Policy) : (State.modPolicy s li f).fixed = s.fixed := by unfold State.fixed State.modPolicy; rfl
@[simp ↓] theorem State.modLoop_fixed (s : State) (k : Nat) (f : Loop → Loop) : (State.modLoop s k f).fixed = s.fixed := by unfold State.fixed State.modLoop; rfl
@[simp ↓] theorem State.modLoopSt_fixed (s : State) (r : Nat) (f : LoopSt → LoopSt) : (State.modLoopSt s r f).fixed = s.fixed := by unfold State.fixed State.modLoopSt; rfl
@[simp ↓] theorem State.modTrace_fixed (s : State) (b : Nat) (f : Trace → Trace) : (State.modTrace s b f).fixed = s.fixed := by unfold State.fixed State.modTrace; rfl
@[simp ↓] theorem State.modWdg_fixed (s : State) (w : Nat) (f : Wdg → Wdg) : (State.modWdg s w f).fixed = s.fixed := by unfold State.fixed State.modWdg; rfl
@[simp ↓] theorem State.modFdev_fixed (s : State) (d : Nat) (f : Foreign → Foreign) : (State.modFdev s d f).fixed = s.fixed := by unfold State.fixed State.modFdev; rfl
@[simp ↓] theorem State.modPipe_fixed (s : State) (f : Pipe → Pipe) : (State.modPipe s f).fixed = s.fixed := by unfold State.fixed State.modPipe; rfl
@[simp ↓] theorem State.setNow_fixed (s : State) (k : Sticky) : (State.setNow s k).fixed = s.fixed := rfl
@[simp ↓] theorem State.modLane_fixed (s : State) (f : Lane → Lane) : (State.modLane s f).fixed = s.fixed := by unfold State.fixed State.modLane; rfl
@[simp ↓] theorem State.modSeq_fixed (s : State) (f : SeqSt → SeqSt) : (State.modSeq s f).fixed = s.fixed := by unfold State.fixed State.modSeq; rfl
@[simp ↓] theorem State.modLace_fixed (s : State) (f : Lace → Lace) : (State.modLace s f).fixed = s.fixed := by unfold State.fixed State.modLace; rfl
@[simp ↓] theorem State.modAdc_fixed (s : State) (f : Adc → Adc) : (State.modAdc s f).fixed = s.fixed := by unfold State.fixed State.modAdc; rfl
@[simp ↓] theorem State.modThm_fixed (s : State) (f : Thm → Thm) : (State.modThm s f).fixed = s.fixed := by unfold State.fixed State.modThm; rfl
@[simp ↓] theorem State.modChg_fixed (s : State) (f : Chg → Chg) : (State.modChg s f).fixed = s.fixed := by unfold State.fixed State.modChg; rfl
@[simp ↓] theorem State.modGau_fixed (s : State) (f : Gau → Gau) : (State.modGau s f).fixed = s.fixed := by unfold State.fixed State.modGau; rfl
@[simp ↓] theorem State.modRtc_fixed (s : State) (f : Rtc → Rtc) : (State.modRtc s f).fixed = s.fixed := by unfold State.fixed State.modRtc; rfl
@[simp ↓] theorem State.modRec_fixed (s : State) (f : RecSt → RecSt) : (State.modRec s f).fixed = s.fixed := by unfold State.fixed State.modRec; rfl
@[simp ↓] theorem State.modHost_fixed (s : State) (f : HostSt → HostSt) : (State.modHost s f).fixed = s.fixed := by unfold State.fixed State.modHost; rfl
@[simp ↓] theorem State.modUpd_fixed (s : State) (f : Upd → Upd) : (State.modUpd s f).fixed = s.fixed := by unfold State.fixed State.modUpd; rfl
@[simp ↓] theorem State.modIface_fixed (s : State) (i : Iface) (f : HostIf → HostIf) : (s.modIface i f).fixed = s.fixed := by cases i <;> rfl
@[simp ↓] theorem State.modEye_fixed (s : State) (e : Nat) (f : Eyelet → Eyelet) : (State.modEye s e f).fixed = s.fixed := by unfold State.fixed State.modEye; rfl
@[simp ↓] theorem State.modSlot_fixed (s : State) (sl : Nat) (f : SlotRec → SlotRec) : (State.modSlot s sl f).fixed = s.fixed := by unfold State.fixed State.modSlot; rfl
@[simp ↓] theorem State.modAseq_fixed (s : State) (q : Nat) (f : AdcSeq → AdcSeq) : (State.modAseq s q f).fixed = s.fixed := by unfold State.fixed State.modAseq; rfl
@[simp ↓] theorem State.modChan_fixed (s : State) (c : Nat) (f : Chan → Chan) : (State.modChan s c f).fixed = s.fixed := by unfold State.fixed State.modChan; rfl
@[simp ↓] theorem State.modMeter_fixed (s : State) (m : Nat) (f : Meter → Meter) : (State.modMeter s m f).fixed = s.fixed := by unfold State.fixed State.modMeter; rfl
@[simp ↓] theorem State.modZone_fixed (s : State) (z : Nat) (f : Zone → Zone) : (State.modZone s z f).fixed = s.fixed := by unfold State.fixed State.modZone; rfl
@[simp ↓] theorem State.setRw_fixed (s : State) (a : Nat) (w : Word) : (State.setRw s a w).fixed = s.fixed := by
  unfold State.setRw
  repeat' (first | with_reducible rfl | with_reducible apply State.of_ite | with_reducible apply State.of_ite1 | with_reducible apply State.of_foldl | intro _ _ | (solve | simp (maxDischargeDepth := 80)))
@[simp ↓] theorem State.clockStep_fixed (s : State) : (State.clockStep s).fixed = s.fixed := by
  unfold State.clockStep
  repeat' (first | with_reducible rfl | with_reducible apply State.of_ite | with_reducible apply State.of_ite1 | with_reducible apply State.of_foldl | intro _ _ | (solve | simp (maxDischargeDepth := 80)) | dsimp only | split)
@[simp ↓] theorem State.commit_fixed (s : State) (id : Nat) (c : Cm) : (State.commit s id c).fixed = s.fixed := by
  unfold State.commit
  split
  · rfl
  · split
    · exact State.modLed_fixed _ _ (Ledger.put_epoch _ _ _) (Ledger.put_pubEpoch _ _ _)
    · exact State.modLed_fixed _ _ rfl rfl
@[simp ↓] theorem State.writeEntry_fixed (s : State) (id : Nat) (e : Entry) : (State.writeEntry s id e).fixed = s.fixed :=
  State.modLed_fixed _ _ (Ledger.put_epoch _ _ _) (Ledger.put_pubEpoch _ _ _)
@[simp ↓] theorem State.commitSlot_fixed (s : State) (sl : Nat) (p : Pres) : (State.commitSlot s sl p).fixed = s.fixed := by
  unfold State.commitSlot
  split <;> exact State.modLed_fixed _ _ rfl rfl
@[simp ↓] theorem State.commitDev_fixed (s : State) (d : Nat) (p : Pres) : (State.commitDev s d p).fixed = s.fixed := by
  unfold State.commitDev
  split <;> exact State.modLed_fixed _ _ rfl rfl
@[simp ↓] theorem State.commitFlags_fixed (s : State) (id : Nat) (cls : Nat) (reqr : Nat) (set : BitVec 16) (clr : BitVec 16) : (State.commitFlags s id cls reqr set clr).fixed = s.fixed := by
  unfold State.commitFlags
  repeat' (first | with_reducible rfl | with_reducible apply State.of_ite | with_reducible apply State.of_ite1 | with_reducible apply State.of_foldl | intro _ _ | (solve | simp (maxDischargeDepth := 80)))
@[simp ↓] theorem State.submit_fixed (s : State) (port : ℕ) (r : Req) : (State.submit s port r).fixed = s.fixed := by
  unfold State.submit
  repeat' (first | with_reducible rfl | with_reducible apply State.of_ite | with_reducible apply State.of_ite1 | with_reducible apply State.of_foldl | intro _ _ | (solve | simp (maxDischargeDepth := 80)) | dsimp only | split)
@[simp ↓] theorem State.offer_fixed (s : State) (port : Nat) (reqs : List Req) : (State.offer s port reqs).fixed = s.fixed := by
  unfold State.offer
  dsimp only
  split
  · exact State.of_ite (State.modPipe_fixed _ _) ((State.modAdc_fixed _ _).trans (State.modPipe_fixed _ _))
  · split
    · exact State.of_ite (State.submit_fixed _ _ _) (State.modPipe_fixed _ _)
    · exact State.modPipe_fixed _ _
@[simp ↓] theorem State.completeAt_fixed (s : State) (epoch : ℕ) (r : Req) (seq : BitVec 32) (code : Code) (val : BitVec 32) : (State.completeAt s epoch r seq code val).fixed = s.fixed := by
  unfold State.completeAt
  repeat' (first | with_reducible rfl | with_reducible apply State.of_ite | with_reducible apply State.of_ite1 | with_reducible apply State.of_foldl | intro _ _ | (solve | simp (maxDischargeDepth := 80)) | dsimp only | split)
@[simp ↓] theorem State.complete_fixed (s : State) (r : Req) (seq : BitVec 32) (code : Code) (val : BitVec 32) : (State.complete s r seq code val).fixed = s.fixed := by
  unfold State.complete
  repeat' (first | with_reducible rfl | with_reducible apply State.of_ite | with_reducible apply State.of_ite1 | with_reducible apply State.of_foldl | intro _ _ | (solve | simp (maxDischargeDepth := 80)))
@[simp ↓] theorem State.ringWrite_fixed (s : State) (r : Record) (bad : Bool) : (State.ringWrite s r bad).fixed = s.fixed := by
  unfold State.ringWrite
  repeat' (first | with_reducible rfl | with_reducible apply State.of_ite | with_reducible apply State.of_ite1 | with_reducible apply State.of_foldl | intro _ _ | (solve | simp (maxDischargeDepth := 80)))
@[simp ↓] theorem State.addRec_fixed (s : State) (ty : Nat) (payload : List Byte) : (State.addRec s ty payload).fixed = s.fixed := by
  unfold State.addRec
  repeat' (first | with_reducible rfl | with_reducible apply State.of_ite | with_reducible apply State.of_ite1 | with_reducible apply State.of_foldl | intro _ _ | (solve | simp (maxDischargeDepth := 80)))
@[simp ↓] theorem State.srcEntry_fixed (s : State) (n : Nat) : (State.srcEntry s n).fixed = s.fixed := by
  unfold State.srcEntry
  repeat' (first | with_reducible rfl | with_reducible apply State.of_ite | with_reducible apply State.of_ite1 | with_reducible apply State.of_foldl | intro _ _ | (solve | simp (maxDischargeDepth := 80)))
@[simp ↓] theorem State.phaseRequests_fixed (s : State) (n : Nat) : (State.phaseRequests s n).fixed = s.fixed := by
  unfold State.phaseRequests
  repeat' (first | with_reducible rfl | with_reducible apply State.of_ite | with_reducible apply State.of_ite1 | with_reducible apply State.of_foldl | intro _ _ | (solve | simp (maxDischargeDepth := 80)) | dsimp only | split)
@[simp ↓] theorem State.judgeMinrun_fixed (s : State) (r : ℕ) (reqr : ℕ) : (State.judgeMinrun s r reqr).fixed = s.fixed := by
  unfold State.judgeMinrun
  repeat' (first | with_reducible rfl | with_reducible apply State.of_ite | with_reducible apply State.of_ite1 | with_reducible apply State.of_foldl | intro _ _ | (solve | simp (maxDischargeDepth := 80)) | dsimp only | split)
@[simp ↓] theorem State.builtIn_fixed (s : State) (n : Nat) (cause : Nat) (overload : Bool) : (State.builtIn s n cause overload).fixed = s.fixed := by
  unfold State.builtIn
  repeat' (first | with_reducible rfl | with_reducible apply State.of_ite | with_reducible apply State.of_ite1 | with_reducible apply State.of_foldl | intro _ _ | (solve | simp (maxDischargeDepth := 80)) | dsimp only | split)
@[simp ↓] theorem State.localReaction_fixed (s : State) (n : Nat) (cause : Nat) : (State.localReaction s n cause).fixed = s.fixed := by
  unfold State.localReaction
  repeat' (first | with_reducible rfl | with_reducible apply State.of_ite | with_reducible apply State.of_ite1 | with_reducible apply State.of_foldl | intro _ _ | (solve | simp (maxDischargeDepth := 80)) | dsimp only | split)
@[simp ↓] theorem State.forceOff_fixed (s : State) (lis : List Nat) (port : Nat) (cls : Nat) (reqr : Nat) : (State.forceOff s lis port cls reqr).fixed = s.fixed := by
  unfold State.forceOff
  repeat' (first | with_reducible rfl | with_reducible apply State.of_ite | with_reducible apply State.of_ite1 | with_reducible apply State.of_foldl | intro _ _ | (solve | simp (maxDischargeDepth := 80)) | dsimp only | split)
@[simp ↓] theorem State.groupCommit_fixed (s : State) (g : Nat) (st : Option EState) : (State.groupCommit s g st).fixed = s.fixed := by
  unfold State.groupCommit
  repeat' (first | with_reducible rfl | with_reducible apply State.of_ite | with_reducible apply State.of_ite1 | with_reducible apply State.of_foldl | intro _ _ | (solve | simp (maxDischargeDepth := 80)))
@[simp ↓] theorem State.releaseGroupOp_fixed (s : State) (g : Nat) (link : Option EState) : (State.releaseGroupOp s g link).fixed = s.fixed := by
  unfold State.releaseGroupOp
  repeat' (first | with_reducible rfl | with_reducible apply State.of_ite | with_reducible apply State.of_ite1 | with_reducible apply State.of_foldl | intro _ _ | (solve | simp (maxDischargeDepth := 80)) | dsimp only | split)
@[simp ↓] theorem State.dropGroupOp_fixed (s : State) (g : ℕ) : (State.dropGroupOp s g).fixed = s.fixed := by
  unfold State.dropGroupOp
  repeat' (first | with_reducible rfl | with_reducible apply State.of_ite | with_reducible apply State.of_ite1 | with_reducible apply State.of_foldl | intro _ _ | (solve | simp (maxDischargeDepth := 80)) | dsimp only | split)
@[simp ↓] theorem State.groupImmediate_fixed (s : State) (g : Nat) (port : Nat) (cls : Nat) (reqr : Nat) : (State.groupImmediate s g port cls reqr).fixed = s.fixed := by
  unfold State.groupImmediate
  repeat' (first | with_reducible rfl | with_reducible apply State.of_ite | with_reducible apply State.of_ite1 | with_reducible apply State.of_foldl | intro _ _ | (solve | simp (maxDischargeDepth := 80)) | dsimp only | split)
@[simp ↓] theorem State.groupReaction_fixed (s : State) (n : Nat) (sev : Nat) (g : Nat) : (State.groupReaction s n sev g).fixed = s.fixed := by
  unfold State.groupReaction
  repeat' (first | with_reducible rfl | with_reducible apply State.of_ite | with_reducible apply State.of_ite1 | with_reducible apply State.of_foldl | intro _ _ | (solve | simp (maxDischargeDepth := 80)) | dsimp only | split)
@[simp ↓] theorem State.traceExt_fixed (s : State) (cond : Nat → Nat → Nat → Bool) : (State.traceExt s cond).fixed = s.fixed := by
  unfold State.traceExt
  repeat' (first | with_reducible rfl | with_reducible apply State.of_ite | with_reducible apply State.of_ite1 | with_reducible apply State.of_foldl | intro _ _ | (solve | simp (maxDischargeDepth := 80)))
@[simp ↓] theorem State.raiseWith_fixed (pulse : State → Nat → State) (hp : ∀ s n, (pulse s n).fixed = s.fixed) (s : State) (e reqr : Nat) : (s.raiseWith pulse e reqr).fixed = s.fixed := by
  unfold State.raiseWith; dsimp only; repeat' split
  all_goals simp [hp]
@[simp ↓] theorem State.wakeWith_fixed (raise : State → Nat → Nat → State) (pulse : State → Nat → State) (hr : ∀ s e r, (raise s e r).fixed = s.fixed) (hp : ∀ s n, (pulse s n).fixed = s.fixed) (s : State) (code : Nat) : (s.wakeWith raise pulse code).fixed = s.fixed := by
  unfold State.wakeWith; dsimp only; repeat' split
  all_goals simp [hr, hp]
@[simp ↓] theorem State.qualifyWith_fixed (wake : State → Nat → State) (hw : ∀ s n, (wake s n).fixed = s.fixed) (s : State) (n : Nat) (moved : Bool) : (s.qualifyWith wake n moved).fixed = s.fixed := by
  unfold State.qualifyWith
  extract_lets cause sev a now b c d e f
  have ha : a.fixed = s.fixed := by simp [a]
  have hd : d.fixed = s.fixed := by
    unfold d c b
    split <;> simp [ha]
  have he : e.fixed = s.fixed := by
    unfold e
    split
    · split
      · rw [State.groupReaction_fixed, hd]
      · exact hd
    · split
      · exact State.of_foldl _ _ _ hd fun x y => State.groupReaction_fixed _ _ _ _
      · exact hd
  have hf : f.fixed = s.fixed := by
    unfold f
    split
    · rw [with_faultN_fixed, he]
    · exact he
  split
  · exact ha
  · split
    · rw [hw, hf]
    · exact hf
@[simp ↓] theorem State.latchStatus_fixed (s : State) (n : Nat) (cause : Nat) : (State.latchStatus s n cause).fixed = s.fixed := by
  unfold State.latchStatus
  repeat' (first | with_reducible rfl | with_reducible apply State.of_ite | with_reducible apply State.of_ite1 | with_reducible apply State.of_foldl | intro _ _ | (solve | simp (maxDischargeDepth := 80)))
@[simp ↓] theorem State.latchNote_fixed (s : State) (n : ℕ) : (State.latchNote s n).fixed = s.fixed := by
  unfold State.latchNote
  repeat' (first | with_reducible rfl | with_reducible apply State.of_ite | with_reducible apply State.of_ite1 | with_reducible apply State.of_foldl | intro _ _ | (solve | simp (maxDischargeDepth := 80)) | dsimp only | split)
@[simp ↓] theorem State.leaveCount_fixed (s : State) (n : ℕ) : (State.leaveCount s n).fixed = s.fixed := by
  unfold State.leaveCount
  repeat' (first | with_reducible rfl | with_reducible apply State.of_ite | with_reducible apply State.of_ite1 | with_reducible apply State.of_foldl | intro _ _ | (solve | simp (maxDischargeDepth := 80)) | dsimp only | split)
@[simp ↓] theorem State.occurWith_fixed (wake : State → Nat → State) (hw : ∀ s n, (wake s n).fixed = s.fixed) (s : State) (n cause : Nat) (overload : Bool) : (s.occurWith wake n cause overload).fixed = s.fixed := by
  unfold State.occurWith; dsimp only
  repeat' (first | rfl | (simp [State.fixed_ite, hw]; done) | split)
@[simp ↓] theorem State.clearSrc_fixed (s : State) (n : Nat) : (State.clearSrc s n).fixed = s.fixed := by
  unfold State.clearSrc
  repeat' (first | with_reducible rfl | with_reducible apply State.of_ite | with_reducible apply State.of_ite1 | with_reducible apply State.of_foldl | intro _ _ | (solve | simp (maxDischargeDepth := 80)) | dsimp only | split)
@[simp ↓] theorem State.srcChangeWith_fixed (wake : State → Nat → State) (hw : ∀ s n, (wake s n).fixed = s.fixed) (s : State) (n : Nat) (f : Source → Source) (cause : Nat) (overload : Bool) : (s.srcChangeWith wake n f cause overload).fixed = s.fixed := by
  unfold State.srcChangeWith; dsimp only
  repeat' (first | rfl | (simp [State.fixed_ite, hw]; done))
@[simp ↓] theorem State.pulseN_fixed (k : Nat) (s : State) (n : Nat) : (State.pulseN k s n).fixed = s.fixed := by
  induction k generalizing s n with
  | zero => rfl
  | succ k ih =>
    have hw : ∀ s n, (State.wakeWith (State.raiseWith (State.pulseN k)) (State.pulseN k) s n).fixed = s.fixed := fun s n =>
      State.wakeWith_fixed _ _ (fun s e r => State.raiseWith_fixed _ (fun s n => ih s n) s e r) (fun s n => ih s n) s n
    simp only [State.pulseN]
    split
    · rfl
    · rw [State.srcChangeWith_fixed _ hw, State.srcChangeWith_fixed _ hw]
@[simp ↓] theorem State.raiseEvt_fixed (s : State) (e reqr : Nat) : (s.raiseEvt e reqr).fixed = s.fixed := State.raiseWith_fixed _ (fun s n => State.pulseN_fixed 4 s n) s e reqr
@[simp ↓] theorem State.wake_fixed (s : State) (code : Nat) : (s.wake code).fixed = s.fixed := State.wakeWith_fixed _ _ State.raiseEvt_fixed (fun s n => State.pulseN_fixed 4 s n) s code
@[simp ↓] theorem State.srcChange_fixed (s : State) (n : Nat) (f : Source → Source) (cause : Nat) (overload : Bool) : (s.srcChange n f cause overload).fixed = s.fixed := State.srcChangeWith_fixed _ State.wake_fixed s n f cause overload
@[simp ↓] theorem State.assertSrc_fixed (s : State) (n : Nat) (cause : Nat) : (State.assertSrc s n cause).fixed = s.fixed := by
  unfold State.assertSrc
  repeat' (first | with_reducible rfl | with_reducible apply State.of_ite | with_reducible apply State.of_ite1 | with_reducible apply State.of_foldl | intro _ _ | (solve | simp (maxDischargeDepth := 80)))
@[simp ↓] theorem State.releaseSrc_fixed (s : State) (n : Nat) : (State.releaseSrc s n).fixed = s.fixed := by
  unfold State.releaseSrc
  repeat' (first | with_reducible rfl | with_reducible apply State.of_ite | with_reducible apply State.of_ite1 | with_reducible apply State.of_foldl | intro _ _ | (solve | simp (maxDischargeDepth := 80)))
@[simp ↓] theorem State.pulseSrc_fixed (s : State) (n : Nat) (cause : Nat) : (State.pulseSrc s n cause).fixed = s.fixed := by
  unfold State.pulseSrc
  repeat' (first | with_reducible rfl | with_reducible apply State.of_ite | with_reducible apply State.of_ite1 | with_reducible apply State.of_foldl | intro _ _ | (solve | simp (maxDischargeDepth := 80)))
@[simp ↓] theorem State.holdCause_fixed (s : State) (n : Nat) (c : Nat) (on : Bool) : (State.holdCause s n c on).fixed = s.fixed := by
  unfold State.holdCause
  repeat' (first | with_reducible rfl | with_reducible apply State.of_ite | with_reducible apply State.of_ite1 | with_reducible apply State.of_foldl | intro _ _ | (solve | simp (maxDischargeDepth := 80)))
@[simp ↓] theorem State.detect_fixed (s : State) (n : ℕ) (cause : ℕ) : (State.detect s n cause).fixed = s.fixed := by
  unfold State.detect
  repeat' (first | with_reducible rfl | with_reducible apply State.of_ite | with_reducible apply State.of_ite1 | with_reducible apply State.of_foldl | intro _ _ | (solve | simp (maxDischargeDepth := 80)) | dsimp only | split)
@[simp ↓] theorem State.followSrc_fixed (s : State) (n : Nat) (cause : Nat) (on : Bool) : (State.followSrc s n cause on).fixed = s.fixed := by
  unfold State.followSrc
  repeat' (first | with_reducible rfl | with_reducible apply State.of_ite | with_reducible apply State.of_ite1 | with_reducible apply State.of_foldl | intro _ _ | (solve | simp (maxDischargeDepth := 80)))
@[simp ↓] theorem State.fresh_fixed (s : State) : (State.fresh s).2.fixed = s.fixed := by
  unfold State.fresh
  repeat' (first | with_reducible rfl | with_reducible apply State.of_ite | with_reducible apply State.of_ite1 | with_reducible apply State.of_foldl | intro _ _ | (solve | simp (maxDischargeDepth := 80)))
@[simp ↓] theorem State.loopClamp_fixed (s : State) (k : Nat) : (State.loopClamp s k).2.fixed = s.fixed := by
  unfold State.loopClamp
  repeat' (first | with_reducible rfl | with_reducible apply State.of_ite | with_reducible apply State.of_ite1 | with_reducible apply State.of_foldl | intro _ _ | (solve | simp (maxDischargeDepth := 80)))
@[simp ↓] theorem State.loopFrozen_fixed (s : State) (k : Nat) (li : Nat) (cls : Nat) (reqr : Nat) : (State.loopFrozen s k li cls reqr).fixed = s.fixed := by
  unfold State.loopFrozen
  repeat' (first | with_reducible rfl | with_reducible apply State.of_ite | with_reducible apply State.of_ite1 | with_reducible apply State.of_foldl | intro _ _ | (solve | simp (maxDischargeDepth := 80)))
@[simp ↓] theorem State.restartDwell_fixed (s : State) (r : Nat) : (State.restartDwell s r).fixed = s.fixed := by
  unfold State.restartDwell
  repeat' (first | with_reducible rfl | with_reducible apply State.of_ite | with_reducible apply State.of_ite1 | with_reducible apply State.of_foldl | intro _ _ | (solve | simp (maxDischargeDepth := 80)))
@[simp ↓] theorem State.resumeLoops_fixed (s : State) (li : Nat) (cls : Nat) (reqr : Nat) : (State.resumeLoops s li cls reqr).fixed = s.fixed := by
  unfold State.resumeLoops
  repeat' (first | with_reducible rfl | with_reducible apply State.of_ite | with_reducible apply State.of_ite1 | with_reducible apply State.of_foldl | intro _ _ | (solve | simp (maxDischargeDepth := 80)))
@[simp ↓] theorem State.sendFrame_fixed (s : State) (e : Nat) (f : Frame) : (State.sendFrame s e f).fixed = s.fixed := by
  unfold State.sendFrame
  repeat' (first | with_reducible rfl | with_reducible apply State.of_ite | with_reducible apply State.of_ite1 | with_reducible apply State.of_foldl | intro _ _ | (solve | simp (maxDischargeDepth := 80)))
@[simp ↓] theorem State.sendOp_fixed (s : State) (q : Req) (slot : Nat) : (State.sendOp s q slot).fixed = s.fixed := by
  unfold State.sendOp
  repeat' (first | with_reducible rfl | with_reducible apply State.of_ite | with_reducible apply State.of_ite1 | with_reducible apply State.of_foldl | intro _ _ | (solve | simp (maxDischargeDepth := 80)))
@[simp ↓] theorem State.sendCplUp_fixed (s : State) (w : Words4) (otag : Nat) : (State.sendCplUp s w otag).fixed = s.fixed := by
  unfold State.sendCplUp
  repeat' (first | with_reducible rfl | with_reducible apply State.of_ite | with_reducible apply State.of_ite1 | with_reducible apply State.of_foldl | intro _ _ | (solve | simp (maxDischargeDepth := 80)) | dsimp only | split)
@[simp ↓] theorem State.respace_fixed (s : State) (r : Nat) : (State.respace s r).fixed = s.fixed := by
  unfold State.respace
  repeat' (first | with_reducible rfl | with_reducible apply State.of_ite | with_reducible apply State.of_ite1 | with_reducible apply State.of_foldl | intro _ _ | (solve | simp (maxDischargeDepth := 80)))
@[simp ↓] theorem State.phaseOn_fixed (s : State) (p : Nat) (cls : Nat) (reqr : Nat) (comp : Bool) : (State.phaseOn s p cls reqr comp).fixed = s.fixed := by
  unfold State.phaseOn
  repeat' (first | with_reducible rfl | with_reducible apply State.of_ite | with_reducible apply State.of_ite1 | with_reducible apply State.of_foldl | intro _ _ | (solve | simp (maxDischargeDepth := 80)))
@[simp ↓] theorem State.phaseOff_fixed (s : State) (p : Nat) (cls : Nat) (reqr : Nat) (comp : Bool) : (State.phaseOff s p cls reqr comp).fixed = s.fixed := by
  unfold State.phaseOff
  repeat' (first | with_reducible rfl | with_reducible apply State.of_ite | with_reducible apply State.of_ite1 | with_reducible apply State.of_foldl | intro _ _ | (solve | simp (maxDischargeDepth := 80)))
@[simp ↓] theorem State.railPhasesOff_fixed (s : State) (r : ℕ) (cls : ℕ) (reqr : ℕ) (comp : Bool) : (State.railPhasesOff s r cls reqr comp).fixed = s.fixed := by
  unfold State.railPhasesOff
  repeat' (first | with_reducible rfl | with_reducible apply State.of_ite | with_reducible apply State.of_ite1 | with_reducible apply State.of_foldl | intro _ _ | (solve | simp (maxDischargeDepth := 80)) | dsimp only | split)
@[simp ↓] theorem State.railPhasesStart_fixed (s : State) (r : ℕ) (cls : ℕ) (reqr : ℕ) (comp : Bool) : (State.railPhasesStart s r cls reqr comp).fixed = s.fixed := by
  unfold State.railPhasesStart
  repeat' (first | with_reducible rfl | with_reducible apply State.of_ite | with_reducible apply State.of_ite1 | with_reducible apply State.of_foldl | intro _ _ | (solve | simp (maxDischargeDepth := 80)) | dsimp only | split)
@[simp ↓] theorem State.setPhases_fixed (s : State) (r : Nat) (n : Nat) (cls : Nat) (reqr : Nat) (comp : Bool) : (State.setPhases s r n cls reqr comp).fixed = s.fixed := by
  unfold State.setPhases
  repeat' (first | with_reducible rfl | with_reducible apply State.of_ite | with_reducible apply State.of_ite1 | with_reducible apply State.of_foldl | intro _ _ | (solve | simp (maxDischargeDepth := 80)))
@[simp ↓] theorem State.railFail_fixed (s : State) (r : ℕ) : (State.railFail s r).fixed = s.fixed := by
  unfold State.railFail
  repeat' (first | with_reducible rfl | with_reducible apply State.of_ite | with_reducible apply State.of_ite1 | with_reducible apply State.of_foldl | intro _ _ | (solve | simp (maxDischargeDepth := 80)) | dsimp only | split)
@[simp ↓] theorem State.railOff_fixed (s : State) (r : ℕ) : (State.railOff s r).fixed = s.fixed := by
  unfold State.railOff
  repeat' (first | with_reducible rfl | with_reducible apply State.of_ite | with_reducible apply State.of_ite1 | with_reducible apply State.of_foldl | intro _ _ | (solve | simp (maxDischargeDepth := 80)) | dsimp only | split)
@[simp ↓] theorem State.switchOff_fixed (s : State) (n : Nat) : (State.switchOff s n).fixed = s.fixed := by
  unfold State.switchOff
  repeat' (first | with_reducible rfl | with_reducible apply State.of_ite | with_reducible apply State.of_ite1 | with_reducible apply State.of_foldl | intro _ _ | (solve | simp (maxDischargeDepth := 80)))
@[simp ↓] theorem State.forcedDone_fixed (s : State) (li : Nat) : (State.forcedDone s li).fixed = s.fixed := by
  unfold State.forcedDone
  repeat' (first | with_reducible rfl | with_reducible apply State.of_ite | with_reducible apply State.of_ite1 | with_reducible apply State.of_foldl | intro _ _ | (solve | simp (maxDischargeDepth := 80)))
@[simp ↓] theorem State.forceDependents_fixed (s : State) (a : Nat) (reqr : Nat) : (State.forceDependents s a reqr).fixed = s.fixed := by
  unfold State.forceDependents
  repeat' (first | with_reducible rfl | with_reducible apply State.of_ite | with_reducible apply State.of_ite1 | with_reducible apply State.of_foldl | intro _ _ | (solve | simp (maxDischargeDepth := 80)))
@[simp ↓] theorem State.downFailure_fixed (s : State) (g : Nat) (cause : Nat) (ep : Nat) : (State.downFailure s g cause ep).fixed = s.fixed := by
  unfold State.downFailure
  repeat' (first | with_reducible rfl | with_reducible apply State.of_ite | with_reducible apply State.of_ite1 | with_reducible apply State.of_foldl | intro _ _ | (solve | simp (maxDischargeDepth := 80)))
@[simp ↓] theorem State.derateAtOn_fixed (s : State) (li : Nat) : (State.derateAtOn s li).fixed = s.fixed := by
  unfold State.derateAtOn
  repeat' (first | with_reducible rfl | with_reducible apply State.of_ite | with_reducible apply State.of_ite1 | with_reducible apply State.of_foldl | intro _ _ | (solve | simp (maxDischargeDepth := 80)))
@[simp ↓] theorem State.beforeState_fixed (s : State) (li : ℕ) (old : EState) (new : EState) (cls : ℕ) (reqr : ℕ) (comp : Bool) : (State.beforeState s li old new cls reqr comp).fixed = s.fixed := by
  unfold State.beforeState
  repeat' (first | with_reducible rfl | with_reducible apply State.of_ite | with_reducible apply State.of_ite1 | with_reducible apply State.of_foldl | intro _ _ | (solve | simp (maxDischargeDepth := 80)) | dsimp only | split)
@[simp ↓] theorem State.afterState_fixed (s : State) (li : ℕ) (old : EState) (new : EState) (cls : ℕ) (reqr : ℕ) (comp : Bool) : (State.afterState s li old new cls reqr comp).fixed = s.fixed := by
  unfold State.afterState
  repeat' (first | with_reducible rfl | with_reducible apply State.of_ite | with_reducible apply State.of_ite1 | with_reducible apply State.of_foldl | intro _ _ | (solve | simp (maxDischargeDepth := 80)) | dsimp only | split)
@[simp ↓] theorem State.commitState_fixed (s : State) (li : Nat) (c : Cm) : (State.commitState s li c).fixed = s.fixed := by
  unfold State.commitState
  repeat' (first | with_reducible rfl | with_reducible apply State.of_ite | with_reducible apply State.of_ite1 | with_reducible apply State.of_foldl | intro _ _ | (solve | simp (maxDischargeDepth := 80)))
@[simp ↓] theorem State.setTimer_fixed (s : State) (g : Nat) (us : Nat) (k : StepRun) : (State.setTimer s g us k).fixed = s.fixed := by
  unfold State.setTimer
  repeat' (first | with_reducible rfl | with_reducible apply State.of_ite | with_reducible apply State.of_ite1 | with_reducible apply State.of_foldl | intro _ _ | (solve | simp (maxDischargeDepth := 80)))
@[simp ↓] theorem State.latchPlan_fixed (s : State) (g : ℕ) : (State.latchPlan s g).fixed = s.fixed := by
  unfold State.latchPlan
  repeat' (first | with_reducible rfl | with_reducible apply State.of_ite | with_reducible apply State.of_ite1 | with_reducible apply State.of_foldl | intro _ _ | (solve | simp (maxDischargeDepth := 80)) | dsimp only | split)
@[simp ↓] theorem State.latchGroup_fixed (s : State) (g : Nat) : (State.latchGroup s g).fixed = s.fixed := by
  unfold State.latchGroup
  repeat' (first | with_reducible rfl | with_reducible apply State.of_ite | with_reducible apply State.of_ite1 | with_reducible apply State.of_foldl | intro _ _ | (solve | simp (maxDischargeDepth := 80)))
@[simp ↓] theorem State.unwindDone_fixed (s : State) (g : Nat) : (State.unwindDone s g).fixed = s.fixed := by
  unfold State.unwindDone
  repeat' (first | with_reducible rfl | with_reducible apply State.of_ite | with_reducible apply State.of_ite1 | with_reducible apply State.of_foldl | intro _ _ | (solve | simp (maxDischargeDepth := 80)))
@[simp ↓] theorem State.groupAtRest_fixed (s : State) (g : Nat) : (State.groupAtRest s g).1.fixed = s.fixed := by
  unfold State.groupAtRest
  repeat' (first | with_reducible rfl | with_reducible apply State.of_ite | with_reducible apply State.of_ite1 | with_reducible apply State.of_foldl | intro _ _ | (solve | simp (maxDischargeDepth := 80)))
@[simp ↓] theorem State.downPlan_fixed (s : State) (g : ℕ) : (State.downPlan s g).fixed = s.fixed := by
  unfold State.downPlan
  repeat' (first | with_reducible rfl | with_reducible apply State.of_ite | with_reducible apply State.of_ite1 | with_reducible apply State.of_foldl | intro _ _ | (solve | simp (maxDischargeDepth := 80)) | dsimp only | split)
@[simp ↓] theorem State.downGo_fixed (s : State) (g : ℕ) : (State.downGo s g).1.fixed = s.fixed := by
  unfold State.downGo
  repeat' (first | with_reducible rfl | with_reducible apply State.of_ite | with_reducible apply State.of_ite1 | with_reducible apply State.of_foldl | intro _ _ | (solve | simp (maxDischargeDepth := 80)) | dsimp only | split)
@[simp ↓] theorem State.enterDown_fixed (s : State) (g : ℕ) (st : EState) : (State.enterDown s g st).1.fixed = s.fixed := by
  unfold State.enterDown
  repeat' (first | with_reducible rfl | with_reducible apply State.of_ite | with_reducible apply State.of_ite1 | with_reducible apply State.of_foldl | intro _ _ | (solve | simp (maxDischargeDepth := 80)) | dsimp only | split)
@[simp ↓] theorem State.upPlan_fixed (s : State) (g : ℕ) : (State.upPlan s g).fixed = s.fixed := by
  unfold State.upPlan
  repeat' (first | with_reducible rfl | with_reducible apply State.of_ite | with_reducible apply State.of_ite1 | with_reducible apply State.of_foldl | intro _ _ | (solve | simp (maxDischargeDepth := 80)) | dsimp only | split)
@[simp ↓] theorem State.enterResume_fixed (s : State) (g : Nat) : (State.enterResume s g).1.fixed = s.fixed := by
  unfold State.enterResume
  repeat' (first | with_reducible rfl | with_reducible apply State.of_ite | with_reducible apply State.of_ite1 | with_reducible apply State.of_foldl | intro _ _ | (solve | simp (maxDischargeDepth := 80)) | dsimp only | split)
@[simp ↓] theorem State.unwindForce_fixed (s : State) (g : ℕ) : (State.unwindForce s g).fixed = s.fixed := by
  unfold State.unwindForce
  repeat' (first | with_reducible rfl | with_reducible apply State.of_ite | with_reducible apply State.of_ite1 | with_reducible apply State.of_foldl | intro _ _ | (solve | simp (maxDischargeDepth := 80)) | dsimp only | split)
@[simp ↓] theorem State.seqFinish_fixed (s : State) (g : Nat) : (State.seqFinish s g).1.fixed = s.fixed := by
  unfold State.seqFinish
  repeat' (first | with_reducible rfl | with_reducible apply State.of_ite | with_reducible apply State.of_ite1 | with_reducible apply State.of_foldl | intro _ _ | (solve | simp (maxDischargeDepth := 80)) | dsimp only | split)
@[simp ↓] theorem State.seqEnd_fixed (s : State) (g : Nat) : (State.seqEnd s g).1.fixed = s.fixed := by
  unfold State.seqEnd
  repeat' (first | with_reducible rfl | with_reducible apply State.of_ite | with_reducible apply State.of_ite1 | with_reducible apply State.of_foldl | intro _ _ | (solve | simp (maxDischargeDepth := 80)))
@[simp ↓] theorem State.groupStep_fixed (s : State) (g : ℕ) : (State.groupStep s g).fixed = s.fixed := by
  unfold State.groupStep
  repeat' (first | with_reducible rfl | with_reducible apply State.of_ite | with_reducible apply State.of_ite1 | with_reducible apply State.of_foldl | intro _ _ | (solve | simp (maxDischargeDepth := 80)) | dsimp only | split)
@[simp ↓] theorem State.seqRun_fixed (n : Nat) (s : State) (g k : Nat) : (State.seqRun n s g k).fixed = s.fixed := by
  induction n generalizing s k with
  | zero => rfl
  | succ n ih =>
    have hn : ∀ r : State × Option Nat, (match r.2 with | some j => State.seqRun n r.1 g j | none => r.1).fixed = r.1.fixed := by
      intro r; split <;> simp [ih]
    unfold State.seqRun
    extract_lets s1 next
    have h1 : s1.fixed = s.fixed := by simp [s1]
    have h2 : ∀ r, (next r).fixed = r.1.fixed := hn
    split
    · exact h1
    · split
      · rw [h2]; simp [h1]
      · extract_lets l
        split
        · rw [h2]; simp [h1]
        · simp [h1]
      · simp [h1]
      · simp [h1]
      · simp [h1]
      · extract_lets pin rel s2
        rw [h2]; simp [s2, h1]
      · exact h1
@[simp ↓] theorem State.seqGo_fixed (g : Nat) (r : State × Option Nat) : (State.seqGo g r).fixed = r.1.fixed := by
  unfold State.seqGo; split <;> simp
@[simp ↓] theorem State.seqDone_fixed (s : State) (g : Nat) : (State.seqDone s g).fixed = s.fixed := by
  unfold State.seqDone
  repeat' (first | with_reducible rfl | with_reducible apply State.of_ite | with_reducible apply State.of_ite1 | with_reducible apply State.of_foldl | intro _ _ | (solve | simp (maxDischargeDepth := 80)))
@[simp ↓] theorem State.upFailure_fixed (s : State) (g : Nat) (cause : Nat) (ep : Nat) : (State.upFailure s g cause ep).fixed = s.fixed := by
  unfold State.upFailure
  repeat' (first | with_reducible rfl | with_reducible apply State.of_ite | with_reducible apply State.of_ite1 | with_reducible apply State.of_foldl | intro _ _ | (solve | simp (maxDischargeDepth := 80)))
@[simp ↓] theorem State.bundleJudge_fixed (s : State) (g : Nat) : (State.bundleJudge s g).fixed = s.fixed := by
  unfold State.bundleJudge
  repeat' (first | with_reducible rfl | with_reducible apply State.of_ite | with_reducible apply State.of_ite1 | with_reducible apply State.of_foldl | intro _ _ | (solve | simp (maxDischargeDepth := 80)) | dsimp only | split)
@[simp ↓] theorem State.groupCpl_fixed (s : State) (g : Nat) (c : Cpl) : (State.groupCpl s g c).fixed = s.fixed := by
  unfold State.groupCpl
  repeat' (first | with_reducible rfl | with_reducible apply State.of_ite | with_reducible apply State.of_ite1 | with_reducible apply State.of_foldl | intro _ _ | (solve | simp (maxDischargeDepth := 80)))
@[simp ↓] theorem State.groupPlan_fixed (s : State) (g : ℕ) (old : EState) (new : EState) (target : EState) : (State.groupPlan s g old new target).fixed = s.fixed := by
  unfold State.groupPlan
  repeat' (first | with_reducible rfl | with_reducible apply State.of_ite | with_reducible apply State.of_ite1 | with_reducible apply State.of_foldl | intro _ _ | (solve | simp (maxDischargeDepth := 80)) | dsimp only | split)
@[simp ↓] theorem State.groupCommitted_fixed (s : State) (g : ℕ) (old : EState) (new : EState) (target : EState) (was : Bool) : (State.groupCommitted s g old new target was).fixed = s.fixed := by
  unfold State.groupCommitted
  repeat' (first | with_reducible rfl | with_reducible apply State.of_ite | with_reducible apply State.of_ite1 | with_reducible apply State.of_foldl | intro _ _ | (solve | simp (maxDischargeDepth := 80)) | dsimp only | split)
@[simp ↓] theorem State.groupRetry_fixed (s : State) (g : Nat) : (State.groupRetry s g).fixed = s.fixed := by
  unfold State.groupRetry
  repeat' (first | with_reducible rfl | with_reducible apply State.of_ite | with_reducible apply State.of_ite1 | with_reducible apply State.of_foldl | intro _ _ | (solve | simp (maxDischargeDepth := 80)))
@[simp ↓] theorem State.groupResume_fixed (s : State) (g : Nat) : (State.groupResume s g).fixed = s.fixed := by
  unfold State.groupResume
  repeat' (first | with_reducible rfl | with_reducible apply State.of_ite | with_reducible apply State.of_ite1 | with_reducible apply State.of_foldl | intro _ _ | (solve | simp (maxDischargeDepth := 80)))
@[simp ↓] theorem State.groupAuto_fixed (s : State) (g : ℕ) : (State.groupAuto s g).fixed = s.fixed := by
  unfold State.groupAuto
  repeat' (first | with_reducible rfl | with_reducible apply State.of_ite | with_reducible apply State.of_ite1 | with_reducible apply State.of_foldl | intro _ _ | (solve | simp (maxDischargeDepth := 80)) | dsimp only | split)
@[simp ↓] theorem State.inputsRelease_fixed (s : State) : (State.inputsRelease s).fixed = s.fixed := by
  unfold State.inputsRelease
  repeat' (first | with_reducible rfl | with_reducible apply State.of_ite | with_reducible apply State.of_ite1 | with_reducible apply State.of_foldl | intro _ _ | (solve | simp (maxDischargeDepth := 80)))
@[simp ↓] theorem State.autoStart_fixed (s : State) : (State.autoStart s).fixed = s.fixed := by
  unfold State.autoStart
  repeat' (first | with_reducible rfl | with_reducible apply State.of_ite | with_reducible apply State.of_ite1 | with_reducible apply State.of_foldl | intro _ _ | (solve | simp (maxDischargeDepth := 80)))
@[simp ↓] theorem State.groupInputLoss_fixed (s : State) (g : Nat) : (s.groupInputLoss g).fixed = s.fixed := by
  unfold State.groupInputLoss
  dsimp only
  repeat' split
  all_goals first | with_reducible rfl | simp
@[simp ↓] theorem runDelayEnd_fixed (g : Fin 16) (s : State) : (s.after (runDelayEnd g s)).fixed = s.fixed := by
  unfold runDelayEnd
  rw [State.after_next]
  repeat' (first | with_reducible rfl | with_reducible apply State.of_ite | with_reducible apply State.of_ite1 | with_reducible apply State.of_foldl | intro _ _ | (solve | simp (maxDischargeDepth := 80)))
@[simp ↓] theorem runWaitSatisfied_fixed (g : Fin 16) (s : State) : (s.after (runWaitSatisfied g s)).fixed = s.fixed := by
  unfold runWaitSatisfied
  rw [State.after_next]
  repeat' (first | with_reducible rfl | with_reducible apply State.of_ite | with_reducible apply State.of_ite1 | with_reducible apply State.of_foldl | intro _ _ | (solve | simp (maxDischargeDepth := 80)))
@[simp ↓] theorem runWaitTimeout_fixed (g : Fin 16) (s : State) : (s.after (runWaitTimeout g s)).fixed = s.fixed := by
  unfold runWaitTimeout
  rw [State.after_next]
  repeat' (first | with_reducible rfl | with_reducible apply State.of_ite | with_reducible apply State.of_ite1 | with_reducible apply State.of_foldl | intro _ _ | (solve | simp (maxDischargeDepth := 80)))
@[simp ↓] theorem runRetryBegin_fixed (g : Fin 16) (s : State) : (s.after (runRetryBegin g s)).fixed = s.fixed := by
  unfold runRetryBegin
  rw [State.after_next]
  repeat' (first | with_reducible rfl | with_reducible apply State.of_ite | with_reducible apply State.of_ite1 | with_reducible apply State.of_foldl | intro _ _ | (solve | simp (maxDischargeDepth := 80)))
@[simp ↓] theorem runResumeTimeout_fixed (g : Fin 16) (s : State) : (s.after (runResumeTimeout g s)).fixed = s.fixed := by
  unfold runResumeTimeout
  rw [State.after_next]
  repeat' (first | with_reducible rfl | with_reducible apply State.of_ite | with_reducible apply State.of_ite1 | with_reducible apply State.of_foldl | intro _ _ | (solve | simp (maxDischargeDepth := 80)))
@[simp ↓] theorem State.loopRequest_fixed (s : State) (li : Nat) (t : EState) (reqr : Nat) : (State.loopRequest s li t reqr).fixed = s.fixed := by
  unfold State.loopRequest
  repeat' (first | with_reducible rfl | with_reducible apply State.of_ite | with_reducible apply State.of_ite1 | with_reducible apply State.of_foldl | intro _ _ | (solve | simp (maxDischargeDepth := 80)))
@[simp ↓] theorem State.chargerStop_fixed (s : State) : (State.chargerStop s).fixed = s.fixed := by
  unfold State.chargerStop
  repeat' (first | with_reducible rfl | with_reducible apply State.of_ite | with_reducible apply State.of_ite1 | with_reducible apply State.of_foldl | intro _ _ | (solve | simp (maxDischargeDepth := 80)))
@[simp ↓] theorem State.timersZero_fixed (s : State) : (State.timersZero s).fixed = s.fixed := by
  unfold State.timersZero
  repeat' (first | with_reducible rfl | with_reducible apply State.of_ite | with_reducible apply State.of_ite1 | with_reducible apply State.of_foldl | intro _ _ | (solve | simp (maxDischargeDepth := 80)))
@[simp ↓] theorem State.reverseOn_fixed (s : State) : (State.reverseOn s).fixed = s.fixed := by
  unfold State.reverseOn
  repeat' (first | with_reducible rfl | with_reducible apply State.of_ite | with_reducible apply State.of_ite1 | with_reducible apply State.of_foldl | intro _ _ | (solve | simp (maxDischargeDepth := 80)) | dsimp only | split)
@[simp ↓] theorem State.energyStart_fixed (s : State) (o : Energy) : (State.energyStart s o).fixed = s.fixed := by
  unfold State.energyStart
  repeat' (first | with_reducible rfl | with_reducible apply State.of_ite | with_reducible apply State.of_ite1 | with_reducible apply State.of_foldl | intro _ _ | (solve | simp (maxDischargeDepth := 80)))
@[simp ↓] theorem State.energyStop_fixed (s : State) (named : Bool) : (State.energyStop s named).fixed = s.fixed := by
  unfold State.energyStop
  repeat' (first | with_reducible rfl | with_reducible apply State.of_ite | with_reducible apply State.of_ite1 | with_reducible apply State.of_foldl | intro _ _ | (solve | simp (maxDischargeDepth := 80)))
@[simp ↓] theorem State.energyEnd_fixed (s : State) (named : Bool) : (State.energyEnd s named).fixed = s.fixed := by
  unfold State.energyEnd
  repeat' (first | with_reducible rfl | with_reducible apply State.of_ite | with_reducible apply State.of_ite1 | with_reducible apply State.of_foldl | intro _ _ | (solve | simp (maxDischargeDepth := 80)))
@[simp ↓] theorem State.chargerTo_fixed (s : State) (old : EState) (new : EState) (target : EState) (cls : Nat) (reqr : Nat) : (State.chargerTo s old new target cls reqr).fixed = s.fixed := by
  unfold State.chargerTo
  repeat' (first | with_reducible rfl | with_reducible apply State.of_ite | with_reducible apply State.of_ite1 | with_reducible apply State.of_foldl | intro _ _ | (solve | simp (maxDischargeDepth := 80)) | dsimp only | split)
@[simp ↓] theorem State.gaugeFlags_fixed (s : State) : (State.gaugeFlags s).fixed = s.fixed := by
  unfold State.gaugeFlags
  repeat' (first | with_reducible rfl | with_reducible apply State.of_ite | with_reducible apply State.of_ite1 | with_reducible apply State.of_foldl | intro _ _ | (solve | simp (maxDischargeDepth := 80)))
@[simp ↓] theorem State.learnEnd_fixed (s : State) : (State.learnEnd s).fixed = s.fixed := by
  unfold State.learnEnd
  repeat' (first | with_reducible rfl | with_reducible apply State.of_ite | with_reducible apply State.of_ite1 | with_reducible apply State.of_foldl | intro _ _ | (solve | simp (maxDischargeDepth := 80)))
@[simp ↓] theorem State.wdgStart_fixed (s : State) (w : Nat) : (State.wdgStart s w).fixed = s.fixed := by
  unfold State.wdgStart
  repeat' (first | with_reducible rfl | with_reducible apply State.of_ite | with_reducible apply State.of_ite1 | with_reducible apply State.of_foldl | intro _ _ | (solve | simp (maxDischargeDepth := 80)))
@[simp ↓] theorem State.rtcTo_fixed (s : State) (old : EState) (new : EState) : (State.rtcTo s old new).fixed = s.fixed := by
  unfold State.rtcTo
  repeat' (first | with_reducible rfl | with_reducible apply State.of_ite | with_reducible apply State.of_ite1 | with_reducible apply State.of_foldl | intro _ _ | (solve | simp (maxDischargeDepth := 80)) | dsimp only | split)
@[simp ↓] theorem State.setQueue_fixed (s : State) (c : Nat) (l : List (Nat × List Req)) : (State.setQueue s c l).fixed = s.fixed := by
  unfold State.setQueue
  repeat' (first | with_reducible rfl | with_reducible apply State.of_ite | with_reducible apply State.of_ite1 | with_reducible apply State.of_foldl | intro _ _ | (solve | simp (maxDischargeDepth := 80)))
@[simp ↓] theorem State.refuse_fixed (s : State) (r : Req) (c : Code) : (State.refuse s r c).fixed = s.fixed := by
  unfold State.refuse
  repeat' (first | with_reducible rfl | with_reducible apply State.of_ite | with_reducible apply State.of_ite1 | with_reducible apply State.of_foldl | intro _ _ | (solve | simp (maxDischargeDepth := 80)))
@[simp ↓] theorem State.capture_fixed (s : State) (p : Nat) : (State.capture s p).fixed = s.fixed := by
  unfold State.capture
  repeat' (first | with_reducible rfl | with_reducible apply State.of_ite | with_reducible apply State.of_ite1 | with_reducible apply State.of_foldl | intro _ _ | (solve | simp (maxDischargeDepth := 80)) | dsimp only | split)
@[simp ↓] theorem State.dropEntry_fixed (s : State) (x : Nat × Nat × List Req) : (State.dropEntry s x).fixed = s.fixed := by
  unfold State.dropEntry
  repeat' (first | with_reducible rfl | with_reducible apply State.of_ite | with_reducible apply State.of_ite1 | with_reducible apply State.of_foldl | intro _ _ | (solve | simp (maxDischargeDepth := 80)))
@[simp ↓] theorem State.useClearAuth_fixed (s : State) (q : Req) : (State.useClearAuth s q).fixed = s.fixed := by
  unfold State.useClearAuth
  repeat' (first | with_reducible rfl | with_reducible apply State.of_ite | with_reducible apply State.of_ite1 | with_reducible apply State.of_foldl | intro _ _ | (solve | simp (maxDischargeDepth := 80)) | dsimp only | split)
@[simp ↓] theorem State.promote_fixed (s : State) (ep : Nat) : (State.promote s ep).fixed = s.fixed := by
  unfold State.promote
  repeat' (first | with_reducible rfl | with_reducible apply State.of_ite | with_reducible apply State.of_ite1 | with_reducible apply State.of_foldl | intro _ _ | (solve | simp (maxDischargeDepth := 80)))
@[simp ↓] theorem State.toStitch_fixed (s : State) (o : Op) : (State.toStitch s o).fixed = s.fixed := by
  unfold State.toStitch
  repeat' (first | with_reducible rfl | with_reducible apply State.of_ite | with_reducible apply State.of_ite1 | with_reducible apply State.of_foldl | intro _ _ | (solve | simp (maxDischargeDepth := 80)))
@[simp ↓] theorem State.stamp_fixed (s : State) : (State.stamp s).2.fixed = s.fixed := by
  unfold State.stamp
  repeat' (first | with_reducible rfl | with_reducible apply State.of_ite | with_reducible apply State.of_ite1 | with_reducible apply State.of_foldl | intro _ _ | (solve | simp (maxDischargeDepth := 80)))
@[simp ↓] theorem State.orderOne_fixed (s : State) (r : Req) : (State.orderOne s r).fixed = s.fixed := by
  unfold State.orderOne
  repeat' (first | with_reducible rfl | with_reducible apply State.of_ite | with_reducible apply State.of_ite1 | with_reducible apply State.of_foldl | intro _ _ | (solve | simp (maxDischargeDepth := 80)) | dsimp only | split)
@[simp ↓] theorem State.chargerLimit_fixed (s : State) (v : Int) (cls : Nat) (reqr : Nat) : (State.chargerLimit s v cls reqr).fixed = s.fixed := by
  unfold State.chargerLimit
  repeat' (first | with_reducible rfl | with_reducible apply State.of_ite | with_reducible apply State.of_ite1 | with_reducible apply State.of_foldl | intro _ _ | (solve | simp (maxDischargeDepth := 80)))
@[simp ↓] theorem State.noteTarget_fixed (s : State) (o : Op) : (State.noteTarget s o).fixed = s.fixed := by
  unfold State.noteTarget
  repeat' (first | with_reducible rfl | with_reducible apply State.of_ite | with_reducible apply State.of_ite1 | with_reducible apply State.of_foldl | intro _ _ | (solve | simp (maxDischargeDepth := 80)) | dsimp only | split)
@[simp ↓] theorem State.withMember_fixed (s : State) (o : Op) : (s.withMember o).fixed = s.fixed := by
  unfold State.withMember
  dsimp only
  repeat' split
  all_goals first | with_reducible rfl | simp
@[simp ↓] theorem State.withMembers_fixed (s : State) (l : List Op) : (s.withMembers l).fixed = s.fixed :=
  State.of_foldl _ _ _ rfl State.withMember_fixed
@[simp ↓] theorem State.bundleChecked_fixed (s : State) (b : Nat) : (State.bundleChecked s b).fixed = s.fixed := by
  unfold State.bundleChecked
  repeat' (first | with_reducible rfl | with_reducible apply State.of_ite | with_reducible apply State.of_ite1 | with_reducible apply State.of_foldl | intro _ _ | (solve | simp (maxDischargeDepth := 80)) | dsimp only | split)
@[simp ↓] theorem State.orderMember_fixed (s : State) : (State.orderMember s).fixed = s.fixed := by
  unfold State.orderMember
  repeat' (first | with_reducible rfl | with_reducible apply State.of_ite | with_reducible apply State.of_ite1 | with_reducible apply State.of_foldl | intro _ _ | (solve | simp (maxDischargeDepth := 80)) | dsimp only | split)
@[simp ↓] theorem State.takeEntry_fixed (s : State) (x : Nat × Nat × List Req) : (State.takeEntry s x).fixed = s.fixed := by
  unfold State.takeEntry
  repeat' (first | with_reducible rfl | with_reducible apply State.of_ite | with_reducible apply State.of_ite1 | with_reducible apply State.of_foldl | intro _ _ | (solve | simp (maxDischargeDepth := 80)) | dsimp only | split)
@[simp ↓] theorem State.order_fixed (s : State) : (State.order s).fixed = s.fixed := by
  unfold State.order
  repeat' (first | with_reducible rfl | with_reducible apply State.of_ite | with_reducible apply State.of_ite1 | with_reducible apply State.of_foldl | intro _ _ | (solve | simp (maxDischargeDepth := 80)) | dsimp only | split)
@[simp ↓] theorem State.setSlot_fixed (s : State) (k : Nat) (t : Option TackSlot) : (State.setSlot s k t).fixed = s.fixed := by
  unfold State.setSlot
  repeat' (first | with_reducible rfl | with_reducible apply State.of_ite | with_reducible apply State.of_ite1 | with_reducible apply State.of_foldl | intro _ _ | (solve | simp (maxDischargeDepth := 80)))
@[simp ↓] theorem State.queueCommit_fixed (s : State) (c : PCommit) : (State.queueCommit s c).fixed = s.fixed := by
  unfold State.queueCommit
  repeat' (first | with_reducible rfl | with_reducible apply State.of_ite | with_reducible apply State.of_ite1 | with_reducible apply State.of_foldl | intro _ _ | (solve | simp (maxDischargeDepth := 80)))
@[simp ↓] theorem State.startIssue_fixed (s : State) (li : Nat) : (State.startIssue s li).fixed = s.fixed := by
  unfold State.startIssue
  repeat' (first | with_reducible rfl | with_reducible apply State.of_ite | with_reducible apply State.of_ite1 | with_reducible apply State.of_foldl | intro _ _ | (solve | simp (maxDischargeDepth := 80)) | dsimp only | split)
@[simp ↓] theorem State.stopIssue_fixed (s : State) (li : Nat) (disch : Bool) : (State.stopIssue s li disch).fixed = s.fixed := by
  unfold State.stopIssue
  repeat' (first | with_reducible rfl | with_reducible apply State.of_ite | with_reducible apply State.of_ite1 | with_reducible apply State.of_foldl | intro _ _ | (solve | simp (maxDischargeDepth := 80)) | dsimp only | split)
@[simp ↓] theorem State.actuate_fixed (s : State) (o : Op) : (State.actuate s o).fixed = s.fixed := by
  unfold State.actuate
  repeat' (first | with_reducible rfl | with_reducible apply State.of_ite | with_reducible apply State.of_ite1 | with_reducible apply State.of_foldl | intro _ _ | (solve | simp (maxDischargeDepth := 80)) | dsimp only | split)
@[simp ↓] theorem State.confirm_fixed (s : State) (k : Nat) : (State.confirm s k).fixed = s.fixed := by
  unfold State.confirm
  repeat' (first | with_reducible rfl | with_reducible apply State.of_ite | with_reducible apply State.of_ite1 | with_reducible apply State.of_foldl | intro _ _ | (solve | simp (maxDischargeDepth := 80)) | dsimp only | split)
@[simp ↓] theorem State.beginLink_fixed (s : State) (k : Nat) (o : Op) : (State.beginLink s k o).fixed = s.fixed := by
  unfold State.beginLink
  repeat' (first | with_reducible rfl | with_reducible apply State.of_ite | with_reducible apply State.of_ite1 | with_reducible apply State.of_foldl | intro _ _ | (solve | simp (maxDischargeDepth := 80)) | dsimp only | split)
@[simp ↓] theorem State.treeEnd_fixed (s : State) (o : Op) : (State.treeEnd s o).fixed = s.fixed := by
  unfold State.treeEnd
  repeat' (first | with_reducible rfl | with_reducible apply State.of_ite | with_reducible apply State.of_ite1 | with_reducible apply State.of_foldl | intro _ _ | (solve | simp (maxDischargeDepth := 80)) | dsimp only | split)
@[simp ↓] theorem State.issueAt_fixed (s : State) (k : Nat) (o : Op) : (State.issueAt s k o).fixed = s.fixed := by
  unfold State.issueAt
  repeat' (first | with_reducible rfl | with_reducible apply State.of_ite | with_reducible apply State.of_ite1 | with_reducible apply State.of_foldl | intro _ _ | (solve | simp (maxDischargeDepth := 80)))
@[simp ↓] theorem State.freeTack_fixed (s : State) (k : Nat) : (State.freeTack s k).fixed = s.fixed := by
  unfold State.freeTack
  repeat' (first | with_reducible rfl | with_reducible apply State.of_ite | with_reducible apply State.of_ite1 | with_reducible apply State.of_foldl | intro _ _ | (solve | simp (maxDischargeDepth := 80)) | dsimp only | split)
@[simp ↓] theorem State.noteExpired_fixed (s : State) (o : Op) (c : Code) : (State.noteExpired s o c).fixed = s.fixed := by
  unfold State.noteExpired
  repeat' (first | with_reducible rfl | with_reducible apply State.of_ite | with_reducible apply State.of_ite1 | with_reducible apply State.of_foldl | intro _ _ | (solve | simp (maxDischargeDepth := 80)) | dsimp only | split)
@[simp ↓] theorem State.endOp_fixed (s : State) (k : Nat) (c : Code) : (State.endOp s k c).fixed = s.fixed := by
  unfold State.endOp
  repeat' (first | with_reducible rfl | with_reducible apply State.of_ite | with_reducible apply State.of_ite1 | with_reducible apply State.of_foldl | intro _ _ | (solve | simp (maxDischargeDepth := 80)) | dsimp only | split)
@[simp ↓] theorem State.bundleOutcome_fixed (s : State) (b : Nat) : (State.bundleOutcome s b).fixed = s.fixed := by
  unfold State.bundleOutcome
  repeat' (first | with_reducible rfl | with_reducible apply State.of_ite | with_reducible apply State.of_ite1 | with_reducible apply State.of_foldl | intro _ _ | (solve | simp (maxDischargeDepth := 80)) | dsimp only | split)
@[simp ↓] theorem State.compFailed_fixed (s : State) (k : Nat) (o : Op) : (State.compFailed s k o).fixed = s.fixed := by
  unfold State.compFailed
  repeat' (first | with_reducible rfl | with_reducible apply State.of_ite | with_reducible apply State.of_ite1 | with_reducible apply State.of_foldl | intro _ _ | (solve | simp (maxDischargeDepth := 80)))
@[simp ↓] theorem State.compRun_fixed (n : Nat) (s : State) (k : Nat) (o : Op) : (State.compRun n s k o).fixed = s.fixed := by
  induction n generalizing s o with
  | zero => rfl
  | succ n ih =>
    simp only [State.compRun]
    split
    · simp
    · simp [ih]
    · simp [ih]
    · repeat' split
      all_goals simp [ih]
    · simp
@[simp ↓] theorem State.compIssue_fixed (s : State) (k : ℕ) (o : Op) (v : BitVec 32) (links : List EState) : (State.compIssue s k o v links).fixed = s.fixed := by
  unfold State.compIssue
  repeat' (first | with_reducible rfl | with_reducible apply State.of_ite | with_reducible apply State.of_ite1 | with_reducible apply State.of_foldl | intro _ _ | (solve | simp (maxDischargeDepth := 80)) | dsimp only | split)
@[simp ↓] theorem State.compSend_fixed (s : State) (k : ℕ) (o : Op) (v : BitVec 32) : (State.compSend s k o v).fixed = s.fixed := by
  unfold State.compSend
  repeat' (first | with_reducible rfl | with_reducible apply State.of_ite | with_reducible apply State.of_ite1 | with_reducible apply State.of_foldl | intro _ _ | (solve | simp (maxDischargeDepth := 80)) | dsimp only | split)
@[simp ↓] theorem State.compOutput_fixed (s : State) (k : ℕ) (o : Op) (prior : EState) : (State.compOutput s k o prior).fixed = s.fixed := by
  unfold State.compOutput
  repeat' (first | with_reducible rfl | with_reducible apply State.of_ite | with_reducible apply State.of_ite1 | with_reducible apply State.of_foldl | intro _ _ | (solve | simp (maxDischargeDepth := 80)) | dsimp only | split)
@[simp ↓] theorem State.groupLoose_fixed (s : State) (g : ℕ) : (State.groupLoose s g).fixed = s.fixed := by
  unfold State.groupLoose
  repeat' (first | with_reducible rfl | with_reducible apply State.of_ite | with_reducible apply State.of_ite1 | with_reducible apply State.of_foldl | intro _ _ | (solve | simp (maxDischargeDepth := 80)) | dsimp only | split)
@[simp ↓] theorem State.compMember_fixed (s : State) (x : Bundle) (k : Nat) (o : Op) : (State.compMember s x k o).fixed = s.fixed := by
  unfold State.compMember
  repeat' (first | with_reducible rfl | with_reducible apply State.of_ite | with_reducible apply State.of_ite1 | with_reducible apply State.of_foldl | intro _ _ | (solve | simp (maxDischargeDepth := 80)) | dsimp only | split)
@[simp ↓] theorem State.abortBundle_fixed (s : State) (b : Nat) (causes : List Nat) : (s.abortBundle b causes).fixed = s.fixed := by
  unfold State.abortBundle
  split
  · rfl
  · split
    · rfl
    · split
      · exact State.modPipe_fixed _ _
      · extract_lets x early t u held v
        rw [State.bundleOutcome_fixed]
        apply State.of_foldl
        · apply State.of_foldl
          · exact State.modPipe_fixed _ _
          · intro a c
            dsimp only
            repeat' split
            all_goals simp
        · intro a c
          simp
@[simp ↓] theorem State.abortWhere_fixed (s : State) (f : ℕ → Bool) : (State.abortWhere s f).fixed = s.fixed := by
  unfold State.abortWhere
  repeat' (first | with_reducible rfl | with_reducible apply State.of_ite | with_reducible apply State.of_ite1 | with_reducible apply State.of_foldl | intro _ _ | (solve | simp (maxDischargeDepth := 80)) | dsimp only | split)
@[simp ↓] theorem State.abortFor_fixed (s : State) (ep : Nat) : (State.abortFor s ep).fixed = s.fixed := by
  unfold State.abortFor
  repeat' (first | with_reducible rfl | with_reducible apply State.of_ite | with_reducible apply State.of_ite1 | with_reducible apply State.of_foldl | intro _ _ | (solve | simp (maxDischargeDepth := 80)))
@[simp ↓] theorem State.bundleBegin_fixed (s : State) (b : Nat) : (State.bundleBegin s b).fixed = s.fixed := by
  unfold State.bundleBegin
  repeat' (first | with_reducible rfl | with_reducible apply State.of_ite | with_reducible apply State.of_ite1 | with_reducible apply State.of_foldl | intro _ _ | (solve | simp (maxDischargeDepth := 80)) | dsimp only | split)
@[simp ↓] theorem State.stitch_fixed (s : State) (fast : Bool) : (State.stitch s fast).fixed = s.fixed := by
  unfold State.stitch
  repeat' (first | with_reducible rfl | with_reducible apply State.of_ite | with_reducible apply State.of_ite1 | with_reducible apply State.of_foldl | intro _ _ | (solve | simp (maxDischargeDepth := 80)) | dsimp only | split)
@[simp ↓] theorem State.countLate_fixed (s : State) : (State.countLate s).fixed = s.fixed := by
  unfold State.countLate
  repeat' (first | with_reducible rfl | with_reducible apply State.of_ite | with_reducible apply State.of_ite1 | with_reducible apply State.of_foldl | intro _ _ | (solve | simp (maxDischargeDepth := 80)) | dsimp only | split)
@[simp ↓] theorem State.lateConfirm_fixed (s : State) (f : Op → Bool) : (State.lateConfirm s f).fixed = s.fixed := by
  unfold State.lateConfirm
  repeat' (first | with_reducible rfl | with_reducible apply State.of_ite | with_reducible apply State.of_ite1 | with_reducible apply State.of_foldl | intro _ _ | (solve | simp (maxDischargeDepth := 80)) | dsimp only | split)
@[simp ↓] theorem State.progress_fixed (s : State) (li : Nat) (link : EState) : (State.progress s li link).fixed = s.fixed := by
  unfold State.progress
  repeat' (first | with_reducible rfl | with_reducible apply State.of_ite | with_reducible apply State.of_ite1 | with_reducible apply State.of_foldl | intro _ _ | (solve | simp (maxDischargeDepth := 80)) | dsimp only | split)
@[simp ↓] theorem State.protReleased_fixed (s : State) (li : Nat) : (State.protReleased s li).fixed = s.fixed := by
  unfold State.protReleased
  repeat' (first | with_reducible rfl | with_reducible apply State.of_ite | with_reducible apply State.of_ite1 | with_reducible apply State.of_foldl | intro _ _ | (solve | simp (maxDischargeDepth := 80)))
@[simp ↓] theorem State.recheckAfter_fixed (s : State) (o : Op) : (State.recheckAfter s o).fixed = s.fixed := by
  unfold State.recheckAfter
  repeat' (first | with_reducible rfl | with_reducible apply State.of_ite | with_reducible apply State.of_ite1 | with_reducible apply State.of_foldl | intro _ _ | (solve | simp (maxDischargeDepth := 80)))
@[simp ↓] theorem State.needCorrection_fixed (s : State) (li : Nat) : (State.needCorrection s li).fixed = s.fixed := by
  unfold State.needCorrection
  repeat' (first | with_reducible rfl | with_reducible apply State.of_ite | with_reducible apply State.of_ite1 | with_reducible apply State.of_foldl | intro _ _ | (solve | simp (maxDischargeDepth := 80)))
@[simp ↓] theorem State.clearCommit_fixed (s : State) (li : Nat) (cm : Cm) : (State.clearCommit s li cm).fixed = s.fixed := by
  unfold State.clearCommit
  repeat' (first | with_reducible rfl | with_reducible apply State.of_ite | with_reducible apply State.of_ite1 | with_reducible apply State.of_foldl | intro _ _ | (solve | simp (maxDischargeDepth := 80)) | dsimp only | split)
@[simp ↓] theorem State.substituteCommit_fixed (s : State) (p : Nat) (q : Nat) (cm : Cm) : (State.substituteCommit s p q cm).fixed = s.fixed := by
  unfold State.substituteCommit
  repeat' (first | with_reducible rfl | with_reducible apply State.of_ite | with_reducible apply State.of_ite1 | with_reducible apply State.of_foldl | intro _ _ | (solve | simp (maxDischargeDepth := 80)))
@[simp ↓] theorem State.phaseFailed_fixed (s : State) (p : ℕ) (cm : Cm) : (State.phaseFailed s p cm).fixed = s.fixed := by
  unfold State.phaseFailed
  repeat' (first | with_reducible rfl | with_reducible apply State.of_ite | with_reducible apply State.of_ite1 | with_reducible apply State.of_foldl | intro _ _ | (solve | simp (maxDischargeDepth := 80)) | dsimp only | split)
@[simp ↓] theorem State.phasesCommit_fixed (s : State) (r : ℕ) (n : ℕ) (cm : Cm) : (State.phasesCommit s r n cm).fixed = s.fixed := by
  unfold State.phasesCommit
  repeat' (first | with_reducible rfl | with_reducible apply State.of_ite | with_reducible apply State.of_ite1 | with_reducible apply State.of_foldl | intro _ _ | (solve | simp (maxDischargeDepth := 80)) | dsimp only | split)
@[simp ↓] theorem State.writeOp_fixed (s : State) (o : Op) (link : Option EState) (final : Bool) : (State.writeOp s o link final).fixed = s.fixed := by
  unfold State.writeOp
  repeat' (first | with_reducible rfl | with_reducible apply State.of_ite | with_reducible apply State.of_ite1 | with_reducible apply State.of_foldl | intro _ _ | (solve | simp (maxDischargeDepth := 80)) | dsimp only | split)
@[simp ↓] theorem State.rewrite_fixed (s : State) (p : Op) : (State.rewrite s p).fixed = s.fixed := by
  unfold State.rewrite
  repeat' (first | with_reducible rfl | with_reducible apply State.of_ite | with_reducible apply State.of_ite1 | with_reducible apply State.of_foldl | intro _ _ | (solve | simp (maxDischargeDepth := 80)) | dsimp only | split)
@[simp ↓] theorem State.supersede_fixed (s : State) (o : Op) (failing : Bool) : (State.supersede s o failing).fixed = s.fixed := by
  unfold State.supersede
  repeat' (first | with_reducible rfl | with_reducible apply State.of_ite | with_reducible apply State.of_ite1 | with_reducible apply State.of_foldl | intro _ _ | (solve | simp (maxDischargeDepth := 80)) | dsimp only | split)
@[simp ↓] theorem State.abortUnconfirmed_fixed (s : State) (ep : Nat) (seq : BitVec 32) : (State.abortUnconfirmed s ep seq).fixed = s.fixed := by
  unfold State.abortUnconfirmed
  repeat' (first | with_reducible rfl | with_reducible apply State.of_ite | with_reducible apply State.of_ite1 | with_reducible apply State.of_foldl | intro _ _ | (solve | simp (maxDischargeDepth := 80)) | dsimp only | split)
@[simp ↓] theorem State.leaveFlight_fixed (s : State) (c : PCommit) : (State.leaveFlight s c).fixed = s.fixed := by
  unfold State.leaveFlight
  repeat' (first | with_reducible rfl | with_reducible apply State.of_ite | with_reducible apply State.of_ite1 | with_reducible apply State.of_foldl | intro _ _ | (solve | simp (maxDischargeDepth := 80)) | dsimp only | split)
@[simp ↓] theorem State.nextLink_fixed (s : State) (k : ℕ) (o : Op) : (State.nextLink s k o).fixed = s.fixed := by
  unfold State.nextLink
  repeat' (first | with_reducible rfl | with_reducible apply State.of_ite | with_reducible apply State.of_ite1 | with_reducible apply State.of_foldl | intro _ _ | (solve | simp (maxDischargeDepth := 80)) | dsimp only | split)
@[simp ↓] theorem State.soleWrite_fixed (s : State) (c : PCommit) : (State.soleWrite s c).fixed = s.fixed := by
  unfold State.soleWrite
  repeat' (first | with_reducible rfl | with_reducible apply State.of_ite | with_reducible apply State.of_ite1 | with_reducible apply State.of_foldl | intro _ _ | (solve | simp (maxDischargeDepth := 80)) | dsimp only | split)
@[simp ↓] theorem State.sole_fixed (s : State) : (State.sole s).fixed = s.fixed := by
  unfold State.sole
  repeat' (first | with_reducible rfl | with_reducible apply State.of_ite | with_reducible apply State.of_ite1 | with_reducible apply State.of_foldl | intro _ _ | (solve | simp (maxDischargeDepth := 80)) | dsimp only | split)
@[simp ↓] theorem State.bundleWrite_fixed (s : State) (b : Nat) (x : Bundle) : (s.bundleWrite b x).fixed = s.fixed := by
  unfold State.bundleWrite
  extract_lets t
  rw [State.modPipe_fixed]
  apply State.of_foldl
  · rfl
  · intro a c
    dsimp only
    repeat' split
    all_goals simp
@[simp ↓] theorem State.bundleCommit_fixed (s : State) : (State.bundleCommit s).fixed = s.fixed := by
  unfold State.bundleCommit
  repeat' (first | with_reducible rfl | with_reducible apply State.of_ite | with_reducible apply State.of_ite1 | with_reducible apply State.of_foldl | intro _ _ | (solve | simp (maxDischargeDepth := 80)) | dsimp only | split)
@[simp ↓] theorem State.timeLimit_fixed (s : State) (k : Nat) : (State.timeLimit s k).fixed = s.fixed := by
  unfold State.timeLimit
  repeat' (first | with_reducible rfl | with_reducible apply State.of_ite | with_reducible apply State.of_ite1 | with_reducible apply State.of_foldl | intro _ _ | (solve | simp (maxDischargeDepth := 80)) | dsimp only | split)
@[simp ↓] theorem State.remoteDone_fixed (s : State) (k : Nat) (c : Cpl) : (State.remoteDone s k c).fixed = s.fixed := by
  unfold State.remoteDone
  repeat' (first | with_reducible rfl | with_reducible apply State.of_ite | with_reducible apply State.of_ite1 | with_reducible apply State.of_foldl | intro _ _ | (solve | simp (maxDischargeDepth := 80)) | dsimp only | split)
@[simp ↓] theorem State.lateTack_fixed (s : State) (seq : BitVec 32) : (State.lateTack s seq).fixed = s.fixed := by
  unfold State.lateTack
  repeat' (first | with_reducible rfl | with_reducible apply State.of_ite | with_reducible apply State.of_ite1 | with_reducible apply State.of_foldl | intro _ _ | (solve | simp (maxDischargeDepth := 80)) | dsimp only | split)
@[simp ↓] theorem State.tackConfirm_fixed (s : State) (k : Nat) (seq : BitVec 32) : (State.tackConfirm s k seq).fixed = s.fixed := by
  unfold State.tackConfirm
  repeat' (first | with_reducible rfl | with_reducible apply State.of_ite | with_reducible apply State.of_ite1 | with_reducible apply State.of_foldl | intro _ _ | (solve | simp (maxDischargeDepth := 80)) | dsimp only | split)
@[simp ↓] theorem State.refused91_fixed (s : State) (i : Iface) : (State.refused91 s i).fixed = s.fixed := by
  unfold State.refused91
  repeat' (first | with_reducible rfl | with_reducible apply State.of_ite | with_reducible apply State.of_ite1 | with_reducible apply State.of_foldl | intro _ _ | (solve | simp (maxDischargeDepth := 80)))
@[simp ↓] theorem State.hostRaise_fixed (s : State) (i : Iface) (l : List Req) : (State.hostRaise s i l).fixed = s.fixed := by
  unfold State.hostRaise
  repeat' (first | with_reducible rfl | with_reducible apply State.of_ite | with_reducible apply State.of_ite1 | with_reducible apply State.of_foldl | intro _ _ | (solve | simp (maxDischargeDepth := 80)) | dsimp only | split)
@[simp ↓] theorem State.bufferRefuse_fixed (s : State) (i : Iface) (more : List Req) : (State.bufferRefuse s i more).fixed = s.fixed := by
  unfold State.bufferRefuse
  repeat' (first | with_reducible rfl | with_reducible apply State.of_ite | with_reducible apply State.of_ite1 | with_reducible apply State.of_foldl | intro _ _ | (solve | simp (maxDischargeDepth := 80)))
@[simp ↓] theorem State.stageMember_fixed (s : State) (i : Iface) (r : Req) : (State.stageMember s i r).fixed = s.fixed := by
  unfold State.stageMember
  repeat' (first | with_reducible rfl | with_reducible apply State.of_ite | with_reducible apply State.of_ite1 | with_reducible apply State.of_foldl | intro _ _ | (solve | simp (maxDischargeDepth := 80)))
@[simp ↓] theorem State.submitReq_fixed (s : State) (i : Iface) (w0 : Word) : (State.submitReq s i w0).fixed = s.fixed := by
  unfold State.submitReq
  repeat' (first | with_reducible rfl | with_reducible apply State.of_ite | with_reducible apply State.of_ite1 | with_reducible apply State.of_foldl | intro _ _ | (solve | simp (maxDischargeDepth := 80)))
@[simp ↓] theorem State.govern_fixed (s : State) (i : Iface) (r : Req) : (State.govern s i r).2.fixed = s.fixed := by
  unfold State.govern
  repeat' (first | with_reducible rfl | with_reducible apply State.of_ite | with_reducible apply State.of_ite1 | with_reducible apply State.of_foldl | intro _ _ | (solve | simp (maxDischargeDepth := 80)))
@[simp ↓] theorem State.answer_fixed (s : State) (i : Iface) (l : List Word) : (State.answer s i l).fixed = s.fixed := by
  unfold State.answer
  repeat' (first | with_reducible rfl | with_reducible apply State.of_ite | with_reducible apply State.of_ite1 | with_reducible apply State.of_foldl | intro _ _ | (solve | simp (maxDischargeDepth := 80)))
@[simp ↓] theorem State.eccRead_fixed (s : State) : (State.eccRead s).fixed = s.fixed := by
  unfold State.eccRead
  repeat' (first | with_reducible rfl | with_reducible apply State.of_ite | with_reducible apply State.of_ite1 | with_reducible apply State.of_foldl | intro _ _ | (solve | simp (maxDischargeDepth := 80)))
@[simp ↓] theorem State.fpRead_fixed (s : State) (i : Iface) (word : Nat) (ecc : Bool) : (State.fpRead s i word ecc).2.fixed = s.fixed := by
  unfold State.fpRead
  repeat' (first | with_reducible rfl | with_reducible apply State.of_ite | with_reducible apply State.of_ite1 | with_reducible apply State.of_foldl | intro _ _ | (solve | simp (maxDischargeDepth := 80)) | dsimp only | split)
@[simp ↓] theorem State.pinSet_fixed (s : State) (i : Iface) : (State.pinSet s i).fixed = s.fixed := by
  unfold State.pinSet
  repeat' (first | with_reducible rfl | with_reducible apply State.of_ite | with_reducible apply State.of_ite1 | with_reducible apply State.of_foldl | intro _ _ | (solve | simp (maxDischargeDepth := 80)))
@[simp ↓] theorem State.pinClear_fixed (s : State) (i : Iface) : (State.pinClear s i).fixed = s.fixed := by
  unfold State.pinClear
  repeat' (first | with_reducible rfl | with_reducible apply State.of_ite | with_reducible apply State.of_ite1 | with_reducible apply State.of_foldl | intro _ _ | (solve | simp (maxDischargeDepth := 80)))
@[simp ↓] theorem State.epochLow_fixed (s : State) (i : Iface) (k : Nat) : (State.epochLow s i k).2.fixed = s.fixed := by
  unfold State.epochLow
  repeat' (first | with_reducible rfl | with_reducible apply State.of_ite | with_reducible apply State.of_ite1 | with_reducible apply State.of_foldl | intro _ _ | (solve | simp (maxDischargeDepth := 80)))
@[simp ↓] theorem State.popCpl_fixed (s : State) (i : Iface) : (State.popCpl s i).2.fixed = s.fixed := by
  unfold State.popCpl
  repeat' (first | with_reducible rfl | with_reducible apply State.of_ite | with_reducible apply State.of_ite1 | with_reducible apply State.of_foldl | intro _ _ | (solve | simp (maxDischargeDepth := 80)) | dsimp only | split)
@[simp ↓] theorem State.clearPeaks_fixed (s : State) : (State.clearPeaks s).fixed = s.fixed := by
  unfold State.clearPeaks
  repeat' (first | with_reducible rfl | with_reducible apply State.of_ite | with_reducible apply State.of_ite1 | with_reducible apply State.of_foldl | intro _ _ | (solve | simp (maxDischargeDepth := 80)) | (solve | simp only [State.modGlb_fixed, State.modOtp_fixed, State.modLed_fixed, State.modPipe_fixed, State.modUpd_fixed, State.modLace_fixed, State.pulseSrc_fixed]))
@[simp ↓] theorem State.bufferClear_fixed (s : State) (i : Iface) : (State.bufferClear s i).fixed = s.fixed := by
  unfold State.bufferClear
  repeat' (first | with_reducible rfl | with_reducible apply State.of_ite | with_reducible apply State.of_ite1 | with_reducible apply State.of_foldl | intro _ _ | (solve | simp (maxDischargeDepth := 80)))
@[simp ↓] theorem runRequestSubmit_fixed (i : Iface) (w0 : Word) (s : State) : (s.after (runRequestSubmit i w0 s)).fixed = s.fixed := by
  unfold runRequestSubmit
  rw [State.after_next]
  repeat' (first | with_reducible rfl | with_reducible apply State.of_ite | with_reducible apply State.of_ite1 | with_reducible apply State.of_foldl | intro _ _ | (solve | simp (maxDischargeDepth := 80)))
@[simp ↓] theorem execRequestCapture_fixed (p : Fin 8) (s : State) : (s.after (execRequestCapture p s)).fixed = s.fixed := by
  unfold execRequestCapture
  rw [State.after_next]
  repeat' (first | with_reducible rfl | with_reducible apply State.of_ite | with_reducible apply State.of_ite1 | with_reducible apply State.of_foldl | intro _ _ | (solve | simp (maxDischargeDepth := 80)))
@[simp ↓] theorem runBundleMemberStage_fixed (i : Iface) (w0 : Word) (s : State) : (s.after (runBundleMemberStage i w0 s)).fixed = s.fixed := by
  unfold runBundleMemberStage
  rw [State.after_next]
  repeat' (first | with_reducible rfl | with_reducible apply State.of_ite | with_reducible apply State.of_ite1 | with_reducible apply State.of_foldl | intro _ _ | (solve | simp (maxDischargeDepth := 80)))
@[simp ↓] theorem runBundleBufferTimeout_fixed (i : Iface) (s : State) : (s.after (runBundleBufferTimeout i s)).fixed = s.fixed := by
  unfold runBundleBufferTimeout
  rw [State.after_next]
  repeat' (first | with_reducible rfl | with_reducible apply State.of_ite | with_reducible apply State.of_ite1 | with_reducible apply State.of_foldl | intro _ _ | (solve | simp (maxDischargeDepth := 80)))
@[simp ↓] theorem runBundleBufferClear_fixed (i : Iface) (s : State) : (s.after (runBundleBufferClear i s)).fixed = s.fixed := by
  unfold runBundleBufferClear
  rw [State.after_next]
  repeat' (first | with_reducible rfl | with_reducible apply State.of_ite | with_reducible apply State.of_ite1 | with_reducible apply State.of_foldl | intro _ _ | (solve | simp (maxDischargeDepth := 80)))
@[simp ↓] theorem execShankOrder_fixed (s : State) : (s.after (execShankOrder s)).fixed = s.fixed := by
  unfold execShankOrder
  rw [State.after_next]
  repeat' (first | with_reducible rfl | with_reducible apply State.of_ite | with_reducible apply State.of_ite1 | with_reducible apply State.of_foldl | intro _ _ | (solve | simp (maxDischargeDepth := 80)))
@[simp ↓] theorem execStitchIssue_fixed (fast : Bool) (s : State) : (s.after (execStitchIssue fast s)).fixed = s.fixed := by
  unfold execStitchIssue
  rw [State.after_next]
  repeat' (first | with_reducible rfl | with_reducible apply State.of_ite | with_reducible apply State.of_ite1 | with_reducible apply State.of_foldl | intro _ _ | (solve | simp (maxDischargeDepth := 80)))
@[simp ↓] theorem runTackConfirm_fixed (slot : Fin 1024) (seq : Word) (s : State) : (s.after (runTackConfirm slot seq s)).fixed = s.fixed := by
  unfold runTackConfirm
  rw [State.after_next]
  repeat' (first | with_reducible rfl | with_reducible apply State.of_ite | with_reducible apply State.of_ite1 | with_reducible apply State.of_foldl | intro _ _ | (solve | simp (maxDischargeDepth := 80)))
@[simp ↓] theorem runTimeLimitExpiry_fixed (slot : Fin 1024) (s : State) : (s.after (runTimeLimitExpiry slot s)).fixed = s.fixed := by
  unfold runTimeLimitExpiry
  rw [State.after_next]
  repeat' (first | with_reducible rfl | with_reducible apply State.of_ite | with_reducible apply State.of_ite1 | with_reducible apply State.of_foldl | intro _ _ | (solve | simp (maxDischargeDepth := 80)))
@[simp ↓] theorem execSoleCommit_fixed (s : State) : (s.after (execSoleCommit s)).fixed = s.fixed := by
  unfold execSoleCommit
  rw [State.after_next]
  repeat' (first | with_reducible rfl | with_reducible apply State.of_ite | with_reducible apply State.of_ite1 | with_reducible apply State.of_foldl | intro _ _ | (solve | simp (maxDischargeDepth := 80)))
@[simp ↓] theorem execBundleCommit_fixed (s : State) : (s.after (execBundleCommit s)).fixed = s.fixed := by
  unfold execBundleCommit
  rw [State.after_next]
  repeat' (first | with_reducible rfl | with_reducible apply State.of_ite | with_reducible apply State.of_ite1 | with_reducible apply State.of_foldl | intro _ _ | (solve | simp (maxDischargeDepth := 80)))
@[simp ↓] theorem execCatchUpComplete_fixed (bad : Bool) (s : State) : (s.after (execCatchUpComplete bad s)).fixed = s.fixed := by
  unfold execCatchUpComplete
  repeat' (first | rw [State.after_next] | with_reducible rfl | with_reducible apply State.of_ite | with_reducible apply State.of_ite1 | with_reducible apply State.of_foldl | intro _ _ | (solve | simp (maxDischargeDepth := 80)) | dsimp only | split)
@[simp ↓] theorem runRecheckResubmit_fixed (li : Fin 2048) (s : State) : (s.after (runRecheckResubmit li s)).fixed = s.fixed := by
  unfold runRecheckResubmit
  rw [State.after_next]
  repeat' (first | with_reducible rfl | with_reducible apply State.of_ite | with_reducible apply State.of_ite1 | with_reducible apply State.of_foldl | intro _ _ | (solve | simp (maxDischargeDepth := 80)) | dsimp only | split)
@[simp ↓] theorem State.correct_fixed (s : State) (li : Nat) : (State.correct s li).fixed = s.fixed := by
  unfold State.correct
  repeat' (first | with_reducible rfl | with_reducible apply State.of_ite | with_reducible apply State.of_ite1 | with_reducible apply State.of_foldl | intro _ _ | (solve | simp (maxDischargeDepth := 80)) | dsimp only | split)
@[simp ↓] theorem runEnvelopeCorrection_fixed (li : Fin 2048) (s : State) : (s.after (runEnvelopeCorrection li s)).fixed = s.fixed := by
  unfold runEnvelopeCorrection
  rw [State.after_next]
  repeat' (first | with_reducible rfl | with_reducible apply State.of_ite | with_reducible apply State.of_ite1 | with_reducible apply State.of_foldl | intro _ _ | (solve | simp (maxDischargeDepth := 80)))
@[simp ↓] theorem runFaceplateRead_fixed (i : Iface) (word : Fin 524288) (eccErr : Bool) (s : State) : (s.after (runFaceplateRead i word eccErr s)).fixed = s.fixed := by
  unfold runFaceplateRead
  rw [State.after_next]
  repeat' (first | with_reducible rfl | with_reducible apply State.of_ite | with_reducible apply State.of_ite1 | with_reducible apply State.of_foldl | intro _ _ | (solve | simp (maxDischargeDepth := 80)))
@[simp ↓] theorem runSnapshotPinSet_fixed (i : Iface) (s : State) : (s.after (runSnapshotPinSet i s)).fixed = s.fixed := by
  unfold runSnapshotPinSet
  rw [State.after_next]
  repeat' (first | with_reducible rfl | with_reducible apply State.of_ite | with_reducible apply State.of_ite1 | with_reducible apply State.of_foldl | intro _ _ | (solve | simp (maxDischargeDepth := 80)))
@[simp ↓] theorem runSnapshotPinClear_fixed (i : Iface) (s : State) : (s.after (runSnapshotPinClear i s)).fixed = s.fixed := by
  unfold runSnapshotPinClear
  rw [State.after_next]
  repeat' (first | with_reducible rfl | with_reducible apply State.of_ite | with_reducible apply State.of_ite1 | with_reducible apply State.of_foldl | intro _ _ | (solve | simp (maxDischargeDepth := 80)))
@[simp ↓] theorem runEpochLowRead_fixed (i : Iface) (k : Fin 3) (s : State) : (s.after (runEpochLowRead i k s)).fixed = s.fixed := by
  unfold runEpochLowRead
  rw [State.after_next]
  repeat' (first | with_reducible rfl | with_reducible apply State.of_ite | with_reducible apply State.of_ite1 | with_reducible apply State.of_foldl | intro _ _ | (solve | simp (maxDischargeDepth := 80)))
@[simp ↓] theorem runCompletionPop_fixed (i : Iface) (s : State) : (s.after (runCompletionPop i s)).fixed = s.fixed := by
  unfold runCompletionPop
  rw [State.after_next]
  repeat' (first | with_reducible rfl | with_reducible apply State.of_ite | with_reducible apply State.of_ite1 | with_reducible apply State.of_foldl | intro _ _ | (solve | simp (maxDischargeDepth := 80)))
@[simp ↓] theorem runPeakClr_fixed (s : State) : (s.after (runPeakClr s)).fixed = s.fixed := by
  unfold runPeakClr
  rw [State.after_next]
  repeat' (first | with_reducible rfl | with_reducible apply State.of_ite | with_reducible apply State.of_ite1 | with_reducible apply State.of_foldl | intro _ _ | (solve | simp (maxDischargeDepth := 80)))
@[simp ↓] theorem runCplLostClr_fixed (i : Iface) (s : State) : (s.after (runCplLostClr i s)).fixed = s.fixed := by
  unfold runCplLostClr
  rw [State.after_next]
  repeat' (first | with_reducible rfl | with_reducible apply State.of_ite | with_reducible apply State.of_ite1 | with_reducible apply State.of_foldl | intro _ _ | (solve | simp (maxDischargeDepth := 80)))
@[simp ↓] theorem State.midAll_fixed (s : State) (r : Nat) : (State.midAll s r).fixed = s.fixed := by
  unfold State.midAll
  repeat' (first | with_reducible rfl | with_reducible apply State.of_ite | with_reducible apply State.of_ite1 | with_reducible apply State.of_foldl | intro _ _ | (solve | simp (maxDischargeDepth := 80)))
@[simp ↓] theorem runStageFault_fixed (p : Fin 48) (low : Bool) (s : State) : (s.after (runStageFault p low s)).fixed = s.fixed := by
  unfold runStageFault
  rw [State.after_next]
  repeat' (first | with_reducible rfl | with_reducible apply State.of_ite | with_reducible apply State.of_ite1 | with_reducible apply State.of_foldl | intro _ _ | (solve | simp (maxDischargeDepth := 80)))
@[simp ↓] theorem runPersistentCurrentLimit_fixed (p : Fin 48) (limited : Nat) (s : State) : (s.after (runPersistentCurrentLimit p limited s)).fixed = s.fixed := by
  unfold runPersistentCurrentLimit
  rw [State.after_next]
  repeat' (first | with_reducible rfl | with_reducible apply State.of_ite | with_reducible apply State.of_ite1 | with_reducible apply State.of_foldl | intro _ _ | (solve | simp (maxDischargeDepth := 80)))
@[simp ↓] theorem runOverloadEnd_fixed (p : Fin 48) (s : State) : (s.after (runOverloadEnd p s)).fixed = s.fixed := by
  unfold runOverloadEnd
  rw [State.after_next]
  repeat' (first | with_reducible rfl | with_reducible apply State.of_ite | with_reducible apply State.of_ite1 | with_reducible apply State.of_foldl | intro _ _ | (solve | simp (maxDischargeDepth := 80)) | dsimp only | split)
@[simp ↓] theorem runSpareFirstPulse_fixed (p : Fin 48) (s : State) : (s.after (runSpareFirstPulse p s)).fixed = s.fixed := by
  unfold runSpareFirstPulse
  rw [State.after_next]
  repeat' (first | with_reducible rfl | with_reducible apply State.of_ite | with_reducible apply State.of_ite1 | with_reducible apply State.of_foldl | intro _ _ | (solve | simp (maxDischargeDepth := 80)) | dsimp only | split)
@[simp ↓] theorem runPhaseLatch_fixed (p : Fin 48) (s : State) : (s.after (runPhaseLatch p s)).fixed = s.fixed := by
  unfold runPhaseLatch
  rw [State.after_next]
  repeat' (first | with_reducible rfl | with_reducible apply State.of_ite | with_reducible apply State.of_ite1 | with_reducible apply State.of_foldl | intro _ _ | (solve | simp (maxDischargeDepth := 80)))
@[simp ↓] theorem runPhaseImbalance_fixed (p : Fin 48) (s : State) : (s.after (runPhaseImbalance p s)).fixed = s.fixed := by
  unfold runPhaseImbalance
  rw [State.after_next]
  repeat' (first | with_reducible rfl | with_reducible apply State.of_ite | with_reducible apply State.of_ite1 | with_reducible apply State.of_foldl | intro _ _ | (solve | simp (maxDischargeDepth := 80)))
@[simp ↓] theorem State.shedRequest_fixed (s : State) (r : Nat) (n : Nat) : (State.shedRequest s r n).fixed = s.fixed := by
  unfold State.shedRequest
  repeat' (first | with_reducible rfl | with_reducible apply State.of_ite | with_reducible apply State.of_ite1 | with_reducible apply State.of_foldl | intro _ _ | (solve | simp (maxDischargeDepth := 80)))
@[simp ↓] theorem runShedEvaluation_fixed (r : Fin 24) (s : State) : (s.after (runShedEvaluation r s)).fixed = s.fixed := by
  unfold runShedEvaluation
  repeat' (first | rw [State.after_next] | with_reducible rfl | with_reducible apply State.of_ite | with_reducible apply State.of_ite1 | with_reducible apply State.of_foldl | intro _ _ | (solve | simp (maxDischargeDepth := 80)) | dsimp only | split)
@[simp ↓] theorem runLoadLineEvaluation_fixed (r : Fin 32) (s : State) : (s.after (runLoadLineEvaluation r s)).fixed = s.fixed := by
  unfold runLoadLineEvaluation
  repeat' (first | rw [State.after_next] | with_reducible rfl | with_reducible apply State.of_ite | with_reducible apply State.of_ite1 | with_reducible apply State.of_foldl | intro _ _ | (solve | simp (maxDischargeDepth := 80)) | dsimp only | split)
@[simp ↓] theorem State.shortAct_fixed (s : State) (r : ℕ) : (State.shortAct s r).fixed = s.fixed := by
  unfold State.shortAct
  repeat' (first | with_reducible rfl | with_reducible apply State.of_ite | with_reducible apply State.of_ite1 | with_reducible apply State.of_foldl | intro _ _ | (solve | simp (maxDischargeDepth := 80)) | dsimp only | split)
@[simp ↓] theorem State.ovAct_fixed (s : State) (r : ℕ) : (State.ovAct s r).fixed = s.fixed := by
  unfold State.ovAct
  repeat' (first | with_reducible rfl | with_reducible apply State.of_ite | with_reducible apply State.of_ite1 | with_reducible apply State.of_foldl | intro _ _ | (solve | simp (maxDischargeDepth := 80)) | dsimp only | split)
@[simp ↓] theorem runShortDetect_fixed (r : Fin 40) (vout : ℕ) (limitedAt30 : Bool) (s : State) : (s.after (runShortDetect r vout limitedAt30 s)).fixed = s.fixed := by
  unfold runShortDetect
  repeat' (first | rw [State.after_next] | with_reducible rfl | with_reducible apply State.of_ite | with_reducible apply State.of_ite1 | with_reducible apply State.of_foldl | intro _ _ | (solve | simp (maxDischargeDepth := 80)) | dsimp only | split)
@[simp ↓] theorem runOvervoltage_fixed (r : Fin 40) (abs : Bool) (vout : ℕ) (s : State) : (s.after (runOvervoltage r abs vout s)).fixed = s.fixed := by
  unfold runOvervoltage
  repeat' (first | rw [State.after_next] | with_reducible rfl | with_reducible apply State.of_ite | with_reducible apply State.of_ite1 | with_reducible apply State.of_foldl | intro _ _ | (solve | simp (maxDischargeDepth := 80)) | dsimp only | split)
@[simp ↓] theorem runUndervoltage_fixed (r : Fin 40) (vout : ℕ) (s : State) : (s.after (runUndervoltage r vout s)).fixed = s.fixed := by
  unfold runUndervoltage
  repeat' (first | rw [State.after_next] | with_reducible rfl | with_reducible apply State.of_ite | with_reducible apply State.of_ite1 | with_reducible apply State.of_foldl | intro _ _ | (solve | simp (maxDischargeDepth := 80)) | dsimp only | split)
@[simp ↓] theorem runOutputDischarged_fixed (r : Fin 40) (s : State) : (s.after (runOutputDischarged r s)).fixed = s.fixed := by
  unfold runOutputDischarged
  rw [State.after_next]
  repeat' (first | with_reducible rfl | with_reducible apply State.of_ite | with_reducible apply State.of_ite1 | with_reducible apply State.of_foldl | intro _ _ | (solve | simp (maxDischargeDepth := 80)))
@[simp ↓] theorem runDischargeTimeout_fixed (r : Fin 40) (s : State) : (s.after (runDischargeTimeout r s)).fixed = s.fixed := by
  unfold runDischargeTimeout
  rw [State.after_next]
  repeat' (first | with_reducible rfl | with_reducible apply State.of_ite | with_reducible apply State.of_ite1 | with_reducible apply State.of_foldl | intro _ _ | (solve | simp (maxDischargeDepth := 80)))
@[simp ↓] theorem runPowerGood_fixed (r : Fin 40) (s : State) : (s.after (runPowerGood r s)).fixed = s.fixed := by
  unfold runPowerGood
  rw [State.after_next]
  repeat' (first | with_reducible rfl | with_reducible apply State.of_ite | with_reducible apply State.of_ite1 | with_reducible apply State.of_foldl | intro _ _ | (solve | simp (maxDischargeDepth := 80)))
@[simp ↓] theorem runPowerGoodTimeout_fixed (r : Fin 40) (s : State) : (s.after (runPowerGoodTimeout r s)).fixed = s.fixed := by
  unfold runPowerGoodTimeout
  rw [State.after_next]
  repeat' (first | with_reducible rfl | with_reducible apply State.of_ite | with_reducible apply State.of_ite1 | with_reducible apply State.of_foldl | intro _ _ | (solve | simp (maxDischargeDepth := 80)))
@[simp ↓] theorem State.phaseSample_fixed (s : State) (p : ℕ) (x : PhaseIn) : (State.phaseSample s p x).fixed = s.fixed := by
  unfold State.phaseSample
  repeat' (first | with_reducible rfl | with_reducible apply State.of_ite | with_reducible apply State.of_ite1 | with_reducible apply State.of_foldl | intro _ _ | (solve | simp (maxDischargeDepth := 80)) | dsimp only | split)
@[simp ↓] theorem State.sscStep_fixed (s : State) (r : ℕ) : (State.sscStep s r).fixed = s.fixed := by
  unfold State.sscStep
  repeat' (first | with_reducible rfl | with_reducible apply State.of_ite | with_reducible apply State.of_ite1 | with_reducible apply State.of_foldl | intro _ _ | (solve | simp (maxDischargeDepth := 80)) | dsimp only | split)
@[simp ↓] theorem runTelemetrySample_fixed (r : Fin 40) (pins : List PhaseIn) (sense : ℤ) (s : State) : (s.after (runTelemetrySample r pins sense s)).fixed = s.fixed := by
  unfold runTelemetrySample
  repeat' (first | rw [State.after_next] | with_reducible rfl | with_reducible apply State.of_ite | with_reducible apply State.of_ite1 | with_reducible apply State.of_foldl | intro _ _ | (solve | simp (maxDischargeDepth := 80)) | dsimp only | split)
@[simp ↓] theorem State.railPkClr_fixed (s : State) (r : ℕ) : (State.railPkClr s r).fixed = s.fixed := by
  unfold State.railPkClr
  repeat' (first | with_reducible rfl | with_reducible apply State.of_ite | with_reducible apply State.of_ite1 | with_reducible apply State.of_foldl | intro _ _ | (solve | simp (maxDischargeDepth := 80)) | dsimp only | split)
@[simp ↓] theorem State.lsPkClr_fixed (s : State) : (State.lsPkClr s).fixed = s.fixed := by
  unfold State.lsPkClr
  repeat' (first | with_reducible rfl | with_reducible apply State.of_ite | with_reducible apply State.of_ite1 | with_reducible apply State.of_foldl | intro _ _ | (solve | simp (maxDischargeDepth := 80)) | dsimp only | split)
@[simp ↓] theorem runRailPkClr_fixed (r : Fin 40) (s : State) : (s.after (runRailPkClr r s)).fixed = s.fixed := by
  unfold runRailPkClr
  rw [State.after_next]
  repeat' (first | with_reducible rfl | with_reducible apply State.of_ite | with_reducible apply State.of_ite1 | with_reducible apply State.of_foldl | intro _ _ | (solve | simp (maxDischargeDepth := 80)))
@[simp ↓] theorem runRailLsPkClr_fixed (s : State) : (s.after (runRailLsPkClr s)).fixed = s.fixed := by
  unfold runRailLsPkClr
  rw [State.after_next]
  repeat' (first | with_reducible rfl | with_reducible apply State.of_ite | with_reducible apply State.of_ite1 | with_reducible apply State.of_foldl | intro _ _ | (solve | simp (maxDischargeDepth := 80)))
@[simp ↓] theorem runInrushComplete_fixed (sw : Fin 32) (s : State) : (s.after (runInrushComplete sw s)).fixed = s.fixed := by
  unfold runInrushComplete
  rw [State.after_next]
  repeat' (first | with_reducible rfl | with_reducible apply State.of_ite | with_reducible apply State.of_ite1 | with_reducible apply State.of_foldl | intro _ _ | (solve | simp (maxDischargeDepth := 80)))
@[simp ↓] theorem runInrushTimeout_fixed (sw : Fin 32) (s : State) : (s.after (runInrushTimeout sw s)).fixed = s.fixed := by
  unfold runInrushTimeout
  rw [State.after_next]
  repeat' (first | with_reducible rfl | with_reducible apply State.of_ite | with_reducible apply State.of_ite1 | with_reducible apply State.of_foldl | intro _ _ | (solve | simp (maxDischargeDepth := 80)))
@[simp ↓] theorem runSwitchShort_fixed (sw : Fin 32) (s : State) : (s.after (runSwitchShort sw s)).fixed = s.fixed := by
  unfold runSwitchShort
  rw [State.after_next]
  repeat' (first | with_reducible rfl | with_reducible apply State.of_ite | with_reducible apply State.of_ite1 | with_reducible apply State.of_foldl | intro _ _ | (solve | simp (maxDischargeDepth := 80)))
@[simp ↓] theorem runGateFault_fixed (sw : Fin 32) (s : State) : (s.after (runGateFault sw s)).fixed = s.fixed := by
  unfold runGateFault
  rw [State.after_next]
  repeat' (first | with_reducible rfl | with_reducible apply State.of_ite | with_reducible apply State.of_ite1 | with_reducible apply State.of_foldl | intro _ _ | (solve | simp (maxDischargeDepth := 80)))
@[simp ↓] theorem runI2tUpdate_fixed (sw : Fin 32) (iMean : Int) (dtUs : Nat) (s : State) : (s.after (runI2tUpdate sw iMean dtUs s)).fixed = s.fixed := by
  unfold runI2tUpdate
  rw [State.after_next]
  repeat' (first | with_reducible rfl | with_reducible apply State.of_ite | with_reducible apply State.of_ite1 | with_reducible apply State.of_foldl | intro _ _ | (solve | simp (maxDischargeDepth := 80)))
@[simp ↓] theorem State.moveRef_fixed (s : State) (r : Nat) : (State.moveRef s r).fixed = s.fixed := by
  unfold State.moveRef
  repeat' (first | with_reducible rfl | with_reducible apply State.of_ite | with_reducible apply State.of_ite1 | with_reducible apply State.of_foldl | intro _ _ | (solve | simp (maxDischargeDepth := 80)))
@[simp ↓] theorem State.windows_fixed (s : State) (r : ℕ) (v : ℕ) : (State.windows s r v).fixed = s.fixed := by
  unfold State.windows
  repeat' (first | with_reducible rfl | with_reducible apply State.of_ite | with_reducible apply State.of_ite1 | with_reducible apply State.of_foldl | intro _ _ | (solve | simp (maxDischargeDepth := 80)) | dsimp only | split)
@[simp ↓] theorem State.traceTake_fixed (s : State) (b : Nat) (v : Int) (fires : Bool) : (State.traceTake s b v fires).fixed = s.fixed := by
  unfold State.traceTake
  repeat' (first | with_reducible rfl | with_reducible apply State.of_ite | with_reducible apply State.of_ite1 | with_reducible apply State.of_foldl | intro _ _ | (solve | simp (maxDischargeDepth := 80)))
@[simp ↓] theorem State.traceSample_fixed (s : State) (r : Nat) (limOn : Bool) : (State.traceSample s r limOn).fixed = s.fixed := by
  unfold State.traceSample
  repeat' (first | with_reducible rfl | with_reducible apply State.of_ite | with_reducible apply State.of_ite1 | with_reducible apply State.of_foldl | intro _ _ | (solve | simp (maxDischargeDepth := 80)))
@[simp ↓] theorem execLoopSample_fixed (r : Fin 40) (inp : LoopIn) (s : State) : (s.after (execLoopSample r inp s)).fixed = s.fixed := by
  unfold execLoopSample
  rw [State.after_next]
  repeat' (first | with_reducible rfl | with_reducible apply State.of_ite | with_reducible apply State.of_ite1 | with_reducible apply State.of_foldl | intro _ _ | (solve | simp (maxDischargeDepth := 80)))
@[simp ↓] theorem runRailFirstPulse_fixed (r : Fin 40) (vout : Nat) (s : State) : (s.after (runRailFirstPulse r vout s)).fixed = s.fixed := by
  unfold runRailFirstPulse
  rw [State.after_next]
  repeat' (first | with_reducible rfl | with_reducible apply State.of_ite | with_reducible apply State.of_ite1 | with_reducible apply State.of_foldl | intro _ _ | (solve | simp (maxDischargeDepth := 80)))
@[simp ↓] theorem State.trcArm_fixed (s : State) (b : Nat) : (State.trcArm s b).fixed = s.fixed := by
  unfold State.trcArm
  repeat' (first | with_reducible rfl | with_reducible apply State.of_ite | with_reducible apply State.of_ite1 | with_reducible apply State.of_foldl | intro _ _ | (solve | simp (maxDischargeDepth := 80)))
@[simp ↓] theorem State.trcForce_fixed (s : State) (b : Nat) : (State.trcForce s b).fixed = s.fixed := by
  unfold State.trcForce
  repeat' (first | with_reducible rfl | with_reducible apply State.of_ite | with_reducible apply State.of_ite1 | with_reducible apply State.of_foldl | intro _ _ | (solve | simp (maxDischargeDepth := 80)))
@[simp ↓] theorem State.trcStop_fixed (s : State) (b : Nat) : (State.trcStop s b).fixed = s.fixed := by
  unfold State.trcStop
  repeat' (first | with_reducible rfl | with_reducible apply State.of_ite | with_reducible apply State.of_ite1 | with_reducible apply State.of_foldl | intro _ _ | (solve | simp (maxDischargeDepth := 80)))
@[simp ↓] theorem runLoopTrcArm_fixed (b : Fin 16) (s : State) : (s.after (runLoopTrcArm b s)).fixed = s.fixed := by
  unfold runLoopTrcArm
  rw [State.after_next]
  repeat' (first | with_reducible rfl | with_reducible apply State.of_ite | with_reducible apply State.of_ite1 | with_reducible apply State.of_foldl | intro _ _ | (solve | simp (maxDischargeDepth := 80)))
@[simp ↓] theorem runLoopTrcForce_fixed (b : Fin 16) (s : State) : (s.after (runLoopTrcForce b s)).fixed = s.fixed := by
  unfold runLoopTrcForce
  rw [State.after_next]
  repeat' (first | with_reducible rfl | with_reducible apply State.of_ite | with_reducible apply State.of_ite1 | with_reducible apply State.of_foldl | intro _ _ | (solve | simp (maxDischargeDepth := 80)))
@[simp ↓] theorem runLoopTrcStop_fixed (b : Fin 16) (s : State) : (s.after (runLoopTrcStop b s)).fixed = s.fixed := by
  unfold runLoopTrcStop
  rw [State.after_next]
  repeat' (first | with_reducible rfl | with_reducible apply State.of_ite | with_reducible apply State.of_ite1 | with_reducible apply State.of_foldl | intro _ _ | (solve | simp (maxDischargeDepth := 80)))
@[simp ↓] theorem runLoopTrcGarm_fixed (mask : BitVec 16) (s : State) : (s.after (runLoopTrcGarm mask s)).fixed = s.fixed := by
  unfold runLoopTrcGarm
  rw [State.after_next]
  repeat' (first | with_reducible rfl | with_reducible apply State.of_ite | with_reducible apply State.of_ite1 | with_reducible apply State.of_foldl | intro _ _ | (solve | simp (maxDischargeDepth := 80)))
@[simp ↓] theorem runLoopTrcGforce_fixed (mask : BitVec 16) (s : State) : (s.after (runLoopTrcGforce mask s)).fixed = s.fixed := by
  unfold runLoopTrcGforce
  rw [State.after_next]
  repeat' (first | with_reducible rfl | with_reducible apply State.of_ite | with_reducible apply State.of_ite1 | with_reducible apply State.of_foldl | intro _ _ | (solve | simp (maxDischargeDepth := 80)))
@[simp ↓] theorem runLoopSatClr_fixed (r : Fin 32) (s : State) : (s.after (runLoopSatClr r s)).fixed = s.fixed := by
  unfold runLoopSatClr
  rw [State.after_next]
  repeat' (first | with_reducible rfl | with_reducible apply State.of_ite | with_reducible apply State.of_ite1 | with_reducible apply State.of_foldl | intro _ _ | (solve | simp (maxDischargeDepth := 80)))
@[simp ↓] theorem State.lineStatus_fixed (s : State) (n : Nat) (on : Bool) : (State.lineStatus s n on).fixed = s.fixed := by
  unfold State.lineStatus
  repeat' (first | with_reducible rfl | with_reducible apply State.of_ite | with_reducible apply State.of_ite1 | with_reducible apply State.of_foldl | intro _ _ | (solve | simp (maxDischargeDepth := 80)) | dsimp only | split)
@[simp ↓] theorem runFaultLineChange_fixed (n : Fin 512) (asserted : Bool) (cause : Fin 1024) (s : State) : (s.after (runFaultLineChange n asserted cause s)).fixed = s.fixed := by
  unfold runFaultLineChange
  rw [State.after_next]
  repeat' (first | with_reducible rfl | with_reducible apply State.of_ite | with_reducible apply State.of_ite1 | with_reducible apply State.of_foldl | intro _ _ | (solve | simp (maxDischargeDepth := 80)))
@[simp ↓] theorem runIntegrityLost_fixed (n : Fin 512) (s : State) : (s.after (runIntegrityLost n s)).fixed = s.fixed := by
  unfold runIntegrityLost
  rw [State.after_next]
  repeat' (first | with_reducible rfl | with_reducible apply State.of_ite | with_reducible apply State.of_ite1 | with_reducible apply State.of_foldl | intro _ _ | (solve | simp (maxDischargeDepth := 80)))
@[simp ↓] theorem execLineTest_fixed (n : Fin 512) (seen : Bool) (s : State) : (s.after (execLineTest n seen s)).fixed = s.fixed := by
  unfold execLineTest
  rw [State.after_next]
  repeat' (first | with_reducible rfl | with_reducible apply State.of_ite | with_reducible apply State.of_ite1 | with_reducible apply State.of_foldl | intro _ _ | (solve | simp (maxDischargeDepth := 80)))
@[simp ↓] theorem runFinLevel_fixed (f : Fin 16) (lvl : FinLvl) (s : State) : (s.after (runFinLevel f lvl s)).fixed = s.fixed := by
  unfold runFinLevel
  rw [State.after_next]
  repeat' (first | with_reducible rfl | with_reducible apply State.of_ite | with_reducible apply State.of_ite1 | with_reducible apply State.of_foldl | intro _ _ | (solve | simp (maxDischargeDepth := 80)) | dsimp only | split)
@[simp ↓] theorem runPersistQualify_fixed (n : Fin 512) (s : State) : (s.after (runPersistQualify n s)).fixed = s.fixed := by
  unfold runPersistQualify
  rw [State.after_next]
  repeat' (first | with_reducible rfl | with_reducible apply State.of_ite | with_reducible apply State.of_ite1 | with_reducible apply State.of_foldl | intro _ _ | (solve | simp (maxDischargeDepth := 80)))
@[simp ↓] theorem runOccurrenceExpire_fixed (n : Fin 512) (s : State) : (s.after (runOccurrenceExpire n s)).fixed = s.fixed := by
  unfold runOccurrenceExpire
  rw [State.after_next]
  repeat' (first | with_reducible rfl | with_reducible apply State.of_ite | with_reducible apply State.of_ite1 | with_reducible apply State.of_foldl | intro _ _ | (solve | simp (maxDischargeDepth := 80)))
@[simp ↓] theorem runSourceEntryCommit_fixed (n : Fin 512) (s : State) : (s.after (runSourceEntryCommit n s)).fixed = s.fixed := by
  unfold runSourceEntryCommit
  rw [State.after_next]
  repeat' (first | with_reducible rfl | with_reducible apply State.of_ite | with_reducible apply State.of_ite1 | with_reducible apply State.of_foldl | intro _ _ | (solve | simp (maxDischargeDepth := 80)))
@[simp ↓] theorem runLatchSubmit_fixed (li : Fin 2048) (s : State) : (s.after (runLatchSubmit li s)).fixed = s.fixed := by
  unfold runLatchSubmit
  rw [State.after_next]
  repeat' (first | with_reducible rfl | with_reducible apply State.of_ite | with_reducible apply State.of_ite1 | with_reducible apply State.of_foldl | intro _ _ | (solve | simp (maxDischargeDepth := 80)) | dsimp only | split)
@[simp ↓] theorem runFailedRecovery_fixed (li : Fin 2048) (s : State) : (s.after (runFailedRecovery li s)).fixed = s.fixed := by
  unfold runFailedRecovery
  rw [State.after_next]
  repeat' (first | with_reducible rfl | with_reducible apply State.of_ite | with_reducible apply State.of_ite1 | with_reducible apply State.of_foldl | intro _ _ | (solve | simp (maxDischargeDepth := 80)))
@[simp ↓] theorem State.forceSrcs_fixed (s : State) (k : Nat) (mask : Word) : (State.forceSrcs s k mask).fixed = s.fixed := by
  unfold State.forceSrcs
  repeat' (first | with_reducible rfl | with_reducible apply State.of_ite | with_reducible apply State.of_ite1 | with_reducible apply State.of_foldl | intro _ _ | (solve | simp (maxDischargeDepth := 80)))
@[simp ↓] theorem State.unforceSrcs_fixed (s : State) (k : Nat) (mask : Word) : (State.unforceSrcs s k mask).fixed = s.fixed := by
  unfold State.unforceSrcs
  repeat' (first | with_reducible rfl | with_reducible apply State.of_ite | with_reducible apply State.of_ite1 | with_reducible apply State.of_foldl | intro _ _ | (solve | simp (maxDischargeDepth := 80)))
@[simp ↓] theorem State.swSources_fixed (s : State) (mask : Nat) (on : Bool) : (State.swSources s mask on).fixed = s.fixed := by
  unfold State.swSources
  repeat' (first | with_reducible rfl | with_reducible apply State.of_ite | with_reducible apply State.of_ite1 | with_reducible apply State.of_foldl | intro _ _ | (solve | simp (maxDischargeDepth := 80)))
@[simp ↓] theorem State.faultnRelease_fixed (s : State) : (State.faultnRelease s).fixed = s.fixed := by
  unfold State.faultnRelease
  repeat' (first | with_reducible rfl | with_reducible apply State.of_ite | with_reducible apply State.of_ite1 | with_reducible apply State.of_foldl | intro _ _ | (solve | simp (maxDischargeDepth := 80)))
@[simp ↓] theorem State.ackEvents_fixed (s : State) (i : Iface) (k : Nat) (mask : Word) : (State.ackEvents s i k mask).fixed = s.fixed := by
  unfold State.ackEvents
  repeat' (first | with_reducible rfl | with_reducible apply State.of_ite | with_reducible apply State.of_ite1 | with_reducible apply State.of_foldl | intro _ _ | (solve | simp (maxDischargeDepth := 80)))
@[simp ↓] theorem runFltFset_fixed (k : Fin 16) (mask : Word) (s : State) : (s.after (runFltFset k mask s)).fixed = s.fixed := by
  unfold runFltFset
  rw [State.after_next]
  repeat' (first | with_reducible rfl | with_reducible apply State.of_ite | with_reducible apply State.of_ite1 | with_reducible apply State.of_foldl | intro _ _ | (solve | simp (maxDischargeDepth := 80)))
@[simp ↓] theorem runFltFclr_fixed (k : Fin 16) (mask : Word) (s : State) : (s.after (runFltFclr k mask s)).fixed = s.fixed := by
  unfold runFltFclr
  rw [State.after_next]
  repeat' (first | with_reducible rfl | with_reducible apply State.of_ite | with_reducible apply State.of_ite1 | with_reducible apply State.of_foldl | intro _ _ | (solve | simp (maxDischargeDepth := 80)))
@[simp ↓] theorem runFltSwSet_fixed (mask : BitVec 16) (s : State) : (s.after (runFltSwSet mask s)).fixed = s.fixed := by
  unfold runFltSwSet
  rw [State.after_next]
  repeat' (first | with_reducible rfl | with_reducible apply State.of_ite | with_reducible apply State.of_ite1 | with_reducible apply State.of_foldl | intro _ _ | (solve | simp (maxDischargeDepth := 80)))
@[simp ↓] theorem runFltSwClr_fixed (mask : BitVec 16) (s : State) : (s.after (runFltSwClr mask s)).fixed = s.fixed := by
  unfold runFltSwClr
  rw [State.after_next]
  repeat' (first | with_reducible rfl | with_reducible apply State.of_ite | with_reducible apply State.of_ite1 | with_reducible apply State.of_foldl | intro _ _ | (solve | simp (maxDischargeDepth := 80)))
@[simp ↓] theorem runFltFaultnRel_fixed (s : State) : (s.after (runFltFaultnRel s)).fixed = s.fixed := by
  unfold runFltFaultnRel
  rw [State.after_next]
  repeat' (first | with_reducible rfl | with_reducible apply State.of_ite | with_reducible apply State.of_ite1 | with_reducible apply State.of_foldl | intro _ _ | (solve | simp (maxDischargeDepth := 80)))
@[simp ↓] theorem runEvtAck_fixed (i : Iface) (k : Fin 8) (mask : Word) (s : State) : (s.after (runEvtAck i k mask s)).fixed = s.fixed := by
  unfold runEvtAck
  rw [State.after_next]
  repeat' (first | with_reducible rfl | with_reducible apply State.of_ite | with_reducible apply State.of_ite1 | with_reducible apply State.of_foldl | intro _ _ | (solve | simp (maxDischargeDepth := 80)))
@[simp ↓] theorem State.setThmIn_fixed (s : State) (n : Nat) (t : Option Int) : (State.setThmIn s n t).fixed = s.fixed := by
  unfold State.setThmIn
  repeat' (first | with_reducible rfl | with_reducible apply State.of_ite | with_reducible apply State.of_ite1 | with_reducible apply State.of_foldl | intro _ _ | (solve | simp (maxDischargeDepth := 80)))
@[simp ↓] theorem State.ntcResult_fixed (s : State) (q : ℕ) (src : ℕ) (x : ℤ) : (State.ntcResult s q src x).fixed = s.fixed := by
  unfold State.ntcResult
  repeat' (first | with_reducible rfl | with_reducible apply State.of_ite | with_reducible apply State.of_ite1 | with_reducible apply State.of_foldl | intro _ _ | (solve | simp (maxDischargeDepth := 80)) | dsimp only | split)
@[simp ↓] theorem State.retireSlice_fixed (s : State) (k : Nat) : (State.retireSlice s k).fixed = s.fixed := by
  unfold State.retireSlice
  repeat' (first | with_reducible rfl | with_reducible apply State.of_ite | with_reducible apply State.of_ite1 | with_reducible apply State.of_foldl | intro _ _ | (solve | simp (maxDischargeDepth := 80)))
@[simp ↓] theorem runSliceCalibration_fixed (ofs : Int) (gain : Nat) (s : State) : (s.after (runSliceCalibration ofs gain s)).fixed = s.fixed := by
  unfold runSliceCalibration
  rw [State.after_next]
  repeat' (first | with_reducible rfl | with_reducible apply State.of_ite | with_reducible apply State.of_ite1 | with_reducible apply State.of_foldl | intro _ _ | (solve | simp (maxDischargeDepth := 80)) | dsimp only | split)
@[simp ↓] theorem State.calibrateAll_fixed (s : State) (cals : List (Int × Nat)) : (s.calibrateAll cals).fixed = s.fixed := by
  unfold State.calibrateAll
  extract_lets live t usable pos thm pos2
  rw [State.modAdc_fixed]
  apply State.of_foldl
  · rfl
  · intro a b
    repeat' split
    all_goals simp
@[simp ↓] theorem runConversionStep_fixed (q : Fin 8) (s : State) : (s.after (runConversionStep q s)).fixed = s.fixed := by
  unfold runConversionStep
  rw [State.after_next]
  repeat' (first | with_reducible rfl | with_reducible apply State.of_ite | with_reducible apply State.of_ite1 | with_reducible apply State.of_foldl | intro _ _ | (solve | simp (maxDischargeDepth := 80)))
@[simp ↓] theorem State.rqPut_fixed (s : State) (c : Nat) (clip : Bool) (avg : Bool) (data : Nat) : (State.rqPut s c clip avg data).fixed = s.fixed := by
  unfold State.rqPut
  repeat' (first | with_reducible rfl | with_reducible apply State.of_ite | with_reducible apply State.of_ite1 | with_reducible apply State.of_foldl | intro _ _ | (solve | simp (maxDischargeDepth := 80)))
@[simp ↓] theorem State.rqCheck_fixed (s : State) : (State.rqCheck s).fixed = s.fixed := by
  unfold State.rqCheck
  repeat' (first | with_reducible rfl | with_reducible apply State.of_ite | with_reducible apply State.of_ite1 | with_reducible apply State.of_foldl | intro _ _ | (solve | simp (maxDischargeDepth := 80)))
@[simp ↓] theorem runConversionResult_fixed (q : Fin 8) (codes : List ℕ) (s : State) : (s.after (runConversionResult q codes s)).fixed = s.fixed := by
  unfold runConversionResult
  repeat' (first | rw [State.after_next] | with_reducible rfl | with_reducible apply State.of_ite | with_reducible apply State.of_ite1 | with_reducible apply State.of_foldl | intro _ _ | (solve | simp (maxDischargeDepth := 80)) | dsimp only | split)
@[simp ↓] theorem State.rqPop_fixed (s : State) : (State.rqPop s).2.fixed = s.fixed := by
  unfold State.rqPop
  repeat' (first | with_reducible rfl | with_reducible apply State.of_ite | with_reducible apply State.of_ite1 | with_reducible apply State.of_foldl | intro _ _ | (solve | simp (maxDischargeDepth := 80)) | dsimp only | split)
@[simp ↓] theorem runResultQueuePop_fixed (i : Iface) (s : State) : (s.after (runResultQueuePop i s)).fixed = s.fixed := by
  unfold runResultQueuePop
  rw [State.after_next]
  repeat' (first | with_reducible rfl | with_reducible apply State.of_ite | with_reducible apply State.of_ite1 | with_reducible apply State.of_foldl | intro _ _ | (solve | simp (maxDischargeDepth := 80)))
@[simp ↓] theorem State.rqFlush_fixed (s : State) : (State.rqFlush s).fixed = s.fixed := by
  unfold State.rqFlush
  repeat' (first | with_reducible rfl | with_reducible apply State.of_ite | with_reducible apply State.of_ite1 | with_reducible apply State.of_foldl | intro _ _ | (solve | simp (maxDischargeDepth := 80)))
@[simp ↓] theorem runAdcRqFlush_fixed (s : State) : (s.after (runAdcRqFlush s)).fixed = s.fixed := by
  unfold runAdcRqFlush
  rw [State.after_next]
  repeat' (first | with_reducible rfl | with_reducible apply State.of_ite | with_reducible apply State.of_ite1 | with_reducible apply State.of_foldl | intro _ _ | (solve | simp (maxDischargeDepth := 80)))
@[simp ↓] theorem State.meterReject_fixed (s : State) (m : Nat) : (State.meterReject s m).fixed = s.fixed := by
  unfold State.meterReject
  repeat' (first | with_reducible rfl | with_reducible apply State.of_ite | with_reducible apply State.of_ite1 | with_reducible apply State.of_foldl | intro _ _ | (solve | simp (maxDischargeDepth := 80)))
@[simp ↓] theorem State.meterLearn_fixed (s : State) (m : Nat) : (State.meterLearn s m).fixed = s.fixed := by
  unfold State.meterLearn
  repeat' (first | with_reducible rfl | with_reducible apply State.of_ite | with_reducible apply State.of_ite1 | with_reducible apply State.of_foldl | intro _ _ | (solve | simp (maxDischargeDepth := 80)))
@[simp ↓] theorem State.meterFinish_fixed (s : State) (m : Nat) (cmd : Nat) (l : List Int) : (State.meterFinish s m cmd l).fixed = s.fixed := by
  unfold State.meterFinish
  repeat' (first | with_reducible rfl | with_reducible apply State.of_ite | with_reducible apply State.of_ite1 | with_reducible apply State.of_foldl | intro _ _ | (solve | simp (maxDischargeDepth := 80)))
@[simp ↓] theorem State.meterOverload_fixed (s : State) (m : Nat) (raw : Int) : (State.meterOverload s m raw).fixed = s.fixed := by
  unfold State.meterOverload
  repeat' (first | with_reducible rfl | with_reducible apply State.of_ite | with_reducible apply State.of_ite1 | with_reducible apply State.of_foldl | intro _ _ | (solve | simp (maxDischargeDepth := 80)))
@[simp ↓] theorem State.meterResult_fixed (s : State) (m : Nat) (raw : Int) : (State.meterResult s m raw).fixed = s.fixed := by
  unfold State.meterResult
  repeat' (first | with_reducible rfl | with_reducible apply State.of_ite | with_reducible apply State.of_ite1 | with_reducible apply State.of_foldl | intro _ _ | (solve | simp (maxDischargeDepth := 80)) | dsimp only | split)
@[simp ↓] theorem State.meterCmd_fixed (s : State) (m : Nat) (cmd : Nat) : (State.meterCmd s m cmd).fixed = s.fixed := by
  unfold State.meterCmd
  repeat' (first | with_reducible rfl | with_reducible apply State.of_ite | with_reducible apply State.of_ite1 | with_reducible apply State.of_foldl | intro _ _ | (solve | simp (maxDischargeDepth := 80)))
@[simp ↓] theorem runMtrZero_fixed (m : Fin 2) (s : State) : (s.after (runMtrZero m s)).fixed = s.fixed := by
  unfold runMtrZero
  rw [State.after_next]
  repeat' (first | with_reducible rfl | with_reducible apply State.of_ite | with_reducible apply State.of_ite1 | with_reducible apply State.of_foldl | intro _ _ | (solve | simp (maxDischargeDepth := 80)))
@[simp ↓] theorem runMtrFullScale_fixed (m : Fin 2) (s : State) : (s.after (runMtrFullScale m s)).fixed = s.fixed := by
  unfold runMtrFullScale
  rw [State.after_next]
  repeat' (first | with_reducible rfl | with_reducible apply State.of_ite | with_reducible apply State.of_ite1 | with_reducible apply State.of_foldl | intro _ _ | (solve | simp (maxDischargeDepth := 80)))
@[simp ↓] theorem runMtrRestore_fixed (m : Fin 2) (s : State) : (s.after (runMtrRestore m s)).fixed = s.fixed := by
  unfold runMtrRestore
  rw [State.after_next]
  repeat' (first | with_reducible rfl | with_reducible apply State.of_ite | with_reducible apply State.of_ite1 | with_reducible apply State.of_foldl | intro _ _ | (solve | simp (maxDischargeDepth := 80)))
@[simp ↓] theorem runParkedListRun_fixed (q : Fin 8) (s : State) : (s.after (runParkedListRun q s)).fixed = s.fixed := by
  unfold runParkedListRun
  rw [State.after_next]
  repeat' (first | with_reducible rfl | with_reducible apply State.of_ite | with_reducible apply State.of_ite1 | with_reducible apply State.of_foldl | intro _ _ | (solve | simp (maxDischargeDepth := 80)))
@[simp ↓] theorem State.seqTick_fixed (s : State) : (State.seqTick s).fixed = s.fixed := by
  unfold State.seqTick
  repeat' (first | with_reducible rfl | with_reducible apply State.of_ite | with_reducible apply State.of_ite1 | with_reducible apply State.of_foldl | intro _ _ | (solve | simp (maxDischargeDepth := 80)))
@[simp ↓] theorem State.seqRestart_fixed (s : State) (each : Bool) : (State.seqRestart s each).fixed = s.fixed := by
  unfold State.seqRestart
  repeat' (first | with_reducible rfl | with_reducible apply State.of_ite | with_reducible apply State.of_ite1 | with_reducible apply State.of_foldl | intro _ _ | (solve | simp (maxDischargeDepth := 80)) | dsimp only | split)
@[simp ↓] theorem State.publishChan_fixed (s : State) (c : Nat) (valid : Bool) : (State.publishChan s c valid).fixed = s.fixed := by
  unfold State.publishChan
  repeat' (first | with_reducible rfl | with_reducible apply State.of_ite | with_reducible apply State.of_ite1 | with_reducible apply State.of_foldl | intro _ _ | (solve | simp (maxDischargeDepth := 80)))
@[simp ↓] theorem State.judgeChan_fixed (s : State) (c : Nat) : (State.judgeChan s c).fixed = s.fixed := by
  unfold State.judgeChan
  repeat' (first | with_reducible rfl | with_reducible apply State.of_ite | with_reducible apply State.of_ite1 | with_reducible apply State.of_foldl | intro _ _ | (solve | simp (maxDischargeDepth := 80)))
@[simp ↓] theorem State.measureTick_fixed (s : State) : (State.measureTick s).fixed = s.fixed := by
  unfold State.measureTick
  repeat' (first | with_reducible rfl | with_reducible apply State.of_ite | with_reducible apply State.of_ite1 | with_reducible apply State.of_foldl | intro _ _ | (solve | simp (maxDischargeDepth := 80)))
@[simp ↓] theorem runSensorRefresh_fixed (n : Fin 112) (x : SensorRaw) (s : State) : (s.after (runSensorRefresh n x s)).fixed = s.fixed := by
  unfold runSensorRefresh
  rw [State.after_next]
  repeat' (first | with_reducible rfl | with_reducible apply State.of_ite | with_reducible apply State.of_ite1 | with_reducible apply State.of_foldl | intro _ _ | (solve | simp (maxDischargeDepth := 80)) | dsimp only | split)
@[simp ↓] theorem State.publishZone_fixed (s : State) (z : Nat) (valid : Bool) : (State.publishZone s z valid).fixed = s.fixed := by
  unfold State.publishZone
  repeat' (first | with_reducible rfl | with_reducible apply State.of_ite | with_reducible apply State.of_ite1 | with_reducible apply State.of_foldl | intro _ _ | (solve | simp (maxDischargeDepth := 80)))
@[simp ↓] theorem State.setBand_fixed (s : State) (b : Nat) (stale : Bool) : (State.setBand s b stale).fixed = s.fixed := by
  unfold State.setBand
  extract_lets old a c
  have ha : a.fixed = s.fixed := State.modThm_fixed _ _
  have hc : c.fixed = s.fixed := by
    unfold c
    split
    · exact ha
    · rw [State.learnEnd_fixed, ha]
  split
  · exact hc
  · rw [State.raiseEvt_fixed, State.modThm_fixed, hc]
@[simp ↓] theorem State.bandStep_fixed (s : State) (t : Int) : (State.bandStep s t).fixed = s.fixed := by
  unfold State.bandStep
  repeat' (first | with_reducible rfl | with_reducible apply State.of_ite | with_reducible apply State.of_ite1 | with_reducible apply State.of_foldl | intro _ _ | (solve | simp (maxDischargeDepth := 80)))
@[simp ↓] theorem State.zoneState_fixed (s : State) (z : ℕ) (st : EState) : (State.zoneState s z st).fixed = s.fixed := by
  unfold State.zoneState
  repeat' (first | with_reducible rfl | with_reducible apply State.of_ite | with_reducible apply State.of_ite1 | with_reducible apply State.of_foldl | intro _ _ | (solve | simp (maxDischargeDepth := 80)) | dsimp only | split)
@[simp ↓] theorem State.zoneRor_fixed (s : State) (z : ℕ) : (State.zoneRor s z).fixed = s.fixed := by
  unfold State.zoneRor
  repeat' (first | with_reducible rfl | with_reducible apply State.of_ite | with_reducible apply State.of_ite1 | with_reducible apply State.of_foldl | intro _ _ | (solve | simp (maxDischargeDepth := 80)) | dsimp only | split)
@[simp ↓] theorem State.zoneRows_fixed (s : State) (z : Nat) (t : Int) : (State.zoneRows s z t).fixed = s.fixed := by
  unfold State.zoneRows
  repeat' (first | with_reducible rfl | with_reducible apply State.of_ite | with_reducible apply State.of_ite1 | with_reducible apply State.of_foldl | intro _ _ | (solve | simp (maxDischargeDepth := 80)) | dsimp only | split)
@[simp ↓] theorem State.fastEnter_fixed (s : State) (z : Nat) (t : Int) : (State.fastEnter s z t).fixed = s.fixed := by
  unfold State.fastEnter
  repeat' (first | with_reducible rfl | with_reducible apply State.of_ite | with_reducible apply State.of_ite1 | with_reducible apply State.of_foldl | intro _ _ | (solve | simp (maxDischargeDepth := 80)))
@[simp ↓] theorem runZoneEvaluation_fixed (z : Fin 48) (s : State) : (s.after (runZoneEvaluation z s)).fixed = s.fixed := by
  unfold runZoneEvaluation
  rw [State.after_next]
  repeat' (first | with_reducible rfl | with_reducible apply State.of_ite | with_reducible apply State.of_ite1 | with_reducible apply State.of_foldl | intro _ _ | (solve | simp (maxDischargeDepth := 80)))
@[simp ↓] theorem runFastModeExit_fixed (z : Fin 48) (s : State) : (s.after (runFastModeExit z s)).fixed = s.fixed := by
  unfold runFastModeExit
  rw [State.after_next]
  repeat' (first | with_reducible rfl | with_reducible apply State.of_ite | with_reducible apply State.of_ite1 | with_reducible apply State.of_foldl | intro _ _ | (solve | simp (maxDischargeDepth := 80)))
@[simp ↓] theorem State.zoneRate_fixed (s : State) (z : Nat) : (State.zoneRate s z).fixed = s.fixed := by
  unfold State.zoneRate
  repeat' (first | with_reducible rfl | with_reducible apply State.of_ite | with_reducible apply State.of_ite1 | with_reducible apply State.of_foldl | intro _ _ | (solve | simp (maxDischargeDepth := 80)) | dsimp only | split)
@[simp ↓] theorem runRateOfRise_fixed (s : State) : (s.after (runRateOfRise s)).fixed = s.fixed := by
  unfold runRateOfRise
  rw [State.after_next]
  repeat' (first | with_reducible rfl | with_reducible apply State.of_ite | with_reducible apply State.of_ite1 | with_reducible apply State.of_foldl | intro _ _ | (solve | simp (maxDischargeDepth := 80)))
@[simp ↓] theorem State.zonePublish_fixed (s : State) : (State.zonePublish s).fixed = s.fixed := by
  unfold State.zonePublish
  repeat' (first | with_reducible rfl | with_reducible apply State.of_ite | with_reducible apply State.of_ite1 | with_reducible apply State.of_foldl | intro _ _ | (solve | simp (maxDischargeDepth := 80)))
@[simp ↓] theorem State.derateEp_fixed (s : State) (ep : Nat) : (State.derateEp s ep).fixed = s.fixed := by
  unfold State.derateEp
  repeat' (first | with_reducible rfl | with_reducible apply State.of_ite | with_reducible apply State.of_ite1 | with_reducible apply State.of_foldl | intro _ _ | (solve | simp (maxDischargeDepth := 80)))
@[simp ↓] theorem State.thermalTick_fixed (s : State) : (State.thermalTick s).fixed = s.fixed := by
  unfold State.thermalTick
  repeat' (first | with_reducible rfl | with_reducible apply State.of_ite | with_reducible apply State.of_ite1 | with_reducible apply State.of_foldl | intro _ _ | (solve | simp (maxDischargeDepth := 80)))
@[simp ↓] theorem State.gaugeReference_fixed (s : State) (si : Int) (unc : Nat) : (State.gaugeReference s si unc).fixed = s.fixed := by
  unfold State.gaugeReference
  repeat' (first | with_reducible rfl | with_reducible apply State.of_ite | with_reducible apply State.of_ite1 | with_reducible apply State.of_foldl | intro _ _ | (solve | simp (maxDischargeDepth := 80)) | dsimp only | split)
@[simp ↓] theorem State.gaugeWarn_fixed (s : State) : (State.gaugeWarn s).fixed = s.fixed := by
  unfold State.gaugeWarn
  repeat' (first | with_reducible rfl | with_reducible apply State.of_ite | with_reducible apply State.of_ite1 | with_reducible apply State.of_foldl | intro _ _ | (solve | simp (maxDischargeDepth := 80)))
@[simp ↓] theorem State.gaugeCount_fixed (s : State) : (State.gaugeCount s).fixed = s.fixed := by
  unfold State.gaugeCount
  repeat' (first | with_reducible rfl | with_reducible apply State.of_ite | with_reducible apply State.of_ite1 | with_reducible apply State.of_foldl | intro _ _ | (solve | simp (maxDischargeDepth := 80)) | dsimp only | split)
@[simp ↓] theorem State.gaugeSample_fixed (s : State) : (State.gaugeSample s).fixed = s.fixed := by
  unfold State.gaugeSample
  repeat' (first | with_reducible rfl | with_reducible apply State.of_ite | with_reducible apply State.of_ite1 | with_reducible apply State.of_foldl | intro _ _ | (solve | simp (maxDischargeDepth := 80)) | dsimp only | split)
@[simp ↓] theorem runMeteringResult_fixed (m : Fin 2) (raw : Int) (s : State) : (s.after (runMeteringResult m raw s)).fixed = s.fixed := by
  unfold runMeteringResult
  rw [State.after_next]
  repeat' (first | with_reducible rfl | with_reducible apply State.of_ite | with_reducible apply State.of_ite1 | with_reducible apply State.of_foldl | intro _ _ | (solve | simp (maxDischargeDepth := 80)))
@[simp ↓] theorem State.observerClamp_fixed (s : State) : (State.observerClamp s).fixed = s.fixed := by
  unfold State.observerClamp
  repeat' (first | with_reducible rfl | with_reducible apply State.of_ite | with_reducible apply State.of_ite1 | with_reducible apply State.of_foldl | intro _ _ | (solve | simp (maxDischargeDepth := 80)))
@[simp ↓] theorem runGaugeModelStep_fixed (held60 : Bool) (s : State) : (s.after (runGaugeModelStep held60 s)).fixed = s.fixed := by
  unfold runGaugeModelStep
  rw [State.after_next]
  repeat' (first | with_reducible rfl | with_reducible apply State.of_ite | with_reducible apply State.of_ite1 | with_reducible apply State.of_foldl | intro _ _ | (solve | simp (maxDischargeDepth := 80)))
@[simp ↓] theorem runCleanReference_fixed (s : State) : (s.after (runCleanReference s)).fixed = s.fixed := by
  unfold runCleanReference
  rw [State.after_next]
  repeat' (first | with_reducible rfl | with_reducible apply State.of_ite | with_reducible apply State.of_ite1 | with_reducible apply State.of_foldl | intro _ _ | (solve | simp (maxDischargeDepth := 80)))
@[simp ↓] theorem runReferenceStale_fixed (s : State) : (s.after (runReferenceStale s)).fixed = s.fixed := by
  unfold runReferenceStale
  rw [State.after_next]
  repeat' (first | with_reducible rfl | with_reducible apply State.of_ite | with_reducible apply State.of_ite1 | with_reducible apply State.of_foldl | intro _ _ | (solve | simp (maxDischargeDepth := 80)))
@[simp ↓] theorem State.learnResult_fixed (s : State) : (State.learnResult s).fixed = s.fixed := by
  unfold State.learnResult
  repeat' (first | with_reducible rfl | with_reducible apply State.of_ite | with_reducible apply State.of_ite1 | with_reducible apply State.of_foldl | intro _ _ | (solve | simp (maxDischargeDepth := 80)) | dsimp only | split)
@[simp ↓] theorem State.gaugeEmpty_fixed (s : State) : (State.gaugeEmpty s).fixed = s.fixed := by
  unfold State.gaugeEmpty
  repeat' (first | with_reducible rfl | with_reducible apply State.of_ite | with_reducible apply State.of_ite1 | with_reducible apply State.of_foldl | intro _ _ | (solve | simp (maxDischargeDepth := 80)) | dsimp only | split)
@[simp ↓] theorem runGaugeEvaluation_fixed (s : State) : (s.after (runGaugeEvaluation s)).fixed = s.fixed := by
  unfold runGaugeEvaluation
  repeat' (first | rw [State.after_next] | with_reducible rfl | with_reducible apply State.of_ite | with_reducible apply State.of_ite1 | with_reducible apply State.of_foldl | intro _ _ | (solve | simp (maxDischargeDepth := 80)) | dsimp only | split)
@[simp ↓] theorem runLearningTimeout_fixed (s : State) : (s.after (runLearningTimeout s)).fixed = s.fixed := by
  unfold runLearningTimeout
  rw [State.after_next]
  repeat' (first | with_reducible rfl | with_reducible apply State.of_ite | with_reducible apply State.of_ite1 | with_reducible apply State.of_foldl | intro _ _ | (solve | simp (maxDischargeDepth := 80)) | dsimp only | split)
@[simp ↓] theorem runHibernationEnter_fixed (s : State) : (s.after (runHibernationEnter s)).fixed = s.fixed := by
  unfold runHibernationEnter
  rw [State.after_next]
  repeat' (first | with_reducible rfl | with_reducible apply State.of_ite | with_reducible apply State.of_ite1 | with_reducible apply State.of_foldl | intro _ _ | (solve | simp (maxDischargeDepth := 80)))
@[simp ↓] theorem State.gaugeWake_fixed (s : State) : (State.gaugeWake s).fixed = s.fixed := by
  unfold State.gaugeWake
  repeat' (first | with_reducible rfl | with_reducible apply State.of_ite | with_reducible apply State.of_ite1 | with_reducible apply State.of_foldl | intro _ _ | (solve | simp (maxDischargeDepth := 80)))
@[simp ↓] theorem runHibernationExit_fixed (s : State) : (s.after (runHibernationExit s)).fixed = s.fixed := by
  unfold runHibernationExit
  rw [State.after_next]
  repeat' (first | with_reducible rfl | with_reducible apply State.of_ite | with_reducible apply State.of_ite1 | with_reducible apply State.of_foldl | intro _ _ | (solve | simp (maxDischargeDepth := 80)))
@[simp ↓] theorem State.gaugeStore_fixed (s : State) : (State.gaugeStore s).fixed = s.fixed := by
  unfold State.gaugeStore
  repeat' (first | with_reducible rfl | with_reducible apply State.of_ite | with_reducible apply State.of_ite1 | with_reducible apply State.of_foldl | intro _ _ | (solve | simp (maxDischargeDepth := 80)))
@[simp ↓] theorem runGaugeSave_fixed (s : State) : (s.after (runGaugeSave s)).fixed = s.fixed := by
  unfold runGaugeSave
  rw [State.after_next]
  repeat' (first | with_reducible rfl | with_reducible apply State.of_ite | with_reducible apply State.of_ite1 | with_reducible apply State.of_foldl | intro _ _ | (solve | simp (maxDischargeDepth := 80)))
@[simp ↓] theorem State.gaugeTerminated_fixed (s : State) : (State.gaugeTerminated s).fixed = s.fixed := by
  unfold State.gaugeTerminated
  repeat' (first | with_reducible rfl | with_reducible apply State.of_ite | with_reducible apply State.of_ite1 | with_reducible apply State.of_foldl | intro _ _ | (solve | simp (maxDischargeDepth := 80)))
@[simp ↓] theorem State.gaugeRemoved_fixed (s : State) : (State.gaugeRemoved s).fixed = s.fixed := by
  unfold State.gaugeRemoved
  repeat' (first | with_reducible rfl | with_reducible apply State.of_ite | with_reducible apply State.of_ite1 | with_reducible apply State.of_foldl | intro _ _ | (solve | simp (maxDischargeDepth := 80)))
@[simp ↓] theorem State.gaugeBind_fixed (s : State) (idMv : Nat) : (State.gaugeBind s idMv).fixed = s.fixed := by
  unfold State.gaugeBind
  repeat' (first | with_reducible rfl | with_reducible apply State.of_ite | with_reducible apply State.of_ite1 | with_reducible apply State.of_foldl | intro _ _ | (solve | simp (maxDischargeDepth := 80)))
@[simp ↓] theorem State.gaugePublish_fixed (s : State) : (State.gaugePublish s).fixed = s.fixed := by
  unfold State.gaugePublish
  repeat' (first | with_reducible rfl | with_reducible apply State.of_ite | with_reducible apply State.of_ite1 | with_reducible apply State.of_foldl | intro _ _ | (solve | simp (maxDischargeDepth := 80)))
@[simp ↓] theorem State.gaugeTick_fixed (s : State) (first : Bool) : (State.gaugeTick s first).fixed = s.fixed := by
  unfold State.gaugeTick
  repeat' (first | with_reducible rfl | with_reducible apply State.of_ite | with_reducible apply State.of_ite1 | with_reducible apply State.of_foldl | intro _ _ | (solve | simp (maxDischargeDepth := 80)))
@[simp ↓] theorem State.chgLatch_fixed (s : State) : (State.chgLatch s).fixed = s.fixed := by
  unfold State.chgLatch
  repeat' (first | with_reducible rfl | with_reducible apply State.of_ite | with_reducible apply State.of_ite1 | with_reducible apply State.of_foldl | intro _ _ | (solve | simp (maxDischargeDepth := 80)))
@[simp ↓] theorem State.chgHold_fixed (s : State) : (State.chgHold s).fixed = s.fixed := by
  unfold State.chgHold
  repeat' (first | with_reducible rfl | with_reducible apply State.of_ite | with_reducible apply State.of_ite1 | with_reducible apply State.of_foldl | intro _ _ | (solve | simp (maxDischargeDepth := 80)))
@[simp ↓] theorem runPackConversion_fixed (idMv : Nat) (ntc : Nat) (s : State) : (s.after (runPackConversion idMv ntc s)).fixed = s.fixed := by
  unfold runPackConversion
  rw [State.after_next]
  repeat' (first | with_reducible rfl | with_reducible apply State.of_ite | with_reducible apply State.of_ite1 | with_reducible apply State.of_foldl | intro _ _ | (solve | simp (maxDischargeDepth := 80)))
@[simp ↓] theorem State.ovRelease_fixed (s : State) (m : SourceMeas) : (s.ovRelease m).fixed = s.fixed := by
  unfold State.ovRelease
  extract_lets t
  have ht : t.fixed = s.fixed := by
    unfold t
    split
    · rw [State.releaseSrc_fixed, State.modChg_fixed]
    · rfl
  split
  · rw [State.releaseSrc_fixed, State.modChg_fixed, ht]
  · exact ht
@[simp ↓] theorem runSourceSelect_fixed (m : SourceMeas) (s : State) : (s.after (runSourceSelect m s)).fixed = s.fixed := by
  unfold runSourceSelect
  rw [State.after_next]
  repeat' (first | with_reducible rfl | with_reducible apply State.of_ite | with_reducible apply State.of_ite1 | with_reducible apply State.of_foldl | intro _ _ | (solve | simp (maxDischargeDepth := 80)) | dsimp only | split)
@[simp ↓] theorem runSourceSwitchOn_fixed (s : State) : (s.after (runSourceSwitchOn s)).fixed = s.fixed := by
  unfold runSourceSwitchOn
  rw [State.after_next]
  repeat' (first | with_reducible rfl | with_reducible apply State.of_ite | with_reducible apply State.of_ite1 | with_reducible apply State.of_foldl | intro _ _ | (solve | simp (maxDischargeDepth := 80)) | dsimp only | split)
@[simp ↓] theorem runSourceOvervoltage_fixed (net : Bool) (s : State) : (s.after (runSourceOvervoltage net s)).fixed = s.fixed := by
  unfold runSourceOvervoltage
  rw [State.after_next]
  repeat' (first | with_reducible rfl | with_reducible apply State.of_ite | with_reducible apply State.of_ite1 | with_reducible apply State.of_foldl | intro _ _ | (solve | simp (maxDischargeDepth := 80)))
@[simp ↓] theorem State.chgPause_fixed (s : State) : (State.chgPause s).fixed = s.fixed := by
  unfold State.chgPause
  repeat' (first | with_reducible rfl | with_reducible apply State.of_ite | with_reducible apply State.of_ite1 | with_reducible apply State.of_foldl | intro _ _ | (solve | simp (maxDischargeDepth := 80)))
@[simp ↓] theorem State.chgSources_fixed (s : State) (v : Nat) : (State.chgSources s v).fixed = s.fixed := by
  unfold State.chgSources
  repeat' (first | with_reducible rfl | with_reducible apply State.of_ite | with_reducible apply State.of_ite1 | with_reducible apply State.of_foldl | intro _ _ | (solve | simp (maxDischargeDepth := 80)))
@[simp ↓] theorem State.chgPhases_fixed (s : State) (v : Nat) : (State.chgPhases s v).fixed = s.fixed := by
  unfold State.chgPhases
  repeat' (first | with_reducible rfl | with_reducible apply State.of_ite | with_reducible apply State.of_ite1 | with_reducible apply State.of_foldl | intro _ _ | (solve | simp (maxDischargeDepth := 80)) | dsimp only | split)
@[simp ↓] theorem runChargeEvaluation_fixed (vpack : Nat) (ivr : Bool) (s : State) : (s.after (runChargeEvaluation vpack ivr s)).fixed = s.fixed := by
  unfold runChargeEvaluation
  rw [State.after_next]
  repeat' (first | with_reducible rfl | with_reducible apply State.of_ite | with_reducible apply State.of_ite1 | with_reducible apply State.of_foldl | intro _ _ | (solve | simp (maxDischargeDepth := 80)))
@[simp ↓] theorem runChargeTermination_fixed (s : State) : (s.after (runChargeTermination s)).fixed = s.fixed := by
  unfold runChargeTermination
  rw [State.after_next]
  repeat' (first | with_reducible rfl | with_reducible apply State.of_ite | with_reducible apply State.of_ite1 | with_reducible apply State.of_foldl | intro _ _ | (solve | simp (maxDischargeDepth := 80)))
@[simp ↓] theorem runRechargeStart_fixed (s : State) : (s.after (runRechargeStart s)).fixed = s.fixed := by
  unfold runRechargeStart
  rw [State.after_next]
  repeat' (first | with_reducible rfl | with_reducible apply State.of_ite | with_reducible apply State.of_ite1 | with_reducible apply State.of_foldl | intro _ _ | (solve | simp (maxDischargeDepth := 80)))
@[simp ↓] theorem runPackOvervoltage_fixed (s : State) : (s.after (runPackOvervoltage s)).fixed = s.fixed := by
  unfold runPackOvervoltage
  rw [State.after_next]
  repeat' (first | with_reducible rfl | with_reducible apply State.of_ite | with_reducible apply State.of_ite1 | with_reducible apply State.of_foldl | intro _ _ | (solve | simp (maxDischargeDepth := 80)))
@[simp ↓] theorem runChargerStageFault_fixed (s : State) : (s.after (runChargerStageFault s)).fixed = s.fixed := by
  unfold runChargerStageFault
  rw [State.after_next]
  repeat' (first | with_reducible rfl | with_reducible apply State.of_ite | with_reducible apply State.of_ite1 | with_reducible apply State.of_foldl | intro _ _ | (solve | simp (maxDischargeDepth := 80)))
@[simp ↓] theorem runPackOvertemp_fixed (hot : Bool) (s : State) : (s.after (runPackOvertemp hot s)).fixed = s.fixed := by
  unfold runPackOvertemp
  rw [State.after_next]
  repeat' (first | with_reducible rfl | with_reducible apply State.of_ite | with_reducible apply State.of_ite1 | with_reducible apply State.of_foldl | intro _ _ | (solve | simp (maxDischargeDepth := 80)))
@[simp ↓] theorem runPackUndervoltage_fixed (s : State) : (s.after (runPackUndervoltage s)).fixed = s.fixed := by
  unfold runPackUndervoltage
  rw [State.after_next]
  repeat' (first | with_reducible rfl | with_reducible apply State.of_ite | with_reducible apply State.of_ite1 | with_reducible apply State.of_foldl | intro _ _ | (solve | simp (maxDischargeDepth := 80)))
@[simp ↓] theorem runTrackingStep_fixed (pMean : Nat) (iOut : Nat) (s : State) : (s.after (runTrackingStep pMean iOut s)).fixed = s.fixed := by
  unfold runTrackingStep
  rw [State.after_next]
  repeat' (first | with_reducible rfl | with_reducible apply State.of_ite | with_reducible apply State.of_ite1 | with_reducible apply State.of_foldl | intro _ _ | (solve | simp (maxDischargeDepth := 80)))
@[simp ↓] theorem runSafetyTimerUpdate_fixed (iActual : Nat) (s : State) : (s.after (runSafetyTimerUpdate iActual s)).fixed = s.fixed := by
  unfold runSafetyTimerUpdate
  rw [State.after_next]
  repeat' (first | with_reducible rfl | with_reducible apply State.of_ite | with_reducible apply State.of_ite1 | with_reducible apply State.of_foldl | intro _ _ | (solve | simp (maxDischargeDepth := 80)))
@[simp ↓] theorem runPackRemoval_fixed (s : State) : (s.after (runPackRemoval s)).fixed = s.fixed := by
  unfold runPackRemoval
  repeat' (first | rw [State.after_next] | with_reducible rfl | with_reducible apply State.of_ite | with_reducible apply State.of_ite1 | with_reducible apply State.of_foldl | intro _ _ | (solve | simp (maxDischargeDepth := 80)) | dsimp only | split)
@[simp ↓] theorem runPackInsertion_fixed (idMv : Nat) (s : State) : (s.after (runPackInsertion idMv s)).fixed = s.fixed := by
  unfold runPackInsertion
  rw [State.after_next]
  repeat' (first | with_reducible rfl | with_reducible apply State.of_ite | with_reducible apply State.of_ite1 | with_reducible apply State.of_foldl | intro _ _ | (solve | simp (maxDischargeDepth := 80)))
@[simp ↓] theorem runReverseModeFault_fixed (overCurrent : Bool) (s : State) : (s.after (runReverseModeFault overCurrent s)).fixed = s.fixed := by
  unfold runReverseModeFault
  rw [State.after_next]
  repeat' (first | with_reducible rfl | with_reducible apply State.of_ite | with_reducible apply State.of_ite1 | with_reducible apply State.of_foldl | intro _ _ | (solve | simp (maxDischargeDepth := 80)))
@[simp ↓] theorem State.chargerTick_fixed (s : State) : (State.chargerTick s).fixed = s.fixed := by
  unfold State.chargerTick
  repeat' (first | with_reducible rfl | with_reducible apply State.of_ite | with_reducible apply State.of_ite1 | with_reducible apply State.of_foldl | intro _ _ | (solve | simp (maxDischargeDepth := 80)))
@[simp ↓] theorem State.alarmFire_fixed (s : State) (a : Nat) (fires : Bool) : (State.alarmFire s a fires).fixed = s.fixed := by
  unfold State.alarmFire
  repeat' (first | with_reducible rfl | with_reducible apply State.of_ite | with_reducible apply State.of_ite1 | with_reducible apply State.of_foldl | intro _ _ | (solve | simp (maxDischargeDepth := 80)))
@[simp ↓] theorem State.osfNote_fixed (s : State) : (State.osfNote s).fixed = s.fixed := by
  unfold State.osfNote
  repeat' (first | with_reducible rfl | with_reducible apply State.of_ite | with_reducible apply State.of_ite1 | with_reducible apply State.of_foldl | intro _ _ | (solve | simp (maxDischargeDepth := 80)) | dsimp only | split)
@[simp ↓] theorem State.backupStep_fixed (s : State) : (State.backupStep s).fixed = s.fixed := by
  unfold State.backupStep
  repeat' (first | with_reducible rfl | with_reducible apply State.of_ite | with_reducible apply State.of_ite1 | with_reducible apply State.of_foldl | intro _ _ | (solve | simp (maxDischargeDepth := 80)) | dsimp only | split)
@[simp ↓] theorem runBackupReset_fixed (s : State) : (s.after (runBackupReset s)).fixed = s.fixed := by
  unfold runBackupReset
  repeat' (first | rw [State.after_next] | with_reducible rfl | with_reducible apply State.of_ite | with_reducible apply State.of_ite1 | with_reducible apply State.of_foldl | intro _ _ | (solve | simp (maxDischargeDepth := 80)) | dsimp only | split)
@[simp ↓] theorem runVbkupLow_fixed (low : Bool) (s : State) : (s.after (runVbkupLow low s)).fixed = s.fixed := by
  unfold runVbkupLow
  rw [State.after_next]
  repeat' (first | with_reducible rfl | with_reducible apply State.of_ite | with_reducible apply State.of_ite1 | with_reducible apply State.of_foldl | intro _ _ | (solve | simp (maxDischargeDepth := 80)))
@[simp ↓] theorem State.rtcStep_fixed (s : State) : (State.rtcStep s).fixed = s.fixed := by
  unfold State.rtcStep
  repeat' (first | with_reducible rfl | with_reducible apply State.of_ite | with_reducible apply State.of_ite1 | with_reducible apply State.of_foldl | intro _ _ | (solve | simp (maxDischargeDepth := 80)) | dsimp only | split)
@[simp ↓] theorem State.rtcNote_fixed (s : State) : (State.rtcNote s).fixed = s.fixed := by
  unfold State.rtcNote
  repeat' (first | with_reducible rfl | with_reducible apply State.of_ite | with_reducible apply State.of_ite1 | with_reducible apply State.of_foldl | intro _ _ | (solve | simp (maxDischargeDepth := 80)) | dsimp only | split)
@[simp ↓] theorem runRtcIncrement_fixed (s : State) : (s.after (runRtcIncrement s)).fixed = s.fixed := by
  unfold runRtcIncrement
  repeat' (first | rw [State.after_next] | with_reducible rfl | with_reducible apply State.of_ite | with_reducible apply State.of_ite1 | with_reducible apply State.of_foldl | intro _ _ | (solve | simp (maxDischargeDepth := 80)) | dsimp only | split)
@[simp ↓] theorem execOscillatorStopDetect_fixed (s : State) : (s.after (execOscillatorStopDetect s)).fixed = s.fixed := by
  unfold execOscillatorStopDetect
  rw [State.after_next]
  repeat' (first | with_reducible rfl | with_reducible apply State.of_ite | with_reducible apply State.of_ite1 | with_reducible apply State.of_foldl | intro _ _ | (solve | simp (maxDischargeDepth := 80)))
@[simp ↓] theorem State.rtcFrac_fixed (s : State) (i : Iface) : (State.rtcFrac s i).2.fixed = s.fixed := by
  unfold State.rtcFrac
  repeat' (first | with_reducible rfl | with_reducible apply State.of_ite | with_reducible apply State.of_ite1 | with_reducible apply State.of_foldl | intro _ _ | (solve | simp (maxDischargeDepth := 80)))
@[simp ↓] theorem runRtcFracRead_fixed (i : Iface) (s : State) : (s.after (runRtcFracRead i s)).fixed = s.fixed := by
  unfold runRtcFracRead
  rw [State.after_next]
  repeat' (first | with_reducible rfl | with_reducible apply State.of_ite | with_reducible apply State.of_ite1 | with_reducible apply State.of_foldl | intro _ _ | (solve | simp (maxDischargeDepth := 80)))
@[simp ↓] theorem State.rtcGo_fixed (s : State) (i : Iface) : (State.rtcGo s i).fixed = s.fixed := by
  unfold State.rtcGo
  repeat' (first | with_reducible rfl | with_reducible apply State.of_ite | with_reducible apply State.of_ite1 | with_reducible apply State.of_foldl | intro _ _ | (solve | simp (maxDischargeDepth := 80)))
@[simp ↓] theorem runRtcSetGo_fixed (i : Iface) (s : State) : (s.after (runRtcSetGo i s)).fixed = s.fixed := by
  unfold runRtcSetGo
  rw [State.after_next]
  repeat' (first | with_reducible rfl | with_reducible apply State.of_ite | with_reducible apply State.of_ite1 | with_reducible apply State.of_foldl | intro _ _ | (solve | simp (maxDischargeDepth := 80)))
@[simp ↓] theorem runRtcLoad_fixed (s : State) : (s.after (runRtcLoad s)).fixed = s.fixed := by
  unfold runRtcLoad
  rw [State.after_next]
  repeat' (first | with_reducible rfl | with_reducible apply State.of_ite | with_reducible apply State.of_ite1 | with_reducible apply State.of_foldl | intro _ _ | (solve | simp (maxDischargeDepth := 80)) | dsimp only | split)
@[simp ↓] theorem State.rtcTick_fixed (s : State) : (State.rtcTick s).fixed = s.fixed := by
  unfold State.rtcTick
  repeat' (first | with_reducible rfl | with_reducible apply State.of_ite | with_reducible apply State.of_ite1 | with_reducible apply State.of_foldl | intro _ _ | (solve | simp (maxDischargeDepth := 80)) | dsimp only | split)
@[simp ↓] theorem State.rtcHaltReq_fixed (s : State) (i : Iface) (v : Bool) : (State.rtcHaltReq s i v).fixed = s.fixed := by
  unfold State.rtcHaltReq
  repeat' (first | with_reducible rfl | with_reducible apply State.of_ite | with_reducible apply State.of_ite1 | with_reducible apply State.of_foldl | intro _ _ | (solve | simp (maxDischargeDepth := 80)))
@[simp ↓] theorem runRtcHaltWrite_fixed (i : Iface) (v : Bool) (s : State) : (s.after (runRtcHaltWrite i v s)).fixed = s.fixed := by
  unfold runRtcHaltWrite
  rw [State.after_next]
  repeat' (first | with_reducible rfl | with_reducible apply State.of_ite | with_reducible apply State.of_ite1 | with_reducible apply State.of_foldl | intro _ _ | (solve | simp (maxDischargeDepth := 80)))
@[simp ↓] theorem State.otpNote_fixed (s : State) (w : Nat) : (State.otpNote s w).fixed = s.fixed := by
  unfold State.otpNote
  repeat' (first | with_reducible rfl | with_reducible apply State.of_ite | with_reducible apply State.of_ite1 | with_reducible apply State.of_foldl | intro _ _ | (solve | simp (maxDischargeDepth := 80)) | dsimp only | split)
@[simp ↓] theorem State.activationEnd_fixed (s : State) : (State.activationEnd s).fixed = s.fixed := by
  unfold State.activationEnd
  repeat' (first | with_reducible rfl | with_reducible apply State.of_ite | with_reducible apply State.of_ite1 | with_reducible apply State.of_foldl | intro _ _ | (solve | simp (maxDischargeDepth := 80)) | (solve | simp only [State.modGlb_fixed, State.modOtp_fixed, State.modLed_fixed, State.modPipe_fixed, State.modUpd_fixed, State.modLace_fixed, State.pulseSrc_fixed]))
@[simp ↓] theorem State.activationCounter_fixed (s : State) (cls : Nat) : (State.activationCounter s cls).fixed = s.fixed := by
  unfold State.activationCounter
  repeat' (first | with_reducible rfl | with_reducible apply State.of_ite | with_reducible apply State.of_ite1 | with_reducible apply State.of_foldl | intro _ _ | (solve | simp (maxDischargeDepth := 80)))
@[simp ↓] theorem State.patchNext_fixed (cls : Nat) (l : List (BitVec 64)) (s : State) : (State.patchNext cls l s).fixed = s.fixed := by
  induction l generalizing s with
  | nil => simp [State.patchNext]
  | cons e t ih =>
    simp only [State.patchNext]
    split
    · simp
    · repeat' split
      all_goals simp [ih]
@[simp ↓] theorem State.activationNext_fixed (s : State) : (State.activationNext s).fixed = s.fixed := by
  unfold State.activationNext
  repeat' (first | with_reducible rfl | with_reducible apply State.of_ite | with_reducible apply State.of_ite1 | with_reducible apply State.of_foldl | intro _ _ | (solve | simp (maxDischargeDepth := 80)) | dsimp only | split)
@[simp ↓] theorem State.otpAdvance_fixed (s : State) : (State.otpAdvance s).fixed = s.fixed := by
  unfold State.otpAdvance
  repeat' (first | with_reducible rfl | with_reducible apply State.of_ite | with_reducible apply State.of_ite1 | with_reducible apply State.of_foldl | intro _ _ | (solve | simp (maxDischargeDepth := 80)) | dsimp only | split)
@[simp ↓] theorem State.otpStart_fixed (s : State) (bits : List (Nat × Nat)) (sealed : Option Nat) : (State.otpStart s bits sealed).fixed = s.fixed := by
  unfold State.otpStart
  repeat' (first | with_reducible rfl | with_reducible apply State.of_ite | with_reducible apply State.of_ite1 | with_reducible apply State.of_foldl | intro _ _ | (solve | simp (maxDischargeDepth := 80)))
@[simp ↓] theorem State.otpStop_fixed (s : State) : (State.otpStop s).fixed = s.fixed := by
  unfold State.otpStop
  repeat' (first | with_reducible rfl | with_reducible apply State.of_ite | with_reducible apply State.of_ite1 | with_reducible apply State.of_foldl | intro _ _ | (solve | simp (maxDischargeDepth := 80)))
@[simp ↓] theorem State.otpRefuse_fixed (s : State) : (State.otpRefuse s).fixed = s.fixed := by
  unfold State.otpRefuse
  repeat' (first | with_reducible rfl | with_reducible apply State.of_ite | with_reducible apply State.of_ite1 | with_reducible apply State.of_foldl | intro _ _ | (solve | simp (maxDischargeDepth := 80)))
theorem State.useAuth_fixed (s : State) (i : Iface) (action arg : Nat) (t : State) (h : s.useAuth i action arg = some t) : t.fixed = s.fixed := by
  unfold State.useAuth at h
  repeat' split at h
  all_goals (first | (cases h; done) | (cases h; simp))
theorem State.otpAllowed_fixed (s : State) (i : Iface) (w : Nat) (t : State) (h : s.otpAllowed i w = some t) : t.fixed = s.fixed := by
  unfold State.otpAllowed at h
  repeat' split at h
  all_goals (first | (cases h; done) | (cases h; rfl) | exact State.useAuth_fixed _ _ _ _ _ h)
theorem State.otpOwner_fixed (s : State) (i : Iface) (action arg : Nat) (t : State) (h : s.otpOwner i action arg = some t) : t.fixed = s.fixed := by
  unfold State.otpOwner at h
  repeat' split at h
  all_goals (first | (cases h; done) | (cases h; rfl) | exact State.useAuth_fixed _ _ _ _ _ h)
@[simp ↓] theorem runProgram_fixed (i : Iface) (w : Word) (s : State) : (s.after (runProgram i w s)).fixed = s.fixed := by
  unfold runProgram
  rw [State.after_next]
  split
  · rfl
  · dsimp only
    split
    · simp
    · split
      · simp
      · rename_i h
        have := State.otpAllowed_fixed _ _ _ _ h
        first | (simp [this]; done)
@[simp ↓] theorem runSealWord_fixed (i : Iface) (w : Word) (s : State) : (s.after (runSealWord i w s)).fixed = s.fixed := by
  unfold runSealWord
  rw [State.after_next]
  split
  · rfl
  · dsimp only
    split
    · simp
    · split
      · simp
      · rename_i h
        have := State.otpAllowed_fixed _ _ _ _ h
        first | (simp [this]; done)
@[simp ↓] theorem runLcAdvance_fixed (i : Iface) (w : Word) (s : State) : (s.after (runLcAdvance i w s)).fixed = s.fixed := by
  unfold runLcAdvance
  rw [State.after_next]
  split
  · rfl
  · dsimp only
    split
    · simp
    · split
      · simp
      · rename_i t h
        have : t.fixed = s.fixed := by
          split at h
          · cases h; rfl
          · exact State.useAuth_fixed _ _ _ _ _ h
        simp [this]
@[simp ↓] theorem runRevoke_fixed (i : Iface) (w : Word) (s : State) : (s.after (runRevoke i w s)).fixed = s.fixed := by
  unfold runRevoke
  rw [State.after_next]
  split
  · rfl
  · dsimp only
    split
    · simp
    · split
      · simp
      · rename_i h
        have := State.otpOwner_fixed _ _ _ _ _ h
        first | (simp [this]; done)
@[simp ↓] theorem runCtrRaise_fixed (i : Iface) (w : Word) (s : State) : (s.after (runCtrRaise i w s)).fixed = s.fixed := by
  unfold runCtrRaise
  rw [State.after_next]
  split
  · rfl
  · dsimp only
    split
    · simp
    · split
      · simp
      · rename_i h
        have := State.otpOwner_fixed _ _ _ _ _ h
        first | (simp [this]; done)
@[simp ↓] theorem State.tokenStart_fixed (s : State) (i : Iface) : (State.tokenStart s i).fixed = s.fixed := by
  unfold State.tokenStart
  repeat' (first | with_reducible rfl | with_reducible apply State.of_ite | with_reducible apply State.of_ite1 | with_reducible apply State.of_foldl | intro _ _ | (solve | simp (maxDischargeDepth := 80)))
@[simp ↓] theorem runTokenVerify_fixed (i : Iface) (s : State) : (s.after (runTokenVerify i s)).fixed = s.fixed := by
  unfold runTokenVerify
  rw [State.after_next]
  repeat' (first | with_reducible rfl | with_reducible apply State.of_ite | with_reducible apply State.of_ite1 | with_reducible apply State.of_foldl | intro _ _ | (solve | simp (maxDischargeDepth := 80)))
@[simp ↓] theorem runTokenCheckDone_fixed (i : Iface) (s : State) : (s.after (runTokenCheckDone i s)).fixed = s.fixed := by
  unfold runTokenCheckDone
  rw [State.after_next]
  repeat' (first | with_reducible rfl | with_reducible apply State.of_ite | with_reducible apply State.of_ite1 | with_reducible apply State.of_foldl | intro _ _ | (solve | simp (maxDischargeDepth := 80)))
@[simp ↓] theorem runAuthExpire_fixed (i : Iface) (s : State) : (s.after (runAuthExpire i s)).fixed = s.fixed := by
  unfold runAuthExpire
  rw [State.after_next]
  repeat' (first | with_reducible rfl | with_reducible apply State.of_ite | with_reducible apply State.of_ite1 | with_reducible apply State.of_foldl | intro _ _ | (solve | simp (maxDischargeDepth := 80)))
@[simp ↓] theorem State.svcFault_fixed (s : State) (w : Nat) (cause : Nat) : (State.svcFault s w cause).fixed = s.fixed := by
  unfold State.svcFault
  repeat' (first | with_reducible rfl | with_reducible apply State.of_ite | with_reducible apply State.of_ite1 | with_reducible apply State.of_foldl | intro _ _ | (solve | simp (maxDischargeDepth := 80)))
@[simp ↓] theorem State.periodReject_fixed (s : State) (w : Nat) : (State.periodReject s w).fixed = s.fixed := by
  unfold State.periodReject
  repeat' (first | with_reducible rfl | with_reducible apply State.of_ite | with_reducible apply State.of_ite1 | with_reducible apply State.of_foldl | intro _ _ | (solve | simp (maxDischargeDepth := 80)))
@[simp ↓] theorem State.dropWrites_fixed (s : State) (w : Nat) : (State.dropWrites s w).fixed = s.fixed := by
  unfold State.dropWrites
  repeat' (first | with_reducible rfl | with_reducible apply State.of_ite | with_reducible apply State.of_ite1 | with_reducible apply State.of_foldl | intro _ _ | (solve | simp (maxDischargeDepth := 80)) | dsimp only | split)
@[simp ↓] theorem State.applyCheckin_fixed (s : State) (w : Nat) (b : BitVec 16) : (State.applyCheckin s w b).fixed = s.fixed := by
  unfold State.applyCheckin
  repeat' (first | with_reducible rfl | with_reducible apply State.of_ite | with_reducible apply State.of_ite1 | with_reducible apply State.of_foldl | intro _ _ | (solve | simp (maxDischargeDepth := 80)))
@[simp ↓] theorem State.acceptService_fixed (s : State) (w : Nat) : (State.acceptService s w).fixed = s.fixed := by
  unfold State.acceptService
  repeat' (first | with_reducible rfl | with_reducible apply State.of_ite | with_reducible apply State.of_ite1 | with_reducible apply State.of_foldl | intro _ _ | (solve | simp (maxDischargeDepth := 80)))
@[simp ↓] theorem State.judgeKey_fixed (s : State) (w : Nat) (v : Word) : (State.judgeKey s w v).fixed = s.fixed := by
  unfold State.judgeKey
  repeat' (first | with_reducible rfl | with_reducible apply State.of_ite | with_reducible apply State.of_ite1 | with_reducible apply State.of_foldl | intro _ _ | (solve | simp (maxDischargeDepth := 80)))
@[simp ↓] theorem State.judgePeriod_fixed (s : State) (w : Nat) (p : BitVec 16) : (State.judgePeriod s w p).fixed = s.fixed := by
  unfold State.judgePeriod
  repeat' (first | with_reducible rfl | with_reducible apply State.of_ite | with_reducible apply State.of_ite1 | with_reducible apply State.of_foldl | intro _ _ | (solve | simp (maxDischargeDepth := 80)))
@[simp ↓] theorem State.judgeWrites_fixed (s : State) (w : Nat) : (State.judgeWrites s w).fixed = s.fixed := by
  unfold State.judgeWrites
  repeat' (first | with_reducible rfl | with_reducible apply State.of_ite | with_reducible apply State.of_ite1 | with_reducible apply State.of_foldl | intro _ _ | (solve | simp (maxDischargeDepth := 80)) | dsimp only | split)
@[simp ↓] theorem State.wdgExpire_fixed (s : State) (w : Nat) : (State.wdgExpire s w).fixed = s.fixed := by
  unfold State.wdgExpire
  repeat' (first | with_reducible rfl | with_reducible apply State.of_ite | with_reducible apply State.of_ite1 | with_reducible apply State.of_foldl | intro _ _ | (solve | simp (maxDischargeDepth := 80)))
@[simp ↓] theorem runWatchdogTick_fixed (w : Fin 8) (s : State) : (s.after (runWatchdogTick w s)).fixed = s.fixed := by
  unfold runWatchdogTick
  rw [State.after_next]
  repeat' (first | with_reducible rfl | with_reducible apply State.of_ite | with_reducible apply State.of_ite1 | with_reducible apply State.of_foldl | intro _ _ | (solve | simp (maxDischargeDepth := 80)) | dsimp only | split)
@[simp ↓] theorem State.wdgWrite_fixed (s : State) (w : Nat) (v : WdgWrite) : (State.wdgWrite s w v).fixed = s.fixed := by
  unfold State.wdgWrite
  repeat' (first | with_reducible rfl | with_reducible apply State.of_ite | with_reducible apply State.of_ite1 | with_reducible apply State.of_foldl | intro _ _ | (solve | simp (maxDischargeDepth := 80)))
@[simp ↓] theorem runWdgKey_fixed (x1 : Iface) (w : Fin 8) (key : Word) (s : State) : (s.after (runWdgKey x1 w key s)).fixed = s.fixed := by
  unfold runWdgKey
  rw [State.after_next]
  repeat' (first | with_reducible rfl | with_reducible apply State.of_ite | with_reducible apply State.of_ite1 | with_reducible apply State.of_foldl | intro _ _ | (solve | simp (maxDischargeDepth := 80)))
@[simp ↓] theorem runWdgCheckin_fixed (x1 : Iface) (w : Fin 8) (bits : BitVec 16) (s : State) : (s.after (runWdgCheckin x1 w bits s)).fixed = s.fixed := by
  unfold runWdgCheckin
  rw [State.after_next]
  repeat' (first | with_reducible rfl | with_reducible apply State.of_ite | with_reducible apply State.of_ite1 | with_reducible apply State.of_foldl | intro _ _ | (solve | simp (maxDischargeDepth := 80)))
@[simp ↓] theorem runWdgPeriodNew_fixed (x1 : Iface) (w : Fin 8) (p : BitVec 16) (s : State) : (s.after (runWdgPeriodNew x1 w p s)).fixed = s.fixed := by
  unfold runWdgPeriodNew
  rw [State.after_next]
  repeat' (first | with_reducible rfl | with_reducible apply State.of_ite | with_reducible apply State.of_ite1 | with_reducible apply State.of_foldl | intro _ _ | (solve | simp (maxDischargeDepth := 80)))
@[simp ↓] theorem runResetPulseEnd_fixed (w : Fin 8) (s : State) : (s.after (runResetPulseEnd w s)).fixed = s.fixed := by
  unfold runResetPulseEnd
  rw [State.after_next]
  repeat' (first | with_reducible rfl | with_reducible apply State.of_ite | with_reducible apply State.of_ite1 | with_reducible apply State.of_foldl | intro _ _ | (solve | simp (maxDischargeDepth := 80)))
@[simp ↓] theorem State.wdgAuto_fixed (s : State) : (State.wdgAuto s).fixed = s.fixed := by
  unfold State.wdgAuto
  repeat' (first | with_reducible rfl | with_reducible apply State.of_ite | with_reducible apply State.of_ite1 | with_reducible apply State.of_foldl | intro _ _ | (solve | simp (maxDischargeDepth := 80)))
@[simp ↓] theorem State.updReject_fixed (s : State) : (State.updReject s).fixed = s.fixed := by
  unfold State.updReject
  repeat' (first | with_reducible rfl | with_reducible apply State.of_ite | with_reducible apply State.of_ite1 | with_reducible apply State.of_foldl | intro _ _ | (solve | simp (maxDischargeDepth := 80)))
@[simp ↓] theorem State.updOpen_fixed (s : State) (src : Src) : (State.updOpen s src).fixed = s.fixed := by
  unfold State.updOpen
  repeat' (first | with_reducible rfl | with_reducible apply State.of_ite | with_reducible apply State.of_ite1 | with_reducible apply State.of_foldl | intro _ _ | (solve | simp (maxDischargeDepth := 80)))
@[simp ↓] theorem State.updVerify_fixed (s : State) (src : Src) : (State.updVerify s src).fixed = s.fixed := by
  unfold State.updVerify
  repeat' (first | with_reducible rfl | with_reducible apply State.of_ite | with_reducible apply State.of_ite1 | with_reducible apply State.of_foldl | intro _ _ | (solve | simp (maxDischargeDepth := 80)))
@[simp ↓] theorem State.updReady_fixed (s : State) : (State.updReady s).fixed = s.fixed := by
  unfold State.updReady
  repeat' (first | with_reducible rfl | with_reducible apply State.of_ite | with_reducible apply State.of_ite1 | with_reducible apply State.of_foldl | intro _ _ | (solve | simp (maxDischargeDepth := 80)))
@[simp ↓] theorem runVerifyDone_fixed (s : State) : (s.after (runVerifyDone s)).fixed = s.fixed := by
  unfold runVerifyDone
  rw [State.after_next]
  repeat' (first | with_reducible rfl | with_reducible apply State.of_ite | with_reducible apply State.of_ite1 | with_reducible apply State.of_foldl | intro _ _ | (solve | simp (maxDischargeDepth := 80)) | dsimp only | split)
@[simp ↓] theorem State.copyFailed_fixed (s : State) (n : Nat) : (State.copyFailed s n).fixed = s.fixed := by
  unfold State.copyFailed
  repeat' (first | with_reducible rfl | with_reducible apply State.of_ite | with_reducible apply State.of_ite1 | with_reducible apply State.of_foldl | intro _ _ | (solve | simp (maxDischargeDepth := 80)))
@[simp ↓] theorem runCopyDone_fixed (fail : CopyFail) (s : State) : (s.after (runCopyDone fail s)).fixed = s.fixed := by
  unfold runCopyDone
  rw [State.after_next]
  repeat' (first | with_reducible rfl | with_reducible apply State.of_ite | with_reducible apply State.of_ite1 | with_reducible apply State.of_foldl | intro _ _ | (solve | simp (maxDischargeDepth := 80)) | dsimp only | split)
@[simp ↓] theorem State.actRefuse_fixed (s : State) (cause : Nat) : (State.actRefuse s cause).fixed = s.fixed := by
  unfold State.actRefuse
  repeat' (first | with_reducible rfl | with_reducible apply State.of_ite | with_reducible apply State.of_ite1 | with_reducible apply State.of_foldl | intro _ _ | (solve | simp (maxDischargeDepth := 80)))
@[simp ↓] theorem State.updActivate_fixed (s : State) (src : Src) : (State.updActivate s src).fixed = s.fixed := by
  unfold State.updActivate
  repeat' (first | with_reducible rfl | with_reducible apply State.of_ite | with_reducible apply State.of_ite1 | with_reducible apply State.of_foldl | intro _ _ | (solve | simp (maxDischargeDepth := 80)) | dsimp only | split)
@[simp ↓] theorem State.updAbort_fixed (s : State) (src : Src) : (State.updAbort s src).fixed = s.fixed := by
  unfold State.updAbort
  repeat' (first | with_reducible rfl | with_reducible apply State.of_ite | with_reducible apply State.of_ite1 | with_reducible apply State.of_foldl | intro _ _ | (solve | simp (maxDischargeDepth := 80)) | (solve | simp only [State.modGlb_fixed, State.modOtp_fixed, State.modLed_fixed, State.modPipe_fixed, State.modUpd_fixed, State.modLace_fixed, State.pulseSrc_fixed]))
@[simp ↓] theorem runOpenSession_fixed (src : Src) (s : State) : (s.after (runOpenSession src s)).fixed = s.fixed := by
  unfold runOpenSession
  rw [State.after_next]
  repeat' (first | with_reducible rfl | with_reducible apply State.of_ite | with_reducible apply State.of_ite1 | with_reducible apply State.of_foldl | intro _ _ | (solve | simp (maxDischargeDepth := 80)))
@[simp ↓] theorem runVerify_fixed (src : Src) (s : State) : (s.after (runVerify src s)).fixed = s.fixed := by
  unfold runVerify
  rw [State.after_next]
  repeat' (first | with_reducible rfl | with_reducible apply State.of_ite | with_reducible apply State.of_ite1 | with_reducible apply State.of_foldl | intro _ _ | (solve | simp (maxDischargeDepth := 80)))
@[simp ↓] theorem runActivate_fixed (src : Src) (s : State) : (s.after (runActivate src s)).fixed = s.fixed := by
  unfold runActivate
  rw [State.after_next]
  repeat' (first | with_reducible rfl | with_reducible apply State.of_ite | with_reducible apply State.of_ite1 | with_reducible apply State.of_foldl | intro _ _ | (solve | simp (maxDischargeDepth := 80)))
@[simp ↓] theorem runAbort_fixed (src : Src) (s : State) : (s.after (runAbort src s)).fixed = s.fixed := by
  unfold runAbort
  rw [State.after_next]
  repeat' (first | with_reducible rfl | with_reducible apply State.of_ite | with_reducible apply State.of_ite1 | with_reducible apply State.of_foldl | intro _ _ | (solve | simp (maxDischargeDepth := 80)))
@[simp ↓] theorem State.updLock_fixed (s : State) (i : Iface) (on : Bool) : (s.updLock i on).fixed = s.fixed := by
  unfold State.updLock
  split
  · rename_i t ht
    simp [State.useAuth_fixed _ _ _ _ _ ht]
  · simp
@[simp ↓] theorem runLock_fixed (i : Iface) (s : State) : (s.after (runLock i s)).fixed = s.fixed := by
  unfold runLock
  rw [State.after_next]
  repeat' (first | with_reducible rfl | with_reducible apply State.of_ite | with_reducible apply State.of_ite1 | with_reducible apply State.of_foldl | intro _ _ | (solve | simp (maxDischargeDepth := 80)))
@[simp ↓] theorem runUnlock_fixed (i : Iface) (s : State) : (s.after (runUnlock i s)).fixed = s.fixed := by
  unfold runUnlock
  rw [State.after_next]
  repeat' (first | with_reducible rfl | with_reducible apply State.of_ite | with_reducible apply State.of_ite1 | with_reducible apply State.of_foldl | intro _ _ | (solve | simp (maxDischargeDepth := 80)))
@[simp ↓] theorem runBlockIndex_fixed (i : Iface) (k : BitVec 9) (s : State) : (s.after (runBlockIndex i k s)).fixed = s.fixed := by
  unfold runBlockIndex
  rw [State.after_next]
  repeat' (first | with_reducible rfl | with_reducible apply State.of_ite | with_reducible apply State.of_ite1 | with_reducible apply State.of_foldl | intro _ _ | (solve | simp (maxDischargeDepth := 80)))
@[simp ↓] theorem runBlockData_fixed (i : Iface) (w : Word) (s : State) : (s.after (runBlockData i w s)).fixed = s.fixed := by
  unfold runBlockData
  rw [State.after_next]
  repeat' (first | with_reducible rfl | with_reducible apply State.of_ite | with_reducible apply State.of_ite1 | with_reducible apply State.of_foldl | intro _ _ | (solve | simp (maxDischargeDepth := 80)))
@[simp ↓] theorem State.storeBlock_fixed (s : State) (b : List Byte) (crc : Nat) : (State.storeBlock s b crc).fixed = s.fixed := by
  unfold State.storeBlock
  repeat' (first | with_reducible rfl | with_reducible apply State.of_ite | with_reducible apply State.of_ite1 | with_reducible apply State.of_foldl | intro _ _ | (solve | simp (maxDischargeDepth := 80)))
@[simp ↓] theorem runBlockCrc_fixed (i : Iface) (crc : Word) (s : State) : (s.after (runBlockCrc i crc s)).fixed = s.fixed := by
  unfold runBlockCrc
  rw [State.after_next]
  repeat' (first | with_reducible rfl | with_reducible apply State.of_ite | with_reducible apply State.of_ite1 | with_reducible apply State.of_foldl | intro _ _ | (solve | simp (maxDischargeDepth := 80)))
@[simp ↓] theorem State.sendBulk_fixed (s : State) (e : Nat) (dst : Fin 64) (src : Fin 64) (kind : Nat) (ofs : Nat) (d : List Byte) : (State.sendBulk s e dst src kind ofs d).fixed = s.fixed := by
  unfold State.sendBulk
  repeat' (first | with_reducible rfl | with_reducible apply State.of_ite | with_reducible apply State.of_ite1 | with_reducible apply State.of_foldl | intro _ _ | (solve | simp (maxDischargeDepth := 80)))
@[simp ↓] theorem State.remoteCmd_fixed (s : State) (sl : Nat) (code : Nat) : (State.remoteCmd s sl code).fixed = s.fixed := by
  unfold State.remoteCmd
  repeat' (first | with_reducible rfl | with_reducible apply State.of_ite | with_reducible apply State.of_ite1 | with_reducible apply State.of_foldl | intro _ _ | (solve | simp (maxDischargeDepth := 80)))
@[simp ↓] theorem State.remStage_fixed (s : State) (sl : Nat) : (State.remStage s sl).fixed = s.fixed := by
  unfold State.remStage
  repeat' (first | with_reducible rfl | with_reducible apply State.of_ite | with_reducible apply State.of_ite1 | with_reducible apply State.of_foldl | intro _ _ | (solve | simp (maxDischargeDepth := 80)))
@[simp ↓] theorem runRemoteStage_fixed (x1 : Iface) (sl : Fin 64) (s : State) : (s.after (runRemoteStage x1 sl s)).fixed = s.fixed := by
  unfold runRemoteStage
  rw [State.after_next]
  repeat' (first | with_reducible rfl | with_reducible apply State.of_ite | with_reducible apply State.of_ite1 | with_reducible apply State.of_foldl | intro _ _ | (solve | simp (maxDischargeDepth := 80)))
@[simp ↓] theorem State.remCmd_fixed (s : State) (code : Nat) : (State.remCmd s code).fixed = s.fixed := by
  unfold State.remCmd
  repeat' (first | with_reducible rfl | with_reducible apply State.of_ite | with_reducible apply State.of_ite1 | with_reducible apply State.of_foldl | intro _ _ | (solve | simp (maxDischargeDepth := 80)))
@[simp ↓] theorem runRemoteActivate_fixed (x1 : Iface) (s : State) : (s.after (runRemoteActivate x1 s)).fixed = s.fixed := by
  unfold runRemoteActivate
  rw [State.after_next]
  repeat' (first | with_reducible rfl | with_reducible apply State.of_ite | with_reducible apply State.of_ite1 | with_reducible apply State.of_foldl | intro _ _ | (solve | simp (maxDischargeDepth := 80)))
@[simp ↓] theorem runRemoteAbort_fixed (x1 : Iface) (s : State) : (s.after (runRemoteAbort x1 s)).fixed = s.fixed := by
  unfold runRemoteAbort
  rw [State.after_next]
  repeat' (first | with_reducible rfl | with_reducible apply State.of_ite | with_reducible apply State.of_ite1 | with_reducible apply State.of_foldl | intro _ _ | (solve | simp (maxDischargeDepth := 80)))
@[simp ↓] theorem State.parentUpdate_fixed (s : State) (e : Nat) (code : Nat) : (State.parentUpdate s e code).fixed = s.fixed := by
  unfold State.parentUpdate
  repeat' (first | with_reducible rfl | with_reducible apply State.of_ite | with_reducible apply State.of_ite1 | with_reducible apply State.of_foldl | intro _ _ | (solve | simp (maxDischargeDepth := 80)) | dsimp only | split)
@[simp ↓] theorem State.parentBlock_fixed (s : State) (ofs : Nat) (d : List Byte) : (State.parentBlock s ofs d).fixed = s.fixed := by
  unfold State.parentBlock
  repeat' (first | with_reducible rfl | with_reducible apply State.of_ite | with_reducible apply State.of_ite1 | with_reducible apply State.of_foldl | intro _ _ | (solve | simp (maxDischargeDepth := 80)))
@[simp ↓] theorem State.updAnswer_fixed (s : State) (slot : Nat) (d : List Byte) : (State.updAnswer s slot d).fixed = s.fixed := by
  unfold State.updAnswer
  repeat' (first | with_reducible rfl | with_reducible apply State.of_ite | with_reducible apply State.of_ite1 | with_reducible apply State.of_foldl | intro _ _ | (solve | simp (maxDischargeDepth := 80)))
@[simp ↓] theorem State.flushList_fixed (failAt : Option Nat) (k : Nat) (l : List Record) (s : State) : (State.flushList failAt k l s).fixed = s.fixed := by
  induction l generalizing s k with
  | nil => rfl
  | cons r t ih =>
    simp only [State.flushList]
    split
    · simp
    · split <;> simp [ih]
@[simp ↓] theorem State.flushRun_fixed (s : State) (failAt : Option Nat) : (State.flushRun s failAt).fixed = s.fixed := by
  unfold State.flushRun
  repeat' (first | with_reducible rfl | with_reducible apply State.of_ite | with_reducible apply State.of_ite1 | with_reducible apply State.of_foldl | intro _ _ | (solve | simp (maxDischargeDepth := 80)))
@[simp ↓] theorem runFlush_fixed (failAt : Option Nat) (s : State) : (s.after (runFlush failAt s)).fixed = s.fixed := by
  unfold runFlush
  rw [State.after_next]
  repeat' (first | with_reducible rfl | with_reducible apply State.of_ite | with_reducible apply State.of_ite1 | with_reducible apply State.of_foldl | intro _ _ | (solve | simp (maxDischargeDepth := 80)))
@[simp ↓] theorem State.flushAsk_fixed (s : State) : (State.flushAsk s).fixed = s.fixed := by
  unfold State.flushAsk
  repeat' (first | with_reducible rfl | with_reducible apply State.of_ite | with_reducible apply State.of_ite1 | with_reducible apply State.of_foldl | intro _ _ | (solve | simp (maxDischargeDepth := 80)))
@[simp ↓] theorem runRecFlush_fixed (x1 : Iface) (s : State) : (s.after (runRecFlush x1 s)).fixed = s.fixed := by
  unfold runRecFlush
  rw [State.after_next]
  repeat' (first | with_reducible rfl | with_reducible apply State.of_ite | with_reducible apply State.of_ite1 | with_reducible apply State.of_foldl | intro _ _ | (solve | simp (maxDischargeDepth := 80)))
@[simp ↓] theorem State.seekStart_fixed (s : State) (i : Iface) (k : Word) : (State.seekStart s i k).fixed = s.fixed := by
  unfold State.seekStart
  repeat' (first | with_reducible rfl | with_reducible apply State.of_ite | with_reducible apply State.of_ite1 | with_reducible apply State.of_foldl | intro _ _ | (solve | simp (maxDischargeDepth := 80)))
@[simp ↓] theorem runRecordSeek_fixed (i : Iface) (k : Word) (s : State) : (s.after (runRecordSeek i k s)).fixed = s.fixed := by
  unfold runRecordSeek
  rw [State.after_next]
  repeat' (first | with_reducible rfl | with_reducible apply State.of_ite | with_reducible apply State.of_ite1 | with_reducible apply State.of_foldl | intro _ _ | (solve | simp (maxDischargeDepth := 80)))
@[simp ↓] theorem runSeekComplete_fixed (i : Iface) (s : State) : (s.after (runSeekComplete i s)).fixed = s.fixed := by
  unfold runSeekComplete
  rw [State.after_next]
  repeat' (first | with_reducible rfl | with_reducible apply State.of_ite | with_reducible apply State.of_ite1 | with_reducible apply State.of_foldl | intro _ _ | (solve | simp (maxDischargeDepth := 80)) | dsimp only | split)
@[simp ↓] theorem State.recRead_fixed (s : State) (i : Iface) (bad : Bool) : (State.recRead s i bad).2.fixed = s.fixed := by
  unfold State.recRead
  repeat' (first | with_reducible rfl | with_reducible apply State.of_ite | with_reducible apply State.of_ite1 | with_reducible apply State.of_foldl | intro _ _ | (solve | simp (maxDischargeDepth := 80)) | dsimp only | split)
@[simp ↓] theorem runRecordRead_fixed (i : Iface) (bad : Bool) (s : State) : (s.after (runRecordRead i bad s)).fixed = s.fixed := by
  unfold runRecordRead
  rw [State.after_next]
  repeat' (first | with_reducible rfl | with_reducible apply State.of_ite | with_reducible apply State.of_ite1 | with_reducible apply State.of_foldl | intro _ _ | (solve | simp (maxDischargeDepth := 80)))
@[simp ↓] theorem State.ackRec_fixed (s : State) (k : Word) : (State.ackRec s k).fixed = s.fixed := by
  unfold State.ackRec
  repeat' (first | with_reducible rfl | with_reducible apply State.of_ite | with_reducible apply State.of_ite1 | with_reducible apply State.of_foldl | intro _ _ | (solve | simp (maxDischargeDepth := 80)))
@[simp ↓] theorem runRecordAck_fixed (x1 : Iface) (k : Word) (s : State) : (s.after (runRecordAck x1 k s)).fixed = s.fixed := by
  unfold runRecordAck
  rw [State.after_next]
  repeat' (first | with_reducible rfl | with_reducible apply State.of_ite | with_reducible apply State.of_ite1 | with_reducible apply State.of_foldl | intro _ _ | (solve | simp (maxDischargeDepth := 80)))
@[simp ↓] theorem State.freezeOn_fixed (s : State) (i : Iface) : (State.freezeOn s i).fixed = s.fixed := by
  unfold State.freezeOn
  repeat' (first | with_reducible rfl | with_reducible apply State.of_ite | with_reducible apply State.of_ite1 | with_reducible apply State.of_foldl | intro _ _ | (solve | simp (maxDischargeDepth := 80)))
@[simp ↓] theorem State.freezeOff_fixed (s : State) (i : Iface) : (State.freezeOff s i).fixed = s.fixed := by
  unfold State.freezeOff
  repeat' (first | with_reducible rfl | with_reducible apply State.of_ite | with_reducible apply State.of_ite1 | with_reducible apply State.of_foldl | intro _ _ | (solve | simp (maxDischargeDepth := 80)) | dsimp only | split)
@[simp ↓] theorem State.freezeLose_fixed (s : State) : (State.freezeLose s).fixed = s.fixed := by
  unfold State.freezeLose
  repeat' (first | with_reducible rfl | with_reducible apply State.of_ite | with_reducible apply State.of_ite1 | with_reducible apply State.of_foldl | intro _ _ | (solve | simp (maxDischargeDepth := 80)))
@[simp ↓] theorem runFreezeBegin_fixed (i : Iface) (s : State) : (s.after (runFreezeBegin i s)).fixed = s.fixed := by
  unfold runFreezeBegin
  rw [State.after_next]
  repeat' (first | with_reducible rfl | with_reducible apply State.of_ite | with_reducible apply State.of_ite1 | with_reducible apply State.of_foldl | intro _ _ | (solve | simp (maxDischargeDepth := 80)))
@[simp ↓] theorem runFreezeEnd_fixed (i : Iface) (s : State) : (s.after (runFreezeEnd i s)).fixed = s.fixed := by
  unfold runFreezeEnd
  rw [State.after_next]
  repeat' (first | with_reducible rfl | with_reducible apply State.of_ite | with_reducible apply State.of_ite1 | with_reducible apply State.of_foldl | intro _ _ | (solve | simp (maxDischargeDepth := 80)))
@[simp ↓] theorem runFreezeTimeout_fixed (s : State) : (s.after (runFreezeTimeout s)).fixed = s.fixed := by
  unfold runFreezeTimeout
  rw [State.after_next]
  repeat' (first | with_reducible rfl | with_reducible apply State.of_ite | with_reducible apply State.of_ite1 | with_reducible apply State.of_foldl | intro _ _ | (solve | simp (maxDischargeDepth := 80)))
@[simp ↓] theorem State.remRead_fixed (s : State) (sl : Nat) : (State.remRead s sl).fixed = s.fixed := by
  unfold State.remRead
  repeat' (first | with_reducible rfl | with_reducible apply State.of_ite | with_reducible apply State.of_ite1 | with_reducible apply State.of_foldl | intro _ _ | (solve | simp (maxDischargeDepth := 80)))
@[simp ↓] theorem runRemoteReadRequest_fixed (x1 : Iface) (sl : Fin 64) (s : State) : (s.after (runRemoteReadRequest x1 sl s)).fixed = s.fixed := by
  unfold runRemoteReadRequest
  rw [State.after_next]
  repeat' (first | with_reducible rfl | with_reducible apply State.of_ite | with_reducible apply State.of_ite1 | with_reducible apply State.of_foldl | intro _ _ | (solve | simp (maxDischargeDepth := 80)))
@[simp ↓] theorem State.remAnswer_fixed (s : State) (e ofs : Nat) : (s.remAnswer e ofs).fixed = s.fixed := by
  have hf : ∀ (l : List (List Byte)) (x : State × Nat), (l.foldl (fun (x : State × Nat) p => (x.1.sendBulk e 0 x.1.mySlotUp 1 x.2 p, x.2 + p.length)) x).1.fixed = x.1.fixed := by
    intro l
    induction l with
    | nil => intro x; rfl
    | cons p t ih => intro x; rw [List.foldl_cons, ih]; simp
  unfold State.remAnswer
  extract_lets s1 recs parts
  have h1 : s1.fixed = s.fixed := by simp only [s1]; split <;> simp
  simp [hf, h1]
@[simp ↓] theorem State.remReceive_fixed (s : State) (d : List Byte) : (State.remReceive s d).fixed = s.fixed := by
  unfold State.remReceive
  repeat' (first | with_reducible rfl | with_reducible apply State.of_ite | with_reducible apply State.of_ite1 | with_reducible apply State.of_foldl | intro _ _ | (solve | simp (maxDischargeDepth := 80)))
@[simp ↓] theorem State.remData_fixed (s : State) : (State.remData s).2.fixed = s.fixed := by
  unfold State.remData
  repeat' (first | with_reducible rfl | with_reducible apply State.of_ite | with_reducible apply State.of_ite1 | with_reducible apply State.of_foldl | intro _ _ | (solve | simp (maxDischargeDepth := 80)))
@[simp ↓] theorem runRemoteDataRead_fixed (i : Iface) (s : State) : (s.after (runRemoteDataRead i s)).fixed = s.fixed := by
  unfold runRemoteDataRead
  rw [State.after_next]
  repeat' (first | with_reducible rfl | with_reducible apply State.of_ite | with_reducible apply State.of_ite1 | with_reducible apply State.of_foldl | intro _ _ | (solve | simp (maxDischargeDepth := 80)))
@[simp ↓] theorem State.recClear_fixed (s : State) (i : Iface) (ticket : Word) : (s.recClear i ticket).fixed = s.fixed := by
  unfold State.recClear
  extract_lets key
  split
  · simp
  · rename_i t ht
    have h0 : t.fixed = s.fixed := by
      split at ht
      · exact State.useAuth_fixed _ _ _ _ _ ht
      · cases ht
    rw [State.raiseEvt_fixed, State.ringWrite_fixed, State.modRec_fixed]
    repeat' split
    all_goals simp [h0]
@[simp ↓] theorem runRecorderClear_fixed (i : Iface) (ticket : Word) (s : State) : (s.after (runRecorderClear i ticket s)).fixed = s.fixed := by
  unfold runRecorderClear
  rw [State.after_next]
  repeat' (first | with_reducible rfl | with_reducible apply State.of_ite | with_reducible apply State.of_ite1 | with_reducible apply State.of_foldl | intro _ _ | (solve | simp (maxDischargeDepth := 80)))
@[simp ↓] theorem State.snapWrite_fixed (s : State) : (State.snapWrite s).fixed = s.fixed := by
  unfold State.snapWrite
  repeat' (first | with_reducible rfl | with_reducible apply State.of_ite | with_reducible apply State.of_ite1 | with_reducible apply State.of_foldl | intro _ _ | (solve | simp (maxDischargeDepth := 80)) | dsimp only | split)
@[simp ↓] theorem State.storeMv_fixed (s : State) (mv : SupplyMv) : (State.storeMv s mv).fixed = s.fixed := by
  unfold State.storeMv
  repeat' (first | with_reducible rfl | with_reducible apply State.of_ite | with_reducible apply State.of_ite1 | with_reducible apply State.of_foldl | intro _ _ | (solve | simp (maxDischargeDepth := 80)) | dsimp only | split)
@[simp ↓] theorem State.snapCapture_fixed (s : State) (cause : Nat) (forPf : Bool) (mv : SupplyMv) : (State.snapCapture s cause forPf mv).fixed = s.fixed := by
  unfold State.snapCapture
  repeat' (first | with_reducible rfl | with_reducible apply State.of_ite | with_reducible apply State.of_ite1 | with_reducible apply State.of_foldl | intro _ _ | (solve | simp (maxDischargeDepth := 80)))
@[simp ↓] theorem State.wmWrite_fixed (s : State) : (State.wmWrite s).fixed = s.fixed := by
  unfold State.wmWrite
  repeat' (first | with_reducible rfl | with_reducible apply State.of_ite | with_reducible apply State.of_ite1 | with_reducible apply State.of_foldl | intro _ _ | (solve | simp (maxDischargeDepth := 80)))
@[simp ↓] theorem State.powerFail_fixed (s : State) (mv : SupplyMv) : (State.powerFail s mv).fixed = s.fixed := by
  unfold State.powerFail
  extract_lets a cause b
  have ha : a.fixed = s.fixed := by unfold a; rw [State.modSeq_fixed, State.wmWrite_fixed]
  have hb : b.fixed = s.fixed := by
    unfold b
    split
    · rw [State.gaugeStore_fixed, ha]
    · exact ha
  rw [State.raiseEvt_fixed, State.snapCapture_fixed, State.freezeLose_fixed, hb]
@[simp ↓] theorem runInputLost_fixed (b : Bool) (mv : SupplyMv) (s : State) : (s.after (runInputLost b mv s)).fixed = s.fixed := by
  unfold runInputLost
  rw [State.after_next]
  repeat' (first | with_reducible rfl | with_reducible apply State.of_ite | with_reducible apply State.of_ite1 | with_reducible apply State.of_foldl | intro _ _ | (solve | simp (maxDischargeDepth := 80)) | dsimp only | split)
@[simp ↓] theorem runInputReturn_fixed (b : Bool) (s : State) : (s.after (runInputReturn b s)).fixed = s.fixed := by
  unfold runInputReturn
  rw [State.after_next]
  repeat' (first | with_reducible rfl | with_reducible apply State.of_ite | with_reducible apply State.of_ite1 | with_reducible apply State.of_foldl | intro _ _ | (solve | simp (maxDischargeDepth := 80)))
@[simp ↓] theorem runInputsStable_fixed (s : State) : (s.after (runInputsStable s)).fixed = s.fixed := by
  unfold runInputsStable
  rw [State.after_next]
  repeat' (first | with_reducible rfl | with_reducible apply State.of_ite | with_reducible apply State.of_ite1 | with_reducible apply State.of_foldl | intro _ _ | (solve | simp (maxDischargeDepth := 80)))
@[simp ↓] theorem State.snapCommand_fixed (s : State) (mv : SupplyMv) : (State.snapCommand s mv).fixed = s.fixed := by
  unfold State.snapCommand
  repeat' (first | with_reducible rfl | with_reducible apply State.of_ite | with_reducible apply State.of_ite1 | with_reducible apply State.of_foldl | intro _ _ | (solve | simp (maxDischargeDepth := 80)))
@[simp ↓] theorem runSnapshotCommand_fixed (x1 : Iface) (mv : SupplyMv) (s : State) : (s.after (runSnapshotCommand x1 mv s)).fixed = s.fixed := by
  unfold runSnapshotCommand
  rw [State.after_next]
  repeat' (first | with_reducible rfl | with_reducible apply State.of_ite | with_reducible apply State.of_ite1 | with_reducible apply State.of_foldl | intro _ _ | (solve | simp (maxDischargeDepth := 80)))
@[simp ↓] theorem runSnapshotWritten_fixed (s : State) : (s.after (runSnapshotWritten s)).fixed = s.fixed := by
  unfold runSnapshotWritten
  rw [State.after_next]
  repeat' (first | with_reducible rfl | with_reducible apply State.of_ite | with_reducible apply State.of_ite1 | with_reducible apply State.of_foldl | intro _ _ | (solve | simp (maxDischargeDepth := 80)))
@[simp ↓] theorem runKeepAliveCrossing_fixed (up : Bool) (mv : SupplyMv) (s : State) : (s.after (runKeepAliveCrossing up mv s)).fixed = s.fixed := by
  unfold runKeepAliveCrossing
  rw [State.after_next]
  repeat' (first | with_reducible rfl | with_reducible apply State.of_ite | with_reducible apply State.of_ite1 | with_reducible apply State.of_foldl | intro _ _ | (solve | simp (maxDischargeDepth := 80)))
@[simp ↓] theorem runVholdHoldCrossing_fixed (up : Bool) (s : State) : (s.after (runVholdHoldCrossing up s)).fixed = s.fixed := by
  unfold runVholdHoldCrossing
  rw [State.after_next]
  repeat' (first | with_reducible rfl | with_reducible apply State.of_ite | with_reducible apply State.of_ite1 | with_reducible apply State.of_foldl | intro _ _ | (solve | simp (maxDischargeDepth := 80)))
@[simp ↓] theorem State.helloOut_fixed (s : State) (e : Nat) : (State.helloOut s e).fixed = s.fixed := by
  unfold State.helloOut
  repeat' (first | with_reducible rfl | with_reducible apply State.of_ite | with_reducible apply State.of_ite1 | with_reducible apply State.of_foldl | intro _ _ | (solve | simp (maxDischargeDepth := 80)))
@[simp ↓] theorem State.helloAll_fixed (s : State) : (State.helloAll s).fixed = s.fixed := by
  unfold State.helloAll
  repeat' (first | with_reducible rfl | with_reducible apply State.of_ite | with_reducible apply State.of_ite1 | with_reducible apply State.of_foldl | intro _ _ | (solve | simp (maxDischargeDepth := 80)))
@[simp ↓] theorem State.loseParent_fixed (s : State) : (State.loseParent s).fixed = s.fixed := by
  unfold State.loseParent
  repeat' (first | with_reducible rfl | with_reducible apply State.of_ite | with_reducible apply State.of_ite1 | with_reducible apply State.of_foldl | intro _ _ | (solve | simp (maxDischargeDepth := 80)) | dsimp only | split)
@[simp ↓] theorem State.slotsLost_fixed (s : State) (l : List Nat) : (State.slotsLost s l).fixed = s.fixed := by
  unfold State.slotsLost
  repeat' (first | with_reducible rfl | with_reducible apply State.of_ite | with_reducible apply State.of_ite1 | with_reducible apply State.of_foldl | intro _ _ | (solve | simp (maxDischargeDepth := 80)) | dsimp only | split)
@[simp ↓] theorem State.eyeDown_fixed (s : State) (e : Nat) : (State.eyeDown s e).fixed = s.fixed := by
  unfold State.eyeDown
  repeat' (first | with_reducible rfl | with_reducible apply State.of_ite | with_reducible apply State.of_ite1 | with_reducible apply State.of_foldl | intro _ _ | (solve | simp (maxDischargeDepth := 80)))
@[simp ↓] theorem runEyeletLock_fixed (e : Fin 4) (s : State) : (s.after (runEyeletLock e s)).fixed = s.fixed := by
  unfold runEyeletLock
  rw [State.after_next]
  repeat' (first | with_reducible rfl | with_reducible apply State.of_ite | with_reducible apply State.of_ite1 | with_reducible apply State.of_foldl | intro _ _ | (solve | simp (maxDischargeDepth := 80)))
@[simp ↓] theorem runEyeletLockLoss_fixed (e : Fin 4) (s : State) : (s.after (runEyeletLockLoss e s)).fixed = s.fixed := by
  unfold runEyeletLockLoss
  rw [State.after_next]
  repeat' (first | with_reducible rfl | with_reducible apply State.of_ite | with_reducible apply State.of_ite1 | with_reducible apply State.of_foldl | intro _ _ | (solve | simp (maxDischargeDepth := 80)))
@[simp ↓] theorem runHelloTimeout_fixed (e : Fin 4) (s : State) : (s.after (runHelloTimeout e s)).fixed = s.fixed := by
  unfold runHelloTimeout
  rw [State.after_next]
  repeat' (first | with_reducible rfl | with_reducible apply State.of_ite | with_reducible apply State.of_ite1 | with_reducible apply State.of_foldl | intro _ _ | (solve | simp (maxDischargeDepth := 80)))
@[simp ↓] theorem runHelloSend_fixed (e : Fin 4) (s : State) : (s.after (runHelloSend e s)).fixed = s.fixed := by
  unfold runHelloSend
  rw [State.after_next]
  repeat' (first | with_reducible rfl | with_reducible apply State.of_ite | with_reducible apply State.of_ite1 | with_reducible apply State.of_foldl | intro _ _ | (solve | simp (maxDischargeDepth := 80)))
@[simp ↓] theorem State.raiseAbove_fixed (s : State) (n : ℕ) : (State.raiseAbove s n).fixed = s.fixed := by
  unfold State.raiseAbove
  repeat' (first | with_reducible rfl | with_reducible apply State.of_ite | with_reducible apply State.of_ite1 | with_reducible apply State.of_foldl | intro _ _ | (solve | simp (maxDischargeDepth := 80)) | dsimp only | split)
@[simp ↓] theorem runHello_fixed (e : Fin 4) (h : Hello) (arrival : BitVec 16) (s : State) : (s.after (runHello e h arrival s)).fixed = s.fixed := by
  unfold runHello
  rw [State.after_next]
  repeat' (first | with_reducible rfl | with_reducible apply State.of_ite | with_reducible apply State.of_ite1 | with_reducible apply State.of_foldl | intro _ _ | (solve | simp (maxDischargeDepth := 80)))
@[simp ↓] theorem runLinkSend_fixed (e : Fin 4) (s : State) : (s.after (runLinkSend e s)).fixed = s.fixed := by
  unfold runLinkSend
  rw [State.after_next]
  repeat' (first | with_reducible rfl | with_reducible apply State.of_ite | with_reducible apply State.of_ite1 | with_reducible apply State.of_foldl | intro _ _ | (solve | simp (maxDischargeDepth := 80)))
@[simp ↓] theorem runLink_fixed (e : Fin 4) (ack : Byte) (nak : Bool) (credits : List Byte) (s : State) : (s.after (runLink e ack nak credits s)).fixed = s.fixed := by
  unfold runLink
  rw [State.after_next]
  repeat' (first | with_reducible rfl | with_reducible apply State.of_ite | with_reducible apply State.of_ite1 | with_reducible apply State.of_foldl | intro _ _ | (solve | simp (maxDischargeDepth := 80)))
@[simp ↓] theorem runFrameDiscard_fixed (e : Fin 4) (s : State) : (s.after (runFrameDiscard e s)).fixed = s.fixed := by
  unfold runFrameDiscard
  rw [State.after_next]
  repeat' (first | with_reducible rfl | with_reducible apply State.of_ite | with_reducible apply State.of_ite1 | with_reducible apply State.of_foldl | intro _ _ | (solve | simp (maxDischargeDepth := 80)))
@[simp ↓] theorem runSequenceReject_fixed (e : Fin 4) (s : State) : (s.after (runSequenceReject e s)).fixed = s.fixed := by
  unfold runSequenceReject
  rw [State.after_next]
  repeat' (first | with_reducible rfl | with_reducible apply State.of_ite | with_reducible apply State.of_ite1 | with_reducible apply State.of_foldl | intro _ _ | (solve | simp (maxDischargeDepth := 80)))
@[simp ↓] theorem runResendTimeout_fixed (e : Fin 4) (s : State) : (s.after (runResendTimeout e s)).fixed = s.fixed := by
  unfold runResendTimeout
  rw [State.after_next]
  repeat' (first | with_reducible rfl | with_reducible apply State.of_ite | with_reducible apply State.of_ite1 | with_reducible apply State.of_foldl | intro _ _ | (solve | simp (maxDischargeDepth := 80)))
@[simp ↓] theorem runCreditTimeout_fixed (e : Fin 4) (cls : Fin 4) (s : State) : (s.after (runCreditTimeout e cls s)).fixed = s.fixed := by
  unfold runCreditTimeout
  rw [State.after_next]
  repeat' (first | with_reducible rfl | with_reducible apply State.of_ite | with_reducible apply State.of_ite1 | with_reducible apply State.of_foldl | intro _ _ | (solve | simp (maxDischargeDepth := 80)))
@[simp ↓] theorem State.recvFrame_fixed (s : State) (e : Nat) (k : FrameKind) : (State.recvFrame s e k).fixed = s.fixed := by
  unfold State.recvFrame
  repeat' (first | with_reducible rfl | with_reducible apply State.of_ite | with_reducible apply State.of_ite1 | with_reducible apply State.of_foldl | intro _ _ | (solve | simp (maxDischargeDepth := 80)))
@[simp ↓] theorem State.pathNote_fixed (s : State) (e : ℕ) (uid : BitVec 64) (hops : ℕ) (gh : Bool) : (State.pathNote s e uid hops gh).fixed = s.fixed := by
  unfold State.pathNote
  repeat' (first | with_reducible rfl | with_reducible apply State.of_ite | with_reducible apply State.of_ite1 | with_reducible apply State.of_foldl | intro _ _ | (solve | simp (maxDischargeDepth := 80)) | dsimp only | split)
@[simp ↓] theorem State.setPasses_fixed (s : State) (sl : ℕ) (last : Bool) (full : Bool) (parked : Bool) : (State.setPasses s sl last full parked).fixed = s.fixed := by
  unfold State.setPasses
  repeat' (first | with_reducible rfl | with_reducible apply State.of_ite | with_reducible apply State.of_ite1 | with_reducible apply State.of_foldl | intro _ _ | (solve | simp (maxDischargeDepth := 80)) | dsimp only | split)
@[simp ↓] theorem State.sendUp_fixed (s : State) (f : Frame) : (State.sendUp s f).fixed = s.fixed := by
  unfold State.sendUp
  repeat' (first | with_reducible rfl | with_reducible apply State.of_ite | with_reducible apply State.of_ite1 | with_reducible apply State.of_foldl | intro _ _ | (solve | simp (maxDischargeDepth := 80)) | dsimp only | split)
@[simp ↓] theorem State.relay_fixed (s : State) (e : Nat) (f : Frame) : (State.relay s e f).fixed = s.fixed := by
  unfold State.relay
  repeat' (first | with_reducible rfl | with_reducible apply State.of_ite | with_reducible apply State.of_ite1 | with_reducible apply State.of_foldl | intro _ _ | (solve | simp (maxDischargeDepth := 80)) | dsimp only | split)
@[simp ↓] theorem runFrameForward_fixed (e : Fin 4) (f : Frame) (s : State) : (s.after (runFrameForward e f s)).fixed = s.fixed := by
  unfold runFrameForward
  rw [State.after_next]
  repeat' (first | with_reducible rfl | with_reducible apply State.of_ite | with_reducible apply State.of_ite1 | with_reducible apply State.of_foldl | intro _ _ | (solve | simp (maxDischargeDepth := 80)))
@[simp ↓] theorem runMarkerSend_fixed (s : State) : (s.after (runMarkerSend s)).fixed = s.fixed := by
  unfold runMarkerSend
  rw [State.after_next]
  repeat' (first | with_reducible rfl | with_reducible apply State.of_ite | with_reducible apply State.of_ite1 | with_reducible apply State.of_foldl | intro _ _ | (solve | simp (maxDischargeDepth := 80)))
@[simp ↓] theorem runParentLost_fixed (s : State) : (s.after (runParentLost s)).fixed = s.fixed := by
  unfold runParentLost
  rw [State.after_next]
  repeat' (first | with_reducible rfl | with_reducible apply State.of_ite | with_reducible apply State.of_ite1 | with_reducible apply State.of_foldl | intro _ _ | (solve | simp (maxDischargeDepth := 80)))
@[simp ↓] theorem State.joinSend_fixed (s : State) : (State.joinSend s).fixed = s.fixed := by
  unfold State.joinSend
  repeat' (first | with_reducible rfl | with_reducible apply State.of_ite | with_reducible apply State.of_ite1 | with_reducible apply State.of_foldl | intro _ _ | (solve | simp (maxDischargeDepth := 80)) | dsimp only | split)
@[simp ↓] theorem runJoinRequest_fixed (s : State) : (s.after (runJoinRequest s)).fixed = s.fixed := by
  unfold runJoinRequest
  rw [State.after_next]
  repeat' (first | with_reducible rfl | with_reducible apply State.of_ite | with_reducible apply State.of_ite1 | with_reducible apply State.of_foldl | intro _ _ | (solve | simp (maxDischargeDepth := 80)))
@[simp ↓] theorem runJoinRetry_fixed (s : State) : (s.after (runJoinRetry s)).fixed = s.fixed := by
  unfold runJoinRetry
  rw [State.after_next]
  repeat' (first | with_reducible rfl | with_reducible apply State.of_ite | with_reducible apply State.of_ite1 | with_reducible apply State.of_foldl | intro _ _ | (solve | simp (maxDischargeDepth := 80)))
@[simp ↓] theorem runJoinReq_fixed (e : Fin 4) (src : Fin 64) (j : Join) (epochLen : Nat) (hops : Nat) (s : State) : (s.after (runJoinReq e src j epochLen hops s)).fixed = s.fixed := by
  unfold runJoinReq
  rw [State.after_next]
  repeat' (first | with_reducible rfl | with_reducible apply State.of_ite | with_reducible apply State.of_ite1 | with_reducible apply State.of_foldl | intro _ _ | (solve | simp (maxDischargeDepth := 80)))
@[simp ↓] theorem runJoinGrant_fixed (e : Fin 4) (j : Join) (s : State) : (s.after (runJoinGrant e j s)).fixed = s.fixed := by
  unfold runJoinGrant
  rw [State.after_next]
  repeat' (first | with_reducible rfl | with_reducible apply State.of_ite | with_reducible apply State.of_ite1 | with_reducible apply State.of_foldl | intro _ _ | (solve | simp (maxDischargeDepth := 80)))
@[simp ↓] theorem State.pairEnds_fixed (s : State) (sl : ℕ) : (State.pairEnds s sl).fixed = s.fixed := by
  unfold State.pairEnds
  repeat' (first | with_reducible rfl | with_reducible apply State.of_ite | with_reducible apply State.of_ite1 | with_reducible apply State.of_foldl | intro _ _ | (solve | simp (maxDischargeDepth := 80)) | dsimp only | split)
@[simp ↓] theorem State.freeLaceSlot_fixed (s : State) (sl : Nat) : (State.freeLaceSlot s sl).fixed = s.fixed := by
  unfold State.freeLaceSlot
  repeat' (first | with_reducible rfl | with_reducible apply State.of_ite | with_reducible apply State.of_ite1 | with_reducible apply State.of_foldl | intro _ _ | (solve | simp (maxDischargeDepth := 80)))
@[simp ↓] theorem runLeave_fixed (e : Fin 4) (uid : BitVec 64) (s : State) : (s.after (runLeave e uid s)).fixed = s.fixed := by
  unfold runLeave
  rw [State.after_next]
  repeat' (first | with_reducible rfl | with_reducible apply State.of_ite | with_reducible apply State.of_ite1 | with_reducible apply State.of_foldl | intro _ _ | (solve | simp (maxDischargeDepth := 80)) | dsimp only | split)
@[simp ↓] theorem runLost_fixed (e : Fin 4) (slots : BitVec 64) (s : State) : (s.after (runLost e slots s)).fixed = s.fixed := by
  unfold runLost
  rw [State.after_next]
  repeat' (first | with_reducible rfl | with_reducible apply State.of_ite | with_reducible apply State.of_ite1 | with_reducible apply State.of_foldl | intro _ _ | (solve | simp (maxDischargeDepth := 80)))
@[simp ↓] theorem runOp_fixed (e : Fin 4) (dst : Fin 64) (ws : Words4) (otag : BitVec 10) (s : State) : (s.after (runOp e dst ws otag s)).fixed = s.fixed := by
  unfold runOp
  rw [State.after_next]
  repeat' (first | with_reducible rfl | with_reducible apply State.of_ite | with_reducible apply State.of_ite1 | with_reducible apply State.of_foldl | intro _ _ | (solve | simp (maxDischargeDepth := 80)))
@[simp ↓] theorem State.noteEnergy_fixed (s : State) (o : Op) (c : Code) : (State.noteEnergy s o c).fixed = s.fixed := by
  unfold State.noteEnergy
  repeat' (first | with_reducible rfl | with_reducible apply State.of_ite | with_reducible apply State.of_ite1 | with_reducible apply State.of_foldl | intro _ _ | (solve | simp (maxDischargeDepth := 80)))
@[simp ↓] theorem runCpl_fixed (e : Fin 4) (ws : Words4) (otag : BitVec 10) (s : State) : (s.after (runCpl e ws otag s)).fixed = s.fixed := by
  unfold runCpl
  rw [State.after_next]
  repeat' (first | with_reducible rfl | with_reducible apply State.of_ite | with_reducible apply State.of_ite1 | with_reducible apply State.of_foldl | intro _ _ | (solve | simp (maxDischargeDepth := 80)) | dsimp only | split)
@[simp ↓] theorem State.countSlot_fixed (s : State) (sl : Nat) : (State.countSlot s sl).fixed = s.fixed := by
  unfold State.countSlot
  repeat' (first | with_reducible rfl | with_reducible apply State.of_ite | with_reducible apply State.of_ite1 | with_reducible apply State.of_foldl | intro _ _ | (solve | simp (maxDischargeDepth := 80)))
@[simp ↓] theorem State.stageDelta_fixed (s : State) (sl : Nat) (d : DeltaFrame) : (State.stageDelta s sl d).fixed = s.fixed := by
  unfold State.stageDelta
  repeat' (first | with_reducible rfl | with_reducible apply State.of_ite | with_reducible apply State.of_ite1 | with_reducible apply State.of_foldl | intro _ _ | (solve | simp (maxDischargeDepth := 80)))
@[simp ↓] theorem runDelta_fixed (e : Fin 4) (src : Fin 64) (d : DeltaFrame) (s : State) : (s.after (runDelta e src d s)).fixed = s.fixed := by
  unfold runDelta
  rw [State.after_next]
  repeat' (first | with_reducible rfl | with_reducible apply State.of_ite | with_reducible apply State.of_ite1 | with_reducible apply State.of_foldl | intro _ _ | (solve | simp (maxDischargeDepth := 80)))
@[simp ↓] theorem runMirror_fixed (e : Fin 4) (m : MirrorFrame) (s : State) : (s.after (runMirror e m s)).fixed = s.fixed := by
  unfold runMirror
  rw [State.after_next]
  repeat' (first | with_reducible rfl | with_reducible apply State.of_ite | with_reducible apply State.of_ite1 | with_reducible apply State.of_foldl | intro _ _ | (solve | simp (maxDischargeDepth := 80)))
@[simp ↓] theorem runBulk_fixed (e : Fin 4) (src : Fin 64) (b : BulkFrame) (s : State) : (s.after (runBulk e src b s)).fixed = s.fixed := by
  unfold runBulk
  rw [State.after_next]
  repeat' (first | with_reducible rfl | with_reducible apply State.of_ite | with_reducible apply State.of_ite1 | with_reducible apply State.of_foldl | intro _ _ | (solve | simp (maxDischargeDepth := 80)) | dsimp only | split)
@[simp ↓] theorem State.leaveTree_fixed (s : State) : (State.leaveTree s).fixed = s.fixed := by
  unfold State.leaveTree
  repeat' (first | with_reducible rfl | with_reducible apply State.of_ite | with_reducible apply State.of_ite1 | with_reducible apply State.of_foldl | intro _ _ | (solve | simp (maxDischargeDepth := 80)) | (solve | simp only [State.modGlb_fixed, State.modOtp_fixed, State.modLed_fixed, State.modPipe_fixed, State.modUpd_fixed, State.modLace_fixed, State.pulseSrc_fixed, State.helloAll_fixed, State.sendUp_fixed]))
@[simp ↓] theorem State.leaveFinish_fixed (s : State) : (State.leaveFinish s).fixed = s.fixed := by
  unfold State.leaveFinish
  repeat' (first | with_reducible rfl | with_reducible apply State.of_ite | with_reducible apply State.of_ite1 | with_reducible apply State.of_foldl | intro _ _ | (solve | simp (maxDischargeDepth := 80)))
@[simp ↓] theorem runLeaveCommand_fixed (x1 : Iface) (s : State) : (s.after (runLeaveCommand x1 s)).fixed = s.fixed := by
  unfold runLeaveCommand
  rw [State.after_next]
  repeat' (first | with_reducible rfl | with_reducible apply State.of_ite | with_reducible apply State.of_ite1 | with_reducible apply State.of_foldl | intro _ _ | (solve | simp (maxDischargeDepth := 80)))
@[simp ↓] theorem runSlotHoldExpire_fixed (sl : Fin 64) (s : State) : (s.after (runSlotHoldExpire sl s)).fixed = s.fixed := by
  unfold runSlotHoldExpire
  rw [State.after_next]
  repeat' (first | with_reducible rfl | with_reducible apply State.of_ite | with_reducible apply State.of_ite1 | with_reducible apply State.of_foldl | intro _ _ | (solve | simp (maxDischargeDepth := 80)))
@[simp ↓] theorem State.opsUnreachable_fixed (s : State) (f : ℕ → Bool) : (State.opsUnreachable s f).fixed = s.fixed := by
  unfold State.opsUnreachable
  repeat' (first | with_reducible rfl | with_reducible apply State.of_ite | with_reducible apply State.of_ite1 | with_reducible apply State.of_foldl | intro _ _ | (solve | simp (maxDischargeDepth := 80)) | dsimp only | split)
@[simp ↓] theorem State.declareSlot_fixed (s : State) (sl : Nat) : (State.declareSlot s sl).fixed = s.fixed := by
  unfold State.declareSlot
  extract_lets ep a b c d others e
  have hc : c.fixed = s.fixed := by
    unfold c
    rw [State.raiseEvt_fixed, State.pulseSrc_fixed, State.commitSlot_fixed]
    exact (State.modLace_fixed _ _).trans (State.modSlot_fixed _ _ _)
  have he : e.fixed = s.fixed := by rw [State.pairEnds_fixed, State.opsUnreachable_fixed, hc]
  exact State.of_foldl _ _ _ he fun x y => by simp
@[simp ↓] theorem State.takeEntryOver_fixed (s : State) (id : ℕ) (e : Entry) : (State.takeEntryOver s id e).fixed = s.fixed := by
  unfold State.takeEntryOver
  repeat' (first | with_reducible rfl | with_reducible apply State.of_ite | with_reducible apply State.of_ite1 | with_reducible apply State.of_foldl | intro _ _ | (solve | simp (maxDischargeDepth := 80)) | dsimp only | split)
@[simp ↓] theorem State.takeFreeOver_fixed (s : State) (sl : ℕ) : (State.takeFreeOver s sl).fixed = s.fixed := by
  unfold State.takeFreeOver
  repeat' (first | with_reducible rfl | with_reducible apply State.of_ite | with_reducible apply State.of_ite1 | with_reducible apply State.of_foldl | intro _ _ | (solve | simp (maxDischargeDepth := 80)) | dsimp only | split)
@[simp ↓] theorem runTakeover_fixed (s : State) : (s.after (runTakeover s)).fixed = s.fixed := by
  unfold runTakeover
  rw [State.after_next]
  repeat' (first | with_reducible rfl | with_reducible apply State.of_ite | with_reducible apply State.of_ite1 | with_reducible apply State.of_foldl | intro _ _ | (solve | simp (maxDischargeDepth := 80)))
@[simp ↓] theorem State.wakeSlot_fixed (s : State) (sl : Nat) : (State.wakeSlot s sl).fixed = s.fixed := by
  unfold State.wakeSlot
  repeat' (first | with_reducible rfl | with_reducible apply State.of_ite | with_reducible apply State.of_ite1 | with_reducible apply State.of_foldl | intro _ _ | (solve | simp (maxDischargeDepth := 80)))
@[simp ↓] theorem runWakeSlotCommand_fixed (x1 : Iface) (sl : Fin 64) (s : State) : (s.after (runWakeSlotCommand x1 sl s)).fixed = s.fixed := by
  unfold runWakeSlotCommand
  rw [State.after_next]
  repeat' (first | with_reducible rfl | with_reducible apply State.of_ite | with_reducible apply State.of_ite1 | with_reducible apply State.of_foldl | intro _ _ | (solve | simp (maxDischargeDepth := 80)))
@[simp ↓] theorem runLaceWakeDetect_fixed (s : State) : (s.after (runLaceWakeDetect s)).fixed = s.fixed := by
  unfold runLaceWakeDetect
  rw [State.after_next]
  repeat' (first | with_reducible rfl | with_reducible apply State.of_ite | with_reducible apply State.of_ite1 | with_reducible apply State.of_foldl | intro _ _ | (solve | simp (maxDischargeDepth := 80)))
@[simp ↓] theorem runEnergyTimeLimit_fixed (s : State) : (s.after (runEnergyTimeLimit s)).fixed = s.fixed := by
  unfold runEnergyTimeLimit
  rw [State.after_next]
  repeat' (first | with_reducible rfl | with_reducible apply State.of_ite | with_reducible apply State.of_ite1 | with_reducible apply State.of_foldl | intro _ _ | (solve | simp (maxDischargeDepth := 80)) | dsimp only | split)
@[simp ↓] theorem runNetCoverLoss_fixed (s : State) : (s.after (runNetCoverLoss s)).fixed = s.fixed := by
  unfold runNetCoverLoss
  rw [State.after_next]
  repeat' (first | with_reducible rfl | with_reducible apply State.of_ite | with_reducible apply State.of_ite1 | with_reducible apply State.of_foldl | intro _ _ | (solve | simp (maxDischargeDepth := 80)) | dsimp only | split)
@[simp ↓] theorem State.foreignRead_fixed (s : State) (k : ℕ) (w : BitVec 16) : (State.foreignRead s k w).2.fixed = s.fixed := by
  unfold State.foreignRead
  repeat' (first | with_reducible rfl | with_reducible apply State.of_ite | with_reducible apply State.of_ite1 | with_reducible apply State.of_foldl | intro _ _ | (solve | simp (maxDischargeDepth := 80)) | dsimp only | split)
@[simp ↓] theorem State.foreignWord_fixed (s : State) (k : ℕ) (o : Op) : (State.foreignWord s k o).2.fixed = s.fixed := by
  unfold State.foreignWord
  repeat' (first | with_reducible rfl | with_reducible apply State.of_ite | with_reducible apply State.of_ite1 | with_reducible apply State.of_foldl | intro _ _ | (solve | simp (maxDischargeDepth := 80)) | dsimp only | split)
@[simp ↓] theorem State.foreignPub_fixed (s : State) (k : Nat) (v : BitVec 32) (valid : Bool) : (State.foreignPub s k v valid).fixed = s.fixed := by
  unfold State.foreignPub
  repeat' (first | with_reducible rfl | with_reducible apply State.of_ite | with_reducible apply State.of_ite1 | with_reducible apply State.of_foldl | intro _ _ | (solve | simp (maxDischargeDepth := 80)))
@[simp ↓] theorem State.devLost_fixed (s : State) (d : Nat) : (State.devLost s d).fixed = s.fixed := by
  unfold State.devLost
  repeat' (first | with_reducible rfl | with_reducible apply State.of_ite | with_reducible apply State.of_ite1 | with_reducible apply State.of_foldl | intro _ _ | (solve | simp (maxDischargeDepth := 80)) | dsimp only | split)
@[simp ↓] theorem State.twb1Begin_fixed (s : State) : (State.twb1Begin s).fixed = s.fixed := by
  unfold State.twb1Begin
  repeat' (first | with_reducible rfl | with_reducible apply State.of_ite | with_reducible apply State.of_ite1 | with_reducible apply State.of_foldl | intro _ _ | (solve | simp (maxDischargeDepth := 80)) | dsimp only | split)
@[simp ↓] theorem runForeignPoll_fixed (d : Fin 32) (s : State) : (s.after (runForeignPoll d s)).fixed = s.fixed := by
  unfold runForeignPoll
  rw [State.after_next]
  repeat' (first | with_reducible rfl | with_reducible apply State.of_ite | with_reducible apply State.of_ite1 | with_reducible apply State.of_foldl | intro _ _ | (solve | simp (maxDischargeDepth := 80)))
@[simp ↓] theorem State.wireDone_fixed (s : State) (d : ℕ) : (State.wireDone s d).fixed = s.fixed := by
  unfold State.wireDone
  repeat' (first | with_reducible rfl | with_reducible apply State.of_ite | with_reducible apply State.of_ite1 | with_reducible apply State.of_foldl | intro _ _ | (solve | simp (maxDischargeDepth := 80)) | dsimp only | split)
@[simp ↓] theorem State.twb1Failed_fixed (s : State) (d : ℕ) : (State.twb1Failed s d).fixed = s.fixed := by
  unfold State.twb1Failed
  repeat' (first | with_reducible rfl | with_reducible apply State.of_ite | with_reducible apply State.of_ite1 | with_reducible apply State.of_foldl | intro _ _ | (solve | simp (maxDischargeDepth := 80)) | dsimp only | split)
@[simp ↓] theorem State.twb1Written_fixed (s : State) (d : ℕ) (readback : BitVec 16) (status : BitVec 16) : (State.twb1Written s d readback status).fixed = s.fixed := by
  unfold State.twb1Written
  repeat' (first | with_reducible rfl | with_reducible apply State.of_ite | with_reducible apply State.of_ite1 | with_reducible apply State.of_foldl | intro _ _ | (solve | simp (maxDischargeDepth := 80)) | dsimp only | split)
@[simp ↓] theorem State.twb1Polled_fixed (s : State) (d : ℕ) (values : List (Fin 16 × BitVec 16)) (outs : List (Fin 16 × Byte)) : (State.twb1Polled s d values outs).fixed = s.fixed := by
  unfold State.twb1Polled
  repeat' (first | with_reducible rfl | with_reducible apply State.of_ite | with_reducible apply State.of_ite1 | with_reducible apply State.of_foldl | intro _ _ | (solve | simp (maxDischargeDepth := 80)) | dsimp only | split)
@[simp ↓] theorem runTwb1TransactionDone_fixed (d : Fin 32) (t : Twb1Result) (s : State) : (s.after (runTwb1TransactionDone d t s)).fixed = s.fixed := by
  unfold runTwb1TransactionDone
  rw [State.after_next]
  split
  · rfl
  · rw [State.twb1Begin_fixed]
    split
    · exact State.twb1Failed_fixed _ _
    · exact State.twb1Written_fixed _ _ _ _
    · exact State.twb1Polled_fixed _ _ _ _
@[simp ↓] theorem State.regRead_fixed (s : State) (i : Iface) (a : Nat) (ecc : Bool) (bad : Bool) : (State.regRead s i a ecc bad).2.fixed = s.fixed := by
  unfold State.regRead
  repeat' (first | with_reducible rfl | with_reducible apply State.of_ite | with_reducible apply State.of_ite1 | with_reducible apply State.of_foldl | intro _ _ | (solve | simp (maxDischargeDepth := 80)))
@[simp ↓] theorem State.holdPkClr_fixed (s : State) : (State.holdPkClr s).fixed = s.fixed := by
  unfold State.holdPkClr
  repeat' (first | with_reducible rfl | with_reducible apply State.of_ite | with_reducible apply State.of_ite1 | with_reducible apply State.of_foldl | intro _ _ | (solve | simp (maxDischargeDepth := 80)))
@[simp ↓] theorem State.storeRw_fixed (s : State) (a : Nat) (m : Nat) (w : Word) : (State.storeRw s a m w).fixed = s.fixed := by
  unfold State.storeRw
  repeat' (first | with_reducible rfl | with_reducible apply State.of_ite | with_reducible apply State.of_ite1 | with_reducible apply State.of_foldl | intro _ _ | (solve | simp (maxDischargeDepth := 80)))
@[simp ↓] theorem State.writePipe_fixed (s : State) (i : Iface) (o : Nat) (w : Word) : (State.writePipe s i o w).fixed = s.fixed := by
  unfold State.writePipe
  try dsimp only
  repeat' split
  all_goals (first | with_reducible rfl | (apply State.of_foldl; rfl; intro _ _; exact State.modSrc_fixed _ _ _) | (simp; done))
@[simp ↓] theorem State.writeRail_fixed (s : State) (o : Nat) (w : Word) : (State.writeRail s o w).fixed = s.fixed := by
  unfold State.writeRail
  repeat' (first | with_reducible rfl | with_reducible apply State.of_ite | with_reducible apply State.of_ite1 | with_reducible apply State.of_foldl | intro _ _ | (solve | simp (maxDischargeDepth := 80)))
@[simp ↓] theorem State.writeLoop_fixed (s : State) (o : Nat) (w : Word) : (s.writeLoop o w).fixed = s.fixed := by
  have hf : ∀ (f : State → Nat → State), (∀ t b, (f t b).fixed = t.fixed) → ∀ (p : Nat → Bool) (l : List Nat) (t : State), (l.foldl (fun s b => if p b then f s b else s) t).fixed = t.fixed := by
    intro f h p l t
    apply foldl_fixed
    intro t b
    split
    · exact h t b
    · rfl
  unfold State.writeLoop
  dsimp only
  repeat' (first | with_reducible rfl | with_reducible apply State.of_ite | (simp [hf]; done) | split)
@[simp ↓] theorem State.writeFlt_fixed (s : State) (o : Nat) (w : Word) : (s.writeFlt o w).fixed = s.fixed := by
  unfold State.writeFlt
  repeat' with_reducible apply State.of_ite
  · simp
  · simp
  · apply foldl_fixed
    intro t b
    exact State.modSrc_fixed _ _ _
  · split
    · with_reducible apply State.of_ite
      · simp
      · rfl
    · simp
    · simp
    · rfl
@[simp ↓] theorem State.writeEvt_fixed (s : State) (i : Iface) (o : Nat) (w : Word) : (State.writeEvt s i o w).fixed = s.fixed := by
  unfold State.writeEvt
  repeat' (first | with_reducible rfl | with_reducible apply State.of_ite | with_reducible apply State.of_ite1 | with_reducible apply State.of_foldl | intro _ _ | (solve | simp (maxDischargeDepth := 80)))
@[simp ↓] theorem State.writeAdc_fixed (s : State) (o : Nat) (w : Word) : (s.writeAdc o w).fixed = s.fixed := by
  unfold State.writeAdc
  split
  · with_reducible apply State.of_ite
    · rw [State.modAdc_fixed]
    · rfl
  · dsimp only
    with_reducible apply State.of_ite
    · simp
    · simp
  · simp
  · simp
  · with_reducible apply State.of_ite
    · rfl
    · simp
  · with_reducible apply State.of_ite
    · rfl
    · simp
  · rfl
@[simp ↓] theorem State.writeRtc_fixed (s : State) (i : Iface) (o : Nat) (w : Word) : (State.writeRtc s i o w).fixed = s.fixed := by
  unfold State.writeRtc
  try dsimp only
  repeat' split
  all_goals (first | with_reducible rfl | (apply State.of_foldl; rfl; intro _ _; exact State.modSrc_fixed _ _ _) | (simp; done))
@[simp ↓] theorem State.writeWdg_fixed (s : State) (o : Nat) (w : Word) : (State.writeWdg s o w).fixed = s.fixed := by
  unfold State.writeWdg
  try dsimp only
  repeat' split
  all_goals (first | with_reducible rfl | (apply State.of_foldl; rfl; intro _ _; exact State.modSrc_fixed _ _ _) | (simp; done))
@[simp ↓] theorem State.writeRec_fixed (s : State) (i : Iface) (o : Nat) (w : Word) : (State.writeRec s i o w).fixed = s.fixed := by
  unfold State.writeRec
  try dsimp only
  repeat' split
  all_goals (first | with_reducible rfl | (apply State.of_foldl; rfl; intro _ _; exact State.modSrc_fixed _ _ _) | (simp; done))
@[simp ↓] theorem State.writeOtp_fixed (s : State) (i : Iface) (o : Nat) (w : Word) : (State.writeOtp s i o w).fixed = s.fixed := by
  unfold State.writeOtp
  repeat' (first | with_reducible rfl | with_reducible apply State.of_ite | with_reducible apply State.of_ite1 | with_reducible apply State.of_foldl | intro _ _ | (solve | simp (maxDischargeDepth := 80)) | dsimp only | split)
@[simp ↓] theorem State.writeUpd_fixed (s : State) (i : Iface) (o : Nat) (w : Word) : (State.writeUpd s i o w).fixed = s.fixed := by
  unfold State.writeUpd
  repeat' (first | with_reducible rfl | with_reducible apply State.of_ite | with_reducible apply State.of_ite1 | with_reducible apply State.of_foldl | intro _ _ | (solve | simp (maxDischargeDepth := 80)) | dsimp only | split)
@[simp ↓] theorem State.regWrite_fixed (s : State) (i : Iface) (a : Nat) (w : Word) : (s.regWrite i a w).fixed = s.fixed := by
  unfold State.regWrite
  extract_lets o
  clear_value o
  split
  · rfl
  · repeat' split
    all_goals (first | with_reducible rfl | (simp; done))
@[simp ↓] theorem runRegisterWrite_fixed (i : Iface) (addr : BitVec 24) (w : Word) (s : State) : (s.after (runRegisterWrite i addr w s)).fixed = s.fixed := by
  unfold runRegisterWrite
  rw [State.after_next]
  repeat' (first | with_reducible rfl | with_reducible apply State.of_ite | with_reducible apply State.of_ite1 | with_reducible apply State.of_foldl | intro _ _ | (solve | simp (maxDischargeDepth := 80)))
@[simp ↓] theorem State.pmBytes_fixed (s : State) (l : List Byte) : (State.pmBytes s l).fixed = s.fixed := by
  unfold State.pmBytes
  repeat' (first | with_reducible rfl | with_reducible apply State.of_ite | with_reducible apply State.of_ite1 | with_reducible apply State.of_foldl | intro _ _ | (solve | simp (maxDischargeDepth := 80)))
@[simp ↓] theorem State.pmRead_fixed (s : State) (l : List Byte) : (State.pmRead s l).fixed = s.fixed := by
  unfold State.pmRead
  repeat' (first | with_reducible rfl | with_reducible apply State.of_ite | with_reducible apply State.of_ite1 | with_reducible apply State.of_foldl | intro _ _ | (solve | simp (maxDischargeDepth := 80)) | dsimp only | split)
@[simp ↓] theorem State.pmBlock_fixed (s : State) (l : List Byte) : (State.pmBlock s l).fixed = s.fixed := by
  unfold State.pmBlock
  repeat' (first | with_reducible rfl | with_reducible apply State.of_ite | with_reducible apply State.of_ite1 | with_reducible apply State.of_foldl | intro _ _ | (solve | simp (maxDischargeDepth := 80)))
@[simp ↓] theorem State.cmlSet_fixed (s : State) (b : Nat) : (State.cmlSet s b).fixed = s.fixed := by
  unfold State.cmlSet
  repeat' (first | with_reducible rfl | with_reducible apply State.of_ite | with_reducible apply State.of_ite1 | with_reducible apply State.of_foldl | intro _ _ | (solve | simp (maxDischargeDepth := 80)))
@[simp ↓] theorem State.pmWrite_fixed (s : State) (p : Pec) (levels : List Nat) (act : State → State) (h : ∀ t, (act t).fixed = t.fixed) : (s.pmWrite p levels act).fixed = s.fixed := by
  unfold State.pmWrite
  dsimp only
  repeat' split
  all_goals simp [h]
@[simp ↓] theorem runPage_fixed (t : PmTx) (s : State) : (s.after (runPage t s)).fixed = s.fixed := by
  unfold runPage
  rw [State.after_next]
  repeat' (first | with_reducible rfl | with_reducible apply State.of_ite | with_reducible apply State.of_ite1 | with_reducible apply State.of_foldl | intro _ _ | (solve | simp (maxDischargeDepth := 80)) | dsimp only | split)
@[simp ↓] theorem runOperation_fixed (t : PmTx) (s : State) : (s.after (runOperation t s)).fixed = s.fixed := by
  unfold runOperation
  rw [State.after_next]
  repeat' (first | with_reducible rfl | with_reducible apply State.of_ite | with_reducible apply State.of_ite1 | with_reducible apply State.of_foldl | intro _ _ | (solve | simp (maxDischargeDepth := 80)) | dsimp only | split)
@[simp ↓] theorem runClearFaults_fixed (pec : Pec) (s : State) : (s.after (runClearFaults pec s)).fixed = s.fixed := by
  unfold runClearFaults
  rw [State.after_next]
  repeat' (first | with_reducible rfl | with_reducible apply State.of_ite | with_reducible apply State.of_ite1 | with_reducible apply State.of_foldl | intro _ _ | (solve | simp (maxDischargeDepth := 80)))
@[simp ↓] theorem runWriteProtect_fixed (t : PmTx) (s : State) : (s.after (runWriteProtect t s)).fixed = s.fixed := by
  unfold runWriteProtect
  rw [State.after_next]
  repeat' (first | with_reducible rfl | with_reducible apply State.of_ite | with_reducible apply State.of_ite1 | with_reducible apply State.of_foldl | intro _ _ | (solve | simp (maxDischargeDepth := 80)) | dsimp only | split)
@[simp ↓] theorem runCapability_fixed (s : State) : (s.after (runCapability s)).fixed = s.fixed := by
  unfold runCapability
  rw [State.after_next]
  repeat' (first | with_reducible rfl | with_reducible apply State.of_ite | with_reducible apply State.of_ite1 | with_reducible apply State.of_foldl | intro _ _ | (solve | simp (maxDischargeDepth := 80)))
@[simp ↓] theorem runVoutMode_fixed (s : State) : (s.after (runVoutMode s)).fixed = s.fixed := by
  unfold runVoutMode
  rw [State.after_next]
  repeat' (first | with_reducible rfl | with_reducible apply State.of_ite | with_reducible apply State.of_ite1 | with_reducible apply State.of_foldl | intro _ _ | (solve | simp (maxDischargeDepth := 80)))
@[simp ↓] theorem runVoutCommand_fixed (t : PmTx) (s : State) : (s.after (runVoutCommand t s)).fixed = s.fixed := by
  unfold runVoutCommand
  rw [State.after_next]
  repeat' (first | with_reducible rfl | with_reducible apply State.of_ite | with_reducible apply State.of_ite1 | with_reducible apply State.of_foldl | intro _ _ | (solve | simp (maxDischargeDepth := 80)) | dsimp only | split)
@[simp ↓] theorem runStatusByte_fixed (s : State) : (s.after (runStatusByte s)).fixed = s.fixed := by
  unfold runStatusByte
  rw [State.after_next]
  repeat' (first | with_reducible rfl | with_reducible apply State.of_ite | with_reducible apply State.of_ite1 | with_reducible apply State.of_foldl | intro _ _ | (solve | simp (maxDischargeDepth := 80)))
@[simp ↓] theorem runStatusWord_fixed (s : State) : (s.after (runStatusWord s)).fixed = s.fixed := by
  unfold runStatusWord
  rw [State.after_next]
  repeat' (first | with_reducible rfl | with_reducible apply State.of_ite | with_reducible apply State.of_ite1 | with_reducible apply State.of_foldl | intro _ _ | (solve | simp (maxDischargeDepth := 80)))
@[simp ↓] theorem runStatusVout_fixed (s : State) : (s.after (runStatusVout s)).fixed = s.fixed := by
  unfold runStatusVout
  rw [State.after_next]
  repeat' (first | with_reducible rfl | with_reducible apply State.of_ite | with_reducible apply State.of_ite1 | with_reducible apply State.of_foldl | intro _ _ | (solve | simp (maxDischargeDepth := 80)))
@[simp ↓] theorem runStatusIout_fixed (s : State) : (s.after (runStatusIout s)).fixed = s.fixed := by
  unfold runStatusIout
  rw [State.after_next]
  repeat' (first | with_reducible rfl | with_reducible apply State.of_ite | with_reducible apply State.of_ite1 | with_reducible apply State.of_foldl | intro _ _ | (solve | simp (maxDischargeDepth := 80)))
@[simp ↓] theorem runStatusCml_fixed (s : State) : (s.after (runStatusCml s)).fixed = s.fixed := by
  unfold runStatusCml
  rw [State.after_next]
  repeat' (first | with_reducible rfl | with_reducible apply State.of_ite | with_reducible apply State.of_ite1 | with_reducible apply State.of_foldl | intro _ _ | (solve | simp (maxDischargeDepth := 80)))
@[simp ↓] theorem runReadVout_fixed (s : State) : (s.after (runReadVout s)).fixed = s.fixed := by
  unfold runReadVout
  rw [State.after_next]
  repeat' (first | with_reducible rfl | with_reducible apply State.of_ite | with_reducible apply State.of_ite1 | with_reducible apply State.of_foldl | intro _ _ | (solve | simp (maxDischargeDepth := 80)))
@[simp ↓] theorem runReadIout_fixed (s : State) : (s.after (runReadIout s)).fixed = s.fixed := by
  unfold runReadIout
  rw [State.after_next]
  repeat' (first | with_reducible rfl | with_reducible apply State.of_ite | with_reducible apply State.of_ite1 | with_reducible apply State.of_foldl | intro _ _ | (solve | simp (maxDischargeDepth := 80)))
@[simp ↓] theorem runReadTemperature1_fixed (s : State) : (s.after (runReadTemperature1 s)).fixed = s.fixed := by
  unfold runReadTemperature1
  rw [State.after_next]
  repeat' (first | with_reducible rfl | with_reducible apply State.of_ite | with_reducible apply State.of_ite1 | with_reducible apply State.of_foldl | intro _ _ | (solve | simp (maxDischargeDepth := 80)))
@[simp ↓] theorem runPmbusRevision_fixed (s : State) : (s.after (runPmbusRevision s)).fixed = s.fixed := by
  unfold runPmbusRevision
  rw [State.after_next]
  repeat' (first | with_reducible rfl | with_reducible apply State.of_ite | with_reducible apply State.of_ite1 | with_reducible apply State.of_foldl | intro _ _ | (solve | simp (maxDischargeDepth := 80)))
@[simp ↓] theorem runMfrId_fixed (s : State) : (s.after (runMfrId s)).fixed = s.fixed := by
  unfold runMfrId
  rw [State.after_next]
  repeat' (first | with_reducible rfl | with_reducible apply State.of_ite | with_reducible apply State.of_ite1 | with_reducible apply State.of_foldl | intro _ _ | (solve | simp (maxDischargeDepth := 80)))
@[simp ↓] theorem runMfrModel_fixed (s : State) : (s.after (runMfrModel s)).fixed = s.fixed := by
  unfold runMfrModel
  rw [State.after_next]
  repeat' (first | with_reducible rfl | with_reducible apply State.of_ite | with_reducible apply State.of_ite1 | with_reducible apply State.of_foldl | intro _ _ | (solve | simp (maxDischargeDepth := 80)))
@[simp ↓] theorem runMfrRevision_fixed (s : State) : (s.after (runMfrRevision s)).fixed = s.fixed := by
  unfold runMfrRevision
  rw [State.after_next]
  repeat' (first | with_reducible rfl | with_reducible apply State.of_ite | with_reducible apply State.of_ite1 | with_reducible apply State.of_foldl | intro _ _ | (solve | simp (maxDischargeDepth := 80)))
@[simp ↓] theorem readWords_fixed (i : Iface) (b : Bool) (l : List (Nat × Bool)) (s : State) : (readWords i b l s).2.fixed = s.fixed := by
  induction l generalizing s with
  | nil => rfl
  | cons a t ih =>
    simp only [readWords]
    rw [ih]
    split
    · split <;> rfl
    · exact State.regRead_fixed _ _ _ _ _
@[simp ↓] theorem State.qread_fixed (s : State) (a : ℕ) (n : ℕ) (fetched : ℕ) (fixed : Bool) (bad : List Bool) : (State.qread s a n fetched fixed bad).fixed = s.fixed := by
  unfold State.qread
  repeat' (first | with_reducible rfl | with_reducible apply State.of_ite | with_reducible apply State.of_ite1 | with_reducible apply State.of_foldl | intro _ _ | (solve | simp (maxDischargeDepth := 80)) | dsimp only | split)
@[simp ↓] theorem runMfrQread_fixed (addr : BitVec 24) (n : ℕ) (fetched : ℕ) (bad : List Bool) (s : State) : (s.after (runMfrQread addr n fetched bad s)).fixed = s.fixed := by
  unfold runMfrQread
  repeat' (first | rw [State.after_next] | with_reducible rfl | with_reducible apply State.of_ite | with_reducible apply State.of_ite1 | with_reducible apply State.of_foldl | intro _ _ | (solve | simp (maxDischargeDepth := 80)) | dsimp only | split)
@[simp ↓] theorem runMfrQfifo_fixed (addr : BitVec 24) (n : ℕ) (fetched : ℕ) (bad : List Bool) (s : State) : (s.after (runMfrQfifo addr n fetched bad s)).fixed = s.fixed := by
  unfold runMfrQfifo
  repeat' (first | rw [State.after_next] | with_reducible rfl | with_reducible apply State.of_ite | with_reducible apply State.of_ite1 | with_reducible apply State.of_foldl | intro _ _ | (solve | simp (maxDischargeDepth := 80)) | dsimp only | split)
@[simp ↓] theorem State.writeWords_fixed (s : State) (i : Iface) (l : List (Nat × Word)) : (State.writeWords s i l).fixed = s.fixed := by
  unfold State.writeWords
  repeat' (first | with_reducible rfl | with_reducible apply State.of_ite | with_reducible apply State.of_ite1 | with_reducible apply State.of_foldl | intro _ _ | (solve | simp (maxDischargeDepth := 80)))
@[simp ↓] theorem runMfrQwrite_fixed (addr : BitVec 24) (ws : List Word) (pec : Pec) (s : State) : (s.after (runMfrQwrite addr ws pec s)).fixed = s.fixed := by
  unfold runMfrQwrite
  rw [State.after_next]
  repeat' (first | with_reducible rfl | with_reducible apply State.of_ite | with_reducible apply State.of_ite1 | with_reducible apply State.of_foldl | intro _ _ | (solve | simp (maxDischargeDepth := 80)))
@[simp ↓] theorem runMfrQreq_fixed (ws : List Word) (pec : Pec) (s : State) : (s.after (runMfrQreq ws pec s)).fixed = s.fixed := by
  unfold runMfrQreq
  rw [State.after_next]
  repeat' (first | with_reducible rfl | with_reducible apply State.of_ite | with_reducible apply State.of_ite1 | with_reducible apply State.of_foldl | intro _ _ | (solve | simp (maxDischargeDepth := 80)) | dsimp only | split)
@[simp ↓] theorem runMfrQcpl_fixed (s : State) : (s.after (runMfrQcpl s)).fixed = s.fixed := by
  unfold runMfrQcpl
  rw [State.after_next]
  repeat' (first | with_reducible rfl | with_reducible apply State.of_ite | with_reducible apply State.of_ite1 | with_reducible apply State.of_foldl | intro _ _ | (solve | simp (maxDischargeDepth := 80)) | dsimp only | split)
@[simp ↓] theorem runMfrQentry_fixed (eccErr : Bool) (s : State) : (s.after (runMfrQentry eccErr s)).fixed = s.fixed := by
  unfold runMfrQentry
  rw [State.after_next]
  repeat' (first | with_reducible rfl | with_reducible apply State.of_ite | with_reducible apply State.of_ite1 | with_reducible apply State.of_foldl | intro _ _ | (solve | simp (maxDischargeDepth := 80)) | dsimp only | split)
@[simp ↓] theorem runInvalidCommand_fixed (isWrite : Bool) (s : State) : (s.after (runInvalidCommand isWrite s)).fixed = s.fixed := by
  unfold runInvalidCommand
  rw [State.after_next]
  repeat' (first | with_reducible rfl | with_reducible apply State.of_ite | with_reducible apply State.of_ite1 | with_reducible apply State.of_foldl | intro _ _ | (solve | simp (maxDischargeDepth := 80)) | dsimp only | split)
@[simp ↓] theorem runTwb0Timeout_fixed (s : State) : (s.after (runTwb0Timeout s)).fixed = s.fixed := by
  unfold runTwb0Timeout
  rw [State.after_next]
  repeat' (first | with_reducible rfl | with_reducible apply State.of_ite | with_reducible apply State.of_ite1 | with_reducible apply State.of_foldl | intro _ _ | (solve | simp (maxDischargeDepth := 80)))
@[simp ↓] theorem runAlertResponse_fixed (arbWon : Bool) (s : State) : (s.after (runAlertResponse arbWon s)).fixed = s.fixed := by
  unfold runAlertResponse
  rw [State.after_next]
  repeat' (first | with_reducible rfl | with_reducible apply State.of_ite | with_reducible apply State.of_ite1 | with_reducible apply State.of_foldl | intro _ _ | (solve | simp (maxDischargeDepth := 80)))
@[simp ↓] theorem runHostNotify_fixed (ok : Bool) (s : State) : (s.after (runHostNotify ok s)).fixed = s.fixed := by
  unfold runHostNotify
  rw [State.after_next]
  repeat' (first | with_reducible rfl | with_reducible apply State.of_ite | with_reducible apply State.of_ite1 | with_reducible apply State.of_foldl | intro _ _ | (solve | simp (maxDischargeDepth := 80)))
@[simp ↓] theorem runHostNotifyRetry_fixed (ok : Bool) (s : State) : (s.after (runHostNotifyRetry ok s)).fixed = s.fixed := by
  unfold runHostNotifyRetry
  rw [State.after_next]
  repeat' (first | with_reducible rfl | with_reducible apply State.of_ite | with_reducible apply State.of_ite1 | with_reducible apply State.of_foldl | intro _ _ | (solve | simp (maxDischargeDepth := 80)) | dsimp only | split)
@[simp ↓] theorem execSpiReadFrame_fixed (bytes : List Byte) (avail : Bool) (bad : List Bool) (s : State) : (s.after (execSpiReadFrame bytes avail bad s)).fixed = s.fixed := by
  unfold execSpiReadFrame
  repeat' (first | rw [State.after_next] | with_reducible rfl | with_reducible apply State.of_ite | with_reducible apply State.of_ite1 | with_reducible apply State.of_foldl | intro _ _ | (solve | simp (maxDischargeDepth := 80)) | dsimp only | split)
@[simp ↓] theorem runSpiWriteFrame_fixed (bytes : List Byte) (s : State) : (s.after (runSpiWriteFrame bytes s)).fixed = s.fixed := by
  unfold runSpiWriteFrame
  rw [State.after_next]
  repeat' (first | with_reducible rfl | with_reducible apply State.of_ite | with_reducible apply State.of_ite1 | with_reducible apply State.of_foldl | intro _ _ | (solve | simp (maxDischargeDepth := 80)))
@[simp ↓] theorem runWakeCommand_fixed (x1 : Iface) (s : State) : (s.after (runWakeCommand x1 s)).fixed = s.fixed := by
  unfold runWakeCommand
  rw [State.after_next]
  repeat' (first | with_reducible rfl | with_reducible apply State.of_ite | with_reducible apply State.of_ite1 | with_reducible apply State.of_foldl | intro _ _ | (solve | simp (maxDischargeDepth := 80)))
@[simp ↓] theorem runGpioChange_fixed (n : Fin 32) (level : Bool) (s : State) : (s.after (runGpioChange n level s)).fixed = s.fixed := by
  unfold runGpioChange
  rw [State.after_next]
  repeat' (first | with_reducible rfl | with_reducible apply State.of_ite | with_reducible apply State.of_ite1 | with_reducible apply State.of_foldl | intro _ _ | (solve | simp (maxDischargeDepth := 80)))
@[simp ↓] theorem State.motionCommit_fixed (s : State) (st : EState) (pulses : Option Nat) : (State.motionCommit s st pulses).fixed = s.fixed := by
  unfold State.motionCommit
  repeat' (first | with_reducible rfl | with_reducible apply State.of_ite | with_reducible apply State.of_ite1 | with_reducible apply State.of_foldl | intro _ _ | (solve | simp (maxDischargeDepth := 80)))
@[simp ↓] theorem runMotionChange_fixed (moving : Bool) (pulses : Nat) (s : State) : (s.after (runMotionChange moving pulses s)).fixed = s.fixed := by
  unfold runMotionChange
  rw [State.after_next]
  repeat' (first | with_reducible rfl | with_reducible apply State.of_ite | with_reducible apply State.of_ite1 | with_reducible apply State.of_foldl | intro _ _ | (solve | simp (maxDischargeDepth := 80)))
@[simp ↓] theorem runMotionRefreshLimit_fixed (s : State) : (s.after (runMotionRefreshLimit s)).fixed = s.fixed := by
  unfold runMotionRefreshLimit
  rw [State.after_next]
  repeat' (first | with_reducible rfl | with_reducible apply State.of_ite | with_reducible apply State.of_ite1 | with_reducible apply State.of_foldl | intro _ _ | (solve | simp (maxDischargeDepth := 80)) | dsimp only | split)
@[simp ↓] theorem State.putStaged_fixed (s : State) (c : Nat) (sl : Nat) (x : Nat × Entry) : (State.putStaged s c sl x).fixed = s.fixed := by
  unfold State.putStaged
  repeat' (first | with_reducible rfl | with_reducible apply State.of_ite | with_reducible apply State.of_ite1 | with_reducible apply State.of_foldl | intro _ _ | (solve | simp (maxDischargeDepth := 80)))
@[simp ↓] theorem State.slotBack_fixed (s : State) (c : Nat) (sl : Nat) : (State.slotBack s c sl).fixed = s.fixed := by
  unfold State.slotBack
  repeat' (first | with_reducible rfl | with_reducible apply State.of_ite | with_reducible apply State.of_ite1 | with_reducible apply State.of_foldl | intro _ _ | (solve | simp (maxDischargeDepth := 80)))
@[simp ↓] theorem State.deliverSets_fixed (s : State) (c : Nat) : (State.deliverSets s c).fixed = s.fixed := by
  unfold State.deliverSets
  repeat' (first | with_reducible rfl | with_reducible apply State.of_ite | with_reducible apply State.of_ite1 | with_reducible apply State.of_foldl | intro _ _ | (solve | simp (maxDischargeDepth := 80)))
@[simp ↓] theorem State.sendSet_fixed (s : State) (e : Nat) (kind : FrameKind) (dst : Fin 64) (src : Fin 64) (epoch : Nat) (flags : Nat) (n : Nat) (recs : List (List Byte)) : (State.sendSet s e kind dst src epoch flags n recs).fixed = s.fixed := by
  unfold State.sendSet
  repeat' (first | with_reducible rfl | with_reducible apply State.of_ite | with_reducible apply State.of_ite1 | with_reducible apply State.of_foldl | intro _ _ | (solve | simp (maxDischargeDepth := 80)))
@[simp ↓] theorem State.sendOwnSet_fixed (s : State) (m : Nat) (parked : Bool) : (State.sendOwnSet s m parked).fixed = s.fixed := by
  unfold State.sendOwnSet
  repeat' (first | with_reducible rfl | with_reducible apply State.of_ite | with_reducible apply State.of_ite1 | with_reducible apply State.of_foldl | intro _ _ | (solve | simp (maxDischargeDepth := 80)) | dsimp only | split)
@[simp ↓] theorem State.tickSet_fixed (s : State) (n : Nat) (c : Nat) : (State.tickSet s n c).fixed = s.fixed := by
  unfold State.tickSet
  repeat' (first | with_reducible rfl | with_reducible apply State.of_ite | with_reducible apply State.of_ite1 | with_reducible apply State.of_foldl | intro _ _ | (solve | simp (maxDischargeDepth := 80)))
@[simp ↓] theorem State.mirrorTo_fixed (s : State) (c : Nat) : (State.mirrorTo s c).fixed = s.fixed := by
  unfold State.mirrorTo
  repeat' (first | with_reducible rfl | with_reducible apply State.of_ite | with_reducible apply State.of_ite1 | with_reducible apply State.of_foldl | intro _ _ | (solve | simp (maxDischargeDepth := 80)))
@[simp ↓] theorem State.writeLate_fixed (s : State) (d : Deferred) : (State.writeLate s d).fixed = s.fixed := by
  unfold State.writeLate
  repeat' (first | with_reducible rfl | with_reducible apply State.of_ite | with_reducible apply State.of_ite1 | with_reducible apply State.of_foldl | intro _ _ | (solve | simp (maxDischargeDepth := 80)) | dsimp only | split)
@[simp ↓] theorem State.flushLate_fixed (s : State) : (State.flushLate s).fixed = s.fixed := by
  unfold State.flushLate
  repeat' (first | with_reducible rfl | with_reducible apply State.of_ite | with_reducible apply State.of_ite1 | with_reducible apply State.of_foldl | intro _ _ | (solve | simp (maxDischargeDepth := 80)) | dsimp only | split)
@[simp ↓] theorem State.sourcesOpen_fixed (s : State) : (State.sourcesOpen s).fixed = s.fixed := by
  unfold State.sourcesOpen
  repeat' (first | with_reducible rfl | with_reducible apply State.of_ite | with_reducible apply State.of_ite1 | with_reducible apply State.of_foldl | intro _ _ | (solve | simp (maxDischargeDepth := 80)))
@[simp ↓] theorem State.hwFlags_fixed (s : State) (n : Nat) (li : Nat) : (State.hwFlags s n li).fixed = s.fixed := by
  unfold State.hwFlags
  repeat' (first | with_reducible rfl | with_reducible apply State.of_ite | with_reducible apply State.of_ite1 | with_reducible apply State.of_foldl | intro _ _ | (solve | simp (maxDischargeDepth := 80)))
@[simp ↓] theorem State.limitFlags_fixed (s : State) : (State.limitFlags s).fixed = s.fixed := by
  unfold State.limitFlags
  repeat' (first | with_reducible rfl | with_reducible apply State.of_ite | with_reducible apply State.of_ite1 | with_reducible apply State.of_foldl | intro _ _ | (solve | simp (maxDischargeDepth := 80)))
@[simp ↓] theorem State.deliver_fixed (s : State) (c : Cpl) : (State.deliver s c).fixed = s.fixed := by
  unfold State.deliver
  repeat' (first | with_reducible rfl | with_reducible apply State.of_ite | with_reducible apply State.of_ite1 | with_reducible apply State.of_foldl | intro _ _ | (solve | simp (maxDischargeDepth := 80)) | dsimp only | split)
@[simp ↓] theorem State.deliverAll_fixed (s : State) : (State.deliverAll s).fixed = s.fixed := by
  unfold State.deliverAll
  repeat' (first | with_reducible rfl | with_reducible apply State.of_ite | with_reducible apply State.of_ite1 | with_reducible apply State.of_foldl | intro _ _ | (solve | simp (maxDischargeDepth := 80)))
@[simp ↓] theorem State.availUpdate_fixed (s : State) : (State.availUpdate s).fixed = s.fixed := by
  unfold State.availUpdate
  repeat' (first | with_reducible rfl | with_reducible apply State.of_ite | with_reducible apply State.of_ite1 | with_reducible apply State.of_foldl | intro _ _ | (solve | simp (maxDischargeDepth := 80)))
@[simp ↓] theorem State.lagCheck_fixed (s : State) (n : Nat) : (State.lagCheck s n).fixed = s.fixed := by
  unfold State.lagCheck
  repeat' (first | with_reducible rfl | with_reducible apply State.of_ite | with_reducible apply State.of_ite1 | with_reducible apply State.of_foldl | intro _ _ | (solve | simp (maxDischargeDepth := 80)))
@[simp ↓] theorem State.groupsTick_fixed (s : State) : (State.groupsTick s).fixed = s.fixed := by
  unfold State.groupsTick
  repeat' (first | with_reducible rfl | with_reducible apply State.of_ite | with_reducible apply State.of_ite1 | with_reducible apply State.of_foldl | intro _ _ | (solve | simp (maxDischargeDepth := 80)))
@[simp ↓] theorem State.warmAgain_fixed (s : State) : (State.warmAgain s).fixed = s.fixed := by
  unfold State.warmAgain
  repeat' (first | with_reducible rfl | with_reducible apply State.of_ite | with_reducible apply State.of_ite1 | with_reducible apply State.of_foldl | intro _ _ | (solve | simp (maxDischargeDepth := 80)) | dsimp only | split)
@[simp ↓] theorem State.corrWindow_fixed (s : State) : (State.corrWindow s).fixed = s.fixed := by
  unfold State.corrWindow
  repeat' (first | with_reducible rfl | with_reducible apply State.of_ite | with_reducible apply State.of_ite1 | with_reducible apply State.of_foldl | intro _ _ | (solve | simp (maxDischargeDepth := 80)) | dsimp only | split)
@[simp ↓] theorem State.startsTick_fixed (s : State) : (State.startsTick s).fixed = s.fixed := by
  unfold State.startsTick
  repeat' (first | with_reducible rfl | with_reducible apply State.of_ite | with_reducible apply State.of_ite1 | with_reducible apply State.of_foldl | intro _ _ | (solve | simp (maxDischargeDepth := 80)))
@[simp ↓] theorem State.reformFail_fixed (s : State) (l : Nat) : (State.reformFail s l).fixed = s.fixed := by
  unfold State.reformFail
  repeat' (first | with_reducible rfl | with_reducible apply State.of_ite | with_reducible apply State.of_ite1 | with_reducible apply State.of_foldl | intro _ _ | (solve | simp (maxDischargeDepth := 80)))
@[simp ↓] theorem State.copyAgain_fixed (s : State) (l : ℕ) : (State.copyAgain s l).fixed = s.fixed := by
  unfold State.copyAgain
  repeat' (first | with_reducible rfl | with_reducible apply State.of_ite | with_reducible apply State.of_ite1 | with_reducible apply State.of_foldl | intro _ _ | (solve | simp (maxDischargeDepth := 80)) | dsimp only | split)
@[simp ↓] theorem State.isolateLane_fixed (s : State) (l : Nat) : (State.isolateLane s l).fixed = s.fixed := by
  unfold State.isolateLane
  repeat' (first | with_reducible rfl | with_reducible apply State.of_ite | with_reducible apply State.of_ite1 | with_reducible apply State.of_foldl | intro _ _ | (solve | simp (maxDischargeDepth := 80)))
@[simp ↓] theorem State.isolateNote_fixed (s : State) (l : Nat) : (State.isolateNote s l).fixed = s.fixed := by
  unfold State.isolateNote
  repeat' (first | with_reducible rfl | with_reducible apply State.of_ite | with_reducible apply State.of_ite1 | with_reducible apply State.of_foldl | intro _ _ | (solve | simp (maxDischargeDepth := 80)))
@[simp ↓] theorem State.holdRails_fixed (s : State) : (State.holdRails s).fixed = s.fixed := by
  unfold State.holdRails
  repeat' (first | with_reducible rfl | with_reducible apply State.of_ite | with_reducible apply State.of_ite1 | with_reducible apply State.of_foldl | intro _ _ | (solve | simp (maxDischargeDepth := 80)))
@[simp ↓] theorem State.governStop_fixed (s : State) : (State.governStop s).fixed = s.fixed := by
  unfold State.governStop
  repeat' (first | with_reducible rfl | with_reducible apply State.of_ite | with_reducible apply State.of_ite1 | with_reducible apply State.of_foldl | intro _ _ | (solve | simp (maxDischargeDepth := 80)))
@[simp ↓] theorem State.checkNote_fixed (s : State) (l : ℕ) (kind : CheckKind) : (State.checkNote s l kind).fixed = s.fixed := by
  unfold State.checkNote
  repeat' (first | with_reducible rfl | with_reducible apply State.of_ite | with_reducible apply State.of_ite1 | with_reducible apply State.of_foldl | intro _ _ | (solve | simp (maxDischargeDepth := 80)) | dsimp only | split)
@[simp ↓] theorem State.joinVote_fixed (s : State) (l : Nat) : (State.joinVote s l).fixed = s.fixed := by
  unfold State.joinVote
  repeat' (first | with_reducible rfl | with_reducible apply State.of_ite | with_reducible apply State.of_ite1 | with_reducible apply State.of_foldl | intro _ _ | (solve | simp (maxDischargeDepth := 80)))
@[simp ↓] theorem execCheckpoint_fixed (agree : Bool) (joinOk : Bool) (s : State) : (s.after (execCheckpoint agree joinOk s)).fixed = s.fixed := by
  unfold execCheckpoint
  rw [State.after_next]
  repeat' (first | with_reducible rfl | with_reducible apply State.of_ite | with_reducible apply State.of_ite1 | with_reducible apply State.of_foldl | intro _ _ | (solve | simp (maxDischargeDepth := 80)) | dsimp only | split)
@[simp ↓] theorem State.holdBegin_fixed (s : State) (cause : Nat) : (State.holdBegin s cause).fixed = s.fixed := by
  have h : ∀ (s : State) (f : Glb → Glb), (∀ g, (f g).mode = g.mode) → (s.modGlb f).fixed = s.fixed := fun s f h => by
    simp only [State.fixed, State.modGlb, h]
  unfold State.holdBegin
  refine (h _ _ (by intro g; rfl)).trans ?_
  rw [State.modLane_fixed, State.holdRails_fixed]
@[simp ↓] theorem State.warmAbandon_fixed (s : State) : (State.warmAbandon s).fixed = s.fixed := by
  unfold State.warmAbandon
  repeat' (first | with_reducible rfl | with_reducible apply State.of_ite | with_reducible apply State.of_ite1 | with_reducible apply State.of_foldl | intro _ _ | (solve | simp (maxDischargeDepth := 80)) | dsimp only | split)
@[simp ↓] theorem execChuckHold_fixed (three : Bool) (s : State) : (s.after (execChuckHold three s)).fixed = s.fixed := by
  unfold execChuckHold
  rw [State.after_next]
  repeat' (first | with_reducible rfl | with_reducible apply State.of_ite | with_reducible apply State.of_ite1 | with_reducible apply State.of_foldl | intro _ _ | (solve | simp (maxDischargeDepth := 80)))
@[simp ↓] theorem State.releaseRails_fixed (s : State) : (State.releaseRails s).fixed = s.fixed := by
  unfold State.releaseRails
  repeat' (first | with_reducible rfl | with_reducible apply State.of_ite | with_reducible apply State.of_ite1 | with_reducible apply State.of_foldl | intro _ _ | (solve | simp (maxDischargeDepth := 80)))
@[simp ↓] theorem State.settleNote_fixed (s : State) (iso : List ℕ) : (State.settleNote s iso).fixed = s.fixed := by
  unfold State.settleNote
  repeat' (first | with_reducible rfl | with_reducible apply State.of_ite | with_reducible apply State.of_ite1 | with_reducible apply State.of_foldl | intro _ _ | (solve | simp (maxDischargeDepth := 80)) | dsimp only | split)
@[simp ↓] theorem State.crystalNote_fixed (s : State) : (State.crystalNote s).fixed = s.fixed := by
  unfold State.crystalNote
  repeat' (first | with_reducible rfl | with_reducible apply State.of_ite | with_reducible apply State.of_ite1 | with_reducible apply State.of_foldl | intro _ _ | (solve | simp (maxDischargeDepth := 80)) | dsimp only | split)
@[simp ↓] theorem State.pllNote_fixed (s : State) (b : Bool) : (State.pllNote s b).fixed = s.fixed := by
  unfold State.pllNote
  repeat' (first | with_reducible rfl | with_reducible apply State.of_ite | with_reducible apply State.of_ite1 | with_reducible apply State.of_foldl | intro _ _ | (solve | simp (maxDischargeDepth := 80)) | dsimp only | split)
@[simp ↓] theorem State.switchNote_fixed (s : State) : (State.switchNote s).fixed = s.fixed := by
  unfold State.switchNote
  repeat' (first | with_reducible rfl | with_reducible apply State.of_ite | with_reducible apply State.of_ite1 | with_reducible apply State.of_foldl | intro _ _ | (solve | simp (maxDischargeDepth := 80)) | dsimp only | split)
@[simp ↓] theorem State.holdNote_fixed (s : State) (len : ℕ) : (State.holdNote s len).fixed = s.fixed := by
  unfold State.holdNote
  repeat' (first | with_reducible rfl | with_reducible apply State.of_ite | with_reducible apply State.of_ite1 | with_reducible apply State.of_foldl | intro _ _ | (solve | simp (maxDischargeDepth := 80)) | dsimp only | split)
@[simp ↓] theorem execReformSelfTestDone_fixed (l : Fin 3) (ok : Bool) (s : State) : (s.after (execReformSelfTestDone l ok s)).fixed = s.fixed := by
  unfold execReformSelfTestDone
  rw [State.after_next]
  repeat' (first | with_reducible rfl | with_reducible apply State.of_ite | with_reducible apply State.of_ite1 | with_reducible apply State.of_foldl | intro _ _ | (solve | simp (maxDischargeDepth := 80)))
@[simp ↓] theorem execReformCopyDone_fixed (l : Fin 3) (s : State) : (s.after (execReformCopyDone l s)).fixed = s.fixed := by
  unfold execReformCopyDone
  rw [State.after_next]
  repeat' (first | with_reducible rfl | with_reducible apply State.of_ite | with_reducible apply State.of_ite1 | with_reducible apply State.of_foldl | intro _ _ | (solve | simp (maxDischargeDepth := 80)))
@[simp ↓] theorem State.switchBegin_fixed (s : State) (src : ℕ) : (State.switchBegin s src).fixed = s.fixed := by
  unfold State.switchBegin
  repeat' (first | with_reducible rfl | with_reducible apply State.of_ite | with_reducible apply State.of_ite1 | with_reducible apply State.of_foldl | intro _ _ | (solve | simp (maxDischargeDepth := 80)) | dsimp only | split)
@[simp ↓] theorem State.crystalStep_fixed (s : State) : (State.crystalStep s).fixed = s.fixed := by
  unfold State.crystalStep
  repeat' (first | with_reducible rfl | with_reducible apply State.of_ite | with_reducible apply State.of_ite1 | with_reducible apply State.of_foldl | intro _ _ | (solve | simp (maxDischargeDepth := 80)) | dsimp only | split)
@[simp ↓] theorem State.pllLossStep_fixed (s : State) (b : Bool) : (State.pllLossStep s b).fixed = s.fixed := by
  unfold State.pllLossStep
  repeat' (first | with_reducible rfl | with_reducible apply State.of_ite | with_reducible apply State.of_ite1 | with_reducible apply State.of_foldl | intro _ _ | (solve | simp (maxDischargeDepth := 80)) | dsimp only | split)
@[simp ↓] theorem State.pllLockStep_fixed (s : State) (b : Bool) : (State.pllLockStep s b).fixed = s.fixed := by
  unfold State.pllLockStep
  repeat' (first | with_reducible rfl | with_reducible apply State.of_ite | with_reducible apply State.of_ite1 | with_reducible apply State.of_foldl | intro _ _ | (solve | simp (maxDischargeDepth := 80)) | dsimp only | split)
@[simp ↓] theorem State.rangeStep_fixed (s : State) (c : ClkSrc) : (State.rangeStep s c).fixed = s.fixed := by
  unfold State.rangeStep
  repeat' (first | with_reducible rfl | with_reducible apply State.of_ite | with_reducible apply State.of_ite1 | with_reducible apply State.of_foldl | intro _ _ | (solve | simp (maxDischargeDepth := 80)) | dsimp only | split)
@[simp ↓] theorem State.rangeNote_fixed (s : State) (c : ClkSrc) : (State.rangeNote s c).fixed = s.fixed := by
  unfold State.rangeNote
  repeat' (first | with_reducible rfl | with_reducible apply State.of_ite | with_reducible apply State.of_ite1 | with_reducible apply State.of_foldl | intro _ _ | (solve | simp (maxDischargeDepth := 80)) | dsimp only | split)
@[simp ↓] theorem runClockOutOfRange_fixed (c : ClkSrc) (s : State) : (s.after (runClockOutOfRange c s)).fixed = s.fixed := by
  unfold runClockOutOfRange
  rw [State.after_next]
  repeat' (first | with_reducible rfl | with_reducible apply State.of_ite | with_reducible apply State.of_ite1 | with_reducible apply State.of_foldl | intro _ _ | (solve | simp (maxDischargeDepth := 80)) | dsimp only | split)
@[simp ↓] theorem runCrystalStop_fixed (s : State) : (s.after (runCrystalStop s)).fixed = s.fixed := by
  unfold runCrystalStop
  repeat' (first | rw [State.after_next] | with_reducible rfl | with_reducible apply State.of_ite | with_reducible apply State.of_ite1 | with_reducible apply State.of_foldl | intro _ _ | (solve | simp (maxDischargeDepth := 80)) | dsimp only | split)
@[simp ↓] theorem runPllLockLoss_fixed (b : Bool) (s : State) : (s.after (runPllLockLoss b s)).fixed = s.fixed := by
  unfold runPllLockLoss
  repeat' (first | rw [State.after_next] | with_reducible rfl | with_reducible apply State.of_ite | with_reducible apply State.of_ite1 | with_reducible apply State.of_foldl | intro _ _ | (solve | simp (maxDischargeDepth := 80)) | dsimp only | split)
@[simp ↓] theorem State.pllLockNote_fixed (s : State) (b : Bool) : (State.pllLockNote s b).fixed = s.fixed := by
  unfold State.pllLockNote
  repeat' (first | with_reducible rfl | with_reducible apply State.of_ite | with_reducible apply State.of_ite1 | with_reducible apply State.of_foldl | intro _ _ | (solve | simp (maxDischargeDepth := 80)) | dsimp only | split)
@[simp ↓] theorem runPllRelock_fixed (b : Bool) (s : State) : (s.after (runPllRelock b s)).fixed = s.fixed := by
  unfold runPllRelock
  repeat' (first | rw [State.after_next] | with_reducible rfl | with_reducible apply State.of_ite | with_reducible apply State.of_ite1 | with_reducible apply State.of_foldl | intro _ _ | (solve | simp (maxDischargeDepth := 80)) | dsimp only | split)
@[simp ↓] theorem State.x32Step_fixed (s : State) : (State.x32Step s).fixed = s.fixed := by
  unfold State.x32Step
  repeat' (first | with_reducible rfl | with_reducible apply State.of_ite | with_reducible apply State.of_ite1 | with_reducible apply State.of_foldl | intro _ _ | (solve | simp (maxDischargeDepth := 80)) | dsimp only | split)
@[simp ↓] theorem State.x32Note_fixed (s : State) : (State.x32Note s).fixed = s.fixed := by
  unfold State.x32Note
  repeat' (first | with_reducible rfl | with_reducible apply State.of_ite | with_reducible apply State.of_ite1 | with_reducible apply State.of_foldl | intro _ _ | (solve | simp (maxDischargeDepth := 80)) | dsimp only | split)
@[simp ↓] theorem runX32Stop_fixed (s : State) : (s.after (runX32Stop s)).fixed = s.fixed := by
  unfold runX32Stop
  rw [State.after_next]
  repeat' (first | with_reducible rfl | with_reducible apply State.of_ite | with_reducible apply State.of_ite1 | with_reducible apply State.of_foldl | intro _ _ | (solve | simp (maxDischargeDepth := 80)))
@[simp ↓] theorem execPllReturn_fixed (s : State) : (s.after (execPllReturn s)).fixed = s.fixed := by
  unfold execPllReturn
  rw [State.after_next]
  repeat' (first | with_reducible rfl | with_reducible apply State.of_ite | with_reducible apply State.of_ite1 | with_reducible apply State.of_foldl | intro _ _ | (solve | simp (maxDischargeDepth := 80)))
@[simp ↓] theorem State.refStepOut_fixed (s : State) (k : Nat) (othersAgree : Bool) : (State.refStepOut s k othersAgree).fixed = s.fixed := by
  unfold State.refStepOut
  repeat' (first | with_reducible rfl | with_reducible apply State.of_ite | with_reducible apply State.of_ite1 | with_reducible apply State.of_foldl | intro _ _ | (solve | simp (maxDischargeDepth := 80)))
@[simp ↓] theorem runReferenceDisagree_fixed (k : Fin 3) (othersAgree : Bool) (s : State) : (s.after (runReferenceDisagree k othersAgree s)).fixed = s.fixed := by
  unfold runReferenceDisagree
  rw [State.after_next]
  repeat' (first | with_reducible rfl | with_reducible apply State.of_ite | with_reducible apply State.of_ite1 | with_reducible apply State.of_foldl | intro _ _ | (solve | simp (maxDischargeDepth := 80)))
@[simp ↓] theorem State.pairReverse_fixed (s : State) (b : Bool) (on : Bool) : (State.pairReverse s b on).fixed = s.fixed := by
  unfold State.pairReverse
  repeat' (first | with_reducible rfl | with_reducible apply State.of_ite | with_reducible apply State.of_ite1 | with_reducible apply State.of_foldl | intro _ _ | (solve | simp (maxDischargeDepth := 80)))
@[simp ↓] theorem State.pairOver_fixed (s : State) (b : Bool) (on : Bool) : (State.pairOver s b on).fixed = s.fixed := by
  unfold State.pairOver
  repeat' (first | with_reducible rfl | with_reducible apply State.of_ite | with_reducible apply State.of_ite1 | with_reducible apply State.of_foldl | intro _ _ | (solve | simp (maxDischargeDepth := 80)))
@[simp ↓] theorem runReverseCurrent_fixed (b : Bool) (s : State) : (s.after (runReverseCurrent b s)).fixed = s.fixed := by
  unfold runReverseCurrent
  rw [State.after_next]
  repeat' (first | with_reducible rfl | with_reducible apply State.of_ite | with_reducible apply State.of_ite1 | with_reducible apply State.of_foldl | intro _ _ | (solve | simp (maxDischargeDepth := 80)))
@[simp ↓] theorem runIdealDiodeReenable_fixed (b : Bool) (s : State) : (s.after (runIdealDiodeReenable b s)).fixed = s.fixed := by
  unfold runIdealDiodeReenable
  rw [State.after_next]
  repeat' (first | with_reducible rfl | with_reducible apply State.of_ite | with_reducible apply State.of_ite1 | with_reducible apply State.of_foldl | intro _ _ | (solve | simp (maxDischargeDepth := 80)))
@[simp ↓] theorem runVinOvervoltage_fixed (b : Bool) (s : State) : (s.after (runVinOvervoltage b s)).fixed = s.fixed := by
  unfold runVinOvervoltage
  rw [State.after_next]
  repeat' (first | with_reducible rfl | with_reducible apply State.of_ite | with_reducible apply State.of_ite1 | with_reducible apply State.of_foldl | intro _ _ | (solve | simp (maxDischargeDepth := 80)))
@[simp ↓] theorem runVinOvRelease_fixed (b : Bool) (s : State) : (s.after (runVinOvRelease b s)).fixed = s.fixed := by
  unfold runVinOvRelease
  rw [State.after_next]
  repeat' (first | with_reducible rfl | with_reducible apply State.of_ite | with_reducible apply State.of_ite1 | with_reducible apply State.of_foldl | intro _ _ | (solve | simp (maxDischargeDepth := 80)))
@[simp ↓] theorem runIdealDiodeGateFault_fixed (b : Bool) (s : State) : (s.after (runIdealDiodeGateFault b s)).fixed = s.fixed := by
  unfold runIdealDiodeGateFault
  rw [State.after_next]
  repeat' (first | with_reducible rfl | with_reducible apply State.of_ite | with_reducible apply State.of_ite1 | with_reducible apply State.of_foldl | intro _ _ | (solve | simp (maxDischargeDepth := 80)))
@[simp ↓] theorem runSupplyUndervoltage_fixed (sup : Supply) (low : Bool) (s : State) : (s.after (runSupplyUndervoltage sup low s)).fixed = s.fixed := by
  unfold runSupplyUndervoltage
  rw [State.after_next]
  repeat' (first | with_reducible rfl | with_reducible apply State.of_ite | with_reducible apply State.of_ite1 | with_reducible apply State.of_foldl | intro _ _ | (solve | simp (maxDischargeDepth := 80)))
@[simp ↓] theorem runLaneHoldPkClr_fixed (s : State) : (s.after (runLaneHoldPkClr s)).fixed = s.fixed := by
  unfold runLaneHoldPkClr
  rw [State.after_next]
  repeat' (first | with_reducible rfl | with_reducible apply State.of_ite | with_reducible apply State.of_ite1 | with_reducible apply State.of_foldl | intro _ _ | (solve | simp (maxDischargeDepth := 80)))
@[simp ↓] theorem State.hardware_fixed (s : State) (c : Instr) : (State.hardware s c).fixed = s.fixed := by
  unfold State.hardware
  repeat' (first | with_reducible rfl | with_reducible apply State.of_ite | with_reducible apply State.of_ite1 | with_reducible apply State.of_foldl | intro _ _ | (solve | simp (maxDischargeDepth := 80)) | dsimp only | split)
@[simp ↓] theorem runLinkCopyCrcFail_fixed (s : State) : (s.after (runLinkCopyCrcFail s)).fixed = s.fixed := by
  unfold runLinkCopyCrcFail
  repeat' (first | rw [State.after_next] | with_reducible rfl | with_reducible apply State.of_ite | with_reducible apply State.of_ite1 | with_reducible apply State.of_foldl | intro _ _ | (solve | simp (maxDischargeDepth := 80)) | dsimp only | split)
@[simp ↓] theorem runVoteMismatch_fixed (l : Fin 3) (s : State) : (s.after (runVoteMismatch l s)).fixed = s.fixed := by
  unfold runVoteMismatch
  repeat' (first | rw [State.after_next] | with_reducible rfl | with_reducible apply State.of_ite | with_reducible apply State.of_ite1 | with_reducible apply State.of_foldl | intro _ _ | (solve | simp (maxDischargeDepth := 80)) | dsimp only | split)
@[simp ↓] theorem runLaneCheckerError_fixed (l : Fin 3) (kind : CheckKind) (s : State) : (s.after (runLaneCheckerError l kind s)).fixed = s.fixed := by
  unfold runLaneCheckerError
  repeat' (first | rw [State.after_next] | with_reducible rfl | with_reducible apply State.of_ite | with_reducible apply State.of_ite1 | with_reducible apply State.of_foldl | intro _ _ | (solve | simp (maxDischargeDepth := 80)) | dsimp only | split)
@[simp ↓] theorem execSourceBrownOut_fixed (src : Fin 3) (up : Bool) (s : State) : (s.after (execSourceBrownOut src up s)).fixed = s.fixed := by
  unfold execSourceBrownOut
  rw [State.after_next]
  repeat' (first | with_reducible rfl | with_reducible apply State.of_ite | with_reducible apply State.of_ite1 | with_reducible apply State.of_foldl | intro _ _ | (solve | simp (maxDischargeDepth := 80)))
@[simp ↓] theorem State.pickBank_fixed (s : State) : (State.pickBank s).fixed = s.fixed := by
  unfold State.pickBank
  repeat' (first | with_reducible rfl | with_reducible apply State.of_ite | with_reducible apply State.of_ite1 | with_reducible apply State.of_foldl | intro _ _ | (solve | simp (maxDischargeDepth := 80)) | dsimp only | split)
@[simp ↓] theorem State.gaugeStart_fixed (s : State) (e : StartEnv) : (State.gaugeStart s e).fixed = s.fixed := by
  unfold State.gaugeStart
  repeat' (first | with_reducible rfl | with_reducible apply State.of_ite | with_reducible apply State.of_ite1 | with_reducible apply State.of_foldl | intro _ _ | (solve | simp (maxDischargeDepth := 80)) | dsimp only | split)
@[simp ↓] theorem State.initialCommits_fixed (s : State) : (State.initialCommits s).fixed = s.fixed := by
  unfold State.initialCommits
  repeat' (first | with_reducible rfl | with_reducible apply State.of_ite | with_reducible apply State.of_ite1 | with_reducible apply State.of_foldl | intro _ _ | (solve | simp (maxDischargeDepth := 80)))
@[simp ↓] theorem State.pathsStart_fixed (s : State) (mv : SupplyMv) : (State.pathsStart s mv).fixed = s.fixed := by
  unfold State.pathsStart
  repeat' (first | with_reducible rfl | with_reducible apply State.of_ite | with_reducible apply State.of_ite1 | with_reducible apply State.of_foldl | intro _ _ | (solve | simp (maxDischargeDepth := 80)))
@[simp ↓] theorem State.startRecord_fixed (s : State) : (State.startRecord s).fixed = s.fixed := by
  unfold State.startRecord
  repeat' (first | with_reducible rfl | with_reducible apply State.of_ite | with_reducible apply State.of_ite1 | with_reducible apply State.of_foldl | intro _ _ | (solve | simp (maxDischargeDepth := 80)))
@[simp ↓] theorem State.nonces_fixed (s : State) : (State.nonces s).fixed = s.fixed := by
  unfold State.nonces
  repeat' (first | with_reducible rfl | with_reducible apply State.of_ite | with_reducible apply State.of_ite1 | with_reducible apply State.of_foldl | intro _ _ | (solve | simp (maxDischargeDepth := 80)))
@[simp ↓] theorem State.inputsStart_fixed (s : State) (mv : SupplyMv) : (State.inputsStart s mv).fixed = s.fixed := by
  unfold State.inputsStart
  repeat' (first | with_reducible rfl | with_reducible apply State.of_ite | with_reducible apply State.of_ite1 | with_reducible apply State.of_foldl | intro _ _ | (solve | simp (maxDischargeDepth := 80)))
@[simp ↓] theorem State.replaySources_fixed (s : State) : (State.replaySources s).fixed = s.fixed := by
  unfold State.replaySources
  repeat' (first | with_reducible rfl | with_reducible apply State.of_ite | with_reducible apply State.of_ite1 | with_reducible apply State.of_foldl | intro _ _ | (solve | simp (maxDischargeDepth := 80)))
@[simp ↓] theorem State.bankSwap_fixed (s : State) : (State.bankSwap s).fixed = s.fixed := by
  unfold State.bankSwap
  repeat' (first | with_reducible rfl | with_reducible apply State.of_ite | with_reducible apply State.of_ite1 | with_reducible apply State.of_foldl | intro _ _ | (solve | simp (maxDischargeDepth := 80)))
@[simp ↓] theorem State.loopsAdopt_fixed (s : State) : (State.loopsAdopt s).fixed = s.fixed := by
  unfold State.loopsAdopt
  repeat' (first | with_reducible rfl | with_reducible apply State.of_ite | with_reducible apply State.of_ite1 | with_reducible apply State.of_foldl | intro _ _ | (solve | simp (maxDischargeDepth := 80)))
@[simp ↓] theorem State.adcAdopt_fixed (s : State) : (State.adcAdopt s).fixed = s.fixed := by
  unfold State.adcAdopt
  repeat' (first | with_reducible rfl | with_reducible apply State.of_ite | with_reducible apply State.of_ite1 | with_reducible apply State.of_foldl | intro _ _ | (solve | simp (maxDischargeDepth := 80)))
@[simp ↓] theorem State.countsRestart_fixed (s : State) : (State.countsRestart s).fixed = s.fixed := by
  unfold State.countsRestart
  repeat' (first | with_reducible rfl | with_reducible apply State.of_ite | with_reducible apply State.of_ite1 | with_reducible apply State.of_foldl | intro _ _ | (solve | simp (maxDischargeDepth := 80)))
@[simp ↓] theorem execWarmStart_fixed (w : WarmIn) (s : State) : (s.after (execWarmStart w s)).fixed = s.fixed := by
  unfold execWarmStart
  repeat' (first | rw [State.after_next] | with_reducible rfl | with_reducible apply State.of_ite | with_reducible apply State.of_ite1 | with_reducible apply State.of_foldl | intro _ _ | (solve | simp (maxDischargeDepth := 80)) | dsimp only | split)
@[simp ↓] theorem State.warmCode_fixed (s : State) : (State.warmCode s).fixed = s.fixed := by
  unfold State.warmCode
  repeat' (first | with_reducible rfl | with_reducible apply State.of_ite | with_reducible apply State.of_ite1 | with_reducible apply State.of_foldl | intro _ _ | (solve | simp (maxDischargeDepth := 80)) | dsimp only | split)
@[simp ↓] theorem State.warmCheck_fixed (s : State) : (State.warmCheck s).fixed = s.fixed := rfl
@[simp ↓] theorem State.warmEnd_fixed (s : State) : (State.warmEnd s).fixed = s.fixed := by
  unfold State.warmEnd
  extract_lets act cls a b
  have ha : a.fixed = s.fixed := State.countsRestart_fixed s
  have hb : b.fixed = s.fixed := by
    unfold b
    rw [State.raiseEvt_fixed]
    exact State.of_ite ((State.seqRestart_fixed _ _).trans ha) ha
  exact State.of_ite ((State.otpAdvance_fixed _).trans hb) hb
@[simp ↓] theorem State.measurePark_fixed (s : State) : (State.measurePark s).fixed = s.fixed := by
  unfold State.measurePark
  repeat' (first | with_reducible rfl | with_reducible apply State.of_ite | with_reducible apply State.of_ite1 | with_reducible apply State.of_foldl | intro _ _ | (solve | simp (maxDischargeDepth := 80)))
@[simp ↓] theorem execTapInstruction_fixed (code : TapCode) (s : State) : (s.after (execTapInstruction code s)).fixed = s.fixed := by
  unfold execTapInstruction
  rw [State.after_next]
  repeat' (first | with_reducible rfl | with_reducible apply State.of_ite | with_reducible apply State.of_ite1 | with_reducible apply State.of_foldl | intro _ _ | (solve | simp (maxDischargeDepth := 80)))

theorem State.arrive_fixed (s : State) (c : Instr) (o : Host.Outcome State Fault Refusal) (h : (s.after o).fixed = s.fixed) : (s.after (s.arrive c o)).fixed = s.fixed := by
  unfold State.arrive
  split
  · split
    · exact h
    · rw [State.after_next, State.hardware_fixed]
  · split
    · rw [State.after_next, State.modLane_fixed, State.hardware_fixed]
    · exact h

/-- The commands that start or stop the block, load an image, end an epoch or set a one-time bit, or that may. -/
def movesFixed : Instr → Bool
  | .vholdStart => true
  | .vholdBrownOut => true
  | .porstNLow => true
  | .porstNRelease => true
  | .coldStart _ => true
  | .recoveryColdStart => true
  | .parkEntry => true
  | .wake _ _ => true
  | .epochTick => true
  | .holdCheckerStage _ _ => true
  | .holdReplayStage _ _ => true
  | .holdSelfTestStage _ _ => true
  | .clockSwitchDone _ => true
  | .epochMarker _ _ => true
  | .otpPulseDone _ => true
  | _ => false

/-- Every other command leaves them as they were. -/
theorem exec_fixed (c : Instr) (s : State) (hm : movesFixed c = false) : (s.after (exec c s)).fixed = s.fixed := by
  cases c with
  | vholdStart => simp [movesFixed] at hm
  | vholdBrownOut => simp [movesFixed] at hm
  | sourceBrownOut src up => exact execSourceBrownOut_fixed src up s
  | porstNLow => simp [movesFixed] at hm
  | porstNRelease => simp [movesFixed] at hm
  | coldStart env => simp [movesFixed] at hm
  | recoveryColdStart => simp [movesFixed] at hm
  | warmStart w => exact execWarmStart_fixed w s
  | parkEntry => simp [movesFixed] at hm
  | wake pllaLocked cals => simp [movesFixed] at hm
  | wakeCommand io => exact State.arrive_fixed _ _ _ (runWakeCommand_fixed io s)
  | requestSubmit io w0 => exact State.arrive_fixed _ _ _ (runRequestSubmit_fixed io w0 s)
  | requestCapture p => exact execRequestCapture_fixed p s
  | bundleMemberStage io w0 => exact State.arrive_fixed _ _ _ (runBundleMemberStage_fixed io w0 s)
  | bundleBufferTimeout io => exact State.arrive_fixed _ _ _ (runBundleBufferTimeout_fixed io s)
  | bundleBufferClear io => exact State.arrive_fixed _ _ _ (runBundleBufferClear_fixed io s)
  | shankOrder => exact execShankOrder_fixed s
  | stitchIssue fast => exact execStitchIssue_fixed fast s
  | tackConfirm slot seq => exact State.arrive_fixed _ _ _ (runTackConfirm_fixed slot seq s)
  | timeLimitExpiry slot => exact State.arrive_fixed _ _ _ (runTimeLimitExpiry_fixed slot s)
  | soleCommit => exact execSoleCommit_fixed s
  | bundleCommit => exact execBundleCommit_fixed s
  | epochTick => simp [movesFixed] at hm
  | catchUpComplete bad => exact execCatchUpComplete_fixed bad s
  | recheckResubmit li => exact State.arrive_fixed _ _ _ (runRecheckResubmit_fixed li s)
  | envelopeCorrection li => exact State.arrive_fixed _ _ _ (runEnvelopeCorrection_fixed li s)
  | faceplateRead io word eccErr => exact State.arrive_fixed _ _ _ (runFaceplateRead_fixed io word eccErr s)
  | snapshotPinSet io => exact State.arrive_fixed _ _ _ (runSnapshotPinSet_fixed io s)
  | snapshotPinClear io => exact State.arrive_fixed _ _ _ (runSnapshotPinClear_fixed io s)
  | epochLowRead io k => exact State.arrive_fixed _ _ _ (runEpochLowRead_fixed io k s)
  | completionPop io => exact State.arrive_fixed _ _ _ (runCompletionPop_fixed io s)
  | peakClr => exact State.arrive_fixed _ _ _ (runPeakClr_fixed s)
  | cplLostClr io => exact State.arrive_fixed _ _ _ (runCplLostClr_fixed io s)
  | registerWrite io addr w => exact State.arrive_fixed _ _ _ (runRegisterWrite_fixed io addr w s)
  | stageFault p low => exact State.arrive_fixed _ _ _ (runStageFault_fixed p low s)
  | persistentCurrentLimit p limited => exact State.arrive_fixed _ _ _ (runPersistentCurrentLimit_fixed p limited s)
  | overloadEnd p => exact State.arrive_fixed _ _ _ (runOverloadEnd_fixed p s)
  | spareFirstPulse p => exact State.arrive_fixed _ _ _ (runSpareFirstPulse_fixed p s)
  | phaseLatch p => exact State.arrive_fixed _ _ _ (runPhaseLatch_fixed p s)
  | phaseImbalance p => exact State.arrive_fixed _ _ _ (runPhaseImbalance_fixed p s)
  | shedEvaluation r => exact State.arrive_fixed _ _ _ (runShedEvaluation_fixed r s)
  | loadLineEvaluation r => exact State.arrive_fixed _ _ _ (runLoadLineEvaluation_fixed r s)
  | railFirstPulse r vout => exact State.arrive_fixed _ _ _ (runRailFirstPulse_fixed r vout s)
  | shortDetect r vout limitedAt30 => exact State.arrive_fixed _ _ _ (runShortDetect_fixed r vout limitedAt30 s)
  | overvoltage r abs vout => exact State.arrive_fixed _ _ _ (runOvervoltage_fixed r abs vout s)
  | undervoltage r vout => exact State.arrive_fixed _ _ _ (runUndervoltage_fixed r vout s)
  | outputDischarged r => exact State.arrive_fixed _ _ _ (runOutputDischarged_fixed r s)
  | dischargeTimeout r => exact State.arrive_fixed _ _ _ (runDischargeTimeout_fixed r s)
  | powerGood r => exact State.arrive_fixed _ _ _ (runPowerGood_fixed r s)
  | powerGoodTimeout r => exact State.arrive_fixed _ _ _ (runPowerGoodTimeout_fixed r s)
  | telemetrySample r pins sense => exact State.arrive_fixed _ _ _ (runTelemetrySample_fixed r pins sense s)
  | railPkClr r => exact State.arrive_fixed _ _ _ (runRailPkClr_fixed r s)
  | railLsPkClr => exact State.arrive_fixed _ _ _ (runRailLsPkClr_fixed s)
  | inrushComplete sw => exact State.arrive_fixed _ _ _ (runInrushComplete_fixed sw s)
  | inrushTimeout sw => exact State.arrive_fixed _ _ _ (runInrushTimeout_fixed sw s)
  | switchShort sw => exact State.arrive_fixed _ _ _ (runSwitchShort_fixed sw s)
  | gateFault sw => exact State.arrive_fixed _ _ _ (runGateFault_fixed sw s)
  | i2tUpdate sw iMean dtUs => exact State.arrive_fixed _ _ _ (runI2tUpdate_fixed sw iMean dtUs s)
  | loopSample r inp => exact execLoopSample_fixed r inp s
  | loopTrcArm b => exact State.arrive_fixed _ _ _ (runLoopTrcArm_fixed b s)
  | loopTrcForce b => exact State.arrive_fixed _ _ _ (runLoopTrcForce_fixed b s)
  | loopTrcStop b => exact State.arrive_fixed _ _ _ (runLoopTrcStop_fixed b s)
  | loopTrcGarm mask => exact State.arrive_fixed _ _ _ (runLoopTrcGarm_fixed mask s)
  | loopTrcGforce mask => exact State.arrive_fixed _ _ _ (runLoopTrcGforce_fixed mask s)
  | loopSatClr r => exact State.arrive_fixed _ _ _ (runLoopSatClr_fixed r s)
  | delayEnd g => exact State.arrive_fixed _ _ _ (runDelayEnd_fixed g s)
  | waitSatisfied g => exact State.arrive_fixed _ _ _ (runWaitSatisfied_fixed g s)
  | waitTimeout g => exact State.arrive_fixed _ _ _ (runWaitTimeout_fixed g s)
  | retryBegin g => exact State.arrive_fixed _ _ _ (runRetryBegin_fixed g s)
  | inputLost b mv => exact State.arrive_fixed _ _ _ (runInputLost_fixed b mv s)
  | inputReturn b => exact State.arrive_fixed _ _ _ (runInputReturn_fixed b s)
  | inputsStable => exact State.arrive_fixed _ _ _ (runInputsStable_fixed s)
  | resumeTimeout g => exact State.arrive_fixed _ _ _ (runResumeTimeout_fixed g s)
  | snapshotCommand io mv => exact State.arrive_fixed _ _ _ (runSnapshotCommand_fixed io mv s)
  | snapshotWritten => exact State.arrive_fixed _ _ _ (runSnapshotWritten_fixed s)
  | faultLineChange n asserted cause => exact State.arrive_fixed _ _ _ (runFaultLineChange_fixed n asserted cause s)
  | integrityLost n => exact State.arrive_fixed _ _ _ (runIntegrityLost_fixed n s)
  | lineTest n seen => exact execLineTest_fixed n seen s
  | finLevel f lvl => exact State.arrive_fixed _ _ _ (runFinLevel_fixed f lvl s)
  | persistQualify n => exact State.arrive_fixed _ _ _ (runPersistQualify_fixed n s)
  | occurrenceExpire n => exact State.arrive_fixed _ _ _ (runOccurrenceExpire_fixed n s)
  | sourceEntryCommit n => exact State.arrive_fixed _ _ _ (runSourceEntryCommit_fixed n s)
  | latchSubmit li => exact State.arrive_fixed _ _ _ (runLatchSubmit_fixed li s)
  | failedRecovery li => exact State.arrive_fixed _ _ _ (runFailedRecovery_fixed li s)
  | fltFset k mask => exact State.arrive_fixed _ _ _ (runFltFset_fixed k mask s)
  | fltFclr k mask => exact State.arrive_fixed _ _ _ (runFltFclr_fixed k mask s)
  | fltSwSet mask => exact State.arrive_fixed _ _ _ (runFltSwSet_fixed mask s)
  | fltSwClr mask => exact State.arrive_fixed _ _ _ (runFltSwClr_fixed mask s)
  | fltFaultnRel => exact State.arrive_fixed _ _ _ (runFltFaultnRel_fixed s)
  | evtAck io k mask => exact State.arrive_fixed _ _ _ (runEvtAck_fixed io k mask s)
  | voteMismatch l =>
    show (s.after (execVoteMismatch l s)).fixed = s.fixed
    unfold execVoteMismatch
    split
    · exact State.arrive_fixed _ _ _ (runVoteMismatch_fixed l s)
    · rfl
  | laneCheckerError l kind =>
    show (s.after (execLaneCheckerError l kind s)).fixed = s.fixed
    unfold execLaneCheckerError
    split
    · rfl
    · split
      · rw [State.after_next, State.governStop_fixed, State.checkNote_fixed]
      · exact State.arrive_fixed _ _ _ (runLaneCheckerError_fixed l kind s)
  | linkCopyCrcFail => exact State.arrive_fixed _ _ _ (runLinkCopyCrcFail_fixed s)
  | checkpoint agree joinOk => exact execCheckpoint_fixed agree joinOk s
  | chuckHold three => exact execChuckHold_fixed three s
  | holdCheckerStage reports len => simp [movesFixed] at hm
  | holdReplayStage agree len => simp [movesFixed] at hm
  | holdSelfTestStage fails len => simp [movesFixed] at hm
  | reformSelfTestDone l ok => exact execReformSelfTestDone_fixed l ok s
  | reformCopyDone l => exact execReformCopyDone_fixed l s
  | crystalStop => exact State.arrive_fixed _ _ _ (runCrystalStop_fixed s)
  | pllLockLoss b => exact State.arrive_fixed _ _ _ (runPllLockLoss_fixed b s)
  | clockOutOfRange c => exact State.arrive_fixed _ _ _ (runClockOutOfRange_fixed c s)
  | x32Stop => exact State.arrive_fixed _ _ _ (runX32Stop_fixed s)
  | clockSwitchDone len => simp [movesFixed] at hm
  | pllReturn => exact execPllReturn_fixed s
  | referenceDisagree k othersAgree => exact State.arrive_fixed _ _ _ (runReferenceDisagree_fixed k othersAgree s)
  | reverseCurrent b => exact State.arrive_fixed _ _ _ (runReverseCurrent_fixed b s)
  | idealDiodeReenable b => exact State.arrive_fixed _ _ _ (runIdealDiodeReenable_fixed b s)
  | vinOvervoltage b => exact State.arrive_fixed _ _ _ (runVinOvervoltage_fixed b s)
  | vinOvRelease b => exact State.arrive_fixed _ _ _ (runVinOvRelease_fixed b s)
  | idealDiodeGateFault b => exact State.arrive_fixed _ _ _ (runIdealDiodeGateFault_fixed b s)
  | supplyUndervoltage sup low => exact State.arrive_fixed _ _ _ (runSupplyUndervoltage_fixed sup low s)
  | laneHoldPkClr => exact State.arrive_fixed _ _ _ (runLaneHoldPkClr_fixed s)
  | eyeletLock e => exact State.arrive_fixed _ _ _ (runEyeletLock_fixed e s)
  | eyeletLockLoss e => exact State.arrive_fixed _ _ _ (runEyeletLockLoss_fixed e s)
  | helloTimeout e => exact State.arrive_fixed _ _ _ (runHelloTimeout_fixed e s)
  | helloSend e => exact State.arrive_fixed _ _ _ (runHelloSend_fixed e s)
  | hello e h arrival => exact State.arrive_fixed _ _ _ (runHello_fixed e h arrival s)
  | linkSend e => exact State.arrive_fixed _ _ _ (runLinkSend_fixed e s)
  | link e ack nak credits => exact State.arrive_fixed _ _ _ (runLink_fixed e ack nak credits s)
  | frameDiscard e => exact State.arrive_fixed _ _ _ (runFrameDiscard_fixed e s)
  | sequenceReject e => exact State.arrive_fixed _ _ _ (runSequenceReject_fixed e s)
  | resendTimeout e => exact State.arrive_fixed _ _ _ (runResendTimeout_fixed e s)
  | creditTimeout e cls => exact State.arrive_fixed _ _ _ (runCreditTimeout_fixed e cls s)
  | frameForward e f => exact State.arrive_fixed _ _ _ (runFrameForward_fixed e f s)
  | markerSend => exact State.arrive_fixed _ _ _ (runMarkerSend_fixed s)
  | epochMarker e m => simp [movesFixed] at hm
  | parentLost => exact State.arrive_fixed _ _ _ (runParentLost_fixed s)
  | joinRequest => exact State.arrive_fixed _ _ _ (runJoinRequest_fixed s)
  | joinRetry => exact State.arrive_fixed _ _ _ (runJoinRetry_fixed s)
  | joinReq e src j epochLen hops => exact State.arrive_fixed _ _ _ (runJoinReq_fixed e src j epochLen hops s)
  | joinGrant e j => exact State.arrive_fixed _ _ _ (runJoinGrant_fixed e j s)
  | leave e uid => exact State.arrive_fixed _ _ _ (runLeave_fixed e uid s)
  | lost e slots => exact State.arrive_fixed _ _ _ (runLost_fixed e slots s)
  | op e dst ws otag => exact State.arrive_fixed _ _ _ (runOp_fixed e dst ws otag s)
  | cpl e ws otag => exact State.arrive_fixed _ _ _ (runCpl_fixed e ws otag s)
  | delta e src d => exact State.arrive_fixed _ _ _ (runDelta_fixed e src d s)
  | mirror e m => exact State.arrive_fixed _ _ _ (runMirror_fixed e m s)
  | bulk e src b => exact State.arrive_fixed _ _ _ (runBulk_fixed e src b s)
  | leaveCommand io => exact State.arrive_fixed _ _ _ (runLeaveCommand_fixed io s)
  | slotHoldExpire sl => exact State.arrive_fixed _ _ _ (runSlotHoldExpire_fixed sl s)
  | takeover => exact State.arrive_fixed _ _ _ (runTakeover_fixed s)
  | wakeSlotCommand io sl => exact State.arrive_fixed _ _ _ (runWakeSlotCommand_fixed io sl s)
  | laceWakeDetect => exact State.arrive_fixed _ _ _ (runLaceWakeDetect_fixed s)
  | energyTimeLimit => exact State.arrive_fixed _ _ _ (runEnergyTimeLimit_fixed s)
  | netCoverLoss => exact State.arrive_fixed _ _ _ (runNetCoverLoss_fixed s)
  | reverseModeFault overCurrent => exact State.arrive_fixed _ _ _ (runReverseModeFault_fixed overCurrent s)
  | foreignPoll d => exact State.arrive_fixed _ _ _ (runForeignPoll_fixed d s)
  | twb1TransactionDone d t => exact State.arrive_fixed _ _ _ (runTwb1TransactionDone_fixed d t s)
  | sliceCalibration ofs gain => exact State.arrive_fixed _ _ _ (runSliceCalibration_fixed ofs gain s)
  | conversionStep q => exact State.arrive_fixed _ _ _ (runConversionStep_fixed q s)
  | conversionResult q codes => exact State.arrive_fixed _ _ _ (runConversionResult_fixed q codes s)
  | resultQueuePop io => exact State.arrive_fixed _ _ _ (runResultQueuePop_fixed io s)
  | adcRqFlush => exact State.arrive_fixed _ _ _ (runAdcRqFlush_fixed s)
  | meteringResult m raw => exact State.arrive_fixed _ _ _ (runMeteringResult_fixed m raw s)
  | mtrZero m => exact State.arrive_fixed _ _ _ (runMtrZero_fixed m s)
  | mtrFullScale m => exact State.arrive_fixed _ _ _ (runMtrFullScale_fixed m s)
  | mtrRestore m => exact State.arrive_fixed _ _ _ (runMtrRestore_fixed m s)
  | parkedListRun q => exact State.arrive_fixed _ _ _ (runParkedListRun_fixed q s)
  | sensorRefresh n x => exact State.arrive_fixed _ _ _ (runSensorRefresh_fixed n x s)
  | zoneEvaluation z => exact State.arrive_fixed _ _ _ (runZoneEvaluation_fixed z s)
  | fastModeExit z => exact State.arrive_fixed _ _ _ (runFastModeExit_fixed z s)
  | rateOfRise => exact State.arrive_fixed _ _ _ (runRateOfRise_fixed s)
  | packConversion idMv ntc => exact State.arrive_fixed _ _ _ (runPackConversion_fixed idMv ntc s)
  | sourceSelect m => exact State.arrive_fixed _ _ _ (runSourceSelect_fixed m s)
  | sourceSwitchOn => exact State.arrive_fixed _ _ _ (runSourceSwitchOn_fixed s)
  | sourceOvervoltage net => exact State.arrive_fixed _ _ _ (runSourceOvervoltage_fixed net s)
  | chargeEvaluation vpack ivr => exact State.arrive_fixed _ _ _ (runChargeEvaluation_fixed vpack ivr s)
  | chargeTermination => exact State.arrive_fixed _ _ _ (runChargeTermination_fixed s)
  | rechargeStart => exact State.arrive_fixed _ _ _ (runRechargeStart_fixed s)
  | packOvervoltage => exact State.arrive_fixed _ _ _ (runPackOvervoltage_fixed s)
  | packOvertemp hot => exact State.arrive_fixed _ _ _ (runPackOvertemp_fixed hot s)
  | trackingStep pMean iOut => exact State.arrive_fixed _ _ _ (runTrackingStep_fixed pMean iOut s)
  | safetyTimerUpdate iActual => exact State.arrive_fixed _ _ _ (runSafetyTimerUpdate_fixed iActual s)
  | packRemoval => exact State.arrive_fixed _ _ _ (runPackRemoval_fixed s)
  | packInsertion idMv => exact State.arrive_fixed _ _ _ (runPackInsertion_fixed idMv s)
  | gaugeModelStep held60 => exact State.arrive_fixed _ _ _ (runGaugeModelStep_fixed held60 s)
  | gaugeEvaluation => exact State.arrive_fixed _ _ _ (runGaugeEvaluation_fixed s)
  | vbkupLow low => exact State.arrive_fixed _ _ _ (runVbkupLow_fixed low s)
  | rtcFracRead io => exact State.arrive_fixed _ _ _ (runRtcFracRead_fixed io s)
  | rtcSetGo io => exact State.arrive_fixed _ _ _ (runRtcSetGo_fixed io s)
  | rtcHaltWrite io v => exact State.arrive_fixed _ _ _ (runRtcHaltWrite_fixed io v s)
  | watchdogTick w => exact State.arrive_fixed _ _ _ (runWatchdogTick_fixed w s)
  | wdgKey io w key => exact State.arrive_fixed _ _ _ (runWdgKey_fixed io w key s)
  | wdgCheckin io w bits => exact State.arrive_fixed _ _ _ (runWdgCheckin_fixed io w bits s)
  | wdgPeriodNew io w p => exact State.arrive_fixed _ _ _ (runWdgPeriodNew_fixed io w p s)
  | resetPulseEnd w => exact State.arrive_fixed _ _ _ (runResetPulseEnd_fixed w s)
  | flush failAt => exact State.arrive_fixed _ _ _ (runFlush_fixed failAt s)
  | recFlush io => exact State.arrive_fixed _ _ _ (runRecFlush_fixed io s)
  | recordSeek io k => exact State.arrive_fixed _ _ _ (runRecordSeek_fixed io k s)
  | seekComplete io => exact State.arrive_fixed _ _ _ (runSeekComplete_fixed io s)
  | recordRead io bad => exact State.arrive_fixed _ _ _ (runRecordRead_fixed io bad s)
  | recordAck io k => exact State.arrive_fixed _ _ _ (runRecordAck_fixed io k s)
  | freezeBegin io => exact State.arrive_fixed _ _ _ (runFreezeBegin_fixed io s)
  | freezeEnd io => exact State.arrive_fixed _ _ _ (runFreezeEnd_fixed io s)
  | remoteReadRequest io sl => exact State.arrive_fixed _ _ _ (runRemoteReadRequest_fixed io sl s)
  | remoteDataRead io => exact State.arrive_fixed _ _ _ (runRemoteDataRead_fixed io s)
  | recorderClear io ticket => exact State.arrive_fixed _ _ _ (runRecorderClear_fixed io ticket s)
  | page t => exact State.arrive_fixed _ _ _ (runPage_fixed t s)
  | operation t => exact State.arrive_fixed _ _ _ (runOperation_fixed t s)
  | clearFaults pec => exact State.arrive_fixed _ _ _ (runClearFaults_fixed pec s)
  | writeProtect t => exact State.arrive_fixed _ _ _ (runWriteProtect_fixed t s)
  | voutCommand t => exact State.arrive_fixed _ _ _ (runVoutCommand_fixed t s)
  | mfrQread addr n fetched bad => exact State.arrive_fixed _ _ _ (runMfrQread_fixed addr n fetched bad s)
  | mfrQwrite addr ws pec => exact State.arrive_fixed _ _ _ (runMfrQwrite_fixed addr ws pec s)
  | mfrQfifo addr n fetched bad => exact State.arrive_fixed _ _ _ (runMfrQfifo_fixed addr n fetched bad s)
  | mfrQreq ws pec => exact State.arrive_fixed _ _ _ (runMfrQreq_fixed ws pec s)
  | mfrQentry eccErr => exact State.arrive_fixed _ _ _ (runMfrQentry_fixed eccErr s)
  | invalidCommand isWrite => exact State.arrive_fixed _ _ _ (runInvalidCommand_fixed isWrite s)
  | alertResponse arbWon => exact State.arrive_fixed _ _ _ (runAlertResponse_fixed arbWon s)
  | hostNotify ok => exact State.arrive_fixed _ _ _ (runHostNotify_fixed ok s)
  | hostNotifyRetry ok => exact State.arrive_fixed _ _ _ (runHostNotifyRetry_fixed ok s)
  | spiReadFrame bytes avail bad => exact execSpiReadFrame_fixed bytes avail bad s
  | spiWriteFrame bytes => exact State.arrive_fixed _ _ _ (runSpiWriteFrame_fixed bytes s)
  | gpioChange n level => exact State.arrive_fixed _ _ _ (runGpioChange_fixed n level s)
  | motionChange moving pulses => exact State.arrive_fixed _ _ _ (runMotionChange_fixed moving pulses s)
  | program io w => exact State.arrive_fixed _ _ _ (runProgram_fixed io w s)
  | sealWord io w => exact State.arrive_fixed _ _ _ (runSealWord_fixed io w s)
  | lcAdvance io w => exact State.arrive_fixed _ _ _ (runLcAdvance_fixed io w s)
  | revoke io w => exact State.arrive_fixed _ _ _ (runRevoke_fixed io w s)
  | ctrRaise io w => exact State.arrive_fixed _ _ _ (runCtrRaise_fixed io w s)
  | otpPulseDone reads1 => simp [movesFixed] at hm
  | openSession src => exact State.arrive_fixed _ _ _ (runOpenSession_fixed src s)
  | verify src => exact State.arrive_fixed _ _ _ (runVerify_fixed src s)
  | copyDone fail => exact State.arrive_fixed _ _ _ (runCopyDone_fixed fail s)
  | activate src => exact State.arrive_fixed _ _ _ (runActivate_fixed src s)
  | abort src => exact State.arrive_fixed _ _ _ (runAbort_fixed src s)
  | lock io => exact State.arrive_fixed _ _ _ (runLock_fixed io s)
  | unlock io => exact State.arrive_fixed _ _ _ (runUnlock_fixed io s)
  | tokenVerify io => exact State.arrive_fixed _ _ _ (runTokenVerify_fixed io s)
  | tokenCheckDone io => exact State.arrive_fixed _ _ _ (runTokenCheckDone_fixed io s)
  | authExpire io => exact State.arrive_fixed _ _ _ (runAuthExpire_fixed io s)
  | blockIndex io k => exact State.arrive_fixed _ _ _ (runBlockIndex_fixed io k s)
  | blockData io w => exact State.arrive_fixed _ _ _ (runBlockData_fixed io w s)
  | blockCrc io crc => exact State.arrive_fixed _ _ _ (runBlockCrc_fixed io crc s)
  | remoteStage io sl => exact State.arrive_fixed _ _ _ (runRemoteStage_fixed io sl s)
  | remoteActivate io => exact State.arrive_fixed _ _ _ (runRemoteActivate_fixed io s)
  | remoteAbort io => exact State.arrive_fixed _ _ _ (runRemoteAbort_fixed io s)
  | keepAliveCrossing up mv => exact State.arrive_fixed _ _ _ (runKeepAliveCrossing_fixed up mv s)
  | vholdHoldCrossing up => exact State.arrive_fixed _ _ _ (runVholdHoldCrossing_fixed up s)
  | pllRelock b => exact State.arrive_fixed _ _ _ (runPllRelock_fixed b s)
  | tapInstruction code => exact execTapInstruction_fixed code s
  | chargerStageFault => exact State.arrive_fixed _ _ _ (runChargerStageFault_fixed s)
  | packUndervoltage => exact State.arrive_fixed _ _ _ (runPackUndervoltage_fixed s)
  | cleanReference => exact State.arrive_fixed _ _ _ (runCleanReference_fixed s)
  | referenceStale => exact State.arrive_fixed _ _ _ (runReferenceStale_fixed s)
  | learningTimeout => exact State.arrive_fixed _ _ _ (runLearningTimeout_fixed s)
  | hibernationEnter => exact State.arrive_fixed _ _ _ (runHibernationEnter_fixed s)
  | hibernationExit => exact State.arrive_fixed _ _ _ (runHibernationExit_fixed s)
  | gaugeSave => exact State.arrive_fixed _ _ _ (runGaugeSave_fixed s)
  | backupReset => exact State.arrive_fixed _ _ _ (runBackupReset_fixed s)
  | rtcIncrement => exact State.arrive_fixed _ _ _ (runRtcIncrement_fixed s)
  | oscillatorStopDetect => exact execOscillatorStopDetect_fixed s
  | rtcLoad => exact State.arrive_fixed _ _ _ (runRtcLoad_fixed s)
  | freezeTimeout => exact State.arrive_fixed _ _ _ (runFreezeTimeout_fixed s)
  | capability => exact State.arrive_fixed _ _ _ (runCapability_fixed s)
  | voutMode => exact State.arrive_fixed _ _ _ (runVoutMode_fixed s)
  | statusByte => exact State.arrive_fixed _ _ _ (runStatusByte_fixed s)
  | statusWord => exact State.arrive_fixed _ _ _ (runStatusWord_fixed s)
  | statusVout => exact State.arrive_fixed _ _ _ (runStatusVout_fixed s)
  | statusIout => exact State.arrive_fixed _ _ _ (runStatusIout_fixed s)
  | statusCml => exact State.arrive_fixed _ _ _ (runStatusCml_fixed s)
  | readVout => exact State.arrive_fixed _ _ _ (runReadVout_fixed s)
  | readIout => exact State.arrive_fixed _ _ _ (runReadIout_fixed s)
  | readTemperature1 => exact State.arrive_fixed _ _ _ (runReadTemperature1_fixed s)
  | pmbusRevision => exact State.arrive_fixed _ _ _ (runPmbusRevision_fixed s)
  | mfrId => exact State.arrive_fixed _ _ _ (runMfrId_fixed s)
  | mfrModel => exact State.arrive_fixed _ _ _ (runMfrModel_fixed s)
  | mfrRevision => exact State.arrive_fixed _ _ _ (runMfrRevision_fixed s)
  | mfrQcpl => exact State.arrive_fixed _ _ _ (runMfrQcpl_fixed s)
  | twb0Timeout => exact State.arrive_fixed _ _ _ (runTwb0Timeout_fixed s)
  | verifyDone => exact State.arrive_fixed _ _ _ (runVerifyDone_fixed s)
  | motionRefreshLimit => exact State.arrive_fixed _ _ _ (runMotionRefreshLimit_fixed s)

theorem runHeld_fixed (c : Instr) (s : State) (hb : ∀ b, c ≠ .otpPulseDone b) (hk : ∀ e m, c ≠ .epochMarker e m) (hp : c ≠ .parkEntry) (hw : ∀ l k, c ≠ .wake l k) : (s.after (runHeld c s)).fixed = s.fixed := by
  cases c with
  | vholdStart => rfl
  | vholdBrownOut => rfl
  | sourceBrownOut _ _ => rfl
  | porstNLow => rfl
  | porstNRelease => rfl
  | coldStart _ => rfl
  | recoveryColdStart => rfl
  | warmStart _ => rfl
  | parkEntry => exact absurd rfl hp
  | wake p c => exact absurd rfl (hw _ _)
  | wakeCommand i => exact runWakeCommand_fixed i s
  | requestSubmit i w0 => exact runRequestSubmit_fixed i w0 s
  | requestCapture _ => rfl
  | bundleMemberStage i w0 => exact runBundleMemberStage_fixed i w0 s
  | bundleBufferTimeout i => exact runBundleBufferTimeout_fixed i s
  | bundleBufferClear i => exact runBundleBufferClear_fixed i s
  | shankOrder => rfl
  | stitchIssue _ => rfl
  | tackConfirm slot seq => exact runTackConfirm_fixed slot seq s
  | timeLimitExpiry slot => exact runTimeLimitExpiry_fixed slot s
  | soleCommit => rfl
  | bundleCommit => rfl
  | epochTick => rfl
  | catchUpComplete _ => rfl
  | recheckResubmit li => exact runRecheckResubmit_fixed li s
  | envelopeCorrection li => exact runEnvelopeCorrection_fixed li s
  | faceplateRead i word eccErr => exact runFaceplateRead_fixed i word eccErr s
  | snapshotPinSet i => exact runSnapshotPinSet_fixed i s
  | snapshotPinClear i => exact runSnapshotPinClear_fixed i s
  | epochLowRead i k => exact runEpochLowRead_fixed i k s
  | completionPop i => exact runCompletionPop_fixed i s
  | peakClr => exact runPeakClr_fixed s
  | cplLostClr i => exact runCplLostClr_fixed i s
  | registerWrite i addr w => exact runRegisterWrite_fixed i addr w s
  | stageFault p low => exact runStageFault_fixed p low s
  | persistentCurrentLimit p limited => exact runPersistentCurrentLimit_fixed p limited s
  | overloadEnd p => exact runOverloadEnd_fixed p s
  | spareFirstPulse p => exact runSpareFirstPulse_fixed p s
  | phaseLatch p => exact runPhaseLatch_fixed p s
  | phaseImbalance p => exact runPhaseImbalance_fixed p s
  | shedEvaluation r => exact runShedEvaluation_fixed r s
  | loadLineEvaluation r => exact runLoadLineEvaluation_fixed r s
  | railFirstPulse r vout => exact runRailFirstPulse_fixed r vout s
  | shortDetect r vout limitedAt30 => exact runShortDetect_fixed r vout limitedAt30 s
  | overvoltage r abs vout => exact runOvervoltage_fixed r abs vout s
  | undervoltage r vout => exact runUndervoltage_fixed r vout s
  | outputDischarged r => exact runOutputDischarged_fixed r s
  | dischargeTimeout r => exact runDischargeTimeout_fixed r s
  | powerGood r => exact runPowerGood_fixed r s
  | powerGoodTimeout r => exact runPowerGoodTimeout_fixed r s
  | telemetrySample r pins sense => exact runTelemetrySample_fixed r pins sense s
  | railPkClr r => exact runRailPkClr_fixed r s
  | railLsPkClr => exact runRailLsPkClr_fixed s
  | inrushComplete sw => exact runInrushComplete_fixed sw s
  | inrushTimeout sw => exact runInrushTimeout_fixed sw s
  | switchShort sw => exact runSwitchShort_fixed sw s
  | gateFault sw => exact runGateFault_fixed sw s
  | i2tUpdate sw iMean dtUs => exact runI2tUpdate_fixed sw iMean dtUs s
  | loopSample _ _ => rfl
  | loopTrcArm b => exact runLoopTrcArm_fixed b s
  | loopTrcForce b => exact runLoopTrcForce_fixed b s
  | loopTrcStop b => exact runLoopTrcStop_fixed b s
  | loopTrcGarm mask => exact runLoopTrcGarm_fixed mask s
  | loopTrcGforce mask => exact runLoopTrcGforce_fixed mask s
  | loopSatClr r => exact runLoopSatClr_fixed r s
  | delayEnd g => exact runDelayEnd_fixed g s
  | waitSatisfied g => exact runWaitSatisfied_fixed g s
  | waitTimeout g => exact runWaitTimeout_fixed g s
  | retryBegin g => exact runRetryBegin_fixed g s
  | inputLost b mv => exact runInputLost_fixed b mv s
  | inputReturn b => exact runInputReturn_fixed b s
  | inputsStable => exact runInputsStable_fixed s
  | resumeTimeout g => exact runResumeTimeout_fixed g s
  | snapshotCommand i mv => exact runSnapshotCommand_fixed i mv s
  | snapshotWritten => exact runSnapshotWritten_fixed s
  | faultLineChange n asserted cause => exact runFaultLineChange_fixed n asserted cause s
  | integrityLost n => exact runIntegrityLost_fixed n s
  | lineTest _ _ => rfl
  | finLevel f lvl => exact runFinLevel_fixed f lvl s
  | persistQualify n => exact runPersistQualify_fixed n s
  | occurrenceExpire n => exact runOccurrenceExpire_fixed n s
  | sourceEntryCommit n => exact runSourceEntryCommit_fixed n s
  | latchSubmit li => exact runLatchSubmit_fixed li s
  | failedRecovery li => exact runFailedRecovery_fixed li s
  | fltFset k mask => exact runFltFset_fixed k mask s
  | fltFclr k mask => exact runFltFclr_fixed k mask s
  | fltSwSet mask => exact runFltSwSet_fixed mask s
  | fltSwClr mask => exact runFltSwClr_fixed mask s
  | fltFaultnRel => exact runFltFaultnRel_fixed s
  | evtAck i k mask => exact runEvtAck_fixed i k mask s
  | voteMismatch l => exact State.isolateNote_fixed s l
  | laneCheckerError l kind => exact (State.isolateNote_fixed _ _).trans (State.checkNote_fixed s l kind)
  | linkCopyCrcFail => exact runLinkCopyCrcFail_fixed s
  | checkpoint _ _ => rfl
  | chuckHold _ => rfl
  | holdCheckerStage _ _ => rfl
  | holdReplayStage _ _ => rfl
  | holdSelfTestStage _ _ => rfl
  | reformSelfTestDone _ _ => rfl
  | reformCopyDone _ => rfl
  | crystalStop => exact State.crystalNote_fixed s
  | pllLockLoss b => exact State.of_ite rfl (State.pllNote_fixed s b)
  | clockOutOfRange c => exact State.rangeNote_fixed s c
  | x32Stop => exact State.of_ite (State.x32Note_fixed s) rfl
  | clockSwitchDone _ => rfl
  | pllReturn => rfl
  | referenceDisagree k othersAgree => exact runReferenceDisagree_fixed k othersAgree s
  | reverseCurrent b => exact runReverseCurrent_fixed b s
  | idealDiodeReenable b => exact runIdealDiodeReenable_fixed b s
  | vinOvervoltage b => exact runVinOvervoltage_fixed b s
  | vinOvRelease b => exact runVinOvRelease_fixed b s
  | idealDiodeGateFault b => exact runIdealDiodeGateFault_fixed b s
  | supplyUndervoltage sup low => exact runSupplyUndervoltage_fixed sup low s
  | laneHoldPkClr => exact runLaneHoldPkClr_fixed s
  | eyeletLock e => exact runEyeletLock_fixed e s
  | eyeletLockLoss e => exact runEyeletLockLoss_fixed e s
  | helloTimeout e => exact runHelloTimeout_fixed e s
  | helloSend e => exact runHelloSend_fixed e s
  | hello e h arrival => exact runHello_fixed e h arrival s
  | linkSend e => exact runLinkSend_fixed e s
  | link e ack nak credits => exact runLink_fixed e ack nak credits s
  | frameDiscard e => exact runFrameDiscard_fixed e s
  | sequenceReject e => exact runSequenceReject_fixed e s
  | resendTimeout e => exact runResendTimeout_fixed e s
  | creditTimeout e cls => exact runCreditTimeout_fixed e cls s
  | frameForward e f => exact runFrameForward_fixed e f s
  | markerSend => exact runMarkerSend_fixed s
  | epochMarker e m => exact absurd rfl (hk _ _)
  | parentLost => exact runParentLost_fixed s
  | joinRequest => exact runJoinRequest_fixed s
  | joinRetry => exact runJoinRetry_fixed s
  | joinReq e src j epochLen hops => exact runJoinReq_fixed e src j epochLen hops s
  | joinGrant e j => exact runJoinGrant_fixed e j s
  | leave e uid => exact runLeave_fixed e uid s
  | lost e slots => exact runLost_fixed e slots s
  | op e dst ws otag => exact runOp_fixed e dst ws otag s
  | cpl e ws otag => exact runCpl_fixed e ws otag s
  | delta e src d => exact runDelta_fixed e src d s
  | mirror e m => exact runMirror_fixed e m s
  | bulk e src b => exact runBulk_fixed e src b s
  | leaveCommand i => exact runLeaveCommand_fixed i s
  | slotHoldExpire sl => exact runSlotHoldExpire_fixed sl s
  | takeover => exact runTakeover_fixed s
  | wakeSlotCommand i sl => exact runWakeSlotCommand_fixed i sl s
  | laceWakeDetect => exact runLaceWakeDetect_fixed s
  | energyTimeLimit => exact runEnergyTimeLimit_fixed s
  | netCoverLoss => exact runNetCoverLoss_fixed s
  | reverseModeFault overCurrent => exact runReverseModeFault_fixed overCurrent s
  | foreignPoll d => exact runForeignPoll_fixed d s
  | twb1TransactionDone d t => exact runTwb1TransactionDone_fixed d t s
  | sliceCalibration ofs gain => exact runSliceCalibration_fixed ofs gain s
  | conversionStep q => exact runConversionStep_fixed q s
  | conversionResult q codes => exact runConversionResult_fixed q codes s
  | resultQueuePop i => exact runResultQueuePop_fixed i s
  | adcRqFlush => exact runAdcRqFlush_fixed s
  | meteringResult m raw => exact runMeteringResult_fixed m raw s
  | mtrZero m => exact runMtrZero_fixed m s
  | mtrFullScale m => exact runMtrFullScale_fixed m s
  | mtrRestore m => exact runMtrRestore_fixed m s
  | parkedListRun q => exact runParkedListRun_fixed q s
  | sensorRefresh n x => exact runSensorRefresh_fixed n x s
  | zoneEvaluation z => exact runZoneEvaluation_fixed z s
  | fastModeExit z => exact runFastModeExit_fixed z s
  | rateOfRise => exact runRateOfRise_fixed s
  | packConversion idMv ntc => exact runPackConversion_fixed idMv ntc s
  | sourceSelect m => exact runSourceSelect_fixed m s
  | sourceSwitchOn => exact runSourceSwitchOn_fixed s
  | sourceOvervoltage net => exact runSourceOvervoltage_fixed net s
  | chargeEvaluation vpack ivr => exact runChargeEvaluation_fixed vpack ivr s
  | chargeTermination => exact runChargeTermination_fixed s
  | rechargeStart => exact runRechargeStart_fixed s
  | packOvervoltage => exact runPackOvervoltage_fixed s
  | packOvertemp hot => exact runPackOvertemp_fixed hot s
  | trackingStep pMean iOut => exact runTrackingStep_fixed pMean iOut s
  | safetyTimerUpdate iActual => exact runSafetyTimerUpdate_fixed iActual s
  | packRemoval => exact runPackRemoval_fixed s
  | packInsertion idMv => exact runPackInsertion_fixed idMv s
  | gaugeModelStep held60 => exact runGaugeModelStep_fixed held60 s
  | gaugeEvaluation => exact runGaugeEvaluation_fixed s
  | vbkupLow low => exact runVbkupLow_fixed low s
  | rtcFracRead i => exact runRtcFracRead_fixed i s
  | rtcSetGo i => exact runRtcSetGo_fixed i s
  | rtcHaltWrite i v => exact runRtcHaltWrite_fixed i v s
  | watchdogTick w => exact runWatchdogTick_fixed w s
  | wdgKey i w key => exact runWdgKey_fixed i w key s
  | wdgCheckin i w bits => exact runWdgCheckin_fixed i w bits s
  | wdgPeriodNew i w p => exact runWdgPeriodNew_fixed i w p s
  | resetPulseEnd w => exact runResetPulseEnd_fixed w s
  | flush failAt => exact runFlush_fixed failAt s
  | recFlush i => exact runRecFlush_fixed i s
  | recordSeek i k => exact runRecordSeek_fixed i k s
  | seekComplete i => exact runSeekComplete_fixed i s
  | recordRead i bad => exact runRecordRead_fixed i bad s
  | recordAck i k => exact runRecordAck_fixed i k s
  | freezeBegin i => exact runFreezeBegin_fixed i s
  | freezeEnd i => exact runFreezeEnd_fixed i s
  | remoteReadRequest i sl => exact runRemoteReadRequest_fixed i sl s
  | remoteDataRead i => exact runRemoteDataRead_fixed i s
  | recorderClear i ticket => exact runRecorderClear_fixed i ticket s
  | page t => exact runPage_fixed t s
  | operation t => exact runOperation_fixed t s
  | clearFaults pec => exact runClearFaults_fixed pec s
  | writeProtect t => exact runWriteProtect_fixed t s
  | voutCommand t => exact runVoutCommand_fixed t s
  | mfrQread addr n fetched bad => exact runMfrQread_fixed addr n fetched bad s
  | mfrQwrite addr ws pec => exact runMfrQwrite_fixed addr ws pec s
  | mfrQfifo addr n fetched bad => exact runMfrQfifo_fixed addr n fetched bad s
  | mfrQreq ws pec => exact runMfrQreq_fixed ws pec s
  | mfrQentry eccErr => exact runMfrQentry_fixed eccErr s
  | invalidCommand isWrite => exact runInvalidCommand_fixed isWrite s
  | alertResponse arbWon => exact runAlertResponse_fixed arbWon s
  | hostNotify ok => exact runHostNotify_fixed ok s
  | hostNotifyRetry ok => exact runHostNotifyRetry_fixed ok s
  | spiReadFrame _ _ _ => rfl
  | spiWriteFrame bytes => exact runSpiWriteFrame_fixed bytes s
  | gpioChange n level => exact runGpioChange_fixed n level s
  | motionChange moving pulses => exact runMotionChange_fixed moving pulses s
  | program i w => exact runProgram_fixed i w s
  | sealWord i w => exact runSealWord_fixed i w s
  | lcAdvance i w => exact runLcAdvance_fixed i w s
  | revoke i w => exact runRevoke_fixed i w s
  | ctrRaise i w => exact runCtrRaise_fixed i w s
  | otpPulseDone reads1 => exact absurd rfl (hb _)
  | openSession src => exact runOpenSession_fixed src s
  | verify src => exact runVerify_fixed src s
  | copyDone fail => exact runCopyDone_fixed fail s
  | activate src => exact runActivate_fixed src s
  | abort src => exact runAbort_fixed src s
  | lock i => exact runLock_fixed i s
  | unlock i => exact runUnlock_fixed i s
  | tokenVerify i => exact runTokenVerify_fixed i s
  | tokenCheckDone i => exact runTokenCheckDone_fixed i s
  | authExpire i => exact runAuthExpire_fixed i s
  | blockIndex i k => exact runBlockIndex_fixed i k s
  | blockData i w => exact runBlockData_fixed i w s
  | blockCrc i crc => exact runBlockCrc_fixed i crc s
  | remoteStage i sl => exact runRemoteStage_fixed i sl s
  | remoteActivate i => exact runRemoteActivate_fixed i s
  | remoteAbort i => exact runRemoteAbort_fixed i s
  | keepAliveCrossing up mv => exact runKeepAliveCrossing_fixed up mv s
  | vholdHoldCrossing up => exact runVholdHoldCrossing_fixed up s
  | pllRelock b => exact State.of_ite rfl (State.pllLockNote_fixed s b)
  | tapInstruction _ => rfl
  | chargerStageFault => exact runChargerStageFault_fixed s
  | packUndervoltage => exact runPackUndervoltage_fixed s
  | cleanReference => exact runCleanReference_fixed s
  | referenceStale => exact runReferenceStale_fixed s
  | learningTimeout => exact runLearningTimeout_fixed s
  | hibernationEnter => exact runHibernationEnter_fixed s
  | hibernationExit => exact runHibernationExit_fixed s
  | gaugeSave => exact runGaugeSave_fixed s
  | backupReset => exact State.osfNote_fixed s
  | rtcIncrement => exact State.rtcNote_fixed s
  | oscillatorStopDetect => rfl
  | rtcLoad => exact runRtcLoad_fixed s
  | freezeTimeout => exact runFreezeTimeout_fixed s
  | capability => exact runCapability_fixed s
  | voutMode => exact runVoutMode_fixed s
  | statusByte => exact runStatusByte_fixed s
  | statusWord => exact runStatusWord_fixed s
  | statusVout => exact runStatusVout_fixed s
  | statusIout => exact runStatusIout_fixed s
  | statusCml => exact runStatusCml_fixed s
  | readVout => exact runReadVout_fixed s
  | readIout => exact runReadIout_fixed s
  | readTemperature1 => exact runReadTemperature1_fixed s
  | pmbusRevision => exact runPmbusRevision_fixed s
  | mfrId => exact runMfrId_fixed s
  | mfrModel => exact runMfrModel_fixed s
  | mfrRevision => exact runMfrRevision_fixed s
  | mfrQcpl => exact runMfrQcpl_fixed s
  | twb0Timeout => exact runTwb0Timeout_fixed s
  | verifyDone => exact runVerifyDone_fixed s
  | motionRefreshLimit => exact runMotionRefreshLimit_fixed s
end Sys2Proof.Machine
end

