-- ==== Sys2Proof/WellFormed.lean ====
section
/-! DEFINITION. Which commands are well formed: the operands that the types of Syntax leave wider than the manual does. -/

namespace Sys2Proof

/-- Measured voltages fit 16 bits of mV (R253, R312). -/
def SupplyMv.wf (m : SupplyMv) : Bool := decide (m.vinA < 65536) && decide (m.vinB < 65536) && decide (m.vhold < 65536) && decide (m.ka < 65536)

/-- One calibration result for each of the 17 slices, gains of 16 bits (R403, R405). -/
def calsWf (l : List (Int × Nat)) : Bool := l.length == 17 && l.all fun x => decide (x.2 < 65536)

/-- A cold start brings one to three rows of self-test results, a result for each slice and VOUT_MODE bytes of foreign
items (R326, R396, R405). -/
def StartEnv.wf (e : StartEnv) : Bool :=
  decide (1 ≤ e.bist.length) && decide (e.bist.length ≤ 3) && calsWf e.cals && (e.vmodes.all fun x => decide (x.1 < 512)) && e.mv.wf

/-- A loop sample brings 2^k conversions, k from 0 to 7 (R181). -/
def LoopIn.wf (l : LoopIn) : Bool := [1, 2, 4, 8, 16, 32, 64, 128].contains l.senses.length

/-- The data of a PMBus write fit the command's width (R546). -/
def PmTx.wf (n : Nat) : PmTx → Bool
  | .read => true
  | .write v _ => decide (v < n)

/-- Well-formed commands. -/
def Instr.wf : Instr → Bool
  | .vholdStart => true
  | .vholdBrownOut => true
  | .sourceBrownOut _ _ => true
  | .porstNLow => true
  | .porstNRelease => true
  | .coldStart env => env.wf
  | .recoveryColdStart => true
  | .warmStart w => decide (w.len ≤ 3750)
  | .parkEntry => true
  | .wake _ cals => calsWf cals
  | .wakeCommand _ => true
  | .requestSubmit _ _ => true
  | .requestCapture _ => true
  | .bundleMemberStage _ _ => true
  | .bundleBufferTimeout _ => true
  | .bundleBufferClear _ => true
  | .shankOrder => true
  | .stitchIssue _ => true
  | .tackConfirm _ _ => true
  | .timeLimitExpiry _ => true
  | .soleCommit => true
  | .bundleCommit => true
  | .epochTick => true
  | .catchUpComplete _ => true
  | .recheckResubmit _ => true
  | .envelopeCorrection _ => true
  | .faceplateRead _ _ _ => true
  | .snapshotPinSet _ => true
  | .snapshotPinClear _ => true
  | .epochLowRead _ _ => true
  | .completionPop _ => true
  | .peakClr => true
  | .cplLostClr _ => true
  | .registerWrite _ _ _ => true
  | .stageFault _ _ => true
  | .persistentCurrentLimit _ limited => decide (limited ≤ 16)
  | .overloadEnd _ => true
  | .spareFirstPulse _ => true
  | .phaseLatch _ => true
  | .phaseImbalance _ => true
  | .shedEvaluation _ => true
  | .loadLineEvaluation _ => true
  | .railFirstPulse _ vout => decide (vout < 65536)
  | .shortDetect _ _ _ => true
  | .overvoltage _ _ _ => true
  | .undervoltage _ _ => true
  | .outputDischarged _ => true
  | .dischargeTimeout _ => true
  | .powerGood _ => true
  | .powerGoodTimeout _ => true
  | .telemetrySample _ pins _ => decide (pins.length ≤ 18)
  | .railPkClr _ => true
  | .railLsPkClr => true
  | .inrushComplete _ => true
  | .inrushTimeout _ => true
  | .switchShort _ => true
  | .gateFault _ => true
  | .i2tUpdate _ _ _ => true
  | .loopSample _ inp => inp.wf
  | .loopTrcArm _ => true
  | .loopTrcForce _ => true
  | .loopTrcStop _ => true
  | .loopTrcGarm _ => true
  | .loopTrcGforce _ => true
  | .loopSatClr _ => true
  | .delayEnd _ => true
  | .waitSatisfied _ => true
  | .waitTimeout _ => true
  | .retryBegin _ => true
  | .inputLost _ mv => mv.wf
  | .inputReturn _ => true
  | .inputsStable => true
  | .resumeTimeout _ => true
  | .snapshotCommand _ mv => mv.wf
  | .snapshotWritten => true
  | .faultLineChange _ _ _ => true
  | .integrityLost _ => true
  | .lineTest _ _ => true
  | .finLevel _ _ => true
  | .persistQualify _ => true
  | .occurrenceExpire _ => true
  | .sourceEntryCommit _ => true
  | .latchSubmit _ => true
  | .failedRecovery _ => true
  | .fltFset _ _ => true
  | .fltFclr _ _ => true
  | .fltSwSet _ => true
  | .fltSwClr _ => true
  | .fltFaultnRel => true
  | .evtAck _ _ _ => true
  | .voteMismatch _ => true
  | .laneCheckerError _ _ => true
  | .linkCopyCrcFail => true
  | .checkpoint _ _ => true
  | .chuckHold _ => true
  | .holdCheckerStage _ _ => true
  | .holdReplayStage _ _ => true
  | .holdSelfTestStage _ _ => true
  | .reformSelfTestDone _ _ => true
  | .reformCopyDone _ => true
  | .crystalStop => true
  | .pllLockLoss _ => true
  | .clockOutOfRange _ => true
  | .x32Stop => true
  | .clockSwitchDone _ => true
  | .pllReturn => true
  | .referenceDisagree _ _ => true
  | .reverseCurrent _ => true
  | .idealDiodeReenable _ => true
  | .vinOvervoltage _ => true
  | .vinOvRelease _ => true
  | .idealDiodeGateFault _ => true
  | .supplyUndervoltage _ _ => true
  | .laneHoldPkClr => true
  | .eyeletLock _ => true
  | .eyeletLockLoss _ => true
  | .helloTimeout _ => true
  | .helloSend _ => true
  | .hello _ h _ => decide (h.epochLen < 65536)
  | .linkSend _ => true
  | .link _ _ _ credits => credits.length == 4
  | .frameDiscard _ => true
  | .sequenceReject _ => true
  | .resendTimeout _ => true
  | .creditTimeout _ _ => true
  | .frameForward _ f => decide (f.payload.length ≤ 1156)
  | .markerSend => true
  | .epochMarker _ _ => true
  | .parentLost => true
  | .joinRequest => true
  | .joinRetry => true
  | .joinReq _ _ _ epochLen hops => decide (epochLen < 65536) && decide (hops < 256)
  | .joinGrant _ _ => true
  | .leave _ _ => true
  | .lost _ _ => true
  | .op _ _ _ _ => true
  | .cpl _ _ _ => true
  | .delta _ _ d => decide (d.recs.length ≤ 63)
  | .mirror _ m => decide (m.recs.length ≤ 60) && decide (m.slots.length ≤ 60)
  | .bulk _ _ b => decide (b.data.length ≤ 1024)
  | .leaveCommand _ => true
  | .slotHoldExpire _ => true
  | .takeover => true
  | .wakeSlotCommand _ _ => true
  | .laceWakeDetect => true
  | .energyTimeLimit => true
  | .netCoverLoss => true
  | .reverseModeFault _ => true
  | .foreignPoll _ => true
  | .twb1TransactionDone _ _ => true
  | .sliceCalibration _ gain => decide (gain < 65536)
  | .conversionStep _ => true
  | .conversionResult _ codes => codes.all (fun x => decide (x < 16384))
  | .resultQueuePop _ => true
  | .adcRqFlush => true
  | .meteringResult _ raw => decide (-8388608 ≤ raw) && decide (raw ≤ 8388607)
  | .mtrZero _ => true
  | .mtrFullScale _ => true
  | .mtrRestore _ => true
  | .parkedListRun _ => true
  | .sensorRefresh _ _ => true
  | .zoneEvaluation _ => true
  | .fastModeExit _ => true
  | .rateOfRise => true
  | .packConversion idMv ntc => decide (idMv < 65536) && decide (ntc ≤ 65536)
  | .sourceSelect _ => true
  | .sourceSwitchOn => true
  | .sourceOvervoltage _ => true
  | .chargeEvaluation _ _ => true
  | .chargeTermination => true
  | .rechargeStart => true
  | .packOvervoltage => true
  | .packOvertemp _ => true
  | .trackingStep _ _ => true
  | .safetyTimerUpdate _ => true
  | .packRemoval => true
  | .packInsertion idMv => decide (idMv < 3300)
  | .gaugeModelStep _ => true
  | .gaugeEvaluation => true
  | .vbkupLow _ => true
  | .rtcFracRead _ => true
  | .rtcSetGo _ => true
  | .rtcHaltWrite _ _ => true
  | .watchdogTick _ => true
  | .wdgKey _ _ _ => true
  | .wdgCheckin _ _ _ => true
  | .wdgPeriodNew _ _ _ => true
  | .resetPulseEnd _ => true
  | .flush _ => true
  | .recFlush _ => true
  | .recordSeek _ _ => true
  | .seekComplete _ => true
  | .recordRead _ _ => true
  | .recordAck _ _ => true
  | .freezeBegin _ => true
  | .freezeEnd _ => true
  | .remoteReadRequest _ _ => true
  | .remoteDataRead _ => true
  | .recorderClear _ _ => true
  | .page t => t.wf 256
  | .operation t => t.wf 256
  | .clearFaults _ => true
  | .writeProtect t => t.wf 256
  | .voutCommand t => t.wf 65536
  | .mfrQread _ n fetched _ => decide (fetched ≤ n)
  | .mfrQwrite _ _ _ => true
  | .mfrQfifo _ n fetched _ => decide (fetched ≤ n)
  | .mfrQreq _ _ => true
  | .mfrQentry _ => true
  | .invalidCommand _ => true
  | .alertResponse _ => true
  | .hostNotify _ => true
  | .hostNotifyRetry _ => true
  | .spiReadFrame _ _ _ => true
  | .spiWriteFrame _ => true
  | .gpioChange _ _ => true
  | .motionChange _ _ => true
  | .program _ _ => true
  | .sealWord _ _ => true
  | .lcAdvance _ _ => true
  | .revoke _ _ => true
  | .ctrRaise _ _ => true
  | .otpPulseDone _ => true
  | .openSession _ => true
  | .verify _ => true
  | .copyDone _ => true
  | .activate _ => true
  | .abort _ => true
  | .lock _ => true
  | .unlock _ => true
  | .tokenVerify _ => true
  | .tokenCheckDone _ => true
  | .authExpire _ => true
  | .blockIndex _ _ => true
  | .blockData _ _ => true
  | .blockCrc _ _ => true
  | .remoteStage _ _ => true
  | .remoteActivate _ => true
  | .remoteAbort _ => true
  | .keepAliveCrossing _ mv => mv.wf
  | .vholdHoldCrossing _ => true
  | .pllRelock _ => true
  | .tapInstruction _ => true
  | .chargerStageFault => true
  | .packUndervoltage => true
  | .cleanReference => true
  | .referenceStale => true
  | .learningTimeout => true
  | .hibernationEnter => true
  | .hibernationExit => true
  | .gaugeSave => true
  | .backupReset => true
  | .rtcIncrement => true
  | .oscillatorStopDetect => true
  | .rtcLoad => true
  | .freezeTimeout => true
  | .capability => true
  | .voutMode => true
  | .statusByte => true
  | .statusWord => true
  | .statusVout => true
  | .statusIout => true
  | .statusCml => true
  | .readVout => true
  | .readIout => true
  | .readTemperature1 => true
  | .pmbusRevision => true
  | .mfrId => true
  | .mfrModel => true
  | .mfrRevision => true
  | .mfrQcpl => true
  | .twb0Timeout => true
  | .verifyDone => true
  | .motionRefreshLimit => true

end Sys2Proof
end

