-- ==== Sys2Proof/Tests/Slice0.lean ====
section
/-! SUPPORT. The model's own tests: states and operands that meet the hypotheses of every obligation, the worked examples of the
manual, and an ill-formed command for each check. -/

namespace Sys2Proof.Tests
open Sys2Proof Sys2Proof.Machine Host

set_option Elab.async false

/-- A field of a configuration, its instance and its value. -/
abbrev Setting := Fld × Nat × Nat

/-- A configuration with these fields, the others 0. -/
def cfg (l : List Setting) : Tbl Word :=
  l.foldl (fun t x => t.set 0 (x.1.addr x.2.1) (BitVec.ofNat 32 ((t.get 0 (x.1.addr x.2.1)).toNat + x.2.2 * 2 ^ x.1.lo))) []

/-- Ledger entries in these states. -/
def ents (l : List (Nat × EState)) : Tbl Entry := l.foldl (fun t x => t.set {} x.1 { st := x.2 }) []

/-- A governing block with a configuration and ledger entries in given states. -/
def up (l : List Setting) (e : List (Nat × EState) := []) : State :=
  { img := cfg l, glb := { mode := .run }, led := { epoch := 100, pubEpoch := 99, cur := ents e }, cyc := 1000000, tickAt := 1025000 }


/-- The watchdogs: one that runs, one at its last tick, one in its pulse. -/
def wdgRuns : State := { up [(Img.wdgUsed, 0, 1)] with wdgs := [(0, { per := 5, active := true })] }
def wdgEnds : State := { up [(Img.wdgUsed, 0, 1)] with wdgs := [(0, { n := 4, per := 5, active := true })] }
def wdgPulse : State := { up [(Img.wdgUsed, 7, 1)] with wdgs := [(7, { pulse := true })] }

/-- The clock: counting, at its wrap, with an alarm, halted, stopped, with a load that waits while its entry is STALE. -/
def clkOff : State := { rtc := { osf := false } }
def clkWrap : State := { up [] with rtc := { frac := 0xFFFE, sec := 0xFFFFFFFFFFFF } }
def clkAlarm : State := { up [] [(liRtc, .valid)] with rtc := { almEn := 1, cmp0 := 0x100002, frac := 0 } }
def clkHalt : State := { up [] [(liRtc, .held)] with rtc := { halt := true } }
def clkLoad : State := { up [] [(liRtc, .stale)] with rtc := { busy := some (0x1234, 77, .spi) } }
def clkLoadV : State := { up [] [(liRtc, .valid)] with rtc := { busy := some (0x1234, 77, .spi) } }

/-- The charger's configuration of these tests: two cells, 4.2 V, bands on, 100 mA units. -/
def chgCfg : List Setting := [(Img.chgUsed, 0, 1), (Img.chgCells, 0, 2), (Img.chgVcv, 0, 4200), (Img.chgVtrk, 0, 2500), (Img.chgVpre, 0, 3000), (Img.chgIcc, 0, 100), (Img.chgBIcc, 0, 200), (Img.chgBEn, 0, 1), (Img.chgTmrMin, 0, 10), (Img.chgSolEn, 0, 1), (Img.chgNetEn, 0, 1), (Img.chgSolMin, 0, 20), (Img.chgSolOv, 0, 200), (Img.chgNetMin, 0, 40), (Img.chgNetOv, 0, 240), (Img.chgTrkStep, 0, 5)]
def chgBase : Chg := { mode := 3, conv := true, present := true, source := some true, solOn := true }
def chgOn : State := { up chgCfg [(liCharger, .on)] with chg := chgBase }
def chgOn4 : State := { up chgCfg [(liCharger, .on)] with chg := { chgBase with mode := 4 } }
def chgStart : State := { up chgCfg [(liCharger, .starting)] with chg := { chgBase with mode := 1 } }
def chgStart9 : State := { up chgCfg [(liCharger, .starting)] with chg := { chgBase with mode := 1, evals := 9 } }
def chgIdle : State := { up chgCfg [(liCharger, .off)] with chg := { present := true } }
def chgIdleN : State := { up chgCfg [(liCharger, .off)] with chg := { present := true, source := some false, netOn := true } }
def chgSwitch : State := { up chgCfg [(liCharger, .on)] with chg := { chgBase with switchTo := some false, solOn := false } }
def chgDone : State := { up chgCfg [(liCharger, .off)] with chg := { chgBase with mode := 0, conv := false, terminated := true, run := true } }
def chgTrk : State := { up chgCfg [(liCharger, .on)] with chg := { chgBase with trkUp := some true, pout := 100, limTrk := 500 } }
def chgEnds : State := { up chgCfg [(liCharger, .on)] with chg := { chgBase with tmrEq := 10 * 6000 * 65536 - 1 } }
def chgRemoved : State := { up chgCfg [(liCharger, .latchedOff)] with chg := { removed := true } }
def chgRev : State := { up chgCfg [(liCharger, .on)] with chg := { mode := 6, conv := true, netOn := true }, lace := { energy := some ⟨1, 3, 10, 100, 0⟩ } }
def chgBase0 : State := { up chgCfg [(liCharger, .off)] with chg := {} }

/-- The gauge: running, hibernating, without a pack, just inserted, at its empty voltage, stale, learning. -/
def gauCfg : List Setting := [(Img.gauUsed, 0, 1), (Img.gauVEmpty, 0, 3000), (Img.gauWarnHys, 0, 2), (Img.gauRestI, 0, 50), (Img.gauLrnTmax, 0, 1), (Img.gauURate, 0, 3)]
def gauRun : State := { up gauCfg [(liGauge, .valid)] with gau := { pres := true, q := 1000, iMa := 20, vCell := 3700 } }
def gauHib : State := { up gauCfg [(liGauge, .held)] with gau := { pres := true, q := 1000, hib := true } }
def gauNone : State := { up gauCfg [(liGauge, .off)] with gau := {} }
def gauBind : State := { up gauCfg [(liGauge, .off)] with gau := { pres := true, q := 1000, binding := true } }
def gauOld : State := { up gauCfg [(liGauge, .valid)] with gau := { pres := true, refAge := 259200 } }
def gauLearn : State := { up gauCfg [(liGauge, .valid)] with gau := { pres := true, learn := some (1, 1, 86400) } }
def chgSun : State := { chgOn with chg := { chgBase with meas := ⟨10000, 0, true⟩ } }

/-- Requests and operations of these tests. -/
def rqLimit : Req := { ep := 5, kind := .limit, val := 100, cls := 4, reqr := 0x40, tag := 9 }
def rqAbsent : Req := { ep := 1000, kind := .limit, val := 100, cls := 4 }
def rqSame : Req := { ep := 128, kind := .state, val := 2, cls := 4 }
def rqPub : Req := { ep := 0x100, kind := .publish, val := 77, val2 := 1, cls := 5, reqr := 0x28 }
def rqSet : Req := { ep := 0x600, kind := .setpoint, val := 50, cls := 4, reqr := 0x40 }
def rqEnv : Req := { ep := 30, kind := .setpoint, val := 50, cls := 5 }
def rqSubst : Req := { ep := 0, kind := .substitute, val := 0x41 }
def opLimit : Op := { req := rqLimit, seq := 3, val := 100 }
def opPub : Op := { req := rqPub, seq := 3, val := 77 }
def opSet : Op := { req := rqSet, seq := 3, val := 50, bundle := some 0 }
def opOn : Op := { req := { ep := 1, kind := .state, val := 3 }, seq := 3, links := [.on] }
def opOff : Op := { req := { ep := 1, kind := .state, val := 1 }, seq := 3, links := [.off] }
def opSubst : Op := { req := rqSubst, seq := 3, val := 0x41 }
def tkLimit : TackSlot := { op := opLimit }
def tkRemote : TackSlot := { op := { req := { rqLimit with ep := 0x1805 }, seq := 3, val := 100 } }
def tkSwitch : TackSlot := { op := { req := { ep := 0x80, kind := .state, val := 3 }, seq := 3, links := [.on] } }
def tkDone : TackSlot := { op := opLimit, confirmed := true }
def tkOn : TackSlot := { op := opOn }
def tkOff : TackSlot := { op := opOff }
def tkSubst : TackSlot := { op := opSubst }
def cplA : Cpl := { ep := 5, tag := 9 }

/-- The configuration of these tests: rails 0 and 1 with phases 0 to 3, a spare, a linear rail, a load switch. -/
def railCfg : List Setting := [(Img.railUsed, 0, 1), (Img.railUsed, 1, 1), (Img.railUsed, 30, 1), (Img.phUsed, 0, 1), (Img.phUsed, 1, 1), (Img.phUsed, 2, 1), (Img.phUsed, 3, 1), (Img.phRail, 0, 0), (Img.phRail, 1, 1), (Img.phRail, 2, 1), (Img.phRail, 3, 1), (Img.railImbPct, 1, 10), (Img.railClPersist, 1, 4), (Img.evtUsed, 1, 1), (Img.railEnvPhmax, 1, 3), (Img.railEnvPhmin, 1, 1), (Img.railEnvVhi, 30, 2000), (Img.railEnvVlo, 30, 1000), (Img.loopLlUohm, 1, 100), (Img.railOvAct, 1, 1), (Img.lsUsed, 0, 1), (Img.lsIcont, 0, 10), (Img.lsI2tK, 0, 1), (Img.loopWmax, 1, 100000), (Img.loopImax, 1, 100000)]
def onRail (r : Rail) (e : EState) (p : EState := .on) : State :=
  { up railCfg [(0, e), (1, e), (30, .on), (0x40, p), (0x41, p), (0x42, .off), (0x43, p), (0x80, .on)] with rails := [(1, r)] }

def idle : State := up []
def full : State := { up [] with pipe := { queues := [(4, List.replicate 64 (1, [rqLimit]))] } }
def staged : State := { up [] with host := { twb0 := { bndBuf := [rqLimit], lastTag := 9, w1 := 100 }, spi := { bndBuf := [rqLimit, rqSame] } } }
def offered : State := { up [] with pipe := { offers := [(0, [rqLimit])] } }
def offered5 : State := { up [] with pipe := { offers := [(5, [rqLimit])] } }
def shank : State := { up [] [(5, .on)] with pipe := { queues := [(4, [(1, [rqLimit])])] } }
def shankRef : State := { up [] with pipe := { queues := [(4, [(1, [rqAbsent])])] } }
def shankNoop : State := { up [] with led := { epoch := 100, pubEpoch := 99, cur := [(128, { st := .on, ty := 5 })] }, pipe := { queues := [(4, [(1, [rqSame])])] } }
def shank1 : State := (shank.setQueue 4 []).modPipe (fun p => { p with seqNo := shank.pipe.seqNo + 1 })
def shankRef1 : State := (shankRef.setQueue 4 []).modPipe (fun p => { p with seqNo := shankRef.pipe.seqNo + 1 })
def shankNoop1 : State := (shankNoop.setQueue 4 []).modPipe (fun p => { p with seqNo := shankNoop.pipe.seqNo + 1 })
def stitching : State := { up [] with pipe := { normQ := [opLimit] } }
def inTack : State := { up [] with pipe := { tack := [(3, some tkLimit)] } }
def inTackDone : State := { up [] with pipe := { tack := [(3, some tkDone)] } }
def atSole : State := { up [] with led := { epoch := 100, pubEpoch := 99, cur := [(0x100, { st := .valid, ty := 6 })] }, pipe := { soleQ := [{ op := opPub, final := true }] } }
def inBundle : State := { up [] with led := { epoch := 100, pubEpoch := 99, cur := [(0x600, { st := .on, ty := 0x14, flags := flagMask fINBUNDLE })] }, pipe := { bundles := [(0, some { seqs := [3], confirmed := [3], members := [opSet], passed := true })], tack := [(3, some { op := opSet, confirmed := true })] } }
def latchedEp : State := { up [] with host := { twb0 := { entryLatch := some (0, [1, 2, 3, 1]), cplFifo := [cplA] } } }
def pinnedSt : State := { up [] with led := { epoch := 100, pubEpoch := 99, pinned := true } }
def catching : State := { up [] with led := { epoch := 100, pubEpoch := 99, catchUp := true, catchUpLen := 1, journal := [.entry 99 1 {}] } }
def rechecking : State := { up [] with pipe := { rechecks := [(true, rqLimit)] } }
def correcting : State := { onRail {} .on with pipe := { corrections := [30] } }
def overloaded : State := onRail { overload := some 3 } .on
def railOn : State := onRail {} .on
def railOnLim : State := { onRail {} .on with phases := [(1, { clNow := true }), (3, {clNow := true})] }
def phaseFailed : State := onRail {} .on .failed
def railStarting : State := onRail { en := true } .starting
def railStopping : State := onRail { discharged := false, en := true } .stopping
def railOff : State := onRail {} .off
def railRuns : State := onRail { running := true, target := 1000 } .on
def startTack : State := { onRail { en := true } .starting with pipe := { tack := [(3, some tkOn)] } }
def stopTack : State := { onRail { discharged := false } .stopping with pipe := { tack := [(3, some tkOff)] } }
def spareTack : State := { onRail {} .on with pipe := { tack := [(3, some tkSubst)] } }
def inrushing : State := { onRail {} .on with switches := [(0, { gate := true, inrush := true })] }
def tracing : State := { up [] with traces := [(0, { st := .armed }), (1, { st := .triggered }), (2, { st := .done })] }
def shankStays : State := { up [] [(5, .on)] with pipe := { normQ := [opLimit, opLimit, opLimit], queues := [(4, [(1, [rqLimit])])] } }
def railRetarget : State := onRail { running := true, target := 1000, newTarget := some 20000, newCyc := 1000000 } .on
def remoteTack : State := { up [] with pipe := { tack := [(3, some tkRemote)] } }
def railClEval : State := onRail { running := true, clEval := true } .on
def railShort : State := onRail { en := true, vTop := 500000, target := 2000 * 65536, rampMv := 1000 } .starting
def railShortMid : State := { onRail {} .starting with rails := [(0, { en := true, vTop := 500000, target := 2000 * 65536, rampMv := 1000, hwCyc := some (1000000, true) })] }
def railLow : State := onRail { running := true, acc := 2000 * 65536 } .on
def railGood : State := { onRail { en := true, ramped := true, pgood := true } .starting with pipe := { tack := [(3, some tkOn)] } }
def inrushTack : State := { onRail {} .on with switches := [(0, { gate := true, inrush := true })], pipe := { tack := [(3, some tkSwitch)] } }
def pcLimit : PCommit := { op := opLimit, final := true }
def atSoleLate : State := { up [] with led := { epoch := 100, pubEpoch := 99, cmtNow := 3840 }, pipe := { soleQ := [pcLimit] } }
def railSampled : State := onRail { running := true, sampCyc := some 1000000, vsamp := [7], isamp := [1] } .on
def inBundleLate : State := { inBundle with tickAt := 1000010 }

/-- Program words of these tests: a DELAY with a link, a DELAY, a WAIT_GROUP on group 1 at OFF with a time-out. -/
def wDelayL : Nat := 0x20002005
def wDelay : Nat := 0x20000003
def wWait : Nat := 0x30000111
def hDelayL : StepHdr := StepHdr.ofWord wDelayL
def hDelay : StepHdr := StepHdr.ofWord wDelay
def hWait : StepHdr := StepHdr.ofWord wWait
def seqCfg : List Setting := [(Img.seqUsed, 0, 1), (Img.seqRetryN, 0, 3), (Img.seqDnBase, 0, 8), (Img.seqProg, 0, wDelayL), (Img.seqProg, 1, wDelay), (Img.seqProg, 8, wDelay), (Img.seqProg, 9, wDelay)]
def waitCfg : List Setting := [(Img.seqUsed, 0, 1), (Img.seqUsed, 1, 1), (Img.seqRetryN, 0, 3), (Img.seqDnBase, 0, 8), (Img.seqDnBase, 1, 16), (Img.seqUpBase, 1, 24), (Img.seqProg, 0, wWait), (Img.seqProg, 1, wDelay), (Img.seqProg, 8, wDelay)]
def delaying : State := { up seqCfg [(liGroup 0, .starting)] with groups := [(0, { running := true, run := .delay })] }
def waitTrue : State := { up waitCfg [(liGroup 0, .starting), (liGroup 1, .off)] with groups := [(0, { running := true, run := .waitGroup })] }
def waitFalse : State := { up waitCfg [(liGroup 0, .starting), (liGroup 1, .on)] with groups := [(0, { running := true, run := .waitGroup })] }
def backingOff : State := { up seqCfg [(liGroup 0, .failed)] with groups := [(0, { backoff := true, retries := 1 })] }
def backingOffIl : State := { up seqCfg [(liGroup 0, .failed)] with groups := [(0, { backoff := true })], seq := { il := true } }
def inWait : State := { up seqCfg [(liGroup 0, .held)] with groups := [(0, { inwait := true, dir := true, step := 1 })] }

/-- Inputs: both present, one lost, the other lost, both lost with input loss declared, stable. -/
def inBoth : State := { up [] with seq := { lostA := false, lostB := false, kaOk := true } }
def inLostA : State := { up [] with seq := { lostA := true, lostB := false, kaOk := true } }
def inLostB : State := { up [] with seq := { lostA := false, lostB := true, kaOk := true, stable := true } }
def inLost : State := { up [] with seq := { il := true, kaOk := true } }
def snapBusy : State := { up [] with seq := { snapBusy := true, snap := some ([1, 2], false, 100, 3, 4) } }
def retriesOver : State := { backingOff with pipe := { soleQ := [{ op := { req := { ep := liGroup 0, kind := .state, val := 1, cls := 1 }, seq := 3 }, final := true }] } }

/-- Sources 5 (FLT_PERSIST set), 6 and 7 of these tests, with an event and a rail. -/
def fltCfg : List Setting := [(Img.fltUsed, 0, 1), (Img.fltUsed, 5, 1), (Img.fltUsed, 7, 1), (Img.fltPersist, 5, 10), (Img.fltPersist, 7, 10), (Img.fltSev, 5, 1), (Img.fltSev, 7, 3), (Img.fltForceEn, 5, 1), (Img.fltForceEn, 32, 1), (Img.evtUsed, 0, 1), (Img.railUsed, 1, 1)]
def fltIdle : State := up fltCfg
def fltOn : State := { up fltCfg with srcs := [(5, { line := true }), (7, { line := true })] }
def fltQual : State := { up fltCfg with srcs := [(5, { line := true, qual := true, occ := List.replicate 20 0, dirty := true }), (7, { qual := true, occ := [0,0,0] })] }
def fltDirty : State := { up fltCfg with srcs := [(7, { dirty := true }), (5, { dirty := true, line := true })], faultN := true }
def fltSafe : State := { up fltCfg with srcs := [(7, { line := true, qual := true })], faultN := true }
def failedRail : State := { up fltCfg [(1, .failed)] with pol := [(1, { latchSrc := some 5, failEpoch := 99, failWriter := 0x2021 })] }
def failedFree : State := { up fltCfg [(1, .failed)] with pol := [(1, { failEpoch := 99, failWriter := 0x2021 })] }
def failedInGroup : State := up [(Img.seqUsed, 0, 1), (Img.seqProg, 0, 0x10400000), (Img.seqProg, 1, 1), (Img.seqDnBase, 0, 8)] [(1, .failed), (liGroup 0, .failed)]
def fltLeft : State := { up fltCfg with srcs := [(5, { line := true, qual := true, occ := [0, 1000000], leftCyc := some 1000000 })] }

/-- Lanes: all vote; L1 in re-form at each step; two lanes; one lane; a chuck hold at each stage; a clock switch. -/
def laneRf (k : Nat) (att : Nat := 0) : State := { up [] with lane := { vote := 5, reform := 2, rfStep := [(1, k)], rfAtt := if att = 0 then [] else [(1, att)] } }
def lane3 : State := up []
def laneRf1 : State := laneRf 1
def laneRf1b : State := laneRf 1 2
def laneRf3 : State := laneRf 3
def laneRf4 : State := laneRf 4
def laneRf5 : State := { laneRf 5 with srcs := [(257, { line := true })] }
def lane2 : State := { up [] with lane := { vote := 5 } }
def lane1 : State := { up [] with lane := { vote := 1 } }
def holding : State := { up [(Img.railUsed, 1, 1)] [(1, .on)] with lane := { hold := some .checker }, rails := [(1, { hold := true })] }
def holdingR : State := { up [] with lane := { hold := some .replay } }
def holdingS : State := { up [] with lane := { hold := some .selfTest } }
def holdEnded : State := { up [] with lane := { holdLen := 77, holdMax := 99, endCyc := some 1000000 } }
def switching : State := { up [] with lane := { switching := true, xtalOk := false } }
def onPllB : State := { up [(Img.clkRet, 0, 1)] with lane := { clkSrc := 1 } }
def railLane : State := { up [(Img.railUsed, 1, 1)] [(1, .on)] with rails := [(1, {})] }
def pairsOff : State := { up [] with lane := { pairRc := 3, pairOv := 3 }, srcs := [(354, { line := true, holds := 1 }), (355, { line := true, holds := 1 }), (356, { line := true, holds := 2 }), (357, { line := true, holds := 2 })] }
def parkedSt : State := { up [] with glb := { mode := .parked }, lane := { clkSrc := 2 } }
def supplied : State := { up [(Img.chgUsed, 0, 1)] with lane := { pairOn := 3 } }

/-- Frames of these tests. -/
def helloA : Hello := { role := 1, eyelet := 0, hop := 0, offer := true, takeover := false, epochLen := 100, uid := 7, rootUid := 7, stamp := 1, echo := 0, turn := 0, epoch := 5 }
def helloF : Hello := { helloA with hop := 255, rootUid := 9 }
def joinA : Join := { uid := 0xAB, slot := 3, role := 3, epoch := 0 }
def join0 : Join := { joinA with slot := 0 }
def joinBad : Join := { joinA with role := 1 }
def markA : Marker := sealMarker { epoch := 100, countdown := 12500, jump := false, ddiv := 2, takeover := false, crc := 0 }
def markFar : Marker := sealMarker { markA with epoch := 4000 }
def markBad : Marker := { markA with crc := markA.crc + 1 }
def markOld : Marker := sealMarker { markA with epoch := 9 }
def wordsA : Words4 := ⟨5, 6, 7, 8⟩
def deltaA : DeltaFrame := { epoch := 50, last := true, full := false, parked := false, recs := [(5, wordsA)] }
def mirrorA : MirrorFrame := { epoch := 50, last := true, recs := [(5, wordsA)], slots := [] }
def frameD : Frame := { kind := .delta, dst := 0, src := 3, otag := 0, slot := 3, payload := [] }
def frameO : Frame := { kind := .op, dst := 3, src := 0, otag := 0, slot := 3, payload := [] }
def tkFor : TackSlot := { op := { req := { ep := liForeign 0, kind := .setpoint, val := 3000 }, seq := 3, val := 3000 } }
def laceCfg : List Setting := [(Img.laceEn, 0, 15), (Img.epochUs, 0, 100), (Img.laceTakeEn, 0, 1), (Img.laceTakeEp, 0, 3), (Img.laceHoldS, 0, 10), (Img.laceCrcThr, 1, 3), (Img.laceSlotRsv, 5, 1), (Img.twb1DUsed, 0, 1), (Img.twb1IType, 0, 2)]
def eyeUp : Eyelet := { st := .up, limits := [(0, 9), (1, 9), (2, 9), (3, 9)] }
def lace (role : Nat) (l : Lace) : State := { up laceCfg with glb := { mode := .run, role := role }, lace := l, otp := { words := [(0, { data := 0xAB })] } }
def laceDown : State := lace 3 {}
def laceTrain : State := lace 3 { eyes := [(0, { st := .train, sent := [0] })] }
def laceUp : State := lace 3 { eyes := [(0, { eyeUp with unacked := [(0, frameD), (1, frameD)] }), (1, { eyeUp with crcWin := 3 })], hop := 1, parent := some 0, rootUid := 7, mySlot := 3 }
def laceUp1 : State := lace 3 { eyes := [(1, eyeUp)], hop := 1, rootUid := 9 }
def laceStarved : State := lace 3 { eyes := [(0, { st := .up, txQ := [frameO] })], parent := some 0 }
def laceRelay : State := lace 3 { eyes := [(0, eyeUp), (1, eyeUp)], parent := some 0, mySlot := 3, hop := 1 }
def laceRoot : State := lace 1 { eyes := [(0, { eyeUp with child := true }), (1, eyeUp)], hop := 0, slots := [(3, { st := .counted, uid := 0xCD, eye := 0 }), (5, { st := .unreachable, uid := 0xCE }), (7, { st := .unreachable, uid := 0xCF })] }
def laceAlone : State := lace 3 { eyes := [(0, { eyeUp with last := some helloA }), (1, { eyeUp with last := some helloF })], refused := true }
def laceJoining : State := lace 3 { eyes := [(0, eyeUp)], parent := some 0, hop := 1, joining := some 0 }
def laceLost : State := lace 3 { eyes := [(0, eyeUp)], parent := some 0, hop := 1, mySlot := 3, noMarker := 3 }
def laceStandby : State := lace 2 { hop := 255, mySlot := 3, noMarker := 3, sinceMarker := 3, mirrorOkAtMarker := true, rootUid := 7, parent := some 0 }
def laceStandbyUp : State := lace 2 { eyes := [(0, eyeUp)], hop := 1, mySlot := 3, parent := some 0 }
def laceStandalone : State := lace 0 { eyes := [(0, eyeUp)] }
def laceSink : State := { lace 3 { energy := some ⟨2, 5, 8, 100, 7⟩ } with chg := { conv := true, mode := 3 } }
def laceParked : State := { lace 3 { parent := some 0 } with glb := { mode := .parked, role := 3 } }
def devFailing : State := { lace 0 {} with foreign := [(0, { fails := 2 })] }
def devUsed : State := lace 0 {}
def devPolls : State := { lace 0 { twb1 := some 0 } with foreign := [(0, { fails := 1, polling := true })] }
def devOther : State := { lace 0 { twb1 := some 3 } with foreign := [(0, { fails := 1, polling := true })] }
def devWrites : State := { lace 0 {} with vmodes := [(0, 0)], pipe := { tack := [(1, some tkFor)] } }
def laceOff : State := { laceRoot with img := cfg [] }

/-- Measurement: a sequencer with its list, awaited results, a full queue, a metering channel in calibration. -/
def adcCfg : List Setting := [(Img.adcSeqUsed, 0, 1), (Img.adcSeqPark, 0, 1), (Img.adcSeqEntry, 0, 0x80000000 + 3), (Img.adcSeqEntry, 1, 0x90000000 + 4), (Img.adcSeqFirst, 0, 0), (Img.adcMtrUsed, 0, 1), (Img.adcMtrUsed, 1, 1), (Img.adcMtrGain, 0, 0x400000), (Img.adcChUsed, 3, 1), (Img.adcChGain, 3, 2), (Img.adcChShift, 3, 1), (Img.adcChUsed, 4, 1)]
def adcRun : State := { up adcCfg with adc := { seqs := [(0, { run := true, due := [(0,0,[3]), (1,0,[3,4])] })], meters := [(0, { gain := 0x400000 }), (1, { gain := 0x400000 })] } }
def adcRun1 : State := { up adcCfg with adc := { seqs := [(0, { idx := 1, run := true })] } }
def adcParked : State := { up adcCfg with glb := { mode := .parked }, adc := { seqs := [(0, { run := true })] } }
def adcCal : State := { up adcCfg with adc := { meters := [(0, { gain := 0x400000, cal := some (1, [3]) })] } }
def adcQueue : State := { up adcCfg with adc := { rq := [7, 8] } }
def adcFull : State := { up adcCfg with adc := { rq := List.replicate 30 7 }, srcs := [(402, { line := true })] }

/-- Zones: no valid member, a hot member, fast mode ending, not published yet. -/
def thmCfg : List Setting := [(Img.thmZUsed, 0, 1), (Img.thmZUsed, 1, 1), (Img.thmZStaleAct, 0, 1), (Img.thmZMem, 0, 0x0FFFFF80), (Img.thmZMem, 1, 0x0FFFFF81), (Img.thmZTder, 0, 800), (Img.thmZTlim, 0, 1000), (Img.thmZTder, 1, 800), (Img.thmZTlim, 1, 1000), (Img.thmZTrel, 1, 700), (Img.thmZFastm, 1, 50), (Img.thmZHys, 1, 20)]
def thmLost : State := up thmCfg [(liZone 0, .valid), (liZone 1, .valid)]
def thmHot : State := { up thmCfg [(liZone 0, .valid), (liZone 1, .valid)] with thm := { ins := [(0, { valid := true, t := 90000 }), (1, { valid := true, t := 50000 })] } }
def thmFast : State := { up thmCfg [(liZone 0, .stale)] with thm := { zones := [(0, { rate := 5 }), (1, { fast := true, t := 20000 })] } }
def thmPhase : State := { up [(Img.phUsed, 0, 1), (Img.phRail, 0, 0)] with thm := { ins := [(47, {}), (48, { ratio := some 32768 }), (50, { ratio := some 32768 })] }, rails := [(0, { en := true })] }

/-- The thermal sequencer awaits an NTC result; two positions; a derived entry. -/
def adcThm : State := { up ([(Img.adcSeqThm, 0, 1), (Img.adcChSrc, 3, 0x62)] ++ adcCfg) with adc := { slices := [(3, (0, 32768))], seqs := [(0, { run := true, due := [(0,0,[3])] })] } }
def adcTwo : State := { up adcCfg with adc := { pos := [(0, some 5), (1, some 6)], seqs := [(0, { idx := 1, run := true, turn := true })] } }
def adcDer : State := { up ([(Img.adcChSrc, 3, 0xF0)] ++ adcCfg) with adc := { pos := [(0, some 5), (1, some 6)], meters := [(0, { val := 77 })], seqs := [(0, { run := true })] } }


/-- One-time memory: blank with data to program; word 77 PROGRAMMED; owner slots 2 and 3 SEALED; lifecycle PRODUCTION; RETIRED;
two bits, and one bit, waiting for their pulses; the eighth pulse of a bit. -/
def otpBlank : State := { up [] with otp := { dataLo := 0xAB } }
def otpWritten : State := { up [] with otp := { words := [(77, { data := 1 })] } }
def otpOwned : State := { up [] with otp := { words := [16, 17, 18, 19, 20, 21, 22, 23].map (·, { data := 5, chk := 1 }) } }
def otpProduct : State := { up [] with otp := { words := [(2, { data := 0x010101 })] } }
def otpRetired : State := { up [] with otp := { words := [(2, { data := 0x0F0F0F })] } }
def otpPulsing : State := { up [] with otp := { bits := [(77, 3), (77, 4)] } }
def otpLast : State := { up [] with otp := { bits := [(77, 66)], pulses := 7 } }


/-- A token of action 0x10 for key slot 2 with the unit's identity and nonce, and what no check passes. -/
def tokenWaits : State := { up [] with otp := { words := [(0, { data := 0xAB })] ++ [16, 17, 18, 19].map (·, { data := 5, chk := 1 }) }, host := { twb0 := { authBusy := true, nonceLo := 9, authBuf := [(0, 0x020010), (1, 0xAB), (3, 9), (5, 0x1234)] } } }
def tokenFails : State := { up [] with host := { twb0 := { authBusy := true } } }

/-- The 128 bytes of a package that holds no payload, of a class. -/
def pkgHdr (cls : Nat) : List Byte := leBytes 4 0x50554B51 ++ leBytes 1 cls ++ List.replicate 15 0 ++ leBytes 4 1 ++ List.replicate 104 0
def usable0 : Otp := { words := [8, 9, 10, 11].map (·, { data := 5, chk := 1 }) }
def sess (st : UpdState) (cls : Nat) : State := { up [] with otp := usable0, upd := { st := st, blocks := [(0, pkgHdr cls)] } }
def updIdle : State := up []
def updLocked : State := { up [] with upd := { lock := true } }
def updLoading : State := { up [] with upd := { st := .loading, blkBuf := [1, 2, 3, 4], blkIdx := 2 } }
def updEmpty : State := { up [] with upd := { st := .verifying } }
def updWhole : State := sess .verifying 1
def updBadKey : State := { sess .verifying 1 with otp := {} }
def updCopying1 : State := sess .copying 1
def updCopying2 : State := sess .copying 2
def updReady : State := sess .ready 1
def updRefused : State := { sess .ready 1 with otp := { words := [(2, { data := 0x0F0F0F })] } }
def lockArmed : State := { up [] with host := { twb0 := { armed := some (0x21, 0, 2) } } }
def unlockArmed : State := { up [] with host := { spi := { armed := some (0x22, 0, 3) } } }
def headUp : State := { up [] with glb := { mode := .run, role := 1 }, lace := { eyes := [(0, { st := .up, limits := [(0, 9), (1, 9), (2, 9), (3, 9)] })], slots := [(3, { eye := 0 })] }, upd := { remSlot := 3 } }


/-- Records of these tests, and the recorder with one buffered, stored, unread, frozen, sought or read. -/
def rec5 : Record := { ty := 1, pf := false, seq := 0, epoch := 5, frac := 0, sec := 0, payload := [1, 2, 3, 4], bad := false }
def recAt (k : BitVec 32) : Record := { rec5 with seq := k }
def recBuf : State := { up [] with recd := { buf := [rec5], ring := [recAt 3], seqNext := 4, unread := 3 } }
def recEmpty : State := up []
def recStored : State := { up [] with recd := { ring := [recAt 3, recAt 4], seqNext := 5, unread := 4 } }
def recSeek : State := { recStored with host := { twb0 := { seek := some 4 } } }
def recCursor : State := { recStored with host := { twb0 := { cursor := some (3, 0) }, spi := { cursor := some (4, 28) } } }
def recFrozen : State := { recStored with recd := { recStored.recd with freeze := some (.twb0, 4) } }
def remFull : State := { up [] with recd := { remBuf := [1, 2, 3, 4, 5, 6, 7, 8] } }
def clrArmed : State := { recStored with host := { spi := { armed := some (0x11, 0, 2), ticket := 7 } } }
def clrArmedEmpty : State := { up [] with host := { spi := { armed := some (0x11, 0, 2), ticket := 7 } } }
def headRead : State := { up [] with glb := { mode := .run, role := 4 }, lace := { eyes := [(0, { st := .up, limits := [(0, 9), (1, 9), (2, 9), (3, 9)] })], slots := [(3, { eye := 0 })] } }
def recWaits : State := up [(Img.recWm, 0, 4)]


/-- A completion. -/
def cpl5 : Cpl := { ep := 5, tag := 1, val := 3 }
/-- Host access: completions and a held alert, Host Notify enabled and waiting, wake inputs, the motion endpoint. -/
def hostRun : State := { up [(Img.railUsed, 2, 1)] [(2, .on)] with host := { page := 2, cml := 4 } }
def hostCpl : State := { up [] with host := { page := 39, twb0 := { cplFifo := [cpl5] } } }
def hostNotifies : State := { up [(Img.twbHnEn, 0, 1)] with host := { twb0 := { cplIe := true, cplFifo := [cpl5] } } }
def hnWaits (k : Nat) : State := { up [] with host := { hnRetry := some k } }
def hnWait0 : State := hnWaits 0
def hnWait2 : State := hnWaits 2
def wpAllSet : State := { up [] with host := { wp := 0x80 } }
def pecNeeded : State := { up [(Img.twbPecReq, 0, 1)] with host := { pec := 255 } }
def wakeArmed : State := { up [(Img.wakeGpio, 0, 8)] with glb := { mode := .parked } }
def motionOff : State := up [] [(liMotion, .clear)]
def motionStale : State := up [] [(liMotion, .stale)]
def parkedUp : State := { up [] with glb := { mode := .parked } }
def alertOn : State := { up [(Img.fltRoute, 100, 4)] with srcs := [(100, { pend := true })] }
def entryFree : State := { up [] [(7, .on)] with host := { page := 7 } }
def gaugeNow : State := { up [] with gau := { intF := 1 }, setAt := [(0, 1000001)] }
def hostFull : State := { up [] with pipe := { queues := [(4, List.replicate 64 (1, [{ ep := 5 }]))] } }


/-- A copy with one section, its header, table and signature block. -/
def imgBody : List Byte := ([0, 0, 0, 100, 0x4000, 0, 2, 0x12C0000, 0, 170, 0x100, 0x1010001] : List Nat).flatMap (leBytes 4)
def crcBytes (l : List Byte) : List Byte := leBytes 4 (crc32c l).toNat
def imgTable : List Byte := [1, 0, 1, 0] ++ leBytes 4 80 ++ leBytes 4 48 ++ crcBytes imgBody
def imgHead : List Byte := leBytes 4 0x47434B51 ++ leBytes 2 1 ++ leBytes 2 64 ++ leBytes 4 272 ++ leBytes 2 0 ++ leBytes 2 1 ++ List.replicate 16 0 ++ crcBytes imgTable ++ List.replicate 24 0
def imgSig : List Byte := leBytes 4 0x47534B51 ++ [2, 0, 0, 0, 4] ++ List.replicate 135 0
def imgBytes : List Byte := imgHead ++ crcBytes imgHead ++ imgTable ++ imgBody ++ imgSig
def env0 : StartEnv := { rom1 := true, rom2 := true, bist := [7], norFound := true, copyA := imgBytes, copyB := imgBytes, addr0 := 0, addr1 := 0, xtal := true, pllA := true, cals := [], vmodes := [], takeoverHello := false, mv := ⟨4800, 0, 1300, 400⟩, packPresent := false, packIdMv := 0, learnedOk := true, gaugeOk := true, startUs := 5 }
def envNoRom : StartEnv := { env0 with rom1 := false, rom2 := false }
def envNoLane : StartEnv := { env0 with bist := [1, 2, 4] }
def envNoNor : StartEnv := { env0 with norFound := false }
def envBadA : StartEnv := { env0 with copyA := [] }
def envBadAB : StartEnv := { env0 with copyA := [], copyB := [] }

/-- The modes. -/
def cold : State := State.reset
def coldHeld : State := { glb := { porstLow := true } }
def heldIn : State := { glb := { mode := .held, porstLow := true } }
def noImg : State := { glb := { mode := .noImage, haltCause := 3 } }
def starting : State := { glb := { mode := .starting }, otp := { words := [16, 17, 18, 19].map (·, { data := 5, chk := 1 }) } }
def startingWm : State := { starting with mram := { wm0 := some 100, wm1 := some 300 } }
def running : State := { up [(Img.epochUs, 0, 100)] with recd := { ring := [], seqNext := 4 } }
def warmLane : State := { running with glb := { mode := .run, warmPend := 2, warmTick := true }, rails := [(2, { en := true, running := true, acc := 5, target := 1000 })] }
def newCfg : Tbl Word := cfg [(Img.epochUs, 0, 100), (Img.loopDec, 3, 1)]
def warmCfg : State := { running with glb := { mode := .run, warmPend := 1, warmTick := true, coldSect := 8 }, upd := { st := .pending, blocks := [(0, leBytes 4 0x50554B51 ++ leBytes 1 2 ++ List.replicate 123 0)] }, newImg := newCfg }
def warmFw : State := { running with glb := { mode := .run, warmPend := 1, warmTick := true }, upd := { st := .pending, blocks := [(0, leBytes 4 0x50554B51 ++ leBytes 1 1 ++ List.replicate 123 0)] } }
def parkNow : State := { running with glb := { mode := .run, parkPend := true, parkTick := true } }
def parkedWake : State := { running with glb := { mode := .parked, waking := some (3, 7) }, lane := { xtalOk := true } }
def ticking : State := { running with lace := { raiseTo := some 400 } }
def tickStop : State := { running with lane := { govStop := true } }
def tickHold : State := { running with lane := { switching := true } }
def parkRail : State := { up [(Img.railUsed, 1, 1)] [(1, .on)] with glb := { mode := .run, parkPend := true, parkTick := true } }

def warmAtStage (k n : Nat) (kind : BitVec 2 := 2) : State := { running with glb := { mode := .run, warmBusy := true, warmIs := kind, warmStage := k, warmAt := 1000000 + 1 - n, warmFor := 3750 }, rails := [(2, { en := true, running := true, acc := 5, target := 1000 })] }
def warmA : State := warmAtStage 0 700
def warmB : State := { warmAtStage 0 1500 1 with upd := { st := .pending, blocks := [(0, leBytes 4 0x50554B51 ++ leBytes 1 1 ++ List.replicate 123 0)] } }
def warmC : State := warmAtStage 1 2750
def warmCc : State := { warmAtStage 1 2750 1 with newImg := newCfg, glb := { (warmAtStage 1 2750 1).glb with coldSect := 8 }, upd := { st := .pending, blocks := [(0, leBytes 4 0x50554B51 ++ leBytes 1 2 ++ List.replicate 123 0)] } }
def warmD : State := warmAtStage 2 3500
def warmE : State := warmAtStage 3 3750
def warmF : State := { warmA with tickAt := 1000500 }

/-- States and operands that meet the hypotheses of RestartsFollowTheConditions, clause by clause. -/
theorem witness_RestartsFollowTheConditions :
  (∃ (s : State) (c : Instr) (m : Mode), ((c = .vholdStart ∧ s.glb.mode = .cold ∧ s.glb.porstLow = false ∧ m = .starting) ∨ (c = .vholdBrownOut ∧
    s.glb.mode ≠ .cold ∧ m = .cold) ∨ (c = .porstNLow ∧ s.glb.mode ≠ .cold ∧ s.glb.mode ≠ .held ∧ m = .held) ∨ (c = .porstNRelease ∧ s.glb.mode =
    .held ∧ m = .starting) ∨ (c = .recoveryColdStart ∧ s.glb.mode = .noImage ∧ s.glb.porstLow = false ∧ m = .starting))) ∧
  (∃ (s : State), (s.glb.mode ≠ .cold ∨ s.glb.porstLow = true)) ∧
  (∃ (s : State), s.glb.mode = .cold) ∧
  (∃ (s : State), (s.glb.mode = .cold ∨ s.glb.mode = .held)) ∧
  (∃ (s : State), s.glb.mode ≠ .held) ∧
  (∃ (s : State), s.glb.mode ≠ .noImage) ∧
  (∃ (s : State), (s.glb.mode = .held ∨ s.glb.mode = .noImage)) ∧
  (∃ (s : State) (c : TapCode), s.glb.mode ≠ .held ∧ s.glb.mode ≠ .noImage ∧ c ≠ .idcode ∧ c ≠ .samplePreload) ∧
  (∃ (c : TapCode), (c = .idcode ∨ c = .samplePreload)) ∧
  (∃ (s : State), s.glb.mode ≠ .starting) ∧
  (∃ (s : State), s.lanesRun ∧ s.glb.parkPend = false) ∧
  (∃ (s : State), s.glb.warmPend = 0) ∧
  (∃ (s : State), s.lanesRun ∧ s.glb.mode ≠ .parked) :=
  ⟨⟨cold, .vholdStart, .starting, by decide +kernel⟩,
   ⟨coldHeld, by decide +kernel⟩,
   ⟨cold, by decide +kernel⟩,
   ⟨cold, by decide +kernel⟩,
   ⟨cold, by decide +kernel⟩,
   ⟨cold, by decide +kernel⟩,
   ⟨heldIn, by decide +kernel⟩,
   ⟨cold, .bypass, by decide +kernel⟩,
   ⟨.idcode, by decide +kernel⟩,
   ⟨cold, by decide +kernel⟩,
   ⟨cold, ⟨rfl, rfl, rfl, rfl⟩, by decide +kernel⟩,
   ⟨cold, by decide +kernel⟩,
   ⟨cold, ⟨rfl, rfl, rfl, rfl⟩, by decide +kernel⟩⟩

/-- States and operands that meet the hypotheses of ColdStartsRun, clause by clause. -/
theorem witness_ColdStartsRun :
  (∃ (s : State) (e : StartEnv), s.glb.mode = .starting ∧ s.glb.haltCause = 0 ∧ e.rom1 = false ∧ e.rom2 = false) ∧
  (∃ (s : State) (e : StartEnv), s.glb.mode = .starting ∧ s.glb.haltCause = 0 ∧ (e.rom1 || e.rom2) = true ∧ passes (selfTest e.bist) < 2) ∧
  (∃ (s : State) (e : StartEnv), s.glb.mode = .starting ∧ s.glb.haltCause = 0 ∧ (e.rom1 || e.rom2) = true ∧ 2 ≤ passes (selfTest e.bist) ∧ s.pickCopy
    e = none) :=
  ⟨⟨starting, envNoRom, by decide +kernel⟩,
   ⟨starting, envNoLane, by decide +kernel⟩,
   ⟨starting, envNoNor, by decide +kernel⟩⟩

/-- States and operands that meet the hypotheses of WarmStartsRun, clause by clause. -/
theorem witness_WarmStartsRun :
  (∃ (s : State), s.glb.warmTick = true ∧ s.glb.warmPend ≠ 0 ∧ s.glb.mode = .run ∧ s.lanesRun) ∧
  (∃ (s : State), s.glb.warmBusy = true ∧ s.lane.govStop = false) ∧
  (∃ (s : State), s.live = true ∧ s.glb.warmBusy = true ∧ s.lane.govStop = false ∧ s.tickAt < s.glb.warmAt + s.glb.warmFor) ∧
  (∃ (s : State), s.pending = [] ∧ s.glb.warmBusy = true ∧ (s.lane.held = true ∨ (s.glb.warmStage = 0 ∧ s.cyc + 1 < s.glb.warmAt + min 1500
    s.glb.warmFor) ∨ (s.glb.warmStage = 1 ∧ s.cyc + 1 < s.glb.warmAt + min 2750 s.glb.warmFor) ∨ (s.glb.warmStage = 2 ∧ s.cyc + 1 < s.glb.warmAt +
    min 3500 s.glb.warmFor) ∨ (s.glb.warmStage = 3 ∧ s.cyc + 1 < s.glb.warmAt + s.glb.warmFor ∧ s.glb.warmFor ≤ 3750))) ∧
  (∃ (s : State), s.pending = [] ∧ s.glb.warmBusy = true ∧ s.lane.held = false ∧ s.lane.govStop = false ∧ s.glb.warmFor = 3750 ∧ s.glb.warmStage = 0
    ∧ s.cyc + 1 = s.glb.warmAt + 1500) ∧
  (∃ (s : State), s.pending = [] ∧ s.glb.warmBusy = true ∧ s.lane.held = false ∧ s.lane.govStop = false ∧ s.glb.warmFor = 3750 ∧ s.glb.warmStage = 1
    ∧ s.cyc + 1 = s.glb.warmAt + 2750) ∧
  (∃ (s : State), s.pending = [] ∧ s.glb.warmBusy = true ∧ s.lane.held = false ∧ s.lane.govStop = false ∧ s.glb.warmFor = 3750 ∧ s.glb.warmStage = 2
    ∧ s.cyc + 1 = s.glb.warmAt + 3500) ∧
  (∃ (s : State), s.pending = [] ∧ s.glb.warmBusy = true ∧ s.lane.held = false ∧ s.lane.govStop = false ∧ s.glb.warmFor = 3750 ∧ s.glb.warmStage = 3
    ∧ s.cyc + 1 = s.glb.warmAt + 3750 ∧ s.lane.tickHeld = 0 ∧ s.lane.boundary = [] ∧ s.glb.warmIs = 2 ∧ s.glb.adoptSect.getLsbD 6 = false) ∧
  (∃ (s : State), s.live = true ∧ s.lane.hold = none ∧ s.lane.govStop = false ∧ 3 ≤ s.voters.length ∧ s.glb.warmBusy = true) :=
  ⟨⟨warmLane, by decide +kernel, by decide +kernel, by decide +kernel, ⟨rfl, rfl, rfl, rfl⟩⟩,
   ⟨warmA, by decide +kernel⟩,
   ⟨warmF, by decide +kernel⟩,
   ⟨warmA, by decide +kernel⟩,
   ⟨warmB, by decide +kernel⟩,
   ⟨warmC, by decide +kernel⟩,
   ⟨warmD, by decide +kernel⟩,
   ⟨warmE, by decide +kernel⟩,
   ⟨warmA, by decide +kernel⟩⟩

/-- States and operands that meet the hypotheses of ParkedAndBack, clause by clause. -/
theorem witness_ParkedAndBack :
  (∃ (s : State), s.lanesRun ∧ s.glb.parkPend = true ∧ s.glb.parkTick = true ∧ s.glb.mode = .run ∧ s.mayPark = true ∧ (∀ e, e < 4 → (s.eye e).st ≠
    .up)) ∧
  (∃ (s : State), s.lanesRun ∧ s.glb.parkPend = true ∧ s.glb.parkTick = true ∧ s.glb.mode = .run ∧ s.mayPark = true) ∧
  (∃ (s : State), s.lanesRun ∧ s.mayPark = false) ∧
  (∃ (s : State) (code : _) (k : _), s.lanesRun ∧ s.glb.mode = .parked ∧ s.glb.waking = some (code, k)) ∧
  (∃ (s : State), s.lanesRun ∧ s.glb.waking = none) :=
  ⟨⟨parkNow, ⟨rfl, rfl, rfl, rfl⟩, by decide +kernel⟩,
   ⟨parkNow, ⟨rfl, rfl, rfl, rfl⟩, by decide +kernel⟩,
   ⟨parkRail, ⟨rfl, rfl, rfl, rfl⟩, by decide +kernel⟩,
   ⟨parkedWake, 3, 7, ⟨rfl, rfl, rfl, rfl⟩, by decide +kernel⟩,
   ⟨cold, ⟨rfl, rfl, rfl, rfl⟩, by decide +kernel⟩⟩

/-- States and operands that meet the hypotheses of TicksEndEpochs, clause by clause. -/
theorem witness_TicksEndEpochs :
  (∃ (s : State), s.live = true ∧ s.lane.govStop = true) ∧
  (∃ (s : State), s.live = true ∧ s.lane.govStop = false ∧ (s.lane.hold ≠ none ∨ s.lane.switching = true)) ∧
  (∃ (s : State), s.live = true ∧ s.lanesRun) :=
  ⟨⟨tickStop, by decide +kernel⟩,
   ⟨tickHold, by decide +kernel⟩,
   ⟨running, by decide +kernel, ⟨rfl, rfl, rfl, rfl⟩⟩⟩

/-- States and operands that meet the hypotheses of HostRequestsEnter, clause by clause. -/
theorem witness_HostRequestsEnter :
  (∃ (s : State) (i : Iface) (w0 : Word), s.ready ∧ (s.hostReq i w0).bnd = false ∧ 1 ≤ s.p4Free) ∧
  (∃ (s : State) (i : Iface) (w0 : Word), s.ready ∧ (s.hostReq i w0).bnd = false ∧ s.p4Free = 0) ∧
  (∃ (s : State) (i : Iface) (w0 : Word), s.ready ∧ (s.iface i).bndBuf = [] ∧ (s.hostReq i w0).last = false) ∧
  (∃ (s : State) (i : Iface) (c : Instr), s.ready ∧ (c = .bundleBufferClear i ∨ c = .bundleBufferTimeout i) ∧ (s.iface i).bndBuf ≠ []) :=
  ⟨⟨idle, .twb0, 0, ⟨⟨rfl, rfl, rfl, rfl⟩, rfl⟩, by decide +kernel⟩,
   ⟨full, .twb0, 0, ⟨⟨rfl, rfl, rfl, rfl⟩, rfl⟩, by decide +kernel⟩,
   ⟨idle, .twb0, 0, ⟨⟨rfl, rfl, rfl, rfl⟩, rfl⟩, by decide +kernel⟩,
   ⟨staged, .twb0, .bundleBufferTimeout .twb0, ⟨⟨rfl, rfl, rfl, rfl⟩, rfl⟩, by decide +kernel⟩⟩

/-- States and operands that meet the hypotheses of RequestsMoveThroughThePipeline, clause by clause. -/
theorem witness_RequestsMoveThroughThePipeline :
  (∃ (s : State) (p : Fin 8) (r : _) (rest : _), s.flows = true ∧ s.pipe.offers = (p.val, [r]) :: rest ∧ r.bnd = false ∧ s.queueLen (portClass p) <
    Config.classDepth (portClass p)) ∧
  (∃ (s : State) (p : Fin 8), s.flows = true ∧ (∀ o ∈ s.pipe.offers, o.1 ≠ p.val)) ∧
  (∃ (s : State) (k : _) (r : _) (s1 : _), s.flows = true ∧ s.pipe.taking = [] ∧ s.queue 4 = [(k, [r])] ∧ (∀ c, c ≠ 4 → s.queue c = []) ∧ r.bnd =
    false ∧ r.cls = 4 ∧ r.kind ≠ .clear ∧ s.pathFull 4 = false ∧ s1 = (s.setQueue 4 []).modPipe (fun p => { p with seqNo := s.pipe.seqNo + 1 })) ∧
  (∃ (s : State), s.flows = true ∧ s.pipe.taking = [] ∧ (∀ c, s.queue c = [])) ∧
  (∃ (s : State) (k : _) (r : _), s.flows = true ∧ s.pipe.taking = [] ∧ s.queue 4 = [(k, [r])] ∧ (∀ c, c ≠ 4 → s.queue c = []) ∧ r.cls = 4 ∧ 3 ≤
    s.pipe.normQ.length) ∧
  (∃ (s : State) (k : _) (o : _) (rest : _), s.flows = true ∧ s.pipe.normQ = o :: rest ∧ s.freeSlot = some k ∧ s.tackNormal < Config.tackNormal ∧ 2 ≤
    o.req.cls ∧ o.bundle = none ∧ slotOf o.req.ep = 0 ∧ o.req.kind = .limit) ∧
  (∃ (s : State), s.flows = true ∧ s.pipe.normQ = []) ∧
  (∃ (s : State), s.flows = true ∧ s.pipe.fastQ = []) :=
  ⟨⟨offered, 0, rqLimit, [], by decide +kernel⟩,
   ⟨idle, 0, by decide +kernel⟩,
   ⟨shank, 1, rqLimit, _,
     by refine ⟨?_, ?_, ?_, fun c h => by simp [State.queue, shank, up, Tbl.get, Ne.symm h], ?_, ?_, ?_, ?_, rfl⟩ <;> decide +kernel⟩,
   ⟨idle, by decide +kernel, by decide +kernel, fun _ => rfl⟩,
   ⟨shankStays, 1, rqLimit, by decide +kernel, by decide +kernel, by decide +kernel, fun c h => by simp [State.queue, shankStays, up, Tbl.get,
     Ne.symm h], by decide +kernel⟩,
   ⟨stitching, 0, opLimit, [], by decide +kernel⟩,
   ⟨idle, by decide +kernel⟩,
   ⟨idle, by decide +kernel⟩⟩

/-- States and operands that meet the hypotheses of OperationsConfirmOrTimeOut, clause by clause. -/
theorem witness_OperationsConfirmOrTimeOut :
  (∃ (s : State) (k : Fin 1024) (seq : _), s.lanesRun ∧ (∀ x, s.slotAt k = some x → x.op.seq ≠ seq)) ∧
  (∃ (s : State) (k : Fin 1024) (x : _), s.lanesRun ∧ s.slotAt k = some x ∧ x.confirmed = false ∧ s.commitWaits k = false ∧ x.replacedBy = none ∧
    x.op.bundle = none ∧ slotOf x.op.req.ep = 0 ∧ x.op.req.kind = .limit) ∧
  (∃ (s : State) (k : Fin 1024) (x : _), s.lanesRun ∧ s.slotAt k = some x ∧ slotOf x.op.req.ep ≠ 0) ∧
  (∃ (s : State) (k : Fin 1024), s.lanesRun ∧ s.slotAt k = none) ∧
  (∃ (s : State) (k : Fin 1024) (x : _), s.lanesRun ∧ s.slotAt k = some x ∧ x.confirmed = true) ∧
  (∃ (s : State) (k : Fin 1024) (x : _), s.lanesRun ∧ s.slotAt k = some x ∧ x.confirmed = false ∧ s.commitWaits k = false ∧ x.op.bundle = none ∧ (∀ y
    ∈ s.inFlight, y.2.replacedBy ≠ some x.op.seq)) :=
  ⟨⟨idle, 0, 0, ⟨rfl, rfl, rfl, rfl⟩, by decide +kernel⟩,
   ⟨inTack, 3, tkLimit, ⟨rfl, rfl, rfl, rfl⟩, by decide +kernel⟩,
   ⟨remoteTack, 3, tkRemote, ⟨rfl, rfl, rfl, rfl⟩, by decide +kernel⟩,
   ⟨idle, 0, ⟨rfl, rfl, rfl, rfl⟩, by decide +kernel⟩,
   ⟨inTackDone, 3, tkDone, ⟨rfl, rfl, rfl, rfl⟩, by decide +kernel⟩,
   ⟨inTack, 3, tkLimit, ⟨rfl, rfl, rfl, rfl⟩, by decide +kernel⟩⟩

/-- States and operands that meet the hypotheses of CommitsWriteTheLedger, clause by clause. -/
theorem witness_CommitsWriteTheLedger :
  (∃ (s : State), s.flows = true ∧ s.pipe.soleQ = []) ∧
  (∃ (s : State), s.flows = true ∧ s.pipe.bundles = []) ∧
  (∃ (s : State) (c : _), s.flows = true ∧ s.nextCommit = some c ∧ (∀ x ∈ s.pipe.soleQ, s.mayCommit x = true ∨ x.deferred = true)) ∧
  (∃ (s : State) (b : _) (x : _), s.flows = true ∧ s.pipe.bundles = [(b, some x)] ∧ s.bundleReady b x = true ∧ s.cyc + 16 ≤ s.tickAt ∧ s.led.cmtNow +
    x.members.length ≤ 3840 ∧ (s.bundleWrite b x).led.late.length = s.led.late.length) ∧
  (∃ (s : State) (b : _) (x : _), s.flows = true ∧ s.pipe.bundles = [(b, some x)] ∧ s.bundleReady b x = true ∧ s.tickAt < s.cyc + 16) ∧
  (∃ (s : State) (c : _), s.flows = true ∧ s.pipe.soleQ = [c] ∧ 2 ≤ c.op.req.cls ∧ c.op.comp = false ∧ c.deferred = false ∧ 3840 ≤ s.led.cmtNow) ∧
  (∃ (s : State) (o : _), s.flows = true ∧ s.pipe.soleQ = [{ op := o, final := true }] ∧ s.pipe.tack = [] ∧ s.pipe.rechecks = [] ∧ o.req.kind =
    .publish ∧ o.req.cls = 5 ∧ o.clamped = false ∧ o.recheck = false ∧ o.bundle = none ∧ o.req.ep < 2048 ∧ s.led.cmtNow < 3840 ∧ (s.stored
    o.req.ep).st = .valid ∧ s.led.presOf o.req.ep = .present ∧ isReadingType (s.stored o.req.ep).ty = true ∧ o.req.val2.getLsbD 0 = true) ∧
  (∃ (s : State) (b : _) (k : _) (o : _), s.flows = true ∧ s.pipe.bundles = [(b, some
    { seqs := [o.seq], confirmed := [o.seq], members := [o], passed := true })] ∧ s.pipe.tack = [(k, some { op := o, confirmed := true })] ∧
    s.pipe.soleQ = [] ∧ s.pipe.rechecks = [] ∧ o.bundle = some b ∧ o.noop = false ∧ o.comp = false ∧ o.recheck = false ∧ o.req.kind = .setpoint ∧
    o.req.cls = 4 ∧ o.req.prot = none ∧ o.req.ep < 2048 ∧ (∀ r, kindOf o.req.ep ≠ .rail r) ∧ (s.stored o.req.ep).st ≠ .absent ∧ s.cyc + 16 ≤ s.tickAt
    ∧ s.led.cmtNow < 3840) :=
  ⟨⟨idle, by decide +kernel⟩,
   ⟨idle, by decide +kernel⟩,
   ⟨atSole, { op := opPub, final := true }, by decide +kernel⟩,
   ⟨inBundle, 0, { seqs := [3], confirmed := [3], members := [opSet], passed := true }, by decide +kernel⟩,
   ⟨inBundleLate, 0, { seqs := [3], confirmed := [3], members := [opSet], passed := true }, by decide +kernel⟩,
   ⟨atSoleLate, pcLimit, by decide +kernel⟩,
   ⟨atSole, opPub, by decide +kernel⟩,
   ⟨inBundle, 0, 3, opSet,
     by refine ⟨?_, ?_, ?_, ?_, ?_, ?_, ?_, ?_, ?_, ?_, ?_, ?_, ?_, fun r h => by simp [kindOf, opSet, rqSet] at h, ?_⟩ <;> decide +kernel⟩⟩

/-- States and operands that meet the hypotheses of LedgerAndCompletionReads, clause by clause. -/
theorem witness_LedgerAndCompletionReads :
  (∃ (s : State) (i : Iface) (word : Fin 524288) (ws : _), s.lanesRun ∧ s.live = true ∧ (s.iface i).entryLatch = none ∧ ws = (s.fpEntry (word.val /
    4)).words) ∧
  (∃ (s : State) (i : Iface) (word : Fin 524288) (w1 : _) (w2 : _) (w3 : _) (w0 : Word), s.lanesRun ∧ s.live = true ∧ (s.iface i).entryLatch = some
    (word.val / 4, [w0, w1, w2, w3]) ∧ word.val % 4 = 2) ∧
  (∃ (s : State), s.lanesRun ∧ s.live = true ∧ s.led.pinned = false) ∧
  (∃ (s : State), s.lanesRun ∧ s.led.pinned = true) ∧
  (∃ (s : State) (i : Iface), s.lanesRun ∧ s.live = true ∧ s.led.pinned = true ∧ s.led.pinIf = i) ∧
  (∃ (s : State) (i : Iface), s.lanesRun ∧ s.led.pinIf ≠ i) ∧
  (∃ (s : State), s.lanesRun) ∧
  (∃ (s : State) (i : Iface) (c : _) (rest : _), s.lanesRun ∧ (s.iface i).cplFifo = c :: rest) ∧
  (∃ (s : State) (i : Iface), s.lanesRun ∧ (s.iface i).cplFifo = []) ∧
  (∃ (s : State), s.lanesRun ∧ s.live = true) ∧
  (∃ (s : State), s.lanesRun ∧ s.led.catchUp = true ∧ s.flows = true) ∧
  (∃ (s : State) (li : Fin 2048) (x : _), s.lanesRun ∧ s.pipe.rechecks = [(true, x)] ∧ x.ep = li.val) ∧
  (∃ (s : State) (r : Fin 40) (li : Fin 2048), s.lanesRun ∧ li.val = r.val ∧ 24 ≤ r.val ∧ s.pipe.corrections.contains li.val = true ∧ (s.envOf li).1
    ≤ (s.envOf li).2 ∧ (s.stored li).val.toInt < (s.envOf li).1) :=
  ⟨⟨idle, .twb0, 0, _, ⟨rfl, rfl, rfl, rfl⟩, by decide +kernel, by decide +kernel, rfl⟩,
   ⟨latchedEp, .twb0, 2, 2, 3, 1, 1, ⟨rfl, rfl, rfl, rfl⟩, by decide +kernel⟩,
   ⟨idle, ⟨rfl, rfl, rfl, rfl⟩, by decide +kernel⟩,
   ⟨pinnedSt, ⟨rfl, rfl, rfl, rfl⟩, by decide +kernel⟩,
   ⟨pinnedSt, .twb0, ⟨rfl, rfl, rfl, rfl⟩, by decide +kernel⟩,
   ⟨idle, .spi, ⟨rfl, rfl, rfl, rfl⟩, by decide +kernel⟩,
   ⟨idle, ⟨rfl, rfl, rfl, rfl⟩⟩,
   ⟨latchedEp, .twb0, cplA, [], ⟨rfl, rfl, rfl, rfl⟩, by decide +kernel⟩,
   ⟨idle, .twb0, ⟨rfl, rfl, rfl, rfl⟩, by decide +kernel⟩,
   ⟨idle, ⟨rfl, rfl, rfl, rfl⟩, by decide +kernel⟩,
   ⟨catching, ⟨rfl, rfl, rfl, rfl⟩, by decide +kernel⟩,
   ⟨rechecking, 5, rqLimit, ⟨rfl, rfl, rfl, rfl⟩, by decide +kernel⟩,
   ⟨correcting, 30, 30, ⟨rfl, rfl, rfl, rfl⟩, by decide +kernel⟩⟩

/-- States and operands that meet the hypotheses of PhaseFaultsAct, clause by clause. -/
theorem witness_PhaseFaultsAct :
  (∃ (s : State) (p : Fin 48), s.ready ∧ s.imb Img.phUsed p = true) ∧
  (∃ (s : State) (p : Fin 48) (n : _), s.ready ∧ s.imb Img.phUsed p = true ∧ s.st (liPhase p) = .on ∧ s.asserted (2 * p + 1) = false ∧ s.overloadNow
    (s.phaseRail p) n = false) ∧
  (∃ (s : State) (p : Fin 48) (n : _), s.ready ∧ s.imb Img.phUsed p = true ∧ s.st (liPhase p) = .on ∧ s.asserted (2 * p + 1) = false ∧ s.overloadNow
    (s.phaseRail p) n = true ∧ s.phaseRail p < 40 ∧ (s.rail (s.phaseRail p)).overload = none ∧ (s.seenSt (s.phaseRail p)).running = true ∧ s.st
    (s.phaseRail p) = .on) ∧
  (∃ (s : State) (p : Fin 48) (n : _), s.ready ∧ s.imb Img.phUsed p = true ∧ (s.rail (s.phaseRail p)).overload = some n ∧ (s.st (s.phaseRail p) ≠
    .derated ∨ s.limitBelow (s.phaseRail p) (s.policy (s.phaseRail p)).limit = false)) ∧
  (∃ (s : State) (p : Fin 48), s.ready ∧ s.imb Img.phUsed p = true ∧ s.st (liPhase p) = .on ∧ s.im Img.railImbPct (s.phaseRail p) ≠ 0 ∧ s.evtUsed p =
    true) ∧
  (∃ (s : State) (p : Fin 48), s.ready ∧ s.imb Img.phUsed p = true ∧ s.st (liPhase p) = .failed) :=
  ⟨⟨correcting, 0, ⟨⟨rfl, rfl, rfl, rfl⟩, rfl⟩, by decide +kernel⟩,
   ⟨correcting, 0, 0, ⟨⟨rfl, rfl, rfl, rfl⟩, rfl⟩, by decide +kernel⟩,
   ⟨correcting, 0, 1, ⟨⟨rfl, rfl, rfl, rfl⟩, rfl⟩, by decide +kernel⟩,
   ⟨overloaded, 1, 3, ⟨⟨rfl, rfl, rfl, rfl⟩, rfl⟩, by decide +kernel⟩,
   ⟨correcting, 1, ⟨⟨rfl, rfl, rfl, rfl⟩, rfl⟩, by decide +kernel⟩,
   ⟨phaseFailed, 0, ⟨⟨rfl, rfl, rfl, rfl⟩, rfl⟩, by decide +kernel⟩⟩

/-- States and operands that meet the hypotheses of PhaseCountAndLoadLine, clause by clause. -/
theorem witness_PhaseCountAndLoadLine :
  (∃ (s : State) (r : Fin 24), s.ready ∧ (s.seenSt r).running = true ∧ (s.loop r).frozen = false ∧ (s.rail r).clEval = true ∧ (s.phasesSeen r).length
    < (s.phEnvOf r).2) ∧
  (∃ (s : State) (r : Fin 32) (i : _), s.ready ∧ (s.seenSt r).running = true ∧ i = (s.rail r).sum10 ∧ s.im Img.loopLlUohm r ≠ 0 ∧ (s.loop (64 +
    r)).frozen = false ∧ (s.im Img.loopLlDb r : Int) ≤ (loadLine (s.vnomOf r) (s.im Img.loopLlUohm r) i - (s.seen r).val.toInt).natAbs) ∧
  (∃ (s : State) (p : Fin 48) (k : _) (x : _), s.ready ∧ s.pipe.tack = [(k, some x)] ∧ x.op.req.kind = .substitute ∧ bitsOf x.op.val.toNat 10 0 =
    liPhase p ∧ x.confirmed = false ∧ x.replacedBy = none ∧ x.op.bundle = none ∧ slotOf x.op.req.ep = 0 ∧ s.pipe.soleQ = []) :=
  ⟨⟨railClEval, 1, ⟨⟨rfl, rfl, rfl, rfl⟩, rfl⟩, by decide +kernel⟩,
   ⟨correcting, 1, _, ⟨⟨rfl, rfl, rfl, rfl⟩, rfl⟩, by decide +kernel, rfl, by decide +kernel⟩,
   ⟨spareTack, 1, 3, tkSubst, ⟨⟨rfl, rfl, rfl, rfl⟩, rfl⟩, by decide +kernel⟩⟩

/-- States and operands that meet the hypotheses of RailsCompareStartAndReport, clause by clause. -/
theorem witness_RailsCompareStartAndReport :
  (∃ (s : State) (r : Fin 40) (v : _) (lim : _), s.ready ∧ s.shorted r v lim = true ∧ ((s.rail r).hwCyc ≠ some (s.cyc, true) ∨ s.imb Img.railOvAct r
    = true)) ∧
  (∃ (s : State) (r : Fin 40) (v : _) (lim : _), s.ready ∧ s.shorted r v lim = true ∧ (s.rail r).hwCyc = some (s.cyc, true) ∧ s.imb Img.railOvAct r =
    false) ∧
  (∃ (s : State) (r : Fin 40) (v : _) (lim : _), s.ready ∧ s.shorted r v lim = false) ∧
  (∃ (s : State) (r : Fin 40) (v : _) (a : _), s.ready ∧ s.overVolt r v a = true) ∧
  (∃ (s : State) (r : Fin 40) (v : _) (a : _), s.ready ∧ s.overVolt r v a = false) ∧
  (∃ (s : State) (r : Fin 40) (v : _), s.ready ∧ s.underVolt r v = true) ∧
  (∃ (s : State) (r : Fin 40) (v : _), s.ready ∧ s.underVolt r v = false) ∧
  (∃ (s : State) (r : Fin 40), s.ready ∧ s.st r = .stopping ∧ (s.rail r).discharged = false) ∧
  (∃ (s : State) (r : Fin 40), s.ready ∧ s.st r = .starting ∧ s.startConfirmed r = false) ∧
  (∃ (s : State) (r : Fin 40) (k : _) (x : _), s.ready ∧ s.pipe.tack = [(k, some x)] ∧ s.pipe.soleQ = [] ∧ x.op.req.ep = r ∧ x.op.req.kind = .state ∧
    x.confirmed = false ∧ x.replacedBy = none ∧ x.op.bundle = none ∧ x.op.links = [.on] ∧ s.st r = .starting ∧ (s.rail r).ramped = true ∧ (s.rail
    r).pgood = true) ∧
  (∃ (s : State) (r : Fin 40) (k : _) (x : _), s.ready ∧ s.pipe.tack = [(k, some x)] ∧ s.pipe.soleQ = [] ∧ x.op.req.ep = r ∧ x.op.req.kind = .state ∧
    x.confirmed = false ∧ x.replacedBy = none ∧ x.op.bundle = none ∧ ((s.rail r).ramped = false ∨ (s.rail r).pgood = false)) ∧
  (∃ (s : State) (r : Fin 40) (k : _) (x : _), s.ready ∧ s.pipe.tack = [(k, some x)] ∧ s.pipe.soleQ = [] ∧ x.op.req.ep = r ∧ x.op.req.kind = .state ∧
    x.confirmed = false ∧ x.replacedBy = none ∧ x.op.bundle = none ∧ x.op.links = [.off] ∧ (s.src (96 + 2 * r)).line = false) ∧
  (∃ (s : State) (r : Fin 40), s.ready ∧ (s.rail r).en = true ∧ s.st r = .starting) ∧
  (∃ (s : State) (r : Fin 40) (pins : _) (sense : _) (v : _) (c : _), s.ready ∧ s.imb Img.railUsed r = true ∧ v = s.railSampleV r ∧ c = s.railMa r
    ((s.railPhases r).zip pins) sense) ∧
  (∃ (s : State) (r : Fin 40), s.ready ∧ (s.rail r).sampCyc ≠ some s.cyc) ∧
  (∃ (s : State) (r : Fin 40) (v : _) (vs : _) (c : _) (cs : _), s.ready ∧ (s.rail r).sampCyc = some s.cyc ∧ (s.rail r).vsamp = v :: vs ∧ (s.rail
    r).isamp = c :: cs) ∧
  (∃ (s : State), s.ready) :=
  ⟨⟨railShort, 1, 0, false, ⟨⟨rfl, rfl, rfl, rfl⟩, rfl⟩, by decide +kernel⟩,
   ⟨railShortMid, 0, 0, false, ⟨⟨rfl, rfl, rfl, rfl⟩, rfl⟩, by decide +kernel⟩,
   ⟨idle, 0, 0, false, ⟨⟨rfl, rfl, rfl, rfl⟩, rfl⟩, by decide +kernel⟩,
   ⟨shank, 5, 1, false, ⟨⟨rfl, rfl, rfl, rfl⟩, rfl⟩, by decide +kernel⟩,
   ⟨idle, 0, 0, false, ⟨⟨rfl, rfl, rfl, rfl⟩, rfl⟩, by decide +kernel⟩,
   ⟨railLow, 1, 0, ⟨⟨rfl, rfl, rfl, rfl⟩, rfl⟩, by decide +kernel⟩,
   ⟨idle, 0, 0, ⟨⟨rfl, rfl, rfl, rfl⟩, rfl⟩, by decide +kernel⟩,
   ⟨railStopping, 1, ⟨⟨rfl, rfl, rfl, rfl⟩, rfl⟩, by decide +kernel⟩,
   ⟨railStarting, 0, ⟨⟨rfl, rfl, rfl, rfl⟩, rfl⟩, by decide +kernel⟩,
   ⟨railGood, 1, 3, tkOn, ⟨⟨rfl, rfl, rfl, rfl⟩, rfl⟩, by decide +kernel⟩,
   ⟨startTack, 1, 3, tkOn, ⟨⟨rfl, rfl, rfl, rfl⟩, rfl⟩, by decide +kernel⟩,
   ⟨stopTack, 1, 3, tkOff, ⟨⟨rfl, rfl, rfl, rfl⟩, rfl⟩, by decide +kernel⟩,
   ⟨railStarting, 1, ⟨⟨rfl, rfl, rfl, rfl⟩, rfl⟩, by decide +kernel⟩,
   ⟨correcting, 0, [], 0, 0, _, ⟨⟨rfl, rfl, rfl, rfl⟩, rfl⟩, by decide +kernel, by decide +kernel, rfl⟩,
   ⟨idle, 0, ⟨⟨rfl, rfl, rfl, rfl⟩, rfl⟩, by decide +kernel⟩,
   ⟨railSampled, 1, 7, [], 1, [], ⟨⟨rfl, rfl, rfl, rfl⟩, rfl⟩, by decide +kernel⟩,
   ⟨idle, ⟨⟨rfl, rfl, rfl, rfl⟩, rfl⟩⟩⟩

/-- States and operands that meet the hypotheses of LoadSwitchesProtect, clause by clause. -/
theorem witness_LoadSwitchesProtect :
  (∃ (s : State) (n : Fin 32), s.lanesRun ∧ (s.switch n).inrush = true ∧ s.pipe.tack = []) ∧
  (∃ (s : State) (n : Fin 32) (k : _) (x : _), s.lanesRun ∧ (s.switch n).inrush = true ∧ s.pipe.tack = [(k, some x)] ∧ s.pipe.soleQ = [] ∧
    x.op.req.ep = liSwitch n ∧ x.op.req.kind = .state ∧ x.op.links = [.on] ∧ x.confirmed = false ∧ x.replacedBy = none ∧ x.op.bundle = none ∧ s.st
    (liSwitch n) ≠ .derated) ∧
  (∃ (s : State) (n : Fin 32), s.lanesRun ∧ (s.switch n).inrush = false) ∧
  (∃ (s : State) (n : Fin 32), s.lanesRun ∧ (s.switch n).inrush = true ∧ (s.src (176 + n)).holds = 0) ∧
  (∃ (s : State) (n : Fin 32), s.lanesRun ∧ (s.switch n).gate = true) ∧
  (∃ (s : State) (n : Fin 32), s.lanesRun ∧ s.live = true ∧ s.st (liSwitch n) = .on) ∧
  (∃ (s : State) (n : Fin 32), s.lanesRun ∧ s.live = true ∧ s.imb Img.lsUsed n = true) :=
  ⟨⟨inrushing, 0, ⟨rfl, rfl, rfl, rfl⟩, by decide +kernel⟩,
   ⟨inrushTack, 0, 3, tkSwitch, ⟨rfl, rfl, rfl, rfl⟩, by decide +kernel⟩,
   ⟨idle, 0, ⟨rfl, rfl, rfl, rfl⟩, by decide +kernel⟩,
   ⟨inrushing, 0, ⟨rfl, rfl, rfl, rfl⟩, by decide +kernel⟩,
   ⟨inrushing, 0, ⟨rfl, rfl, rfl, rfl⟩, by decide +kernel⟩,
   ⟨shankNoop, 0, ⟨rfl, rfl, rfl, rfl⟩, by decide +kernel⟩,
   ⟨correcting, 0, ⟨rfl, rfl, rfl, rfl⟩, by decide +kernel⟩⟩

/-- States and operands that meet the hypotheses of LoopSamplesAndTraces, clause by clause. -/
theorem witness_LoopSamplesAndTraces :
  (∃ (s : State) (r : Fin 40), s.ready ∧ (s.rail r).running = true ∧ s.isIn r [.starting, .on, .derated, .stopping] = true ∧ ((s.rail r).newTarget =
    none ∨ (s.rail r).newCyc ≠ s.cyc)) ∧
  (∃ (s : State) (r : Fin 40) (g : _), s.ready ∧ (s.rail r).running = true ∧ s.isIn r [.starting, .on, .derated, .stopping] = true ∧ (s.rail
    r).newTarget = some g ∧ (s.rail r).newCyc = s.cyc) ∧
  (∃ (s : State), s.ready) ∧
  (∃ (s : State) (b : Fin 16), s.ready ∧ (s.trace b).st = .armed) ∧
  (∃ (s : State) (b : Fin 16), s.ready ∧ (s.trace b).st ≠ .armed) ∧
  (∃ (s : State) (b : Fin 16), s.ready ∧ ((s.trace b).st = .armed ∨ (s.trace b).st = .triggered)) ∧
  (∃ (s : State) (b : Fin 16), s.ready ∧ ((s.trace b).st = .idle ∨ (s.trace b).st = .done)) :=
  ⟨⟨railRuns, 1, ⟨⟨rfl, rfl, rfl, rfl⟩, rfl⟩, by decide +kernel⟩,
   ⟨railRetarget, 1, 20000, ⟨⟨rfl, rfl, rfl, rfl⟩, rfl⟩, by decide +kernel⟩,
   ⟨idle, ⟨⟨rfl, rfl, rfl, rfl⟩, rfl⟩⟩,
   ⟨tracing, 0, ⟨⟨rfl, rfl, rfl, rfl⟩, rfl⟩, by decide +kernel⟩,
   ⟨idle, 0, ⟨⟨rfl, rfl, rfl, rfl⟩, rfl⟩, by decide +kernel⟩,
   ⟨tracing, 0, ⟨⟨rfl, rfl, rfl, rfl⟩, rfl⟩, by decide +kernel⟩,
   ⟨idle, 0, ⟨⟨rfl, rfl, rfl, rfl⟩, rfl⟩, by decide +kernel⟩⟩

/-- States and operands that meet the hypotheses of GroupsStepAndRetry, clause by clause. -/
theorem witness_GroupsStepAndRetry :
  (∃ (s : State) (g : Fin 16) (b : Nat) (c : Nat) (h : StepHdr) (k : StepHdr) (i : Instr), s.ready ∧ s.led.cmtNow < 3840 ∧ (s.group g).dir = false ∧
    (s.group g).unwind = false ∧ (s.group g).ilForce = false ∧ (s.group g).ilShut = false ∧ (s.group g).turn = none ∧ s.step? g false (s.group
    g).step = some (b, h) ∧ s.step? g false ((s.group g).step + 1) = some (c, k) ∧ k.op = .delay ∧ ((i = .delayEnd g ∧ (s.group g).run = .delay) ∨ (i
    = .waitSatisfied g ∧ ((s.group g).run = .waitGroup ∨ (s.group g).run = .waitInput) ∧ s.waitHolds g = true))) ∧
  (∃ (s : State) (g : Fin 16), s.ready ∧ (s.group g).dir = false ∧ ((s.group g).run = .waitGroup ∨ (s.group g).run = .waitInput) ∧ s.waitLimited g =
    true ∧ s.waitHolds g = false ∧ (s.group g).unwindPt = none ∧ (s.group g).endRetries = false ∧ (s.group g).retries < s.im Img.seqRetryN g ∧ s.st
    (liGroup g) ≠ .absent ∧ s.groupOp g = none ∧ s.led.cmtNow < 3840) ∧
  (∃ (s : State) (g : Fin 16), s.ready ∧ s.waitHolds g = true) ∧
  (∃ (s : State) (g : Fin 16), s.ready ∧ (s.group g).backoff = true ∧ s.st (liGroup g) = .failed ∧ s.seq.il = true ∧ s.retriesEnd g = false) ∧
  (∃ (s : State) (g : Fin 16), s.ready ∧ s.retriesEnd g = true) ∧
  (∃ (s : State) (g : Fin 16) (b : _) (h : _), s.ready ∧ (s.group g).backoff = true ∧ s.st (liGroup g) = .failed ∧ s.seq.il = false ∧ s.retriesEnd g
    = false ∧ s.led.cmtNow < 3840 ∧ s.step? g false 0 = some (b, h) ∧ h.op = .delay ∧ (∀ li ∈ s.groupEps g, s.st li ≠ .failed)) ∧
  (∃ (s : State) (g : Fin 16) (b : _) (h : _), s.ready ∧ (s.group g).inwait = true ∧ s.step? g (s.group g).dir (s.group g).step = some (b, h) ∧ h.op
    = .delay ∧ s.st (liGroup g) ≠ .absent ∧ s.led.cmtNow < 3840) ∧
  (∃ (s : State) (g : Fin 16), s.ready ∧ (s.group g).inwait = false) :=
  ⟨⟨delaying, 0, 0, 1, hDelayL, hDelay, .delayEnd 0, ⟨⟨rfl, rfl, rfl, rfl⟩, rfl⟩, by decide +kernel⟩,
   ⟨waitFalse, 0, ⟨⟨rfl, rfl, rfl, rfl⟩, rfl⟩, by decide +kernel⟩,
   ⟨waitTrue, 0, ⟨⟨rfl, rfl, rfl, rfl⟩, rfl⟩, by decide +kernel⟩,
   ⟨backingOffIl, 0, ⟨⟨rfl, rfl, rfl, rfl⟩, rfl⟩, by decide +kernel⟩,
   ⟨retriesOver, 0, ⟨⟨rfl, rfl, rfl, rfl⟩, rfl⟩, by decide +kernel⟩,
   ⟨backingOff, 0, 0, hDelayL, ⟨⟨rfl, rfl, rfl, rfl⟩, rfl⟩, by decide +kernel⟩,
   ⟨inWait, 0, 9, hDelay, ⟨⟨rfl, rfl, rfl, rfl⟩, rfl⟩, by decide +kernel⟩,
   ⟨delaying, 0, ⟨⟨rfl, rfl, rfl, rfl⟩, rfl⟩, by decide +kernel⟩⟩

/-- States and operands that meet the hypotheses of InputsAreJudged, clause by clause. -/
theorem witness_InputsAreJudged :
  (∃ (s : State), s.ready ∧ s.seq.lostA = false ∧ s.seq.lostB = false) ∧
  (∃ (s : State), s.ready ∧ s.seq.lostA = true ∧ s.seq.lostB = false ∧ s.seq.kaOk = true ∧ s.lace.energy = none ∧ (∀ g, g < 16 → s.imb Img.seqUsed g
    = false)) ∧
  (∃ (s : State), s.ready ∧ s.seq.lostA = true) ∧
  (∃ (s : State), s.ready ∧ s.seq.lostB = true) ∧
  (∃ (s : State), s.ready ∧ (s.seq.lostA && s.seq.lostB) = false ∧ s.seq.il = false ∧ s.seq.stable = false ∧ (∀ g, g < 16 → (s.group g).inwait =
    false ∧ (s.group g).retryHeld = false ∧ (s.group g).ilOff = false)) ∧
  (∃ (s : State), s.ready) ∧
  (∃ (s : State), s.ready ∧ s.seq.stable = false) :=
  ⟨⟨inBoth, ⟨⟨rfl, rfl, rfl, rfl⟩, rfl⟩, by decide +kernel⟩,
   ⟨inLostA, ⟨⟨rfl, rfl, rfl, rfl⟩, rfl⟩, by decide +kernel⟩,
   ⟨delaying, ⟨⟨rfl, rfl, rfl, rfl⟩, rfl⟩, by decide +kernel⟩,
   ⟨delaying, ⟨⟨rfl, rfl, rfl, rfl⟩, rfl⟩, by decide +kernel⟩,
   ⟨inBoth, ⟨⟨rfl, rfl, rfl, rfl⟩, rfl⟩, by decide +kernel⟩,
   ⟨delaying, ⟨⟨rfl, rfl, rfl, rfl⟩, rfl⟩⟩,
   ⟨delaying, ⟨⟨rfl, rfl, rfl, rfl⟩, rfl⟩, by decide +kernel⟩⟩

/-- States and operands that meet the hypotheses of SnapshotsAndPowerFail, clause by clause. -/
theorem witness_SnapshotsAndPowerFail :
  (∃ (s : State), s.ready ∧ s.seq.snapBusy = true) ∧
  (∃ (s : State), s.ready ∧ s.seq.snapBusy = false ∧ s.seq.snap = none) ∧
  (∃ (s : State) (p : _) (ep : _) (frac : _) (sec : _), s.ready ∧ s.seq.snap = some (p, false, ep, frac, sec)) ∧
  (∃ (s : State), s.ready ∧ s.seq.snap = none) ∧
  (∃ (s : State), s.ready) ∧
  (∃ (s : State), s.ready ∧ s.seq.il = true ∧ s.seq.pf = false ∧ s.seq.snap = none) :=
  ⟨⟨snapBusy, ⟨⟨rfl, rfl, rfl, rfl⟩, rfl⟩, by decide +kernel⟩,
   ⟨delaying, ⟨⟨rfl, rfl, rfl, rfl⟩, rfl⟩, by decide +kernel⟩,
   ⟨snapBusy, [1,2], 100, 3, 4, ⟨⟨rfl, rfl, rfl, rfl⟩, rfl⟩, by decide +kernel⟩,
   ⟨delaying, ⟨⟨rfl, rfl, rfl, rfl⟩, rfl⟩, by decide +kernel⟩,
   ⟨delaying, ⟨⟨rfl, rfl, rfl, rfl⟩, rfl⟩⟩,
   ⟨backingOffIl, ⟨⟨rfl, rfl, rfl, rfl⟩, rfl⟩, by decide +kernel⟩⟩

/-- States and operands that meet the hypotheses of LinesAreDecoded, clause by clause. -/
theorem witness_LinesAreDecoded :
  (∃ (s : State) (n : Fin 512), s.ready ∧ n.val < 496 ∧ n.val ≠ 265 ∧ n.val ≠ 267 ∧ n.val ≠ 268 ∧ n.val ≠ 269 ∧ n.val ≠ 270 ∧ n.val ≠ 271 ∧ n.val ≠
    366) ∧
  (∃ (s : State), s.ready) ∧
  (∃ (s : State) (n : Fin 512), s.ready ∧ 496 ≤ n.val) ∧
  (∃ (s : State) (n : Fin 512), s.ready ∧ n.val < 496 ∧ n.val ≠ 366) ∧
  (∃ (s : State) (n : Fin 512), s.ready ∧ n.val < 480 ∧ n.val ≠ 366 ∧ s.srcUsed n = true) ∧
  (∃ (s : State), s.ready ∧ (∀ e, e < 256 → s.im Img.evtEsc e = 0)) :=
  ⟨⟨fltIdle, 0, ⟨⟨rfl, rfl, rfl, rfl⟩, rfl⟩, by decide +kernel⟩,
   ⟨fltIdle, ⟨⟨rfl, rfl, rfl, rfl⟩, rfl⟩⟩,
   ⟨fltIdle, 496, ⟨⟨rfl, rfl, rfl, rfl⟩, rfl⟩, by decide +kernel⟩,
   ⟨fltIdle, 0, ⟨⟨rfl, rfl, rfl, rfl⟩, rfl⟩, by decide +kernel⟩,
   ⟨fltIdle, 0, ⟨⟨rfl, rfl, rfl, rfl⟩, rfl⟩, by decide +kernel⟩,
   ⟨fltIdle, ⟨⟨rfl, rfl, rfl, rfl⟩, rfl⟩, by decide +kernel⟩⟩

/-- States and operands that meet the hypotheses of CollectorDecides, clause by clause. -/
theorem witness_CollectorDecides :
  (∃ (s : State) (n : Fin 512), s.ready ∧ s.srcUsed n = true ∧ s.asserted n = true ∧ (s.src n).qual = false ∧ s.im Img.fltPersist n ≠ 0 ∧ s.sevOf n
    (s.src n).cause = 1 ∧ s.imb Img.wakeFlt = false) ∧
  (∃ (s : State) (n : Fin 512), s.ready ∧ s.srcUsed n = true ∧ s.asserted n = true ∧ (s.src n).qual = false ∧ s.im Img.fltPersist n ≠ 0 ∧ s.sevOf n
    (s.src n).cause = 3 ∧ s.glb.parkPend = false) ∧
  (∃ (s : State) (n : Fin 512), s.ready ∧ (s.src n).qual = true) ∧
  (∃ (s : State) (n : Fin 512), s.ready ∧ (s.src n).leftCyc ≠ some s.cyc ∧ 15 < (s.src n).occ.length) ∧
  (∃ (s : State) (n : Fin 512), s.ready ∧ (s.src n).leftCyc = some s.cyc) ∧
  (∃ (s : State) (n : Fin 512), s.ready ∧ (s.src n).leftCyc ≠ some s.cyc ∧ (s.src n).occ.length ≤ 15 ∧ (s.src n).occ ≠ [] ∧ s.srcUsed n = true ∧
    (s.src n).committed = false ∧ (s.srcState n, (s.src n).occ.length - 1) ≠ (s.src n).sent) ∧
  (∃ (s : State) (n : Fin 512), s.ready ∧ (s.src n).dirty = true ∧ (s.src n).committed = false ∧ s.srcUsed n = true ∧ (s.srcState n, (s.src n).count)
    ≠ (s.src n).sent) ∧
  (∃ (s : State) (n : Fin 512), s.ready ∧ (s.src n).dirty = true ∧ (s.src n).committed = false ∧ s.srcUsed n = true ∧ (s.srcState n, (s.src n).count)
    = (s.src n).sent) ∧
  (∃ (s : State) (n : Fin 512), s.ready ∧ (s.src n).dirty = false) ∧
  (∃ (s : State) (li : Fin 2048) (n : _), s.ready ∧ (li.val < 40 ∨ ∃ k, kindOf li = .switch k) ∧ s.st li = .failed ∧ (s.policy li).failEpoch + 1 =
    s.led.epoch ∧ s.stateUnderWay li .latchedOff = false ∧ (s.policy li).latchSrc = some n) ∧
  (∃ (s : State) (li : Fin 2048), s.ready ∧ s.st li ≠ .failed) ∧
  (∃ (s : State) (li : Fin 2048), s.ready ∧ (s.policy li).failEpoch + 1 ≠ s.led.epoch) ∧
  (∃ (s : State) (li : Fin 2048), s.ready ∧ s.keptFailed li = true) ∧
  (∃ (s : State) (li : Fin 2048), s.ready ∧ s.st li = .failed ∧ (s.policy li).failEpoch < s.led.epoch ∧ s.stateUnderWay li .off = false ∧
    s.recoverable li = true ∧ s.keptFailed li = false) ∧
  (∃ (s : State), s.ready ∧ s.noSafe = true) ∧
  (∃ (s : State), s.ready ∧ s.noSafe = false) ∧
  (∃ (s : State) (mask : Word) (b : _), s.ready ∧ b < 32 ∧ mask = BitVec.ofNat 32 (2 ^ b) ∧ 1 ≤ s.p4Free) :=
  ⟨⟨fltOn, 5, ⟨⟨rfl, rfl, rfl, rfl⟩, rfl⟩, by decide +kernel⟩,
   ⟨fltOn, 7, ⟨⟨rfl, rfl, rfl, rfl⟩, rfl⟩, by decide +kernel⟩,
   ⟨fltQual, 5, ⟨⟨rfl, rfl, rfl, rfl⟩, rfl⟩, by decide +kernel⟩,
   ⟨fltQual, 5, ⟨⟨rfl, rfl, rfl, rfl⟩, rfl⟩, by decide +kernel⟩,
   ⟨fltLeft, 5, ⟨⟨rfl, rfl, rfl, rfl⟩, rfl⟩, by decide +kernel⟩,
   ⟨fltQual, 7, ⟨⟨rfl, rfl, rfl, rfl⟩, rfl⟩, by decide +kernel⟩,
   ⟨fltQual, 5, ⟨⟨rfl, rfl, rfl, rfl⟩, rfl⟩, by decide +kernel⟩,
   ⟨fltDirty, 7, ⟨⟨rfl, rfl, rfl, rfl⟩, rfl⟩, by decide +kernel⟩,
   ⟨fltIdle, 0, ⟨⟨rfl, rfl, rfl, rfl⟩, rfl⟩, by decide +kernel⟩,
   ⟨failedRail, 1, 5, ⟨⟨rfl, rfl, rfl, rfl⟩, rfl⟩, Or.inl (by decide), by decide +kernel⟩,
   ⟨fltIdle, 0, ⟨⟨rfl, rfl, rfl, rfl⟩, rfl⟩, by decide +kernel⟩,
   ⟨fltIdle, 0, ⟨⟨rfl, rfl, rfl, rfl⟩, rfl⟩, by decide +kernel⟩,
   ⟨failedInGroup, 1, ⟨⟨rfl, rfl, rfl, rfl⟩, rfl⟩, by decide +kernel⟩,
   ⟨failedFree, 1, ⟨⟨rfl, rfl, rfl, rfl⟩, rfl⟩, by decide +kernel⟩,
   ⟨fltIdle, ⟨⟨rfl, rfl, rfl, rfl⟩, rfl⟩, by decide +kernel⟩,
   ⟨fltOn, ⟨⟨rfl, rfl, rfl, rfl⟩, rfl⟩, by decide +kernel⟩,
   ⟨fltIdle, 1, 0, ⟨⟨rfl, rfl, rfl, rfl⟩, rfl⟩, by decide +kernel⟩⟩

/-- States and operands that meet the hypotheses of LanesAreIsolatedAndReform, clause by clause. -/
theorem witness_LanesAreIsolatedAndReform :
  (∃ (s : State) (l : Fin 3) (c : Instr), s.ready ∧ s.lane.perm.getLsbD l = false ∧ s.lane.joinCyc.get 0 l = 0 ∧ ((c = .voteMismatch l ∧ s.lane.vote
    = 7) ∨ ((∃ k, c = .laneCheckerError l k) ∧ s.votes l = true ∧ s.voters.length ≠ 1))) ∧
  (∃ (s : State) (l : Fin 3), s.ready ∧ s.lane.perm.getLsbD l = false ∧ s.lane.joinCyc.get 0 l = 0 ∧ s.votes l = true ∧ s.voters.length = 1) ∧
  (∃ (s : State) (l : Fin 3), s.ready ∧ s.lane.perm.getLsbD l = false ∧ s.lane.joinCyc.get 0 l = 0 ∧ s.lane.vote ≠ 7) ∧
  (∃ (s : State) (l : Fin 3), s.ready ∧ s.lane.perm.getLsbD l = false ∧ s.lane.joinCyc.get 0 l = 0 ∧ s.votes l = false) ∧
  (∃ (s : State) (l : Fin 3), s.ready ∧ s.lane.perm.getLsbD l = false ∧ s.lane.joinCyc.get 0 l = 0) ∧
  (∃ (s : State) (l : Fin 3), s.live = true ∧ s.lane.govStop = false ∧ s.lane.hold = none ∧ s.lane.rfStep.get 0 l = 1) ∧
  (∃ (s : State) (l : Fin 3), s.live = true ∧ s.lane.govStop = false ∧ s.lane.hold = none ∧ s.lane.rfStep.get 0 l = 1 ∧ s.lane.rfAtt.get 0 l < 2) ∧
  (∃ (s : State) (l : Fin 3), s.live = true ∧ s.lane.govStop = false ∧ s.lane.hold = none ∧ s.lane.rfStep.get 0 l = 1 ∧ 2 ≤ s.lane.rfAtt.get 0 l) ∧
  (∃ (s : State) (l : Fin 3), s.live = true ∧ s.lane.govStop = false ∧ s.lane.hold = none ∧ s.lane.rfStep.get 0 l = 3) ∧
  (∃ (s : State) (l : Fin 3), s.live = true ∧ s.lane.govStop = false ∧ s.lane.hold = none ∧ s.lane.rfStep.get 0 l ≠ 3) ∧
  (∃ (s : State), s.live = true ∧ s.lane.govStop = false ∧ s.lane.hold = none) ∧
  (∃ (s : State) (l : Fin 3), s.live = true ∧ s.lane.govStop = false ∧ s.lane.hold = none ∧ s.lane.rfStep.get 0 l = 4 ∧ (∀ k, k ≠ l.val →
    s.lane.rfStep.get 0 k = 0)) ∧
  (∃ (s : State) (l : Fin 3), s.live = true ∧ s.lane.govStop = false ∧ s.lane.hold = none ∧ s.lane.rfStep.get 0 l = 5 ∧ (∀ k, k ≠ l.val →
    s.lane.rfStep.get 0 k = 0)) :=
  ⟨⟨lane3, 1, .voteMismatch 1, ⟨⟨rfl, rfl, rfl, rfl⟩, rfl⟩, by decide +kernel, by decide +kernel, Or.inl ⟨rfl, rfl⟩⟩,
   ⟨lane1, 0, ⟨⟨rfl, rfl, rfl, rfl⟩, rfl⟩, by decide +kernel⟩,
   ⟨laneRf1, 0, ⟨⟨rfl, rfl, rfl, rfl⟩, rfl⟩, by decide +kernel⟩,
   ⟨laneRf1, 1, ⟨⟨rfl, rfl, rfl, rfl⟩, rfl⟩, by decide +kernel⟩,
   ⟨lane3, 0, ⟨⟨rfl, rfl, rfl, rfl⟩, rfl⟩, by decide +kernel⟩,
   ⟨laneRf1, 1, by decide +kernel⟩,
   ⟨laneRf1, 1, by decide +kernel⟩,
   ⟨laneRf1b, 1, by decide +kernel⟩,
   ⟨laneRf3, 1, by decide +kernel⟩,
   ⟨lane3, 0, by decide +kernel⟩,
   ⟨lane3, by decide +kernel⟩,
   ⟨laneRf4, 1, by decide +kernel, by decide +kernel, by decide +kernel, by decide +kernel, fun k h => if_neg fun e => h e.symm⟩,
   ⟨laneRf5, 1, by decide +kernel, by decide +kernel, by decide +kernel, by decide +kernel, fun k h => if_neg fun e => h e.symm⟩⟩

/-- States and operands that meet the hypotheses of ChuckHoldsSettle, clause by clause. -/
theorem witness_ChuckHoldsSettle :
  (∃ (s : State), s.live = true ∧ s.lane.govStop = false ∧ s.lane.switching = false ∧ s.glb.warmBusy = false ∧ s.lane.hold = none ∧ s.lane.vote = 7)
    ∧
  (∃ (s : State), s.live = true ∧ s.lane.govStop = false ∧ s.lane.switching = false ∧ s.glb.warmBusy = false ∧ s.lane.hold ≠ none) ∧
  (∃ (s : State) (rep : _), s.live = true ∧ s.lane.govStop = false ∧ s.lane.switching = false ∧ s.glb.warmBusy = false ∧ s.lane.hold = some .checker
    ∧ (s.among rep = [] ∨ (s.among rep).length = s.voters.length)) ∧
  (∃ (s : State) (l : Fin 3), s.live = true ∧ s.lane.govStop = false ∧ s.lane.switching = false ∧ s.glb.warmBusy = false ∧ s.lane.hold = some
    .checker ∧ s.lane.vote = 7 ∧ s.lane.perm.getLsbD l = false ∧ s.lane.joinCyc.get 0 l = 0 ∧ s.lane.boundary = [] ∧ s.lane.tickHeld = 0) ∧
  (∃ (s : State), s.live = true ∧ s.lane.govStop = false ∧ s.lane.switching = false ∧ s.glb.warmBusy = false ∧ s.lane.hold = some .replay) ∧
  (∃ (s : State), s.live = true ∧ s.lane.govStop = false ∧ s.lane.switching = false ∧ s.glb.warmBusy = false ∧ s.lane.hold = some .replay ∧
    s.lane.boundary = [] ∧ s.lane.tickHeld = 0) ∧
  (∃ (s : State) (fails : _), s.live = true ∧ s.lane.govStop = false ∧ s.lane.switching = false ∧ s.glb.warmBusy = false ∧ s.lane.hold = some
    .selfTest ∧ s.among fails = []) ∧
  (∃ (s : State), s.live = true ∧ s.lane.govStop = false ∧ s.lane.switching = false ∧ s.glb.warmBusy = false ∧ s.lane.hold = none) :=
  ⟨⟨lane3, by decide +kernel⟩,
   ⟨holding, by decide +kernel⟩,
   ⟨holding, 0, by decide +kernel⟩,
   ⟨holding, 0, by decide +kernel⟩,
   ⟨holdingR, by decide +kernel⟩,
   ⟨holdingR, by decide +kernel⟩,
   ⟨holdingS, 0, by decide +kernel⟩,
   ⟨lane3, by decide +kernel⟩⟩

/-- States and operands that meet the hypotheses of ClocksSwitchAndReturn, clause by clause. -/
theorem witness_ClocksSwitchAndReturn :
  (∃ (s : State) (c : Instr), s.ready ∧ s.glb.mode = .run ∧ (c = .crystalStop ∨ c = .pllLockLoss false) ∧ s.maySwitch = true) ∧
  (∃ (s : State), s.ready ∧ s.glb.mode = .run ∧ s.maySwitch = false) ∧
  (∃ (s : State), s.ready ∧ s.glb.mode = .run) ∧
  (∃ (s : State), s.ready ∧ s.glb.mode = .run ∧ s.imb Img.clkRet = true ∧ s.lane.clkSrc = 1 ∧ s.lane.pllaLock = true ∧ s.lane.xtalOk = true ∧
    s.lane.pllbPerm = false) ∧
  (∃ (s : State), s.ready ∧ s.glb.mode = .run ∧ s.imb Img.clkRet = false) ∧
  (∃ (s : State), s.live = true ∧ s.glb.mode = .run ∧ s.lane.govStop = false ∧ s.lane.hold = none ∧ s.glb.warmBusy = false ∧ s.lane.switching = true
    ∧ s.lane.boundary = [] ∧ s.lane.tickHeld = 0) ∧
  (∃ (s : State), s.live = true ∧ s.glb.mode = .run ∧ s.lane.govStop = false ∧ s.lane.hold = none ∧ s.glb.warmBusy = false ∧ s.lane.switching =
    false) :=
  ⟨⟨lane3, .crystalStop, ⟨⟨rfl, rfl, rfl, rfl⟩, rfl⟩, by decide +kernel⟩,
   ⟨onPllB, ⟨⟨rfl, rfl, rfl, rfl⟩, rfl⟩, by decide +kernel⟩,
   ⟨lane3, ⟨⟨rfl, rfl, rfl, rfl⟩, rfl⟩, by decide +kernel⟩,
   ⟨onPllB, ⟨⟨rfl, rfl, rfl, rfl⟩, rfl⟩, by decide +kernel⟩,
   ⟨lane3, ⟨⟨rfl, rfl, rfl, rfl⟩, rfl⟩, by decide +kernel⟩,
   ⟨switching, by decide +kernel⟩,
   ⟨lane3, by decide +kernel⟩⟩

/-- States and operands that meet the hypotheses of SuppliesAndReferences, clause by clause. -/
theorem witness_SuppliesAndReferences :
  (∃ (s : State), s.ready) ∧
  (∃ (s : State) (b : _), s.ready ∧ s.lane.pairRc.getLsbD (b2n b) = true ∧ (s.src (356 + b2n b)).holds = 2) ∧
  (∃ (s : State) (b : _), s.ready ∧ s.lane.pairOv.getLsbD (b2n b) = true) ∧
  (∃ (s : State) (b : _), s.ready ∧ (s.src (356 + b2n b)).holds = 0) ∧
  (∃ (s : State) (sup : _), s.ready ∧ s.supplyWatched sup = true ∧ (s.src (supplyPlace sup).1).holds = 0) ∧
  (∃ (s : State) (sup : _), s.ready ∧ s.supplyWatched sup = false) ∧
  (∃ (s : State), s.ready ∧ s.lane.endCyc ≠ some s.cyc) ∧
  (∃ (s : State), s.ready ∧ s.lane.endCyc = some s.cyc) :=
  ⟨⟨lane3, ⟨⟨rfl, rfl, rfl, rfl⟩, rfl⟩⟩,
   ⟨pairsOff, false, ⟨⟨rfl, rfl, rfl, rfl⟩, rfl⟩, by decide +kernel⟩,
   ⟨pairsOff, false, ⟨⟨rfl, rfl, rfl, rfl⟩, rfl⟩, by decide +kernel⟩,
   ⟨lane3, false, ⟨⟨rfl, rfl, rfl, rfl⟩, rfl⟩, by decide +kernel⟩,
   ⟨lane3, .vdrv, ⟨⟨rfl, rfl, rfl, rfl⟩, rfl⟩, by decide +kernel⟩,
   ⟨lane3, .buck 0, ⟨⟨rfl, rfl, rfl, rfl⟩, rfl⟩, by decide +kernel⟩,
   ⟨lane3, ⟨⟨rfl, rfl, rfl, rfl⟩, rfl⟩, by decide +kernel⟩,
   ⟨holdEnded, ⟨⟨rfl, rfl, rfl, rfl⟩, rfl⟩, by decide +kernel⟩⟩

/-- States and operands that meet the hypotheses of EyeletsChangeState, clause by clause. -/
theorem witness_EyeletsChangeState :
  (∃ (s : State) (e : Fin 4), s.ready ∧ s.laceOn e = true ∧ (s.eye e).st = .down) ∧
  (∃ (s : State) (e : Fin 4), s.ready ∧ s.laceOn e = true ∧ (s.eye e).st ≠ .down) ∧
  (∃ (s : State) (e : Fin 4) (c : Instr), s.ready ∧ s.laceOn e = true ∧ (c = .eyeletLockLoss e ∨ c = .helloTimeout e) ∧ (s.eye e).st = .up ∧
    s.lace.parent ≠ some e.val) ∧
  (∃ (s : State) (e : Fin 4) (c : Instr), s.ready ∧ s.laceOn e = true ∧ (c = .eyeletLockLoss e ∨ c = .helloTimeout e) ∧ (s.eye e).st = .up ∧
    s.lace.parent = some e.val ∧ s.lace.energy = none) ∧
  (∃ (s : State) (e : Fin 4), s.ready ∧ s.laceOn e = true ∧ (s.eye e).st = .train ∧ s.lace.parent ≠ some e.val) ∧
  (∃ (s : State) (e : Fin 4) (c : Instr), s.ready ∧ s.laceOn e = true ∧ (c = .eyeletLockLoss e ∨ c = .helloTimeout e ∨ c = .helloSend e) ∧ (s.eye
    e).st = .down) ∧
  (∃ (s : State) (e : Fin 4) (h : Hello), s.ready ∧ s.laceOn e = true ∧ (s.eye e).st = .train ∧ (s.eye e).sent.contains h.echo = true ∧ s.lace.parent
    ≠ some e.val ∧ s.lace.hop = 255) ∧
  (∃ (s : State) (e : Fin 4) (h : Hello), s.ready ∧ s.laceOn e = true ∧ (s.eye e).st = .up ∧ h.hop ≠ 255 ∧ s.lace.hop ≠ 255 ∧ h.rootUid ≠
    s.lace.rootUid) ∧
  (∃ (s : State) (e : Fin 4) (h : Hello), s.ready ∧ s.laceOn e = true ∧ (s.eye e).st = .up ∧ s.lace.parent = some e.val ∧ (h.hop = 255 ∨ s.lace.hop =
    255 ∨ h.rootUid = s.lace.rootUid)) :=
  ⟨⟨laceDown, 0, ⟨⟨rfl, rfl, rfl, rfl⟩, rfl⟩, by decide +kernel⟩,
   ⟨laceTrain, 0, ⟨⟨rfl, rfl, rfl, rfl⟩, rfl⟩, by decide +kernel⟩,
   ⟨laceUp, 1, .helloTimeout 1, ⟨⟨rfl, rfl, rfl, rfl⟩, rfl⟩, by decide +kernel⟩,
   ⟨laceUp, 0, .eyeletLockLoss 0, ⟨⟨rfl, rfl, rfl, rfl⟩, rfl⟩, by decide +kernel⟩,
   ⟨laceTrain, 0, ⟨⟨rfl, rfl, rfl, rfl⟩, rfl⟩, by decide +kernel⟩,
   ⟨laceDown, 0, .eyeletLockLoss 0, ⟨⟨rfl, rfl, rfl, rfl⟩, rfl⟩, by decide +kernel⟩,
   ⟨laceTrain, 0, helloA, ⟨⟨rfl, rfl, rfl, rfl⟩, rfl⟩, by decide +kernel⟩,
   ⟨laceUp1, 1, helloA, ⟨⟨rfl, rfl, rfl, rfl⟩, rfl⟩, by decide +kernel⟩,
   ⟨laceUp, 0, helloA, ⟨⟨rfl, rfl, rfl, rfl⟩, rfl⟩, by decide +kernel⟩⟩

/-- States and operands that meet the hypotheses of LinksCountAndResend, clause by clause. -/
theorem witness_LinksCountAndResend :
  (∃ (s : State) (e : Fin 4), s.ready ∧ s.laceOn e = true ∧ ((s.eye e).st = .up ∨ (s.eye e).st = .foreign)) ∧
  (∃ (s : State) (e : Fin 4) (ack : _) (f : _) (rest : _), s.ready ∧ s.laceOn e = true ∧ (s.eye e).st = .up ∧ (s.eye e).txQ = [] ∧ (s.eye e).unacked
    = (ack, f) :: rest) ∧
  (∃ (s : State) (e : Fin 4), s.ready ∧ s.laceOn e = true ∧ (s.eye e).crcWin = 0) ∧
  (∃ (s : State) (e : Fin 4), s.ready ∧ s.laceOn e = true ∧ (s.eye e).crcWin ≠ 0 ∧ s.time < (s.eye e).crcStart + 1000000 * usTime) ∧
  (∃ (s : State) (e : Fin 4), s.ready ∧ s.laceOn e = true ∧ (s.eye e).st = .up) ∧
  (∃ (s : State) (e : Fin 4) (c : Fin 4), s.ready ∧ s.laceOn e = true ∧ (s.eye e).st = .up ∧ (s.eye e).starved c.val = true) ∧
  (∃ (s : State) (e : Fin 4) (c : Fin 4), s.ready ∧ s.laceOn e = true ∧ (s.eye e).starved c.val = false) ∧
  (∃ (s : State) (e : Fin 4), s.ready ∧ s.laceOn e = true ∧ (s.eye e).st ≠ .up) :=
  ⟨⟨laceUp, 0, ⟨⟨rfl, rfl, rfl, rfl⟩, rfl⟩, by decide +kernel⟩,
   ⟨laceUp, 0, 0, frameD, [(1,frameD)], ⟨⟨rfl, rfl, rfl, rfl⟩, rfl⟩, by decide +kernel⟩,
   ⟨laceDown, 0, ⟨⟨rfl, rfl, rfl, rfl⟩, rfl⟩, by decide +kernel⟩,
   ⟨laceUp, 1, ⟨⟨rfl, rfl, rfl, rfl⟩, rfl⟩, by decide +kernel⟩,
   ⟨laceUp, 0, ⟨⟨rfl, rfl, rfl, rfl⟩, rfl⟩, by decide +kernel⟩,
   ⟨laceStarved, 0, 0, ⟨⟨rfl, rfl, rfl, rfl⟩, rfl⟩, by decide +kernel⟩,
   ⟨laceDown, 0, 0, ⟨⟨rfl, rfl, rfl, rfl⟩, rfl⟩, by decide +kernel⟩,
   ⟨laceDown, 0, ⟨⟨rfl, rfl, rfl, rfl⟩, rfl⟩, by decide +kernel⟩⟩

/-- States and operands that meet the hypotheses of FramesMarkersAndOperationsPass, clause by clause. -/
theorem witness_FramesMarkersAndOperationsPass :
  (∃ (s : State) (e : Fin 4) (p : Fin 4) (f : _), s.ready ∧ s.glb.mode = .run ∧ s.framesPass e = true ∧ f.kind = .delta ∧ s.lace.parent = some p.val
    ∧ p ≠ e ∧ (s.eye p).st = .up ∧ (s.eye p).txQ = [] ∧ (s.eye p).maySend f = true) ∧
  (∃ (s : State) (e : Fin 4), s.ready ∧ s.glb.mode = .run ∧ s.framesPass e = false) ∧
  (∃ (s : State), s.ready ∧ s.glb.mode = .run ∧ s.isDomainHead = true ∧ s.lace.left = false) ∧
  (∃ (s : State), s.ready ∧ s.glb.mode = .run ∧ s.isDomainHead = false) ∧
  (∃ (s : State) (e : Fin 4) (m : Marker), s.ready ∧ s.glb.mode = .run ∧ s.framesPass e = true ∧ m.crc = crc8 (markerSymbols m) ∧ s.lace.parent =
    some e.val ∧ s.lace.raiseTo = none ∧ s.led.epoch ≤ m.epoch.toNat ∧ m.epoch.toNat ≤ s.led.epoch + s.markerLead ∧ s.childEyes = []) ∧
  (∃ (s : State) (e : Fin 4) (m : Marker), s.ready ∧ s.glb.mode = .run ∧ s.framesPass e = true ∧ m.crc = crc8 (markerSymbols m) ∧ s.lace.parent =
    some e.val ∧ s.tickNumber 0 ≤ m.epoch.toNat ∧ s.tickNumber s.markerLead < m.epoch.toNat) ∧
  (∃ (s : State) (m : Marker), s.ready ∧ s.glb.mode = .run ∧ m.crc = crc8 (markerSymbols m) ∧ m.epoch.toNat < s.tickNumber 0) ∧
  (∃ (s : State) (e : Fin 4) (m : Marker), s.ready ∧ s.glb.mode = .run ∧ s.framesPass e = true ∧ m.crc ≠ crc8 (markerSymbols m)) ∧
  (∃ (s : State) (e : Fin 4), s.ready ∧ s.glb.mode = .run ∧ 3 ≤ s.lace.noMarker ∧ s.lace.parent = some e.val ∧ s.lace.energy = none) ∧
  (∃ (s : State), s.ready ∧ s.glb.mode = .run ∧ s.lace.noMarker < 3) ∧
  (∃ (s : State) (e : Fin 4) (dst : Fin 64), s.ready ∧ s.framesPass e = true ∧ s.lace.parent = some e.val ∧ dst.val = s.lace.mySlot ∧ s.isGroupHead =
    false) ∧
  (∃ (s : State) (e : Fin 4), s.ready ∧ s.framesPass e = true ∧ s.lace.parent ≠ some e.val) ∧
  (∃ (s : State) (e : Fin 4), s.ready ∧ s.framesPass e = true ∧ s.lace.parent = some e.val) ∧
  (∃ (s : State) (e : Fin 4) (otag : BitVec 10), s.ready ∧ s.framesPass e = true ∧ s.isDomainHead = true ∧ s.lace.parent ≠ some e.val ∧ s.slotAt
    otag.toNat = none) ∧
  (∃ (s : State) (e : Fin 4), s.ready ∧ s.framesPass e = true ∧ s.isDomainHead = false ∧ s.lace.parent = none) ∧
  (∃ (s : State) (e : Fin 4) (src : Fin 64) (d : DeltaFrame), s.ready ∧ s.framesPass e = true ∧ s.isDomainHead = true ∧ s.lace.parent ≠ some e.val ∧
    (s.slotRec src).st = .counted ∧ d.last = true ∧ d.full = false ∧ d.parked = false ∧ s.lace.staged = []) ∧
  (∃ (s : State) (e : Fin 4) (src : Fin 64), s.ready ∧ s.framesPass e = true ∧ s.isDomainHead = true ∧ s.lace.parent ≠ some e.val ∧ ((s.slotRec
    src).st = .free ∨ (s.slotRec src).st = .unreachable)) ∧
  (∃ (s : State) (e : Fin 4) (m : MirrorFrame), s.ready ∧ s.framesPass e = true ∧ s.lace.parent = some e.val ∧ s.glb.role = 2 ∧ m.last = true) ∧
  (∃ (s : State) (e : Fin 4), s.ready ∧ s.framesPass e = true ∧ s.lace.parent ≠ some e.val ∧ s.isDomainHead = true) :=
  ⟨⟨laceUp, 1, 0, frameD, ⟨⟨rfl, rfl, rfl, rfl⟩, rfl⟩, by decide +kernel⟩,
   ⟨laceDown, 0, ⟨⟨rfl, rfl, rfl, rfl⟩, rfl⟩, by decide +kernel⟩,
   ⟨laceRoot, ⟨⟨rfl, rfl, rfl, rfl⟩, rfl⟩, by decide +kernel⟩,
   ⟨laceDown, ⟨⟨rfl, rfl, rfl, rfl⟩, rfl⟩, by decide +kernel⟩,
   ⟨laceUp, 0, markA, ⟨⟨rfl, rfl, rfl, rfl⟩, rfl⟩, by decide +kernel⟩,
   ⟨laceUp, 0, markFar, ⟨⟨rfl, rfl, rfl, rfl⟩, rfl⟩, by decide +kernel⟩,
   ⟨laceDown, markOld, ⟨⟨rfl, rfl, rfl, rfl⟩, rfl⟩, by decide +kernel⟩,
   ⟨laceUp, 0, markBad, ⟨⟨rfl, rfl, rfl, rfl⟩, rfl⟩, by decide +kernel⟩,
   ⟨laceLost, 0, ⟨⟨rfl, rfl, rfl, rfl⟩, rfl⟩, by decide +kernel⟩,
   ⟨laceDown, ⟨⟨rfl, rfl, rfl, rfl⟩, rfl⟩, by decide +kernel⟩,
   ⟨laceUp, 0, 3, ⟨⟨rfl, rfl, rfl, rfl⟩, rfl⟩, by decide +kernel⟩,
   ⟨laceUp, 1, ⟨⟨rfl, rfl, rfl, rfl⟩, rfl⟩, by decide +kernel⟩,
   ⟨laceUp, 0, ⟨⟨rfl, rfl, rfl, rfl⟩, rfl⟩, by decide +kernel⟩,
   ⟨laceRoot, 0, 0, ⟨⟨rfl, rfl, rfl, rfl⟩, rfl⟩, by decide +kernel⟩,
   ⟨laceUp1, 1, ⟨⟨rfl, rfl, rfl, rfl⟩, rfl⟩, by decide +kernel⟩,
   ⟨laceRoot, 0, 3, deltaA, ⟨⟨rfl, rfl, rfl, rfl⟩, rfl⟩, by decide +kernel⟩,
   ⟨laceRoot, 0, 0, ⟨⟨rfl, rfl, rfl, rfl⟩, rfl⟩, by decide +kernel⟩,
   ⟨laceStandbyUp, 0, mirrorA, ⟨⟨rfl, rfl, rfl, rfl⟩, rfl⟩, by decide +kernel⟩,
   ⟨laceRoot, 0, ⟨⟨rfl, rfl, rfl, rfl⟩, rfl⟩, by decide +kernel⟩⟩

/-- States and operands that meet the hypotheses of UnitsJoinAndLeave, clause by clause. -/
theorem witness_UnitsJoinAndLeave :
  (∃ (s : State) (c : Instr) (j : _) (h : Hello), s.ready ∧ s.glb.mode = .run ∧ ((c = .joinRequest ∧ s.lace.joining = none) ∨ (c = .joinRetry ∧
    s.lace.refused = true)) ∧ s.mayJoin = true ∧ s.lace.mySlot = 0 ∧ s.chooseParent = some (j, h)) ∧
  (∃ (s : State), s.ready ∧ s.glb.mode = .run ∧ s.chooseParent = none) ∧
  (∃ (s : State) (e : Fin 4) (j : _) (len : _) (c : _), s.ready ∧ s.glb.mode = .run ∧ s.framesPass e = true ∧ s.isDomainHead = true ∧ s.lace.parent ≠
    some e.val ∧ s.joinDecide j len = (c, 0) ∧ c ≠ 0) ∧
  (∃ (s : State) (e : Fin 4) (j : _) (len : _) (sl : _), s.ready ∧ s.glb.mode = .run ∧ s.framesPass e = true ∧ s.isDomainHead = true ∧ s.lace.parent
    ≠ some e.val ∧ s.joinDecide j len = (0, sl)) ∧
  (∃ (s : State) (e : Fin 4) (j : Join), s.ready ∧ s.glb.mode = .run ∧ s.framesPass e = true ∧ s.lace.parent = some e.val ∧ j.uid = s.uid ∧
    s.lace.joining ≠ none ∧ j.slot.val ≠ 0) ∧
  (∃ (s : State) (e : Fin 4) (j : Join), s.ready ∧ s.glb.mode = .run ∧ s.framesPass e = true ∧ s.lace.parent = some e.val ∧ j.uid = s.uid ∧
    s.lace.joining ≠ none ∧ j.slot.val = 0) ∧
  (∃ (s : State) (e : Fin 4) (uid : _) (sl : _), s.ready ∧ s.glb.mode = .run ∧ s.framesPass e = true ∧ s.isDomainHead = true ∧ s.lace.parent ≠ some
    e.val ∧ (List.range 64).find? (fun k => (s.slotRec k).st != .free && (s.slotRec k).uid == uid) = some sl ∧ s.led.cmtNow < 3840) ∧
  (∃ (s : State), s.ready ∧ s.glb.mode = .run ∧ s.glb.role = 0) ∧
  (∃ (s : State), s.ready ∧ s.glb.mode = .run ∧ s.glb.role ≠ 0 ∧ s.isDomainHead = false) ∧
  (∃ (s : State) (e : Fin 4) (m : BitVec 64) (k : Fin 64), s.ready ∧ s.glb.mode = .run ∧ s.framesPass e = true ∧ s.isDomainHead = true ∧
    s.lace.parent ≠ some e.val ∧ k.val ≠ 0 ∧ m.getLsbD k = true ∧ (s.slotRec k).st = .counted) ∧
  (∃ (s : State) (sl : Fin 64), s.ready ∧ s.glb.mode = .run ∧ s.isDomainHead = true ∧ (s.slotRec sl).st = .unreachable ∧ s.im Img.laceHoldS ≠ 0 ∧
    s.slotReserved sl = none ∧ s.led.cmtNow < 3840) ∧
  (∃ (s : State) (sl : Fin 64), s.ready ∧ s.glb.mode = .run ∧ s.slotReserved sl ≠ none) ∧
  (∃ (s : State) (sl : Fin 64), s.ready ∧ s.glb.mode = .run ∧ s.isDomainHead = true ∧ sl.val ≠ 0 ∧ s.laceOn (s.slotRec sl).eye = true) ∧
  (∃ (s : State) (sl : Fin 64), s.ready ∧ s.glb.mode = .run ∧ s.laceOn (s.slotRec sl).eye = false) ∧
  (∃ (s : State), s.ready ∧ s.glb.mode = .run) ∧
  (∃ (s : State), s.ready ∧ s.glb.mode = .run ∧ s.glb.parkPend = false) :=
  ⟨⟨laceAlone, .joinRequest, 0, helloA, ⟨⟨rfl, rfl, rfl, rfl⟩, rfl⟩, by decide +kernel⟩,
   ⟨laceDown, ⟨⟨rfl, rfl, rfl, rfl⟩, rfl⟩, by decide +kernel⟩,
   ⟨laceRoot, 0, joinBad, 0, 3, ⟨⟨rfl, rfl, rfl, rfl⟩, rfl⟩, by decide +kernel⟩,
   ⟨laceRoot, 0, joinA, 100, 1, ⟨⟨rfl, rfl, rfl, rfl⟩, rfl⟩, by decide +kernel⟩,
   ⟨laceJoining, 0, joinA, ⟨⟨rfl, rfl, rfl, rfl⟩, rfl⟩, by decide +kernel⟩,
   ⟨laceJoining, 0, join0, ⟨⟨rfl, rfl, rfl, rfl⟩, rfl⟩, by decide +kernel⟩,
   ⟨laceRoot, 0, 205, 3, ⟨⟨rfl, rfl, rfl, rfl⟩, rfl⟩, by decide +kernel⟩,
   ⟨laceStandalone, ⟨⟨rfl, rfl, rfl, rfl⟩, rfl⟩, by decide +kernel⟩,
   ⟨laceDown, ⟨⟨rfl, rfl, rfl, rfl⟩, rfl⟩, by decide +kernel⟩,
   ⟨laceRoot, 0, 77, 3, ⟨⟨rfl, rfl, rfl, rfl⟩, rfl⟩, by decide +kernel⟩,
   ⟨laceRoot, 7, ⟨⟨rfl, rfl, rfl, rfl⟩, rfl⟩, by decide +kernel⟩,
   ⟨laceDown, 5, ⟨⟨rfl, rfl, rfl, rfl⟩, rfl⟩, by decide +kernel⟩,
   ⟨laceRoot, 1, ⟨⟨rfl, rfl, rfl, rfl⟩, rfl⟩, by decide +kernel⟩,
   ⟨laceOff, 0, ⟨⟨rfl, rfl, rfl, rfl⟩, rfl⟩, by decide +kernel⟩,
   ⟨laceDown, ⟨⟨rfl, rfl, rfl, rfl⟩, rfl⟩, by decide +kernel⟩,
   ⟨laceDown, ⟨⟨rfl, rfl, rfl, rfl⟩, rfl⟩, by decide +kernel⟩⟩

/-- States and operands that meet the hypotheses of TakeoverAndEnergyOrders, clause by clause. -/
theorem witness_TakeoverAndEnergyOrders :
  (∃ (s : State), s.ready ∧ s.glb.mode = .run ∧ s.glb.role = 2 ∧ s.imb Img.laceTakeEn = true ∧ s.im Img.laceTakeEp ≤ s.lace.sinceMarker ∧
    s.lace.mirrorOkAtMarker = true ∧ (∀ e, e < 4 → (s.eye e).st ≠ .up) ∧ s.lace.mySlot ≠ 0 ∧ s.led.cmtNow < 3840) ∧
  (∃ (s : State), s.ready ∧ (s.glb.role ≠ 2 ∨ s.imb Img.laceTakeEn = false ∨ s.lace.sinceMarker < s.im Img.laceTakeEp ∨ s.lace.mirrorOkAtMarker =
    false)) ∧
  (∃ (s : State) (o : _), s.ready ∧ s.lace.energy = some o ∧ o.tlim ≠ 0) ∧
  (∃ (s : State), s.ready ∧ s.glb.mode = .parked ∧ s.lace.parent ≠ none ∧ s.glb.waking = none) ∧
  (∃ (s : State), s.ready ∧ s.lace.energy = none) ∧
  (∃ (s : State) (o : _), s.ready ∧ s.lace.energy = some o ∧ o.order = 2) :=
  ⟨⟨laceStandby, ⟨⟨rfl, rfl, rfl, rfl⟩, rfl⟩, by decide +kernel⟩,
   ⟨laceDown, ⟨⟨rfl, rfl, rfl, rfl⟩, rfl⟩, by decide +kernel⟩,
   ⟨laceSink, ⟨2, 5, 8, 100, 7⟩, ⟨⟨rfl, rfl, rfl, rfl⟩, rfl⟩, by decide +kernel⟩,
   ⟨laceParked, ⟨⟨rfl, rfl, rfl, rfl⟩, rfl⟩, by decide +kernel⟩,
   ⟨laceDown, ⟨⟨rfl, rfl, rfl, rfl⟩, rfl⟩, by decide +kernel⟩,
   ⟨laceSink, ⟨2, 5, 8, 100, 7⟩, ⟨⟨rfl, rfl, rfl, rfl⟩, rfl⟩, by decide +kernel⟩⟩

/-- States and operands that meet the hypotheses of ForeignDevicesArePolled, clause by clause. -/
theorem witness_ForeignDevicesArePolled :
  (∃ (s : State) (d : Fin 32), s.ready ∧ s.imb Img.twb1DUsed d = true) ∧
  (∃ (s : State) (d : Fin 32), s.ready ∧ s.imb Img.twb1DUsed d = true ∧ (s.fdev d).fails < 2) ∧
  (∃ (s : State) (d : Fin 32), s.ready ∧ s.imb Img.twb1DUsed d = true ∧ (s.fdev d).fails = 2 ∧ s.devGone d = false ∧ s.led.cmtNow < 3840 ∧ s.inFlight
    = [] ∧ s.pipe.fastQ = [] ∧ s.pipe.normQ = [] ∧ s.pipe.bundles = [] ∧ (∀ i, i < 16 → s.edges.any (fun x => x.1 == liForeign (16 * d + i)) =
    false)) ∧
  (∃ (s : State) (d : Fin 32), s.ready ∧ s.imb Img.twb1DUsed d = true ∧ s.devOp d = none) ∧
  (∃ (s : State) (d : Fin 32) (i : Fin 16) (k : _) (x : _) (rb : _), s.ready ∧ s.imb Img.twb1DUsed d = true ∧ s.devOp d = some (k, x) ∧ s.slotAt k =
    some x ∧ x.op.req.ep = liForeign (16 * d + i) ∧ x.op.req.kind = .setpoint ∧ x.op.bundle = none ∧ x.replacedBy = none ∧ rb = (s.foreignWord (16 *
    d + i) x.op).1 ∧ s.pipe.soleQ = [] ∧ s.lace.twb1 = none) ∧
  (∃ (s : State) (d : Fin 32) (i : Fin 16), s.ready ∧ s.imb Img.twb1DUsed d = true ∧ s.lace.twb1 = some d.val ∧ s.devGone d = false ∧ 2 ≤ s.im
    Img.twb1IType (16 * d.val + i.val)) ∧
  (∃ (s : State) (d : Fin 32), s.ready ∧ s.imb Img.twb1DUsed d = true ∧ s.lace.twb1 ≠ some d.val) ∧
  (∃ (s : State) (d : Fin 32), s.ready ∧ s.imb Img.twb1DUsed d = false) :=
  ⟨⟨laceDown, 0, ⟨⟨rfl, rfl, rfl, rfl⟩, rfl⟩, by decide +kernel⟩,
   ⟨laceDown, 0, ⟨⟨rfl, rfl, rfl, rfl⟩, rfl⟩, by decide +kernel⟩,
   ⟨devFailing, 0, ⟨⟨rfl, rfl, rfl, rfl⟩, rfl⟩, by decide +kernel⟩,
   ⟨laceDown, 0, ⟨⟨rfl, rfl, rfl, rfl⟩, rfl⟩, by decide +kernel⟩,
   ⟨devWrites, 0, 0, 1, tkFor, 3, ⟨⟨rfl, rfl, rfl, rfl⟩, rfl⟩, by decide +kernel⟩,
   ⟨devPolls, 0, 0, ⟨⟨rfl, rfl, rfl, rfl⟩, rfl⟩, by decide +kernel⟩,
   ⟨laceDown, 0, ⟨⟨rfl, rfl, rfl, rfl⟩, rfl⟩, by decide +kernel⟩,
   ⟨laceDown, 1, ⟨⟨rfl, rfl, rfl, rfl⟩, rfl⟩, by decide +kernel⟩⟩

/-- States and operands that meet the hypotheses of SlicesMetersAndSequencers, clause by clause. -/
theorem witness_SlicesMetersAndSequencers :
  (∃ (s : State) (k : _) (ofs : _) (gain : _), s.lanesRun ∧ s.adc.free = some k ∧ k < 17 ∧ s.glb.mode = .run ∧ calOk ofs gain = true ∧ s.adc.calRound
    < 16) ∧
  (∃ (s : State) (k : _) (ofs : _) (gain : _), s.lanesRun ∧ s.adc.free = some k ∧ k < 17 ∧ s.glb.mode = .run ∧ calOk ofs gain = false) ∧
  (∃ (s : State) (q : Fin 8), s.lanesRun ∧ s.glb.mode = .run ∧ s.imb Img.adcSeqUsed q = true ∧ (s.aseq q).run = true ∧ s.npos q = 2 ∧ (s.aseq
    q).delay = 0 ∧ srcDerived (s.chSrc (s.seqEntry (s.aseq q).idx).ch) = false ∧ (s.aseq q).conv + 1 < 2 ^ (s.seqEntry (s.aseq q).idx).rep) ∧
  (∃ (s : State) (q : Fin 8), s.lanesRun ∧ s.glb.mode = .run ∧ s.imb Img.adcSeqUsed q = true ∧ (s.aseq q).run = true ∧ 0 < s.npos q ∧ (s.aseq
    q).delay = 0 ∧ srcDerived (s.chSrc (s.seqEntry (s.aseq q).idx).ch) = true ∧ (s.seqEntry (s.aseq q).idx).delay = 0 ∧ (s.aseq q).conv = 0) ∧
  (∃ (s : State) (q : Fin 8), s.lanesRun ∧ s.glb.mode = .parked ∧ s.imb Img.adcSeqUsed q = true ∧ s.imb Img.adcSeqPark q = true ∧ (s.adc.pos.get none
    (2 * q)).isSome = true) ∧
  (∃ (s : State) (m : Fin 2), s.ready ∧ s.imb Img.adcMtrUsed m = true ∧ s.glb.mode = .run ∧ (s.meter m).cal = none) ∧
  (∃ (s : State) (m : Fin 2), s.ready ∧ s.imb Img.adcMtrUsed m = true ∧ (s.meter m).cal = none) ∧
  (∃ (s : State) (m : Fin 2), s.ready ∧ s.imb Img.adcMtrUsed m = true ∧ (s.meter m).cal ≠ none) :=
  ⟨⟨adcRun, 16, 0, 32768, ⟨rfl, rfl, rfl, rfl⟩, by decide +kernel⟩,
   ⟨adcRun, 16, 0, 0, ⟨rfl, rfl, rfl, rfl⟩, by decide +kernel⟩,
   ⟨adcRun1, 0, ⟨rfl, rfl, rfl, rfl⟩, by decide +kernel⟩,
   ⟨adcDer, 0, ⟨rfl, rfl, rfl, rfl⟩, by decide +kernel⟩,
   ⟨adcParked, 0, ⟨rfl, rfl, rfl, rfl⟩, by decide +kernel⟩,
   ⟨adcRun, 0, ⟨⟨rfl, rfl, rfl, rfl⟩, rfl⟩, by decide +kernel⟩,
   ⟨adcRun, 0, ⟨⟨rfl, rfl, rfl, rfl⟩, rfl⟩, by decide +kernel⟩,
   ⟨adcCal, 0, ⟨⟨rfl, rfl, rfl, rfl⟩, rfl⟩, by decide +kernel⟩⟩

/-- States and operands that meet the hypotheses of ResultsQueueAndPop, clause by clause. -/
theorem witness_ResultsQueueAndPop :
  (∃ (s : State) (q : Fin 8) (i : _) (v : _) (slices : _) (rest : _), s.lanesRun ∧ (s.aseq q).due = (i, v, slices) :: rest ∧ s.im Img.adcChQfmt
    (s.seqEntry i).ch = 0) ∧
  (∃ (s : State) (q : Fin 8) (codes : _) (i : _) (v : _) (slices : _) (rest : _), s.lanesRun ∧ (s.aseq q).due = (i, v, slices) :: rest ∧ s.imb
    Img.adcSeqThm q = true ∧ 0x60 ≤ s.chSrc (s.seqEntry i).ch ∧ s.chSrc (s.seqEntry i).ch < 0x6F ∧ ratioValid (resultX false (s.seqEntry i).rep
    (s.correctCodes slices codes)).toNat = true) ∧
  (∃ (s : State), s.lanesRun ∧ s.adc.rq.length ≤ 16384) ∧
  (∃ (s : State) (w : Word) (rest : _), s.lanesRun ∧ s.adc.rq = w :: rest ∧ (s.src 402).line = false) ∧
  (∃ (s : State), s.lanesRun ∧ s.adc.rq = []) ∧
  (∃ (s : State), s.lanesRun ∧ s.live = true ∧ (s.src 402).line = false) ∧
  (∃ (s : State), s.lanesRun ∧ s.live = true ∧ (s.src 402).line = true) :=
  ⟨⟨adcRun, 0, 0, 0, [3], [(1,0,[3,4])], ⟨rfl, rfl, rfl, rfl⟩, by decide +kernel⟩,
   ⟨adcThm, 0, [2000], 0, 0, [3], [], ⟨rfl, rfl, rfl, rfl⟩, by decide +kernel⟩,
   ⟨adcRun, ⟨rfl, rfl, rfl, rfl⟩, by decide +kernel⟩,
   ⟨adcQueue, 7, [8], ⟨rfl, rfl, rfl, rfl⟩, by decide +kernel⟩,
   ⟨adcRun, ⟨rfl, rfl, rfl, rfl⟩, by decide +kernel⟩,
   ⟨adcRun, ⟨rfl, rfl, rfl, rfl⟩, by decide +kernel⟩,
   ⟨adcFull, ⟨rfl, rfl, rfl, rfl⟩, by decide +kernel⟩⟩

/-- States and operands that meet the hypotheses of TemperaturesAndZones, clause by clause. -/
theorem witness_TemperaturesAndZones :
  (∃ (s : State) (n : Fin 112) (tmp : _), s.ready ∧ n.val < 48 ∧ -55000 ≤ tmp ∧ tmp ≤ 175000) ∧
  (∃ (s : State) (n : Fin 112) (tmp : _), s.ready ∧ n.val < 48 ∧ (tmp < -55000 ∨ 175000 < tmp)) ∧
  (∃ (s : State) (n : Fin 112) (r : _), s.ready ∧ 48 ≤ n.val ∧ n.val < 63 ∧ (s.thmIn n).ratio = some r ∧ ratioValid r = true) ∧
  (∃ (s : State) (n : Fin 112), s.ready ∧ 48 ≤ n.val ∧ n.val < 63 ∧ (s.thmIn n).ratio = none) ∧
  (∃ (s : State) (n : Fin 112) (uv : _), s.ready ∧ 64 ≤ n.val ∧ (s.rail (s.phaseRail (n - 64))).en = true ∧ 200000 ≤ uv ∧ uv ≤ 2500000) ∧
  (∃ (s : State) (n : Fin 112), s.ready ∧ 64 ≤ n.val ∧ (s.rail (s.phaseRail (n - 64))).en = false) ∧
  (∃ (s : State) (z : Fin 48), s.ready ∧ s.imb Img.thmZUsed z = true ∧ (s.validMembers z).length < s.im Img.thmZNmin z + 1) ∧
  (∃ (s : State) (z : Fin 48), s.ready ∧ s.imb Img.thmZUsed z = true ∧ s.im Img.thmZNmin z + 1 ≤ (s.validMembers z).length) ∧
  (∃ (s : State) (z : Fin 48), s.ready ∧ (s.zoneOf z).fast = true ∧ (s.zoneOf z).t < 100 * (s.ims Img.thmZTder z - s.im Img.thmZFastm z - s.im
    Img.thmZHys z)) ∧
  (∃ (s : State), s.ready) :=
  ⟨⟨adcRun, 0, 0, ⟨⟨rfl, rfl, rfl, rfl⟩, rfl⟩, by decide +kernel⟩,
   ⟨adcRun, 0, -60000, ⟨⟨rfl, rfl, rfl, rfl⟩, rfl⟩, by decide +kernel⟩,
   ⟨thmPhase, 50, 32768, ⟨⟨rfl, rfl, rfl, rfl⟩, rfl⟩, by decide +kernel⟩,
   ⟨adcRun, 50, ⟨⟨rfl, rfl, rfl, rfl⟩, rfl⟩, by decide +kernel⟩,
   ⟨thmPhase, 100, 200000, ⟨⟨rfl, rfl, rfl, rfl⟩, rfl⟩, by decide +kernel⟩,
   ⟨adcRun, 100, ⟨⟨rfl, rfl, rfl, rfl⟩, rfl⟩, by decide +kernel⟩,
   ⟨thmLost, 0, ⟨⟨rfl, rfl, rfl, rfl⟩, rfl⟩, by decide +kernel⟩,
   ⟨thmHot, 0, ⟨⟨rfl, rfl, rfl, rfl⟩, rfl⟩, by decide +kernel⟩,
   ⟨thmFast, 1, ⟨⟨rfl, rfl, rfl, rfl⟩, rfl⟩, by decide +kernel⟩,
   ⟨adcRun, ⟨⟨rfl, rfl, rfl, rfl⟩, rfl⟩⟩⟩

/-- States and operands that meet the hypotheses of ChargerFaultsAndReverseMode, clause by clause. -/
theorem witness_ChargerFaultsAndReverseMode :
  (∃ (s : State), s.lanesRun ∧ s.chgLive = true ∧ s.intoPack = true) ∧
  (∃ (s : State), s.lanesRun ∧ s.chgLive = true ∧ s.intoPack = true ∧ s.chgCharging = true) ∧
  (∃ (s : State), s.lanesRun ∧ s.chgLive = true ∧ s.intoPack = false) ∧
  (∃ (s : State), s.lanesRun ∧ s.chgLive = true) ∧
  (∃ (s : State), s.lanesRun ∧ s.chgLive = true ∧ s.intoPack = true ∧ s.im Img.chgTmrMin * 6000 * 65536 ≤ s.chg.tmrEq + 8192) ∧
  (∃ (s : State) (oc : Bool), s.lanesRun ∧ s.chgLive = true ∧ s.reversing = true ∧ (s.chg.conv || !oc) = true) ∧
  (∃ (s : State) (oc : Bool), s.lanesRun ∧ (s.reversing = false ∨ (s.chg.conv || !oc) = false)) :=
  ⟨⟨chgOn, ⟨rfl, rfl, rfl, rfl⟩, by decide +kernel⟩,
   ⟨chgOn, ⟨rfl, rfl, rfl, rfl⟩, by decide +kernel⟩,
   ⟨chgIdle, ⟨rfl, rfl, rfl, rfl⟩, by decide +kernel⟩,
   ⟨chgOn, ⟨rfl, rfl, rfl, rfl⟩, by decide +kernel⟩,
   ⟨chgEnds, ⟨rfl, rfl, rfl, rfl⟩, by decide +kernel⟩,
   ⟨chgRev, false, ⟨rfl, rfl, rfl, rfl⟩, by decide +kernel⟩,
   ⟨wdgRuns, false, ⟨rfl, rfl, rfl, rfl⟩, by decide +kernel⟩⟩

/-- States and operands that meet the hypotheses of ChargerSourcesAndTracking, clause by clause. -/
theorem witness_ChargerSourcesAndTracking :
  (∃ (s : State) (src : _), s.lanesRun ∧ s.chg.switchTo = some src) ∧
  (∃ (s : State), s.lanesRun ∧ s.chgLive = true) ∧
  (∃ (s : State) (m : SourceMeas), s.lanesRun ∧ s.chgLive = true ∧ s.reversing = false ∧ s.chg.ovOff = 0 ∧ s.chgSelect m = none) ∧
  (∃ (s : State) (m : SourceMeas) (src : _), s.lanesRun ∧ s.chgLive = true ∧ s.reversing = false ∧ s.chg.ovOff = 0 ∧ s.chgSelect m = some src ∧
    s.chg.source = some src) ∧
  (∃ (s : State) (m : SourceMeas) (src : _), s.lanesRun ∧ s.chgLive = true ∧ s.reversing = false ∧ s.chg.ovOff = 0 ∧ s.chgSelect m = some src ∧
    s.chg.source ≠ some src ∧ s.chg.solOn = false ∧ s.chg.netOn = false ∧ s.chg.switchTo = none) ∧
  (∃ (s : State) (m : SourceMeas) (src : _), s.lanesRun ∧ s.chgLive = true ∧ s.reversing = false ∧ s.chg.ovOff = 0 ∧ s.chgSelect m = some src ∧
    s.chg.source ≠ some src ∧ (s.chg.solOn || s.chg.netOn) = true) ∧
  (∃ (s : State) (u : Bool), s.lanesRun ∧ s.chgLive = true ∧ s.tracks = true ∧ s.chg.trkUp = some u) :=
  ⟨⟨chgSwitch, false, ⟨rfl, rfl, rfl, rfl⟩, by decide +kernel⟩,
   ⟨chgOn, ⟨rfl, rfl, rfl, rfl⟩, by decide +kernel⟩,
   ⟨chgOn, ⟨0,0,false⟩, ⟨rfl, rfl, rfl, rfl⟩, by decide +kernel⟩,
   ⟨chgOn, ⟨10000,0,true⟩, true, ⟨rfl, rfl, rfl, rfl⟩, by decide +kernel⟩,
   ⟨chgIdle, ⟨10000,0,true⟩, true, ⟨rfl, rfl, rfl, rfl⟩, by decide +kernel⟩,
   ⟨chgOn, ⟨0,12000,false⟩, false, ⟨rfl, rfl, rfl, rfl⟩, by decide +kernel⟩,
   ⟨chgTrk, true, ⟨rfl, rfl, rfl, rfl⟩, by decide +kernel⟩⟩

/-- States and operands that meet the hypotheses of ChargeRunsItsPhases, clause by clause. -/
theorem witness_ChargeRunsItsPhases :
  (∃ (s : State) (v : Nat), s.lanesRun ∧ s.chgLive = true ∧ s.reversing = false ∧ s.sinking = false ∧ s.chgMay = true ∧ s.chg.bandNow = s.thm.band ∧
    (s.src 416).line = false ∧ (s.src 417).line = false ∧ (s.src 418).line = false ∧ (s.src 425).line = false ∧ s.seenSt liCharger = s.st liCharger ∧
    s.st liCharger = .starting ∧ s.chg.mode = 1 ∧ s.cellsMv (s.im Img.chgVtrk) ≤ v ∧ s.chg.evals = 9) ∧
  (∃ (s : State) (v : Nat), s.lanesRun ∧ s.chgLive = true ∧ s.reversing = false ∧ s.sinking = false ∧ s.chgMay = true ∧ s.chg.bandNow = s.thm.band ∧
    (s.src 416).line = false ∧ (s.src 417).line = false ∧ (s.src 418).line = false ∧ (s.src 425).line = false ∧ s.seenSt liCharger = s.st liCharger ∧
    s.st liCharger = .starting ∧ s.chg.mode = 1 ∧ s.cellsMv (s.im Img.chgVtrk) ≤ v ∧ s.chg.evals ≠ 9) ∧
  (∃ (s : State) (v : Nat), s.lanesRun ∧ s.chgLive = true ∧ s.reversing = false ∧ s.sinking = false ∧ s.chgMay = true ∧ s.chg.bandNow = s.thm.band ∧
    (s.src 416).line = false ∧ (s.src 417).line = false ∧ (s.src 418).line = false ∧ (s.src 425).line = false ∧ s.seenSt liCharger = s.st liCharger ∧
    s.st liCharger = .starting ∧ s.chg.mode = 1 ∧ v < s.cellsMv (s.im Img.chgVtrk)) ∧
  (∃ (s : State) (v : Nat), s.lanesRun ∧ s.chgLive = true ∧ s.reversing = false ∧ s.sinking = false ∧ s.chgMay = true ∧ s.chg.bandNow = s.thm.band ∧
    (s.src 416).line = false ∧ (s.src 417).line = false ∧ (s.src 418).line = false ∧ (s.src 425).line = false ∧ s.seenSt liCharger = s.st liCharger ∧
    s.st liCharger = .on ∧ s.chgDerates = false ∧ s.chg.mode = 3 ∧ s.vcv ≤ v) ∧
  (∃ (s : State), s.lanesRun ∧ s.chgLive = true ∧ s.chg.mode = 4 ∧ s.chgCharging = true ∧ s.sinking = false) ∧
  (∃ (s : State), s.lanesRun ∧ s.chgLive = true ∧ s.st liCharger = .off ∧ s.chg.terminated = true ∧ s.chg.run = true ∧ s.chg.source.isSome = true ∧
    s.chg.switchTo = none ∧ s.chg.present = true ∧ s.chg.hot = false ∧ s.imb Img.chgBEn s.chg.bandNow = true) ∧
  (∃ (s : State), s.lanesRun ∧ s.chgLive = true ∧ s.intoPack = true ∧ 0 < s.im Img.chgIcc ∧ s.chg.tmrEq + 65536 < s.im Img.chgTmrMin * 6000 * 65536 ∧
    s.chg.tmrAbs + 1 < 3 * (s.im Img.chgTmrMin * 6000) ∧ s.chg.tmrAbs < 0xFFFFFFFF) :=
  ⟨⟨chgStart9, 5000, ⟨rfl, rfl, rfl, rfl⟩, by decide +kernel⟩,
   ⟨chgStart, 5000, ⟨rfl, rfl, rfl, rfl⟩, by decide +kernel⟩,
   ⟨chgStart, 0, ⟨rfl, rfl, rfl, rfl⟩, by decide +kernel⟩,
   ⟨chgOn, 8400, ⟨rfl, rfl, rfl, rfl⟩, by decide +kernel⟩,
   ⟨chgOn4, ⟨rfl, rfl, rfl, rfl⟩, by decide +kernel⟩,
   ⟨chgDone, ⟨rfl, rfl, rfl, rfl⟩, by decide +kernel⟩,
   ⟨chgOn, ⟨rfl, rfl, rfl, rfl⟩, by decide +kernel⟩⟩

/-- States and operands that meet the hypotheses of PacksComeAndGo, clause by clause. -/
theorem witness_PacksComeAndGo :
  (∃ (s : State), s.lanesRun ∧ s.chgLive = true) ∧
  (∃ (s : State), s.lanesRun ∧ s.chgLive = true ∧ s.lace.energy = none ∧ s.chg.removed = false ∧ s.st liCharger ≠ .latchedOff ∧ (s.chgSelect
    s.chg.meas).isSome = true) ∧
  (∃ (s : State), s.lanesRun ∧ s.chgLive = true ∧ s.lace.energy = none ∧ s.chg.removed = false ∧ s.st liCharger ≠ .latchedOff ∧ s.st liCharger ≠ .off
    ∧ s.chgSelect s.chg.meas = none) ∧
  (∃ (s : State), s.lanesRun ∧ s.chgLive = true ∧ s.lace.energy = none ∧ s.chg.removed = true ∧ s.st liCharger = .latchedOff ∧ s.imb Img.gauUsed =
    false) :=
  ⟨⟨chgOn, ⟨rfl, rfl, rfl, rfl⟩, by decide +kernel⟩,
   ⟨chgSun, ⟨rfl, rfl, rfl, rfl⟩, by decide +kernel⟩,
   ⟨chgOn, ⟨rfl, rfl, rfl, rfl⟩, by decide +kernel⟩,
   ⟨chgRemoved, ⟨rfl, rfl, rfl, rfl⟩, by decide +kernel⟩⟩

/-- States and operands that meet the hypotheses of GaugeStepsAndEvaluates, clause by clause. -/
theorem witness_GaugeStepsAndEvaluates :
  (∃ (s : State) (dt : _), s.lanesRun ∧ s.gauRuns = true ∧ dt = (if s.gau.hib then 60 else 1)) ∧
  (∃ (s : State) (i : _) (v : _), s.ready ∧ s.imb Img.gauUsed = true ∧ s.gau.pres = false ∧ s.gaugeMeans = (i, v)) ∧
  (∃ (s : State) (i : _) (v : _), s.ready ∧ s.imb Img.gauUsed = true ∧ s.gau.pres = true ∧ s.gau.binding = true ∧ s.gaugeMeans = (i, v)) ∧
  (∃ (s : State) (i : _) (v : _), s.ready ∧ s.imb Img.gauUsed = true ∧ s.gau.pres = true ∧ s.gau.binding = false ∧ s.gau.empty = false ∧ s.gau.learn
    = none ∧ s.gau.restDue = false ∧ s.lace.energy = none ∧ s.gaugeMeans = (i, v) ∧ v * 65536 - dropOf i (s.im Img.gauR0 s.thm.band) ≤ 65536 * (s.im
    Img.gauVEmpty : Nat) ∧ 0 < s.im Img.gauWarnHys) :=
  ⟨⟨gauRun, _, ⟨rfl, rfl, rfl, rfl⟩, by decide +kernel, rfl⟩,
   ⟨gauNone, 0, 0, ⟨⟨rfl, rfl, rfl, rfl⟩, rfl⟩, by decide +kernel⟩,
   ⟨gauBind, 0, 0, ⟨⟨rfl, rfl, rfl, rfl⟩, rfl⟩, by decide +kernel⟩,
   ⟨gauHib, 0, 0, ⟨⟨rfl, rfl, rfl, rfl⟩, rfl⟩, by decide +kernel⟩⟩

/-- States and operands that meet the hypotheses of GaugeReferencesAndRests, clause by clause. -/
theorem witness_GaugeReferencesAndRests :
  (∃ (s : State), s.lanesRun ∧ s.gauRuns = true ∧ s.gau.iMa.natAbs ≤ s.im Img.gauRestI) ∧
  (∃ (s : State), s.lanesRun ∧ s.gauRuns = true ∧ s.gau.stale = false ∧ 259200 ≤ s.gau.refAge ∧ s.gau.hib = false ∧ s.st liGauge = .valid) ∧
  (∃ (s : State) (ql : _) (qin : _) (tt : _), s.lanesRun ∧ s.gauRuns = true ∧ s.gau.learn = some (ql, qin, tt) ∧ 86400 * s.im Img.gauLrnTmax ≤ tt) ∧
  (∃ (s : State), s.lanesRun ∧ s.gauRuns = true ∧ s.gau.hib = false ∧ s.gau.binding = false ∧ s.st liGauge = .valid) ∧
  (∃ (s : State), s.lanesRun ∧ s.gauRuns = true ∧ s.gau.hib = true ∧ s.gau.hibPark = false) ∧
  (∃ (s : State), s.lanesRun ∧ s.gauRuns = true) :=
  ⟨⟨gauRun, ⟨rfl, rfl, rfl, rfl⟩, by decide +kernel⟩,
   ⟨gauOld, ⟨rfl, rfl, rfl, rfl⟩, by decide +kernel⟩,
   ⟨gauLearn, 1, 1, 86400, ⟨rfl, rfl, rfl, rfl⟩, by decide +kernel⟩,
   ⟨gauRun, ⟨rfl, rfl, rfl, rfl⟩, by decide +kernel⟩,
   ⟨gauHib, ⟨rfl, rfl, rfl, rfl⟩, by decide +kernel⟩,
   ⟨gauRun, ⟨rfl, rfl, rfl, rfl⟩, by decide +kernel⟩⟩

/-- States and operands that meet the hypotheses of ClockCountsAndHalts, clause by clause. -/
theorem witness_ClockCountsAndHalts :
  (∃ (s : State), s.rtc.stopped = false ∧ s.rtc.halt = false) ∧
  (∃ (s : State), s.rtc.stopped = false ∧ s.rtc.halt = true ∧ s.rtc.wakeDue = false ∧ s.stalled = false) ∧
  (∃ (s : State), s.live = false) ∧
  (∃ (s : State), s.live = true) ∧
  (∃ (s : State), s.lanesRun) :=
  ⟨⟨wdgRuns, by decide +kernel⟩,
   ⟨clkHalt, by decide +kernel⟩,
   ⟨clkOff, by decide +kernel⟩,
   ⟨wdgRuns, by decide +kernel⟩,
   ⟨wdgRuns, ⟨rfl, rfl, rfl, rfl⟩⟩⟩

/-- States and operands that meet the hypotheses of ClockIsReadLoadedAndHalted, clause by clause. -/
theorem witness_ClockIsReadLoadedAndHalted :
  (∃ (s : State), s.ready) ∧
  (∃ (s : State), s.ready ∧ s.rtc.busy = none) ∧
  (∃ (s : State), s.ready ∧ s.rtc.busy ≠ none) ∧
  (∃ (s : State) (f : _) (sec : _) (i : _), s.lanesRun ∧ s.rtc.busy = some (f, sec, i)) ∧
  (∃ (s : State), s.ready ∧ 1 ≤ s.p4Free) :=
  ⟨⟨wdgRuns, ⟨⟨rfl, rfl, rfl, rfl⟩, rfl⟩⟩,
   ⟨wdgRuns, ⟨⟨rfl, rfl, rfl, rfl⟩, rfl⟩, by decide +kernel⟩,
   ⟨clkLoad, ⟨⟨rfl, rfl, rfl, rfl⟩, rfl⟩, by decide +kernel⟩,
   ⟨clkLoad, 4660, 77, .spi, ⟨rfl, rfl, rfl, rfl⟩, by decide +kernel⟩,
   ⟨wdgRuns, ⟨⟨rfl, rfl, rfl, rfl⟩, rfl⟩, by decide +kernel⟩⟩

/-- States and operands that meet the hypotheses of WatchdogsWaitCountAndPulse, clause by clause. -/
theorem witness_WatchdogsWaitCountAndPulse :
  (∃ (s : State) (w : Fin 8), s.ready ∧ s.imb Img.wdgUsed w = true) ∧
  (∃ (s : State) (w : Fin 8), s.ready ∧ s.imb Img.wdgUsed w = true ∧ s.lane.wdoscOk = true ∧ (s.wdg w).active = true ∧ (s.wdg w).pulse = false ∧
    (s.wdg w).paused = false ∧ s.wdgMustPause w = false ∧ (s.wdg w).writes = [] ∧ (s.wdg w).n + 1 < s.wdgP w) ∧
  (∃ (s : State) (w : Fin 8), s.ready ∧ s.imb Img.wdgUsed w = true ∧ s.lane.wdoscOk = true ∧ (s.wdg w).active = true ∧ (s.wdg w).pulse = false ∧
    (s.wdg w).paused = false ∧ s.wdgMustPause w = false ∧ (s.wdg w).writes = [] ∧ s.wdgP w ≤ (s.wdg w).n + 1) ∧
  (∃ (s : State) (w : Fin 8), s.lanesRun ∧ (s.wdg w).pulse = true) :=
  ⟨⟨wdgRuns, 0, ⟨⟨rfl, rfl, rfl, rfl⟩, rfl⟩, by decide +kernel⟩,
   ⟨wdgRuns, 0, ⟨⟨rfl, rfl, rfl, rfl⟩, rfl⟩, by decide +kernel⟩,
   ⟨wdgEnds, 0, ⟨⟨rfl, rfl, rfl, rfl⟩, rfl⟩, by decide +kernel⟩,
   ⟨wdgPulse, 7, ⟨rfl, rfl, rfl, rfl⟩, by decide +kernel⟩⟩

/-- States and operands that meet the hypotheses of OneTimeMemoryPrograms, clause by clause. -/
theorem witness_OneTimeMemoryPrograms :
  (∃ (s : State) (w : Word) (d : _), s.ready ∧ s.otpFree = true ∧ s.lifecycle = 0 ∧ (s.otpWord (cmdWord w)).chk = 0 ∧ thermWord (cmdWord w) = false ∧
    d = BitVec.ofNat 64 (s.otp.dataHi.toNat * 2 ^ 32 + s.otp.dataLo.toNat) ∧ ((s.otpWord (cmdWord w)).data &&& ~~~d) = 0 ∧ s.dataBits (cmdWord w) d ≠
    []) ∧
  (∃ (s : State), s.ready ∧ s.otpFree = true ∧ s.lifecycle = 0 ∧ s.lcBits 1 ≠ []) ∧
  (∃ (s : State) (w : Word), s.ready ∧ s.otpFree = true ∧ s.lifecycle = 0 ∧ s.rollback 1 < cmdWord w ∧ cmdWord w ≤ 256 ∧ s.ctrBits 1 (cmdWord w) ≠
    []) ∧
  (∃ (s : State) (i : Iface) (w : Word) (c : Instr), s.ready ∧ (c = .program i w ∨ c = .sealWord i w ∨ c = .lcAdvance i w ∨ c = .revoke i w ∨ c =
    .ctrRaise i w) ∧ (s.otpFree = false ∨ s.lifecycle = 4)) ∧
  (∃ (s : State) (w : Word), s.ready ∧ thermWord (cmdWord w) = true) ∧
  (∃ (s : State) (w : Word), s.ready ∧ (s.otpWord (cmdWord w)).state ≠ 1) ∧
  (∃ (s : State), s.ready ∧ s.lifecycle = 1 ∧ s.ownerUsable none = false) ∧
  (∃ (s : State) (w : Word), s.ready ∧ s.ownerUsable (some (cmdWord w)) = false) ∧
  (∃ (s : State) (w : Word), s.ready ∧ cmdWord w ≤ s.rollback 1) ∧
  (∃ (s : State) (k : _) (b : _) (rest : _), s.ready ∧ s.otp.bits = (k, b) :: rest ∧ rest ≠ [] ∧ s.seq.pf = false ∧ s.glb.mode = .run) ∧
  (∃ (s : State) (k : _) (b : _) (rest : _), s.ready ∧ s.otp.bits = (k, b) :: rest ∧ s.otp.pulses < 7 ∧ s.seq.pf = false ∧ s.glb.mode = .run) ∧
  (∃ (s : State) (k : _) (b : _) (rest : _), s.ready ∧ s.otp.bits = (k, b) :: rest ∧ s.otp.pulses = 7) ∧
  (∃ (s : State), s.ready ∧ s.otp.bits = []) :=
  ⟨⟨otpBlank, 0, _, ⟨⟨rfl, rfl, rfl, rfl⟩, rfl⟩, by decide +kernel, by decide +kernel, by decide +kernel, by decide +kernel, rfl, by decide +kernel⟩,
   ⟨otpBlank, ⟨⟨rfl, rfl, rfl, rfl⟩, rfl⟩, by decide +kernel⟩,
   ⟨otpBlank, 1, ⟨⟨rfl, rfl, rfl, rfl⟩, rfl⟩, by decide +kernel⟩,
   ⟨otpRetired, .twb0, 1, .revoke .twb0 1, ⟨⟨rfl, rfl, rfl, rfl⟩, rfl⟩, by decide +kernel⟩,
   ⟨otpBlank, 2, ⟨⟨rfl, rfl, rfl, rfl⟩, rfl⟩, by decide +kernel⟩,
   ⟨otpBlank, 0, ⟨⟨rfl, rfl, rfl, rfl⟩, rfl⟩, by decide +kernel⟩,
   ⟨otpProduct, ⟨⟨rfl, rfl, rfl, rfl⟩, rfl⟩, by decide +kernel⟩,
   ⟨otpBlank, 0, ⟨⟨rfl, rfl, rfl, rfl⟩, rfl⟩, by decide +kernel⟩,
   ⟨otpBlank, 0, ⟨⟨rfl, rfl, rfl, rfl⟩, rfl⟩, by decide +kernel⟩,
   ⟨otpPulsing, 77, 3, [(77,4)], ⟨⟨rfl, rfl, rfl, rfl⟩, rfl⟩, by decide +kernel⟩,
   ⟨otpPulsing, 77, 3, [(77,4)], ⟨⟨rfl, rfl, rfl, rfl⟩, rfl⟩, by decide +kernel⟩,
   ⟨otpLast, 77, 66, [], ⟨⟨rfl, rfl, rfl, rfl⟩, rfl⟩, by decide +kernel⟩,
   ⟨otpBlank, ⟨⟨rfl, rfl, rfl, rfl⟩, rfl⟩, by decide +kernel⟩⟩

/-- States and operands that meet the hypotheses of TokensAndSessions, clause by clause. -/
theorem witness_TokensAndSessions :
  (∃ (s : State), s.ready) ∧
  (∃ (s : State) (i : Iface), s.ready ∧ (s.iface i).authBusy = true ∧ s.tokenPasses i = false) ∧
  (∃ (s : State) (i : Iface), s.ready ∧ (s.iface i).authBusy = false) ∧
  (∃ (s : State), s.ready ∧ s.upd.st = .idle ∧ s.lifecycle ≠ 4 ∧ s.upd.lock = false) ∧
  (∃ (s : State) (src : Src), s.ready ∧ (s.upd.lock = true ∨ s.lifecycle = 4 ∨ s.notOwner src = true)) ∧
  (∃ (s : State) (i : Iface), s.ready ∧ s.mayLoad (Iface.src i) = true) ∧
  (∃ (s : State) (i : Iface), s.ready ∧ s.mayLoad (Iface.src i) = true ∧ s.upd.blkBuf.length < 4096) ∧
  (∃ (s : State) (i : Iface) (crc : Word), s.ready ∧ s.mayLoad (Iface.src i) = true ∧ (crc32c s.upd.blkBuf).toNat = crc.toNat ∧ s.upd.blkIdx < 385 ∧
    s.upd.blkBuf ≠ []) ∧
  (∃ (s : State) (i : Iface) (crc : Word), s.ready ∧ s.mayLoad (Iface.src i) = true ∧ (crc32c s.upd.blkBuf).toNat ≠ crc.toNat) ∧
  (∃ (s : State) (i : Iface), s.ready ∧ s.mayLoad (Iface.src i) = false) ∧
  (∃ (s : State) (src : Src), s.ready ∧ s.upd.st = .loading ∧ s.upd.owner = src) ∧
  (∃ (s : State), s.ready ∧ s.upd.st ≠ .loading) :=
  ⟨⟨tokenWaits, ⟨⟨rfl, rfl, rfl, rfl⟩, rfl⟩⟩,
   ⟨tokenFails, .twb0, ⟨⟨rfl, rfl, rfl, rfl⟩, rfl⟩, by decide +kernel⟩,
   ⟨tokenWaits, .spi, ⟨⟨rfl, rfl, rfl, rfl⟩, rfl⟩, by decide +kernel⟩,
   ⟨tokenWaits, ⟨⟨rfl, rfl, rfl, rfl⟩, rfl⟩, by decide +kernel⟩,
   ⟨updLocked, .twb0, ⟨⟨rfl, rfl, rfl, rfl⟩, rfl⟩, by decide +kernel⟩,
   ⟨updLoading, .twb0, ⟨⟨rfl, rfl, rfl, rfl⟩, rfl⟩, by decide +kernel⟩,
   ⟨updLoading, .twb0, ⟨⟨rfl, rfl, rfl, rfl⟩, rfl⟩, by decide +kernel⟩,
   ⟨updLoading, .twb0, 691047668, ⟨⟨rfl, rfl, rfl, rfl⟩, rfl⟩, by decide +kernel⟩,
   ⟨updLoading, .twb0, 0, ⟨⟨rfl, rfl, rfl, rfl⟩, rfl⟩, by decide +kernel⟩,
   ⟨tokenWaits, .twb0, ⟨⟨rfl, rfl, rfl, rfl⟩, rfl⟩, by decide +kernel⟩,
   ⟨updLoading, .twb0, ⟨⟨rfl, rfl, rfl, rfl⟩, rfl⟩, by decide +kernel⟩,
   ⟨tokenWaits, ⟨⟨rfl, rfl, rfl, rfl⟩, rfl⟩, by decide +kernel⟩⟩

/-- States and operands that meet the hypotheses of PackagesAreChecked, clause by clause. -/
theorem witness_PackagesAreChecked :
  (∃ (s : State), s.ready ∧ s.upd.st = .verifying ∧ s.pkgWhole = false) ∧
  (∃ (s : State) (n : _), s.ready ∧ s.upd.st = .verifying ∧ s.pkgWhole = true ∧ s.pkgFault = some n) ∧
  (∃ (s : State), s.ready ∧ s.upd.st = .copying ∧ s.pkgClass ≠ 2) ∧
  (∃ (s : State), s.ready ∧ s.upd.st = .copying ∧ s.pkgClass = 2) ∧
  (∃ (s : State) (src : Src) (c : _), s.ready ∧ s.upd.st = .ready ∧ s.upd.owner = src ∧ s.actCause = some c) ∧
  (∃ (s : State) (src : Src), s.ready ∧ s.upd.st = .ready ∧ s.upd.owner = src ∧ s.actCause = none ∧ s.pkgClass ≠ 3) ∧
  (∃ (s : State), s.ready ∧ s.upd.st ≠ .ready) ∧
  (∃ (s : State) (src : Src), s.ready ∧ (s.upd.st = .idle ∨ s.upd.owner = src)) ∧
  (∃ (s : State) (i : Iface) (k : _), s.ready ∧ (s.iface i).armed = some (0x21, 0, k)) ∧
  (∃ (s : State) (i : Iface) (k : _), s.ready ∧ (s.iface i).armed = some (0x22, 0, k)) ∧
  (∃ (s : State) (i : Iface), s.ready ∧ (s.iface i).armed = none) ∧
  (∃ (s : State), s.ready) ∧
  (∃ (s : State) (sl : Fin 64), s.ready ∧ sl.val ≠ 0 ∧ s.isDomainHead = false) ∧
  (∃ (s : State) (i : Iface) (c : Instr) (k : _) (e : _) (f : Frame), s.ready ∧ ((c = .remoteActivate i ∧ k = 3) ∨ (c = .remoteAbort i ∧
    k = 4)) ∧ s.isDomainHead = true ∧ s.upd.remSlot ≠ 0 ∧ e = (s.slotRec s.upd.remSlot).eye ∧ (s.eye e).st = .up ∧ (s.eye e).txQ = [] ∧ f =
    { kind := .bulk, dst := slotFin s.upd.remSlot, src := 0, otag := 0, slot := 0, payload := bulkPayload 3 0 (leBytes 4 k) } ∧ (s.eye e).maySend f =
    true) ∧
  (∃ (s : State), s.ready ∧ s.isDomainHead = false) :=
  ⟨⟨updEmpty, ⟨⟨rfl, rfl, rfl, rfl⟩, rfl⟩, by decide +kernel⟩,
   ⟨updBadKey, 468, ⟨⟨rfl, rfl, rfl, rfl⟩, rfl⟩, by decide +kernel⟩,
   ⟨updCopying1, ⟨⟨rfl, rfl, rfl, rfl⟩, rfl⟩, by decide +kernel⟩,
   ⟨updCopying2, ⟨⟨rfl, rfl, rfl, rfl⟩, rfl⟩, by decide +kernel⟩,
   ⟨updRefused, .twb0, 4, ⟨⟨rfl, rfl, rfl, rfl⟩, rfl⟩, by decide +kernel⟩,
   ⟨updReady, .twb0, ⟨⟨rfl, rfl, rfl, rfl⟩, rfl⟩, by decide +kernel⟩,
   ⟨tokenWaits, ⟨⟨rfl, rfl, rfl, rfl⟩, rfl⟩, by decide +kernel⟩,
   ⟨tokenWaits, .twb0, ⟨⟨rfl, rfl, rfl, rfl⟩, rfl⟩, by decide +kernel⟩,
   ⟨lockArmed, .twb0, 2, ⟨⟨rfl, rfl, rfl, rfl⟩, rfl⟩, by decide +kernel⟩,
   ⟨unlockArmed, .spi, 3, ⟨⟨rfl, rfl, rfl, rfl⟩, rfl⟩, by decide +kernel⟩,
   ⟨tokenWaits, .twb0, ⟨⟨rfl, rfl, rfl, rfl⟩, rfl⟩, by decide +kernel⟩,
   ⟨tokenWaits, ⟨⟨rfl, rfl, rfl, rfl⟩, rfl⟩⟩,
   ⟨tokenWaits, 3, ⟨⟨rfl, rfl, rfl, rfl⟩, rfl⟩, by decide +kernel⟩,
   ⟨headUp, .spi, .remoteActivate .spi, 3, 0,
     { kind := .bulk, dst := slotFin 3, src := 0, otag := 0, slot := 0, payload := bulkPayload 3 0 (leBytes 4 3) }, ⟨⟨rfl, rfl, rfl, rfl⟩, rfl⟩,
     by decide +kernel⟩,
   ⟨tokenWaits, ⟨⟨rfl, rfl, rfl, rfl⟩, rfl⟩, by decide +kernel⟩⟩

/-- States and operands that meet the hypotheses of RecorderReadsAndFlushes, clause by clause. -/
theorem witness_RecorderReadsAndFlushes :
  (∃ (s : State) (r : _), s.ready ∧ s.recd.buf = [r] ∧ s.recd.freeze = none ∧ s.recd.stopped = false ∧ recBytesUsed s.recd.ring + r.size ≤
    Config.recRingBytes ∧ (s.recd.trigger = true ∨ 1024 * s.im Img.recWm ≤ r.size ∨ s.im Img.recFlushS * 1000000 * usTime ≤ s.time - s.recd.flushT))
    ∧
  (∃ (s : State), s.ready ∧ s.recd.trigger = false ∧ s.recd.stopped = false ∧ recBytesUsed s.recd.buf < 1024 * s.im Img.recWm ∧ (s.recd.buf = [] ∨
    s.time - s.recd.flushT < s.im Img.recFlushS * 1000000 * usTime)) ∧
  (∃ (s : State), s.ready) ∧
  (∃ (s : State) (i : Iface) (k : _), s.ready ∧ (s.iface i).seek = some k ∧ (k - s.recd.seqOld).toNat < s.recd.ring.length) ∧
  (∃ (s : State) (i : Iface), s.ready ∧ (s.iface i).seek = none) ∧
  (∃ (s : State) (i : Iface), s.ready ∧ (s.iface i).cursor = none) ∧
  (∃ (s : State) (i : Iface) (k : _) (o : _) (r : _), s.ready ∧ (s.iface i).cursor = some (k, o) ∧ k ≠ s.recd.seqNext ∧ s.recd.ring[(k -
    s.recd.seqOld).toNat]? = some r) ∧
  (∃ (s : State) (k : _), s.ready ∧ (k - s.recd.unread).toNat < (s.recd.seqNext - s.recd.unread).toNat) ∧
  (∃ (s : State) (k : _), s.ready ∧ (s.recd.seqNext - s.recd.unread).toNat ≤ (k - s.recd.unread).toNat) ∧
  (∃ (s : State), s.ready ∧ s.recd.freeze = none) ∧
  (∃ (s : State) (i : Iface) (k : _), s.ready ∧ s.recd.freeze = some (i, k)) ∧
  (∃ (s : State) (i : Iface) (k : _), s.ready ∧ s.recd.freeze = some (Iface.other i, k)) ∧
  (∃ (s : State), s.ready ∧ s.recd.freeze ≠ none) ∧
  (∃ (s : State) (sl : Fin 64) (e : _) (f : Frame), s.ready ∧ sl.val ≠ 0 ∧ s.isDomainHead = true ∧ e = (s.slotRec sl).eye ∧ (s.eye e).st = .up ∧
    (s.eye e).txQ = [] ∧ f = { kind := .bulk, dst := slotFin sl, src := 0, otag := 0, slot := 0, payload := bulkPayload 1 s.recd.remOfs.toNat [] } ∧
    (s.eye e).maySend f = true) ∧
  (∃ (s : State), s.ready ∧ s.recd.remBuf = []) ∧
  (∃ (s : State), s.ready ∧ s.recd.remBuf ≠ []) ∧
  (∃ (s : State) (i : Iface), s.ready ∧ (s.iface i).armed = none) ∧
  (∃ (s : State) (i : Iface) (w : Word) (a : _) (k : _), s.ready ∧ (s.iface i).armed = some (0x11, a, k) ∧ a = 0 ∧ w = (s.iface i).ticket ∧
    s.recd.freeze = none ∧ s.seq.pf = false) :=
  ⟨⟨recBuf, rec5, ⟨⟨rfl, rfl, rfl, rfl⟩, rfl⟩, by decide +kernel⟩,
   ⟨recWaits, ⟨⟨rfl, rfl, rfl, rfl⟩, rfl⟩, by decide +kernel⟩,
   ⟨recBuf, ⟨⟨rfl, rfl, rfl, rfl⟩, rfl⟩⟩,
   ⟨recSeek, .twb0, 4, ⟨⟨rfl, rfl, rfl, rfl⟩, rfl⟩, by decide +kernel⟩,
   ⟨recBuf, .twb0, ⟨⟨rfl, rfl, rfl, rfl⟩, rfl⟩, by decide +kernel⟩,
   ⟨recBuf, .twb0, ⟨⟨rfl, rfl, rfl, rfl⟩, rfl⟩, by decide +kernel⟩,
   ⟨recCursor, .twb0, 3, 0, recAt 3, ⟨⟨rfl, rfl, rfl, rfl⟩, rfl⟩, by decide +kernel⟩,
   ⟨recBuf, 3, ⟨⟨rfl, rfl, rfl, rfl⟩, rfl⟩, by decide +kernel⟩,
   ⟨recBuf, 0, ⟨⟨rfl, rfl, rfl, rfl⟩, rfl⟩, by decide +kernel⟩,
   ⟨recBuf, ⟨⟨rfl, rfl, rfl, rfl⟩, rfl⟩, by decide +kernel⟩,
   ⟨recFrozen, .twb0, 4, ⟨⟨rfl, rfl, rfl, rfl⟩, rfl⟩, by decide +kernel⟩,
   ⟨recFrozen, .spi, 4, ⟨⟨rfl, rfl, rfl, rfl⟩, rfl⟩, by decide +kernel⟩,
   ⟨recFrozen, ⟨⟨rfl, rfl, rfl, rfl⟩, rfl⟩, by decide +kernel⟩,
   ⟨headRead, 3, _, _, ⟨⟨rfl, rfl, rfl, rfl⟩, rfl⟩, by decide +kernel, by decide +kernel, rfl, by decide +kernel, by decide +kernel, rfl,
     by decide +kernel⟩,
   ⟨recBuf, ⟨⟨rfl, rfl, rfl, rfl⟩, rfl⟩, by decide +kernel⟩,
   ⟨remFull, ⟨⟨rfl, rfl, rfl, rfl⟩, rfl⟩, by decide +kernel⟩,
   ⟨recBuf, .twb0, ⟨⟨rfl, rfl, rfl, rfl⟩, rfl⟩, by decide +kernel⟩,
   ⟨clrArmed, .spi, 7, 0, 2, ⟨⟨rfl, rfl, rfl, rfl⟩, rfl⟩, by decide +kernel⟩⟩

/-- States and operands that meet the hypotheses of PmbusReadsAnswer, clause by clause. -/
theorem witness_PmbusReadsAnswer :
  ∃ (s : State) (c : Instr) (l : List Byte), s.ready ∧ ((c = .capability ∧ l = [0xD0]) ∨ (c = .voutMode ∧ l = [0x14]) ∨ (c = .pmbusRevision ∧ l =
    [0x33]) ∨ (c = .mfrId ∧ l = [6, 0x51, 0x55, 0x4F, 0x4D, 0x55, 0x53]) ∨ (c = .mfrModel ∧ l = [6, 0x4B, 0x56, 0x39, 0x38, 0x34, 0x30]) ∨ (c =
    .mfrRevision ∧ l = [2, 0x42, 0x31]) ∨ (c = .page .read ∧ l = leBytes 1 s.host.page) ∨ (c = .writeProtect .read ∧ l = leBytes 1 s.host.wp) ∨ (c =
    .operation .read ∧ l = [if (s.st s.host.page).alive then 0x80 else 0x00]) ∨ (c = .voutCommand .read ∧ l = leBytes 2 (min 0xFFFF ((2 * 4096 *
    (s.ent s.host.page).val.toInt.toNat + 1000) / 2000))) ∨ (c = .statusByte ∧ l = leBytes 1 (s.statusWord s.host.page % 256)) ∨ (c = .statusWord ∧ l
    = leBytes 2 (s.statusWord s.host.page)) ∨ (c = .statusVout ∧ l = leBytes 1 (s.statusVout s.host.page)) ∨ (c = .statusIout ∧ l = leBytes 1
    (s.statusIout s.host.page)) ∨ (c = .statusCml ∧ l = leBytes 1 s.host.cml.toNat) ∨ (c = .readVout ∧ l = leBytes 2 (min 0xFFFF ((2 * 1024 * (s.rail
    s.host.page).vavg + 1000) / 2000))) ∨ (c = .readIout ∧ l = leBytes 2 (linear11 (if (s.st s.host.page).alive then (s.rail s.host.page).iavg else
    0) 1000)) ∨ (c = .readTemperature1 ∧ l = leBytes 2 (linear11 ((s.hottest s.host.page).getD 0) 1000)) ∨ (c = .mfrQcpl ∧ s.host.twb0.cplFifo = [] ∧
    l = 16 :: List.replicate 16 0)) :=
  ⟨hostRun, .capability, [0xd0#8], ⟨⟨rfl, rfl, rfl, rfl⟩, rfl⟩, by decide +kernel⟩

/-- States and operands that meet the hypotheses of PmbusWritesAct, clause by clause. -/
theorem witness_PmbusWritesAct :
  (∃ (s : State) (p : Pec) (v : _), s.ready ∧ s.pecBad p = false ∧ s.host.wp = 0 ∧ v < 40) ∧
  (∃ (s : State) (p : Pec) (v : _), s.ready ∧ s.pecBad p = false ∧ s.host.wp = 0 ∧ 40 ≤ v) ∧
  (∃ (s : State) (p : Pec) (v : _), s.ready ∧ s.pecBad p = false ∧ s.host.wp = 0 ∧ wpAll.contains v = true) ∧
  (∃ (s : State) (p : Pec) (v : _) (st : EState), s.ready ∧ s.pecBad p = false ∧ s.host.wp = 0 ∧ ((v = 0x80 ∧ st = EState.on) ∨ ((v = 0x40 ∨ v =
    0x00) ∧ st = EState.off)) ∧ 1 ≤ s.p4Free) ∧
  (∃ (s : State) (p : Pec), s.ready ∧ s.pecBad p = false ∧ s.host.wp = 0 ∧ 1 ≤ s.p4Free) ∧
  (∃ (s : State) (p : Pec), s.ready ∧ s.pecBad p = false ∧ s.host.wp = 0) ∧
  (∃ (s : State) (p : Pec) (addr : BitVec 24), s.ready ∧ s.pecBad p = false ∧ s.host.wp = 0 ∧ addr.toNat ≠ 0x010030) ∧
  (∃ (s : State) (p : Pec) (a : Word) (b : Word) (c : Word) (d : Word) (r : Req), s.ready ∧ s.pecBad p = false ∧ wpAll.contains s.host.wp = true ∧ r
    = ((s.pmBytes []).modIface .twb0 fun x => { x with w1 := b, w2 := c, w3 := d }).hostReq .twb0 a ∧ r.bnd = false ∧ 1 ≤ s.p4Free) ∧
  (∃ (s : State) (p : Pec) (a : Word) (b : Word) (c : Word) (d : Word) (r : Req), s.ready ∧ s.pecBad p = false ∧ wpAll.contains s.host.wp = true ∧ r
    = ((s.pmBytes []).modIface .twb0 fun x => { x with w1 := b, w2 := c, w3 := d }).hostReq .twb0 a ∧ r.bnd = false ∧ s.p4Free = 0) ∧
  (∃ (s : State) (p : Pec) (c : Instr), s.ready ∧ s.pecBad p = true ∧ ((∃ v, c = .page (.write v p)) ∨ (∃ v, c = .operation (.write v p)) ∨ (∃ v, c =
    .voutCommand (.write v p)) ∨ (∃ v, c = .writeProtect (.write v p)) ∨ c = .clearFaults p ∨ (∃ a ws, c = .mfrQwrite a ws p) ∨ (∃ ws, c = .mfrQreq
    ws p))) ∧
  (∃ (s : State) (p : Pec) (c : Instr), s.ready ∧ s.pecBad p = false ∧ s.host.wp = 0x80 ∧ ((∃ v, c = .page (.write v p)) ∨ (∃ v, c = .operation
    (.write v p)) ∨ (∃ v, c = .voutCommand (.write v p)) ∨ c = .clearFaults p)) ∧
  (∃ (s : State), s.ready) :=
  ⟨⟨hostRun, .good, 0, ⟨⟨rfl, rfl, rfl, rfl⟩, rfl⟩, by decide +kernel⟩,
   ⟨hostRun, .good, 64, ⟨⟨rfl, rfl, rfl, rfl⟩, rfl⟩, by decide +kernel⟩,
   ⟨hostRun, .good, 0, ⟨⟨rfl, rfl, rfl, rfl⟩, rfl⟩, by decide +kernel⟩,
   ⟨hostRun, .good, 0, .off, ⟨⟨rfl, rfl, rfl, rfl⟩, rfl⟩, by decide +kernel⟩,
   ⟨hostRun, .good, ⟨⟨rfl, rfl, rfl, rfl⟩, rfl⟩, by decide +kernel⟩,
   ⟨hostRun, .good, ⟨⟨rfl, rfl, rfl, rfl⟩, rfl⟩, by decide +kernel⟩,
   ⟨hostRun, .good, 0, ⟨⟨rfl, rfl, rfl, rfl⟩, rfl⟩, by decide +kernel⟩,
   ⟨hostRun, .good, 0, 0, 0, 0, _, ⟨⟨rfl, rfl, rfl, rfl⟩, rfl⟩, by decide +kernel, by decide +kernel, rfl, by decide +kernel⟩,
   ⟨hostFull, .good, 0, 0, 0, 0, _, ⟨⟨rfl, rfl, rfl, rfl⟩, rfl⟩, by decide +kernel, by decide +kernel, rfl, by decide +kernel⟩,
   ⟨hostRun, .bad, .page (.write 3 .bad), ⟨⟨rfl, rfl, rfl, rfl⟩, rfl⟩, by decide +kernel, Or.inl ⟨_, rfl⟩⟩,
   ⟨wpAllSet, .good, .page (.write 3 .good), ⟨⟨rfl, rfl, rfl, rfl⟩, rfl⟩, by decide +kernel, by decide +kernel, Or.inl ⟨_, rfl⟩⟩,
   ⟨hostRun, ⟨⟨rfl, rfl, rfl, rfl⟩, rfl⟩⟩⟩

/-- States and operands that meet the hypotheses of HostWordsAreServed, clause by clause. -/
theorem witness_HostWordsAreServed :
  (∃ (s : State) (addr : BitVec 24) (bad : _) (w : Word) (t : State), s.ready ∧ s.regRead .twb0 addr.toNat bad bad = (w, t)) ∧
  (∃ (s : State), s.ready) ∧
  (∃ (s : State) (n : _), s.ready ∧ 1 ≤ n ∧ n ≤ 32) ∧
  (∃ (s : State) (addr : BitVec 24) (w : Word) (t : State) (v : _) (u : State), s.ready ∧ s.regRead .twb0 addr.toNat false false = (w, t) ∧ t.regRead
    .twb0 addr.toNat false false = (v, u)) ∧
  (∃ (s : State) (c : _) (rest : _), s.ready ∧ s.host.twb0.cplFifo = c :: rest) ∧
  (∃ (s : State), s.ready ∧ s.host.twb0.entryLatch = none ∧ s.host.page < 40) ∧
  (∃ (s : State), s.ready ∧ s.alertLow = true) ∧
  (∃ (s : State), s.ready ∧ s.alertLow = false) ∧
  (∃ (s : State), s.ready ∧ s.imb Img.twbHnEn = true ∧ s.intLow .twb0 = true) ∧
  (∃ (s : State), s.ready ∧ s.imb Img.twbHnEn = false) ∧
  (∃ (s : State) (k : _), s.ready ∧ s.host.hnRetry = some k) ∧
  (∃ (s : State) (k : _), s.ready ∧ s.host.hnRetry = some k ∧ k < 2) ∧
  (∃ (s : State) (k : _), s.ready ∧ s.host.hnRetry = some k ∧ 2 ≤ k) ∧
  (∃ (s : State), s.ready ∧ s.host.hnRetry = none) ∧
  (∃ (s : State) (a : Byte) (b : Byte) (c : _) (w : Word) (t : State), s.ready ∧ s.regRead .spi (spiAddr [0, a, b, c]) false false = (w, t)) ∧
  (∃ (s : State) (a : Byte) (b : Byte) (c : _), s.ready ∧ s.imb Img.twbSpiCrcReq = false ∧ spiAddr [0x40, a, b, c] ≠ 0x010030) :=
  ⟨⟨hostRun, 96, false, 0, hostRun, ⟨⟨rfl, rfl, rfl, rfl⟩, rfl⟩, by decide +kernel⟩,
   ⟨hostRun, ⟨⟨rfl, rfl, rfl, rfl⟩, rfl⟩⟩,
   ⟨hostRun, 1, ⟨⟨rfl, rfl, rfl, rfl⟩, rfl⟩, by decide +kernel⟩,
   ⟨hostRun, 96, 0, hostRun, 0, hostRun, ⟨⟨rfl, rfl, rfl, rfl⟩, rfl⟩, by decide +kernel⟩,
   ⟨hostCpl, cpl5, [], ⟨⟨rfl, rfl, rfl, rfl⟩, rfl⟩, by decide +kernel⟩,
   ⟨hostRun, ⟨⟨rfl, rfl, rfl, rfl⟩, rfl⟩, by decide +kernel⟩,
   ⟨alertOn, ⟨⟨rfl, rfl, rfl, rfl⟩, rfl⟩, by decide +kernel⟩,
   ⟨hostRun, ⟨⟨rfl, rfl, rfl, rfl⟩, rfl⟩, by decide +kernel⟩,
   ⟨hostNotifies, ⟨⟨rfl, rfl, rfl, rfl⟩, rfl⟩, by decide +kernel⟩,
   ⟨hostRun, ⟨⟨rfl, rfl, rfl, rfl⟩, rfl⟩, by decide +kernel⟩,
   ⟨hnWait0, 0, ⟨⟨rfl, rfl, rfl, rfl⟩, rfl⟩, by decide +kernel⟩,
   ⟨hnWait0, 0, ⟨⟨rfl, rfl, rfl, rfl⟩, rfl⟩, by decide +kernel⟩,
   ⟨hnWait2, 2, ⟨⟨rfl, rfl, rfl, rfl⟩, rfl⟩, by decide +kernel⟩,
   ⟨hostRun, ⟨⟨rfl, rfl, rfl, rfl⟩, rfl⟩, by decide +kernel⟩,
   ⟨hostRun, 0, 0, 1, 0, hostRun, ⟨⟨rfl, rfl, rfl, rfl⟩, rfl⟩, by decide +kernel⟩,
   ⟨hostRun, 0, 0, 0, ⟨⟨rfl, rfl, rfl, rfl⟩, rfl⟩, by decide +kernel⟩⟩

/-- States and operands that meet the hypotheses of RegistersAndPinsFollow, clause by clause. -/
theorem witness_RegistersAndPinsFollow :
  (∃ (s : State) (a : BitVec 24), s.ready ∧ (a = 0x000060 ∨ a = 0x000064)) ∧
  (∃ (s : State) (w : Word), s.ready ∧ w.getLsbD 16 = true ∧ s.glb.avCyc ≠ some s.cyc) ∧
  (∃ (s : State) (w : Word), s.ready ∧ (w.getLsbD 16 = false ∨ s.glb.avCyc = some s.cyc)) ∧
  (∃ (s : State) (w : Word), s.ready ∧ w.getLsbD 16 = true) ∧
  (∃ (s : State) (w : Word), s.ready ∧ w.getLsbD 0 = true) ∧
  (∃ (s : State), s.ready ∧ (∀ k : Fin 4, s.justSet (.gauge k) = false)) ∧
  (∃ (s : State) (k : Fin 4), s.ready ∧ s.justSet (.gauge k) = true) ∧
  (∃ (s : State) (a : BitVec 24), s.ready ∧ (a = 0x000000 ∨ a = 0x000010 ∨ a = 0x000068 ∨ 0x130000 ≤ a.toNat)) ∧
  (∃ (s : State) (n : Fin 32), s.ready ∧ bitOf (s.im Img.wakeGpio) n.val = false) ∧
  (∃ (s : State) (n : Fin 32) (lv : _), s.ready ∧ bitOf (s.im Img.wakeGpio) n.val = true ∧ s.glb.gpioIn.getLsbD n.val ≠ lv ∧ s.glb.mode = .parked ∧
    s.glb.waking = none) ∧
  (∃ (s : State), s.ready ∧ s.imb Img.wakeMotion = false ∧ s.st liMotion ≠ .absent ∧ s.led.cmtNow < 3840) ∧
  (∃ (s : State), s.ready ∧ (s.st liMotion = .active ∨ s.st liMotion = .clear) ∧ s.led.cmtNow < 3840) ∧
  (∃ (s : State), s.ready ∧ s.st liMotion = .stale) ∧
  (∃ (s : State), s.ready ∧ s.glb.mode = .parked ∧ s.glb.waking = none) ∧
  (∃ (s : State), s.ready ∧ s.glb.mode = .run ∧ s.glb.parkPend = false) :=
  ⟨⟨hostRun, 96, ⟨⟨rfl, rfl, rfl, rfl⟩, rfl⟩, by decide +kernel⟩,
   ⟨hostRun, 65536, ⟨⟨rfl, rfl, rfl, rfl⟩, rfl⟩, by decide +kernel⟩,
   ⟨hostRun, 0, ⟨⟨rfl, rfl, rfl, rfl⟩, rfl⟩, by decide +kernel⟩,
   ⟨hostRun, 65536, ⟨⟨rfl, rfl, rfl, rfl⟩, rfl⟩, by decide +kernel⟩,
   ⟨hostRun, 1, ⟨⟨rfl, rfl, rfl, rfl⟩, rfl⟩, by decide +kernel⟩,
   ⟨hostRun, ⟨⟨rfl, rfl, rfl, rfl⟩, rfl⟩, by decide +kernel⟩,
   ⟨gaugeNow, 0, ⟨⟨rfl, rfl, rfl, rfl⟩, rfl⟩, by decide +kernel⟩,
   ⟨hostRun, 0, ⟨⟨rfl, rfl, rfl, rfl⟩, rfl⟩, by decide +kernel⟩,
   ⟨hostRun, 0, ⟨⟨rfl, rfl, rfl, rfl⟩, rfl⟩, by decide +kernel⟩,
   ⟨wakeArmed, 3, true, ⟨⟨rfl, rfl, rfl, rfl⟩, rfl⟩, by decide +kernel⟩,
   ⟨motionOff, ⟨⟨rfl, rfl, rfl, rfl⟩, rfl⟩, by decide +kernel⟩,
   ⟨motionOff, ⟨⟨rfl, rfl, rfl, rfl⟩, rfl⟩, by decide +kernel⟩,
   ⟨motionStale, ⟨⟨rfl, rfl, rfl, rfl⟩, rfl⟩, by decide +kernel⟩,
   ⟨wakeArmed, ⟨⟨rfl, rfl, rfl, rfl⟩, rfl⟩, by decide +kernel⟩,
   ⟨hostRun, ⟨⟨rfl, rfl, rfl, rfl⟩, rfl⟩, by decide +kernel⟩⟩

/-- Data words of the key slots in these tests: the digest of a key, the digest of the image's key field, and a word of no key. -/
def keyWords : List (BitVec 64) := [0xfa6d6da42406e3cf, 0x8e97586baff92adb, 0x81918d2b013cf477, 0x658f40eb393e2036]
def fieldWords : List (BitVec 64) := [0x1a5bf3005a1aef59, 0xa7520ba76ca52d72, 0xa44f4d639839f321, 0xbdb6f770f1019325]
/-- What these tests assume of the code of R565 where a SEALED word takes part (its code is a constant without a body, assumption 5):
it gives the words below check bytes other than 0, and passes them. -/
def Seals : Prop := ∀ d ∈ keyWords ++ fieldWords ++ [1, 5], Config.secdedCheck d ≠ 0 ∧ Config.secdedDecode d (Config.secdedCheck d) = some (d, false)
/-- A word SEALED so. -/
def sealedWord (d : BitVec 64) : OtpWord := { data := d, chk := Config.secdedCheck d }
/-- One-time memory with a unit identity, whose key slot k holds these data words, SEALED. -/
def otpKey (k : Nat) (l : List (BitVec 64)) : Tbl OtpWord := (0, { data := 0xAB }) :: (slotWords k).zip (l.map sealedWord)
/-- An owned unit, a token signed under slot 2, a package signed under slot 0, and a unit that starts with the image's key in slot 2. -/
def otpSealed : State := { up [] with otp := { words := otpKey 2 [5, 5, 5, 5] } }
def tokenSigned : State :=
  { up [] with
    otp := { words := otpKey 2 keyWords }
    host := { twb0 := { authBusy := true, nonceLo := 9, authBuf := [(0, 0x00020010), (1, 0x000000ab), (3, 0x00000009), (5, 0x00001234), (8, 0xa48c8f82), (9, 0x176e4fef), (10, 0xcbcda483), (11, 0xc12ae550), (12, 0x1b59ab0f), (13, 0x2a80c61e), (14, 0xd663997d), (15, 0xa886ff5f)] ++ [(16, 0x03ca9f4b), (17, 0xa74f7ca5), (18, 0x7f711512), (19, 0x0b4e027b), (20, 0xcef505e0), (21, 0x3541220d), (22, 0xa1ce3dbf), (23, 0x2706fde2)] } } }
/-- The signature over the first 64 bytes of that package's header, most significant byte first. -/
def pkgSign : Nat := 0xdef56562d74f32bd2bb0d05945ac31f957b1afd064441eedc124e522ee887d9ef5fc03e2ecc645505f50dcd5ac53ba5fc892d9532fb281f040c15098938cc4f7
def pkgSigned : State :=
  { up [] with otp := { words := otpKey 0 keyWords }, upd := { st := .verifying, blocks := [(0, (pkgHdr 1).take 64 ++ beBytes 64 pkgSign)] } }
def startSigned : State := { glb := { mode := .starting }, otp := { words := otpKey 2 fieldWords } }
theorem sealedWord_state (h : Seals) (d : BitVec 64) (m : d ∈ keyWords ++ fieldWords ++ [1, 5]) : (sealedWord d).state = 2 := by
  have c := h d m
  have n : (sealedWord d).chk ≠ 0 := c.1
  rw [OtpWord.state, if_neg n]
  simp [sealedWord, c.2]
theorem sealedWord_value (h : Seals) (d : BitVec 64) (m : d ∈ keyWords ++ fieldWords ++ [1, 5]) : (sealedWord d).value = d := by
  have c := h d m
  have n : (sealedWord d).chk ≠ 0 := c.1
  rw [OtpWord.value, if_neg n]
  simp [sealedWord, c.2]
theorem otpWord_of_key (s : State) (k : Nat) (a b c d : BitVec 64) (e : s.otp.words = otpKey k [a, b, c, d]) :
    (slotWords k).map s.otpWord = [a, b, c, d].map sealedWord := by
  simp [slotWords, State.otpWord, e, otpKey, Tbl.get, List.range_succ]
  intro h
  omega
/-- A slot with these words is usable and holds them. -/
theorem slot_of_sealed (h : Seals) (s : State) (k : Nat) (l : List (BitVec 64)) (hk : k < 8) (hr : s.revoked k = false)
    (hl : ∀ d ∈ l, d ∈ keyWords ++ fieldWords ++ [1, 5]) (hw : (slotWords k).map s.otpWord = l.map sealedWord) :
    s.slotUsable k = true ∧ s.slotKey k = l := by
  have e : ∀ w ∈ slotWords k, ∃ d ∈ l, s.otpWord w = sealedWord d := by
    intro w m
    have := List.mem_map_of_mem (f := s.otpWord) m
    rw [hw] at this
    obtain ⟨d, md, e⟩ := List.mem_map.1 this
    exact ⟨d, md, e.symm⟩
  constructor
  · simp only [State.slotUsable, hk, hr, decide_true, Bool.not_false, Bool.and_self, Bool.true_and, List.all_eq_true, beq_iff_eq]
    intro w m
    obtain ⟨d, md, e⟩ := e w m
    rw [e, sealedWord_state h d (hl d md)]
  · have : s.slotKey k = ((slotWords k).map s.otpWord).map OtpWord.value := by simp [State.slotKey]
    rw [this, hw, List.map_map]
    exact (List.map_congr_left fun d md => sealedWord_value h d (hl d md)).trans (List.map_id l)

/-- A seal and a revocation of OneTimeMemoryPrograms, where the code of R565 gives a check byte and passes the owner's words. -/
theorem witness_OneTimeMemoryPrograms_sealed (h : Seals) :
  (∃ (s : State) (w : Word), s.ready ∧ s.otpFree = true ∧ s.lifecycle = 0 ∧ (s.otpWord (cmdWord w)).state = 1 ∧ s.checkBits (cmdWord w) ≠ []) ∧
  (∃ (s : State) (w : Word), s.ready ∧ s.otpFree = true ∧ s.lifecycle = 0 ∧ cmdWord w ≤ 7 ∧ s.ownerUsable (some (cmdWord w)) = true ∧ s.revokeBits (cmdWord w) ≠ []) := by
  refine ⟨⟨otpWritten, 77, ⟨⟨rfl, rfl, rfl, rfl⟩, rfl⟩, by decide +kernel, by decide +kernel, by decide +kernel, ?_⟩,
    ⟨otpSealed, 0, ⟨⟨rfl, rfl, rfl, rfl⟩, rfl⟩, by decide +kernel, by decide +kernel, by decide +kernel, ?_, by decide +kernel⟩⟩
  · have e : (otpWritten.otpWord (cmdWord 77)).data = 1 := by decide +kernel
    have n : ∀ c : BitVec 8, c ≠ 0 → (List.range 8).filter (fun i => c.getLsbD i) ≠ [] := by decide +kernel
    simp only [State.checkBits, e]
    exact fun c => n _ (h 1 (by simp)).1 (List.map_eq_nil_iff.1 c)
  · have u : otpSealed.slotUsable 2 = true := (slot_of_sealed h otpSealed 2 [5, 5, 5, 5] (by decide) (by decide +kernel) (fun _ m => by simp at m; simp [m]) (otpWord_of_key _ _ _ _ _ _ rfl)).1
    have e : (some 2 != some (cmdWord 0)) = true := by decide
    simp only [State.ownerUsable, List.any_cons, u, e, Bool.and_self, Bool.true_or]

/-- A token of TokensAndSessions that passes, where the code of R565 passes the key's words. -/
theorem witness_TokensAndSessions_sealed (h : Seals) :
  ∃ (s : State) (i : Iface), s.ready ∧ (s.iface i).authBusy = true ∧ s.tokenPasses i = true := by
  refine ⟨tokenSigned, .twb0, ⟨⟨rfl, rfl, rfl, rfl⟩, rfl⟩, by decide +kernel, ?_⟩
  obtain ⟨u, sk⟩ := slot_of_sealed h tokenSigned 2 keyWords (by decide) (by decide +kernel) (fun _ m => by simp [m]) (otpWord_of_key _ _ _ _ _ _ rfl)
  have k : numAt (tokenSigned.iface .twb0).authBytes 2 1 = 2 := by decide +kernel
  have r : rolePermits 2 (numAt (tokenSigned.iface .twb0).authBytes 0 2) = true := by decide +kernel
  have d : (numAt (tokenSigned.iface .twb0).authBytes 4 8 == tokenSigned.uid.toNat) = true := by decide +kernel
  have n : (numAt (tokenSigned.iface .twb0).authBytes 12 8 == (tokenSigned.iface .twb0).nonceHi.toNat * 2 ^ 32 + (tokenSigned.iface .twb0).nonceLo.toNat) = true := by decide +kernel
  have v : signatureVerifies keyWords ((tokenSigned.iface .twb0).authBytes.take 32) ((tokenSigned.iface .twb0).authBytes.drop 32) = true := by decide +kernel
  simp only [State.tokenPasses, k, u, r, d, n, sk, v, Bool.and_self]

/-- A package of PackagesAreChecked that passes, where the code of R565 passes the key's words. -/
theorem witness_PackagesAreChecked_sealed (h : Seals) :
  ∃ (s : State), s.ready ∧ s.upd.st = .verifying ∧ s.pkgWhole = true ∧ s.pkgFault = none ∧ s.pkgClass ≠ 3 := by
  refine ⟨pkgSigned, ⟨⟨rfl, rfl, rfl, rfl⟩, rfl⟩, by decide +kernel, by decide +kernel, ?_, by decide +kernel⟩
  obtain ⟨u, sk⟩ := slot_of_sealed h pkgSigned 0 keyWords (by decide) (by decide +kernel) (fun _ m => by simp [m]) (otpWord_of_key _ _ _ _ _ _ rfl)
  have k : numAt pkgSigned.pkgHead 5 1 = 0 := by decide +kernel
  have c : pkgSigned.pkgClass = 1 := by decide +kernel
  have b : (numAt pkgSigned.pkgHead 24 8 == 0) = true := by decide +kernel
  have v : ¬ pkgSigned.pkgSvn < pkgSigned.rollback 0 := by decide +kernel
  have r : ((crc32c pkgSigned.pkgPayload).toNat != numAt pkgSigned.pkgHead 16 4) = false := by decide +kernel
  have g : signatureVerifies keyWords (pkgSigned.pkgHead.take 64 ++ pkgSigned.pkgPayload) (bytesAt pkgSigned.pkgHead 64 64) = true := by decide +kernel
  simp [State.pkgFault, k, c, u, b, v, r, sk, g, imageRole]

/-- The copy of these tests passes the rows of R607 that judge its bytes alone. -/
theorem imgBytes_table : tableOk imgBytes = true := by decide +kernel
set_option maxRecDepth 100000 in
theorem imgBytes_header : headerOk imgBytes = true := by decide +kernel
theorem imgBytes_bodies : bodiesOk imgBytes = true := by decide +kernel
/-- The configuration that the copy carries. -/
def imgCfg : Tbl Word := [(65568, 100), (458800, 2), (458828, 19660800), (852100, 170), (983040, 16842753), (1048576, 16384), (1179676, 256)]
theorem imgBytes_words : imgWords imgBytes = imgCfg := by decide +kernel
theorem imgBytes_sections : (imgSects imgBytes).map (·.id) = [1] := by decide +kernel
theorem imgCfg_mask : maskOk imgCfg = true := by decide +kernel
theorem imgCfg_ranges : (ofImg imgCfg).rangesOk [1] = true := by decide +kernel
theorem imgCfg_rest : ([1].contains 1 && (List.range 40).all (fun r => !(ofImg imgCfg).imb Img.railUsed r || (ofImg imgCfg).railOk r) && (ofImg imgCfg).programsOk &&
    (ofImg imgCfg).graphOk && (ofImg imgCfg).laceOk && (ofImg imgCfg).adcOk && (ofImg imgCfg).thermOk [1] && (ofImg imgCfg).gaugeOk && (ofImg imgCfg).addrOk) = true := by
  decide +kernel
theorem imgBytes_consistent : imageConsistent (imgWords imgBytes) ((imgSects imgBytes).map (·.id)) = true := by
  have r := imgCfg_rest
  simp only [Bool.and_eq_true] at r
  simp [imageConsistent, imgBytes_words, imgBytes_sections, imgCfg_mask, imgCfg_ranges, r]

/-- A cold start of ColdStartsRun from copy A, where the code of R565 passes the key's words. -/
theorem witness_ColdStartsRun_copy (h : Seals) :
  ∃ (s : State) (e : StartEnv) (n : Nat) (l : List Byte), s.glb.mode = .starting ∧ s.glb.haltCause = 0 ∧ (e.rom1 || e.rom2) = true ∧ 2 ≤ passes (selfTest e.bist) ∧
    s.pickCopy e = some (n, l) := by
  refine ⟨startSigned, env0, 1, imgBytes, by decide +kernel, by decide +kernel, by decide +kernel, by decide +kernel, ?_⟩
  obtain ⟨u, sk⟩ := slot_of_sealed h startSigned 2 fieldWords (by decide) (by decide +kernel) (fun _ m => by simp [m]) (otpWord_of_key _ _ _ _ _ _ rfl)
  have k : numAt imgBytes (sigOfs imgBytes + 4) 1 = 2 := by decide +kernel
  have f : sigFormOk imgBytes = true := by decide +kernel
  have d : keyDigest (bytesAt imgBytes (sigOfs imgBytes + 8) 65) = fieldWords := by decide +kernel
  have ik : startSigned.imageKeyOk imgBytes = true := by simp only [State.imageKeyOk, f, k, u, sk, d, decide_true, Bool.and_self]
  have is : startSigned.imageSigOk imgBytes = true := by
    have : startSigned.lifecycle ≤ 1 := by decide +kernel
    simp only [State.imageSigOk, this, decide_true, Bool.true_or]
  have a : (numAt imgBytes 16 8 == 0) = true := by decide +kernel
  have b : ¬ numAt imgBytes 12 2 < startSigned.rollback 1 := by decide +kernel
  have j : startSigned.judgeImage imgBytes = none := by
    simp only [State.judgeImage, imgBytes_header, imgBytes_table, imgBytes_bodies, imgBytes_consistent, a, ik, is, b, Bool.true_or, Bool.not_true, Bool.or_false, Bool.false_eq_true, if_false]
  have nf : env0.norFound = true := rfl
  have ca : env0.copyA = imgBytes := rfl
  simp [State.pickCopy, nf, ca, j]

/-- A queue with a command in front, and an empty one, of StepRunsTheFrontCommand. -/
theorem witness_StepRunsTheFrontCommand :
  (∃ (s : State) (c : Instr) (rest : List Instr), s.pending = c :: rest) ∧ (∃ s : State, s.pending = []) :=
  ⟨⟨{ pending := [.vholdStart] }, .vholdStart, [], rfl⟩, ⟨State.reset, rfl⟩⟩

/-- A step that changes the mode, of ModesFollowTheTable. -/
theorem witness_ModesFollowTheTable : ∃ s t : State, step s = .next t ∧ t.glb.mode ≠ s.glb.mode :=
  ⟨{ pending := [.vholdStart] }, _, rfl, by decide +kernel⟩

/-- A warm start of WarmStartAndLanesKeepTheMode, and a step of one in progress. -/
theorem witness_WarmStartAndLanesKeepTheMode : (∃ (s t : State) (c : Instr), warmOrLane c = true ∧ exec c s = .next t) ∧
  (∃ s t : State, s.pending = [] ∧ step s = .next t ∧ s.glb.warmBusy = true ∧ t.glb.warmBusy = false) :=
  ⟨⟨warmLane, _, .warmStart ⟨100⟩, rfl, rfl⟩, ⟨warmE, _, rfl, rfl, rfl, by decide +kernel⟩⟩

/-- A programming pulse that ends, of OneTimeBitsStaySet. -/
theorem witness_OneTimeBitsStaySet : ∃ s t : State, step s = .next t ∧ (t.otpWord 77).data = 8 :=
  ⟨{ otpPulsing with pending := [.otpPulseDone true] }, _, rfl, by decide +kernel⟩

/-- A step between two governing states whose epochs are ordered, of EpochNumbersNeverDecrease. -/
theorem witness_EpochNumbersNeverDecrease : ∃ s t : State, s.epochsOrdered ∧ step s = .next t ∧ s.live = true ∧ t.live = true :=
  ⟨{ running with pending := [.capability] }, _, ⟨fun _ => by decide +kernel, fun h => nomatch h⟩, rfl, by decide +kernel, by decide +kernel⟩

set_option maxRecDepth 100000 in
/-- The step 6 of a warm start whose configuration moves a field of section 3, of ImageHoldsWhileGoverning. -/
theorem witness_ImageHoldsWhileGoverning : ∃ s t : State, s.live = true ∧ step s = .next t ∧ t.live = true ∧ t.img ≠ s.img :=
  ⟨warmCc, _, rfl, rfl, by decide +kernel, by decide +kernel⟩

/-- A step from memories in their canonical form, of MemoriesStayCanonical. -/
theorem witness_MemoriesStayCanonical : ∃ s t : State, s.memoriesCanonical ∧ step s = .next t :=
  ⟨{ otpPulsing with pending := [.otpPulseDone true] }, _, ⟨by decide +kernel, by decide +kernel⟩, rfl⟩


/-- The state after a command. -/
def after (c : Instr) (s : State) : State := match exec c s with
  | .next t => t
  | _ => s

/-- The block reads no word of the table of commands: its rows give no bits. -/
theorem test_no_words : decodeTableWord 32 0x12345678 = none := rfl

/-- A command in front of the queue goes first, and reset is COLD. -/
theorem test_step_takes_front : (match step { pending := [.vholdStart, .vholdBrownOut] } with
  | .next t => (t.glb.mode, t.pending)
  | _ => (.held, [])) = (Mode.starting, [.vholdBrownOut]) := by decide +kernel

/-- R27, worked example: PH05 of slot 3. -/
theorem test_endpoint_id : epId 3 (liPhase 5) = 0x1845 ∧ 0x400000 + 16 * epId 3 (liPhase 5) = 0x418450 := by decide
/-- R606, worked example: the lengths of UNIT, RAILS, LOOP, SEQ and FAULT. -/
theorem test_section_lengths : [1, 2, 3, 4, 5].map (fun k => 4 * (sectionWords k).length) = [0x30, 0x1104, 0x2000, 0x2AB4, 0x1444] := by decide +kernel
/-- R221, worked example: program words 0, 3 and 4 of SG00. -/
theorem test_program_words : StepHdr.ofWord 0x10406000 = { op := .bundle, nops := 1, link := 1, linkV := true, arg := 0 } ∧
  (StepHdr.ofWord 0x10402000).link = 0 ∧ (StepHdr.ofWord 0).op = .fin := by decide
/-- R556, worked example: the CRC of the frame 23 41 84 50. -/
theorem test_spi_crc : crc8 [0x23, 0x41, 0x84, 0x50] = 0x94 := by decide +kernel
/-- R519, worked example: a START record takes 44 bytes. -/
theorem test_start_record : recSize 16 = 44 := by decide
/-- R188, worked example: P, the integrator's gain and the feed-forward of a sample. -/
theorem test_loop_terms : term 0x66666666 13 128 = 26843546 ∧ term 0x66666666 18 128 = 838861 ∧ term 0x51EB851F 23 131072 = 21474836 := by decide +kernel
/-- R193, worked example: NFAC with 6 of 8 phases. -/
theorem test_loop_nfac : roundDiv (8 * 65536) 6 = 87381 := by decide

/-- Channel 12 of the worked example of R416, awaited at entry 0 of sequencer 2. -/
def chan12 : State := { up [(Img.adcChUsed, 12, 1), (Img.adcChSrc, 12, 0x70), (Img.adcChQfmt, 12, 2), (Img.adcChGain, 12, 625), (Img.adcChShift, 12, 9), (Img.adcSeqEntry, 0, 0x220C0000)] with adc := { seqs := [(2, { due := [(0, 0, [0, 0, 0, 0])] })], bankTag := 5 } }
/-- R412, worked example: four conversions of 4,915 make 19,660 and 23,999 mV. -/
theorem test_channel_value : resultX false 2 [4915, 4915, 4915, 4915] = 19660 ∧ chan12.chValue 12 19660 = 23999 := by decide +kernel
/-- R413, worked example: the queue entry of that result with bank tag 5. -/
theorem test_queue_entry : (chan12.rqPut 12 false true (queueData 0x70 2 2 false [4915, 4915, 4915, 4915] 19660)).adc.rq = [0x0C454CCC] := by decide +kernel

/-- TZ05 and LS03 of the worked example of R433. -/
def derated : State := { up [(Img.thmDtUsed, 0, 1), (Img.thmDtZone, 0, 5), (Img.thmDtInom, 0, 200), (Img.thmDtFloor, 0, 40)] with thm := { zones := [(5, { f := excess 103000 95000 115000 })] } }
theorem test_derating : excess 103000 95000 115000 = 409 ∧ derated.dtLimit 0 = 15200 := by decide +kernel

/-- LS07 of the worked example of R174, at 45 A. -/
def ls07 : State := up [(Img.lsUsed, 7, 1), (Img.lsIcont, 7, 2000), (Img.lsI2tK, 7, 2000000), (Img.lsI2tWarn, 7, 80)] [(liSwitch 7, .on)]
/-- One step of 10 µs adds 0.01625 A²s, and with the switch open a step takes away, not below 0. -/
theorem test_i2t_step : ((after (.i2tUpdate 7 45000 10) ls07).switch 7).acct = 16250000000 ∧ ((after (.i2tUpdate 7 0 10) ls07).switch 7).acct = 0 := by decide +kernel
/-- The warning comes at step 98,462 and the trip at step 123,077. -/
theorem test_i2t_trip :
  ((after (.i2tUpdate 7 45000 10) { ls07 with switches := [(7, { acct := 98460 * 16250000000 })] }).switch 7).warn = false ∧
  ((after (.i2tUpdate 7 45000 10) { ls07 with switches := [(7, { acct := 98461 * 16250000000 })] }).switch 7).warn = true ∧
  ((after (.i2tUpdate 7 45000 10) { ls07 with switches := [(7, { acct := 123075 * 16250000000, warn := true })] }).switch 7).trip = false ∧
  ((after (.i2tUpdate 7 45000 10) { ls07 with switches := [(7, { acct := 123076 * 16250000000, warn := true })] }).switch 7).trip = true := by decide +kernel

/-- The pack of the worked example of R454 and R455: CHG_ICC 2,000 mA, CHG_TMR_MIN 120. -/
def timing (eq abs : Nat) : State := { up [(Img.chgUsed, 0, 1), (Img.chgIcc, 0, 200), (Img.chgTmrMin, 0, 120)] [(liCharger, .on)] with chg := { conv := true, mode := 2, tmrEq := eq, tmrAbs := abs } }
/-- At 500 mA the equivalent count rises by a quarter, at 200 mA by an eighth. -/
theorem test_safety_rate : (after (.safetyTimerUpdate 500) (timing 0 0)).chg.tmrEq = 16384 ∧ (after (.safetyTimerUpdate 200) (timing 0 0)).chg.tmrEq = 8192 := by decide +kernel
/-- FS416 asserts when the equivalent count reaches 120 min, FS417 at 360 min of the absolute one. -/
theorem test_safety_expiry :
  ((after (.safetyTimerUpdate 500) (timing (120 * 6000 * 65536 - 16384) 1800000)).src 416).line = true ∧
  ((after (.safetyTimerUpdate 500) (timing (120 * 6000 * 65536 - 16385) 1800000)).src 416).line = false ∧
  ((after (.safetyTimerUpdate 200) (timing 0 (360 * 6000 - 1))).src 417).line = true := by decide +kernel

/-- Watchdog 2 of the worked example of R508: P 1,000, f 16, tasks 0 and 1. -/
def wdg2 (x : Wdg) : State := { up [(Img.wdgUsed, 2, 1), (Img.wdgTaskEn, 2, 3)] with otp := { words := [(3, { data := 16 * 4096 })] }, wdgs := [(2, { active := true, per := 1000, n := x.n, checkin := x.checkin, writes := x.writes })] }
/-- Step 1: task 0 checks in. -/
theorem test_wdg_checkin : ((after (.watchdogTick 2) (wdg2 { n := 99, writes := [.checkin 1] })).wdg 2).checkin = 1 := by decide +kernel
/-- Steps 2 and 3: a duplicate, and a key with task 1 missing: both are service faults and the period goes on. -/
theorem test_wdg_faults : ((after (.watchdogTick 2) (wdg2 { n := 199, checkin := 1, writes := [.checkin 1] })).wdg 2).svcFlt = 1 ∧
  ((after (.watchdogTick 2) (wdg2 { n := 299, checkin := 1, writes := [.key 0x6E1DA7C3] })).wdg 2).n = 300 := by decide +kernel

/-- RAIL05 of the worked examples of R76 and R97: ON at 900 mV inside 800 to 950 mV. -/
def rail05 : State := { up [(Img.railUsed, 5, 1), (Img.railEnvVlo, 5, 800), (Img.railEnvVhi, 5, 950)] with led := { epoch := 1000, pubEpoch := 999, cur := [(5, { st := .on, ty := 1, val := 900 })] } }
/-- 905 mV of the load-line loop lies inside the envelope; 780 mV is clamped to its lower bound, and a host's 850 mV passes. -/
theorem test_welt_clamps :
  rail05.welt { ep := 5, kind := .setpoint, val := 905, cls := 5, reqr := 0x25 } [] false = .issue 905 false false [] ∧
  rail05.welt { ep := 5, kind := .setpoint, val := 780, cls := 5, reqr := 0x25 } [] false = .issue 800 true false [] ∧
  rail05.welt { ep := 5, kind := .setpoint, val := 850, cls := 4, reqr := 0x41 } [] false = .issue 850 false false [] := by decide +kernel
/-- R40: RAIL05 turns OFF through STOPPING; a request to an endpoint that is ABSENT is refused. -/
theorem test_welt_chain : rail05.welt { ep := 5, kind := .state, val := 1, cls := 4, reqr := 0x41 } [] false = .issue 1 false false [.stopping, .off] ∧
  rail05.welt { ep := 6, kind := .state, val := 1, cls := 4, reqr := 0x41 } [] false = .refuse .refusedInterlock := by decide +kernel
/-- R47: the tick ends the epoch. -/
theorem test_tick : ((after .epochTick ticking).led.pubEpoch, (after .epochTick running).led.epoch) = (400, 101) := by decide +kernel

/-! Well-formedness: one ill-formed command for each check, and one that passes. -/

def mvBad : SupplyMv := ⟨65536, 0, 0, 0⟩
def helloBad : Hello := { helloA with epochLen := 65536 }
def frameBad : Frame := { frameD with payload := List.replicate 1157 0 }
def cals17 : List (Int × Nat) := List.replicate 17 (0, 32768)
def envWf : StartEnv := { env0 with cals := cals17 }
theorem test_wf_accepts : [Instr.coldStart envWf, .wake true cals17, .vholdStart, .page (.write 255 .good)].all Instr.wf = true := by decide +kernel
theorem test_wf_cold_start : ([{ envWf with bist := [] }, { envWf with bist := [7, 7, 7, 7] }, { envWf with cals := [] }, { envWf with vmodes := [(512, 0)] },
  { envWf with mv := mvBad }] : List StartEnv).all (fun e => !(Instr.coldStart e).wf) = true := by decide +kernel
theorem test_wf_start_values : [Instr.wake true [(0, 0)], .wake true (List.replicate 17 (0, 65536)), .inputLost 0 mvBad, .snapshotCommand .twb0 mvBad,
  .keepAliveCrossing true mvBad].all (fun c => !c.wf) = true := by decide +kernel
theorem test_wf_rails : [Instr.persistentCurrentLimit 0 17, .railFirstPulse 0 65536, .telemetrySample 0 (List.replicate 19 ⟨0, []⟩) 0,
  .loopSample 0 ⟨[1, 2, 3], []⟩, .warmStart ⟨3751⟩].all (fun c => !c.wf) = true := by decide +kernel
theorem test_wf_lace : [Instr.hello 0 helloBad 0, .link 0 0 0 [1], .frameForward 0 frameBad].all (fun c => !c.wf) = true := by decide +kernel
theorem test_wf_lace_sets : [Instr.joinReq 0 0 joinA 65536 0, .joinReq 0 0 joinA 0 256, .delta 0 0 { deltaA with recs := List.replicate 64 (5, wordsA) },
  .mirror 0 { mirrorA with recs := List.replicate 61 (5, wordsA) }, .mirror 0 { mirrorA with slots := List.replicate 61 (1, 0, 0) },
  .bulk 0 0 { kind := 1, ofs := 0, data := List.replicate 1025 0 }].all (fun c => !c.wf) = true := by decide +kernel
theorem test_wf_measure : [Instr.sliceCalibration 0 65536, .conversionResult 0 [16384], .meteringResult 0 8388608, .meteringResult 0 (-8388609),
  .packConversion 65536 0, .packConversion 0 65537, .packInsertion 3300].all (fun c => !c.wf) = true := by decide +kernel
theorem test_wf_pmbus : [Instr.page (.write 256 .good), .operation (.write 256 .good), .writeProtect (.write 256 .good), .voutCommand (.write 65536 .good),
  .mfrQread 0 1 2 [], .mfrQfifo 0 1 2 []].all (fun c => !c.wf) = true := by decide +kernel

end Sys2Proof.Tests
end

section
/-! PROOFS. O9: while the block governs, only the adoption step of a warm start for a configuration writes the image (R5, R603,
R610). Every other step keeps the image and the waiting commands, the ticks and the emptied boundary buffers among them. -/

namespace Sys2Proof.Machine

/-- The image and the waiting commands: what no command of the boundary buffers changes. -/
def State.imgQueue (s : State) : Tbl Word × List Instr := (s.img, s.pending)

theorem State.imgQueue_of_fixed {a b : State} (h : a.fixed = b.fixed) : a.imgQueue = b.imgQueue :=
  congrArg (fun x => (x.1.2.1, x.1.2.2.2)) h

theorem State.imgQueue_of_still {a b : State} (h : a.fixed.1 = b.fixed.1) : a.imgQueue = b.imgQueue :=
  congrArg (fun x => (x.2.1, x.2.2.2)) h

theorem State.img_of_imgQueue {a b : State} (h : a.imgQueue = b.imgQueue) : a.img = b.img := congrArg Prod.fst h

theorem State.imgQueue_foldl {α : Type} (f : State → α → State) (hf : ∀ s a, (f s a).imgQueue = s.imgQueue) (l : List α) (s : State) :
    (l.foldl f s).imgQueue = s.imgQueue :=
  List.foldlRecOn (motive := fun t => t.imgQueue = s.imgQueue) l f rfl fun t ht a _ => (hf t a).trans ht

@[simp] theorem State.modGlb_imgQueue (s : State) (f : Glb → Glb) : (s.modGlb f).imgQueue = s.imgQueue := rfl
@[simp] theorem State.modLane_imgQueue (s : State) (f : Lane → Lane) : (s.modLane f).imgQueue = s.imgQueue := rfl
@[simp] theorem State.modLace_imgQueue (s : State) (f : Lace → Lace) : (s.modLace f).imgQueue = s.imgQueue := rfl
@[simp] theorem State.with_tickAt_imgQueue (s : State) (x : Nat) : ({ s with tickAt := x } : State).imgQueue = s.imgQueue := rfl
@[simp] theorem State.with_cyc_imgQueue (s : State) (x : Nat) : ({ s with cyc := x } : State).imgQueue = s.imgQueue := rfl

/-! A tick moves epochs and times alone of what `State.fixed` lists. -/

theorem State.modLed_still (s : State) (f : Ledger → Ledger) : (s.modLed f).fixed.1 = s.fixed.1 := rfl

theorem State.tickSwap_still (s : State) (c : Nat) : (s.tickSwap c).fixed.1 = s.fixed.1 := by
  unfold State.tickSwap
  dsimp only
  split
  · rfl
  · split
    · split <;> rfl
    · split <;> rfl

theorem State.nextEpoch_still (s : State) (n : Nat) : (s.nextEpoch n).fixed.1 = s.fixed.1 := by
  unfold State.nextEpoch
  extract_lets t low
  have ht : t.fixed.1 = s.fixed.1 := rfl
  split
  · rw [State.wmWrite_fixed, ht]
  · exact ht

/-- A tick leaves the mode, the image, the one-time words and the waiting commands. -/
theorem State.tickNow_still (s : State) : s.tickNow.fixed.1 = s.fixed.1 := by
  unfold State.tickNow
  extract_lets now timed ended n cut delivered mirrored sent swapped raised begun flagged first answered judged evaluated
  have hsent : sent.fixed.1 = s.fixed.1 := by
    unfold sent mirrored delivered
    rw [State.tickSet_fixed, State.mirrorTo_fixed, State.deliverSets_fixed]
    rfl
  have hraised : raised.fixed.1 = s.fixed.1 := (State.tickSwap_still sent cut).trans hsent
  have hbegun : begun.fixed.1 = s.fixed.1 := by
    unfold begun
    rw [State.limitFlags_fixed, State.sourcesOpen_fixed, State.flushLate_fixed, State.nextEpoch_still, hraised]
  have hflagged : flagged.fixed.1 = s.fixed.1 :=
    (congrArg Prod.fst (foldl_fixed _ (fun s li => State.hwFlags_fixed s ended li) hwFlagEps begun)).trans hbegun
  have hjudged : judged.fixed.1 = s.fixed.1 := by
    unfold judged answered
    rw [State.rtcTick_fixed, State.corrWindow_fixed, State.lagCheck_fixed, State.availUpdate_fixed, State.deliverAll_fixed, hflagged]
  unfold evaluated
  rw [State.startsTick_fixed, State.groupsTick_fixed, State.gaugeTick_fixed, State.chargerTick_fixed, State.thermalTick_fixed,
    State.measureTick_fixed, hjudged]

/-- The ticks that fell inside a hold or a warm start leave them too. -/
theorem State.heldTicks_still (s : State) : s.heldTicks.fixed.1 = s.fixed.1 :=
  List.foldlRecOn (motive := fun t => t.fixed.1 = s.fixed.1) _ _ (congrArg Prod.fst (State.modLane_fixed s _))
    fun t ht _ _ => (State.tickNow_still t).trans ht

/-! What the lanes take out of the boundary buffers. -/

theorem runEpochMarker_imgQueue (e : Fin 4) (m : Marker) (s : State) : (s.after (runEpochMarker e m s)).imgQueue = s.imgQueue := by
  unfold runEpochMarker
  rw [State.after_next]
  extract_lets n lead d cycles raise ahead t ok r
  have hr : r.imgQueue = s.imgQueue := rfl
  split
  · rfl
  · split
    · rfl
    · split
      · rfl
      · split
        · exact hr
        · dsimp only
          split
          · exact (State.imgQueue_of_fixed (State.fresh_fixed r)).trans hr
          · exact (State.imgQueue_of_fixed (State.fresh_fixed r)).trans hr

theorem runOtpPulseDone_imgQueue (reads1 : Bool) (s : State) : (s.after (runOtpPulseDone reads1 s)).imgQueue = s.imgQueue := by
  unfold runOtpPulseDone
  rw [State.after_next]
  split
  · rfl
  · next w b rest _ =>
    split
    · extract_lets r u
      have hu : u.imgQueue = s.imgQueue := rfl
      split
      · exact (State.imgQueue_of_fixed (State.otpStop_fixed u)).trans hu
      · exact (State.imgQueue_of_fixed (State.otpAdvance_fixed u)).trans hu
    · have hs : s.otpStop.imgQueue = s.imgQueue := State.imgQueue_of_fixed (State.otpStop_fixed s)
      split
      · exact (State.imgQueue_of_fixed (State.pulseSrc_fixed _ _ _)).trans hs
      · split
        · exact hs
        · rfl

theorem runParkEntry_imgQueue (s : State) : (s.after (runParkEntry s)).imgQueue = s.imgQueue := by
  unfold runParkEntry
  rw [State.after_next]
  extract_lets measured taken linksDown reset onRc parked
  split
  · rfl
  · have ht : taken.imgQueue = s.imgQueue := (State.modGlb_imgQueue _ _).trans (State.imgQueue_of_fixed (State.measurePark_fixed s))
    have hd : linksDown.imgQueue = s.imgQueue :=
      (State.imgQueue_foldl _ (fun t k => State.imgQueue_of_fixed (State.of_ite (State.assertSrc_fixed _ _ _) rfl)) _ taken).trans ht
    have hr : reset.imgQueue = s.imgQueue :=
      (State.imgQueue_foldl _ (fun t k => State.imgQueue_of_fixed (State.modEye_fixed _ _ _)) _ linksDown).trans hd
    have hc : onRc.imgQueue = s.imgQueue := (State.modLane_imgQueue reset _).trans hr
    have hp : parked.imgQueue = s.imgQueue := (State.modGlb_imgQueue _ _).trans ((State.imgQueue_of_fixed (State.clockStep_fixed onRc)).trans hc)
    exact (State.with_tickAt_imgQueue parked _).trans hp

theorem runWake_imgQueue (l : Bool) (k : List (Int × Nat)) (s : State) : (s.after (runWake l k s)).imgQueue = s.imgQueue := by
  unfold runWake
  rw [State.after_next]
  split
  · rfl
  · extract_lets onA ret auto long clocked running calibrated woken rested ep joined
    split
    · rfl
    · have hl : clocked.imgQueue = s.imgQueue := State.modLane_imgQueue s _
      have hr : running.imgQueue = s.imgQueue :=
        (State.modGlb_imgQueue _ _).trans ((State.imgQueue_of_fixed (State.clockStep_fixed clocked)).trans hl)
      have hc : calibrated.imgQueue = s.imgQueue := by
        refine (State.imgQueue_of_fixed ?_).trans hr
        unfold calibrated
        rw [State.seqRestart_fixed, State.calibrateAll_fixed, State.followSrc_fixed]
      have hw : woken.imgQueue = s.imgQueue := (State.imgQueue_of_fixed (State.of_ite (State.gaugeWake_fixed calibrated) rfl)).trans hc
      have hg : rested.imgQueue = s.imgQueue := (State.imgQueue_of_fixed (State.of_ite (State.modGau_fixed woken _) rfl)).trans hw
      exact (State.with_tickAt_imgQueue joined _).trans ((State.modLace_imgQueue rested _).trans hg)

/-- Nothing that waits in the boundary buffers changes the image or the waiting commands. -/
theorem runHeld_imgQueue (c : Instr) (s : State) : (s.after (runHeld c s)).imgQueue = s.imgQueue := by
  by_cases hb : ∃ b, c = .otpPulseDone b
  · obtain ⟨b, rfl⟩ := hb; exact runOtpPulseDone_imgQueue b s
  by_cases hm : ∃ e m, c = .epochMarker e m
  · obtain ⟨e, m, rfl⟩ := hm; exact runEpochMarker_imgQueue e m s
  by_cases hp : c = .parkEntry
  · subst hp; exact runParkEntry_imgQueue s
  by_cases hw : ∃ l k, c = .wake l k
  · obtain ⟨l, k, rfl⟩ := hw; exact runWake_imgQueue l k s
  exact State.imgQueue_of_fixed (runHeld_fixed c s (fun b h => hb ⟨b, h⟩) (fun e m h => hm ⟨e, m, h⟩) hp fun l k h => hw ⟨l, k, h⟩)

/-- A command that reaches the lanes, or waits for them, keeps what its effect keeps. -/
theorem State.arrive_imgQueue (s : State) (c : Instr) (o : Host.Outcome State Fault Refusal) (h : (s.after o).imgQueue = s.imgQueue) :
    (s.after (s.arrive c o)).imgQueue = s.imgQueue := by
  have hw : (s.hardware c).imgQueue = s.imgQueue := State.imgQueue_of_fixed (State.hardware_fixed s c)
  unfold State.arrive
  split
  · split
    · exact h
    · exact hw
  · split
    · exact hw
    · exact h

/-- One arrival that the lanes take out of the buffers. -/
def State.takeOne (warm : Bool) (s : State) (x : Nat × Instr) : State :=
  let s := s.modGlb fun g => { g with lineAt := if warm then some x.1 else none }
  s.after (s.arrive x.2 (runHeld x.2 s))

theorem State.takeHeld_eq (s : State) (warm : Bool) : s.takeHeld warm =
    (((s.lane.boundary.filter (fun x => !isExpiry x.2) ++ s.lane.boundary.filter fun x => isExpiry x.2).foldl (State.takeOne warm)
      (s.modLane fun x => { x with boundary := [] })).modGlb fun g => { g with lineAt := none }) := rfl

theorem State.takeOne_imgQueue (warm : Bool) (s : State) (x : Nat × Instr) : (s.takeOne warm x).imgQueue = s.imgQueue :=
  (State.arrive_imgQueue _ x.2 _ (runHeld_imgQueue x.2 _)).trans (State.modGlb_imgQueue s _)

theorem State.takeHeld_imgQueue (s : State) (warm : Bool) : (s.takeHeld warm).imgQueue = s.imgQueue := by
  rw [State.takeHeld_eq, State.modGlb_imgQueue, State.imgQueue_foldl _ (State.takeOne_imgQueue warm), State.modLane_imgQueue]

theorem State.drain_imgQueue (s : State) : s.drain.imgQueue = s.imgQueue := by
  unfold State.drain
  extract_lets a
  have ha : a.imgQueue = s.imgQueue := State.takeHeld_imgQueue s false
  split
  · rfl
  · split
    · exact State.imgQueue_of_fixed (State.releaseRails_fixed s)
    · split
      · exact ha
      · exact (State.imgQueue_of_fixed (State.releaseRails_fixed a)).trans ha

/-! The end of a chuck hold or of a clock switch. -/

theorem State.holdEnd_imgQueue (s : State) (len : Nat) : (s.holdEnd len).imgQueue = s.imgQueue := by
  unfold State.holdEnd
  extract_lets a b
  have ha : a.imgQueue = s.imgQueue := (State.imgQueue_of_fixed (State.holdNote_fixed _ len)).trans (State.with_cyc_imgQueue s _)
  have hb : b.imgQueue = s.imgQueue := by
    unfold b
    split
    · exact ha
    · exact (State.imgQueue_of_still (State.heldTicks_still a)).trans ha
  split
  · rfl
  · split
    · exact ha
    · dsimp only
      have hc : ∀ x : Lane → Lane, (if b.lane.switched = true then (b.modLane x).switchNote else b.modLane x).imgQueue = s.imgQueue := by
        intro x
        split
        · exact (State.imgQueue_of_fixed (State.switchNote_fixed _)).trans hb
        · exact hb
      split
      · exact (State.imgQueue_of_fixed (State.settleNote_fixed _ _)).trans (hc _)
      · exact hc _

theorem State.settle_imgQueue (s : State) (res len : Nat) (iso : List Nat) : (s.settle res len iso).imgQueue = s.imgQueue := by
  unfold State.settle
  rw [State.holdEnd_imgQueue, State.imgQueue_of_fixed (foldl_fixed _ State.isolateLane_fixed iso _), State.modLane_imgQueue]

theorem runHoldCheckerStage_imgQueue (r : BitVec 3) (len : Nat) (s : State) : (s.after (runHoldCheckerStage r len s)).imgQueue = s.imgQueue := by
  unfold runHoldCheckerStage
  rw [State.after_next]
  split
  · rfl
  · dsimp only
    split
    · rfl
    · exact State.settle_imgQueue ..

theorem runHoldReplayStage_imgQueue (agree : Bool) (len : Nat) (s : State) : (s.after (runHoldReplayStage agree len s)).imgQueue = s.imgQueue := by
  unfold runHoldReplayStage
  rw [State.after_next]
  split
  · rfl
  · split
    · exact State.settle_imgQueue ..
    · rfl

theorem runHoldSelfTestStage_imgQueue (f : BitVec 3) (len : Nat) (s : State) : (s.after (runHoldSelfTestStage f len s)).imgQueue = s.imgQueue := by
  unfold runHoldSelfTestStage
  rw [State.after_next]
  split
  · rfl
  · dsimp only
    split
    · refine State.imgQueue_of_fixed ?_
      rw [State.governStop_fixed, State.holdNote_fixed, State.modLane_fixed, State.pulseSrc_fixed]
    · exact State.settle_imgQueue ..

theorem runClockSwitchDone_imgQueue (len : Nat) (s : State) : (s.after (runClockSwitchDone len s)).imgQueue = s.imgQueue := by
  unfold runClockSwitchDone
  rw [State.after_next]
  split
  · rfl
  · dsimp only
    rw [State.holdEnd_imgQueue, State.modLane_imgQueue]

/-! The adoption of R610, word for word. -/

/-- Words of l take their new values, the others keep their own. -/
theorem Tbl.get_foldl_set (new : Tbl Word) (l : List Nat) (t : Tbl Word) (a : Nat) :
    Tbl.get 0 (l.foldl (fun t a => t.set 0 a (new.get 0 a)) t) a = if l.contains a then new.get 0 a else t.get 0 a := by
  induction l generalizing t with
  | nil => rfl
  | cons k l ih =>
    rw [List.foldl_cons, ih, Tbl.get_set, List.contains_cons]
    by_cases hk : k = a
    · subst hk; simp
    · simp [hk, Ne.symm hk]

theorem State.adopt_newImg (s : State) (k : Nat) : (s.adopt k).newImg = s.newImg := rfl

theorem State.adopt_img_get (s : State) (k a : Nat) :
    (s.adopt k).img.get 0 a = if (sectionWords k).contains a then s.newImg.get 0 a else s.img.get 0 a :=
  Tbl.get_foldl_set s.newImg (sectionWords k) s.img a

theorem State.foldl_adopt_img_get (l : List Nat) (s : State) (a : Nat) :
    (l.foldl (fun s k => s.adopt k) s).img.get 0 a = if l.any (fun k => (sectionWords k).contains a) then s.newImg.get 0 a else s.img.get 0 a := by
  induction l generalizing s with
  | nil => rfl
  | cons k l ih =>
    rw [List.foldl_cons, ih, State.adopt_newImg, State.adopt_img_get, List.any_cons]
    cases (sectionWords k).contains a <;> simp

theorem State.loopsAdopt_img (s : State) : s.loopsAdopt.img = s.img := State.img_of_imgQueue (State.imgQueue_of_fixed (State.loopsAdopt_fixed s))

theorem State.adcAdopt_img (s : State) : s.adcAdopt.img = s.img := State.img_of_imgQueue (State.imgQueue_of_fixed (State.adcAdopt_fixed s))

/-- The words of the adoptable sections, and no others, take the new image's values (R610). -/
theorem State.adoptAll_img_get (s : State) (a : Nat) :
    s.adoptAll.img.get 0 a = if s.adoptable.any (fun k => (sectionWords k).contains a) then s.newImg.get 0 a else s.img.get 0 a := by
  rw [← State.foldl_adopt_img_get]
  unfold State.adoptAll
  extract_lets l b c
  have hc : c.img = b.img := by
    unfold c
    split
    · exact State.loopsAdopt_img b
    · rfl
  split
  · rw [State.adcAdopt_img, hc]
  · rw [hc]

/-- The image may become m: a warm start for an activated configuration is in progress, and each word of m is the new image's or
the present one's (R603, R610). -/
def State.adoptsTo (s : State) (m : Tbl Word) : Prop :=
  s.glb.warmBusy = true ∧ s.glb.warmIs.getLsbD 0 = true ∧ s.pkgClass = 2 ∧ ∀ a, m.get 0 a = s.newImg.get 0 a ∨ m.get 0 a = s.img.get 0 a

/-- Step 4 of a warm start in progress. -/
theorem State.warmAdopt_img (s : State) (hw : s.glb.warmBusy = true) : s.warmAdopt.img = s.img ∨ s.adoptsTo s.warmAdopt.img := by
  unfold State.warmAdopt
  extract_lets b
  split
  · next h =>
    have h : (s.glb.warmIs.getLsbD 0 && s.pkgClass == 2) = true := h
    rw [Bool.and_eq_true, beq_iff_eq] at h
    refine .inr ⟨hw, h.1, h.2, fun a => ?_⟩
    rw [State.adoptAll_img_get]
    split
    · exact .inl rfl
    · exact .inr rfl
  · exact .inl rfl

/-- Step 3 leaves what step 4 reads. -/
theorem State.adoptsTo_of_warmCode {s : State} {m : Tbl Word} (h : s.warmCode.adoptsTo m) : s.adoptsTo m := by
  unfold State.warmCode at h
  split at h
  · exact h
  · exact h

theorem State.warmCode_img (s : State) : s.warmCode.img = s.img := State.img_of_imgQueue (State.imgQueue_of_fixed (State.warmCode_fixed s))

/-- Step 6, the ticks that fell inside and what was held. -/
theorem State.warmEnd_takeHeld_img (s : State) : (s.warmEnd.heldTicks.takeHeld true).img = s.img := by
  refine State.img_of_imgQueue ?_
  rw [State.takeHeld_imgQueue, State.imgQueue_of_still (State.heldTicks_still _), State.imgQueue_of_fixed (State.warmEnd_fixed s)]

theorem State.warmBusy_of_warmDue {s : State} {k t : Nat} (h : s.warmDue k t = true) : s.glb.warmBusy = true := by
  simp only [State.warmDue, Bool.and_eq_true] at h
  obtain ⟨⟨⟨⟨hb, -⟩, -⟩, -⟩, -⟩ := h
  exact hb

/-- Of the steps of a warm start only step 4 changes the image. -/
theorem State.warmRun_img (s : State) : s.warmRun.img = s.img ∨ s.adoptsTo s.warmRun.img := by
  unfold State.warmRun
  extract_lets a b c
  have ha : a.img = s.img ∧ ∀ m, a.adoptsTo m → s.adoptsTo m := by
    unfold a
    split
    · exact ⟨State.warmCode_img s, fun _ => State.adoptsTo_of_warmCode⟩
    · exact ⟨rfl, fun _ h => h⟩
  have hb : b.img = s.img ∨ s.adoptsTo b.img := by
    unfold b
    split
    · next h => exact (State.warmAdopt_img a (State.warmBusy_of_warmDue h)).imp (·.trans ha.1) (ha.2 _)
    · exact .inl ha.1
  have hc : c.img = b.img := by
    unfold c
    split <;> rfl
  split
  · rwa [State.warmEnd_takeHeld_img, hc]
  · rwa [hc]

theorem State.warmUntil_img (s : State) (n : Nat) : (s.warmUntil n).img = s.img ∨ s.adoptsTo (s.warmUntil n).img := by
  unfold State.warmUntil
  extract_lets e
  split
  · exact State.warmRun_img { s with cyc := max s.cyc e }
  · exact .inl rfl

theorem execEpochTick_img (s : State) : (s.after (execEpochTick s)).img = s.img ∨ s.adoptsTo (s.after (execEpochTick s)).img := by
  unfold execEpochTick
  rw [State.after_next]
  extract_lets a
  have ha : a.img = s.img ∨ s.adoptsTo a.img := State.warmUntil_img s s.tickAt
  split
  · exact ha
  · split
    · exact ha
    · rwa [State.img_of_imgQueue (State.imgQueue_of_still (State.tickNow_still a))]

/-! The starts and stops: from a block that governs they lead to one that does not, or do nothing. -/

theorem State.live_mode {s : State} (h : s.live = true) : s.glb.mode = .run ∨ s.glb.mode = .parked := by
  simpa [State.live] using h

/-- A start's condition does nothing to a block that governs: its guard asks for another mode. -/
theorem execVholdStart_of_live {s : State} (h : s.live = true) : s.after (execVholdStart s) = s := by
  rcases State.live_mode h with hm | hm <;> simp [execVholdStart, State.after_next, hm]

theorem execRecoveryColdStart_of_live {s : State} (h : s.live = true) : s.after (execRecoveryColdStart s) = s := by
  rcases State.live_mode h with hm | hm <;> simp [execRecoveryColdStart, State.after_next, hm]

theorem execColdStart_of_live (e : StartEnv) {s : State} (h : s.live = true) : s.after (execColdStart e s) = s := by
  rcases State.live_mode h with hm | hm <;> simp [execColdStart, State.after_next, hm]

theorem execPorstNRelease_img_of_live {s : State} (h : s.live = true) : (s.after (execPorstNRelease s)).img = s.img := by
  rcases State.live_mode h with hm | hm <;> simp [execPorstNRelease, State.after_next, hm]

/-- A stop ends governing. -/
theorem execVholdBrownOut_not_live (s : State) : (s.after (execVholdBrownOut s)).live = false := by
  unfold execVholdBrownOut
  rw [State.after_next]
  split
  · next hm => simp [State.live, hm]
  · rfl

theorem execPorstNLow_not_live (s : State) : (s.after (execPorstNLow s)).live = false := by
  unfold execPorstNLow
  rw [State.after_next]
  extract_lets a
  split
  · next hm =>
    rw [Bool.or_eq_true, beq_iff_eq, beq_iff_eq] at hm
    rcases hm with hm | hm <;> simp [State.live, hm]
  · rfl

/-- A command keeps the image of a block that governs and goes on governing, or adopts an activated configuration's. -/
theorem exec_img (c : Instr) (s : State) (hs : s.live = true) (ht : (s.after (exec c s)).live = true) :
    (s.after (exec c s)).img = s.img ∨ s.adoptsTo (s.after (exec c s)).img := by
  by_cases hm : movesFixed c = false
  · exact .inl (State.img_of_imgQueue (State.imgQueue_of_fixed (exec_fixed c s hm)))
  cases c with
  | vholdStart => exact .inl (congrArg State.img (execVholdStart_of_live hs))
  | vholdBrownOut => exact absurd ((execVholdBrownOut_not_live s).symm.trans ht) Bool.false_ne_true
  | porstNLow => exact absurd ((execPorstNLow_not_live s).symm.trans ht) Bool.false_ne_true
  | porstNRelease => exact .inl (execPorstNRelease_img_of_live hs)
  | coldStart e => exact .inl (congrArg State.img (execColdStart_of_live e hs))
  | recoveryColdStart => exact .inl (congrArg State.img (execRecoveryColdStart_of_live hs))
  | parkEntry => exact .inl (State.img_of_imgQueue (State.arrive_imgQueue s _ _ (runParkEntry_imgQueue s)))
  | wake l k => exact .inl (State.img_of_imgQueue (State.arrive_imgQueue s _ _ (runWake_imgQueue l k s)))
  | epochTick => exact execEpochTick_img s
  | holdCheckerStage r len => exact .inl (State.img_of_imgQueue ((State.drain_imgQueue _).trans (runHoldCheckerStage_imgQueue r len s)))
  | holdReplayStage a len => exact .inl (State.img_of_imgQueue ((State.drain_imgQueue _).trans (runHoldReplayStage_imgQueue a len s)))
  | holdSelfTestStage f len => exact .inl (State.img_of_imgQueue ((State.drain_imgQueue _).trans (runHoldSelfTestStage_imgQueue f len s)))
  | clockSwitchDone len => exact .inl (State.img_of_imgQueue ((State.drain_imgQueue _).trans (runClockSwitchDone_imgQueue len s)))
  | epochMarker e m => exact .inl (State.img_of_imgQueue (State.arrive_imgQueue s _ _ (runEpochMarker_imgQueue e m s)))
  | otpPulseDone b => exact .inl (State.img_of_imgQueue (State.arrive_imgQueue s _ _ (runOtpPulseDone_imgQueue b s)))
  | _ => exact absurd rfl hm

theorem State.idle_img (s : State) : s.idle.img = s.img ∨ s.adoptsTo s.idle.img := State.warmRun_img { s with cyc := s.cyc + 1 }

/-- Settles O9: of a step's parts only step 4 of a warm start writes the image, and it takes whole words of the new one. -/
theorem imageHoldsWhileGoverning : Obligations.ImageHoldsWhileGoverning := by
  unfold Obligations.ImageHoldsWhileGoverning
  intro s t hs hstep ht hne
  suffices h : t.img = s.img ∨ s.adoptsTo t.img from h.resolve_left hne
  unfold step at hstep
  split at hstep
  · cases hstep
    exact State.idle_img s
  · next c rest _ =>
    have h := exec_img c { s with pending := rest } hs
    rw [hstep] at h
    exact h ht

end Sys2Proof.Machine
end

section
/-! PROOFS. O60: host writes to the registers without a row of their own, the board inputs GPIO and MOTION, and the wake command,
with the lanes running (R5, R39, R341, R344, R620, R625). -/

namespace Sys2Proof.Machine

/-! Bits of a mask. -/

theorem maskOf_succ (n : Nat) (f : Nat → Bool) : maskOf (n + 1) f = 2 ^ n * b2n (f n) + maskOf n f := by
  simp [maskOf, List.range_succ, Nat.mul_comm, Nat.add_comm]

theorem maskOf_lt (n : Nat) (f : Nat → Bool) : maskOf n f < 2 ^ n := by
  induction n with
  | zero => exact Nat.one_pos
  | succ n ih =>
    rw [maskOf_succ, Nat.pow_succ]
    cases f n <;> simp [b2n] <;> omega

/-- Bit k of the mask of n bits is the condition at k. -/
theorem testBit_maskOf (n : Nat) (f : Nat → Bool) (k : Nat) : (maskOf n f).testBit k = (decide (k < n) && f k) := by
  induction n with
  | zero => simp [maskOf]
  | succ n ih =>
    rw [maskOf_succ, Nat.testBit_two_pow_mul_add _ (maskOf_lt n f), ih]
    rcases Nat.lt_trichotomy k n with h | h | h
    · simp [h, Nat.lt_succ_of_lt h]
    · subst h; cases f k <;> simp [b2n]
    · have : (b2n (f n)).testBit (k - n) = false := Nat.testBit_lt_two_pow (Nat.lt_of_le_of_lt (by cases f n <;> decide) (Nat.one_lt_two_pow (by omega : k - n ≠ 0)))
      simp [Nat.not_lt.2 h.le, this, Nat.not_lt.2 (Nat.succ_le_of_lt h)]

/-! Register writes. -/

theorem exec_registerWrite_of_ready {s : State} (h : s.ready) (i : Iface) (a : BitVec 24) (w : Word) :
    exec (.registerWrite i a w) s = .next (s.regWrite i a.toNat w) := State.arrive_runs h.1 _ _

section
variable {s : State}

theorem State.regWrite_gpio (h : s.live = true) (i : Iface) (w : Word) {a : Nat} (ha : a = 0x60 ∨ a = 0x64) : s.regWrite i a w = s.setRw a w := by
  rcases ha with rfl | rfl <;> simp [State.regWrite, h]

theorem State.regWrite_avail (h : s.live = true) (i : Iface) (w : Word) :
    s.regWrite i 0x14 w = if w.getLsbD 16 && s.glb.avCyc != some s.cyc then s.modGlb fun g => { g with avLost := false } else s := by
  simp [State.regWrite, h]

theorem State.regWrite_holdPk (h : s.live = true) (i : Iface) {w : Word} (hw : w.getLsbD 16 = true) : s.regWrite i 0x7000C w = s.holdPkClr := by
  simp [State.regWrite, h, hw]

theorem State.regWrite_hostCounts (h : s.live = true) (i : Iface) {w : Word} (hw : w.getLsbD 0 = true) :
    s.regWrite i 0x10000C w = s.modHost fun h => { h with tmo := 0, pec := 0, spiErr := 0, hnFail := 0 } := by
  simp [State.regWrite, h, hw]

/-- The gauge's flags that are set in this core cycle. -/
def State.gaugeJustSet (s : State) : BitVec 4 := BitVec.ofNat 4 (maskOf 4 fun k => s.justSet (.gauge (Fin.ofNat 4 k)))

theorem State.gaugeJustSet_getLsbD (s : State) (k : Fin 4) : s.gaugeJustSet.getLsbD k = s.justSet (.gauge k) := by
  rw [State.gaugeJustSet, BitVec.getLsbD_ofNat, testBit_maskOf]
  simp

theorem State.gaugeJustSet_eq_zero (h : ∀ k : Fin 4, s.justSet (.gauge k) = false) : s.gaugeJustSet = 0#4 := by
  refine BitVec.eq_of_getLsbD_eq fun k hk => ?_
  rw [State.gaugeJustSet_getLsbD s ⟨k, hk⟩, h]
  simp

theorem State.regWrite_gauge (h : s.live = true) (i : Iface) (w : Word) :
    s.regWrite i 0xC0060 w = s.modGau fun g => { g with ie := BitVec.ofNat 4 (bitsOf w.toNat 19 16), intF := g.intF &&& (~~~(w.setWidth 4) ||| s.gaugeJustSet) } := by
  simp [State.regWrite, h, State.gaugeJustSet]

/-- A read-only or an unused address takes no write (R5). -/
theorem State.regWrite_unused (i : Iface) (w : Word) {a : Nat} (ha : a = 0 ∨ a = 0x10 ∨ a = 0x68 ∨ 0x130000 ≤ a) : s.regWrite i a w = s := by
  rcases ha with rfl | rfl | rfl | ha
  · simp [State.regWrite]
  · simp [State.regWrite]
  · simp [State.regWrite]
  · obtain ⟨n, hn⟩ : ∃ n, a / 0x10000 = n + 0x13 := ⟨a / 0x10000 - 0x13, by omega⟩
    simp [State.regWrite, hn]

/-! Wake conditions and the GPIO inputs. -/

theorem State.wake_of_parked (hm : s.glb.mode = .parked) (hw : s.glb.waking = none) (code : Nat) :
    s.wake code = s.modGlb fun g => { g with waking := some (code, s.cyc) } := by
  simp [State.wake, State.wakeWith, hm, hw]

theorem State.wake_of_run (hm : s.glb.mode = .run) (hp : s.glb.parkPend = false) (code : Nat) : s.wake code = s := by
  simp [State.wake, State.wakeWith, hm, hp]

theorem exec_wakeCommand_of_ready (h : s.ready) (i : Iface) : exec (.wakeCommand i) s = .next (s.wake 1) := by
  rw [show exec (.wakeCommand i) s = _ from State.arrive_runs h.1 _ _, runWakeCommand, if_pos h.2]

/-- GPIO input n at level lv (R620). -/
def State.gpioTo (s : State) (n : Fin 32) (lv : Bool) : State :=
  s.modGlb fun g => { g with gpioIn := if lv then g.gpioIn ||| BitVec.ofNat 32 (2 ^ n.val) else g.gpioIn &&& ~~~BitVec.ofNat 32 (2 ^ n.val) }

theorem State.gpioTo_getLsbD (s : State) (n : Fin 32) (lv : Bool) : (s.gpioTo n lv).glb.gpioIn.getLsbD n.val = lv := by
  have hb : (BitVec.ofNat 32 (2 ^ n.val)).getLsbD n.val = true := by
    rw [BitVec.getLsbD_ofNat, Nat.testBit_two_pow_self, Bool.and_true]
    exact decide_eq_true n.isLt
  cases lv with
  | true => exact (BitVec.getLsbD_or ..).trans (by rw [hb, Bool.or_true])
  | false => exact (BitVec.getLsbD_and ..).trans (by rw [BitVec.getLsbD_not, hb, Bool.not_true, Bool.and_false, Bool.and_false])

/-- A change of an input's level is a wake condition where its bit of WAKE_GPIO is set (R341, R625). -/
theorem exec_gpioChange_of_ready (h : s.ready) (n : Fin 32) (lv : Bool) : exec (.gpioChange n lv) s =
    .next (if s.glb.gpioIn.getLsbD n.val != lv && bitOf (s.im Img.wakeGpio) n.val then (s.gpioTo n lv).wake 3 else s.gpioTo n lv) := by
  rw [show exec (.gpioChange n lv) s = _ from State.arrive_runs h.1 _ _]
  simp [runGpioChange, h.2, State.gpioTo]

/-! The motion input. -/

theorem State.st_motion (s : State) : s.st liMotion = (s.stored liMotion).st := rfl

/-- The commit of the motion input's own state, with the free value w for its writer (R39). -/
def motionCm (w : Word) (st : EState) (p : Option Nat) : Cm :=
  { st := some st, val := p.map wordOf, cls := bitsOf w.toNat 15 13 % 6, reqr := bitsOf w.toNat 12 0 }

theorem State.motionCommit_eq (s : State) (st : EState) (p : Option Nat) :
    s.motionCommit st p = s.fresh.2.commit liMotion (motionCm s.fresh.1 st p) := rfl

theorem State.motionCommit_only (s : State) (st : EState) (p : Option Nat) :
    s.motionCommit st p = { s with led := (s.motionCommit st p).led, freeCtr := (s.motionCommit st p).freeCtr } := by
  rw [State.motionCommit_eq, State.commit_only]
  rfl

/-- An epoch with room for every class takes a commit at once (R109). -/
theorem Ledger.room_of_soft {l : Ledger} (h : l.cmtNow < 3840) (urgent : Bool) : l.room urgent = true := by
  cases urgent <;> simp [Ledger.room, Config.commitLimit, Config.commitSoftLimit] <;> omega

theorem State.entryAfter_st (s : State) (id : Nat) (c : Cm) : (s.entryAfter id c).st = c.st.getD (s.stored id).st := rfl

theorem State.entryAfter_val (s : State) (id : Nat) (c : Cm) : (s.entryAfter id c).val = c.val.getD (s.stored id).val := rfl

/-- What the motion entry holds after a commit of its own (R39). -/
theorem State.motionCommit_stored (ha : s.st liMotion ≠ .absent) (hr : s.led.cmtNow < 3840) (st : EState) (p : Option Nat) :
    (s.motionCommit st p).stored liMotion = s.fresh.2.entryAfter liMotion (motionCm s.fresh.1 st p) := by
  rw [State.motionCommit_eq, State.commit_stored]
  exact if_pos ⟨rfl, ha, Ledger.room_of_soft hr _⟩

theorem State.motionCommit_stored_of_ne (s : State) (st : EState) (p : Option Nat) {id : Nat} (h : id ≠ liMotion) :
    (s.motionCommit st p).stored id = s.stored id := by
  rw [State.motionCommit_eq, State.commit_stored, if_neg fun k => h k.1.symm]
  rfl

/-- A commit of the motion input's own state (R39): its state and, where p gives one, its value; no other entry and, but for the
free value, nothing outside the ledger. -/
theorem State.motionCommit_spec (ha : s.st liMotion ≠ .absent) (hr : s.led.cmtNow < 3840) (st : EState) (p : Option Nat) :
    (s.motionCommit st p).st liMotion = st ∧ ((s.motionCommit st p).stored liMotion).val = (p.map wordOf).getD (s.stored liMotion).val ∧
    (∀ id, id ≠ liMotion → (s.motionCommit st p).stored id = s.stored id) ∧
    s.motionCommit st p = { s with led := (s.motionCommit st p).led, freeCtr := (s.motionCommit st p).freeCtr } := by
  refine ⟨?_, ?_, fun _ => State.motionCommit_stored_of_ne s st p, State.motionCommit_only s st p⟩
  · rw [State.st_motion, State.motionCommit_stored ha hr]
    rfl
  · rw [State.motionCommit_stored ha hr]
    rfl

theorem exec_motionChange_of_ready (h : s.ready) (mv : Bool) (n : Nat) (hw : s.imb Img.wakeMotion = false) :
    exec (.motionChange mv n) s = .next (s.motionCommit (if mv then .active else .clear) (some n)) := by
  rw [show exec (.motionChange mv n) s = _ from State.arrive_runs h.1 _ _]
  simp [runMotionChange, h.2, hw]

theorem exec_motionRefreshLimit_of_ready (h : s.ready) :
    exec .motionRefreshLimit s = .next (if s.st liMotion = .active ∨ s.st liMotion = .clear then s.motionCommit .stale none else s) := by
  rw [show exec .motionRefreshLimit s = _ from State.arrive_runs h.1 _ _, runMotionRefreshLimit, h.2]
  cases s.st liMotion <;> rfl

end

/-- Settles O60, clause by clause: the registers, the GPIO inputs, the motion input and the wake command. -/
theorem registersAndPinsFollow : Obligations.RegistersAndPinsFollow := by
  unfold Obligations.RegistersAndPinsFollow
  intro s i h
  have hl : s.live = true := h.2
  have hw (a : BitVec 24) (w : Word) : exec (.registerWrite i a w) s = .next (s.regWrite i a.toNat w) := exec_registerWrite_of_ready h i a w
  refine ⟨fun a w ha => ?gpioRegs, fun w h16 hc => ?availLost, fun w hn => ?availKept, fun w h16 => ?holdPk, fun w h0 => ?counts,
    fun w hj => ?gaugeFlags, fun w k hj => ?gaugeSet, fun a w ha => ?unused, fun n lv hg => ?gpio, fun n lv hg hv hm hwk => ?gpioWakes,
    fun mv n hwm ha hr => ?motion, fun hst hr => ?refresh, fun hst => ?refreshStale, fun hm hwk => ?wakes, fun hm hp => ?wakeRun⟩
  case gpioRegs =>
    rw [hw, State.regWrite_gpio hl i w (by rcases ha with rfl | rfl <;> simp)]
  case availLost =>
    refine (hw _ w).trans (congrArg Host.Outcome.next ((State.regWrite_avail hl i w).trans (if_pos ?_)))
    exact Bool.and_eq_true_iff.2 ⟨h16, bne_iff_ne.2 hc⟩
  case availKept =>
    refine (hw _ w).trans (congrArg Host.Outcome.next ((State.regWrite_avail hl i w).trans (if_neg fun hc => ?_)))
    obtain ⟨h16, hc⟩ := Bool.and_eq_true_iff.1 hc
    exact hn.elim (fun hn => Bool.false_ne_true (hn.symm.trans h16)) (bne_iff_ne.1 hc)
  case holdPk =>
    exact (hw _ w).trans (congrArg Host.Outcome.next (State.regWrite_holdPk hl i h16))
  case counts =>
    exact (hw _ w).trans (congrArg Host.Outcome.next (State.regWrite_hostCounts hl i h0))
  case gaugeFlags =>
    refine (hw _ w).trans (congrArg Host.Outcome.next ((State.regWrite_gauge hl i w).trans ?_))
    rw [State.gaugeJustSet_eq_zero hj, BitVec.or_zero]
  case gaugeSet =>
    refine ⟨_, (hw _ w).trans (congrArg Host.Outcome.next (State.regWrite_gauge hl i w)), ?_⟩
    dsimp only [State.modGau_gau]
    rw [BitVec.getLsbD_and, BitVec.getLsbD_or, State.gaugeJustSet_getLsbD, hj, Bool.or_true, Bool.and_true]
  case unused =>
    rw [hw, State.regWrite_unused i w (by rcases ha with rfl | rfl | rfl | ha <;> simp [*])]
  case gpio =>
    rw [exec_gpioChange_of_ready h, hg, Bool.and_false]
    rfl
  case gpioWakes =>
    refine ⟨_, exec_gpioChange_of_ready h n lv, ?_⟩
    rw [if_pos (Bool.and_eq_true_iff.2 ⟨bne_iff_ne.2 hv, hg⟩), State.wake_of_parked (s := s.gpioTo n lv) hm hwk]
    exact ⟨rfl, State.gpioTo_getLsbD s n lv, rfl⟩
  case motion =>
    exact ⟨_, exec_motionChange_of_ready h mv n hwm, State.motionCommit_spec ha hr _ (some n)⟩
  case refresh =>
    refine ⟨_, exec_motionRefreshLimit_of_ready h, ?_⟩
    rw [if_pos hst]
    exact State.motionCommit_spec (by rcases hst with hst | hst <;> simp [hst]) hr _ none
  case refreshStale =>
    rw [exec_motionRefreshLimit_of_ready h, if_neg (by simp [hst])]
  case wakes =>
    rw [exec_wakeCommand_of_ready h, State.wake_of_parked hm hwk]
  case wakeRun =>
    rw [exec_wakeCommand_of_ready h, State.wake_of_run hm hp]

end Sys2Proof.Machine
end

section
/-! PROOFS. Frames of the lanes: a tick, a commit, the groups, the ends of operations and the records that they make leave the
lanes and their boundary buffers as they were (R290). -/

namespace Sys2Proof.Machine

@[simp] theorem State.ite_lane {c : Prop} [Decidable c] (a b : State) :
    (if c then a else b).lane = if c then a.lane else b.lane :=
  apply_ite State.lane c a b

@[simp] theorem State.foldl_lane {α : Type} {f : State → α → State} (h : ∀ t a, (f t a).lane = t.lane) (l : List α) (s : State) :
    (l.foldl f s).lane = s.lane :=
  List.foldlRecOn (motive := fun t => t.lane = s.lane) l f rfl fun t ht a _ => (h t a).trans ht

@[simp] theorem State.offer_keeps_lane (s : State) (port : Nat) (l : List Req) : (s.offer port l).lane = s.lane := by
  by_cases h : port = 7
  · subst h
    simp [State.offer]
  · exact State.offer_lane h s l

@[simp] theorem State.slotBack_lane (s : State) (c sl : Nat) : (s.slotBack c sl).lane = s.lane := by
  simp [State.slotBack]
@[simp] theorem State.pairEnds_lane (s : State) (sl : Nat) : (s.pairEnds sl).lane = s.lane := rfl
@[simp] theorem State.putStaged_lane (s : State) (c sl : Nat) (x : Nat × Entry) :
    (s.putStaged c sl x).lane = s.lane := by
  simp [State.putStaged]
@[simp] theorem State.deliverSets_lane (s : State) (c : Nat) : (s.deliverSets c).lane = s.lane := by
  simp [State.deliverSets]
@[simp] theorem State.sendFrame_lane (s : State) (e : Nat) (f : Frame) : (s.sendFrame e f).lane = s.lane := by
  simp [State.sendFrame]
@[simp] theorem State.sendSet_lane (s : State) (e : Nat) (kind : FrameKind) (dst src : Fin 64) (epoch flags n : Nat) (recs : List (List Byte)) :
    (s.sendSet e kind dst src epoch flags n recs).lane = s.lane := by
  simp [State.sendSet]
@[simp] theorem State.mirrorTo_lane (s : State) (c : Nat) : (s.mirrorTo c).lane = s.lane := by
  simp [State.mirrorTo]
@[simp] theorem State.sendOwnSet_lane (s : State) (m : Nat) (parked : Bool) :
    (s.sendOwnSet m parked).lane = s.lane := by
  unfold State.sendOwnSet
  split <;> simp
@[simp] theorem State.tickSet_lane (s : State) (n c : Nat) : (s.tickSet n c).lane = s.lane := by
  simp [State.tickSet]
@[simp] theorem State.tickSwap_lane (s : State) (c : Nat) : (s.tickSwap c).lane = s.lane := by
  simp [State.tickSwap]
@[simp] theorem State.limitFlags_lane (s : State) : s.limitFlags.lane = s.lane := by
  unfold State.limitFlags
  extract_lets a
  have ha : a.lane = s.lane := State.foldl_lane (fun _ _ => by rfl) _ s
  exact (State.foldl_lane (fun t r => State.modRail_lane t r _) _ a).trans ha
@[simp] theorem State.sourcesOpen_lane (s : State) : s.sourcesOpen.lane = s.lane := by
  simp [State.sourcesOpen]
@[simp] theorem State.commitSlot_lane (s : State) (sl : Nat) (p : Pres) : (s.commitSlot sl p).lane = s.lane := by
  simp [State.commitSlot]
@[simp] theorem State.commitDev_lane (s : State) (d : Nat) (p : Pres) : (s.commitDev d p).lane = s.lane := by
  simp [State.commitDev]
@[simp] theorem State.writeLate_lane (s : State) (d : Deferred) : (s.writeLate d).lane = s.lane := by
  unfold State.writeLate
  dsimp only
  repeat' split
  all_goals simp
@[simp] theorem State.flushLate_lane (s : State) : s.flushLate.lane = s.lane := by
  simp [State.flushLate]
@[simp] theorem State.wmWrite_lane (s : State) : s.wmWrite.lane = s.lane := rfl
@[simp] theorem State.nextEpoch_lane (s : State) (n : Nat) : (s.nextEpoch n).lane = s.lane := by
  simp [State.nextEpoch]
@[simp] theorem State.commitFlags_lane (s : State) (id cls reqr : Nat) (set clr : BitVec 16) :
    (s.commitFlags id cls reqr set clr).lane = s.lane := by
  simp [State.commitFlags]
@[simp] theorem State.hwFlags_lane (s : State) (n li : Nat) : (s.hwFlags n li).lane = s.lane := by
  simp [State.hwFlags]
@[simp] theorem State.sendCplUp_lane (s : State) (w : Words4) (otag : Nat) : (s.sendCplUp w otag).lane = s.lane := by
  unfold State.sendCplUp
  split <;> simp
@[simp] theorem State.groupCommit_lane (s : State) (g : Nat) (st : Option EState) :
    (s.groupCommit g st).lane = s.lane := by
  simp [State.groupCommit]
@[simp] theorem State.groupStep_lane (s : State) (g : Nat) : (s.groupStep g).lane = s.lane := by
  simp [State.groupStep]
@[simp] theorem State.releaseGroupOp_lane (s : State) (g : Nat) (link : Option EState) :
    (s.releaseGroupOp g link).lane = s.lane := by
  unfold State.releaseGroupOp
  dsimp only
  repeat' split
  all_goals simp
@[simp] theorem State.derateAtOn_lane (s : State) (li : Nat) : (s.derateAtOn li).lane = s.lane := by
  simp [State.derateAtOn]
@[simp] theorem State.restartDwell_lane (s : State) (r : Nat) : (s.restartDwell r).lane = s.lane := rfl
@[simp] theorem State.phaseOff_lane (s : State) (p cls reqr : Nat) (comp : Bool) :
    (s.phaseOff p cls reqr comp).lane = s.lane := by
  simp [State.phaseOff]
@[simp] theorem State.railPhasesOff_lane (s : State) (r cls reqr : Nat) (comp : Bool) :
    (s.railPhasesOff r cls reqr comp).lane = s.lane := by
  simp [State.railPhasesOff]
@[simp] theorem State.switchOff_lane (s : State) (n : Nat) : (s.switchOff n).lane = s.lane := rfl
@[simp] theorem State.forceOff_lane (s : State) (lis : List Nat) (port cls reqr : Nat) :
    (s.forceOff lis port cls reqr).lane = s.lane := by
  refine State.foldl_lane (fun t li => ?_) lis s
  dsimp only
  split
  · exact State.offer_keeps_lane _ _ _
  · exact State.offer_keeps_lane _ _ _
@[simp] theorem State.forceDependents_lane (s : State) (a reqr : Nat) : (s.forceDependents a reqr).lane = s.lane := by
  simp [State.forceDependents]
@[simp] theorem State.forcedDone_lane (s : State) (li : Nat) : (s.forcedDone li).lane = s.lane := by
  simp [State.forcedDone]
@[simp] theorem State.downFailure_lane (s : State) (g cause ep : Nat) : (s.downFailure g cause ep).lane = s.lane := by
  simp [State.downFailure]
@[simp] theorem State.afterState_lane (s : State) (li : Nat) (old new : EState) (cls reqr : Nat) (comp : Bool) :
    (s.afterState li old new cls reqr comp).lane = s.lane := by
  unfold State.afterState
  extract_lets a b c out d e
  have hb : b.lane = s.lane := by simp [a, b]
  have hc : c.lane = s.lane := by
    rw [← hb]
    unfold c
    split <;> simp
  have he : e.lane = s.lane := by simp [d, e, hc]
  split
  · rfl
  · split
    · split
      · simp [he]
      · exact he
    · exact he
@[simp] theorem State.respace_lane (s : State) (r : Nat) : (s.respace r).lane = s.lane := by
  unfold State.respace
  exact State.foldl_lane (fun _ _ => by rfl) _ s
@[simp] theorem State.phaseOn_lane (s : State) (p cls reqr : Nat) (comp : Bool) :
    (s.phaseOn p cls reqr comp).lane = s.lane := by
  simp [State.phaseOn]
@[simp] theorem State.railPhasesStart_lane (s : State) (r cls reqr : Nat) (comp : Bool) :
    (s.railPhasesStart r cls reqr comp).lane = s.lane := by
  simp [State.railPhasesStart]
@[simp] theorem State.railFail_lane (s : State) (r : Nat) : (s.railFail r).lane = s.lane := rfl
@[simp] theorem State.railOff_lane (s : State) (r : Nat) : (s.railOff r).lane = s.lane := by
  simp [State.railOff]
@[simp] theorem State.beforeState_lane (s : State) (li : Nat) (old new : EState) (cls reqr : Nat) (comp : Bool) :
    (s.beforeState li old new cls reqr comp).lane = s.lane := by
  unfold State.beforeState
  dsimp only
  repeat' split
  all_goals simp
@[simp] theorem State.commitState_lane (s : State) (li : Nat) (c : Cm) : (s.commitState li c).lane = s.lane := by
  simp [State.commitState]
@[simp] theorem State.latchPlan_lane (s : State) (g : Nat) : (s.latchPlan g).lane = s.lane := by
  simp [State.latchPlan]
@[simp] theorem State.latchGroup_lane (s : State) (g : Nat) : (s.latchGroup g).lane = s.lane := by
  simp [State.latchGroup]
@[simp] theorem State.unwindDone_lane (s : State) (g : Nat) : (s.unwindDone g).lane = s.lane := by
  simp [State.unwindDone]
@[simp] theorem State.groupAtRest_lane (s : State) (g : Nat) : (s.groupAtRest g).1.lane = s.lane := by
  simp [State.groupAtRest, apply_ite Prod.fst]
@[simp] theorem State.seqEnd_lane (s : State) (g : Nat) : (s.seqEnd g).1.lane = s.lane := by
  simp [State.seqEnd, apply_ite Prod.fst]
@[simp] theorem State.unwindForce_lane (s : State) (g : Nat) : (s.unwindForce g).lane = s.lane := by
  simp [State.unwindForce]
@[simp] theorem State.completeAt_lane (s : State) (epoch : Nat) (r : Req) (seq : BitVec 32) (code : Code) (val : BitVec 32) :
    (s.completeAt epoch r seq code val).lane = s.lane :=
  rfl
@[simp] theorem State.complete_lane (s : State) (r : Req) (seq : BitVec 32) (code : Code) (val : BitVec 32) :
    (s.complete r seq code val).lane = s.lane :=
  rfl
@[simp] theorem State.dropGroupOp_lane (s : State) (g : Nat) : (s.dropGroupOp g).lane = s.lane :=
  (congrArg State.lane (Stirs.dropGroupOp s g).outside :)
@[simp] theorem State.groupImmediate_lane (s : State) (g port cls reqr : Nat) :
    (s.groupImmediate g port cls reqr).lane = s.lane := by
  unfold State.groupImmediate
  extract_lets l a b c
  have hb : b.lane = s.lane := by simp [a, b]
  have hc : c.lane = s.lane := by simp [c, hb]
  simp [hc]
@[simp] theorem State.downGo_lane (s : State) (g : Nat) : (s.downGo g).1.lane = s.lane := by
  unfold State.downGo
  split <;> simp
@[simp] theorem State.downPlan_lane (s : State) (g : Nat) : (s.downPlan g).lane = s.lane := by
  unfold State.downPlan
  split <;> simp
@[simp] theorem State.enterDown_lane (s : State) (g : Nat) (st : EState) : (s.enterDown g st).1.lane = s.lane := by
  simp [State.enterDown]
@[simp] theorem State.seqFinish_lane (s : State) (g : Nat) : (s.seqFinish g).1.lane = s.lane := by
  unfold State.seqFinish
  extract_lets x
  split
  · rfl
  · extract_lets moved a y
    have ha : a.lane = s.lane := rfl
    split
    · split <;> simp [ha]
    · split
      · exact ha
      · split
        · split <;> simp [ha]
        · simp [apply_ite Prod.fst, ha]
@[simp] theorem State.setTimer_lane (s : State) (g us : Nat) (k : StepRun) : (s.setTimer g us k).lane = s.lane := rfl
/-- The steps of a program, by the steps that are left to run. -/
@[simp] theorem State.seqRun_lane (n : Nat) (s : State) (g k : Nat) : (State.seqRun n s g k).lane = s.lane := by
  induction n generalizing s k with
  | zero => rfl
  | succ n ih =>
    unfold State.seqRun
    extract_lets a next
    have ha : a.lane = s.lane := by simp [a]
    have hn : ∀ r : State × Option Nat, (next r).lane = r.1.lane := fun r => by
      unfold next
      split
      · exact ih ..
      · rfl
    split
    · exact ha
    · split <;> simp [hn, ha]
@[simp] theorem State.seqGo_lane (g : Nat) (r : State × Option Nat) : (State.seqGo g r).lane = r.1.lane := by
  unfold State.seqGo
  split
  · exact State.seqRun_lane 600 r.1 g _
  · rfl
@[simp] theorem State.seqDone_lane (s : State) (g : Nat) : (s.seqDone g).lane = s.lane := by
  simp [State.seqDone]
@[simp] theorem State.upFailure_lane (s : State) (g cause ep : Nat) : (s.upFailure g cause ep).lane = s.lane := by
  unfold State.upFailure
  extract_lets a r
  have hr : r.1.lane = s.lane := by simp [a, r]
  simp [apply_ite Prod.fst, hr]
@[simp] theorem State.bundleJudge_lane (s : State) (g : Nat) : (s.bundleJudge g).lane = s.lane := by
  unfold State.bundleJudge
  dsimp only
  repeat' split
  all_goals simp
@[simp] theorem State.groupCpl_lane (s : State) (g : Nat) (c : Cpl) : (s.groupCpl g c).lane = s.lane := by
  simp [State.groupCpl]
@[simp] theorem State.deliver_lane (s : State) (c : Cpl) : (s.deliver c).lane = s.lane := by
  unfold State.deliver
  dsimp only
  repeat' split
  all_goals simp
@[simp] theorem State.deliverAll_lane (s : State) : s.deliverAll.lane = s.lane := by
  simp [State.deliverAll]
@[simp] theorem State.rtcTick_lane (s : State) : s.rtcTick.lane = s.lane := by
  unfold State.rtcTick
  split <;> simp
@[simp] theorem State.fresh_lane (s : State) : (s.fresh).2.lane = s.lane := rfl
@[simp] theorem State.freeLaceSlot_lane (s : State) (sl : Nat) : (s.freeLaceSlot sl).lane = s.lane := by
  simp [State.freeLaceSlot]
@[simp] theorem State.helloOut_lane (s : State) (e : Nat) : (s.helloOut e).lane = s.lane := by
  simp [State.helloOut]
@[simp] theorem State.helloAll_lane (s : State) : s.helloAll.lane = s.lane := by
  simp [State.helloAll]
@[simp] theorem State.leaveFinish_lane (s : State) : s.leaveFinish.lane = s.lane := by
  simp [State.leaveFinish]
@[simp] theorem State.setSlot_lane (s : State) (k : Nat) (t : Option TackSlot) : (s.setSlot k t).lane = s.lane := rfl
@[simp] theorem State.queueCommit_lane (s : State) (c : PCommit) : (s.queueCommit c).lane = s.lane := rfl
@[simp] theorem State.freeTack_lane (s : State) (k : Nat) : (s.freeTack k).lane = s.lane := by
  unfold State.freeTack
  split <;> simp
@[simp] theorem State.sendOp_lane (s : State) (q : Req) (slot : Nat) : (s.sendOp q slot).lane = s.lane := by
  simp [State.sendOp]
@[simp] theorem State.compSend_lane (s : State) (k : Nat) (o : Op) (v : BitVec 32) :
    (s.compSend k o v).lane = s.lane := by
  simp [State.compSend]
@[simp] theorem State.compFailed_lane (s : State) (k : Nat) (o : Op) : (s.compFailed k o).lane = s.lane := by
  simp [State.compFailed]
@[simp] theorem State.startIssue_lane (s : State) (li : Nat) : (s.startIssue li).lane = s.lane := by
  unfold State.startIssue
  split <;> simp
@[simp] theorem State.stopIssue_lane (s : State) (li : Nat) (disch : Bool) : (s.stopIssue li disch).lane = s.lane := by
  unfold State.stopIssue
  split <;> simp
/-- The chain of a compensation, link by link. -/
@[simp] theorem State.compRun_lane (n : Nat) (s : State) (k : Nat) (o : Op) :
    (State.compRun n s k o).lane = s.lane := by
  induction n generalizing s o with
  | zero => rfl
  | succ n ih =>
    unfold State.compRun
    extract_lets li cm
    split
    · simp
    · simp [ih]
    · simp [ih]
    · split
      · simp [ih]
      · split <;> simp [ih]
    · simp
@[simp] theorem State.compOutput_lane (s : State) (k : Nat) (o : Op) (prior : EState) :
    (s.compOutput k o prior).lane = s.lane := by
  unfold State.compOutput
  extract_lets li cur ty back closes
  split <;> simp
@[simp] theorem State.traceExt_lane (s : State) (cond : Nat → Nat → Nat → Bool) : (s.traceExt cond).lane = s.lane := by
  simp [State.traceExt]
@[simp] theorem State.actuate_lane (s : State) (o : Op) : (s.actuate o).lane = s.lane := by
  unfold State.actuate
  dsimp only
  repeat' split
  all_goals simp
@[simp] theorem State.compIssue_lane (s : State) (k : Nat) (o : Op) (v : BitVec 32) (links : List EState) :
    (s.compIssue k o v links).lane = s.lane := by
  simp [State.compIssue]
@[simp] theorem State.groupLoose_lane (s : State) (g : Nat) : (s.groupLoose g).lane = s.lane := by
  simp [State.groupLoose]
@[simp] theorem State.compMember_lane (s : State) (x : Bundle) (k : Nat) (o : Op) :
    (s.compMember x k o).lane = s.lane := by
  unfold State.compMember
  dsimp only
  repeat' split
  all_goals simp
@[simp] theorem State.bundleOutcome_lane (s : State) (b : Nat) : (s.bundleOutcome b).lane = s.lane := by
  unfold State.bundleOutcome
  split
  · rfl
  · split
    · rfl
    · exact (State.foldl_lane (fun _ _ => by rfl) _ _).trans (State.foldl_lane (fun t o => by split <;> simp) _ _)
@[simp] theorem State.abortBundle_lane (s : State) (b : Nat) (causes : List Nat) :
    (s.abortBundle b causes).lane = s.lane := by
  unfold State.abortBundle
  split
  · rfl
  · split
    · rfl
    · split
      · rfl
      · extract_lets y early z w held v
        have hw : w.lane = s.lane := State.foldl_lane (fun t c => by dsimp only; split <;> simp) early z
        simp [v, hw]
@[simp] theorem State.abortWhere_lane (s : State) (f : Nat → Bool) : (s.abortWhere f).lane = s.lane := by
  simp [State.abortWhere]
@[simp] theorem State.treeEnd_lane (s : State) (o : Op) : (s.treeEnd o).lane = s.lane := by
  simp [State.treeEnd]
@[simp] theorem State.noteExpired_lane (s : State) (o : Op) (c : Code) : (s.noteExpired o c).lane = s.lane := by
  simp [State.noteExpired]
@[simp] theorem State.endOp_lane (s : State) (k : Nat) (c : Code) : (s.endOp k c).lane = s.lane := by
  unfold State.endOp
  split <;> simp
@[simp] theorem State.opsUnreachable_lane (s : State) (f : Nat → Bool) : (s.opsUnreachable f).lane = s.lane := by
  unfold State.opsUnreachable
  extract_lets a wait b c
  have hc : c.lane = s.lane := (State.foldl_lane (fun _ _ => by rfl) _ b).trans (State.abortWhere_lane s f)
  refine (State.foldl_lane (fun t k => ?_) _ c).trans hc
  split
  · rfl
  · split <;> simp
@[simp] theorem State.stamp_lane (s : State) : (s.stamp).2.lane = s.lane := rfl
@[simp] theorem State.toStitch_lane (s : State) (o : Op) : (s.toStitch o).lane = s.lane := by
  simp [State.toStitch]
@[simp] theorem State.declareSlot_lane (s : State) (sl : Nat) : (s.declareSlot sl).lane = s.lane := by
  simp [State.declareSlot]
@[simp] theorem State.lagCheck_lane (s : State) (n : Nat) : (s.lagCheck n).lane = s.lane := by
  simp [State.lagCheck]
@[simp] theorem State.availUpdate_lane (s : State) : s.availUpdate.lane = s.lane := by
  simp [State.availUpdate]
@[simp] theorem State.upPlan_lane (s : State) (g : Nat) : (s.upPlan g).lane = s.lane := by
  unfold State.upPlan
  split <;> simp
@[simp] theorem State.enterResume_lane (s : State) (g : Nat) : (s.enterResume g).1.lane = s.lane := by
  unfold State.enterResume
  split <;> simp
@[simp] theorem State.groupResume_lane (s : State) (g : Nat) : (s.groupResume g).lane = s.lane := by
  simp [State.groupResume]
@[simp] theorem State.groupAuto_lane (s : State) (g : Nat) : (s.groupAuto g).lane = s.lane := by
  simp [State.groupAuto]
@[simp] theorem State.autoStart_lane (s : State) : s.autoStart.lane = s.lane := by
  simp [State.autoStart]
@[simp] theorem State.wdgAuto_lane (s : State) : s.wdgAuto.lane = s.lane := by
  simp [State.wdgAuto]
@[simp] theorem State.groupsTick_lane (s : State) : s.groupsTick.lane = s.lane := by
  unfold State.groupsTick
  extract_lets a first b
  have ha : a.lane = s.lane := State.foldl_lane (fun t g => by simp) _ s
  have hb : b.lane = s.lane := by simp [b, ha]
  split
  · simp [hb]
  · exact ha
@[simp] theorem State.gaugePublish_lane (s : State) : s.gaugePublish.lane = s.lane := by
  unfold State.gaugePublish
  dsimp only
  repeat' split
  all_goals simp
@[simp] theorem State.gaugeTick_lane (s : State) (first : Bool) : (s.gaugeTick first).lane = s.lane := by
  simp [State.gaugeTick]
@[simp] theorem State.chargerTick_lane (s : State) : s.chargerTick.lane = s.lane := by
  unfold State.chargerTick
  dsimp only
  repeat' split
  all_goals simp
@[simp] theorem State.publishZone_lane (s : State) (z : Nat) (valid : Bool) :
    (s.publishZone z valid).lane = s.lane := by
  simp [State.publishZone]
@[simp] theorem State.zonePublish_lane (s : State) : s.zonePublish.lane = s.lane := by
  simp [State.zonePublish]
@[simp] theorem State.derateEp_lane (s : State) (ep : Nat) : (s.derateEp ep).lane = s.lane := by
  unfold State.derateEp
  extract_lets ts f0 low pol now want due
  split
  · exact State.offer_keeps_lane s _ _
  · rfl
@[simp] theorem State.thermalTick_lane (s : State) : s.thermalTick.lane = s.lane := by
  simp [State.thermalTick]
@[simp] theorem State.publishChan_lane (s : State) (c : Nat) (valid : Bool) :
    (s.publishChan c valid).lane = s.lane := by
  simp [State.publishChan]
@[simp] theorem State.judgeChan_lane (s : State) (c : Nat) : (s.judgeChan c).lane = s.lane := by
  simp [State.judgeChan]
@[simp] theorem State.seqTick_lane (s : State) : s.seqTick.lane = s.lane := by
  unfold State.seqTick
  extract_lets sync a judged b
  have ha : a.lane = s.lane := State.foldl_lane (fun _ _ => by rfl) _ s
  have hb : b.lane = s.lane := by simp [b, ha]
  split
  · rfl
  · exact (State.foldl_lane (fun _ _ => by rfl) _ b).trans hb
@[simp] theorem State.measureTick_lane (s : State) : s.measureTick.lane = s.lane := by
  simp [State.measureTick]
@[simp] theorem State.actRefuse_lane (s : State) (cause : Nat) : (s.actRefuse cause).lane = s.lane := by
  simp [State.actRefuse]
@[simp] theorem State.warmAgain_lane (s : State) : s.warmAgain.lane = s.lane := by
  unfold State.warmAgain
  split
  · split <;> simp
  · rfl
@[simp] theorem State.startsTick_lane (s : State) : s.startsTick.lane = s.lane := by
  simp [State.startsTick]
@[simp] theorem State.isolateNote_lane (s : State) (l : Nat) : (s.isolateNote l).lane = s.lane := by
  simp [State.isolateNote]
@[simp] theorem State.switchNote_lane (s : State) : s.switchNote.lane = s.lane := by
  simp [State.switchNote]
@[simp] theorem State.bankSwap_lane (s : State) : s.bankSwap.lane = s.lane := rfl
@[simp] theorem State.warmCode_lane (s : State) : s.warmCode.lane = s.lane := by
  simp [State.warmCode]
@[simp] theorem State.adopt_lane (s : State) (k : Nat) : (s.adopt k).lane = s.lane := rfl
@[simp] theorem State.loopsAdopt_lane (s : State) : s.loopsAdopt.lane = s.lane := by
  simp [State.loopsAdopt]
@[simp] theorem State.adcAdopt_lane (s : State) : s.adcAdopt.lane = s.lane := by
  simp [State.adcAdopt]
@[simp] theorem State.adoptAll_lane (s : State) : s.adoptAll.lane = s.lane := by
  unfold State.adoptAll
  extract_lets l a b
  have ha : a.lane = s.lane := State.foldl_lane (fun _ _ => by rfl) _ s
  simp [b, ha]
@[simp] theorem State.warmAdopt_lane (s : State) : s.warmAdopt.lane = s.lane := by
  simp [State.warmAdopt]
@[simp] theorem State.countsRestart_lane (s : State) : s.countsRestart.lane = s.lane := by
  unfold State.countsRestart
  exact (State.foldl_lane (fun _ _ => by rfl) _ _).trans (State.foldl_lane (fun _ _ => by rfl) _ _)
@[simp] theorem State.seqRestart_lane (s : State) (each : Bool) : (s.seqRestart each).lane = s.lane :=
  State.foldl_lane (fun _ _ => by rfl) _ s
@[simp] theorem State.activationEnd_lane (s : State) : s.activationEnd.lane = s.lane := by
  simp [State.activationEnd]
@[simp] theorem State.activationCounter_lane (s : State) (cls : Nat) : (s.activationCounter cls).lane = s.lane := by
  simp [State.activationCounter]
@[simp] theorem State.patchNext_lane (cls : Nat) (l : List (BitVec 64)) (s : State) :
    (State.patchNext cls l s).lane = s.lane := by
  induction l with
  | nil => simp [State.patchNext]
  | cons e rest ih =>
    unfold State.patchNext
    split
    · rfl
    · simp [ih]
@[simp] theorem State.activationNext_lane (s : State) : s.activationNext.lane = s.lane := by
  unfold State.activationNext
  split <;> simp
@[simp] theorem State.otpAdvance_lane (s : State) : s.otpAdvance.lane = s.lane := by
  unfold State.otpAdvance
  dsimp only
  repeat' split
  all_goals simp
@[simp] theorem State.warmEnd_lane (s : State) : s.warmEnd.lane = s.lane := by
  simp [State.warmEnd]

end Sys2Proof.Machine
end

section
/-! PROOFS. O6 and O3: the mode changes by the conditions of R14 alone, and inside the lanes by a park entry or a wake (R340, R342),
which the end of a hold, of a clock switch or of a warm start may take out of the boundary buffers (R290, R336). -/

namespace Sys2Proof.Machine

/-- The mode (R14). A name of its own, so that two such terms are compared by their states, of which neither is computed. -/
def State.mode (s : State) : Mode := s.glb.mode

/-- What waits in the boundary buffers (R290). -/
def State.waits (s : State) : List (Nat × Instr) := s.lane.boundary

/-! The boundary buffers over a tick, an isolation and the end of a hold. -/

theorem State.waits_of_lane {a b : State} (h : a.lane = b.lane) : a.waits = b.waits := congrArg Lane.boundary h

theorem State.modLane_waits {s : State} {f : Lane → Lane} (h : (f s.lane).boundary = s.lane.boundary) :
    (s.modLane f).waits = s.waits := h

theorem State.foldl_waits {α : Type} {f : State → α → State} (h : ∀ t a, (f t a).waits = t.waits) (l : List α)
    (s : State) : (l.foldl f s).waits = s.waits :=
  List.foldlRecOn (motive := fun t => t.waits = s.waits) l f rfl fun t ht a _ => (h t a).trans ht

theorem State.corrWindow_waits (s : State) : s.corrWindow.waits = s.waits := by
  unfold State.corrWindow
  split
  · rfl
  · exact (State.waits_of_lane (State.followSrc_lane _ _ _ _) :)

theorem State.copyAgain_waits (s : State) (l : Nat) : (s.copyAgain l).waits = s.waits := by
  unfold State.copyAgain
  refine State.foldl_waits (fun t k => ?_) _ s
  split
  · exact State.modLane_waits rfl
  · rfl

theorem State.reformFail_waits (s : State) (l : Nat) : (s.reformFail l).waits = s.waits := by
  unfold State.reformFail
  extract_lets n src a
  have ha : a.waits = s.waits := State.modLane_waits rfl
  split
  · exact ha
  · exact (State.waits_of_lane (State.assertSrc_lane _ _ _)).trans ((State.modLane_waits rfl).trans ha)

theorem State.isolateLane_waits (s : State) (l : Nat) : (s.isolateLane l).waits = s.waits := by
  unfold State.isolateLane
  extract_lets joined again a b now src c
  have ha : a.waits = s.waits := State.modLane_waits rfl
  have hb : b.waits = s.waits := (State.copyAgain_waits a l).trans ha
  have hc : c.waits = s.waits := (State.modLane_waits rfl).trans hb
  split
  · exact hb
  · split
    · exact (State.reformFail_waits c l).trans hc
    · exact hc

theorem State.settleNote_lane (s : State) (iso : List Nat) : (s.settleNote iso).lane = s.lane := by
  unfold State.settleNote
  rw [State.raiseEvt_lane, State.pulseSrc_lane, State.foldl_lane State.isolateNote_lane]

/-! What keeps the mode and lets nothing into the boundary buffers. -/

/-- From s to t the mode stays, and nothing joins the boundary buffers. -/
structure KeepsMode (s t : State) : Prop where
  mode : t.mode = s.mode
  held : t.waits ⊆ s.waits

theorem KeepsMode.refl (s : State) : KeepsMode s s := ⟨rfl, List.Subset.refl _⟩

theorem KeepsMode.trans {a b c : State} (h : KeepsMode a b) (k : KeepsMode b c) : KeepsMode a c :=
  ⟨k.mode.trans h.mode, List.Subset.trans k.held h.held⟩

theorem State.mode_of_fixed {a b : State} (h : a.fixed = b.fixed) : a.mode = b.mode := congrArg (fun x => x.1.1) h

theorem State.mode_of_still {a b : State} (h : a.fixed.1 = b.fixed.1) : a.mode = b.mode := congrArg (fun x => x.1) h

theorem State.modLace_mode (s : State) (f : Lace → Lace) : (s.modLace f).mode = s.mode := rfl

theorem State.with_tickAt_mode (s : State) (x : Nat) : ({ s with tickAt := x } : State).mode = s.mode := rfl

theorem KeepsMode.of_eq {s t : State} (h : t.mode = s.mode) (k : t.lane = s.lane) : KeepsMode s t :=
  ⟨h, State.waits_of_lane k ▸ List.Subset.refl _⟩

theorem KeepsMode.of_still {s t : State} (h : t.fixed.1 = s.fixed.1) (k : t.waits = s.waits) : KeepsMode s t :=
  ⟨State.mode_of_still h, k ▸ List.Subset.refl _⟩

theorem KeepsMode.of_fixed {s t : State} (h : t.fixed = s.fixed) (k : t.waits = s.waits) : KeepsMode s t :=
  .of_still (congrArg Prod.fst h) k

theorem KeepsMode.of_lane {s t : State} (h : t.fixed = s.fixed) (k : t.lane = s.lane) : KeepsMode s t :=
  .of_fixed h (congrArg Lane.boundary k)

theorem KeepsMode.foldl {α : Type} {f : State → α → State} (h : ∀ s a, KeepsMode s (f s a)) (l : List α) (s : State) :
    KeepsMode s (l.foldl f s) :=
  List.foldlRecOn (motive := KeepsMode s) l f (.refl s) fun t ht a _ => ht.trans (h t a)

theorem KeepsMode.ite {a b c : State} {p : Prop} [Decidable p] (h : KeepsMode a b) (k : KeepsMode a c) : KeepsMode a (if p then b else c) := by
  split <;> assumption

theorem KeepsMode.switchNote (s : State) : KeepsMode s s.switchNote := .of_lane (State.switchNote_fixed s) (State.switchNote_lane s)

theorem KeepsMode.settleNote (s : State) (iso : List Nat) : KeepsMode s (s.settleNote iso) :=
  .of_lane (State.settleNote_fixed s iso) (State.settleNote_lane s iso)

theorem KeepsMode.modLane {s : State} {f : Lane → Lane} (h : (f s.lane).boundary = s.lane.boundary) : KeepsMode s (s.modLane f) :=
  .of_fixed (State.modLane_fixed s f) (State.modLane_waits h)

theorem KeepsMode.modGlb {s : State} {f : Glb → Glb} (h : (f s.glb).mode = s.glb.mode) : KeepsMode s (s.modGlb f) :=
  .of_eq h (State.modGlb_lane s f)

theorem KeepsMode.with_cyc (s : State) (n : Nat) : KeepsMode s { s with cyc := n } := ⟨rfl, List.Subset.refl _⟩

theorem KeepsMode.holdNote (s : State) (len : Nat) : KeepsMode s (s.holdNote len) := by
  unfold State.holdNote
  exact .modLane rfl

theorem KeepsMode.with_tickAt (s : State) (n : Nat) : KeepsMode s { s with tickAt := n } := ⟨rfl, List.Subset.refl _⟩

theorem KeepsMode.tickSwap (s : State) (c : Nat) : KeepsMode s (s.tickSwap c) :=
  .of_still (State.tickSwap_still s c) (State.waits_of_lane (State.tickSwap_lane s c))

theorem KeepsMode.nextEpoch (s : State) (n : Nat) : KeepsMode s (s.nextEpoch n) :=
  .of_still (State.nextEpoch_still s n) (State.waits_of_lane (State.nextEpoch_lane s n))

theorem KeepsMode.corrWindow (s : State) : KeepsMode s s.corrWindow := .of_fixed (State.corrWindow_fixed s) (State.corrWindow_waits s)

/-- A tick moves no mode and takes nothing out of the boundary buffers, nor into them. -/
theorem KeepsMode.tickNow (s : State) : KeepsMode s s.tickNow := by
  unfold State.tickNow
  extract_lets now timed ended n cut delivered mirrored sent swapped raised begun flagged first answered judged evaluated
  have htimed : KeepsMode s timed := (KeepsMode.with_cyc s _).trans (.with_tickAt now _)
  have hdelivered : KeepsMode timed delivered := .of_lane (State.deliverSets_fixed timed cut) (State.deliverSets_lane timed cut)
  have hmirrored : KeepsMode delivered mirrored := .of_lane (State.mirrorTo_fixed delivered cut) (State.mirrorTo_lane delivered cut)
  have hsent : KeepsMode mirrored sent := .of_lane (State.tickSet_fixed mirrored n cut) (State.tickSet_lane mirrored n cut)
  have hraised : KeepsMode sent raised := (KeepsMode.tickSwap sent cut).trans (.of_lane (State.modLace_fixed swapped _) (State.modLace_lane swapped _))
  have hbegun : KeepsMode raised begun := (KeepsMode.nextEpoch raised n).trans (.of_lane
    (by rw [State.limitFlags_fixed, State.sourcesOpen_fixed, State.flushLate_fixed])
    (by rw [State.limitFlags_lane, State.sourcesOpen_lane, State.flushLate_lane]))
  have hflagged : KeepsMode begun flagged :=
    .foldl (fun t li => .of_lane (State.hwFlags_fixed t ended li) (State.hwFlags_lane t ended li)) hwFlagEps begun
  have hanswered : KeepsMode flagged answered := .of_lane (State.deliverAll_fixed flagged) (State.deliverAll_lane flagged)
  have hlag : KeepsMode answered (answered.availUpdate.lagCheck n) := .of_lane
    (by rw [State.lagCheck_fixed, State.availUpdate_fixed]) (by rw [State.lagCheck_lane, State.availUpdate_lane])
  have hjudged : KeepsMode answered judged :=
    (hlag.trans (.corrWindow _)).trans (.of_lane (State.rtcTick_fixed _) (State.rtcTick_lane _))
  have hevaluated : KeepsMode judged evaluated := .of_lane
    (by unfold evaluated; rw [State.groupsTick_fixed, State.gaugeTick_fixed, State.chargerTick_fixed, State.thermalTick_fixed, State.measureTick_fixed])
    (by unfold evaluated; rw [State.groupsTick_lane, State.gaugeTick_lane, State.chargerTick_lane, State.thermalTick_lane, State.measureTick_lane])
  have hstarts : KeepsMode evaluated evaluated.startsTick := .of_lane (State.startsTick_fixed evaluated) (State.startsTick_lane evaluated)
  exact htimed.trans <| hdelivered.trans <| hmirrored.trans <| hsent.trans <| hraised.trans <| hbegun.trans <| hflagged.trans <|
    hanswered.trans <| hjudged.trans <| hevaluated.trans hstarts

theorem KeepsMode.heldTicks (s : State) : KeepsMode s s.heldTicks := by
  unfold State.heldTicks
  exact (KeepsMode.modLane rfl).trans (.foldl (fun t _ => .tickNow t) _ _)

theorem KeepsMode.holdEnd (s : State) (len : Nat) : KeepsMode s (s.holdEnd len) := by
  unfold State.holdEnd
  extract_lets a b
  have ha : KeepsMode s a := (KeepsMode.with_cyc s _).trans (.holdNote _ len)
  have hb : KeepsMode a b := .ite (.modGlb rfl) (.heldTicks a)
  split
  · exact .refl s
  · split
    · exact ha.trans (.modLane rfl)
    · dsimp only
      have hc : KeepsMode b (b.modLane fun x => { x with settled := none, switched := false }) := .modLane rfl
      have hd := ((ha.trans hb).trans hc).trans (.ite (p := b.lane.switched = true) (.switchNote _) (.refl _))
      split
      · exact hd.trans (.settleNote _ _)
      · exact hd

theorem KeepsMode.isolateLane (s : State) (l : Nat) : KeepsMode s (s.isolateLane l) :=
  .of_fixed (State.isolateLane_fixed s l) (State.isolateLane_waits s l)

theorem KeepsMode.settle (s : State) (res len : Nat) (iso : List Nat) : KeepsMode s (s.settle res len iso) := by
  unfold State.settle
  exact ((KeepsMode.modLane rfl).trans (.foldl .isolateLane iso _)).trans (.holdEnd _ len)

theorem KeepsMode.holdCheckerStage (r : BitVec 3) (len : Nat) (s : State) : KeepsMode s (s.after (runHoldCheckerStage r len s)) := by
  unfold runHoldCheckerStage
  rw [State.after_next]
  extract_lets bad
  exact .ite (.refl s) (.ite (.modLane rfl) (.settle ..))

theorem KeepsMode.holdReplayStage (agree : Bool) (len : Nat) (s : State) : KeepsMode s (s.after (runHoldReplayStage agree len s)) := by
  unfold runHoldReplayStage
  rw [State.after_next]
  exact .ite (.refl s) (.ite (.settle ..) (.modLane rfl))

/-- A stop of governing empties the boundary buffers (R295). -/
theorem KeepsMode.governStop (s : State) : KeepsMode s s.governStop :=
  ⟨State.mode_of_fixed (State.governStop_fixed s), List.nil_subset _⟩

theorem KeepsMode.holdSelfTestStage (f : BitVec 3) (len : Nat) (s : State) : KeepsMode s (s.after (runHoldSelfTestStage f len s)) := by
  unfold runHoldSelfTestStage
  rw [State.after_next]
  extract_lets bad
  have hpulse : KeepsMode s (s.pulseSrc 259 0) := .of_lane (State.pulseSrc_fixed s 259 0) (State.pulseSrc_lane s 259 0)
  exact .ite (.refl s) (.ite (((hpulse.trans (.modLane rfl)).trans (.holdNote _ len)).trans (.governStop _)) (.settle ..))

theorem KeepsMode.clockSwitchDone (len : Nat) (s : State) : KeepsMode s (s.after (runClockSwitchDone len s)) := by
  unfold runClockSwitchDone
  rw [State.after_next]
  exact .ite (.refl s) ((KeepsMode.modLane rfl).trans (.holdEnd _ len))

/-! What the lanes take out of the boundary buffers. -/

/-- The arrivals l may take the mode from a to b: a park entry among them from RUN to PARKED, or a wake back (R340, R342). -/
def shifts (l : List (Nat × Instr)) (a b : Mode) : Prop :=
  b = a ∨ (a = .run ∧ b = .parked ∨ a = .parked ∧ b = .run) ∧ ∃ x ∈ l, conditionOf x.2 b = true

theorem shifts.refl (l : List (Nat × Instr)) (a : Mode) : shifts l a a := .inl rfl

theorem shifts.trans {l : List (Nat × Instr)} {a b c : Mode} (h : shifts l a b) (k : shifts l b c) : shifts l a c := by
  rcases h with rfl | ⟨hab, hx⟩
  · exact k
  · rcases k with rfl | ⟨hbc, -⟩
    · exact .inr ⟨hab, hx⟩
    · rcases hab with ⟨rfl, rfl⟩ | ⟨rfl, rfl⟩
      · exact .inl (hbc.elim (fun h => nomatch h.1) And.right)
      · exact .inl (hbc.elim And.right fun h => nomatch h.1)

theorem shifts.mono {l m : List (Nat × Instr)} {a b : Mode} (h : shifts l a b) (k : l ⊆ m) : shifts m a b :=
  h.imp_right fun ⟨hab, x, hx, hc⟩ => ⟨hab, x, k hx, hc⟩

theorem runOtpPulseDone_mode (reads1 : Bool) (s : State) : (s.after (runOtpPulseDone reads1 s)).mode = s.mode := by
  unfold runOtpPulseDone
  rw [State.after_next]
  split
  · rfl
  · next w b rest _ =>
    split
    · extract_lets r u
      have hu : u.mode = s.mode := rfl
      split
      · exact (State.mode_of_fixed (State.otpStop_fixed u)).trans hu
      · exact (State.mode_of_fixed (State.otpAdvance_fixed u)).trans hu
    · have hs : s.otpStop.mode = s.mode := State.mode_of_fixed (State.otpStop_fixed s)
      split
      · exact (State.pulseSrc_mode _ _ _).trans hs
      · split
        · exact hs
        · rfl

theorem runEpochMarker_mode (e : Fin 4) (m : Marker) (s : State) : (s.after (runEpochMarker e m s)).mode = s.mode := by
  unfold runEpochMarker
  rw [State.after_next]
  extract_lets n lead d cycles raise ahead t ok r
  have hr : r.mode = s.mode := rfl
  split
  · rfl
  · split
    · rfl
    · split
      · rfl
      · split
        · exact hr
        · dsimp only
          split
          · exact (State.mode_of_fixed (State.fresh_fixed r)).trans hr
          · exact (State.mode_of_fixed (State.fresh_fixed r)).trans hr

theorem shifts.parkEntry (n : Nat) {a b : Mode} (ha : a = .run) (hb : b = .parked) : shifts [(n, .parkEntry)] a b :=
  .inr ⟨.inl ⟨ha, hb⟩, _, List.mem_singleton_self _, hb ▸ rfl⟩

theorem shifts.wake (n : Nat) (l : Bool) (k : List (Int × Nat)) {a b : Mode} (ha : a = .parked) (hb : b = .run) :
    shifts [(n, .wake l k)] a b :=
  .inr ⟨.inr ⟨ha, hb⟩, _, List.mem_singleton_self _, hb ▸ rfl⟩

/-- A park entry leads from RUN to PARKED, or does nothing (R340). -/
theorem runParkEntry_shifts (n : Nat) (s : State) :
    shifts [(n, .parkEntry)] s.mode (s.after (runParkEntry s)).mode := by
  unfold runParkEntry
  rw [State.after_next]
  split
  · exact .refl _ _
  · next h =>
    simp only [Bool.or_eq_true, bne_iff_ne, not_or, Decidable.not_not] at h
    obtain ⟨⟨⟨-, hmode⟩, -⟩, -⟩ := h
    exact .parkEntry n hmode rfl

/-- A wake leads from PARKED to RUN, or does nothing (R342). -/
theorem runWake_shifts (n : Nat) (l : Bool) (k : List (Int × Nat)) (s : State) :
    shifts [(n, .wake l k)] s.mode (s.after (runWake l k s)).mode := by
  unfold runWake
  rw [State.after_next]
  split
  · exact .refl _ _
  · split
    · exact .refl _ _
    · next h =>
      simp only [Bool.or_eq_true, bne_iff_ne, not_or, Decidable.not_not] at h
      refine .wake n l k h.1 ?_
      extract_lets onA ret auto long clocked running calibrated woken rested ep joined
      have hrun : running.mode = .run := rfl
      have hcal : calibrated.fixed = running.fixed := by
        unfold calibrated
        rw [State.seqRestart_fixed, State.calibrateAll_fixed, State.followSrc_fixed]
      have hwoken : woken.fixed = running.fixed := (State.of_ite (State.gaugeWake_fixed calibrated) rfl).trans hcal
      have hrested : rested.fixed = running.fixed := (State.of_ite (State.modGau_fixed woken _) rfl).trans hwoken
      have hjoined : joined.mode = running.mode := (State.modLace_mode rested _).trans (State.mode_of_fixed hrested)
      exact (State.with_tickAt_mode joined _).trans (hjoined.trans hrun)

/-- Of the arrivals that the lanes take, a park entry and a wake alone change the mode. -/
theorem runHeld_shifts (x : Nat × Instr) (s : State) : shifts [x] s.mode (s.after (runHeld x.2 s)).mode := by
  obtain ⟨n, c⟩ := x
  by_cases hb : ∃ b, c = .otpPulseDone b
  · obtain ⟨b, rfl⟩ := hb
    exact .inl (runOtpPulseDone_mode b s)
  by_cases hm : ∃ e m, c = .epochMarker e m
  · obtain ⟨e, m, rfl⟩ := hm
    exact .inl (runEpochMarker_mode e m s)
  by_cases hp : c = .parkEntry
  · subst hp
    exact runParkEntry_shifts n s
  by_cases hw : ∃ l k, c = .wake l k
  · obtain ⟨l, k, rfl⟩ := hw
    exact runWake_shifts n l k s
  exact .inl (State.mode_of_fixed (runHeld_fixed c s (fun b h => hb ⟨b, h⟩) (fun e m h => hm ⟨e, m, h⟩) hp fun l k h => hw ⟨l, k, h⟩))

/-- An arrival that waits or is dropped leaves the mode; one that the lanes take has its effect. -/
theorem State.arrive_shifts {l : List (Nat × Instr)} {s : State} {o : Host.Outcome State Fault Refusal}
    (h : shifts l s.mode (s.after o).mode) (c : Instr) : shifts l s.mode (s.after (s.arrive c o)).mode := by
  have hw : (s.hardware c).mode = s.mode := State.mode_of_fixed (State.hardware_fixed s c)
  unfold State.arrive
  split
  · split
    · exact h
    · exact .inl hw
  · split
    · exact .inl hw
    · exact h

theorem State.takeOne_shifts (warm : Bool) (s : State) (x : Nat × Instr) : shifts [x] s.mode (s.takeOne warm x).mode :=
  State.arrive_shifts (s := s.modGlb fun g => { g with lineAt := if warm then some x.1 else none }) (runHeld_shifts x _) x.2

theorem State.takeHeld_shifts (s : State) (warm : Bool) : shifts s.waits s.mode (s.takeHeld warm).mode := by
  rw [State.takeHeld_eq]
  refine List.foldlRecOn (motive := fun t : State => shifts s.waits s.mode t.mode) _ _ (.refl _ _) fun t ht x hx => ?_
  have hmem : x ∈ s.waits :=
    (List.mem_append.1 hx).elim (fun h => List.mem_of_mem_filter h) fun h => List.mem_of_mem_filter h
  exact ht.trans ((State.takeOne_shifts warm t x).mono (List.cons_subset.2 ⟨hmem, List.nil_subset _⟩))

theorem State.releaseRails_mode (s : State) :
    s.releaseRails.mode = s.mode := State.mode_of_fixed (State.releaseRails_fixed s)

theorem State.drain_shifts (s : State) : shifts s.waits s.mode s.drain.mode := by
  unfold State.drain
  extract_lets a
  have ha : shifts s.waits s.mode a.mode := State.takeHeld_shifts s false
  split
  · exact .refl _ _
  · split
    · exact .inl (State.releaseRails_mode s)
    · split
      · exact ha
      · rwa [State.releaseRails_mode]

/-- What keeps the mode and lets nothing into the buffers, and then takes what they hold. -/
theorem KeepsMode.shifts {s t : State} {m : Mode} (h : KeepsMode s t) (k : shifts t.waits t.mode m) :
    shifts s.waits s.mode m :=
  h.mode ▸ k.mono h.held

/-! The steps of a warm start and the tick. -/

theorem State.adoptAll_mode (s : State) : s.adoptAll.mode = s.mode := by
  unfold State.adoptAll
  extract_lets l b c
  have hb : b.mode = s.mode :=
    List.foldlRecOn (motive := fun t : State => t.mode = s.mode) l _ rfl fun t ht _ _ => ht
  have hc : c.mode = s.mode := (State.mode_of_fixed (State.of_ite (State.loopsAdopt_fixed b) rfl)).trans hb
  exact (State.mode_of_fixed (State.of_ite (State.adcAdopt_fixed c) rfl)).trans hc

theorem KeepsMode.adoptAll (s : State) : KeepsMode s s.adoptAll := .of_eq (State.adoptAll_mode s) (State.adoptAll_lane s)

theorem KeepsMode.warmCode (s : State) : KeepsMode s s.warmCode := .of_lane (State.warmCode_fixed s) (State.warmCode_lane s)

theorem KeepsMode.warmAdopt (s : State) : KeepsMode s s.warmAdopt := by
  unfold State.warmAdopt
  extract_lets a
  have ha : KeepsMode s a := .modGlb rfl
  exact ha.trans (.ite (.adoptAll a) (.refl a))

theorem KeepsMode.warmCheck (s : State) : KeepsMode s s.warmCheck := by
  unfold State.warmCheck
  exact (KeepsMode.modLane rfl).trans (.modGlb rfl)

theorem KeepsMode.warmEnd (s : State) : KeepsMode s s.warmEnd := .of_lane (State.warmEnd_fixed s) (State.warmEnd_lane s)

theorem State.warmRun_shifts (s : State) : shifts s.waits s.mode s.warmRun.mode := by
  unfold State.warmRun
  extract_lets a b c
  have ha : KeepsMode s a := .ite (.warmCode s) (.refl s)
  have hb : KeepsMode a b := .ite (.warmAdopt a) (.refl a)
  have hc : KeepsMode b c := .ite (.warmCheck b) (.refl b)
  have hsc : KeepsMode s c := (ha.trans hb).trans hc
  split
  · exact ((hsc.trans (.warmEnd c)).trans (.heldTicks c.warmEnd)).shifts (State.takeHeld_shifts _ true)
  · exact .inl hsc.mode

theorem State.warmUntil_shifts (s : State) (n : Nat) : shifts s.waits s.mode (s.warmUntil n).mode := by
  unfold State.warmUntil
  extract_lets e
  split
  · exact State.warmRun_shifts { s with cyc := max s.cyc e }
  · exact .refl _ _

theorem State.idle_shifts (s : State) :
    shifts s.waits s.mode s.idle.mode := State.warmRun_shifts { s with cyc := s.cyc + 1 }

theorem execEpochTick_shifts (s : State) : shifts s.waits s.mode (s.after (execEpochTick s)).mode := by
  unfold execEpochTick
  rw [State.after_next]
  extract_lets a
  have ha : shifts s.waits s.mode a.mode := State.warmUntil_shifts s s.tickAt
  split
  · exact ha
  · split
    · exact ha
    · rwa [State.mode_of_still (State.tickNow_still a)]

/-! The commands that stand for the conditions of R14. -/

/-- A change of the mode from s to t is a transition of R14, made by c or by what waited in the boundary buffers of s. -/
def movesBy (c : Instr) (s t : State) : Prop :=
  t.mode = s.mode ∨ legalMove s.mode t.mode = true ∧ (conditionOf c t.mode = true ∨ ∃ x ∈ s.waits, conditionOf x.2 t.mode = true)

theorem movesBy.own {c : Instr} {s t : State} (h : legalMove s.mode t.mode = true) (k : conditionOf c t.mode = true) : movesBy c s t :=
  .inr ⟨h, .inl k⟩

theorem shifts.legal {l : List (Nat × Instr)} {a b : Mode} (h : shifts l a b) :
    b = a ∨ legalMove a b = true ∧ ∃ x ∈ l, conditionOf x.2 b = true :=
  h.imp_right fun ⟨hab, hx⟩ => ⟨by rcases hab with ⟨rfl, rfl⟩ | ⟨rfl, rfl⟩ <;> rfl, hx⟩

/-- What the boundary buffers hold moves the mode along R14. -/
theorem movesBy.of_waits {c : Instr} {s t : State} (h : shifts s.waits s.mode t.mode) : movesBy c s t :=
  h.legal.imp_right (And.imp_right .inr)

/-- An arrival taken at once moves the mode along R14. -/
theorem movesBy.of_arrival {c : Instr} {n : Nat} {s t : State} (h : shifts [(n, c)] s.mode t.mode) : movesBy c s t :=
  h.legal.imp_right (And.imp_right fun ⟨x, hx, hc⟩ => .inl (by rwa [List.mem_singleton.1 hx] at hc))

theorem State.restart_mode (s : State) (m : Mode) : (s.restart m).mode = m := rfl

theorem execVholdStart_movesBy (s : State) : movesBy .vholdStart s (s.after (execVholdStart s)) := by
  unfold execVholdStart
  rw [State.after_next]
  split
  · next h =>
    have hm : s.mode = .cold := beq_iff_eq.1 (Bool.and_eq_true_iff.1 h).1
    exact .own (by rw [hm, State.restart_mode]; rfl) rfl
  · exact .inl rfl

/-- Every mode but COLD itself may go to COLD. -/
theorem legalMove_cold {a : Mode} (h : a ≠ .cold) : legalMove a .cold = true := by
  cases a with
  | cold => exact absurd rfl h
  | _ => rfl

/-- Every mode but COLD and HELD itself may go to HELD. -/
theorem legalMove_held {a : Mode} (h : a ≠ .cold) (k : a ≠ .held) : legalMove a .held = true := by
  cases a with
  | cold => exact absurd rfl h
  | held => exact absurd rfl k
  | _ => rfl

theorem execVholdBrownOut_movesBy (s : State) : movesBy .vholdBrownOut s (s.after (execVholdBrownOut s)) := by
  unfold execVholdBrownOut
  rw [State.after_next]
  split
  · exact .inl rfl
  · next h => exact .own (legalMove_cold h) rfl

theorem execPorstNLow_movesBy (s : State) : movesBy .porstNLow s (s.after (execPorstNLow s)) := by
  unfold execPorstNLow
  rw [State.after_next]
  extract_lets a
  split
  · exact .inl rfl
  · next h =>
    simp only [Bool.or_eq_true, beq_iff_eq, not_or] at h
    exact .own (legalMove_held h.1 h.2) rfl

theorem execPorstNRelease_movesBy (s : State) : movesBy .porstNRelease s (s.after (execPorstNRelease s)) := by
  unfold execPorstNRelease
  rw [State.after_next]
  extract_lets a
  split
  · next h =>
    have hm : s.mode = .held := h
    exact .own (by rw [hm, State.restart_mode]; rfl) rfl
  · exact .inl rfl

theorem execRecoveryColdStart_movesBy (s : State) : movesBy .recoveryColdStart s (s.after (execRecoveryColdStart s)) := by
  unfold execRecoveryColdStart
  rw [State.after_next]
  split
  · next h =>
    have hm : s.mode = .noImage := beq_iff_eq.1 (Bool.and_eq_true_iff.1 h).1
    refine .own ?_ rfl
    rw [hm]
    rfl
  · exact .inl rfl

theorem State.modGlb_mode {s : State} {f : Glb → Glb} {m : Mode} (h : (f s.glb).mode = m) : (s.modGlb f).mode = m := h

/-- The first committed epoch stands in RUN (R322). -/
theorem State.startFrom_mode (s : State) (e : StartEnv) (ok : BitVec 3) (n : Nat) (l : List Byte) :
    (s.startFrom e ok n l).mode = .run := by
  unfold State.startFrom
  extract_lets applied base epoch ptrLost numbered loaded lock onA stepped clocked metered sourced copied timed running judged romless checked noted voting
  have hrun : (timed.modGlb fun g => { g with mode := .run }).mode = .run := State.modGlb_mode rfl
  have hrunning : running.mode = .run := by
    refine (State.mode_of_fixed ?_).trans hrun
    unfold running
    rw [State.replaySources_fixed, State.initialCommits_fixed]
  have hchecked : checked.fixed = running.fixed := by
    unfold checked romless judged
    rw [State.of_ite rfl (State.pulseSrc_fixed _ _ _), State.of_ite (State.pulseSrc_fixed _ _ _) rfl, State.inputsStart_fixed]
  have hnoted : noted.fixed = checked.fixed := foldl_fixed _ (fun t w => State.otpNote_fixed t w) _ checked
  have hvoting : voting.fixed = noted.fixed :=
    foldl_fixed _ (fun t k => (State.isolateNote_fixed _ k).trans (State.isolateLane_fixed t k)) _ noted
  rw [State.mode_of_fixed (State.availUpdate_fixed _)]
  refine State.modGlb_mode ?_
  exact (State.mode_of_fixed (hvoting.trans (hnoted.trans hchecked))).trans hrunning

/-- A cold start that reads no good copy ends in NO_IMAGE, one that does in RUN; one that halts stays (R322 to R324). -/
theorem execColdStart_movesBy (e : StartEnv) (s : State) : movesBy (.coldStart e) s (s.after (execColdStart e s)) := by
  unfold execColdStart
  rw [State.after_next]
  split
  · exact .inl rfl
  · next h =>
    have hm : s.mode = .starting := by
      simp only [Bool.or_eq_true, bne_iff_ne, not_or, Decidable.not_not] at h
      exact h.1
    split
    · exact .inl rfl
    · extract_lets ok patch a
      split
      · exact .inl rfl
      · split
        · refine .own ?_ rfl
          rw [hm]
          rfl
        · refine .own ?_ ?_
          · rw [hm, State.startFrom_mode]
            rfl
          · rw [State.startFrom_mode]
            rfl

/-- A command changes the mode only along R14, by itself or by what it takes out of the boundary buffers. -/
theorem exec_movesBy (c : Instr) (s : State) : movesBy c s (s.after (exec c s)) := by
  by_cases hm : movesFixed c = false
  · exact .inl (State.mode_of_fixed (exec_fixed c s hm))
  cases c with
  | vholdStart => exact execVholdStart_movesBy s
  | vholdBrownOut => exact execVholdBrownOut_movesBy s
  | porstNLow => exact execPorstNLow_movesBy s
  | porstNRelease => exact execPorstNRelease_movesBy s
  | coldStart e => exact execColdStart_movesBy e s
  | recoveryColdStart => exact execRecoveryColdStart_movesBy s
  | parkEntry => exact .of_arrival (State.arrive_shifts (runParkEntry_shifts 0 s) _)
  | wake l k => exact .of_arrival (State.arrive_shifts (runWake_shifts 0 l k s) _)
  | epochTick => exact .of_waits (execEpochTick_shifts s)
  | holdCheckerStage r len => exact .of_waits ((KeepsMode.holdCheckerStage r len s).shifts (State.drain_shifts _))
  | holdReplayStage a len => exact .of_waits ((KeepsMode.holdReplayStage a len s).shifts (State.drain_shifts _))
  | holdSelfTestStage f len => exact .of_waits ((KeepsMode.holdSelfTestStage f len s).shifts (State.drain_shifts _))
  | clockSwitchDone len => exact .of_waits ((KeepsMode.clockSwitchDone len s).shifts (State.drain_shifts _))
  | epochMarker e m => exact .of_waits (State.arrive_shifts (.inl (runEpochMarker_mode e m s)) _)
  | otpPulseDone b => exact .of_waits (State.arrive_shifts (.inl (runOtpPulseDone_mode b s)) _)
  | _ => exact absurd rfl hm

/-- Settles O6: a step is the front command, which moves the mode along R14 by its own condition or by a park entry or a wake out of
the boundary buffers, or an idle cycle, in which a warm start may end and empty them. -/
theorem modesFollowTheTable : Obligations.ModesFollowTheTable := by
  unfold Obligations.ModesFollowTheTable
  intro s t hstep hne
  unfold step at hstep
  split at hstep
  · cases hstep
    obtain ⟨hlegal, hx⟩ := (State.idle_shifts s).legal.resolve_left hne
    exact ⟨hlegal, .inr hx⟩
  · next c rest hp =>
    have h := exec_movesBy c { s with pending := rest }
    rw [hstep] at h
    obtain ⟨hlegal, hc | hx⟩ := h.resolve_left hne
    · exact ⟨hlegal, .inl ⟨c, rest, hp, hc⟩⟩
    · exact ⟨hlegal, .inr hx⟩

/-- No command of a warm start, an isolation or a re-form stands for a condition of R14. -/
theorem conditionOf_of_warmOrLane {c : Instr} (h : warmOrLane c = true) (m : Mode) : conditionOf c m = false := by
  cases c with
  | warmStart | voteMismatch | laneCheckerError | checkpoint | reformSelfTestDone | reformCopyDone => cases m <;> rfl
  | holdCheckerStage | holdReplayStage | holdSelfTestStage => cases m <;> rfl
  | _ => exact absurd h Bool.false_ne_true

/-- Settles O3: these commands stand for no condition of R14, and an idle cycle runs none, so that only what waited in the boundary
buffers is left to move the mode. -/
theorem warmStartAndLanesKeepTheMode : Obligations.WarmStartAndLanesKeepTheMode := by
  unfold Obligations.WarmStartAndLanesKeepTheMode
  refine ⟨fun s t c hc hexec => ?command, fun s t hp hstep => ?idle⟩
  case command =>
    have h := exec_movesBy c s
    rw [hexec] at h
    refine h.imp_right fun ⟨_, hx⟩ => hx.resolve_left fun hown => ?_
    exact Bool.false_ne_true ((conditionOf_of_warmOrLane hc _).symm.trans hown)
  case idle =>
    unfold step at hstep
    rw [hp] at hstep
    cases hstep
    exact (State.idle_shifts s).legal.imp_right And.right

end Sys2Proof.Machine
end

section
/-! PROOFS. O5: no command ends in a fault or a refusal; the lanes keep or drop an arrival, and go on (R290, R295). -/

namespace Sys2Proof.Machine

theorem goesOn_next (t : State) : goesOn (.next t) := ⟨t, rfl⟩

/-- An arrival goes on when its effect at the lanes does. -/
theorem goesOn_arrive {s : State} {c : Instr} {o : Host.Outcome State Fault Refusal} (h : goesOn o) : goesOn (s.arrive c o) := by
  unfold State.arrive
  split
  · split
    · exact h
    · exact goesOn_next _
  · split
    · exact goesOn_next _
    · exact h

/-- Settles O5: a command answers a next state at once, or it is an arrival, or it is a report about a lane, which the guards of R285,
R286 and R288 let through as an arrival or answer themselves. -/
theorem everyCommandGoesOn : Obligations.EveryCommandGoesOn := by
  unfold Obligations.EveryCommandGoesOn
  intro c s
  cases c with
  | vholdStart | vholdBrownOut | sourceBrownOut | porstNLow | porstNRelease | coldStart | recoveryColdStart | warmStart => exact goesOn_next _
  | requestCapture | shankOrder | stitchIssue | soleCommit | bundleCommit | epochTick | catchUpComplete => exact goesOn_next _
  | lineTest | oscillatorStopDetect | loopSample | tapInstruction | spiReadFrame => exact goesOn_next _
  | checkpoint | chuckHold | holdCheckerStage | holdReplayStage | holdSelfTestStage | reformSelfTestDone | reformCopyDone => exact goesOn_next _
  | clockSwitchDone | pllReturn => exact goesOn_next _
  | voteMismatch l =>
    show goesOn (execVoteMismatch l s)
    unfold execVoteMismatch
    split
    · exact goesOn_arrive (goesOn_next _)
    · exact goesOn_next _
  | laneCheckerError l kind =>
    show goesOn (execLaneCheckerError l kind s)
    unfold execLaneCheckerError
    split
    · exact goesOn_next _
    · split
      · exact goesOn_next _
      · exact goesOn_arrive (goesOn_next _)
  | _ => exact goesOn_arrive (goesOn_next _)

end Sys2Proof.Machine
end

section
/-! PROOFS. O2: the block after reset (R14, R317, R617). -/

namespace Sys2Proof.Machine

theorem State.reset_epochsOrdered : State.reset.epochsOrdered :=
  ⟨fun h => absurd h Bool.false_ne_true, fun _ => rfl⟩

theorem State.reset_memoriesCanonical : State.reset.memoriesCanonical := ⟨rfl, rfl⟩

/-- Settles O2: every table of the state is empty after reset, so each entry reads as its default, and COLD drives no output. -/
theorem resetIsColdAndEmpty : Obligations.ResetIsColdAndEmpty := by
  unfold Obligations.ResetIsColdAndEmpty
  have hmode : State.reset.glb.mode = .cold := rfl
  have hlive : State.reset.live = false := rfl
  have hentry : ∀ li, State.reset.stored li = {} ∧ (State.reset.stored li).st = .absent := fun _ => ⟨rfl, rfl⟩
  have hsrc : ∀ n, (State.reset.src n).line = false ∧ (State.reset.src n).qual = false := fun _ => ⟨rfl, rfl⟩
  have hrail : ∀ r, (State.reset.rail r).en = false ∧ State.reset.railEnPin r = .low := fun _ => ⟨rfl, rfl⟩
  have hgate : ∀ n, State.reset.gatePin n = .low := fun _ => rfl
  have hrsto : ∀ n, State.reset.rstoPin n = .low := fun _ => rfl
  exact ⟨hmode, rfl, hlive, hentry, hsrc, rfl, hrail, hgate, hrsto, rfl, fun _ => rfl, State.reset_epochsOrdered,
    State.reset_memoriesCanonical⟩

end Sys2Proof.Machine
end

section
/-! PROOFS. O15: what a tick does to the epoch numbers and to the grid of ticks (R45 to R49, R363), and when it waits or is void
(R291, R295). -/

namespace Sys2Proof.Machine

/-- The epoch under way, the publication's epoch, the core cycles and the next tick. -/
def State.clocks (s : State) : Nat × Nat × Nat × Nat := (s.led.epoch, s.led.pubEpoch, s.cyc, s.tickAt)

theorem State.clocks_of_fixed {a b : State} (h : a.fixed = b.fixed) : a.clocks = b.clocks := congrArg Prod.snd h

/-- The swap moves no time: it writes the ledger alone (R49). -/
theorem State.tickSwap_grid (s : State) (c : Nat) : (s.tickSwap c).clocks.2.2 = s.clocks.2.2 := by
  unfold State.tickSwap
  dsimp only
  split
  · rfl
  · split
    · split <;> rfl
    · split <;> rfl

/-- The next epoch is numbered one above the publication (R46, R47). -/
theorem State.nextEpoch_clocks (s : State) (n : Nat) : (s.nextEpoch n).clocks = (n + 1, n, s.clocks.2.2) := by
  unfold State.nextEpoch
  extract_lets t low
  have ht : t.clocks = (n + 1, n, s.clocks.2.2) := rfl
  split
  · rw [State.clocks_of_fixed (State.wmWrite_fixed t), ht]
  · exact ht

/-- A tick publishes the epoch under its number, begins the next one and puts the next tick one epoch length later (R45 to R49, R363). -/
theorem State.tickNow_clocks (s : State) :
    s.tickNow.clocks = (s.tickNumber 0 + 1, s.tickNumber 0, max s.cyc s.tickAt, s.tickAt + s.tickCycles) := by
  unfold State.tickNow
  extract_lets now timed ended n cut delivered mirrored sent swapped raised begun flagged first answered judged evaluated
  have htimed : timed.clocks.2.2 = (max s.cyc s.tickAt, s.tickAt + s.tickCycles) := rfl
  have hsent : sent.clocks = timed.clocks := State.clocks_of_fixed <| by
    unfold sent mirrored delivered
    rw [State.tickSet_fixed, State.mirrorTo_fixed, State.deliverSets_fixed]
  have hraised : raised.clocks.2.2 = (max s.cyc s.tickAt, s.tickAt + s.tickCycles) := by
    rw [← htimed, ← hsent]
    exact State.tickSwap_grid sent cut
  have hnext : (raised.nextEpoch n).clocks = (n + 1, n, max s.cyc s.tickAt, s.tickAt + s.tickCycles) := by
    rw [State.nextEpoch_clocks, hraised]
  have hbegun : begun.clocks = (raised.nextEpoch n).clocks := State.clocks_of_fixed <| by
    unfold begun
    rw [State.limitFlags_fixed, State.sourcesOpen_fixed, State.flushLate_fixed]
  have hflagged : flagged.clocks = begun.clocks := State.clocks_of_fixed (foldl_fixed _ (fun t li => State.hwFlags_fixed t ended li) _ begun)
  have hevaluated : evaluated.startsTick.clocks = flagged.clocks := State.clocks_of_fixed <| by
    unfold evaluated judged answered
    rw [State.startsTick_fixed, State.groupsTick_fixed, State.gaugeTick_fixed, State.chargerTick_fixed, State.thermalTick_fixed,
      State.measureTick_fixed, State.rtcTick_fixed, State.corrWindow_fixed, State.lagCheck_fixed, State.availUpdate_fixed, State.deliverAll_fixed]
  exact ((hevaluated.trans hflagged).trans hbegun).trans hnext

/-- No step of a warm start comes due while none is in progress, inside a hold or with governing stopped (R334, R337). -/
theorem State.warmUntil_of_paused {s : State} (h : s.glb.warmBusy = false ∨ s.lane.held = true ∨ s.lane.govStop = true) (n : Nat) :
    s.warmUntil n = s := by
  rcases h with h | h | h <;> simp [State.warmUntil, h]

theorem Lane.held_iff (x : Lane) : x.held = true ↔ x.hold ≠ none ∨ x.switching = true := by
  simp [Lane.held, Option.isSome_iff_ne_none]

theorem State.lanesRun.held {s : State} (h : s.lanesRun) : s.lane.held = false := by
  obtain ⟨hhold, hswitch, -, -⟩ := h
  simp [Lane.held, hhold, hswitch]

theorem State.lanesRun.stalled {s : State} (h : s.lanesRun) : s.stalled = false := by
  have hheld := h.held
  obtain ⟨-, -, -, hwarm⟩ := h
  rw [State.stalled, hheld, hwarm]
  rfl

theorem exec_epochTick_of_stopped {s : State} (h : s.lane.govStop = true) : exec .epochTick s = .next s := by
  show execEpochTick s = _
  simp [execEpochTick, State.warmUntil_of_paused (.inr (.inr h)), h]

section
variable {s : State} (hl : s.live = true)
include hl

theorem exec_epochTick_of_held (h : s.lane.govStop = false) (hh : s.lane.held = true) :
    exec .epochTick s = .next (s.modLane fun x => { x with tickHeld := x.tickHeld + 1 }) := by
  show execEpochTick s = _
  simp [execEpochTick, State.warmUntil_of_paused (.inr (.inl hh)), hl, h, State.stalled, hh]

theorem exec_epochTick_of_lanesRun (h : s.lanesRun) : exec .epochTick s = .next s.tickNow := by
  show execEpochTick s = _
  have hstalled := h.stalled
  obtain ⟨-, -, hgov, hwarm⟩ := h
  simp [execEpochTick, State.warmUntil_of_paused (.inl hwarm), hl, hgov, hstalled]

end

/-- Settles O15: with governing stopped a tick is void, inside a hold it is counted, and otherwise it is the tick itself, whose numbers
and times `State.tickNow_clocks` gives. -/
theorem ticksEndEpochs : Obligations.TicksEndEpochs := by
  unfold Obligations.TicksEndEpochs
  intro s hl
  refine ⟨exec_epochTick_of_stopped, fun hgov hhold => exec_epochTick_of_held hl hgov ((Lane.held_iff _).2 hhold), fun hrun => ?_⟩
  refine ⟨_, exec_epochTick_of_lanesRun hl hrun, ?_⟩
  have hclocks := State.tickNow_clocks s
  have hstill := State.tickNow_still s
  simp only [State.clocks, State.fixed, Prod.mk.injEq] at hclocks hstill
  obtain ⟨hepoch, hpub, hcyc, htick⟩ := hclocks
  obtain ⟨hmode, himg, hotp, hpending⟩ := hstill
  exact ⟨hpub, hepoch.trans (congrArg (· + 1) hpub.symm), hcyc, htick, hmode, himg, hotp, hpending⟩

end Sys2Proof.Machine
end

section
/-! PROOFS. O12: the ends of a cold start: a halt, NO_IMAGE, or the first committed epoch (R322 to R331). -/

namespace Sys2Proof.Machine

/-- What `State.fixed` lists, and the watermarks with it. -/
def State.bases (s : State) := (s.fixed, s.mram)

theorem State.bases_eq {a b : State} (h : a.fixed = b.fixed) (k : a.mram = b.mram) : a.bases = b.bases := Prod.ext h k

theorem State.foldl_bases {α : Type} (f : State → α → State) (h : ∀ t a, (f t a).bases = t.bases) (l : List α) (s : State) :
    (l.foldl f s).bases = s.bases :=
  List.foldlRecOn (motive := fun t => t.bases = s.bases) l f rfl fun t ht a _ => (h t a).trans ht

theorem State.ite_bases {c : Prop} [Decidable c] {a b s : State} (ha : a.bases = s.bases) (hb : b.bases = s.bases) :
    (if c then a else b).bases = s.bases := by
  split <;> assumption

theorem State.modAdc_bases (s : State) (f : Adc → Adc) : (s.modAdc f).bases = s.bases := rfl
theorem State.modThm_bases (s : State) (f : Thm → Thm) : (s.modThm f).bases = s.bases := rfl
theorem State.modChg_bases (s : State) (f : Chg → Chg) : (s.modChg f).bases = s.bases := rfl
theorem State.with_vmodes_bases (s : State) (x : Tbl Nat) : ({ s with vmodes := x } : State).bases = s.bases := rfl

/-- Step 11 fills the block from the copy; the one-time words, the waiting commands, the epochs and the watermarks stay (R322). -/
theorem State.applyImage_bases (s : State) (e : StartEnv) (n : Nat) (l : List Byte) :
    (s.applyImage e n l).bases = ({ s with img := imgWords l } : State).bases := by
  unfold State.applyImage
  extract_lets loaded role noted uid rooted spares dithers dogs averages learned metered band thermal auto charging
  have hrooted : rooted.bases = loaded.bases := by
    unfold rooted
    split <;> rfl
  have hspares : spares.bases = rooted.bases :=
    State.foldl_bases _ (fun t p => State.ite_bases (State.bases_eq (State.modPhase_fixed _ _ _) rfl) rfl) _ rooted
  have hdithers : dithers.bases = spares.bases :=
    State.foldl_bases _ (fun t r => State.bases_eq (State.modRail_fixed _ _ _) rfl) _ spares
  have hdogs : dogs.bases = dithers.bases :=
    State.foldl_bases _ (fun t w => State.ite_bases (State.bases_eq (State.modWdg_fixed _ _ _) rfl) rfl) _ dithers
  have haverages : averages.bases = dogs.bases :=
    State.foldl_bases _ (fun t r => State.bases_eq (State.setRw_fixed _ _ _) rfl) _ dogs
  have hlearned : learned.bases = averages.bases := State.ite_bases rfl (State.modAdc_bases averages _)
  have hmetered : metered.bases = learned.bases :=
    State.foldl_bases _ (fun t m => by split <;> exact State.bases_eq (State.modMeter_fixed _ _ _) rfl) _ learned
  have hcharging : charging.bases = metered.bases := (State.modChg_bases thermal _).trans (State.modThm_bases metered _)
  rw [State.with_vmodes_bases, hcharging, hmetered, hlearned, haverages, hdogs, hdithers, hspares, hrooted]

/-- What a start gives the block beside its mode and its times: the image, the one-time words, the waiting commands, the epochs. -/
def State.founded (s : State) := (s.img, s.otp.words, s.pending, s.led.epoch, s.led.pubEpoch)

theorem State.founded_of_fixed {a b : State} (h : a.fixed = b.fixed) : a.founded = b.founded :=
  congrArg (fun x => (x.1.2.1, x.1.2.2.1, x.1.2.2.2, x.2.1, x.2.2.1)) h

theorem State.modGlb_founded (s : State) (f : Glb → Glb) : (s.modGlb f).founded = s.founded := rfl

theorem State.with_grid_founded (s : State) (c t : Nat) : ({ s with cyc := c, tickAt := t } : State).founded = s.founded := rfl

theorem State.numbered_founded (s : State) (n : Nat) :
    (s.modLed fun x => { x with epoch := n }).founded = (s.img, s.otp.words, s.pending, n, s.led.pubEpoch) := rfl

/-- The first committed epoch has the copy's configuration and the number that the watermarks give; the one-time words, the
waiting commands and the publication's number stay (R38, R47, R322, R328). -/
theorem State.startFrom_founded (s : State) (e : StartEnv) (ok : BitVec 3) (n : Nat) (l : List Byte) :
    (s.startFrom e ok n l).founded =
      (imgWords l, s.otp.words, s.pending, s.mram.base.getD 0x800000000000, s.led.pubEpoch) := by
  unfold State.startFrom
  extract_lets applied base epoch ptrLost numbered loaded lock onA stepped clocked metered sourced copied timed running judged romless checked noted voting
  obtain ⟨happlied, hmram⟩ := Prod.mk.inj (State.applyImage_bases s e n l)
  have hnumbered : numbered.founded = (imgWords l, s.otp.words, s.pending, s.mram.base.getD 0x800000000000, s.led.pubEpoch) := by
    have hfounded : applied.founded = (imgWords l, s.otp.words, s.pending, s.led.epoch, s.led.pubEpoch) := State.founded_of_fixed happlied
    obtain ⟨himg, hotp, hpending, -, hpub⟩ := by simpa only [State.founded, Prod.mk.injEq] using hfounded
    rw [← himg, ← hotp, ← hpending, ← hpub, ← hmram]
    exact State.numbered_founded applied epoch
  have hloaded : loaded.founded = numbered.founded := State.founded_of_fixed <| by
    unfold loaded
    rw [State.nonces_fixed, State.pickBank_fixed, State.wmWrite_fixed]
  have hclocked : clocked.founded = loaded.founded :=
    (State.founded_of_fixed ((State.startRecord_fixed _).trans (State.modLane_fixed stepped _))).trans (State.modGlb_founded loaded _)
  have hmetered : metered.fixed = clocked.fixed := by
    unfold metered
    rw [State.gaugeStart_fixed, State.seqRestart_fixed, State.calibrateAll_fixed, State.pathsStart_fixed]
  have hcopied : copied.fixed = metered.fixed := by
    have hsourced : sourced.fixed = metered.fixed :=
      State.of_ite (State.assertSrc_fixed _ _ _) (State.of_ite (State.assertSrc_fixed _ _ _) rfl)
    exact State.of_ite ((State.assertSrc_fixed _ _ _).trans hsourced) hsourced
  have htimed : timed.founded = copied.founded := (State.modGlb_founded _ _).trans (State.with_grid_founded copied _ _)
  have hrunning : running.founded = timed.founded :=
    (State.founded_of_fixed ((State.replaySources_fixed _).trans (State.initialCommits_fixed _))).trans (State.modGlb_founded timed _)
  have hchecked : checked.fixed = running.fixed := by
    unfold checked romless judged
    rw [State.of_ite rfl (State.pulseSrc_fixed _ _ _), State.of_ite (State.pulseSrc_fixed _ _ _) rfl, State.inputsStart_fixed]
  have hvoting : voting.fixed = checked.fixed :=
    (foldl_fixed _ (fun t k => (State.isolateNote_fixed _ k).trans (State.isolateLane_fixed t k)) _ noted).trans
      (foldl_fixed _ (fun t w => State.otpNote_fixed t w) _ checked)
  calc _ = voting.founded := (State.founded_of_fixed (State.availUpdate_fixed _)).trans (State.modGlb_founded voting _)
    _ = running.founded := State.founded_of_fixed (hvoting.trans hchecked)
    _ = copied.founded := hrunning.trans htimed
    _ = clocked.founded := State.founded_of_fixed (hcopied.trans hmetered)
    _ = numbered.founded := hclocked.trans hloaded
    _ = _ := hnumbered

/-- What a cold start notes before it reads the copies (R325, R326). -/
def State.tested (s : State) (e : StartEnv) : State :=
  s.modGlb fun g => { g with romPatch := s.romPatches, bistOk := selfTest e.bist, addr0 := e.addr0, addr1 := e.addr1 }

/-- A cold start in STARTING with a ROM copy that passes, by its self-test and the copies that it finds (R322). -/
theorem exec_coldStart_of_starting {s : State} {e : StartEnv} (hm : s.glb.mode = .starting) (hh : s.glb.haltCause = 0) (hr : (e.rom1 || e.rom2) = true) :
    exec (.coldStart e) s = .next (
      if passes (selfTest e.bist) < 2 then (s.tested e).modGlb fun g => { g with haltCause := 2, startStep := 4 }
      else match s.pickCopy e with
        | none => ((s.tested e).modGlb fun g => { g with mode := .noImage, haltCause := 3, startStep := stepsRead e }).modLane fun x =>
            { x with clkSrc := 1, xtalOk := e.xtal, pllaLock := e.xtal && e.pllA }
        | some (n, l) => (s.tested e).startFrom e (selfTest e.bist) n l) := by
  have hrom : (!e.rom1 && !e.rom2) = false := by
    rw [← Bool.not_or, hr]
    rfl
  show execColdStart e s = _
  unfold execColdStart
  rw [hm, hh, hrom]
  rfl

/-- Settles O12, by the ends of a cold start: two halts, NO_IMAGE, and the start from the copy that is found, which
`State.startFrom_founded` describes. -/
theorem coldStartsRun : Obligations.ColdStartsRun := by
  unfold Obligations.ColdStartsRun
  intro s e hm hh
  refine ⟨fun h1 h2 => ?noRom, fun hr hp => ?noLanes, fun hr hp hc => ?noCopy, fun n l hr hp hc => ?governs⟩
  case noRom =>
    show execColdStart e s = _
    simp [execColdStart, hm, hh, h1, h2]
  case noLanes =>
    exact ⟨_, (exec_coldStart_of_starting hm hh hr).trans (congrArg _ (if_pos hp)), hm, rfl, rfl, rfl, rfl⟩
  case noCopy =>
    refine ⟨_, (exec_coldStart_of_starting hm hh hr).trans (congrArg _ (if_neg (Nat.not_lt.2 hp))), ?_⟩
    rw [hc]
    exact ⟨rfl, rfl, rfl, rfl, rfl⟩
  case governs =>
    refine ⟨_, (exec_coldStart_of_starting hm hh hr).trans (congrArg _ (if_neg (Nat.not_lt.2 hp))), ?_⟩
    rw [hc]
    have hfounded := State.startFrom_founded (s.tested e) e (selfTest e.bist) n l
    simp only [State.founded, Prod.mk.injEq] at hfounded
    obtain ⟨himg, hotp, hpending, hepoch, -⟩ := hfounded
    exact ⟨State.startFrom_mode _ e _ n l, himg, hepoch, hotp, hpending⟩

end Sys2Proof.Machine
end

section
/-! PROOFS. O59: register words over MFR_QREAD, MFR_QFIFO and SPI, the completions and the entry over PMBus, the alert response and
Host Notify, with the lanes running (R54, R549 to R560). -/

namespace Sys2Proof.Machine

theorem State.served_of_live {s : State} (h : s.live = true) : s.served = .full := by
  rcases State.live_mode h with hm | hm <;> simp [State.served, hm]

/-- A single word's address lies in the 24-bit space as it stands. -/
theorem addrRun_one {a : Nat} (h : a < 2 ^ 24) (fixed : Bool) : addrRun a 1 fixed = [a] := by
  cases fixed <;> simp [addrRun]
  exact h

theorem spiAddr_lt (l : List Byte) : spiAddr l < 2 ^ 24 := by
  have h (k : Nat) : (l.getD k 0).toNat < 256 := (l.getD k 0).isLt
  have h1 := h 1
  have h2 := h 2
  have h3 := h 3
  simp only [spiAddr]
  omega

theorem leBytes_length (n x : Nat) : (leBytes n x).length = n := by
  induction n generalizing x with
  | zero => rfl
  | succ n ih => rw [leBytes, List.length_cons, ih]

theorem words4Bytes_length (w : Words4) : (words4Bytes w).length = 16 := by
  simp [words4Bytes, leBytes_length]

theorem wordBytes_words4 (w : Words4) : wordBytes [w.w0, w.w1, w.w2, w.w3] = words4Bytes w := by
  simp [wordBytes, words4Bytes]

theorem wordBytes_one (w : Word) : wordBytes [w] = leBytes 4 w.toNat := List.append_nil _

theorem wordBytes_two (w v : Word) : wordBytes [w, v] = leBytes 4 w.toNat ++ leBytes 4 v.toNat := by
  simp [wordBytes]

section
variable {s : State}

/-! MFR_QREAD and MFR_QFIFO (R549, R550). -/

theorem readWords_one (i : Iface) (a : Nat) (bad : Bool) {w : Word} {t : State} (h : s.regRead i a bad bad = (w, t)) :
    readWords i false [(a, bad)] s = ([w], t) := by
  simp [readWords, h]

theorem readWords_two (i : Iface) (a b : Nat) {w v : Word} {t u : State} (h : s.regRead i a false false = (w, t)) (k : t.regRead i b false false = (v, u)) :
    readWords i false [(a, false), (b, false)] s = ([w, v], u) := by
  simp [readWords, h, k]

/-- Of n words asked for, those fetched are read with their side effects, and all of them are answered (R550). -/
theorem State.qread_of_live (hl : s.live = true) (a : Nat) {n : Nat} (h1 : 1 ≤ n) (h2 : n ≤ 32) (fetched : Nat) (fixed : Bool) (bad : List Bool)
    {l : List Word} {t : State} (h : readWords .twb0 false (markRun (addrRun a (min n fetched) fixed) bad) s = (l, t)) :
    s.qread a n fetched fixed bad = (t.pmBytes (BitVec.ofNat 8 (4 * n) :: wordBytes l)).answer .twb0 l := by
  have hn : ¬ (n < 1 ∨ 32 < n) := by omega
  rw [State.qread, State.served_of_live hl, if_neg nofun, if_neg hn, show (Served.full == Served.glb) = false from rfl, h]

theorem exec_mfrQread_of_ready (h : s.ready) (addr : BitVec 24) (n fetched : Nat) (bad : List Bool) :
    exec (.mfrQread addr n fetched bad) s = .next (s.qread addr.toNat n fetched false bad) := State.arrive_runs h.1 _ _

theorem exec_mfrQfifo_of_ready (h : s.ready) (addr : BitVec 24) (n fetched : Nat) (bad : List Bool) :
    exec (.mfrQfifo addr n fetched bad) s = .next (s.qread addr.toNat n fetched true bad) := State.arrive_runs h.1 _ _

/-! MFR_QCPL and MFR_QENTRY (R54, R549). -/

theorem State.pmBlock_of_live (hl : s.live = true) (l : List Byte) : s.pmBlock l = s.pmBytes (BitVec.ofNat 8 l.length :: l) := by
  simp [State.pmBlock, State.pmRead, State.served_of_live hl]

/-- The oldest completion leaves the FIFO and stays in its latch (R111, R549). -/
def State.poppedTwb (s : State) (c : Cpl) (rest : List Cpl) : State :=
  s.modIface .twb0 fun x => { x with cplFifo := rest, cplLatch := [c.words.w0, c.words.w1, c.words.w2, c.words.w3] }

theorem State.popCpl_twb0 {c : Cpl} {rest : List Cpl} (hc : s.host.twb0.cplFifo = c :: rest) :
    s.popCpl .twb0 = (c.words.w0, s.poppedTwb c rest) := by
  rw [State.popCpl, show (s.iface .twb0).cplFifo = c :: rest from hc]
  rfl

theorem exec_mfrQcpl_of_ready (h : s.ready) {c : Cpl} {rest : List Cpl} (hc : s.host.twb0.cplFifo = c :: rest) :
    exec .mfrQcpl s = .next ((s.poppedTwb c rest).pmBytes (16 :: words4Bytes c.words)) := by
  have hlatch : (s.poppedTwb c rest).host.twb0.cplLatch = [c.words.w0, c.words.w1, c.words.w2, c.words.w3] := rfl
  have hlive : (s.poppedTwb c rest).live = true := h.2
  rw [show exec .mfrQcpl s = _ from State.arrive_runs h.1 _ _, runMfrQcpl, State.served_of_live h.2]
  dsimp only
  rw [hc, List.isEmpty_cons, if_neg Bool.false_ne_true, State.popCpl_twb0 hc, hlatch, wordBytes_words4, State.pmBlock_of_live hlive,
    words4Bytes_length]
  rfl

/-- TWB0's latch holds the words of an entry (R54). -/
def State.latchedTwb (s : State) (id : Nat) (w : Words4) : State :=
  s.modIface .twb0 fun x => { x with entryLatch := some (id, [w.w0, w.w1, w.w2, w.w3]) }

/-- The first word of an entry latches the whole entry (R54). -/
theorem State.fpRead_first (id : Nat) :
    s.fpRead .twb0 (4 * id) false = ((s.fpEntry id).words.w0, s.latchedTwb id (s.fpEntry id).words) := by
  have hdiv : 4 * id / 4 = id := Nat.mul_div_cancel_left id (by decide)
  have hmod : 4 * id % 4 = 0 := Nat.mul_mod_right 4 id
  rw [State.fpRead, hdiv, hmod]
  cases (s.iface .twb0).entryLatch <;> rfl

/-- The other words come out of the latch (R54). -/
theorem State.fpRead_latched (id : Nat) (w : Words4) {k : Nat} (h0 : k ≠ 0) (h4 : k < 4) :
    (s.latchedTwb id w).fpRead .twb0 (4 * id + k) false = ([w.w0, w.w1, w.w2, w.w3].getD k 0, s.latchedTwb id w) := by
  have hdiv : (4 * id + k) / 4 = id := by omega
  have hmod : (4 * id + k) % 4 = k := by omega
  have hlatch : ((s.latchedTwb id w).iface .twb0).entryLatch = some (id, [w.w0, w.w1, w.w2, w.w3]) := rfl
  rw [State.fpRead, hdiv, hmod, hlatch]
  simp [h0]

theorem exec_mfrQentry_of_ready (h : s.ready) :
    exec (.mfrQentry false) s = .next ((s.latchedTwb s.host.page (s.fpEntry s.host.page).words).pmBytes
      (16 :: words4Bytes (s.fpEntry s.host.page).words)) := by
  have hlive : (s.latchedTwb s.host.page (s.fpEntry s.host.page).words).live = true := h.2
  have hpage : s.paged = s.host.page := rfl
  rw [show exec (.mfrQentry false) s = _ from State.arrive_runs h.1 _ _, runMfrQentry, State.served_of_live h.2]
  dsimp only
  rw [hpage, State.fpRead_first, State.fpRead_latched _ _ (by decide) (by decide), State.fpRead_latched _ _ (by decide) (by decide),
    State.fpRead_latched _ _ (by decide) (by decide)]
  show Host.Outcome.next (State.pmBlock _ (wordBytes [(s.fpEntry s.host.page).words.w0, (s.fpEntry s.host.page).words.w1,
    (s.fpEntry s.host.page).words.w2, (s.fpEntry s.host.page).words.w3])) = _
  rw [wordBytes_words4, State.pmBlock_of_live hlive, words4Bytes_length]
  rfl

/-! The Alert Response Address and Host Notify (R552, R553). -/

theorem exec_alertResponse_of_ready (h : s.ready) (won : Bool) :
    exec (.alertResponse won) s = .next (if s.alertLow && won then s.pmBytes (leBytes 1 (2 * s.twbAddr)) else s) := by
  rw [show exec (.alertResponse won) s = _ from State.arrive_runs h.1 _ _, runAlertResponse, State.served_of_live h.2, decide_eq_true rfl,
    Bool.true_and]

theorem exec_hostNotify_of_ready (h : s.ready) (ok : Bool) :
    exec (.hostNotify ok) s = .next (if s.imb Img.twbHnEn && s.intLow .twb0 then
      s.modHost fun h => { h with hnWord := BitVec.ofNat 16 s.notifyWord, hnRetry := if ok then none else some 0 } else s) := by
  rw [show exec (.hostNotify ok) s = _ from State.arrive_runs h.1 _ _, runHostNotify, State.served_of_live h.2, decide_eq_true rfl,
    Bool.true_and]

theorem exec_hostNotifyRetry_of_none (h : s.ready) (hr : s.host.hnRetry = none) (ok : Bool) :
    exec (.hostNotifyRetry ok) s = .next s := by
  rw [show exec (.hostNotifyRetry ok) s = _ from State.arrive_runs h.1 _ _, runHostNotifyRetry, hr]

theorem exec_hostNotifyRetry_of_some (h : s.ready) {k : Nat} (hr : s.host.hnRetry = some k) (ok : Bool) :
    exec (.hostNotifyRetry ok) s = .next (if ok then s.modHost fun h => { h with hnRetry := none }
      else if 2 ≤ k then s.modHost fun h => { h with hnRetry := none, hnFail := satAdd 255 h.hnFail 1 }
      else s.modHost fun h => { h with hnRetry := some (k + 1) }) := by
  rw [show exec (.hostNotifyRetry ok) s = _ from State.arrive_runs h.1 _ _, runHostNotifyRetry, hr]

/-! SPI frames (R555 to R558, R560). -/

/-- The status byte of a read frame (R556). -/
def State.spiStatus (t : State) (ready : Bool) : Byte :=
  BitVec.ofNat 8 (placeAt (b2n ready) 7 7 + placeAt (b2n t.host.spiRej) 6 6 + placeAt (b2n !t.host.spi.cplFifo.isEmpty) 5 5 +
    placeAt (b2n (t.intLow .spi)) 4 4 + t.glb.mode.code)

/-- READY is the status byte's highest bit (R556). -/
theorem State.spiStatus_ready (t : State) : (t.spiStatus true).getLsbD 7 = true := by
  have hcode : t.glb.mode.code < 16 := by cases t.glb.mode <;> decide
  have hbit (b : Bool) : b2n b ≤ 1 := by cases b <;> decide
  have h6 := hbit t.host.spiRej
  have h5 := hbit !t.host.spi.cplFifo.isEmpty
  have h4 := hbit (t.intLow .spi)
  rw [State.spiStatus, BitVec.getLsbD_ofNat, show placeAt (b2n true) 7 7 = 2 ^ 7 * 1 from rfl]
  simp only [placeAt, Nat.reduceAdd, Nat.reduceSub, Nat.pow_one]
  rw [Nat.add_assoc, Nat.add_assoc, Nat.add_assoc, Nat.testBit_two_pow_mul_add _ (by omega)]
  rfl

/-- An SPI frame's answer: dummy bytes, the status byte and the data bytes; the rejection of a write frame before it ends (R556, R557). -/
def State.spiReply (t : State) (n : Nat) (status : Byte) (data : List Byte) (l : List Word) : State :=
  ((t.modHost fun h => { h with spiRej := false }).modIface .spi fun x =>
    { x with replyBytes := List.replicate n 0xFF#8 ++ status :: data ++ [] }).answer .spi l

/-- A read frame of one word without a check code, at what a state answers it (R555 to R557). -/
theorem exec_spiReadFrame_of_ready (h : s.ready) (a b c : Byte) (avail : Bool) :
    exec (.spiReadFrame [0, a, b, c] avail []) s = .next (
      let (l, t) := if avail then readWords .spi false [(spiAddr [0, a, b, c], false)] s else ([], s)
      t.spiReply (s.im Img.twbSpiDummy + 1) (t.spiStatus avail) (if avail then wordBytes l else List.replicate 4 0xFF#8) l) := by
  obtain ⟨⟨hhold, hswitch, hgov, hwarm⟩, hl⟩ := h
  have hcmd : spiCmd [0, a, b, c] = 0 := rfl
  have hwords : spiWords [0, a, b, c] = 1 := by rw [spiWords, hcmd]; decide
  have hcrc : bitOf 0 5 = false := rfl
  have hrun : addrRun (spiAddr [0, a, b, c]) 1 (bitOf 0 4) = [spiAddr [0, a, b, c]] := addrRun_one (spiAddr_lt _) _
  have hmark (x : Nat) : markRun [x] [] = [(x, false)] := rfl
  have hvalid : ¬ (Served.full = .none ∨ bitsOf 0 7 6 ≠ 0 ∨ [0, a, b, c].length < 4) := by simp [bitsOf]
  have hfull : (Served.full == Served.glb) = false := rfl
  show execSpiReadFrame _ _ _ s = _
  unfold execSpiReadFrame
  dsimp only
  rw [State.served_of_live hl, hhold, hswitch, hgov, hwarm, hcmd, hwords, hcrc, hrun, hmark, hfull, if_neg hvalid]
  cases avail <;> rfl

/-- A write frame of one word without a check code, where none is required (R555, R560). -/
theorem exec_spiWriteFrame_of_ready (h : s.ready) (hcrc : s.imb Img.twbSpiCrcReq = false) (a b c w0 w1 w2 w3 : Byte) :
    exec (.spiWriteFrame [0x40, a, b, c, w0, w1, w2, w3]) s =
      .next (s.writeWords .spi [(spiAddr [0x40, a, b, c], wordOf (leNat [w0, w1, w2, w3]))]) := by
  have hcmd : spiCmd [0x40, a, b, c, w0, w1, w2, w3] = 0x40 := rfl
  have hwords : spiWords [0x40, a, b, c, w0, w1, w2, w3] = 1 := by rw [spiWords, hcmd]; decide
  have hnocrc : bitOf 0x40 5 = false := rfl
  have hrun : addrRun (spiAddr [0x40, a, b, c, w0, w1, w2, w3]) 1 (bitOf 0x40 4) = [spiAddr [0x40, a, b, c]] := addrRun_one (spiAddr_lt _) _
  have hvalid : ¬ (Served.full = .none ∨ bitsOf 0x40 7 6 ≠ 1) := by simp [bitsOf]
  rw [show exec (.spiWriteFrame _) s = _ from State.arrive_runs h.1 _ _, runSpiWriteFrame]
  dsimp only
  rw [State.served_of_live h.2, hcmd, hwords, hnocrc, hrun, hcrc, if_neg hvalid]
  rfl

/-- A single word is written as its register write (R560). -/
theorem State.writeWords_one (i : Iface) (a : Nat) (w : Word) : s.writeWords i [(a, w)] = s.regWrite i a w := by
  by_cases h : a = 0x010030 <;> simp [State.writeWords, h]

/-- A write frame without its data is rejected and counted (R557). -/
theorem exec_spiWriteFrame_short (h : s.ready) (a b c : Byte) :
    exec (.spiWriteFrame [0x40, a, b, c]) s = .next (s.modHost fun h => { h with spiErr := satAdd 255 h.spiErr 1, spiRej := true }) := by
  have hcmd : spiCmd [0x40, a, b, c] = 0x40 := rfl
  have hwords : spiWords [0x40, a, b, c] = 1 := by rw [spiWords, hcmd]; decide
  have hvalid : ¬ (Served.full = .none ∨ bitsOf 0x40 7 6 ≠ 1) := by simp [bitsOf]
  rw [show exec (.spiWriteFrame _) s = _ from State.arrive_runs h.1 _ _, runSpiWriteFrame]
  dsimp only
  rw [State.served_of_live h.2, hcmd, hwords, if_neg hvalid]
  rfl

end

/-- Settles O59, clause by clause: what each read or write of the host ports is at a state whose lanes run. -/
theorem hostWordsAreServed : Obligations.HostWordsAreServed := by
  unfold Obligations.HostWordsAreServed
  intro s h
  have hl : s.live = true := h.2
  have hone (a : BitVec 24) : addrRun a.toNat (min 1 1) false = [a.toNat] := addrRun_one a.isLt false
  refine ⟨fun a bad w t hr => ?read, fun a => ?unmarked, fun a n h1 h2 => ?unfetched, fun a w t v u hr hq => ?fifo, fun c rest hc => ?completion,
    fun _ _ => ?entry, fun ha => ?alerted, ?lost, fun ha => ?quiet, fun ok hn hi => ?notified, fun ok hn => ?unnotified,
    fun k hk => ?sent, fun k hk h2 => ?again, fun k hk h2 => ?given, fun ok hk => exec_hostNotifyRetry_of_none h hk ok,
    fun a b c w t hr => ?frame, fun a b c => ?busy, fun a b c w0 w1 w2 w3 hcrc _ => ?write, exec_spiWriteFrame_short h⟩
  case read =>
    rw [exec_mfrQread_of_ready h, State.qread_of_live hl _ (by decide) (by decide) 1 false [bad] (l := [w]) (t := t)]
    · rw [wordBytes_one]
      rfl
    · rw [hone]
      exact readWords_one _ _ _ hr
  case unmarked =>
    rw [exec_mfrQread_of_ready h, exec_mfrQread_of_ready h]
    rfl
  case unfetched =>
    rw [exec_mfrQread_of_ready h, State.qread_of_live hl _ h1 h2 0 false [] (l := []) (t := s)]
    · rfl
    · rw [Nat.min_zero]
      rfl
  case fifo =>
    rw [exec_mfrQfifo_of_ready h, State.qread_of_live hl a.toNat (n := 2) (by decide) (by decide) 2 true [] (readWords_two _ _ _ hr hq), wordBytes_two]
    rfl
  case completion => exact ⟨_, exec_mfrQcpl_of_ready h hc, rfl, rfl, rfl⟩
  case entry => exact ⟨_, exec_mfrQentry_of_ready h, rfl, rfl⟩
  case alerted => rw [exec_alertResponse_of_ready h, ha]; rfl
  case lost => rw [exec_alertResponse_of_ready h, Bool.and_false]; rfl
  case quiet => rw [exec_alertResponse_of_ready h, ha]; rfl
  case notified => rw [exec_hostNotify_of_ready h, hn, hi]; rfl
  case unnotified => rw [exec_hostNotify_of_ready h, hn]; rfl
  case sent => exact exec_hostNotifyRetry_of_some h hk true
  case again => rw [exec_hostNotifyRetry_of_some h hk, if_neg Bool.false_ne_true, if_neg (Nat.not_le.2 h2)]
  case given => rw [exec_hostNotifyRetry_of_some h hk, if_neg Bool.false_ne_true, if_pos h2]
  case frame =>
    refine ⟨_, exec_spiReadFrame_of_ready h a b c true, ?_⟩
    rw [if_pos rfl, readWords_one _ _ _ hr]
    have hbytes : (t.spiReply (s.im Img.twbSpiDummy + 1) (t.spiStatus true) (wordBytes [w]) [w]).host.spi.replyBytes =
        List.replicate (s.im Img.twbSpiDummy + 1) 0xFF#8 ++ t.spiStatus true :: leBytes 4 w.toNat := by
      rw [← wordBytes_one]
      exact List.append_nil _
    exact ⟨rfl, ⟨_, _, hbytes, State.spiStatus_ready t⟩, rfl, rfl⟩
  case busy => exact ⟨_, exec_spiReadFrame_of_ready h a b c false, rfl, rfl, rfl⟩
  case write => rw [exec_spiWriteFrame_of_ready h hcrc, State.writeWords_one]

end Sys2Proof.Machine
end

section
/-! PROOFS. O8: the ticks that fell inside a hold are made at its end without a look at the mode (R291), so that a state outside RUN
and PARKED that counts one publishes an epoch. -/

namespace Sys2Proof.Machine

/-- A block in HELD in which a clock switch is about to end, with one tick counted inside it. -/
def heldWithTick : State :=
  { glb := { mode := .held }, led := { epoch := 1 }, lane := { switching := true, tickHeld := 1 }, pending := [.clockSwitchDone 0] }

theorem heldWithTick_epochsOrdered : heldWithTick.epochsOrdered := ⟨fun h => absurd h Bool.false_ne_true, fun _ => rfl⟩

/-- The end of the switch makes the tick: epoch 1 is published in HELD. -/
theorem heldWithTick_publishes :
    (heldWithTick.after (step heldWithTick)).live = false ∧ (heldWithTick.after (step heldWithTick)).led.pubEpoch = 1 := by
  decide +kernel

/-- Refutes O8: a clock switch that ends in HELD with one tick counted leaves a publication there. The statement asks for ordered
epochs alone, and not that a block which does not govern counts no tick. -/
theorem not_epochNumbersNeverDecrease : ¬ Obligations.EpochNumbersNeverDecrease := by
  unfold Obligations.EpochNumbersNeverDecrease
  intro h
  obtain ⟨t, ht⟩ : goesOn (step heldWithTick) := everyCommandGoesOn (.clockSwitchDone 0) { heldWithTick with pending := [] }
  have hpublishes := heldWithTick_publishes
  rw [ht, State.after_next] at hpublishes
  obtain ⟨hlive, hpub⟩ := hpublishes
  have hordered := (h heldWithTick t heldWithTick_epochsOrdered ht).1
  exact absurd ((hordered.2 hlive).symm.trans hpub) (by decide)

end Sys2Proof.Machine
end

section
/-! PROOFS. O19: a member of a bundle on a device whose presentation is FREE reads as ABSENT (R44), so that its final value is not
written, whatever its stored entry holds. -/

namespace Sys2Proof.Machine

/-- A SETPOINT of 7 for output 0 of foreign device 0, the one member of bundle 0. -/
def foreignSetpoint : Op := { req := { ep := 0x600, kind := .setpoint, cls := 4, val := 7 }, seq := 3, val := 7, bundle := some 0 }

/-- A bundle whose one member is confirmed, on a device that is FREE though its output's stored entry is ON. -/
def freeDeviceBundle : State :=
  { glb := { mode := .run }, tickAt := 16,
    led := { epoch := 5, pubEpoch := 4, cur := [(0x600, { st := .on, ty := 0x14 })], devPres := [(0, .free)] },
    pipe := { bundles := [(0, some { seqs := [3], confirmed := [3], members := [foreignSetpoint], passed := true })],
              tack := [(3, some { op := foreignSetpoint, confirmed := true })] } }

/-- The bundle's commit writes the flags of the entry alone: its value stays 0. -/
theorem freeDeviceBundle_keeps_value : ((freeDeviceBundle.after (exec .bundleCommit freeDeviceBundle)).stored 0x600).val = 0 := by
  decide +kernel

/-- Refutes O19: the commit of a bundle does not write the final value of a member whose device reads FREE. The statement's clause of
the publication asks that the endpoint be PRESENT; its last clause asks for a stored entry alone. -/
theorem not_commitsWriteTheLedger : ¬ Obligations.CommitsWriteTheLedger := by
  unfold Obligations.CommitsWriteTheLedger
  intro h
  obtain ⟨-, -, -, -, -, -, -, hbundle⟩ := h freeDeviceBundle rfl
  have hrail : ∀ r, kindOf 0x600 ≠ .rail r := fun r hr => nomatch show EpK.foreign 0 = .rail r from hr
  have hstored : (freeDeviceBundle.stored 0x600).st ≠ .absent := by decide
  obtain ⟨t, ht, hval, -⟩ := hbundle 0 3 foreignSetpoint rfl rfl rfl rfl rfl rfl rfl rfl rfl rfl rfl (by decide) hrail hstored (by decide) (by decide)
  have hkept := freeDeviceBundle_keeps_value
  rw [ht] at hkept
  exact absurd (hval.symm.trans hkept) (by decide)

end Sys2Proof.Machine
end

section
/-! PROOFS. O16: host requests and bundle members enter at their port, or are refused (R86, R91, R116, R126). -/

namespace Sys2Proof.Machine

section
variable {s : State} {i : Iface} {w0 : Word}

/-! What the commands of the intake are while the lanes run and the block governs. -/

theorem exec_requestSubmit_of_ready (h : s.ready) (hb : (s.hostReq i w0).bnd = false) :
    exec (.requestSubmit i w0) s = .next (s.hostRaise i [s.hostReq i w0]) := by
  rw [show exec (.requestSubmit i w0) s = .next (s.submitReq i w0) from State.arrive_runs h.1 _ _, State.submitReq]
  simp [h.2, hb]

theorem exec_bundleMemberStage_of_ready (h : s.ready) :
    exec (.bundleMemberStage i w0) s = .next (s.stageMember i { s.hostReq i w0 with bnd := true }) := by
  rw [show exec (.bundleMemberStage i w0) s = _ from State.arrive_runs h.1 _ _, runBundleMemberStage, if_pos h.2]

/-- The command and the time limit empty the buffer alike (R116). -/
theorem exec_bundleBufferEmpties_of_ready (h : s.ready) {c : Instr} (hc : c = .bundleBufferClear i ∨ c = .bundleBufferTimeout i) :
    exec c s = .next (s.bufferClear i) := by
  rcases hc with rfl | rfl
  · rw [show exec (.bundleBufferClear i) s = _ from State.arrive_runs h.1 _ _, runBundleBufferClear, if_pos h.2]
  · exact State.arrive_runs h.1 _ _

/-! Raising a request at its port. -/

/-- An update of an interface changes the host ports alone. -/
theorem State.modIface_only (i : Iface) (f : HostIf → HostIf) : s.modIface i f = { s with host := (s.modIface i f).host } := by
  cases i <;> rfl

/-- An update of the pipeline behind one of the host ports. -/
theorem State.only_pipe_host {t u : State} (hport : t = { s with host := t.host }) (hpipe : u = { t with pipe := u.pipe }) :
    u = { s with pipe := u.pipe, host := u.host } := by
  have hhost : u.host = t.host := (congrArg State.host hpipe :)
  rw [hhost]
  exact hpipe.trans (congrArg (fun x : State => { x with pipe := u.pipe }) hport)

/-- Two states with the same host ports show the same at each interface. -/
theorem State.iface_of_host {t : State} (h : t.host = s.host) (j : Iface) : t.iface j = s.iface j := by
  cases j
  · exact congrArg HostSt.twb0 h
  · exact congrArg HostSt.spi h

theorem ifacePort_ne_seven (i : Iface) : ifacePort i ≠ 7 := by cases i <;> decide

/-- With room in the queue the request waits at its port, and its tag is noted (R91, R126). -/
theorem State.hostRaise_of_room (r : Req) (h : 1 ≤ s.p4Free) :
    s.hostRaise i [r] = (s.modIface i fun x => { x with lastTag := r.tag }).offer (ifacePort i) [r] := if_pos h

theorem State.hostRaise_of_full (r : Req) (h : s.p4Free = 0) : s.hostRaise i [r] = s.refused91 i :=
  if_neg (by rw [h]; exact Nat.not_succ_le_zero 0)

theorem State.refused91_iface : (s.refused91 i).iface i = { s.iface i with reqRej := true } := by
  cases i <;> rfl

theorem State.refused91_other : (s.refused91 i).iface (Iface.other i) = s.iface (Iface.other i) := by
  cases i <;> rfl

theorem State.refused91_only : s.refused91 i = { s with host := (s.refused91 i).host } := by
  cases i <;> rfl

/-! The bundle buffer. -/

/-- The first member of a bundle that does not carry LAST is staged (R116). -/
theorem State.stageMember_first {r : Req} (hbuf : (s.iface i).bndBuf = []) (hlast : r.last = false) :
    s.stageMember i r = s.modIface i fun x => { x with bndBuf := [r] } := by
  rw [State.stageMember, hbuf]
  dsimp only
  rw [if_neg Bool.false_ne_true, hlast, if_neg Bool.false_ne_true]
  cases i
  · exact congrArg (fun l => s.modIface .twb0 fun x => { x with bndBuf := l ++ [r] }) hbuf
  · exact congrArg (fun l => s.modIface .spi fun x => { x with bndBuf := l ++ [r] }) hbuf

/-- Requests refused before they are stamped: one completion each, in their order (R111). -/
theorem State.refuseAll_done (l : List Req) (c : Code) (s : State) :
    (l.foldl (fun s r => s.refuse r c) s).pipe.done.map (fun k => (k.ep, k.code)) =
      s.pipe.done.map (fun k => (k.ep, k.code)) ++ l.map fun r => (r.ep, c) := by
  induction l generalizing s with
  | nil => simp
  | cons r l ih =>
    have hone : (s.refuse r c).pipe.done.map (fun k => (k.ep, k.code)) = s.pipe.done.map (fun k => (k.ep, k.code)) ++ [(r.ep, c)] :=
      List.map_append
    rw [List.foldl_cons, ih, hone, List.map_cons, List.append_assoc, List.singleton_append]

theorem State.refuseAll_only (l : List Req) (c : Code) (s : State) :
    l.foldl (fun s r => s.refuse r c) s = { s with pipe := (l.foldl (fun s r => s.refuse r c) s).pipe } := by
  induction l generalizing s with
  | nil => rfl
  | cons r l ih =>
    rw [List.foldl_cons, ih]
    rfl

theorem State.refuseAll_host (l : List Req) (c : Code) (s : State) : (l.foldl (fun s r => s.refuse r c) s).host = s.host :=
  (congrArg State.host (State.refuseAll_only l c s) :)

/-- A buffer with members empties, PIPE_REQ_REJ is set, and every member is refused (R116). -/
theorem State.bufferClear_of_members (h : (s.iface i).bndBuf ≠ []) :
    s.bufferClear i = (s.iface i).bndBuf.foldl (fun s r => s.refuse r .refusedInterlock)
      (s.modIface i fun x => { x with bndBuf := [], reqRej := true }) := by
  rw [State.bufferClear, if_neg (by simpa using h), State.bufferRefuse, List.append_nil]

end

/-- Settles O16, clause by clause. -/
theorem hostRequestsEnter : Obligations.HostRequestsEnter := by
  unfold Obligations.HostRequestsEnter
  intro s i h
  refine ⟨fun w0 hb hroom => ⟨_, exec_requestSubmit_of_ready h hb, ?raised⟩, fun w0 hb hfull => ⟨_, exec_requestSubmit_of_ready h hb, ?refused⟩,
    fun w0 hbuf hlast => ?staged, fun c hc hbuf => ⟨_, exec_bundleBufferEmpties_of_ready h hc, ?emptied⟩⟩
  case raised =>
    rw [State.hostRaise_of_room _ hroom]
    have hiface := State.iface_of_host (State.offer_host (ifacePort_ne_seven i) (s.modIface i fun x => { x with lastTag := (s.hostReq i w0).tag })
      [s.hostReq i w0])
    refine ⟨State.offer_mem .., ?_, ?_, ?_, State.only_pipe_host (State.modIface_only ..) (State.offer_only (ifacePort_ne_seven i) ..)⟩
    · rw [hiface, State.modIface_iface]
    · rw [hiface, State.modIface_iface]
    · rw [hiface, State.modIface_other]
  case refused =>
    rw [State.hostRaise_of_full _ hfull]
    exact ⟨congrArg HostIf.reqRej State.refused91_iface, State.refused91_other, State.refused91_only⟩
  case staged =>
    rw [exec_bundleMemberStage_of_ready h]
    exact congrArg Host.Outcome.next (State.stageMember_first hbuf hlast)
  case emptied =>
    rw [State.bufferClear_of_members hbuf]
    have hiface := State.iface_of_host (State.refuseAll_host (s.iface i).bndBuf .refusedInterlock
      (s.modIface i fun x => { x with bndBuf := [], reqRej := true }))
    refine ⟨?_, ?_, ?_, ?_, State.only_pipe_host (State.modIface_only ..) (State.refuseAll_only ..)⟩
    · rw [hiface, State.modIface_iface]
    · rw [hiface, State.modIface_iface]
    · rw [State.refuseAll_done, State.modIface_pipe]
    · rw [hiface, State.modIface_other]

end Sys2Proof.Machine
end

section
/-! PROOFS. O17 and O18: an operation of the tree's bundle carries IN_BUNDLE from its issue here to its end here (R69, R71), so that
neither changes the pipeline alone. -/

namespace Sys2Proof.Machine

/-- A LIMIT for rail 5 that an OP frame with BND brought (R69, R86). -/
def treeLimit : Op := { req := { ep := 5, kind := .limit, val := 100, cls := 3, reqr := 0x1040, tree := true }, seq := 3, val := 100 }

/-- The operation is the next one at Stitch, and its rail is ON. -/
def treeLimitAtStitch : State :=
  { glb := { mode := .run }, tickAt := 16, led := { epoch := 5, pubEpoch := 4, cur := [(5, { st := .on, ty := 1 })] }, pipe := { normQ := [treeLimit] } }

/-- The issue commits the flag alone. -/
theorem treeLimit_issue_commits : (treeLimitAtStitch.after (exec (.stitchIssue false) treeLimitAtStitch)).led.cmtNow = 1 := by
  decide +kernel

/-- Refutes O17: the issue of a member of the tree's bundle commits IN_BUNDLE on its endpoint (R69). The statement's clause of the issue
asks for an operation outside this unit's bundles alone, and lets nothing but the pipeline change. -/
theorem not_requestsMoveThroughThePipeline : ¬ Obligations.RequestsMoveThroughThePipeline := by
  unfold Obligations.RequestsMoveThroughThePipeline
  intro h
  obtain ⟨-, -, -, -, -, hissue, -, -⟩ := h treeLimitAtStitch rfl
  obtain ⟨t, ht, -, -, -, hframe⟩ := hissue 0 treeLimit [] rfl (by decide +kernel) (by decide) (by decide) rfl rfl rfl
  have hcommits := treeLimit_issue_commits
  rw [ht, State.after_next, hframe] at hcommits
  exact Nat.zero_ne_one hcommits

/-- The operation is in flight, and its rail's entry carries IN_BUNDLE. -/
def treeLimitInFlight : State :=
  { glb := { mode := .run }, tickAt := 16, led := { epoch := 5, pubEpoch := 4, cur := [(5, { st := .on, ty := 1, flags := flagMask fINBUNDLE })] },
    pipe := { tack := [(3, some { op := treeLimit })] } }

/-- The end of its time commits the flag's end. -/
theorem treeLimit_expiry_commits : (treeLimitInFlight.after (exec (.timeLimitExpiry 3) treeLimitInFlight)).led.cmtNow = 1 := by
  decide +kernel

/-- Refutes O18: a member of the tree's bundle that its time limit ends loses IN_BUNDLE by a commit of its own (R71, R655). The statement's
clause of the time limit lets nothing but the pipeline change. -/
theorem not_operationsConfirmOrTimeOut : ¬ Obligations.OperationsConfirmOrTimeOut := by
  unfold Obligations.OperationsConfirmOrTimeOut
  intro h
  obtain ⟨-, -, -, -, -, hexpiry⟩ := h treeLimitInFlight 3 ⟨rfl, rfl, rfl, rfl⟩
  obtain ⟨t, ht, -, -, -, -, hframe⟩ := hexpiry { op := treeLimit } rfl rfl rfl rfl (by decide)
  have hcommits := treeLimit_expiry_commits
  rw [ht, State.after_next, hframe] at hcommits
  exact Nat.zero_ne_one hcommits

end Sys2Proof.Machine
end

section
/-! PROOFS. Frames on the eyelets: what the acceptance of a frame and a frame that leaves at once change (R355, R357, R358). -/

namespace Sys2Proof.Machine

section
variable {s t u : State}

/-- A change of the Lace link behind another. -/
theorem State.only_lace_trans (h : t = { s with lace := t.lace }) (k : u = { t with lace := u.lace }) : u = { s with lace := u.lace } :=
  k.trans (congrArg (fun x : State => { x with lace := u.lace }) h)

theorem State.modLace_only (s : State) (f : Lace → Lace) : s.modLace f = { s with lace := (s.modLace f).lace } := rfl
theorem State.modSlot_only (s : State) (k : Nat) (f : SlotRec → SlotRec) : s.modSlot k f = { s with lace := (s.modSlot k f).lace } := rfl

/-- A change of the pipeline behind one of the Lace link. -/
theorem State.only_lace_pipe (h : t = { s with lace := t.lace }) (k : u = { t with pipe := u.pipe }) : u = { s with lace := u.lace, pipe := u.pipe } := by
  have hlace : u.lace = t.lace := (congrArg State.lace k :)
  rw [hlace]
  exact k.trans (congrArg (fun x : State => { x with pipe := u.pipe }) h)

/-! The acceptance of a frame. -/

theorem State.takes_eq (e : Nat) (k : FrameKind) (hpass : s.framesPass e = true) : s.takes e k = frameComes k (s.lace.parent == some e) := by
  rw [State.takes, hpass, Bool.true_and]

theorem State.takes_of_not_passing {e : Nat} (k : FrameKind) (hpass : s.framesPass e = false) : s.takes e k = false := by
  rw [State.takes, hpass, Bool.false_and]

theorem State.takes_from_parent {e : Nat} (k : FrameKind) (hpass : s.framesPass e = true) (hp : s.lace.parent = some e) :
    s.takes e k = frameComes k true := by
  rw [State.takes_eq e k hpass, hp, beq_self_eq_true]

theorem State.takes_from_other {e : Nat} (k : FrameKind) (hpass : s.framesPass e = true) (hp : s.lace.parent ≠ some e) :
    s.takes e k = frameComes k false := by
  rw [State.takes_eq e k hpass, beq_false_of_ne hp]

variable (s) (e : Nat) (k : FrameKind)

theorem State.recvFrame_only : s.recvFrame e k = { s with lace := (s.recvFrame e k).lace } := rfl
theorem State.recvFrame_eye_ne {j : Nat} (h : j ≠ e) : (s.recvFrame e k).eye j = s.eye j := by
  rw [State.recvFrame, State.modEye_eye_at, if_neg (Ne.symm h)]

/-- The sequence number goes on with every accepted frame (R355). -/
theorem State.recvFrame_rxSeq : ((s.recvFrame e k).eye e).rxSeq = (s.eye e).rxSeq + 1 := by
  rw [State.recvFrame, State.modEye_eye]
  cases k <;> rfl

theorem State.recvFrame_nak : ((s.recvFrame e k).eye e).nak = false := by
  rw [State.recvFrame, State.modEye_eye]
  cases k <;> rfl

/-- Operation frames are counted for the credit (R359). -/
theorem State.recvFrame_opRcvd : ((s.recvFrame e .op).eye e).opRcvd = ((s.eye e).opRcvd + 1) % 256 := by
  rw [State.recvFrame, State.modEye_eye]
  rfl

/-! A frame that leaves at once. -/

/-- With nothing waiting before it and with credit, a frame leaves as it is handed over (R358). -/
theorem Eyelet.pump_single {x : Eyelet} {f : Frame} (hq : x.txQ = []) (hf : x.maySend f = true) :
    { x with txQ := x.txQ ++ [f] }.pump (x.txQ.length + 1) = x.putFrame f := by
  have hmay : ({ x with txQ := [f] } : Eyelet).maySend f = true := hf
  have hpick : ({ x with txQ := [f] } : Eyelet).pick = some (f, []) := by
    cases hk : f.kind <;> simp [Eyelet.pick, List.range, List.range.loop, framePrio, hk, hmay]
  have hself : ({ x with txQ := [] } : Eyelet) = x := by rw [← hq]
  rw [hq, List.nil_append, List.length_nil, Eyelet.pump, hpick]
  exact congrArg (fun y : Eyelet => y.putFrame f) hself

theorem State.sendFrame_eye_of_credit {e : Nat} {f : Frame} (hup : (s.eye e).st = .up) (hq : (s.eye e).txQ = []) (hf : (s.eye e).maySend f = true) :
    (s.sendFrame e f).eye e = (s.eye e).putFrame f := by
  rw [State.sendFrame, if_pos hup, State.modEye_eye, Eyelet.pump_single hq hf]

theorem State.sendFrame_eye_ne {j : Nat} (h : j ≠ e) (f : Frame) : (s.sendFrame e f).eye j = s.eye j := by
  rw [State.sendFrame]
  split
  · rw [State.modEye_eye_at, if_neg (Ne.symm h)]
  · rfl

theorem State.sendFrame_only (f : Frame) : s.sendFrame e f = { s with lace := (s.sendFrame e f).lace } := by
  rw [State.sendFrame]
  split <;> rfl

theorem State.sendUp_of_parent {p : Nat} (hp : s.lace.parent = some p) (f : Frame) : s.sendUp f = s.sendFrame p f := by
  rw [State.sendUp, hp]

theorem State.sendUp_of_none (hp : s.lace.parent = none) (f : Frame) : s.sendUp f = s := by
  rw [State.sendUp, hp]

end

end Sys2Proof.Machine
end

section
/-! PROOFS. O37: frames that a relay passes on, markers, the loss of the parent, operations, completions, sets and mirrors (R107, R357 to
R384, R536). -/

namespace Sys2Proof.Machine

section
variable {s : State} {e : Fin 4}

/-! Frames for another slot, and markers of a domain head (R360, R361). -/

theorem exec_frameForward_of_ready (h : s.ready) (f : Frame) :
    exec (.frameForward e f) s = .next (if s.takes e f.kind then (s.recvFrame e f.kind).relay e f else s) := State.arrive_runs h.1 _ _

/-- A relay that has accepted a set, its slot's record following the set (R360, R369). -/
def State.setSeen (s : State) (e : Nat) (f : Frame) : State :=
  (s.recvFrame e .delta).setPasses f.src (bitOf (numAt f.payload 8 1) 0) (bitOf (numAt f.payload 8 1) 1) (bitOf (numAt f.payload 8 1) 2)

theorem State.setSeen_only (e : Nat) (f : Frame) : s.setSeen e f = { s with lace := (s.setSeen e f).lace } := rfl

theorem State.setSeen_eye (e : Nat) (f : Frame) (j : Nat) : (s.setSeen e f).eye j = (s.recvFrame e .delta).eye j := rfl

/-- A set from a child goes on to the parent eyelet (R360). -/
theorem exec_frameForward_of_set (h : s.ready) {p : Nat} {f : Frame} (hpass : s.framesPass e = true) (hf : f.kind = .delta) (hp : s.lace.parent = some p)
    (hpe : p ≠ e.val) : exec (.frameForward e f) s = .next ((s.setSeen e f).sendFrame p f) := by
  have hother : s.lace.parent ≠ some e.val := by rw [hp]; exact fun heq => hpe (Option.some.inj heq)
  rw [exec_frameForward_of_ready h, hf, State.takes_from_other .delta hpass hother, if_pos (by decide), State.relay, hf]
  exact congrArg Host.Outcome.next (State.sendUp_of_parent (s.setSeen e f) hp f)

/-- Without a parent a completion ends at the relay, whose relay slot it frees (R360). -/
theorem State.relay_cpl_of_none (hp : s.lace.parent = none) {f : Frame} (hf : f.kind = .cpl) :
    s.relay e f = s.modLace fun l => { l with relays := l.relays.erase (f.otag.toNat, e.val) } := by
  rw [State.relay, hf]
  exact State.sendUp_of_none (s.modLace fun l => { l with relays := l.relays.erase (f.otag.toNat, e.val) }) hp f

/-- The marker that a domain head announces: the tick 50 µs ahead (R361, R364). -/
def State.markerDue (s : State) : Marker :=
  sealMarker { epoch := BitVec.ofNat 48 (s.tickNumber s.markerLead), countdown := 12500, jump := s.lace.jump != 0,
               ddiv := if s.glb.role = 1 then Fin.ofNat 8 (s.im Img.laceDdiv) else Fin.ofNat 8 s.lace.ddiv,
               takeover := s.rootTook, crc := 0 }

theorem exec_markerSend_of_head (h : s.ready) (hm : s.glb.mode = .run) (hd : s.isDomainHead = true) (hl : s.lace.left = false) :
    exec .markerSend s = .next (s.modLace fun l =>
      { l with jump := l.jump - 1, markers := l.markers + s.childEyes.length, lastMarker := some s.markerDue }) := by
  rw [show exec .markerSend s = _ from State.arrive_runs h.1 _ _, runMarkerSend, hm, hd, hl]
  rfl

theorem exec_markerSend_of_member (h : s.ready) (hd : s.isDomainHead = false) : exec .markerSend s = .next s := by
  rw [show exec .markerSend s = _ from State.arrive_runs h.1 _ _, runMarkerSend, hd, Bool.and_false]
  rfl

/-! Markers on the parent eyelet (R361 to R364). -/

/-- Ticks of this unit that come before the one a marker announces (R362, R364). -/
def State.markerAhead (s : State) (n : Nat) : Nat :=
  if decide (s.tickNumber s.markerLead < n) then s.markerLead
  else ((List.range (s.markerLead + 1)).find? fun k => decide (n ≤ s.tickNumber k)).getD s.markerLead

/-- A valid marker sets the next tick and the numbering (R362 to R364). -/
def State.markerTaken (s : State) (e : Nat) (m : Marker) : State :=
  let n := m.epoch.toNat
  let raise := decide (s.tickNumber s.markerLead < n)
  let ok := s.glb.role == 2 && (match s.lace.mirrorEpoch with
    | some x => decide (n ≤ x + 2)
    | none => false)
  { s with tickAt := s.cyc + m.countdown.toNat - (s.eye e).delay - s.markerAhead n * (250 * s.im Img.epochUs) }.modLace fun l =>
    { l with noMarker := 0, sinceMarker := 0, markerEpoch := n, mirrorOkAtMarker := ok, ddiv := m.ddiv.val,
             raiseTo := if raise then some n else l.raiseTo, raiseIn := if raise then s.markerLead else l.raiseIn,
             jump := if raise && s.isGroupHead then 2 else l.jump }

/-- A marker goes on to the child eyelets, but not through a group head (R361). -/
def State.markerPassed (s : State) (d : Nat) (m : Marker) : State :=
  if s.isGroupHead then s
  else
    let (w, s) := s.fresh
    let m' := sealMarker { m with countdown := BitVec.ofNat 16 (m.countdown.toNat - d - w.toNat % 51) }
    let c := s.childEyes
    if c.isEmpty then s else s.modLace fun l => { l with markers := l.markers + c.length, lastMarker := some m' }

/-- Passing a marker on changes the record of what was sent and the free values drawn. -/
theorem State.markerPassed_only (d : Nat) (m : Marker) :
    s.markerPassed d m =
      { s with freeCtr := (s.markerPassed d m).freeCtr,
               lace := { s.lace with markers := (s.markerPassed d m).lace.markers, lastMarker := (s.markerPassed d m).lace.lastMarker } } := by
  unfold State.markerPassed
  split
  · rfl
  · dsimp only
    split <;> rfl

theorem exec_epochMarker_of_ready (h : s.ready) (m : Marker) :
    exec (.epochMarker e m) s = runEpochMarker e m s := State.arrive_runs h.1 _ _

/-- A marker on the parent eyelet that announces no number below the unit's own next one is taken and passed on. -/
theorem exec_epochMarker_of_valid (h : s.ready) {m : Marker} (hpass : s.framesPass e = true) (hcrc : m.crc = crc8 (markerSymbols m))
    (hp : s.lace.parent = some e.val) (hn : s.tickNumber 0 ≤ m.epoch.toNat) :
    exec (.epochMarker e m) s = .next ((s.markerTaken e m).markerPassed (s.eye e).delay m) := by
  have hnew : (s.lace.parent != some e.val || decide (m.epoch.toNat < s.tickNumber 0)) = false := by
    rw [hp, bne_self_eq_false, Bool.false_or, decide_eq_false (Nat.not_lt.2 hn)]
  rw [exec_epochMarker_of_ready h, runEpochMarker]
  dsimp only
  rw [hpass, if_neg (by decide), if_neg (by simp [hcrc]), hnew, if_neg Bool.false_ne_true]
  rfl

/-- A marker with a number below the unit's own next one is as if not received (R364). -/
theorem exec_epochMarker_of_old (h : s.ready) {m : Marker} (hcrc : m.crc = crc8 (markerSymbols m)) (hn : m.epoch.toNat < s.tickNumber 0) :
    exec (.epochMarker e m) s = .next s := by
  rw [exec_epochMarker_of_ready h, runEpochMarker]
  dsimp only
  split
  · rfl
  · rw [if_neg (by simp [hcrc]), decide_eq_true hn, Bool.or_true, if_pos rfl]

/-- A marker whose CRC-8 fails is counted (R358). -/
theorem exec_epochMarker_of_bad (h : s.ready) {m : Marker} (hpass : s.framesPass e = true) (hcrc : m.crc ≠ crc8 (markerSymbols m)) :
    exec (.epochMarker e m) s = .next (s.modEye e fun x => { x with crc := x.crc + 1 }) := by
  rw [exec_epochMarker_of_ready h, runEpochMarker]
  dsimp only
  rw [hpass, if_neg (by decide), if_pos (by simpa using hcrc)]

theorem State.tickNumber_of_unraised (h : s.lace.raiseTo = none) (k : Nat) : s.tickNumber k = s.led.epoch + k := by
  rw [State.tickNumber, h]

/-- With the numbering as it stands, the tick with number n comes n minus the epoch's number ticks later (R363). -/
theorem State.markerAhead_of_unraised (h : s.lace.raiseTo = none) {n : Nat} (hlow : s.led.epoch ≤ n) (hhigh : n ≤ s.led.epoch + s.markerLead) :
    s.markerAhead n = n - s.led.epoch := by
  have hfind : (List.range (s.markerLead + 1)).find? (fun k => decide (n ≤ s.led.epoch + k)) = some (n - s.led.epoch) := by
    refine List.find?_range_eq_some.2 ⟨decide_eq_true (by omega), List.mem_range.2 (by omega), fun j hj => ?_⟩
    rw [decide_eq_false (by omega), Bool.not_false]
  simp only [State.markerAhead, State.tickNumber_of_unraised h, hfind, Option.getD_some, decide_eq_false (Nat.not_lt.2 hhigh), Bool.false_eq_true,
    if_false]

/-- A marker above the tick for which it comes raises the numbering (R364). -/
theorem State.markerTaken_raiseTo (e : Nat) (m : Marker) : (s.markerTaken e m).lace.raiseTo =
    if decide (s.tickNumber s.markerLead < m.epoch.toNat) then some m.epoch.toNat else s.lace.raiseTo := rfl

theorem State.markerTaken_raiseIn (e : Nat) (m : Marker) : (s.markerTaken e m).lace.raiseIn =
    if decide (s.tickNumber s.markerLead < m.epoch.toNat) then s.markerLead else s.lace.raiseIn := rfl

/-- What a valid marker may change. -/
theorem State.markerPassed_frame (d : Nat) (m : Marker) :
    (s.markerTaken e m).markerPassed d m =
      { s with tickAt := ((s.markerTaken e m).markerPassed d m).tickAt,
               lace := ((s.markerTaken e m).markerPassed d m).lace,
               freeCtr := ((s.markerTaken e m).markerPassed d m).freeCtr } := by
  rw [State.markerPassed_only]
  rfl

/-! The loss of the parent (R381, R382). -/

/-- The parent goes, with the completions that wait for it (R382). -/
def State.cutOff (s : State) (e : Nat) : State :=
  let x := s.eye e
  let n := (s.pipe.done.filter fun c => c.cls == 3).length + cplCount x.txQ + cplCount (x.unacked.map (·.2))
  let s := s.modPipe fun p => { p with done := p.done.filter fun c => c.cls != 3 }
  let s := s.modEye e fun x => { x with txQ := x.txQ.filter (fun f => f.kind != .cpl), unacked := x.unacked.filter fun f => f.2.kind != .cpl }
  s.modLace fun l =>
    { l with parent := none, formerSlot := if l.mySlot = 0 then l.formerSlot else l.mySlot, mySlot := 0, joining := none, refused := false,
             hop := 255, relays := [], cplDrop := satAdd 0xFFFF l.cplDrop n }

theorem State.energyEnd_of_none {t : State} (h : t.lace.energy = none) (named : Bool) : t.energyEnd named = t := by
  rw [State.energyEnd, h]
  rfl

theorem State.loseParent_of_parent {p : Nat} (hp : s.lace.parent = some p) (hen : s.lace.energy = none) :
    s.loseParent = ((s.cutOff p).assertSrc 332 0).helloAll := by
  have hnone : ((s.cutOff p).assertSrc 332 0).lace.energy = none := by rw [State.assertSrc_lace]; exact hen
  rw [State.loseParent, hp]
  exact congrArg State.helloAll (State.energyEnd_of_none hnone true)

theorem State.helloOut_only (s : State) (e : Nat) : s.helloOut e = { s with lace := { s.lace with eyes := (s.helloOut e).lace.eyes } } := by
  rw [State.helloOut]
  split <;> rfl

/-- HELLOs change the eyelets alone (R356). -/
theorem State.helloAll_only (s : State) : s.helloAll = { s with lace := { s.lace with eyes := s.helloAll.lace.eyes } } := by
  rw [State.helloAll]
  generalize List.range 4 = l
  induction l generalizing s with
  | nil => rfl
  | cons e l ih =>
    rw [List.foldl_cons, ih, State.helloOut_only s e]

theorem State.helloAll_lace (s : State) : s.helloAll.lace = { s.lace with eyes := s.helloAll.lace.eyes } :=
  (congrArg State.lace (State.helloAll_only s) :)

theorem State.helloAll_src (s : State) (n : Nat) : s.helloAll.src n = s.src n := (congrArg (fun t => State.src t n) (State.helloAll_only s) :)

theorem State.helloAll_outside (s : State) : s.helloAll.outside = { s.outside with lace := s.helloAll.lace } := by
  conv_lhs => rw [State.helloAll_only s, ← State.helloAll_lace s]
  rfl

section
variable {p : Nat} (hp : s.lace.parent = some p) (hen : s.lace.energy = none)
include hp hen

theorem State.loseParent_lace : s.loseParent.lace = { (s.cutOff p).lace with eyes := s.loseParent.lace.eyes } := by
  rw [State.loseParent_of_parent hp hen]
  conv_lhs => rw [State.helloAll_lace, State.assertSrc_lace]

/-- FS332 asserts with the loss (R381). -/
theorem State.loseParent_line : (s.loseParent.src 332).line = true := by
  rw [State.loseParent_of_parent hp hen, State.helloAll_src, State.assertSrc_line _ _ _ (by decide)]

theorem State.loseParent_outside : s.loseParent.outside = { s.outside with lace := s.loseParent.lace } := by
  rw [State.loseParent_of_parent hp hen, State.helloAll_outside, State.assertSrc_outside]
  rfl

end

theorem exec_parentLost_of_run (h : s.ready) (hm : s.glb.mode = .run) :
    exec .parentLost s = .next (if decide (3 ≤ s.lace.noMarker) then s.loseParent else s) := by
  rw [show exec .parentLost s = _ from State.arrive_runs h.1 _ _, runParentLost, hm]
  rfl

end

end Sys2Proof.Machine
end

section
/-! PROOFS. O37: operations, completions, sets and mirrors over the Lace (R107, R357, R369 to R384, R536), and the settled statement. -/

namespace Sys2Proof.Machine

section
variable {s : State} {e : Fin 4}

/-- The request that an OP frame brings to a member (R357, R360). -/
def opRequest (ws : Words4) (otag : BitVec 10) : Req :=
  { Req.ofWords ws.w0 ws.w1 ws.w2 ws.w3 with
    ep := liOf (Req.ofWords ws.w0 ws.w1 ws.w2 ws.w3).ep, cls := 3, bnd := false, tree := (Req.ofWords ws.w0 ws.w1 ws.w2 ws.w3).bnd,
    fep := liOf (Req.ofWords ws.w0 ws.w1 ws.w2 ws.w3).ep, otag := otag.toNat }

/-- A member's own operation waits at port 3 (R360, R380). -/
theorem exec_op_of_mine (h : s.ready) {dst : Fin 64} (ws : Words4) (otag : BitVec 10) (hpass : s.framesPass e = true) (hp : s.lace.parent = some e.val)
    (hdst : dst.val = s.lace.mySlot) (hgh : s.isGroupHead = false) :
    exec (.op e dst ws otag) s = .next ((s.recvFrame e .op).offer 3 [opRequest ws otag]) := by
  have hmine : ¬ dst.val ≠ (s.recvFrame e .op).lace.mySlot := not_not_intro hdst
  have hmember : (s.recvFrame e .op).isGroupHead = false := hgh
  rw [show exec (.op e dst ws otag) s = _ from State.arrive_runs h.1 _ _, runOp, State.takes_from_parent .op hpass hp]
  dsimp only
  rw [if_neg (by decide), if_neg hmine, hmember]
  rfl

/-- Frames that go the other way are not taken (R354). -/
theorem exec_op_of_other (h : s.ready) (dst : Fin 64) (ws : Words4) (otag : BitVec 10) (hpass : s.framesPass e = true) (hp : s.lace.parent ≠ some e.val) :
    exec (.op e dst ws otag) s = .next s := by
  rw [show exec (.op e dst ws otag) s = _ from State.arrive_runs h.1 _ _, runOp, State.takes_from_other .op hpass hp]
  rfl

theorem exec_cpl_of_parent (h : s.ready) (ws : Words4) (otag : BitVec 10) (hpass : s.framesPass e = true) (hp : s.lace.parent = some e.val) :
    exec (.cpl e ws otag) s = .next s := by
  rw [show exec (.cpl e ws otag) s = _ from State.arrive_runs h.1 _ _, runCpl, State.takes_from_parent .cpl hpass hp]
  rfl

theorem exec_mirror_of_other (h : s.ready) (m : MirrorFrame) (hpass : s.framesPass e = true) (hp : s.lace.parent ≠ some e.val) :
    exec (.mirror e m) s = .next s := by
  rw [show exec (.mirror e m) s = _ from State.arrive_runs h.1 _ _, runMirror, State.takes_from_other .mirror hpass hp]
  rfl

/-- A domain head counts a completion for no operation (R107). -/
theorem exec_cpl_of_none (h : s.ready) (ws : Words4) {otag : BitVec 10} (hpass : s.framesPass e = true) (hp : s.lace.parent ≠ some e.val)
    (hd : s.isDomainHead = true) (hnone : s.slotAt otag.toNat = none) :
    exec (.cpl e ws otag) s = .next (s.recvFrame e .cpl).countLate := by
  have hhead : (s.recvFrame e .cpl).isDomainHead = true := hd
  have hfree : (s.recvFrame e .cpl).slotAt otag.toNat = none := hnone
  rw [show exec (.cpl e ws otag) s = _ from State.arrive_runs h.1 _ _, runCpl, State.takes_from_other .cpl hpass hp]
  dsimp only
  rw [if_neg (by decide), hhead, if_neg (by decide), hfree]
  dsimp only
  rw [State.remoteDone, hfree]

/-- A relay frees the relay slot of a completion that it passes up (R360). -/
theorem exec_cpl_of_relay (h : s.ready) (ws : Words4) (otag : BitVec 10) (hpass : s.framesPass e = true) (hp : s.lace.parent = none)
    (hd : s.isDomainHead = false) :
    exec (.cpl e ws otag) s = .next ((s.recvFrame e .cpl).modLace fun l => { l with relays := l.relays.erase (otag.toNat, e.val) }) := by
  have hmember : (s.recvFrame e .cpl).isDomainHead = false := hd
  have hother : s.lace.parent ≠ some e.val := by rw [hp]; exact nofun
  rw [show exec (.cpl e ws otag) s = _ from State.arrive_runs h.1 _ _, runCpl, State.takes_from_other .cpl hpass hother]
  dsimp only
  rw [if_neg (by decide), hmember, if_pos (by decide)]
  exact congrArg Host.Outcome.next (State.relay_cpl_of_none (s := s.recvFrame e .cpl) hp rfl)

/-! Sets of a slot (R369, R374, R375). -/

theorem exec_delta_of_head (h : s.ready) (src : Fin 64) (d : DeltaFrame) (hpass : s.framesPass e = true) (hp : s.lace.parent ≠ some e.val)
    (hd : s.isDomainHead = true) :
    exec (.delta e src d) s = .next ((s.recvFrame e .delta).stageDelta src d) := by
  have hhead : (s.recvFrame e .delta).isDomainHead = true := hd
  rw [show exec (.delta e src d) s = _ from State.arrive_runs h.1 _ _, runDelta, State.takes_from_other .delta hpass hp]
  dsimp only
  rw [if_neg (by decide), hhead, if_neg (by decide)]

/-- A set of a slot that is not in use is not stored (R369). -/
theorem State.stageDelta_of_unused {sl : Nat} (d : DeltaFrame) (hst : (s.slotRec sl).st = .free ∨ (s.slotRec sl).st = .unreachable) :
    s.stageDelta sl d = s := by
  rw [State.stageDelta]
  rcases hst with hst | hst <;> rw [hst] <;> rfl

/-- A whole set of a counted slot, with nothing staged before it, is staged and delivers its epoch (R374, R375). -/
theorem State.stageDelta_of_counted {sl : Nat} {d : DeltaFrame} (hst : (s.slotRec sl).st = .counted) (hlast : d.last = true) (hfull : d.full = false)
    (hparked : d.parked = false) (hstaged : s.lace.staged = []) :
    s.stageDelta sl d =
      (s.modLace fun l => { l with staged := [(sl, d.epoch.toNat, true, d.recs.map fun x => (x.1.val, Entry.ofWords x.2))] }).modSlot sl fun x =>
        { x with ep := d.epoch.toNat, counts := x.deliveredBy s.cyc,
                 coming := x.coming.filter (fun y => decide (s.cyc < y.2)) ++ [(d.epoch.toNat, s.cyc + (d.recs.length + 3) / 4 + 16)] } := by
  rw [State.stageDelta]
  dsimp only
  rw [hst, hlast, hfull, hparked, hstaged]
  simp only [Bool.not_true, Bool.false_eq_true, if_false, Bool.and_false, List.find?_nil, List.nil_append, if_true, List.length_map]
  rw [State.modLace, hstaged]
  rfl

/-! Mirrors and ring bytes (R384, R536). -/

theorem exec_mirror_of_standby (h : s.ready) {m : MirrorFrame} (hpass : s.framesPass e = true) (hp : s.lace.parent = some e.val)
    (hr : s.glb.role = 2) (hlast : m.last = true) :
    exec (.mirror e m) s = .next ((s.recvFrame e .mirror).modLace fun l =>
      { l with shadow := m.recs.foldl (fun t x => t.set {} x.1.val (Entry.ofWords x.2)) l.shadow,
               shadowSlots := m.slots.foldl (fun t x => t.set none x.1.val (some (presOfCode x.2.1.val m.epoch.toNat, x.2.2))) l.shadowSlots,
               mirrorEpoch := if m.slots.isEmpty then some m.epoch.toNat else l.mirrorEpoch }) := by
  have hstandby : ((s.recvFrame e .mirror).glb.role != 2) = false := by rw [show (s.recvFrame e .mirror).glb.role = 2 from hr]; rfl
  rw [show exec (.mirror e m) s = _ from State.arrive_runs h.1 _ _, runMirror, State.takes_from_parent .mirror hpass hp]
  dsimp only
  rw [if_neg (by decide), hstandby, if_neg Bool.false_ne_true, hlast]
  rfl

theorem exec_bulk_of_ring (h : s.ready) (src : Fin 64) (ofs : Nat) (d : List Byte) (hpass : s.framesPass e = true) (hp : s.lace.parent ≠ some e.val)
    (hd : s.isDomainHead = true) :
    exec (.bulk e src { kind := 1, ofs := ofs, data := d }) s = .next ((s.recvFrame e .bulk).remReceive d) := by
  have hhead : (s.recvFrame e .bulk).isDomainHead = true := hd
  have hdown : ((s.recvFrame e .bulk).lace.parent == some e.val) = false := beq_false_of_ne hp
  rw [show exec (.bulk e src _) s = _ from State.arrive_runs h.1 _ _, runBulk, hpass]
  dsimp only
  rw [if_neg (by decide), hdown]
  exact congrArg Host.Outcome.next (if_pos hhead)

end

/-- Settles O37, clause by clause. -/
theorem framesMarkersAndOperationsPass : Obligations.FramesMarkersAndOperationsPass := by
  unfold Obligations.FramesMarkersAndOperationsPass
  refine ⟨fun s e h hm => ⟨fun p f hpass hf hp hpe hup hq hmay => ?relayed, fun f hpass => ?dropped,
      fun hd hl => ⟨_, exec_markerSend_of_head h hm hd hl, ?announced⟩,
      exec_markerSend_of_member h, fun m hpass hcrc hp hraise hlow hhigh _ => ?taken, fun m hpass hcrc hp hnew hfar => ?raised,
      fun m => exec_epochMarker_of_old h, fun m => exec_epochMarker_of_bad h, fun hlate hp hen => ?orphaned, fun hsoon => ?kept⟩,
    fun s e h hpass => ⟨fun dst ws otag hp hdst hgh => ⟨_, exec_op_of_mine h ws otag hpass hp hdst hgh, ?mine⟩,
      fun dst ws otag => exec_op_of_other h dst ws otag hpass, fun ws otag => exec_cpl_of_parent h ws otag hpass,
      fun ws otag hd hp hnone => ⟨_, exec_cpl_of_none h ws hpass hp hd hnone, rfl, State.recvFrame_rxSeq s e .cpl, rfl⟩,
      fun ws otag hd hp => ⟨_, exec_cpl_of_relay h ws otag hpass hp hd, rfl, rfl⟩,
      fun src d hd hp hst hlast hfull hparked hstaged => ⟨_, exec_delta_of_head h src d hpass hp hd, ?set⟩,
      fun src d hd hp hst => ⟨_, exec_delta_of_head h src d hpass hp hd, ?unused⟩,
      fun m hp hr hlast => ⟨_, exec_mirror_of_standby h hpass hp hr hlast, ?mirrored⟩, fun m => exec_mirror_of_other h m hpass,
      fun src ofs d hp hd => ⟨_, exec_bulk_of_ring h src ofs d hpass hp hd, rfl, State.recvFrame_rxSeq s e .bulk, rfl⟩⟩⟩
  case relayed =>
    have hne : p.val ≠ e.val := fun heq => hpe (Fin.ext heq)
    have heye : (s.setSeen e f).eye p = s.eye p := by rw [State.setSeen_eye, State.recvFrame_eye_ne _ _ _ hne]
    have hleft := State.sendFrame_eye_of_credit (s := s.setSeen e f) (e := p) (f := f) (by rw [heye, hup]) (by rw [heye, hq]) (by rw [heye, hmay])
    rw [heye] at hleft
    refine ⟨_, exec_frameForward_of_set h hpass hf hp hne, ?_, ?_, ?_, ?_, ?_, State.only_lace_trans (State.setSeen_only e f) (State.sendFrame_only ..)⟩
    · rw [hleft]; rfl
    · rw [hleft]; rfl
    · rw [hleft]; exact hq
    · rw [State.sendFrame_eye_ne _ _ (Ne.symm hne), State.setSeen_eye, State.recvFrame_rxSeq]
    · rw [State.sendFrame_eye_ne _ _ (Ne.symm hne), State.setSeen_eye, State.recvFrame_nak]
  case dropped => rw [exec_frameForward_of_ready h, State.takes_of_not_passing _ hpass]; rfl
  case announced => exact ⟨rfl, rfl, ⟨_, rfl, rfl, rfl, rfl, rfl, rfl⟩, rfl⟩
  case taken =>
    have hold : s.tickNumber 0 ≤ m.epoch.toNat := by rw [State.tickNumber_of_unraised hraise]; exact hlow
    have hnear : decide (s.tickNumber s.markerLead < m.epoch.toNat) = false := by
      rw [State.tickNumber_of_unraised hraise]; exact decide_eq_false (Nat.not_lt.2 hhigh)
    refine ⟨_, exec_epochMarker_of_valid h hpass hcrc hp hold, ?_, ?_, ?_, ?_, ?_, ?_, State.markerPassed_frame ..⟩
    · rw [State.markerPassed_only, ← State.markerAhead_of_unraised hraise hlow hhigh]; rfl
    · rw [State.markerPassed_only]; rfl
    · rw [State.markerPassed_only]; rfl
    · rw [State.markerPassed_only]; rfl
    · rw [State.markerPassed_only]; rfl
    · rw [State.markerPassed_only]
      show (s.markerTaken e m).lace.raiseTo = none
      rw [State.markerTaken_raiseTo, hnear, if_neg Bool.false_ne_true, hraise]
  case raised =>
    refine ⟨_, exec_epochMarker_of_valid h hpass hcrc hp hnew, ?_, ?_, ?_, State.markerPassed_frame ..⟩
    · rw [State.markerPassed_only]
      exact (State.markerTaken_raiseTo e m).trans (if_pos (decide_eq_true hfar))
    · rw [State.markerPassed_only]
      exact (State.markerTaken_raiseIn e m).trans (if_pos (decide_eq_true hfar))
    · rw [State.markerPassed_only]; rfl
  case orphaned =>
    refine ⟨_, (exec_parentLost_of_run h hm).trans (congrArg _ (if_pos (decide_eq_true hlate))), ?_⟩
    refine ⟨?_, ?_, ?_, ?_, State.loseParent_line hp hen, State.loseParent_outside hp hen⟩ <;> rw [State.loseParent_lace hp hen] <;> rfl
  case kept => rw [exec_parentLost_of_run h hm, decide_eq_false (Nat.not_le.2 hsoon)]; rfl
  case mine =>
    have hlace := State.offer_lace (port := 3) (by decide) (s.recvFrame e .op) [opRequest ws otag]
    have heye : (((s.recvFrame e .op).offer 3 [opRequest ws otag]).eye e) = (s.recvFrame e .op).eye e := by
      rw [State.eye, hlace]; rfl
    refine ⟨State.offer_mem .., ?_, ?_, State.only_lace_pipe (State.recvFrame_only s e .op) (State.offer_only (by decide) ..)⟩
    · rw [heye, State.recvFrame_rxSeq]
    · rw [heye, State.recvFrame_opRcvd]
  case set =>
    have hset := State.stageDelta_of_counted (s := s.recvFrame e .delta) (d := d) hst hlast hfull hparked hstaged
    rw [hset]
    refine ⟨rfl, ?_, fun k hk => ?_,
      State.only_lace_trans (State.only_lace_trans (State.recvFrame_only s e .delta) (State.modLace_only ..)) (State.modSlot_only ..)⟩
    · rw [State.modSlot_slotRec]; rfl
    · rw [State.modSlot_slotRec_at, if_neg (Ne.symm hk)]; rfl
  case unused =>
    have hset := State.stageDelta_of_unused (s := s.recvFrame e .delta) d hst
    rw [hset]
    exact ⟨rfl, rfl, rfl⟩
  case mirrored =>
    refine ⟨?_, fun hrecs => ?_, fun x hrecs => ?_, rfl⟩
    · rw [State.modLace_lace]
      cases m.slots <;> rfl
    · rw [State.modLace_lace, hrecs]; rfl
    · rw [State.modLace_lace, hrecs]
      exact Tbl.get_set_same ..

end Sys2Proof.Machine
end

section
/-! PROOFS. O21: an overload is named by the source of its phase, FS(2p + 1) (R141), a number below 96 that the statement takes modulo 48. -/

namespace Sys2Proof.Machine

/-- Rail 0 with its one phase, phase 24, both ON. -/
def railOfPhase24 : State :=
  { img := [(0x021180, 0x80000000#32)], glb := { mode := .run }, tickAt := 16,
    led := { epoch := 5, pubEpoch := 4, cur := [(0, { st := .on }), (0x58, { st := .on })] } }

/-- A persistent limit of the phase is an overload of the rail, and FS49 names it. -/
theorem railOfPhase24_overload_named :
    ((railOfPhase24.after (exec (.persistentCurrentLimit 24 1) railOfPhase24)).rail 0).overload = some 49 := by
  decide +kernel

/-- Refutes O21: in the clause of the overload (R141) the source is `some (2 * p + 1)` with p in `Fin 48`, so that it wraps at 48 and
phase 24 would be named by source 1. The model gives FS49, as the rule asks. -/
theorem not_phaseFaultsAct : ¬ Obligations.PhaseFaultsAct := by
  unfold Obligations.PhaseFaultsAct
  intro h
  have hready : railOfPhase24.ready := ⟨⟨rfl, rfl, rfl, rfl⟩, rfl⟩
  obtain ⟨-, -, hoverload, -⟩ := h railOfPhase24 24 hready (by decide)
  obtain ⟨t, ht, -, hwrapped, -⟩ := hoverload 1 (by decide) (by decide) (by decide) (by decide) (by decide) (by decide) (by decide)
  have hnamed := railOfPhase24_overload_named
  rw [ht] at hnamed
  have hsource : some 49 = some ((2 * 24 + 1 : Fin 48) : Nat) := hnamed.symm.trans hwrapped
  exact absurd hsource (by decide)

end Sys2Proof.Machine
end

section
/-! PROOFS. O25: a loop sample moves the reference, makes one update of the compensator and lets the trace buffers take it (R179 to
R199, R207 to R211); the commands of the trace buffers; LOOP_SAT_CLR. -/

namespace Sys2Proof.Machine

/-! The limits of the image hold the integrator and the demand (R191 to R194). -/

theorem le_clampInt (lo hi x : Int) : lo ≤ clampInt lo hi x := le_max_left ..

theorem clampInt_le {lo hi : Int} (h : lo ≤ hi) (x : Int) : clampInt lo hi x ≤ hi := max_le h (min_le_left ..)

theorem clampInt_of_within {lo hi x : Int} (hlo : lo ≤ x) (hhi : x ≤ hi) : clampInt lo hi x = x := by
  rw [clampInt, min_eq_right hhi, max_eq_right hlo]

section
variable {c : LatheCfg} {st : LoopSt} {senses : List Nat} {lm hw : Bool} {vref : Nat} {acc dr xff : Int}

/-- The integrator of an update stands within its limits (R192). -/
theorem latheStep_integ_within (h : c.iMin ≤ c.iMax) :
    c.iMin ≤ (latheStep c st senses lm hw vref acc dr xff).integ ∧ (latheStep c st senses lm hw vref acc dr xff).integ ≤ c.iMax :=
  ⟨le_clampInt .., clampInt_le h _⟩

/-- So does its demand (R194). -/
theorem latheStep_w_within (h : c.wMin ≤ c.wMax) :
    c.wMin ≤ (latheStep c st senses lm hw vref acc dr xff).w ∧ (latheStep c st senses lm hw vref acc dr xff).w ≤ c.wMax :=
  ⟨le_clampInt .., clampInt_le h _⟩

/-- An over-voltage action, a short or a discharge holds an integrator that is within its limits (R191). -/
theorem latheStep_integ_of_held (hlo : c.iMin ≤ st.integ) (hhi : st.integ ≤ c.iMax) (hneg : -2147483648 ≤ st.integ)
    (hpos : st.integ ≤ 2147483647) : (latheStep c st senses lm true vref acc dr xff).integ = st.integ := by
  have hheld : (latheStep c st senses lm true vref acc dr xff).integ = clampInt c.iMin c.iMax (sat32 st.integ) := rfl
  rw [hheld, sat32, clampInt_of_within hneg hpos, clampInt_of_within hlo hhi]

/-- Without decimation the error is the one conversion's limited code (R180, R181). -/
theorem latheStep_e_of_single (hdec : c.dec = 0) (v : Nat) :
    (latheStep c st [v] lm hw vref acc dr xff).e = 128 * limitCode (convCode vref v) := by
  change ((([v].take (2 ^ c.dec)).map (convCode vref)).map limitCode).foldl (· + ·) 0 * 2 ^ (7 - c.dec) = _
  rw [hdec]
  change (0 + limitCode (convCode vref v)) * 128 = _
  omega

end

/-! The reference (R196 to R199). -/

/-- The reference moves by at most its step (R197). -/
theorem stepToward_dist_le (acc target : Int) (n : Nat) : (stepToward acc target (some n) - acc).natAbs ≤ n := by
  unfold stepToward
  dsimp only
  split
  · assumption
  · split <;> omega

/-- What a rail regulates to: the accumulator, its target and the target that waits for the next sample (R196, R199). -/
def Rail.reference (x : Rail) : Int × Int × Option Int := (x.acc, x.target, x.newTarget)

/-- A target that came before this core cycle is taken at the sample (R199). -/
theorem State.moveRef_of_taken {s : State} {r : Nat} (h : (s.rail r).newTarget = none ∨ (s.rail r).newCyc ≠ s.cyc) :
    ((s.moveRef r).rail r).reference = (stepToward (s.rail r).acc ((s.rail r).newTarget.getD (s.rail r).target) (s.refStep r),
      (s.rail r).newTarget.getD (s.rail r).target, none) := by
  simp only [State.moveRef, State.modRail_rail, Rail.reference]
  cases hnew : (s.rail r).newTarget with
  | none => rfl
  | some g =>
    have hcyc : (s.rail r).newCyc ≠ s.cyc := h.resolve_left (by simp [hnew])
    simp [hcyc]

/-- A target of the sample's own core cycle waits for the next one (R179, R199). -/
theorem State.moveRef_of_waiting {s : State} {r : Nat} (h : (s.rail r).newCyc = s.cyc) :
    ((s.moveRef r).rail r).reference =
      (stepToward (s.rail r).acc (s.rail r).target (s.refStep r), (s.rail r).target, (s.rail r).newTarget) := by
  simp [State.moveRef, Rail.reference, h]

theorem State.moveRef_rail_ne (s : State) {r q : Nat} (h : q ≠ r) : (s.moveRef r).rail q = s.rail q :=
  State.modRail_rail_ne s r _ q h

/-- The window comparators leave the reference as it is. -/
theorem State.windows_reference (s : State) (r v : Nat) : ((s.windows r v).rail r).reference = (s.rail r).reference := by
  simp [State.windows, Rail.reference]

theorem State.windows_rail_ne (s : State) {r q : Nat} (v : Nat) (h : q ≠ r) : (s.windows r v).rail q = s.rail q :=
  State.modRail_rail_ne s r _ q h

/-! The trace buffers (R207 to R211). -/

theorem State.only_traces_trans {s t u : State} (ht : t = { s with traces := t.traces }) (hu : u = { t with traces := u.traces }) :
    u = { s with traces := u.traces } := by
  rw [hu, ht]

/-- Steps that each change the trace buffers alone change them alone together. -/
theorem State.foldl_only_traces {α : Type} {f : State → α → State} (h : ∀ t a, f t a = { t with traces := (f t a).traces })
    (l : List α) (s : State) : l.foldl f s = { s with traces := (l.foldl f s).traces } :=
  List.foldlRecOn (motive := fun t => t = { s with traces := t.traces }) l f rfl fun t ht a _ => State.only_traces_trans ht (h t a)

/-- A loop sample changes nothing beyond the trace buffers by being recorded. -/
theorem State.traceSample_only (s : State) (r : Nat) (limOn : Bool) :
    s.traceSample r limOn = { s with traces := (s.traceSample r limOn).traces } :=
  State.only_traces_trans (State.foldl_only_traces (fun _ _ => rfl) _ s) (State.foldl_only_traces (fun _ _ => rfl) _ _)

theorem State.trcArm_trace_at (s : State) (b j : Nat) : (s.trcArm b).trace j = if j = b then { st := .armed } else s.trace j := by
  rw [State.trcArm, State.modTrace_trace_at]
  simp only [eq_comm]

theorem State.trcForce_trace_at (s : State) (b j : Nat) :
    (s.trcForce b).trace j = if j = b ∧ (s.trace j).st = .armed then { s.trace j with force := true } else s.trace j := by
  unfold State.trcForce
  split
  next harmed =>
    rw [State.modTrace_trace_at]
    by_cases hj : j = b
    · subst hj; simp [harmed]
    · simp [hj, Ne.symm hj]
  next hidle =>
    rw [if_neg]
    rintro ⟨rfl, harmed⟩
    exact hidle harmed

theorem State.trcForce_only (s : State) (b : Nat) : s.trcForce b = { s with traces := (s.trcForce b).traces } := by
  unfold State.trcForce
  split <;> rfl

/-- A group write that changes buffer b by g b alone, for each of the first n buffers. -/
theorem State.foldl_range_trace {f : State → Nat → State} {g : Nat → Trace → Trace}
    (h : ∀ t b j, (f t b).trace j = if j = b then g j (t.trace j) else t.trace j) (s : State) (n j : Nat) :
    ((List.range n).foldl f s).trace j = if j < n then g j (s.trace j) else s.trace j := by
  induction n with
  | zero => rfl
  | succ n ih =>
    rw [List.range_succ, List.foldl_append, List.foldl_cons, List.foldl_nil, h, ih]
    rcases Nat.lt_trichotomy j n with hj | rfl | hj
    · rw [if_neg hj.ne, if_pos hj, if_pos (Nat.lt_succ_of_lt hj)]
    · simp
    · rw [if_neg hj.ne', if_neg hj.not_gt, if_neg (by omega)]

/-- The rails stay as they are while the trace buffers take a sample. -/
theorem State.traceSample_rail (s : State) (r : Nat) (limOn : Bool) (q : Nat) : (s.traceSample r limOn).rail q = s.rail q :=
  (congrArg (State.rail · q) (State.traceSample_only s r limOn) :)

/-- So do their loops. -/
theorem State.traceSample_loopSt (s : State) (r : Nat) (limOn : Bool) (q : Nat) : (s.traceSample r limOn).loopSt q = s.loopSt q :=
  (congrArg (State.loopSt · q) (State.traceSample_only s r limOn) :)

/-! The loop sample (R180 to R200). -/

/-- A change of the rails, their loops and the trace buffers behind another one. -/
theorem State.only_lathe_trans {s t u : State} (ht : t = { s with rails := t.rails, lathe := t.lathe, traces := t.traces })
    (hu : u = { t with rails := u.rails, lathe := u.lathe, traces := u.traces }) :
    u = { s with rails := u.rails, lathe := u.lathe, traces := u.traces } := by
  rw [hu, ht]

theorem State.only_lathe_of_only_traces {s t : State} (h : t = { s with traces := t.traces }) :
    t = { s with rails := t.rails, lathe := t.lathe, traces := t.traces } := by
  rw [h]

theorem State.moveRef_only (s : State) (r : Nat) :
    s.moveRef r = { s with rails := (s.moveRef r).rails, lathe := (s.moveRef r).lathe, traces := (s.moveRef r).traces } := rfl

/-- What a loop sample of rail r leaves: the reference has moved, the loop of a rail below 32 has made one update against the
reference as it stood before, and beside the rail, its loop and the trace buffers nothing has changed. -/
structure State.Sampled (s : State) (r : Nat) (inp : LoopIn) (t : State) : Prop where
  reference : (t.rail r).reference = ((s.moveRef r).rail r).reference
  others : ∀ q, q ≠ r → t.rail q = s.rail q ∧ t.loopSt q = s.loopSt q
  update : r < 32 → ∃ lm acc dr xff, t.loopSt r = latheStep ((s.moveRef r).latheCfg r) (s.loopSt r) inp.senses lm
    ((s.rail r).ovHw || (s.rail r).short || (s.rail r).disch) (s.rail r).vref acc dr xff
  railsOnly : 32 ≤ r → t = { s with rails := t.rails }
  only : t = { s with rails := t.rails, lathe := t.lathe, traces := t.traces }

/-- An LDO's sample moves its reference and looks at its output. -/
theorem State.sampled_of_ldo (s : State) {r : Nat} (inp : LoopIn) (hr : 32 ≤ r) (v : Nat) :
    s.Sampled r inp ((s.moveRef r).windows r v) where
  reference := State.windows_reference ..
  others _ hq := ⟨(State.windows_rail_ne _ v hq).trans (State.moveRef_rail_ne s hq), rfl⟩
  update hlt := absurd hr hlt.not_ge
  railsOnly _ := rfl
  only := rfl

/-- The sample of a rail with a slot of the Lathe (R183) moves its reference, makes the update, looks at the output, reports in the
rail and is taken by the trace buffers. -/
theorem State.sampled_of_slot (s : State) {r : Nat} {inp : LoopIn} (hr : r < 32) (v : Nat) {update : LoopSt → LoopSt} {report : Rail → Rail}
    {limOn : Bool}
    (hupdate : ∃ lm acc dr xff, update (s.loopSt r) = latheStep ((s.moveRef r).latheCfg r) (s.loopSt r) inp.senses lm
      ((s.rail r).ovHw || (s.rail r).short || (s.rail r).disch) (s.rail r).vref acc dr xff)
    (hreport : ∀ x, (report x).reference = x.reference) :
    s.Sampled r inp (((((s.moveRef r).modLoopSt r update).windows r v).modRail r report).traceSample r limOn) where
  reference := by
    rw [State.traceSample_rail, State.modRail_rail, hreport, State.windows_reference, State.modLoopSt_rail_keep]
  others q hq := by
    rw [State.traceSample_rail, State.traceSample_loopSt, State.modRail_rail_ne _ _ _ _ hq, State.windows_rail_ne _ _ hq]
    exact ⟨State.moveRef_rail_ne s hq, State.modLoopSt_loopSt_ne _ _ _ _ hq⟩
  update _ := by
    rw [State.traceSample_loopSt]
    exact hupdate.imp fun _ => .imp fun _ => .imp fun _ => .imp fun _ => (State.modLoopSt_loopSt (s.moveRef r) r update).trans
  railsOnly hle := absurd hr hle.not_gt
  only := State.only_lathe_trans (State.only_lathe_trans (State.only_lathe_trans (State.only_lathe_trans (State.moveRef_only s r) rfl) rfl) rfl)
    (State.only_lathe_of_only_traces (State.traceSample_only ..))

/-- A rail that regulates takes its sample while the lanes run (R186). -/
theorem exec_loopSample_of_ready {s : State} {r : Fin 40} (inp : LoopIn) (h : s.ready) (hrun : (s.rail r).running = true)
    (hst : s.isIn r [.starting, .on, .derated, .stopping] = true) : runsTo (.loopSample r inp) s (s.Sampled r inp) := by
  obtain ⟨⟨hhold, hsw, hgov, -⟩, hlive⟩ := h
  rw [runsTo, show exec (.loopSample r inp) s = execLoopSample r inp s from rfl, execLoopSample,
    if_neg (by simp [hhold, hsw, hgov, hlive, hrun, hst])]
  split
  next hldo => exact ⟨_, rfl, State.sampled_of_ldo s inp hldo _⟩
  next hslot => exact ⟨_, rfl, State.sampled_of_slot s (Nat.lt_of_not_le hslot) _ ⟨_, _, _, _, rfl⟩ fun _ => rfl⟩

/-! The commands of the trace buffers while the lanes run and the block governs (R209, R210). -/

section
variable {s : State} (hs : s.ready)
include hs

theorem exec_loopTrcArm_of_ready (b : Fin 16) : exec (.loopTrcArm b) s = .next (s.trcArm b) := by
  rw [show exec (.loopTrcArm b) s = _ from State.arrive_runs hs.1 _ _, runLoopTrcArm, if_pos hs.2]

theorem exec_loopTrcForce_of_ready (b : Fin 16) : exec (.loopTrcForce b) s = .next (s.trcForce b) := by
  rw [show exec (.loopTrcForce b) s = _ from State.arrive_runs hs.1 _ _, runLoopTrcForce, if_pos hs.2]

theorem exec_loopTrcStop_of_ready (b : Fin 16) : exec (.loopTrcStop b) s = .next (s.trcStop b) := by
  rw [show exec (.loopTrcStop b) s = _ from State.arrive_runs hs.1 _ _, runLoopTrcStop, if_pos hs.2]

theorem exec_loopSatClr_of_ready (r : Fin 32) : exec (.loopSatClr r) s = .next (s.modLoopSt r fun l => { l with satcnt := 0 }) := by
  rw [show exec (.loopSatClr r) s = _ from State.arrive_runs hs.1 _ _, runLoopSatClr, if_pos hs.2]

/-- A group write of arms empties the buffers of its mask alone. -/
theorem exec_loopTrcGarm_of_ready (mask : BitVec 16) : runsTo (.loopTrcGarm mask) s fun t =>
    (∀ b, b < 16 → t.trace b = if mask.getLsbD b then { st := .armed } else s.trace b) ∧ t = { s with traces := t.traces } := by
  rw [runsTo, show exec (.loopTrcGarm mask) s = _ from State.arrive_runs hs.1 _ _, runLoopTrcGarm, if_pos hs.2]
  refine ⟨_, rfl, fun b hb => ?_, State.foldl_only_traces (fun t b => by split <;> rfl) _ s⟩
  rw [State.foldl_range_trace (g := fun b x => if mask.getLsbD b then { st := .armed } else x), if_pos hb]
  intro t b j
  by_cases hj : j = b
  · subst hj; cases hbit : mask.getLsbD j <;> simp [State.trcArm_trace_at]
  · split <;> simp [State.trcArm_trace_at, hj]

/-- A group write of forces marks those buffers of its mask that are armed. -/
theorem exec_loopTrcGforce_of_ready (mask : BitVec 16) : runsTo (.loopTrcGforce mask) s fun t =>
    (∀ b, b < 16 → t.trace b = if mask.getLsbD b && (s.trace b).st == .armed then { s.trace b with force := true } else s.trace b) ∧
    t = { s with traces := t.traces } := by
  rw [runsTo, show exec (.loopTrcGforce mask) s = _ from State.arrive_runs hs.1 _ _, runLoopTrcGforce, if_pos hs.2]
  refine ⟨_, rfl, fun b hb => ?_, State.foldl_only_traces (fun t b => by split; exacts [State.trcForce_only t b, rfl]) _ s⟩
  rw [State.foldl_range_trace (g := fun b x => if mask.getLsbD b && x.st == .armed then { x with force := true } else x), if_pos hb]
  intro t b j
  by_cases hj : j = b
  · subst hj; cases hbit : mask.getLsbD j <;> simp [State.trcForce_trace_at]
  · split <;> simp [State.trcForce_trace_at, hj]

end

/-- Settles O25: the clauses of the loop sample follow from `State.Sampled` with the laws of the reference and of one update, those
of the trace buffers from what their commands are while the block governs. -/
theorem loopSamplesAndTraces : Obligations.LoopSamplesAndTraces := by
  unfold Obligations.LoopSamplesAndTraces
  refine ⟨fun s r inp hs hrun hst hnew => ?sample, fun s r inp g hs hrun hst hg hcyc => ?waiting, fun s hs => ?commands⟩
  case sample =>
    obtain ⟨t, ht, hsampled⟩ := exec_loopSample_of_ready inp hs hrun hst
    obtain ⟨hacc, htarget, hnone⟩ : _ ∧ _ ∧ _ := by
      simpa only [Rail.reference, Prod.mk.injEq] using hsampled.reference.trans (State.moveRef_of_taken hnew)
    refine ⟨t, ht, hacc, fun n hn => ?_, hnone, htarget, hsampled.others, fun hr hlim => ?_, fun hr hlim => ?_,
      fun hr hheld hlo hhi hneg hpos => ?_, fun hr hdec v hsense => ?_, hsampled.railsOnly, hsampled.only⟩
    · rw [hacc, hn]
      exact stepToward_dist_le ..
    all_goals obtain ⟨lm, acc, dr, xff, hupdate⟩ := hsampled.update hr
    · rw [hupdate]
      exact latheStep_w_within hlim
    · rw [hupdate]
      exact latheStep_integ_within hlim
    · rw [hupdate, hheld]
      exact latheStep_integ_of_held hlo hhi hneg hpos
    · rw [hupdate, hsense]
      exact latheStep_e_of_single hdec v
  case waiting =>
    obtain ⟨t, ht, hsampled⟩ := exec_loopSample_of_ready inp hs hrun hst
    obtain ⟨hacc, htarget, hnew⟩ : _ ∧ _ ∧ _ := by
      simpa only [Rail.reference, Prod.mk.injEq] using hsampled.reference.trans (State.moveRef_of_waiting hcyc)
    exact ⟨t, ht, hnew.trans hg, htarget, hacc⟩
  case commands =>
    refine ⟨exec_loopTrcArm_of_ready hs, fun b harmed => ?_, fun b hunarmed => ?_, fun b hruns => ?_, fun b hrests => ?_,
      exec_loopTrcGarm_of_ready hs, exec_loopTrcGforce_of_ready hs, exec_loopSatClr_of_ready hs⟩
    · rw [exec_loopTrcForce_of_ready hs, State.trcForce, if_pos harmed]
    · rw [exec_loopTrcForce_of_ready hs, State.trcForce, if_neg hunarmed]
    · rw [exec_loopTrcStop_of_ready hs, State.trcStop, if_pos hruns]
    · have hstops : ¬((s.trace b).st = .armed ∨ (s.trace b).st = .triggered) := by
        rcases hrests with h | h <;> simp [h]
      rw [exec_loopTrcStop_of_ready hs, State.trcStop, if_neg hstops]

end Sys2Proof.Machine
end

section
/-! PROOFS. O26: a power-up step that fails while a forced shutdown of R247 still waits forces the group's endpoints off. -/

namespace Sys2Proof.Machine

/-- Group 0 has three retries and waits for group 1 to be OFF, with a limit of 1 ms. A forced shutdown waits for the end of its step,
and rail 0, which its power-down program names, is ON. -/
def forcedWait : State :=
  { img := [(0x040000, 0x81804000#32), (0x042000, 0x30000111#32), (0x042020, 0x10400000#32), (0x042024, 0x1000#32)],
    glb := { mode := .run }, tickAt := 16,
    led := { epoch := 5, pubEpoch := 4, cur := [(0, { st := .on, ty := 1 }), (liGroup 0, { st := .starting })] },
    groups := [(0, { running := true, run := .waitGroup, ilForce := true })] }

/-- The time-out asks port 2 to stop the rail. -/
theorem forcedWait_timeout_offers : (forcedWait.after (exec (.waitTimeout 0) forcedWait)).pipe.offers.length = 1 := by
  decide +kernel

/-- Refutes O26: with `ilForce` set, the failure of the step also forces off the endpoints that run (R247), and their requests wait at
port 2. The statement's clause of the time-out ends that flag, asks nothing of it beforehand, and lets only the groups and the ledger
change. -/
theorem not_groupsStepAndRetry : ¬ Obligations.GroupsStepAndRetry := by
  unfold Obligations.GroupsStepAndRetry
  intro h
  have hready : forcedWait.ready := ⟨⟨rfl, rfl, rfl, rfl⟩, rfl⟩
  obtain ⟨-, hgroup⟩ := h
  obtain ⟨htimeout, -⟩ := hgroup forcedWait 0 hready
  obtain ⟨t, ht, -, -, -, -, hframe⟩ := htimeout rfl (.inl rfl) (by decide +kernel) (by decide +kernel) rfl rfl (by decide +kernel)
    (by decide) (by decide) (by decide)
  have hoffers := forcedWait_timeout_offers
  rw [ht, State.after_next, hframe] at hoffers
  exact Nat.zero_ne_one hoffers

end Sys2Proof.Machine
end

section
/-! PROOFS. O28: snapshots and their records, keep-alive crossings and power-fail (R246, R251 to R253, R305). -/

namespace Sys2Proof.Machine

/-! The snapshot in capture and in the ring (R251). -/

section
variable {s : State}

theorem State.snapWrite_of_none (h : s.seq.snap = none) : s.snapWrite = s := by
  rw [State.snapWrite, h]

/-- A capture that finds no record waiting takes the payload of the state as it stands. -/
theorem State.snapCapture_of_none (h : s.seq.snap = none) (cause : Nat) (forPf : Bool) (mv : SupplyMv) :
    s.snapCapture cause forPf mv = (s.storeMv mv).modSeq fun q =>
      { q with snapBusy := true, snap := some (s.snapPayload cause mv, forPf, s.led.epoch, s.rtc.frac.toNat, s.rtc.sec.toNat) } := by
  rw [State.snapCapture, State.snapWrite_of_none h]

/-- The record of a snapshot on command, as it goes to the ring. -/
def snapRecord (p : List Byte) (ep frac sec : Nat) : Record :=
  { ty := 4, pf := false, seq := 0, epoch := ep, frac := BitVec.ofNat 16 frac, sec := BitVec.ofNat 48 sec, payload := p, bad := false }

theorem State.snapWrite_of_command {p : List Byte} {ep frac sec : Nat} (h : s.seq.snap = some (p, false, ep, frac, sec)) :
    s.snapWrite = (s.ringWrite (snapRecord p ep frac sec) false).modSeq fun q => { q with snapBusy := false, snapCnt := q.snapCnt + 1, snap := none } := by
  rw [State.snapWrite, h]
  rfl

/-- The record written last stands at the ring's end, under the next SEQ and the power-fail bit of its writing (R519, R520). -/
theorem State.ringWrite_getLast? (s : State) (r : Record) (bad : Bool) :
    (s.ringWrite r bad).recd.ring.getLast? = some { r with seq := s.recd.seqNext, bad := bad, pf := s.seq.pf } :=
  List.getLast?_concat

end

/-! Power-fail (R47, R246). -/

section
variable (s : State)

theorem State.freezeLose_seq : s.freezeLose.seq = s.seq := by
  rw [State.freezeLose]
  split <;> rfl

theorem State.freezeLose_mram : s.freezeLose.mram = s.mram := by
  rw [State.freezeLose]
  split <;> rfl

/-- What power-fail does before the snapshot: both watermarks, the declaration and its count, and the gauge's content. -/
def State.powerFailBegun : State :=
  let t := s.wmWrite.modSeq fun q => { q with pf := true, pfCnt := satAdd 0xFFFF q.pfCnt 1 }
  if t.imb Img.gauUsed then t.gaugeStore else t

theorem State.powerFailBegun_seq : s.powerFailBegun.seq = { s.seq with pf := true, pfCnt := satAdd 0xFFFF s.seq.pfCnt 1 } := by
  rw [State.powerFailBegun]
  split <;> rfl

theorem State.powerFailBegun_mram : s.powerFailBegun.mram = { wm0 := some s.led.epoch, wm1 := some s.led.epoch } := by
  rw [State.powerFailBegun]
  split <;> rfl

/-- A capture and an event follow (R251, R535). -/
theorem State.powerFail_eq (mv : SupplyMv) :
    ∃ cause reqr, s.powerFail mv = (s.powerFailBegun.freezeLose.snapCapture cause true mv).raiseEvt 227 reqr :=
  ⟨_, _, rfl⟩

variable {s} (h : s.seq.snap = none) (mv : SupplyMv)
include h

theorem State.powerFailBegun_freezeLose_snap : s.powerFailBegun.freezeLose.seq.snap = none := by
  rw [State.freezeLose_seq, State.powerFailBegun_seq, h]

/-- Where no record waits, power-fail leaves both watermarks at the epoch under way (R47). -/
theorem State.powerFail_mram : (s.powerFail mv).mram = { wm0 := some s.led.epoch, wm1 := some s.led.epoch } := by
  obtain ⟨cause, reqr, heq⟩ := s.powerFail_eq mv
  rw [heq, State.raiseEvt_mram, State.snapCapture_of_none (State.powerFailBegun_freezeLose_snap h), State.modSeq_mram, State.storeMv,
    State.modLane_mram, State.freezeLose_mram, State.powerFailBegun_mram]

/-- It is declared and counted, and its own snapshot waits to be written (R246, R251). -/
theorem State.powerFail_seq : ∃ x, (s.powerFail mv).seq =
    { s.seq with pf := true, pfCnt := satAdd 0xFFFF s.seq.pfCnt 1, snapBusy := true, snap := some x } := by
  obtain ⟨cause, reqr, heq⟩ := s.powerFail_eq mv
  rw [heq, State.raiseEvt_seq, State.snapCapture_of_none (State.powerFailBegun_freezeLose_snap h), State.modSeq_seq, State.storeMv,
    State.modLane_seq, State.freezeLose_seq, State.powerFailBegun_seq]
  exact ⟨_, rfl⟩

end

/-! The commands while the lanes run and the block governs. -/

/-- A crossing stores the keep-alive level and takes the levels read, which judge the diode again (R246, R305). -/
def State.keepAliveSet (s : State) (up : Bool) (mv : SupplyMv) : State := (s.modSeq fun q => { q with kaOk := up }).storeMv mv

theorem State.keepAliveSet_seq (s : State) (up : Bool) (mv : SupplyMv) : (s.keepAliveSet up mv).seq = { s.seq with kaOk := up } := rfl
theorem State.keepAliveSet_led (s : State) (up : Bool) (mv : SupplyMv) : (s.keepAliveSet up mv).led = s.led := rfl

theorem State.powerFail_epoch (s : State) (mv : SupplyMv) : (s.powerFail mv).led.epoch = s.led.epoch :=
  congrArg (fun f => f.2.1) (State.powerFail_fixed s mv)

section
variable {s : State} (hs : s.ready)
include hs

theorem exec_snapshotCommand_of_ready (i : Iface) (mv : SupplyMv) : exec (.snapshotCommand i mv) s = .next (s.snapCommand mv) := by
  rw [show exec (.snapshotCommand i mv) s = _ from State.arrive_runs hs.1 _ _, runSnapshotCommand, if_pos hs.2]

theorem exec_snapshotWritten_of_ready : exec .snapshotWritten s = .next s.snapWrite := by
  rw [show exec .snapshotWritten s = _ from State.arrive_runs hs.1 _ _, runSnapshotWritten, if_pos hs.2]

theorem exec_keepAliveCrossing_of_ready (up : Bool) (mv : SupplyMv) :
    exec (.keepAliveCrossing up mv) s = .next (if !up && s.seq.il && !s.seq.pf then (s.keepAliveSet up mv).powerFail mv else s.keepAliveSet up mv) := by
  rw [show exec (.keepAliveCrossing up mv) s = _ from State.arrive_runs hs.1 _ _, runKeepAliveCrossing, if_neg (by simp [hs.2])]
  rfl

end

/-- Settles O28: each command by what a capture, a record written into the ring or power-fail leaves. -/
theorem snapshotsAndPowerFail : Obligations.SnapshotsAndPowerFail := by
  unfold Obligations.SnapshotsAndPowerFail
  intro s hs
  refine ⟨fun i mv hbusy => ?busy, fun i mv hfree hnone => ?capture, fun p ep frac sec hsnap => ?written, fun hnone => ?nothing,
    fun mv => ?rises, fun mv hil hpf hnone => ?falls⟩
  case busy =>
    rw [exec_snapshotCommand_of_ready hs, State.snapCommand, if_pos hbusy]
  case capture =>
    refine ⟨_, exec_snapshotCommand_of_ready hs i mv, ?_⟩
    rw [State.snapCommand, if_neg (by simp [hfree]), State.snapCapture_of_none hnone]
    exact ⟨rfl, rfl⟩
  case written =>
    refine ⟨_, exec_snapshotWritten_of_ready hs, ?_⟩
    rw [State.snapWrite_of_command hsnap]
    refine ⟨?_, rfl, rfl, rfl, rfl⟩
    rw [State.modSeq_recd, State.ringWrite_getLast?]
    rfl
  case nothing =>
    rw [exec_snapshotWritten_of_ready hs, State.snapWrite_of_none hnone]
  case rises =>
    rw [exec_keepAliveCrossing_of_ready hs, if_neg (by simp)]
    rfl
  case falls =>
    refine ⟨_, exec_keepAliveCrossing_of_ready hs false mv, ?_⟩
    rw [if_pos (by simp [hil, hpf])]
    obtain ⟨x, hseq⟩ := State.powerFail_seq (s := s.keepAliveSet false mv) hnone mv
    rw [hseq, State.powerFail_mram (s := s.keepAliveSet false mv) hnone, State.powerFail_epoch, State.keepAliveSet_led, State.keepAliveSet_seq]
    exact ⟨rfl, rfl, rfl, rfl, rfl, rfl, rfl⟩

end Sys2Proof.Machine
end

section
/-! PROOFS. What the collector keeps of the sources: no reaction and no request writes a source, and whatever follows a change of a source
keeps the forces, the integrity and, while no event escalates (R266), the lines of all sources but FS366. -/

namespace Sys2Proof.Machine

/-! Built-in requests, local reactions and reactions on groups (R244, R268, R269, R273). -/

/-- From s a reaction can have made t: requests, commits of groups and the groups' own records alone. -/
def Reacts (s t : State) : Prop := ∃ p l g, t = { s with pipe := p, led := l, groups := g }

theorem Reacts.refl (s : State) : Reacts s s := ⟨_, _, _, rfl⟩

theorem Reacts.trans {a b c : State} : Reacts a b → Reacts b c → Reacts a c := by
  rintro ⟨_, _, _, rfl⟩ ⟨_, _, _, rfl⟩
  exact ⟨_, _, _, rfl⟩

theorem Reacts.ite {a b c : State} {p : Prop} [Decidable p] (h : Reacts a b) (k : Reacts a c) : Reacts a (if p then b else c) := by
  split <;> assumption

theorem Reacts.foldl {α : Type} {f : State → α → State} (h : ∀ t a, Reacts t (f t a)) (l : List α) (s : State) : Reacts s (l.foldl f s) :=
  List.foldlRecOn (motive := Reacts s) l f (.refl s) fun t ht a _ => ht.trans (h t a)

theorem Reacts.srcs {s t : State} : Reacts s t → t.srcs = s.srcs := by
  rintro ⟨_, _, _, rfl⟩
  rfl

theorem Reacts.glb {s t : State} : Reacts s t → t.glb = s.glb := by
  rintro ⟨_, _, _, rfl⟩
  rfl

theorem Reacts.img {s t : State} : Reacts s t → t.img = s.img := by
  rintro ⟨_, _, _, rfl⟩
  rfl

section
variable (s : State)

theorem Reacts.modPipe (f : Pipe → Pipe) : Reacts s (s.modPipe f) := ⟨_, _, _, rfl⟩
theorem Reacts.modGroup (g : Nat) (f : Group → Group) : Reacts s (s.modGroup g f) := ⟨_, _, _, rfl⟩
theorem Reacts.commit (id : Nat) (c : Cm) : Reacts s (s.commit id c) := ⟨_, _, _, State.commit_only s id c⟩
theorem Reacts.offer {port : Nat} (h : port ≠ 7) (l : List Req) : Reacts s (s.offer port l) := ⟨_, _, _, State.offer_only h s l⟩

theorem Reacts.forceOff (lis : List Nat) {port : Nat} (h : port ≠ 7) (cls reqr : Nat) : Reacts s (s.forceOff lis port cls reqr) := by
  refine .foldl (fun t li => ?_) lis s
  dsimp only
  split
  · exact (Reacts.offer t h _).trans (.modGroup ..)
  · exact .offer t h _

theorem Reacts.groupCommit (g : Nat) (st : Option EState) : Reacts s (s.groupCommit g st) := (Reacts.modGroup ..).trans (.commit ..)

theorem Reacts.dropGroupOp (g : Nat) : Reacts s (s.dropGroupOp g) := by
  unfold State.dropGroupOp
  refine .ite (.refl s) (.foldl (fun t x => ?_) _ s)
  split
  · exact .ite (.modPipe ..) ⟨_, _, _, rfl⟩
  · exact .refl t

theorem Reacts.groupImmediate (g : Nat) {port : Nat} (h : port ≠ 7) (cls reqr : Nat) : Reacts s (s.groupImmediate g port cls reqr) := by
  unfold State.groupImmediate
  extract_lets eps forced rested stopping
  have hrested : Reacts s rested := ((Reacts.forceOff s eps h cls reqr).trans (.dropGroupOp ..)).trans (.modGroup ..)
  have hstopping : Reacts s stopping := hrested.trans (.ite (.refl _) (.groupCommit ..))
  exact .ite ((hstopping.trans (.modGroup ..)).trans (.groupCommit ..)) hstopping

theorem Reacts.groupReaction (n sev g : Nat) : Reacts s (s.groupReaction n sev g) := by
  unfold State.groupReaction
  extract_lets now earlier asks react
  have hasks (t : State) : Reacts t (asks t) := .modGroup ..
  have hreact (t : State) : Reacts t (react t) := by
    dsimp only [react]
    split
    · exact .refl t
    · exact .ite ((hasks t).trans (.groupImmediate _ _ (by decide) _ _)) ((hasks t).trans (.offer _ (by decide) _))
  refine .ite (.refl s) ?_
  clear_value earlier
  rcases earlier with _ | ⟨sv, m⟩
  · exact hreact s
  · exact .ite (.refl s) (.ite ((hasks s).trans (.modPipe ..)) (.ite (.refl s) ((Reacts.modPipe ..).trans (hreact _))))

theorem Reacts.phaseRequests (n : Nat) : Reacts s (s.phaseRequests n) := by
  unfold State.phaseRequests
  extract_lets p r on failed
  have hfailed : Reacts s failed := .offer s (by decide) _
  refine .ite (.refl s) ?_
  split
  · exact .offer s (by decide) _
  · exact .ite hfailed (hfailed.trans (.offer _ (by decide) _))

theorem Reacts.builtIn (n cause : Nat) (overload : Bool) : Reacts s (s.builtIn n cause overload) := by
  unfold State.builtIn
  have hoffer (port : Nat) (h : port ≠ 7) (l : List Req) : Reacts s (s.offer port l) := .offer s h l
  refine .ite (.ite (.refl s) (.phaseRequests s n)) (.ite (.ite (hoffer 0 (by decide) _) (.refl s)) (.ite (.ite (.refl s) ?_) (.refl s)))
  split
  · exact hoffer 0 (by decide) _
  · exact hoffer 0 (by decide) _
  · exact hoffer 1 (by decide) _
  · exact .refl s

/-- A local reaction is one request at most (R269). -/
theorem State.localReaction_only (n cause : Nat) : ∃ p, s.localReaction n cause = { s with pipe := p } := by
  unfold State.localReaction
  dsimp only
  split
  · exact ⟨_, rfl⟩
  · split
    all_goals exact ⟨_, rfl⟩

theorem Reacts.localReaction (n cause : Nat) : Reacts s (s.localReaction n cause) := by
  obtain ⟨_, h⟩ := s.localReaction_only n cause
  exact ⟨_, _, _, h⟩

end

/-! Forces, integrity and lines. -/

theorem State.src_of_srcs {s t : State} (h : t.srcs = s.srcs) (m : Nat) : t.src m = s.src m := by
  rw [State.src, State.src, h]

/-- No event escalates to a software-defined source (R266). -/
def State.noEscalation (s : State) : Prop := ∀ e, e < 256 → s.im Img.evtEsc e = 0

theorem State.noEscalation_of_img {s t : State} (h : t.img = s.img) (hs : s.noEscalation) : t.noEscalation :=
  fun e he => (congrArg (fun i => Fld.read Img.evtEsc i e) h).trans (hs e he)

/-- From s to t no force and no integrity changes, and no line but that of FS366, unless an event escalates. -/
structure KeepsLines (s t : State) : Prop where
  img : t.img = s.img
  forced : ∀ m, (t.src m).forced = (s.src m).forced
  lost : ∀ m, (t.src m).lost = (s.src m).lost
  line : s.noEscalation → ∀ m, m ≠ 366 → (t.src m).line = (s.src m).line

theorem KeepsLines.of_srcs {s t : State} (hsrcs : t.srcs = s.srcs) (himg : t.img = s.img) : KeepsLines s t := by
  have hsrc := State.src_of_srcs hsrcs
  exact ⟨himg, fun m => by rw [hsrc], fun m => by rw [hsrc], fun _ m _ => by rw [hsrc]⟩

theorem KeepsLines.refl (s : State) : KeepsLines s s := .of_srcs rfl rfl

theorem KeepsLines.of_reacts {s t : State} (h : Reacts s t) : KeepsLines s t := .of_srcs h.srcs h.img

theorem KeepsLines.trans {a b c : State} (h : KeepsLines a b) (k : KeepsLines b c) : KeepsLines a c :=
  ⟨k.img.trans h.img, fun m => (k.forced m).trans (h.forced m), fun m => (k.lost m).trans (h.lost m),
    fun ha m hm => (k.line (State.noEscalation_of_img h.img ha) m hm).trans (h.line ha m hm)⟩

theorem KeepsLines.ite {a b c : State} {p : Prop} [Decidable p] (h : KeepsLines a b) (k : KeepsLines a c) :
    KeepsLines a (if p then b else c) := by
  split <;> assumption

section
variable (s : State)

theorem KeepsLines.faultN (b : Bool) : KeepsLines s { s with faultN := b } := .of_srcs rfl rfl

theorem KeepsLines.modSrc (n : Nat) (f : Source → Source) (h : ∀ x, ((f x).forced, (f x).lost, (f x).line) = (x.forced, x.lost, x.line)) :
    KeepsLines s (s.modSrc n f) := by
  have hkeep (m : Nat) : (((s.modSrc n f).src m).forced, ((s.modSrc n f).src m).lost, ((s.modSrc n f).src m).line) =
      ((s.src m).forced, (s.src m).lost, (s.src m).line) := by
    rw [State.modSrc_src_at]
    split
    next hm => rw [h, hm]
    · rfl
  simp only [Prod.mk.injEq] at hkeep
  exact ⟨rfl, fun m => (hkeep m).1, fun m => (hkeep m).2.1, fun _ m _ => (hkeep m).2.2⟩

/-- The line of a source that nothing but an escalation or an abandoned park entry pulses. -/
theorem KeepsLines.setLine {n : Nat} (h : s.noEscalation → n = 366) (b : Bool) : KeepsLines s (s.modSrc n fun x => { x with line := b }) := by
  refine ⟨rfl, fun m => ?_, fun m => ?_, fun hs m hm => ?_⟩
  · rw [State.modSrc_src_at]; split <;> simp_all
  · rw [State.modSrc_src_at]; split <;> simp_all
  · rw [State.modSrc_src_ne _ _ _ _ (by rw [h hs]; exact hm)]

theorem KeepsLines.srcEntry (n : Nat) : KeepsLines s (s.srcEntry n) := by
  unfold State.srcEntry
  extract_lets now r
  have hsent : KeepsLines s (s.modSrc n fun x => { x with committed := true, dirty := false, sent := now }) := .modSrc s n _ fun _ => rfl
  exact .ite (.refl s) (.ite (.modSrc s n _ fun _ => rfl) (.ite (.modSrc s n _ fun _ => rfl) (hsent.trans (.of_reacts (.offer _ (by decide) _)))))

theorem KeepsLines.leaveCount (n : Nat) : KeepsLines s (s.leaveCount n) := .ite (.refl s) (.modSrc _ _ _ fun _ => rfl)

theorem KeepsLines.latchStatus (n cause : Nat) : KeepsLines s (s.latchStatus n cause) := .ite (.refl s) (.of_srcs rfl rfl)

theorem KeepsLines.latchNote (n : Nat) : KeepsLines s (s.latchNote n) := by
  unfold State.latchNote
  split
  · exact .ite (.of_srcs rfl rfl) (.refl s)
  · exact .refl s

theorem KeepsLines.traceExt (cond : Nat → Nat → Nat → Bool) : KeepsLines s (s.traceExt cond) := by
  have h := State.foldl_only_traces (f := fun s b =>
    let cfg := (s.rwWord (0x032000 + 0x20 * b)).toNat
    let trg := (s.rwWord (0x032004 + 0x20 * b)).toNat
    if (s.trace b).st == .armed && cond (bitsOf cfg 4 0) (bitsOf trg 3 0) (bitsOf trg 12 4) then s.modTrace b fun t => { t with ext := true } else s)
    (fun t b => by dsimp only; split <;> rfl) (List.range 16) s
  exact .of_srcs (congrArg State.srcs h :) (congrArg State.img h :)

theorem KeepsLines.raiseWith {pulse : State → Nat → State} (hp : ∀ t n, (t.noEscalation → n = 366) → KeepsLines t (pulse t n)) (e reqr : Nat) :
    KeepsLines s (s.raiseWith pulse e reqr) := by
  unfold State.raiseWith
  split
  · exact .refl s
  next hused =>
    extract_lets x val now counted recorded asked n
    have hrec : KeepsLines s recorded := .of_srcs (State.addRec_srcs counted _ _) (State.addRec_img counted _ _)
    have hasked : KeepsLines s asked := hrec.trans (.of_reacts (.offer _ (by decide) _))
    split
    next hn =>
      refine hasked.trans (hp _ _ fun hnone => ?_)
      have he : e < 256 := by simp [State.evtUsed] at hused; exact hused.1.2
      have h0 : n = 0 := State.noEscalation_of_img hasked.img.symm hnone e he
      omega
    · exact hasked

theorem KeepsLines.wakeWith {raise : State → Nat → Nat → State} {pulse : State → Nat → State} (hr : ∀ t e r, KeepsLines t (raise t e r))
    (hp : ∀ t n, (t.noEscalation → n = 366) → KeepsLines t (pulse t n)) (code : Nat) : KeepsLines s (s.wakeWith raise pulse code) := by
  unfold State.wakeWith
  extract_lets now unparked
  have hglb : KeepsLines s unparked := .of_srcs rfl rfl
  refine .ite ?_ (.ite ((hglb.trans (hr _ _ _)).trans (hp _ _ fun _ => rfl)) (.refl s))
  split
  · exact .of_srcs rfl rfl
  · exact .ite (.of_srcs rfl rfl) (.refl s)

theorem KeepsLines.qualifyWith {wake : State → Nat → State} (hw : ∀ t c, KeepsLines t (wake t c)) (n : Nat) (moved : Bool) :
    KeepsLines s (s.qualifyWith wake n moved) := by
  unfold State.qualifyWith
  extract_lets cause sev qualified now pending triggered answered reacted signalled
  have hqual : KeepsLines s qualified := .modSrc s n _ fun _ => rfl
  have hpend : KeepsLines qualified pending := .modSrc qualified n _ fun _ => rfl
  have htrig : KeepsLines s triggered := (hqual.trans hpend).trans (.of_srcs rfl rfl)
  have hanswered : KeepsLines s answered := htrig.trans (.ite (.refl _) (.of_reacts (.localReaction ..)))
  have hreact : Reacts answered reacted := by
    refine .ite ?_ (.ite (.foldl (fun t g => .groupReaction t n sev g) _ _) (.refl _))
    split
    · exact .groupReaction ..
    · exact .refl _
  have hsig : KeepsLines s signalled := (hanswered.trans (.of_reacts hreact)).trans (.ite (.faultN ..) (.refl _))
  exact .ite hqual (.ite (hsig.trans (hw _ _)) hsig)

theorem KeepsLines.occurWith {wake : State → Nat → State} (hw : ∀ t c, KeepsLines t (wake t c)) (n cause : Nat) (overload : Bool) :
    KeepsLines s (s.occurWith wake n cause overload) := by
  unfold State.occurWith
  extract_lets latched traced moved asked counted x qual recorded qualified
  have hlatched : KeepsLines s latched := (KeepsLines.modSrc s n (fun x => { x with cause := cause }) fun _ => rfl).trans (.latchStatus ..)
  have hasked : KeepsLines s asked := (hlatched.trans (.traceExt ..)).trans (.of_reacts (.builtIn ..))
  have hcounted : KeepsLines s counted := ((hasked.trans (.leaveCount ..)).trans (.modSrc _ n
    (fun x => { x with sticky := true, occ := x.occ ++ [asked.glb.lineAt.getD asked.time] }) fun _ => rfl)).trans (.latchNote ..)
  have hrec : KeepsLines s recorded := hcounted.trans (.of_srcs (State.addRec_srcs ..) (State.addRec_img ..))
  exact (hrec.trans (.ite (.qualifyWith _ hw ..) (.refl _))).trans (.srcEntry ..)

theorem KeepsLines.clearSrc (n : Nat) : KeepsLines s (s.clearSrc n) := by
  unfold State.clearSrc
  extract_lets unqualified released
  have hunq : KeepsLines s unqualified := .modSrc s n _ fun _ => rfl
  exact (hunq.trans (.ite (.faultN ..) (.refl _))).trans (.srcEntry ..)

theorem KeepsLines.srcChangeWith {wake : State → Nat → State} (hw : ∀ t c, KeepsLines t (wake t c)) (n : Nat) (f : Source → Source) (cause : Nat)
    (overload : Bool) : KeepsLines (s.modSrc n f) (s.srcChangeWith wake n f cause overload) := by
  unfold State.srcChangeWith
  dsimp only
  exact .ite (.ite (.modSrc _ n _ fun _ => rfl) (.refl _)) (.ite (.ite (.of_reacts (.builtIn ..)) (.refl _))
    (.ite (.occurWith _ hw ..) (.ite (.clearSrc ..) (.ite (.srcEntry ..) (.refl _)))))

theorem KeepsLines.pulseN (k : Nat) {n : Nat} (h : s.noEscalation → n = 366) : KeepsLines s (State.pulseN k s n) := by
  induction k generalizing s n with
  | zero => exact .refl s
  | succ k ih =>
    have hw (t : State) (c : Nat) : KeepsLines t (t.wakeWith (State.raiseWith (State.pulseN k)) (State.pulseN k) c) :=
      .wakeWith t (fun t e r => .raiseWith t (fun t n h => ih t h) e r) (fun t n h => ih t h) c
    have hline (t : State) (ht : t.noEscalation → n = 366) (b : Bool) : KeepsLines t
        (t.srcChangeWith (State.wakeWith (State.raiseWith (State.pulseN k)) (State.pulseN k)) n (fun x => { x with line := b }) 0) :=
      (KeepsLines.setLine t ht b).trans (.srcChangeWith t hw ..)
    have hrise := hline s h true
    have hfall := hline _ (fun hn => h (State.noEscalation_of_img hrise.img.symm hn)) false
    exact .ite (.refl s) (hrise.trans hfall)

theorem KeepsLines.raiseEvt (e reqr : Nat) : KeepsLines s (s.raiseEvt e reqr) := .raiseWith s (fun t _ h => .pulseN t 4 h) e reqr

theorem KeepsLines.wake (code : Nat) : KeepsLines s (s.wake code) := .wakeWith s KeepsLines.raiseEvt (fun t _ h => .pulseN t 4 h) code

/-- What follows a change of source n keeps the change (R258). -/
theorem KeepsLines.srcChange (n : Nat) (f : Source → Source) (cause : Nat) (overload : Bool) :
    KeepsLines (s.modSrc n f) (s.srcChange n f cause overload) := .srcChangeWith s KeepsLines.wake n f cause overload

variable (n : Nat) (f : Source → Source) (cause : Nat) (overload : Bool) (m : Nat)

theorem State.srcChange_lost : ((s.srcChange n f cause overload).src m).lost = if n = m then (f (s.src n)).lost else (s.src m).lost := by
  rw [(KeepsLines.srcChange s n f cause overload).lost, State.modSrc_src_at]
  split <;> rfl

theorem State.srcChange_forced :
    ((s.srcChange n f cause overload).src m).forced = if n = m then (f (s.src n)).forced else (s.src m).forced := by
  rw [(KeepsLines.srcChange s n f cause overload).forced, State.modSrc_src_at]
  split <;> rfl

/-- Unlike `State.srcChange_line`, this covers the software-defined sources. -/
theorem State.srcChange_line_of_noEscalation (hs : s.noEscalation) (hm : m ≠ 366) :
    ((s.srcChange n f cause overload).src m).line = if n = m then (f (s.src n)).line else (s.src m).line := by
  rw [(KeepsLines.srcChange s n f cause overload).line hs m hm, State.modSrc_src_at]
  split <;> rfl

end

end Sys2Proof.Machine
end

section
/-! PROOFS. O29: lines, integrity, forces and software-defined sources (R256 to R259, R265, R266, R659). -/

namespace Sys2Proof.Machine

/-! Lists of sources that change alike. -/

section
variable (s : State) (l : List Nat) (b : Bool) (m : Nat)

theorem State.foldl_srcChange_outside (f : Source → Source) : (l.foldl (fun t n => t.srcChange n f 0) s).outside = s.outside :=
  List.foldlRecOn (motive := fun t => t.outside = s.outside) l _ rfl fun t ht n _ => (State.srcChange_outside t n f 0 false).trans ht

/-- Forces set or removed (R265). -/
theorem State.foldl_srcChange_forced :
    ((l.foldl (fun t n => t.srcChange n (fun x => { x with forced := b }) 0) s).src m).forced = if m ∈ l then b else (s.src m).forced := by
  induction l generalizing s with
  | nil => rfl
  | cons n l ih =>
    rw [List.foldl_cons, ih, State.srcChange_forced]
    by_cases hl : m ∈ l
    · rw [if_pos hl, if_pos (List.mem_cons_of_mem n hl)]
    · simp only [List.mem_cons, hl, or_false, if_false, eq_comm (a := m)]

/-- Lines set or cleared, while no event escalates (R266). -/
theorem State.foldl_srcChange_line (hs : s.noEscalation) (hm : m ≠ 366) :
    ((l.foldl (fun t n => t.srcChange n (fun x => { x with line := b }) 0) s).src m).line = if m ∈ l then b else (s.src m).line := by
  induction l generalizing s with
  | nil => rfl
  | cons n l ih =>
    have himg : (s.srcChange n (fun x => { x with line := b }) 0).img = s.img := (congrArg State.img (State.srcChange_outside ..) :)
    rw [List.foldl_cons, ih _ (State.noEscalation_of_img himg hs), State.srcChange_line_of_noEscalation s _ _ _ _ _ hs hm]
    by_cases hl : m ∈ l
    · rw [if_pos hl, if_pos (List.mem_cons_of_mem n hl)]
    · simp only [List.mem_cons, hl, or_false, if_false, eq_comm (a := m)]

end

theorem bitOf_toNat {w : Nat} (mask : BitVec w) (i : Nat) : bitOf mask.toNat i = mask.getLsbD i := by
  rw [BitVec.getLsbD, Nat.testBit_eq_decide_div_mod_eq, bitOf]
  rfl

theorem mem_maskSources {k n : Nat} {mask : Word} : n ∈ maskSources k mask.toNat ↔ n / 32 = k ∧ mask.getLsbD (n % 32) = true := by
  simp only [maskSources, List.mem_map, List.mem_filter, List.mem_range, bitOf_toNat]
  constructor
  · rintro ⟨i, ⟨hi, hbit⟩, rfl⟩
    rw [Nat.mul_add_div (by decide), Nat.div_eq_of_lt hi, Nat.mul_add_mod, Nat.mod_eq_of_lt hi]
    exact ⟨rfl, hbit⟩
  · rintro ⟨rfl, hbit⟩
    exact ⟨n % 32, ⟨Nat.mod_lt _ (by decide), hbit⟩, Nat.div_add_mod n 32⟩

/-! The decoded line of a source (R256, R258, R659). -/

/-- What keeps a load switch's line asserted: its thermal account (R659). -/
def State.heldBits (s : State) (n : Nat) : BitVec 16 := if 176 ≤ n ∧ n < 208 then (s.src n).holds &&& 8 else 0

/-- A source whose line decodes as `on`, under what holds it. -/
def decodedAs (held : BitVec 16) (on : Bool) (x : Source) : Source :=
  { x with line := on || held != 0, lost := false, holds := if on then x.holds else held }

theorem State.heldBits_ne_zero (s : State) (n : Nat) :
    (s.heldBits n != 0) = (176 ≤ n && n < 208 && (s.src n).holds.getLsbD 3) := by
  have hbit : ((s.src n).holds &&& 8 != 0) = (s.src n).holds.getLsbD 3 := by
    rw [show (8 : BitVec 16) = BitVec.twoPow 16 3 from rfl, BitVec.and_twoPow]
    cases (s.src n).holds.getLsbD 3 <;> rfl
  rw [State.heldBits]
  split
  next h => rw [hbit, decide_eq_true h.1, decide_eq_true h.2]; rfl
  next h =>
    rw [← Bool.decide_and, decide_eq_false h]
    rfl

section
variable (s : State) {n : Nat} (on : Bool)

/-- Beside the crystal, the oscillators and the references only stage faults have a status bit of their own. -/
theorem State.lineStatus_of_monitor (h : n ≠ 265 ∧ n ≠ 267 ∧ n ≠ 268 ∧ n ≠ 269 ∧ n ≠ 270 ∧ n ≠ 271) :
    s.lineStatus n on = if n < 96 ∧ n % 2 = 0 then s.modPhase (n / 2) fun x => { x with tfault := on } else s := by
  obtain ⟨h265, h267, h268, h269, h270, h271⟩ := h
  unfold State.lineStatus
  split
  case h_7 => rfl
  all_goals contradiction

variable (h : n ≠ 265 ∧ n ≠ 267 ∧ n ≠ 268 ∧ n ≠ 269 ∧ n ≠ 270 ∧ n ≠ 271)
include h

theorem State.lineStatus_phase (p : Nat) :
    (s.lineStatus n on).phase p = if n = 2 * p ∧ n < 96 then { s.phase p with tfault := on } else s.phase p := by
  rw [State.lineStatus_of_monitor s on h]
  by_cases hstage : n < 96 ∧ n % 2 = 0
  · have hp : n / 2 = p ↔ n = 2 * p ∧ n < 96 := by omega
    rw [if_pos hstage, State.modPhase_phase_at]
    simp only [hp]
    split
    next hn => rw [hp.2 hn]
    · rfl
  · rw [if_neg hstage, if_neg (by omega)]

theorem State.lineStatus_outside : (s.lineStatus n on).outside = { s.outside with phases := (s.lineStatus n on).phases } := by
  rw [State.lineStatus_of_monitor s on h]
  split <;> rfl

theorem State.lineStatus_src : (s.lineStatus n on).src n = s.src n := by
  rw [State.lineStatus_of_monitor s on h]
  split <;> rfl

end

theorem pulsed_eq_false {m : Nat} (h : m < 496) (h366 : m ≠ 366) : pulsed m = false := by
  simp [pulsed, h366]
  omega

theorem State.srcChange_phases (s : State) (n : Nat) (f : Source → Source) (cause : Nat) (overload : Bool) :
    (s.srcChange n f cause overload).phases = s.phases :=
  (congrArg State.phases (State.srcChange_outside s n f cause overload) :)

/-- A change of a source that nothing pulses keeps its integrity and its line as the change left them. -/
theorem State.srcChange_keeps (s : State) {n : Nat} (h : n < 496) (h366 : n ≠ 366) (f : Source → Source) (cause : Nat) :
    ((s.srcChange n f cause).src n).lost = (f (s.src n)).lost ∧ ((s.srcChange n f cause).src n).line = (f (s.src n)).line ∧
    (s.srcChange n f cause).outside = s.outside := by
  rw [State.srcChange_lost, if_pos rfl, State.srcChange_line _ _ _ _ _ _ (pulsed_eq_false h h366), if_pos rfl]
  exact ⟨rfl, rfl, State.srcChange_outside ..⟩

/-! The commands while the lanes run and the block governs. -/

section
variable {s : State} (hs : s.ready)
include hs

theorem exec_faultLineChange_of_ready {n : Fin 512} (hn : n.val < 496) (on : Bool) (cause : Fin 1024) :
    exec (.faultLineChange n on cause) s = .next ((s.lineStatus n on).srcChange n (decodedAs (s.heldBits n) on) cause) := by
  rw [show exec (.faultLineChange n on cause) s = _ from State.arrive_runs hs.1 _ _, runFaultLineChange, if_pos hn]
  rfl

/-- Software-defined sources have no line (R266). -/
theorem exec_faultLineChange_of_software {n : Fin 512} (hn : 496 ≤ n.val) (on : Bool) (cause : Fin 1024) :
    exec (.faultLineChange n on cause) s = .next s := by
  rw [show exec (.faultLineChange n on cause) s = _ from State.arrive_runs hs.1 _ _, runFaultLineChange, if_neg (by omega)]

theorem exec_integrityLost_of_ready {n : Fin 512} (hn : n.val < 496) : exec (.integrityLost n) s =
    .next (s.srcChange n (fun x => { x with lost := true }) 0) := by
  rw [show exec (.integrityLost n) s = _ from State.arrive_runs hs.1 _ _, runIntegrityLost, if_pos hn]

theorem exec_lineTest_of_ready {n : Fin 512} (seen : Bool) (hn : n.val < 480) (hused : s.srcUsed n = true) :
    exec (.lineTest n seen) s = .next (s.srcChange n (fun x => { x with lost := !seen }) 0) := by
  obtain ⟨⟨hhold, hswitch, hstop, hwarm⟩, hlive⟩ := hs
  exact congrArg Host.Outcome.next (if_pos (by simp [hn, hused, hlive, hhold, hswitch, hstop, hwarm]))

theorem exec_finLevel_mid_of_ready (f : Fin 16) : exec (.finLevel f .mid) s =
    .next (s.srcChange (480 + f) (fun x => { x with lost := true }) 0) :=
  State.arrive_runs hs.1 _ _

theorem exec_finLevel_high_of_ready (f : Fin 16) : exec (.finLevel f .high) s =
    .next (s.srcChange (480 + f) (fun x => { x with line := s.imb Img.fltFinPol f, lost := false }) 0) :=
  State.arrive_runs hs.1 _ _

theorem exec_finLevel_low_of_ready (f : Fin 16) : exec (.finLevel f .low) s =
    .next (s.srcChange (480 + f) (fun x => { x with line := !s.imb Img.fltFinPol f, lost := false }) 0) :=
  State.arrive_runs hs.1 _ _

theorem exec_fltFset_of_ready (k : Fin 16) (mask : Word) : exec (.fltFset k mask) s = .next (s.forceSrcs k mask) := by
  rw [show exec (.fltFset k mask) s = _ from State.arrive_runs hs.1 _ _, runFltFset, if_pos hs.2]

theorem exec_fltFclr_of_ready (k : Fin 16) (mask : Word) : exec (.fltFclr k mask) s = .next (s.unforceSrcs k mask) := by
  rw [show exec (.fltFclr k mask) s = _ from State.arrive_runs hs.1 _ _, runFltFclr, if_pos hs.2]

theorem exec_fltSwSet_of_ready (mask : BitVec 16) : exec (.fltSwSet mask) s = .next (s.swSources mask.toNat true) := by
  rw [show exec (.fltSwSet mask) s = _ from State.arrive_runs hs.1 _ _, runFltSwSet, if_pos hs.2]

theorem exec_fltSwClr_of_ready (mask : BitVec 16) : exec (.fltSwClr mask) s = .next (s.swSources mask.toNat false) := by
  rw [show exec (.fltSwClr mask) s = _ from State.arrive_runs hs.1 _ _, runFltSwClr, if_pos hs.2]

end

/-! Forces and software-defined sources (R265, R266). -/

section
variable (s : State)

theorem State.forceSrcs_forced (k : Nat) (mask : Word) (n : Nat) : ((s.forceSrcs k mask).src n).forced =
    if n / 32 = k ∧ mask.getLsbD (n % 32) = true ∧ s.imb Img.fltForceEn n = true then true else (s.src n).forced := by
  rw [State.forceSrcs, State.foldl_srcChange_forced]
  simp only [List.mem_filter, mem_maskSources, and_assoc]

theorem State.unforceSrcs_forced (k : Nat) (mask : Word) (n : Nat) : ((s.unforceSrcs k mask).src n).forced =
    if n / 32 = k ∧ mask.getLsbD (n % 32) = true then false else (s.src n).forced := by
  rw [State.unforceSrcs, State.foldl_srcChange_forced]
  simp only [mem_maskSources]

/-- The software-defined sources of a mask, as the sources they are. -/
theorem State.swSources_eq (mask : Nat) (on : Bool) : s.swSources mask on =
    (((List.range 16).filter fun i => bitOf mask i).map (496 + ·)).foldl (fun t n => t.srcChange n (fun x => { x with line := on }) 0) s := by
  rw [List.foldl_map]
  rfl

theorem State.swSources_outside (mask : Nat) (on : Bool) : (s.swSources mask on).outside = s.outside := by
  rw [State.swSources_eq, State.foldl_srcChange_outside]

theorem State.swSources_line (hs : s.noEscalation) (mask : BitVec 16) (on : Bool) {i : Nat} (hi : i < 16) :
    ((s.swSources mask.toNat on).src (496 + i)).line = if mask.getLsbD i = true then on else (s.src (496 + i)).line := by
  rw [State.swSources_eq, State.foldl_srcChange_line _ _ _ _ hs (by omega)]
  have hmem : 496 + i ∈ ((List.range 16).filter fun i => bitOf mask.toNat i).map (496 + ·) ↔ mask.getLsbD i = true := by
    rw [List.mem_map_of_injective (add_right_injective 496), List.mem_filter, List.mem_range, bitOf_toNat, and_iff_right hi]
  simp only [hmem]

end

/-- Settles O29: each command is a change of its sources, and what follows a change keeps it. -/
theorem linesAreDecoded : Obligations.LinesAreDecoded := by
  unfold Obligations.LinesAreDecoded
  intro s hs
  refine ⟨fun n on cause hn h265 h267 h268 h269 h270 h271 h366 => ?line, fun on cause => ?crystal, fun n on cause hn => ?software,
    fun n hn h366 => ?integrity, fun n seen hn h366 hused => ?test, fun f => ?mid, fun f => ?high, fun f => ?low, fun k mask => ?force,
    fun k mask => ?unforce, fun mask hnone => ?assert, fun mask hnone => ?clear⟩
  case line =>
    have hmonitor := And.intro h265 (And.intro h267 (And.intro h268 (And.intro h269 (And.intro h270 h271))))
    obtain ⟨hlost, hline, hout⟩ := State.srcChange_keeps (s.lineStatus n on) hn h366 (decodedAs (s.heldBits n) on) cause
    refine ⟨_, exec_faultLineChange_of_ready hs hn on cause, ?_, hlost, fun p => ?_, ?_⟩
    · rw [hline, decodedAs, State.heldBits_ne_zero]
    · rw [State.phase, State.srcChange_phases]
      exact State.lineStatus_phase s on hmonitor p
    · rw [hout, State.srcChange_phases]
      exact State.lineStatus_outside s on hmonitor
  case crystal =>
    obtain ⟨-, hline, hout⟩ := State.srcChange_keeps (s.lineStatus 265 on) (n := 265) (by decide) (by decide) (decodedAs (s.heldBits 265) on) cause
    exact ⟨_, exec_faultLineChange_of_ready hs (by decide) on cause, hline.trans (Bool.or_false on), hout⟩
  case software => exact exec_faultLineChange_of_software hs hn on cause
  case integrity => exact ⟨_, exec_integrityLost_of_ready hs hn, State.srcChange_keeps s hn h366 ..⟩
  case test => exact ⟨_, exec_lineTest_of_ready hs seen hn hused, State.srcChange_keeps s (by omega) h366 ..⟩
  case mid =>
    obtain ⟨hlost, -, hout⟩ := State.srcChange_keeps s (n := 480 + f) (by omega) (by omega) (fun x => { x with lost := true }) 0
    exact ⟨_, exec_finLevel_mid_of_ready hs f, hlost, hout⟩
  case high => exact ⟨_, exec_finLevel_high_of_ready hs f, State.srcChange_keeps s (by omega) (by omega) ..⟩
  case low => exact ⟨_, exec_finLevel_low_of_ready hs f, State.srcChange_keeps s (by omega) (by omega) ..⟩
  case force =>
    refine ⟨_, exec_fltFset_of_ready hs k mask, fun i hi hbit hen => ?_, fun n hn => ?_, State.foldl_srcChange_outside ..⟩
    · rw [State.forceSrcs_forced, if_pos ⟨by omega, by rwa [Nat.mul_add_mod, Nat.mod_eq_of_lt hi], hen⟩]
    · rw [State.forceSrcs_forced, if_neg]
      rintro ⟨hk, hbit, hen⟩
      simp [hk, hbit, hen] at hn
  case unforce =>
    refine ⟨_, exec_fltFclr_of_ready hs k mask, fun i hi hbit => ?_, fun n hn => ?_, State.foldl_srcChange_outside ..⟩
    · rw [State.unforceSrcs_forced, if_pos ⟨by omega, by rwa [Nat.mul_add_mod, Nat.mod_eq_of_lt hi]⟩]
    · rw [State.unforceSrcs_forced, if_neg]
      rintro ⟨hk, hbit⟩
      simp [hk, hbit] at hn
  case assert =>
    refine ⟨_, exec_fltSwSet_of_ready hs mask, fun i hi => ?_, State.swSources_outside ..⟩
    rw [State.swSources_line s hnone mask true hi]
    cases mask.getLsbD i <;> rfl
  case clear =>
    refine ⟨_, exec_fltSwClr_of_ready hs mask, fun i hi => ?_, State.swSources_outside ..⟩
    rw [State.swSources_line s hnone mask false hi]
    cases mask.getLsbD i <;> rfl

end Sys2Proof.Machine
end

section
/-! PROOFS. O30: qualification, occurrences, source entries, latches, the recovery from FAILED, FAULT_N and acknowledgements (R261, R262,
R270, R274, R276, R278, R657). -/

namespace Sys2Proof.Machine

/-! Qualification (R262, R267, R274, R275). -/

/-- Source n is qualified and pending, and a freeze of the recorder is triggered: what every qualification above severity 0 does. -/
def State.qualified (s : State) (n : Nat) : State :=
  ((s.modSrc n fun x => { x with qual := true }).modSrc n fun x => { x with pend := true, pendCyc := s.cyc }).modRec fun q => { q with trigger := true }

theorem State.imb_of_img {s t : State} (h : t.img = s.img) (d : Fld) (i : Nat) : t.imb d i = s.imb d i := by
  rw [State.imb, State.imb, State.im, State.im, h]

section
variable (s : State) (n : Nat)

theorem State.qualified_src : (s.qualified n).src n = { s.src n with qual := true, pend := true, pendCyc := s.cyc } := by
  rw [State.qualified, State.modRec_src_keep, State.modSrc_src, State.modSrc_src]

theorem State.qualified_src_ne {m : Nat} (h : m ≠ n) : (s.qualified n).src m = s.src m := by
  rw [State.qualified, State.modRec_src_keep, State.modSrc_src_ne _ _ _ _ h, State.modSrc_src_ne _ _ _ _ h]

theorem State.qualified_img : (s.qualified n).img = s.img := by
  rw [State.qualified, State.modRec_img, State.modSrc_img, State.modSrc_img]

theorem State.qualified_led : (s.qualified n).led = s.led := by
  rw [State.qualified, State.modRec_led, State.modSrc_led, State.modSrc_led]

theorem State.qualified_faultN : (s.qualified n).faultN = s.faultN := by
  rw [State.qualified, State.modRec_faultN, State.modSrc_faultN, State.modSrc_faultN]

theorem State.qualified_recd : (s.qualified n).recd = { s.recd with trigger := true } := by
  rw [State.qualified, State.modRec_recd, State.modSrc_recd, State.modSrc_recd]

end

section
variable {s : State} {n : Nat} (wake : State → Nat → State) (moved : Bool)

/-- A source of severity LOG that wakes nothing asks for its local reaction at most (R267, R269). -/
theorem State.qualifyWith_of_log (hsev : s.sevOf n (s.src n).cause = 1) (hwake : s.imb Img.wakeFlt = false) :
    ∃ p, s.qualifyWith wake n moved = { s.qualified n with pipe := p } := by
  unfold State.qualifyWith
  extract_lets cause sev qual now pending triggered answered reacted signalled
  have hone : sev = 1 := hsev
  have hanswered : ∃ p, answered = { s.qualified n with pipe := p } := by
    unfold answered
    split
    · exact ⟨_, rfl⟩
    · exact State.localReaction_only triggered n cause
  obtain ⟨p, hp⟩ := hanswered
  have hsignalled : signalled = answered := by simp only [signalled, reacted, hone, OfNat.one_ne_ofNat, if_false]
  have hquiet : signalled.imb Img.wakeFlt = false := by
    rw [hsignalled, hp]
    exact (State.imb_of_img (State.qualified_img s n) _ _).trans hwake
  refine ⟨p, ?_⟩
  rw [if_neg (by rw [hone]; decide), if_neg (by rw [hone, hquiet]; decide), hsignalled, hp]

/-- One of severity SAFE drives FAULT_N; its reactions are requests and commits of groups, and it is a wake condition (R267, R274, R341). -/
theorem State.qualifyWith_of_safe (hsev : s.sevOf n (s.src n).cause = 3) :
    ∃ t, Reacts (s.qualified n) t ∧ s.qualifyWith wake n moved = wake { t with faultN := true } 5 := by
  unfold State.qualifyWith
  extract_lets cause sev qual now pending triggered answered reacted signalled
  have hthree : sev = 3 := hsev
  have hanswered : Reacts (s.qualified n) answered := .ite (.refl _) (.localReaction ..)
  have hreacted : Reacts answered reacted := by
    simp only [reacted, hthree]
    exact .foldl (fun t g => .groupReaction t n 3 g) _ _
  refine ⟨reacted, hanswered.trans hreacted, ?_⟩
  rw [if_neg (by rw [hthree]; decide), if_pos (by rw [hthree]; rfl)]
  simp only [signalled, hthree, if_true]

end

/-- Where no park entry is abandoned a wake condition is noted at most (R341). -/
theorem State.wake_of_unparking {s : State} (h : s.glb.parkPend = false) (code : Nat) :
    ∃ w, s.wake code = s.modGlb fun g => { g with waking := w } := by
  rw [State.wake, State.wakeWith]
  split
  · dsimp only
    split
    · exact ⟨_, rfl⟩
    · split
      · exact ⟨_, rfl⟩
      · exact ⟨_, rfl⟩
  · rw [if_neg (by simp [h])]
    exact ⟨_, rfl⟩

/-! Source entries, and the occurrences that they count (R261, R276). -/

/-- The entry of source n as it stands now: what `State.srcEntry` submits. -/
def State.entryReq (s : State) (n : Nat) : Req :=
  { stateReq (liSource n) (s.srcState n) 1 (reqrSource n) with val2 := BitVec.ofNat 32 (s.src n).count }

/-- The oldest occurrence of source n leaves its list. -/
def State.dropOccurrence (s : State) (n : Nat) : State := s.modSrc n fun x => { x with occ := x.occ.tail }

section
variable {s : State} {n : Nat}

theorem State.dropOccurrence_count : ((s.dropOccurrence n).src n).count = min 15 ((s.src n).occ.length - 1) := by
  rw [State.dropOccurrence, State.modSrc_src, Source.count, List.length_tail]

/-- The state that an entry shows does not hang on the count. -/
theorem State.dropOccurrence_srcState : (s.dropOccurrence n).srcState n = s.srcState n := by
  simp only [State.dropOccurrence, State.srcState, State.asserted, Source.on, State.modSrc_src, State.modSrc_stored_keep, State.modSrc_imb]
  rfl

variable (hlive : s.live = true) (hused : s.srcUsed n = true)
include hlive hused

/-- A changed entry of a used source is submitted once in an epoch (R276). -/
theorem State.srcEntry_of_changed (hdue : (s.src n).committed = false) (hnew : (s.srcState n, (s.src n).count) ≠ (s.src n).sent) :
    s.srcEntry n =
      (s.modSrc n fun x => { x with committed := true, dirty := false, sent := (s.srcState n, (s.src n).count) }).offer 1 [s.entryReq n] := by
  rw [State.srcEntry]
  dsimp only
  rw [if_neg (by simp [hused, hlive]), if_neg hnew, if_neg (by simp [hdue])]
  rfl

theorem State.srcEntry_of_same (hsame : (s.srcState n, (s.src n).count) = (s.src n).sent) :
    s.srcEntry n = s.modSrc n fun x => { x with dirty := false } := by
  rw [State.srcEntry]
  dsimp only
  rw [if_neg (by simp [hused, hlive]), if_pos hsame]

/-- What the submission of an entry leaves: the source notes it, and the request waits at port 1. -/
theorem State.srcEntry_submits (hdue : (s.src n).committed = false) (hnew : (s.srcState n, (s.src n).count) ≠ (s.src n).sent) :
    (s.srcEntry n).src n = { s.src n with committed := true, dirty := false, sent := (s.srcState n, (s.src n).count) } ∧
    (s.srcEntry n).asks 1 (s.entryReq n) ∧ (∀ m, m ≠ n → (s.srcEntry n).src m = s.src m) ∧
    s.srcEntry n = { s with srcs := (s.srcEntry n).srcs, pipe := (s.srcEntry n).pipe } := by
  rw [State.srcEntry_of_changed hlive hused hdue hnew]
  have hsrc (t : State) (l : List Req) (m : Nat) : (t.offer 1 l).src m = t.src m := State.src_of_srcs (State.offer_srcs (by decide) t l) m
  refine ⟨?_, State.offer_mem .., fun m hm => ?_, ?_⟩
  · rw [hsrc, State.modSrc_src]
  · rw [hsrc, State.modSrc_src_ne _ _ _ _ hm]
  · rw [State.offer_srcs (by decide)]
    exact State.offer_only (by decide) ..

end

/-! The commands while the lanes run and the block governs. -/

/-- A mask of one bit names one source, or one event. -/
theorem maskSources_of_single (k : Nat) {b : Nat} (hb : b < 32) : maskSources k (BitVec.ofNat 32 (2 ^ b)).toNat = [32 * k + b] := by
  have hbits : ∀ b < 32, (List.range 32).filter (fun i => bitOf (BitVec.ofNat 32 (2 ^ b)).toNat i) = [b] := by decide +kernel
  rw [maskSources, hbits b hb]
  rfl

section
variable {s : State} (hs : s.ready)
include hs

theorem exec_persistQualify_of_due {n : Fin 512} (hused : s.srcUsed n = true) (hon : s.asserted n = true) (hqual : (s.src n).qual = false)
    (hpersist : s.im Img.fltPersist n ≠ 0) :
    exec (.persistQualify n) s = .next (s.qualifyWith State.wake n (builtInMoves n (s.src n).cause)) := by
  rw [show exec (.persistQualify n) s = _ from State.arrive_runs hs.1 _ _, runPersistQualify, if_pos (by simp [hs.2, hused, hon, hqual, hpersist])]

theorem exec_persistQualify_of_qualified {n : Fin 512} (hqual : (s.src n).qual = true) : exec (.persistQualify n) s = .next s := by
  rw [show exec (.persistQualify n) s = _ from State.arrive_runs hs.1 _ _, runPersistQualify, if_neg (by simp [hqual])]

theorem exec_occurrenceExpire_of_gone {n : Fin 512} (hgone : (s.src n).leftCyc = some s.cyc) : exec (.occurrenceExpire n) s = .next s := by
  rw [show exec (.occurrenceExpire n) s = _ from State.arrive_runs hs.1 _ _, runOccurrenceExpire]
  dsimp only
  rw [if_pos hgone]

theorem exec_occurrenceExpire_of_due {n : Fin 512} (hdue : (s.src n).leftCyc ≠ some s.cyc) : exec (.occurrenceExpire n) s =
    .next (if ((s.dropOccurrence n).src n).count = (s.src n).count then s.dropOccurrence n else (s.dropOccurrence n).srcEntry n) := by
  rw [show exec (.occurrenceExpire n) s = _ from State.arrive_runs hs.1 _ _, runOccurrenceExpire]
  dsimp only
  rw [if_neg hdue]
  rfl

theorem exec_sourceEntryCommit_of_ready (n : Fin 512) : exec (.sourceEntryCommit n) s =
    .next (if (s.src n).dirty && !(s.src n).committed then s.srcEntry n else s) :=
  State.arrive_runs hs.1 _ _

theorem exec_latchSubmit_of_due {li : Fin 2048} {n : Nat} (hkind : li.val < 40 ∨ ∃ k, kindOf li = .switch k) (hst : s.st li = .failed)
    (hep : (s.policy li).failEpoch + 1 = s.led.epoch) (hway : s.stateUnderWay li .latchedOff = false) (hsrc : (s.policy li).latchSrc = some n) :
    exec (.latchSubmit li) s = .next (s.offer 1 [stateReq li .latchedOff 1 (reqrSource n)]) := by
  rw [show exec (.latchSubmit li) s = _ from State.arrive_runs hs.1 _ _, runLatchSubmit]
  dsimp only
  rw [if_pos, hsrc]
  rcases hkind with hli | ⟨k, hk⟩
  · have hk : kindOf li = .rail li := if_pos hli
    simp [hs.2, hst, hep, hway, hk]
  · simp [hs.2, hst, hep, hway, hk]

/-- Nothing is latched outside the epoch that follows the FAILED commit (R270). -/
theorem exec_latchSubmit_of_undue {li : Fin 2048} (h : s.st li ≠ .failed ∨ (s.policy li).failEpoch + 1 ≠ s.led.epoch) :
    exec (.latchSubmit li) s = .next s := by
  rw [show exec (.latchSubmit li) s = _ from State.arrive_runs hs.1 _ _, runLatchSubmit]
  dsimp only
  rw [if_neg]
  rcases h with h | h <;> simp [h]

theorem exec_failedRecovery_of_due {li : Fin 2048} (hst : s.st li = .failed) (hep : (s.policy li).failEpoch < s.led.epoch)
    (hway : s.stateUnderWay li .off = false) (hrec : s.recoverable li = true) (hkept : s.keptFailed li = false) :
    exec (.failedRecovery li) s = .next (s.offer 1 [stateReq li .off 1 (writerReqr (s.policy li).failWriter)]) := by
  rw [show exec (.failedRecovery li) s = _ from State.arrive_runs hs.1 _ _, runFailedRecovery]
  dsimp only
  rw [if_pos (by simp [hs.2, hst, hep, hway, hrec, hkept])]

theorem exec_failedRecovery_of_undue {li : Fin 2048} (h : s.st li ≠ .failed ∨ s.keptFailed li = true) :
    exec (.failedRecovery li) s = .next s := by
  rw [show exec (.failedRecovery li) s = _ from State.arrive_runs hs.1 _ _, runFailedRecovery]
  dsimp only
  rw [if_neg]
  rcases h with h | h <;> simp [h]

theorem exec_fltFaultnRel_of_ready : exec .fltFaultnRel s = .next (if s.noSafe then { s with faultN := false } else s) := by
  rw [show exec .fltFaultnRel s = _ from State.arrive_runs hs.1 _ _, runFltFaultnRel, if_pos hs.2]
  rfl

/-- A write of one bit raises the request for its event, with the tag that follows the last (R278, R559). -/
theorem exec_evtAck_of_single (i : Iface) (k : Fin 8) {b : Nat} (hb : b < 32) : exec (.evtAck i k (BitVec.ofNat 32 (2 ^ b))) s =
    .next (s.hostRaise i [{ stateReq (liEvent (32 * k + b)) .clear 4 (reqrIface i) with tag := (s.iface i).lastTag + 1 }]) := by
  rw [show exec (.evtAck i k (BitVec.ofNat 32 (2 ^ b))) s = _ from State.arrive_runs hs.1 _ _, runEvtAck, if_pos hs.2, State.ackEvents,
    maskSources_of_single k hb, List.foldl_cons, List.foldl_nil, State.govern, if_neg (by simp [hs.2])]
  rfl

end

/-- Settles O30, command by command: a qualification by its severity, a count and an entry by what `State.srcEntry` submits, the other
commands by the one request that they make. -/
theorem collectorDecides : Obligations.CollectorDecides := by
  unfold Obligations.CollectorDecides
  intro s hs
  refine ⟨fun n hused hon hqual hpersist hsev hwake => ?log, fun n hused hon hqual hpersist hsev hpark => ?safe,
    fun n hqual => exec_persistQualify_of_qualified hs hqual, fun n hdue hmany => ?full, fun n hgone => exec_occurrenceExpire_of_gone hs hgone,
    fun n hdue hfew hsome hused hopen hnew => ?expires, fun n hdirty hopen hused hnew => ?submits, fun n hdirty hopen hused hsame => ?same,
    fun n hclean => ?clean, fun li n hkind hst hep hway hsrc => ?latches, fun li hst => ?running, fun li hep => exec_latchSubmit_of_undue hs (.inr hep),
    fun li hkept => exec_failedRecovery_of_undue hs (.inr hkept), fun li hst hep hway hrec hkept => ?recovers, fun hnone => ?released,
    fun hsafe => ?driven, fun i k mask b hb hmask hroom => ?acknowledges⟩
  case log =>
    have hout := (Stirs.qualifyWith State.wake Stirs.wake s n (builtInMoves n (s.src n).cause)).outside
    obtain ⟨p, hp⟩ := State.qualifyWith_of_log State.wake (builtInMoves n (s.src n).cause) hsev hwake
    rw [hp] at hout
    refine ⟨_, exec_persistQualify_of_due hs hused hon hqual hpersist, ?_⟩
    rw [hp]
    have hsrc := State.src_of_srcs (s := s.qualified n) (t := { s.qualified n with pipe := p }) rfl
    refine ⟨?_, fun m hm => ?_, State.qualified_recd s n, State.qualified_faultN s n, hout, State.qualified_led s n⟩
    · rw [hsrc, State.qualified_src]
    · rw [hsrc, State.qualified_src_ne s n hm]
  case safe =>
    have hout := (Stirs.qualifyWith State.wake Stirs.wake s n (builtInMoves n (s.src n).cause)).outside
    obtain ⟨t, hreacts, ht⟩ := State.qualifyWith_of_safe State.wake (builtInMoves n (s.src n).cause) hsev
    have hsrc : t.src n = _ := (State.src_of_srcs hreacts.srcs n).trans (State.qualified_src s n)
    have hstays : t.glb.parkPend = false := (congrArg Glb.parkPend hreacts.glb).trans hpark
    obtain ⟨w, hw⟩ := State.wake_of_unparking (s := { t with faultN := true }) hstays 5
    rw [ht, hw] at hout
    refine ⟨_, exec_persistQualify_of_due hs hused hon hqual hpersist, ?_⟩
    rw [ht, hw]
    exact ⟨rfl, congrArg Source.pend hsrc, hout⟩
  case full =>
    rw [exec_occurrenceExpire_of_due hs hdue, if_pos]
    · rfl
    · rw [State.dropOccurrence_count, Source.count]
      omega
  case expires =>
    have hlen : 0 < (s.src n).occ.length := List.length_pos_iff.2 hsome
    have hcount : ((s.dropOccurrence n).src n).count = (s.src n).occ.length - 1 := by
      rw [State.dropOccurrence_count]
      omega
    have hsrc : (s.dropOccurrence n).src n = { s.src n with occ := (s.src n).occ.tail } := State.modSrc_src ..
    obtain ⟨hat, hasks, hother, honly⟩ := State.srcEntry_submits (s := s.dropOccurrence n) (n := n) hs.2 hused (by rw [hsrc]; exact hopen)
      (by rw [State.dropOccurrence_srcState, hcount, hsrc]; exact hnew)
    refine ⟨_, exec_occurrenceExpire_of_due hs hdue, ?_⟩
    rw [if_neg (by rw [hcount, Source.count]; omega)]
    refine ⟨?_, ⟨_, hasks, rfl, ?_⟩, fun m hm => ?_, honly⟩
    · rw [hat, State.dropOccurrence_srcState, hcount, hsrc]
    · rw [State.entryReq, hcount]
    · rw [hother m hm, State.dropOccurrence, State.modSrc_src_ne _ _ _ _ hm]
  case submits =>
    refine ⟨_, exec_sourceEntryCommit_of_ready hs n, ?_⟩
    rw [if_pos (by simp [hdirty, hopen])]
    exact State.srcEntry_submits hs.2 hused hopen hnew
  case same => rw [exec_sourceEntryCommit_of_ready hs, if_pos (by simp [hdirty, hopen]), State.srcEntry_of_same hs.2 hused hsame]
  case clean => rw [exec_sourceEntryCommit_of_ready hs, if_neg (by simp [hclean])]
  case latches => exact ⟨_, exec_latchSubmit_of_due hs hkind hst hep hway hsrc, State.offer_mem .., State.offer_only (by decide) ..⟩
  case running => exact ⟨exec_latchSubmit_of_undue hs (.inl hst), exec_failedRecovery_of_undue hs (.inl hst)⟩
  case recovers => exact ⟨_, exec_failedRecovery_of_due hs hst hep hway hrec hkept, State.offer_mem .., State.offer_only (by decide) ..⟩
  case released => rw [exec_fltFaultnRel_of_ready hs, if_pos hnone]
  case driven => rw [exec_fltFaultnRel_of_ready hs, if_neg (by simp [hsafe])]
  case acknowledges =>
    subst hmask
    refine ⟨_, exec_evtAck_of_single hs i k hb, ?_⟩
    rw [State.hostRaise_of_room _ hroom]
    exact ⟨⟨_, State.offer_mem .., rfl, rfl, rfl, rfl⟩,
      State.only_pipe_host (State.modIface_only ..) (State.offer_only (ifacePort_ne_seven i) ..)⟩

end Sys2Proof.Machine
end

section
/-! PROOFS. O31: an occurrence counts from its time in units of 4 ns (R261), which in PARKED is not its core cycle (R6, R284). -/

namespace Sys2Proof.Machine

/-- A block that uses FS280 and went to PARKED, where a core cycle lasts 40 ns, ten cycles ago. -/
def parkedTenCycles : State :=
  { img := [(Img.fltUsed.addr 280, BitVec.ofNat 32 (2 ^ Img.fltUsed.lo))], cyc := 1010, tickAt := 2000,
    glb := { mode := .parked, modeCyc := 1000, modeTime := 1000 }, led := { epoch := 5, pubEpoch := 4 } }

/-- A copy that fails its CRC counts at the time 1000 + 10 * 10, not at core cycle 1010. -/
theorem parkedTenCycles_occurrence :
    ((parkedTenCycles.after (exec .linkCopyCrcFail parkedTenCycles)).src 280).occ = [1100] := by
  decide +kernel

/-- Refutes O31: the clause of FS280 (R284) counts the occurrence from the core cycle. The model counts it from the time, as
FLT_CNT_W is a time (R261), and the two differ once the block has been in PARKED. -/
theorem not_lanesAreIsolatedAndReform : ¬ Obligations.LanesAreIsolatedAndReform := by
  unfold Obligations.LanesAreIsolatedAndReform
  intro h
  have hready : parkedTenCycles.ready := ⟨⟨rfl, rfl, rfl, rfl⟩, rfl⟩
  obtain ⟨-, -, -, -, hcopy⟩ := h.1 parkedTenCycles 0 hready rfl rfl
  obtain ⟨t, ht, -, -, hcounts, -⟩ := hcopy
  obtain ⟨-, hcycle⟩ := hcounts (by decide +kernel) (by decide +kernel) rfl
  have htime := parkedTenCycles_occurrence
  rw [ht] at htime
  exact absurd (hcycle.symm.trans htime) (by decide)

end Sys2Proof.Machine
end

section
/-! PROOFS. What the collector keeps of the causes that hold: no reaction, request, event or wake condition writes them (R430, R659). -/

namespace Sys2Proof.Machine

/-- A trigger condition touches the trace buffers alone (R209). -/
theorem State.traceExt_only (s : State) (cond : Nat → Nat → Nat → Bool) :
    s.traceExt cond = { s with traces := (s.traceExt cond).traces } := by
  unfold State.traceExt
  refine State.foldl_only_traces (fun t b => ?_) _ s
  dsimp only
  split <;> rfl

/-- From s to t every source keeps the causes that hold it. -/
structure KeepsHolds (s t : State) : Prop where
  holds : ∀ m, (t.src m).holds = (s.src m).holds

theorem KeepsHolds.of_srcs {s t : State} (h : t.srcs = s.srcs) : KeepsHolds s t := ⟨fun m => congrArg Source.holds (State.src_of_srcs h m)⟩

theorem KeepsHolds.of_reacts {s t : State} (h : Reacts s t) : KeepsHolds s t := .of_srcs h.srcs

theorem KeepsHolds.refl (s : State) : KeepsHolds s s := ⟨fun _ => rfl⟩

theorem KeepsHolds.trans {a b c : State} (h : KeepsHolds a b) (k : KeepsHolds b c) : KeepsHolds a c :=
  ⟨fun m => (k.holds m).trans (h.holds m)⟩

theorem KeepsHolds.ite {a b c : State} {p : Prop} [Decidable p] (h : KeepsHolds a b) (k : KeepsHolds a c) :
    KeepsHolds a (if p then b else c) := by
  split <;> assumption

section
variable (s : State)

theorem KeepsHolds.modSrc (n : Nat) (f : Source → Source) (h : ∀ x, (f x).holds = x.holds) : KeepsHolds s (s.modSrc n f) := by
  refine ⟨fun m => ?_⟩
  rw [State.modSrc_src_at]
  split
  next hm => rw [h, hm]
  · rfl

theorem KeepsHolds.srcEntry (n : Nat) : KeepsHolds s (s.srcEntry n) := by
  unfold State.srcEntry
  extract_lets now r
  have hsent : KeepsHolds s (s.modSrc n fun x => { x with committed := true, dirty := false, sent := now }) := .modSrc s n _ fun _ => rfl
  exact .ite (.refl s) (.ite (.modSrc s n _ fun _ => rfl) (.ite (.modSrc s n _ fun _ => rfl)
    (hsent.trans (.of_srcs (State.offer_srcs (by decide) _ _)))))

theorem KeepsHolds.raiseWith {pulse : State → Nat → State} (hp : ∀ t n, KeepsHolds t (pulse t n)) (e reqr : Nat) :
    KeepsHolds s (s.raiseWith pulse e reqr) := by
  unfold State.raiseWith
  extract_lets x val now counted recorded asked n
  have hasked : KeepsHolds s asked := .of_srcs ((State.offer_srcs (by decide) recorded _).trans (State.addRec_srcs counted _ _))
  exact .ite (.refl s) (.ite (hasked.trans (hp _ _)) hasked)

theorem KeepsHolds.wakeWith {raise : State → Nat → Nat → State} {pulse : State → Nat → State} (hr : ∀ t e r, KeepsHolds t (raise t e r))
    (hp : ∀ t n, KeepsHolds t (pulse t n)) (code : Nat) : KeepsHolds s (s.wakeWith raise pulse code) := by
  unfold State.wakeWith
  extract_lets now unparked
  have hglb : KeepsHolds s unparked := .of_srcs rfl
  refine .ite ?_ (.ite ((hglb.trans (hr _ _ _)).trans (hp _ _)) (.refl s))
  split
  · exact .of_srcs rfl
  · exact .ite (.of_srcs rfl) (.refl s)

theorem KeepsHolds.qualifyWith {wake : State → Nat → State} (hw : ∀ t c, KeepsHolds t (wake t c)) (n : Nat) (moved : Bool) :
    KeepsHolds s (s.qualifyWith wake n moved) := by
  unfold State.qualifyWith
  extract_lets cause sev qualified now pending triggered answered reacted signalled
  have hqual : KeepsHolds s qualified := .modSrc s n _ fun _ => rfl
  have htrig : KeepsHolds qualified triggered :=
    (KeepsHolds.modSrc qualified n (fun x => { x with pend := true, pendCyc := now }) fun _ => rfl).trans (.of_srcs rfl)
  have hanswered : Reacts triggered answered := .ite (.refl _) (.localReaction ..)
  have hreact : Reacts triggered reacted := by
    refine hanswered.trans (.ite ?_ (.ite (.foldl (fun t g => .groupReaction t n sev g) _ _) (.refl _)))
    split
    · exact .groupReaction ..
    · exact .refl _
  have hsig : KeepsHolds reacted signalled := .ite (.of_srcs rfl) (.refl _)
  have hall : KeepsHolds s signalled := ((hqual.trans htrig).trans (.of_reacts hreact)).trans hsig
  exact .ite hqual (.ite (hall.trans (hw _ _)) hall)

theorem KeepsHolds.occurWith {wake : State → Nat → State} (hw : ∀ t c, KeepsHolds t (wake t c)) (n cause : Nat) (overload : Bool) :
    KeepsHolds s (s.occurWith wake n cause overload) := by
  unfold State.occurWith
  extract_lets latched traced moved asked counted x qual recorded qualified
  have hlatched : KeepsHolds s latched := (KeepsHolds.modSrc s n (fun x => { x with cause := cause }) fun _ => rfl).trans (.ite (.refl _) (.of_srcs rfl))
  have htraced : KeepsHolds latched traced := .of_srcs (congrArg State.srcs (State.traceExt_only ..) :)
  have hasked : KeepsHolds traced asked := .of_reacts (.builtIn ..)
  have hleft : KeepsHolds asked (asked.leaveCount n) := .ite (.refl _) (.modSrc _ _ _ fun _ => rfl)
  have hcounted : KeepsHolds (asked.leaveCount n) counted := by
    refine (KeepsHolds.modSrc _ n (fun x => { x with sticky := true, occ := x.occ ++ [asked.glb.lineAt.getD asked.time] }) fun _ => rfl).trans ?_
    unfold counted State.latchNote
    split
    · exact .ite (.of_srcs rfl) (.refl _)
    · exact .refl _
  have hrec : KeepsHolds counted recorded := .of_srcs (State.addRec_srcs ..)
  exact hlatched.trans <| htraced.trans <| hasked.trans <| hleft.trans <| hcounted.trans <| hrec.trans <|
    (KeepsHolds.ite (.qualifyWith _ hw ..) (.refl _)).trans (.srcEntry ..)

theorem KeepsHolds.clearSrc (n : Nat) : KeepsHolds s (s.clearSrc n) := by
  unfold State.clearSrc
  extract_lets unqualified released
  have hunq : KeepsHolds s unqualified := .modSrc s n _ fun _ => rfl
  have hrel : KeepsHolds unqualified released := .ite (.of_srcs rfl) (.refl _)
  exact (hunq.trans hrel).trans (.srcEntry ..)

/-- Whatever follows a change of source n keeps the causes that hold (R258). -/
theorem KeepsHolds.srcChangeWith {wake : State → Nat → State} (hw : ∀ t c, KeepsHolds t (wake t c)) (n : Nat) (f : Source → Source) (cause : Nat)
    (overload : Bool) : KeepsHolds (s.modSrc n f) (s.srcChangeWith wake n f cause overload) := by
  unfold State.srcChangeWith
  dsimp only
  exact .ite (.ite (.modSrc _ n _ fun _ => rfl) (.refl _)) (.ite (.ite (.of_reacts (.builtIn ..)) (.refl _))
    (.ite (.occurWith _ hw ..) (.ite (.clearSrc ..) (.ite (.srcEntry ..) (.refl _)))))

theorem KeepsHolds.pulseN (k n : Nat) : KeepsHolds s (State.pulseN k s n) := by
  induction k generalizing s n with
  | zero => exact .refl s
  | succ k ih =>
    have hw (t : State) (c : Nat) : KeepsHolds t (t.wakeWith (State.raiseWith (State.pulseN k)) (State.pulseN k) c) :=
      .wakeWith t (fun t e r => .raiseWith t ih e r) ih c
    have hline (t : State) (b : Bool) : KeepsHolds t
        (t.srcChangeWith (State.wakeWith (State.raiseWith (State.pulseN k)) (State.pulseN k)) n (fun x => { x with line := b }) 0) :=
      (KeepsHolds.modSrc t n (fun x => { x with line := b }) fun _ => rfl).trans (.srcChangeWith t hw ..)
    exact .ite (.refl s) ((hline s true).trans (hline _ false))

theorem KeepsHolds.wake (code : Nat) : KeepsHolds s (s.wake code) :=
  .wakeWith s (fun t e r => .raiseWith t (fun u n => .pulseN u 4 n) e r) (fun t n => .pulseN t 4 n) code

theorem KeepsHolds.assertSrc (n cause : Nat) : KeepsHolds s (s.assertSrc n cause) :=
  (KeepsHolds.modSrc s n (fun x => { x with line := true }) fun _ => rfl).trans (.srcChangeWith s KeepsHolds.wake ..)

theorem KeepsHolds.releaseSrc (n : Nat) : KeepsHolds s (s.releaseSrc n) :=
  (KeepsHolds.modSrc s n (fun x => { x with line := false }) fun _ => rfl).trans (.srcChangeWith s KeepsHolds.wake ..)

/-! A source with several causes (R430). -/

variable (n c : Nat) (on : Bool)

/-- The causes that hold source n once cause c holds, or no longer holds. -/
def State.holdsWith (s : State) (n c : Nat) (on : Bool) : BitVec 16 :=
  if on then (s.src n).holds ||| BitVec.ofNat 16 (2 ^ c) else (s.src n).holds &&& ~~~BitVec.ofNat 16 (2 ^ c)

theorem State.holdCause_outside : (s.holdCause n c on).outside = s.outside := by
  unfold State.holdCause
  extract_lets m old new held
  have hheld : held.outside = s.outside := rfl
  split
  · rfl
  · split
    · exact (State.assertSrc_outside ..).trans hheld
    · split
      · exact (State.releaseSrc_outside ..).trans hheld
      · exact hheld

theorem State.holdCause_holds : ((s.holdCause n c on).src n).holds = s.holdsWith n c on := by
  unfold State.holdCause
  extract_lets m old new held
  have hnew : new = s.holdsWith n c on := rfl
  have hheld : (held.src n).holds = new := congrArg Source.holds (State.modSrc_src ..)
  rw [← hnew]
  split
  next hsame => exact hsame.symm
  · split
    · exact ((KeepsHolds.assertSrc held n c).holds n).trans hheld
    · split
      · exact ((KeepsHolds.releaseSrc held n).holds n).trans hheld
      · exact hheld

variable {s n c}

/-- The first cause that holds asserts the line. -/
theorem State.holdCause_line_of_first (hn : pulsed n = false) (hc : c < 16) (hold : (s.src n).holds = 0) :
    ((s.holdCause n c true).src n).line = true := by
  have hbit : (0 : BitVec 16) ||| BitVec.ofNat 16 (2 ^ c) ≠ 0 := by interval_cases c <;> decide
  rw [State.holdCause]
  dsimp only
  rw [if_pos rfl, hold, if_neg hbit, if_pos rfl, State.assertSrc_line _ _ _ hn]

/-- The end of the last cause that holds releases it. -/
theorem State.holdCause_line_of_last (hn : pulsed n = false) (hc : c < 16) (hold : (s.src n).holds = BitVec.ofNat 16 (2 ^ c)) :
    ((s.holdCause n c false).src n).line = false := by
  have hbit : BitVec.ofNat 16 (2 ^ c) ≠ 0 := by interval_cases c <;> decide
  have hnone : BitVec.ofNat 16 (2 ^ c) &&& ~~~BitVec.ofNat 16 (2 ^ c) = 0 := BitVec.and_not_self _
  rw [State.holdCause]
  dsimp only
  rw [if_neg Bool.false_ne_true, hold, hnone, if_neg hbit.symm, if_neg hbit, if_pos rfl, State.releaseSrc_line _ _ hn]

end

end Sys2Proof.Machine
end

section
/-! PROOFS. O34: references, ideal diodes, watched supplies and the peak of the holds (R304 to R309, R312, R313). -/

namespace Sys2Proof.Machine

theorem State.lane_of_outside {s t : State} (h : t.outside = s.outside) : t.lane = s.lane := (congrArg State.lane h :)

theorem b2n_lt_two (b : Bool) : b2n b < 2 := by cases b <;> decide

/-- A move of the consumers of reference k marks it as outside agreement (R304). -/
theorem Lane.moveRef_refOk (x : Lane) (k : Nat) : (x.moveRef k).refOk = mask3 x.refOk k false := by
  unfold Lane.moveRef
  dsimp only
  split <;> rfl

/-- The sources of the watched supplies are FS361 to FS363, with a cause per supply (R309). -/
theorem supplyPlace_bounds (sup : Supply) : pulsed (supplyPlace sup).1 = false ∧ (supplyPlace sup).2.1 < 16 := by
  cases sup with
  | vdrv => exact ⟨rfl, by decide⟩
  | buck n => exact ⟨rfl, Nat.lt_trans n.isLt (by decide)⟩
  | ldo n => exact ⟨rfl, Nat.lt_trans n.isLt (by decide)⟩

/-! The commands while the lanes run and the block governs. -/

section
variable {s : State} (hs : s.ready)
include hs

theorem exec_referenceDisagree_of_ready (k : Fin 3) : exec (.referenceDisagree k true) s = .next ((s.refStepOut k true).assertSrc (269 + k) 0) :=
  State.arrive_runs hs.1 _ _

/-- When no two references agree, all three sources assert (R304). -/
theorem exec_referenceDisagree_of_none (k : Fin 3) : exec (.referenceDisagree k false) s =
    .next ((((s.refStepOut k false).assertSrc 269 0).assertSrc 270 0).assertSrc 271 0) :=
  State.arrive_runs hs.1 _ _

theorem exec_reverseCurrent_of_ready (b : Bool) : exec (.reverseCurrent b) s = .next ((s.pairReverse b true).holdCause (356 + b2n b) 1 true) :=
  State.arrive_runs hs.1 _ _

theorem exec_idealDiodeReenable_of_off {b : Bool} (h : s.lane.pairRc.getLsbD (b2n b) = true) : exec (.idealDiodeReenable b) s =
    .next ((s.pairReverse b false).holdCause (356 + b2n b) 1 false) := by
  rw [show exec (.idealDiodeReenable b) s = _ from State.arrive_runs hs.1 _ _, runIdealDiodeReenable, if_pos (by rw [h]; rfl)]

theorem exec_vinOvervoltage_of_ready (b : Bool) : exec (.vinOvervoltage b) s = .next ((s.pairOver b true).assertSrc (354 + b2n b) 0) :=
  State.arrive_runs hs.1 _ _

theorem exec_vinOvRelease_of_off {b : Bool} (h : s.lane.pairOv.getLsbD (b2n b) = true) : exec (.vinOvRelease b) s =
    .next ((s.pairOver b false).releaseSrc (354 + b2n b)) := by
  rw [show exec (.vinOvRelease b) s = _ from State.arrive_runs hs.1 _ _, runVinOvRelease, if_pos (by rw [h]; rfl)]

theorem exec_idealDiodeGateFault_of_ready (b : Bool) : exec (.idealDiodeGateFault b) s = .next (s.holdCause (356 + b2n b) 0 true) :=
  State.arrive_runs hs.1 _ _

theorem exec_supplyUndervoltage_of_watched {sup : Supply} (h : s.supplyWatched sup = true) : exec (.supplyUndervoltage sup true) s =
    .next ((s.modLane fun x => { x with supLow := x.supLow ||| BitVec.ofNat 17 (2 ^ (supplyPlace sup).2.2) }).holdCause
      (supplyPlace sup).1 (supplyPlace sup).2.1 true) := by
  rw [show exec (.supplyUndervoltage sup true) s = _ from State.arrive_runs hs.1 _ _, runSupplyUndervoltage, if_neg (by simp [h])]
  rfl

theorem exec_supplyUndervoltage_of_unwatched {sup : Supply} (h : s.supplyWatched sup = false) (low : Bool) :
    exec (.supplyUndervoltage sup low) s = .next s := by
  rw [show exec (.supplyUndervoltage sup low) s = _ from State.arrive_runs hs.1 _ _, runSupplyUndervoltage, if_pos (by rw [h]; rfl)]

theorem exec_laneHoldPkClr_of_ready : exec .laneHoldPkClr s =
    .next (s.modLane fun x => { x with holdMax := if s.lane.endCyc = some s.cyc then x.holdLen else 0 }) := by
  rw [show exec .laneHoldPkClr s = _ from State.arrive_runs hs.1 _ _, runLaneHoldPkClr, if_pos hs.2]
  rfl

end

/-- Settles O34: each command changes the lanes' record at once, and the collector hears of it through a line or a cause that holds. -/
theorem suppliesAndReferences : Obligations.SuppliesAndReferences := by
  unfold Obligations.SuppliesAndReferences
  intro s hs
  have hpair (b : Bool) : pulsed (356 + b2n b) = false ∧ pulsed (354 + b2n b) = false := by cases b <;> exact ⟨rfl, rfl⟩
  refine ⟨fun k => ?moves, fun k => ?stays, fun b => ?reverses, fun b hrc hholds => ?reenables, fun b => ?overVolts, fun b hov => ?released,
    fun b hholds => ?gate, fun sup hwatched hholds => ?supply, fun sup low hunwatched => exec_supplyUndervoltage_of_unwatched hs hunwatched low,
    fun hend => ?clears, fun hend => ?loads⟩
  case moves =>
    have hout := State.assertSrc_outside (s.refStepOut k true) (269 + k) 0
    have hlane := State.lane_of_outside hout
    refine ⟨_, exec_referenceDisagree_of_ready hs k, State.assertSrc_line _ _ _ (pulsed_eq_false (by omega) (by omega)), hlane, ?_, ?_⟩
    · rw [hlane]
      exact Lane.moveRef_refOk s.lane k
    · rw [hout, hlane]
      rfl
  case stays =>
    refine ⟨_, exec_referenceDisagree_of_none hs k, ?_, ?_, State.assertSrc_line _ _ _ rfl, ?_⟩
    · rw [Stirs.assertOther _ _ _ _ rfl, if_neg (by decide), Stirs.assertOther _ _ _ _ rfl, if_neg (by decide), State.assertSrc_line _ _ _ rfl]
    · rw [Stirs.assertOther _ _ _ _ rfl, if_neg (by decide), State.assertSrc_line _ _ _ rfl]
    · rw [State.assertSrc_outside, State.assertSrc_outside, State.assertSrc_outside]
      rfl
  case reverses =>
    have hout := State.holdCause_outside (s.pairReverse b true) (356 + b2n b) 1 true
    have hlane := State.lane_of_outside hout
    refine ⟨_, exec_reverseCurrent_of_ready hs b, congrArg Lane.pairRc hlane, congrArg Lane.pairOn hlane, State.holdCause_holds .., fun hholds =>
      State.holdCause_line_of_first (hpair b).1 (by decide) hholds, ?_⟩
    rw [hout, hlane]
    rfl
  case reenables =>
    have hout := State.holdCause_outside (s.pairReverse b false) (356 + b2n b) 1 false
    have hlane := State.lane_of_outside hout
    refine ⟨_, exec_idealDiodeReenable_of_off hs hrc, congrArg Lane.pairRc hlane, congrArg Lane.pairOn hlane,
      State.holdCause_line_of_last (hpair b).1 (by decide) hholds, ?_⟩
    rw [hout, hlane]
    rfl
  case overVolts =>
    have hout := State.assertSrc_outside (s.pairOver b true) (354 + b2n b) 0
    have hlane := State.lane_of_outside hout
    refine ⟨_, exec_vinOvervoltage_of_ready hs b, congrArg Lane.pairOv hlane, congrArg Lane.pairOn hlane, State.assertSrc_line _ _ _ (hpair b).2, ?_⟩
    rw [hout, hlane]
    rfl
  case released =>
    have hout := State.releaseSrc_outside (s.pairOver b false) (354 + b2n b)
    have hlane := State.lane_of_outside hout
    refine ⟨_, exec_vinOvRelease_of_off hs hov, congrArg Lane.pairOv hlane, congrArg Lane.pairOn hlane, State.releaseSrc_line _ _ (hpair b).2, ?_⟩
    rw [hout, hlane]
    rfl
  case gate =>
    refine ⟨_, exec_idealDiodeGateFault_of_ready hs b, State.holdCause_line_of_first (hpair b).1 (by decide) hholds, ?_, State.holdCause_outside ..⟩
    rw [State.holdCause_holds, State.holdsWith, hholds]
    rfl
  case supply =>
    obtain ⟨hpulsed, hcause⟩ := supplyPlace_bounds sup
    refine ⟨_, exec_supplyUndervoltage_of_watched hs hwatched, State.holdCause_line_of_first hpulsed hcause hholds, ?_⟩
    rw [State.holdCause_outside]
    rfl
  case clears => simp only [exec_laneHoldPkClr_of_ready hs, if_neg hend]
  case loads => simp only [exec_laneHoldPkClr_of_ready hs, if_pos hend]

end Sys2Proof.Machine
end

section
/-! PROOFS. The rails in a hold and at its end, the records that an ended hold makes, and the isolation of a lane (R285, R289 to R292). -/

namespace Sys2Proof.Machine

/-! Rails hold, and go on (R204, R289, R301). -/

/-- A rail that is not OFF holds. -/
def State.holdRail (s : State) (r : Nat) : State :=
  if s.isIn r [.off, .absent] then s else s.modRail r fun x => { x with hold := true }

/-- A rail that holds goes on. -/
def State.releaseRail (s : State) (r : Nat) : State :=
  if !(s.rail r).hold then s
  else
    let t := s.modRail r fun x => { x with hold := false }
    if r < 32 && (t.rail r).running then t.modLoopSt r fun l => { l with transfer := some (Config.shadowDemand s.lane.holdCnt r).toInt } else t

theorem State.only_rails_trans {s t u : State} (ht : t = { s with rails := t.rails }) (hu : u = { t with rails := u.rails }) :
    u = { s with rails := u.rails } := by
  rw [hu, ht]

theorem State.only_rails_lathe_trans {s t u : State} (ht : t = { s with rails := t.rails, lathe := t.lathe })
    (hu : u = { t with rails := u.rails, lathe := u.lathe }) : u = { s with rails := u.rails, lathe := u.lathe } := by
  rw [hu, ht]

theorem State.holdRails_eq (s : State) : s.holdRails = (List.range 40).foldl State.holdRail s := rfl

theorem State.releaseRails_eq (s : State) : s.releaseRails = (List.range 40).foldl State.releaseRail s := rfl

theorem decide_mem_cons (r q : Nat) (l : List Nat) : decide (r ∈ q :: l) = (q == r || decide (r ∈ l)) := by
  simp [List.mem_cons, eq_comm, Bool.beq_eq_decide_eq]

section
variable (s : State)

theorem State.holdRail_only (r : Nat) : s.holdRail r = { s with rails := (s.holdRail r).rails } := by
  unfold State.holdRail
  split <;> rfl

/-- A hold begins with the rails' own bits alone (R289). -/
theorem State.holdRails_only : s.holdRails = { s with rails := s.holdRails.rails } :=
  List.foldlRecOn (motive := fun t : State => t = { s with rails := t.rails }) _ State.holdRail rfl fun t ht r _ =>
    State.only_rails_trans ht (t.holdRail_only r)

theorem State.holdRail_hold (q r : Nat) :
    ((s.holdRail q).rail r).hold = (q == r && !s.isIn r [.off, .absent] || (s.rail r).hold) := by
  unfold State.holdRail
  by_cases hq : q = r
  · subst hq
    cases hoff : s.isIn q [.off, .absent] <;> simp
  · rw [beq_false_of_ne hq, Bool.false_and, Bool.false_or]
    split
    · rfl
    · rw [State.modRail_rail_ne _ _ _ _ (Ne.symm hq)]

theorem State.foldl_holdRail_hold (l : List Nat) (r : Nat) :
    ((l.foldl State.holdRail s).rail r).hold = (decide (r ∈ l) && !s.isIn r [.off, .absent] || (s.rail r).hold) := by
  induction l generalizing s with
  | nil => rfl
  | cons q l ih =>
    have hisIn : (s.holdRail q).isIn r [.off, .absent] = s.isIn r [.off, .absent] := by
      rw [State.holdRail_only]
      rfl
    rw [List.foldl_cons, ih, hisIn, State.holdRail_hold, decide_mem_cons]
    cases q == r <;> cases decide (r ∈ l) <;> simp

/-- Rails that are neither OFF nor ABSENT hold (R289). -/
theorem State.holdRails_hold {r : Nat} (hr : r < 40) :
    (s.holdRails.rail r).hold = (!s.isIn r [.off, .absent] || (s.rail r).hold) := by
  rw [State.holdRails_eq, State.foldl_holdRail_hold, decide_eq_true (List.mem_range.2 hr), Bool.true_and]

theorem State.releaseRail_only (r : Nat) :
    s.releaseRail r = { s with rails := (s.releaseRail r).rails, lathe := (s.releaseRail r).lathe } := by
  unfold State.releaseRail
  split
  · rfl
  · dsimp only
    split <;> rfl

/-- The end of a hold leaves all but the rails and their loops (R204). -/
theorem State.releaseRails_only :
    s.releaseRails = { s with rails := s.releaseRails.rails, lathe := s.releaseRails.lathe } := by
  rw [State.releaseRails_eq]
  exact List.foldlRecOn (motive := fun t : State => t = { s with rails := t.rails, lathe := t.lathe }) _ State.releaseRail rfl fun t ht r _ =>
    State.only_rails_lathe_trans ht (t.releaseRail_only r)

theorem State.releaseRail_hold (q r : Nat) : ((s.releaseRail q).rail r).hold = (q != r && (s.rail r).hold) := by
  have hchanged : ((s.modRail q fun x => { x with hold := false }).rail r).hold = (q != r && (s.rail r).hold) := by
    rw [State.modRail_rail_at]
    by_cases hq : q = r <;> simp [hq]
  unfold State.releaseRail
  split
  next hfree =>
    by_cases hq : q = r
    · subst hq
      simpa using hfree
    · simp [hq]
  · dsimp only
    split <;> exact hchanged

theorem State.foldl_releaseRail_hold (l : List Nat) (r : Nat) :
    ((l.foldl State.releaseRail s).rail r).hold = (!decide (r ∈ l) && (s.rail r).hold) := by
  induction l generalizing s with
  | nil => rfl
  | cons q l ih =>
    rw [List.foldl_cons, ih, State.releaseRail_hold, decide_mem_cons, bne]
    cases q == r <;> cases decide (r ∈ l) <;> simp

/-- No rail holds any longer (R291). -/
theorem State.releaseRails_hold {r : Nat} (hr : r < 40) : (s.releaseRails.rail r).hold = false := by
  rw [State.releaseRails_eq, State.foldl_releaseRail_hold, decide_eq_true (List.mem_range.2 hr)]
  rfl

/-- A hold or a clock switch begins (R289, R301). -/
theorem State.holdBegin_eq (cause : Nat) : s.holdBegin cause =
    { s with lane := { s.lane with holdCause := cause, holdCnt := satAdd 0xFFFF s.lane.holdCnt 1 }, rails := s.holdRails.rails, glb := { s.glb with warmTick := false } } := by
  obtain ⟨rails, hrails⟩ : ∃ rails, s.holdRails = { s with rails := rails } := ⟨_, s.holdRails_only⟩
  rw [State.holdBegin, hrails]
  rfl

end

/-! The records of an ended hold (R292, R301). -/

/-- From s to t the collector takes records: nothing beyond it changes, and of the sources that no event pulses FS259 alone may clear. -/
structure Records (s t : State) : Prop where
  outside : t.outside = s.outside
  stays : ∀ m, pulsed m = false → m ≠ 259 → (s.src m).line = true → (t.src m).line = true

theorem Records.of_stirs {s t : State} (h : Stirs s t) : Records s t := ⟨h.outside, fun m hm _ hon => (h.lines m hm).trans hon⟩

theorem Records.refl (s : State) : Records s s := .of_stirs (.refl s)

theorem Records.trans {a b c : State} (h : Records a b) (k : Records b c) : Records a c :=
  ⟨k.outside.trans h.outside, fun m hm hne hon => k.stays m hm hne (h.stays m hm hne hon)⟩

theorem Records.ite {a b c : State} {p : Prop} [Decidable p] (h : Records a b) (k : Records a c) : Records a (if p then b else c) := by
  split <;> assumption

theorem Records.foldl {α : Type} {f : State → α → State} (h : ∀ t a, Records t (f t a)) (l : List α) (s : State) : Records s (l.foldl f s) :=
  List.foldlRecOn (motive := Records s) l f (.refl s) fun t ht a _ => ht.trans (h t a)

section
variable (s : State)

theorem Records.assertSrc (n cause : Nat) : Records s (s.assertSrc n cause) :=
  ⟨State.assertSrc_outside .., fun m hm _ hon => by rw [Stirs.assertOther _ _ _ _ hm, hon, ite_self]⟩

theorem Records.raiseEvt (e reqr : Nat) : Records s (s.raiseEvt e reqr) := .of_stirs (.raiseEvt s e reqr)

/-- FS259 asserts for one core cycle. -/
theorem Records.pulseHold : Records s (s.pulseSrc 259 0) := by
  refine ⟨State.pulseSrc_outside .., fun m hm hne hon => ?_⟩
  rw [State.pulseSrc, State.releaseSrc, State.srcChange_line _ _ _ _ _ _ hm, if_neg (Ne.symm hne)]
  exact (Records.assertSrc s 259 0).stays m hm hne hon

theorem Records.isolateNote (l : Nat) : Records s (s.isolateNote l) := (Records.assertSrc s _ _).trans (.raiseEvt ..)

theorem Records.settleNote (iso : List Nat) : Records s (s.settleNote iso) :=
  ((Records.foldl (fun t l => .isolateNote t l) iso s).trans (.pulseHold _)).trans (.raiseEvt ..)

theorem Records.switchNote : Records s s.switchNote := by
  unfold State.switchNote
  extract_lets noted
  have hnoted : Records s noted := .ite (.refl s) (.assertSrc ..)
  exact .ite hnoted (hnoted.trans (.raiseEvt ..))

/-- What the collector hears at the end of a hold, of a clock switch or of both (R294). -/
def State.endNotes (s : State) (settled : Option (List Nat)) (switched : Bool) : State :=
  match settled with
  | some iso => (if switched then s.switchNote else s).settleNote iso
  | none => if switched then s.switchNote else s

theorem Records.endNotes (settled : Option (List Nat)) (switched : Bool) : Records s (s.endNotes settled switched) := by
  have hswitch : Records s (if switched then s.switchNote else s) := .ite (.switchNote s) (.refl s)
  cases settled with
  | none => exact hswitch
  | some iso => exact hswitch.trans (.settleNote _ iso)

theorem State.isolateNote_line (l : Nat) (h : pulsed (256 + l) = false) : ((s.isolateNote l).src (256 + l)).line = true := by
  rw [State.isolateNote, (Stirs.raiseEvt ..).lines _ h, State.assertSrc_line _ _ _ h]

/-- An isolated lane's source asserts with the records of the hold (R292). -/
theorem State.settleNote_line {l : Nat} (h : pulsed (256 + l) = false) (hne : 256 + l ≠ 259) : ((s.settleNote [l]).src (256 + l)).line = true :=
  ((Records.pulseHold _).trans (.raiseEvt ..)).stays _ h hne (State.isolateNote_line s l h)

/-- The source whose fault began an ended clock switch asserts (R301). -/
theorem State.switchNote_line (h : pulsed s.lane.swSrc = false) (h0 : s.lane.swSrc ≠ 0) : (s.switchNote.src s.lane.swSrc).line = true := by
  unfold State.switchNote
  rw [if_neg h0]
  dsimp only
  split
  · exact State.assertSrc_line _ _ _ h
  · rw [(Stirs.raiseEvt ..).lines _ h, State.assertSrc_line _ _ _ h]

end

/-! The end of a hold with nothing held (R291). -/

theorem State.lanesRun.of_outside {s t : State} (hs : s.lanesRun) (h : t.outside = s.outside) : t.lanesRun := by
  have hlane : t.lane = s.lane := (congrArg State.lane h :)
  have hwarm : t.glb.warmBusy = s.glb.warmBusy := (congrArg (fun x => x.glb.warmBusy) h :)
  rw [State.lanesRun, hlane, hwarm]
  exact hs

/-- The lanes at the end of a hold of len core cycles that began at s: its length is noted, in units of 4 ns (R312, R345). -/
def State.rested (s : State) (len : Nat) : State :=
  { s with cyc := s.cyc + len, lane := { s.lane with settled := none, switched := false, holdLen := min 0xFFFF (len * s.cycTime), holdMax := max s.lane.holdMax (min 0xFFFF (len * s.cycTime)), endCyc := some (s.cyc + len) } }

theorem State.heldTicks_of_none {s : State} (h : s.lane.tickHeld = 0) : s.heldTicks = s := by
  have hlane : { s.lane with tickHeld := 0 } = s.lane := by rw [← h]
  rw [State.heldTicks, h, State.modLane, hlane]
  rfl

theorem State.holdEnd_of_lanesRun {s : State} (hs : s.lanesRun) (htick : s.lane.tickHeld = 0) (len : Nat) :
    s.holdEnd len = (s.rested len).endNotes s.lane.settled s.lane.switched := by
  have hheld := hs.held
  obtain ⟨-, -, hgov, hwarm⟩ := hs
  unfold State.holdEnd
  rw [if_neg (by simp [hheld])]
  extract_lets noted ticked
  rw [if_neg (show ¬noted.lane.govStop = true by rw [show noted.lane.govStop = _ from hgov]; decide)]
  have hticked : ticked = noted := by
    unfold ticked
    rw [if_neg (show ¬noted.glb.warmBusy = true by rw [show noted.glb.warmBusy = _ from hwarm]; decide)]
    exact State.heldTicks_of_none htick
  clear_value ticked
  subst hticked
  rfl

theorem State.takeHeld_of_none {s : State} (h : s.lane.boundary = []) (warm : Bool) :
    s.takeHeld warm = s.modGlb fun g => { g with lineAt := none } := by
  have hlane : { s.lane with boundary := [] } = s.lane := by rw [← h]
  rw [State.takeHeld_eq, h, State.modLane, hlane]
  rfl

theorem State.drain_of_none {s : State} (hs : s.lanesRun) (h : s.lane.boundary = []) :
    s.drain = (s.modGlb fun g => { g with lineAt := none }).releaseRails := by
  have hstop : ¬(s.lane.held || s.lane.govStop) = true := by
    rw [hs.held, hs.2.2.1]
    decide
  rw [State.drain, if_neg hstop, if_neg (by simp [hs.2.2.2])]
  dsimp only
  rw [State.takeHeld_of_none h]
  exact if_neg hstop

/-- While a hold goes on the boundary buffers keep what they hold (R290). -/
theorem State.drain_of_held {s : State} (h : s.lane.held = true) : s.drain = s := by
  rw [State.drain, h]
  rfl

/-- From s, where nothing is held, a hold of len core cycles ends at t. -/
structure HoldEnds (len : Nat) (s t : State) : Prop where
  rails : ∀ r, r < 40 → (t.rail r).hold = false
  rested : t.outside = { (s.rested len).outside with rails := t.rails, lathe := t.lathe, glb := { s.outside.glb with lineAt := none } }
  src : t.src = ((s.rested len).endNotes s.lane.settled s.lane.switched).src

theorem HoldEnds.lane {len : Nat} {s t : State} (h : HoldEnds len s t) : t.lane = (s.rested len).lane := (congrArg State.lane h.rested :)

theorem HoldEnds.cyc {len : Nat} {s t : State} (h : HoldEnds len s t) : t.cyc = s.cyc + len := (congrArg State.cyc h.rested :)

theorem HoldEnds.outside {len : Nat} {s t : State} (h : HoldEnds len s t) :
    t.outside = { s.outside with lane := t.lane, rails := t.rails, lathe := t.lathe, cyc := t.cyc, glb := { s.outside.glb with lineAt := none } } := by
  rw [h.rested, h.lane, h.cyc]
  rfl

/-- The end of a hold with nothing held: the rails go on, and the collector takes its records (R291). -/
theorem State.holdEnd_drain {s : State} (hs : s.lanesRun) (htick : s.lane.tickHeld = 0) (hnone : s.lane.boundary = []) (len : Nat) :
    HoldEnds len s (s.holdEnd len).drain := by
  rw [State.holdEnd_of_lanesRun hs htick]
  have hrec := (Records.endNotes (s.rested len) s.lane.settled s.lane.switched).outside
  obtain ⟨noted, hnoted⟩ : ∃ noted, (s.rested len).endNotes s.lane.settled s.lane.switched = noted := ⟨_, rfl⟩
  rw [hnoted] at hrec ⊢
  have hlane : noted.lane = (s.rested len).lane := (congrArg State.lane hrec :)
  have hruns : noted.lanesRun := State.lanesRun.of_outside (s := s.rested len) hs hrec
  rw [State.drain_of_none hruns (by rw [hlane]; exact hnone)]
  have hhold (r : Nat) (hr : r < 40) := (noted.modGlb fun g => { g with lineAt := none }).releaseRails_hold hr
  obtain ⟨rails, lathe, hrails⟩ : ∃ rails lathe, (noted.modGlb fun g => { g with lineAt := none }).releaseRails =
      { noted.modGlb (fun g => { g with lineAt := none }) with rails := rails, lathe := lathe } := ⟨_, _, State.releaseRails_only _⟩
  rw [hrails] at hhold ⊢
  have hout : ({ noted.modGlb (fun g => { g with lineAt := none }) with rails := rails, lathe := lathe } : State).outside =
      { noted.outside with rails := rails, lathe := lathe, glb := { noted.outside.glb with lineAt := none } } := rfl
  refine ⟨hhold, hout.trans ?_, by rw [hnoted]; rfl⟩
  rw [hrec]
  rfl

/-! The isolation of a lane (R285, R296). -/

/-- Re-forms that lose their source change the steps and sources of re-forms alone (R298). -/
theorem State.copyAgain_eq (s : State) (l : Nat) :
    ∃ step src, s.copyAgain l = s.modLane fun x => { x with rfStep := step, rfSrc := src } := by
  refine List.foldlRecOn (motive := fun t => ∃ step src, t = s.modLane fun x => { x with rfStep := step, rfSrc := src }) _ _
    ⟨s.lane.rfStep, s.lane.rfSrc, rfl⟩ ?_
  rintro t ⟨step, src, rfl⟩ k -
  split
  · exact ⟨_, _, rfl⟩
  · exact ⟨step, src, rfl⟩

/-- A lane that has not joined the vote of late leaves it, and its first attempt begins (R285, R296). -/
theorem State.isolateLane_eq {s : State} {l : Nat} (hperm : s.lane.perm.getLsbD l = false) (hjoin : s.lane.joinCyc.get 0 l = 0) :
    ∃ step src start att join, s.isolateLane l = s.modLane fun x => { x with vote := mask3 x.vote l false, reform := mask3 x.reform l true, isoCnt := satAdd 0xFFFF x.isoCnt 1, joinCyc := join, rfStep := step, rfSrc := src, rfStart := start, rfAtt := att } := by
  unfold State.isolateLane
  extract_lets joined again left copied now src begun
  obtain ⟨step, from_, hcopied⟩ : ∃ step src, copied = left.modLane fun x => { x with rfStep := step, rfSrc := src } := State.copyAgain_eq left l
  have hagain : again = false := by simp [again, joined, hjoin]
  have hkept : copied.lane.perm.getLsbD l = false := by rw [hcopied]; exact hperm
  rw [if_neg (by simp [hkept]), hagain, if_neg Bool.false_ne_true]
  unfold begun
  rw [hcopied]
  exact ⟨_, _, _, _, _, rfl⟩

end Sys2Proof.Machine
end

section
/-! PROOFS. O32: a chuck hold, its three stages and its end (R289 to R292, R294, R312, R345). -/

namespace Sys2Proof.Machine

/-! The beginning of a hold, and the end of governing (R209, R289, R295). -/

section
variable (s : State)

/-- A trigger condition leaves the trace buffers that are not armed (R209). -/
theorem State.traceExt_trace_of_unarmed (cond : Nat → Nat → Nat → Bool) {b : Nat} (h : (s.trace b).st ≠ .armed) :
    (s.traceExt cond).trace b = s.trace b := by
  refine List.foldlRecOn (motive := fun t : State => t.trace b = s.trace b) _ _ rfl fun t ht k _ => ?_
  dsimp only
  split
  next harmed =>
    have hk : b ≠ k := by
      rintro rfl
      simp [ht, h] at harmed
    rw [State.modTrace_trace_ne _ _ _ _ hk, ht]
  · exact ht

theorem State.governStop_eq : s.governStop =
    { s with lane := { s.lane with govStop := true, hold := none, settled := none, switched := false, boundary := [], tickHeld := 0 }, rails := s.holdRails.rails } := by
  obtain ⟨rails, hrails⟩ : ∃ rails, s.holdRails = { s with rails := rails } := ⟨_, s.holdRails_only⟩
  rw [State.governStop, hrails]
  rfl

theorem State.drain_of_stopped (h : s.lane.govStop = true) : s.drain = s := by
  rw [State.drain, if_pos (by rw [h, Bool.or_true])]

/-- Governing is about to stop in the self-test stage: the row of R292 and the hold's length are noted. -/
def State.undecided (s : State) (len : Nat) : State := (s.modLane fun x => { x with holdRes := 3 }).holdNote len

theorem State.undecided_eq (len : Nat) : s.undecided len =
    { s with lane := { s.lane with holdRes := 3, holdLen := min 0xFFFF (len * s.cycTime), holdMax := max s.lane.holdMax (min 0xFFFF (len * s.cycTime)), endCyc := some s.cyc } } :=
  rfl

theorem State.rail_of_rails {s t : State} (h : t.rails = s.rails) (r : Nat) : t.rail r = s.rail r := by rw [State.rail, State.rail, h]

theorem State.cycTime_of_mode {s t : State} (h : t.glb.mode = s.glb.mode) : t.cycTime = s.cycTime := by rw [State.cycTime, State.cycTime, h]

/-- Governing stops at a state that differs from s in what the collector changes alone: what of the lanes and the rails follows. -/
theorem State.governStop_undecided {s u : State} (hu : Records s u) (hst : ∀ r, r < 40 → u.st r = s.st r) (len : Nat) :
    (u.undecided len).governStop.lane = { s.lane with holdRes := 3, holdLen := min 0xFFFF (len * s.cycTime), holdMax := max s.lane.holdMax (min 0xFFFF (len * s.cycTime)), endCyc := some s.cyc, govStop := true, hold := none, settled := none, switched := false, boundary := [], tickHeld := 0 } ∧
    (∀ r, r < 40 → ((u.undecided len).governStop.rail r).hold = (!s.isIn r [.off, .absent] || (s.rail r).hold)) ∧
    (u.undecided len).governStop.outside = { s.outside with lane := (u.undecided len).governStop.lane, rails := (u.undecided len).governStop.rails } := by
  have hout := hu.outside
  have hlane : u.lane = s.lane := (congrArg State.lane hout :)
  have hcyc : u.cyc = s.cyc := (congrArg State.cyc hout :)
  have htime : u.cycTime = s.cycTime := State.cycTime_of_mode (congrArg (fun x => x.glb.mode) hout :)
  have hstop := State.governStop_eq (u.undecided len)
  have hleft : (u.undecided len).governStop.lane = { u.lane with holdRes := 3, holdLen := min 0xFFFF (len * u.cycTime), holdMax := max u.lane.holdMax (min 0xFFFF (len * u.cycTime)), endCyc := some u.cyc, govStop := true, hold := none, settled := none, switched := false, boundary := [], tickHeld := 0 } :=
    congrArg State.lane hstop
  refine ⟨by rw [hleft, hlane, hcyc, htime], fun r hr => ?_, ?_⟩
  · have hisIn : (u.undecided len).isIn r [.off, .absent] = s.isIn r [.off, .absent] := by
      have hentry : (u.undecided len).st r = s.st r := hst r hr
      rw [State.isIn, State.isIn, hentry]
    have hrail : (u.undecided len).rail r = s.rail r := State.rail_of_rails (congrArg State.rails hout :) r
    have hrails : (u.undecided len).governStop.rails = (u.undecided len).holdRails.rails := by rw [hstop]
    rw [State.rail_of_rails hrails r, State.holdRails_hold _ hr, hisIn, hrail]
  · rw [hstop, ← hout]
    rfl

end

/-! The stages of R292. -/

/-- A chuck hold has begun: its checker stage, with every rail that is not OFF held (R289, R292). -/
def State.chuckBegun (s : State) : State := (s.holdBegin 2).modLane fun x => { x with hold := some .checker, holdRes := 0 }

theorem State.chuckBegun_only (s : State) : s.chuckBegun =
    { s with lane := s.chuckBegun.lane, rails := s.holdRails.rails, glb := { s.glb with warmTick := false } } := by
  rw [State.chuckBegun, State.holdBegin_eq, State.modLane]

theorem State.chuckBegun_lane (s : State) : s.chuckBegun.lane =
    { s.lane with hold := some .checker, holdRes := 0, holdCause := 2, holdCnt := satAdd 0xFFFF s.lane.holdCnt 1 } := by
  rw [State.chuckBegun, State.holdBegin_eq]
  rfl

theorem State.traceExt_of_only {s t : State} {rails : Tbl Rail} {glb : Glb} (h : t = { s with lane := t.lane, rails := rails, glb := glb })
    (cond : Nat → Nat → Nat → Bool) : t.traceExt cond =
    { s with lane := (t.traceExt cond).lane, rails := (t.traceExt cond).rails, traces := (t.traceExt cond).traces, glb := glb } := by
  have honly := t.traceExt_only cond
  generalize t.traceExt cond = u at honly ⊢
  rw [honly, h]

section
variable {s : State}

theorem exec_chuckHold_of_held (h : s.lane.hold ≠ none) (three : Bool) : exec (.chuckHold three) s = .next s := by
  show execChuckHold three s = _
  rw [execChuckHold]
  dsimp only
  rw [if_pos (by simp [Option.isSome_iff_ne_none.2 h])]

/-- Three lanes that all differ begin a chuck hold (R289). -/
theorem exec_chuckHold_of_three (hlive : s.live = true) (hgov : s.lane.govStop = false) (hnone : s.lane.hold = none) (hwarm : s.glb.warmBusy = false)
    (hvote : s.lane.vote = 7) : exec (.chuckHold true) s =
    .next (s.chuckBegun.traceExt fun _ src _ => src == 7) := by
  have hvoters : s.voters = [0, 1, 2] := by
    rw [State.voters, show s.votes = fun l => (7 : BitVec 3).getLsbD l from funext fun l => by rw [State.votes, hvote]]
    rfl
  have hstays : s.warmAbandon = s := by rw [State.warmAbandon, hwarm]; rfl
  show execChuckHold true s = _
  rw [execChuckHold]
  dsimp only
  rw [if_neg (by simp [hlive, hgov, hnone, hvoters]), hstays, if_pos rfl]
  rfl

theorem exec_holdCheckerStage_of_hold (h : s.lane.hold = some .checker) (reports : BitVec 3) (len : Nat) : exec (.holdCheckerStage reports len) s =
    .next (if (s.among reports).isEmpty || (s.among reports).length == s.voters.length then s.modLane fun x => { x with hold := some .replay }
      else s.settle 0 len (s.among reports)).drain := by
  show execHoldCheckerStage reports len s = _
  rw [execHoldCheckerStage, runHoldCheckerStage, State.after_next, if_neg (by simp [h])]

theorem exec_holdReplayStage_of_hold (h : s.lane.hold = some .replay) (agree : Bool) (len : Nat) : exec (.holdReplayStage agree len) s =
    .next (if agree then s.settle 1 len [] else s.modLane fun x => { x with hold := some .selfTest }).drain := by
  show execHoldReplayStage agree len s = _
  rw [execHoldReplayStage, runHoldReplayStage, State.after_next, if_neg (by simp [h])]

/-- Where the self-tests cannot tell the lanes apart governing stops, and takes nothing in (R292, R295). -/
theorem exec_holdSelfTestStage_of_alike (h : s.lane.hold = some .selfTest) {fails : BitVec 3} (hnone : s.among fails = []) (len : Nat) :
    exec (.holdSelfTestStage fails len) s = .next ((s.pulseSrc 259 0).undecided len).governStop := by
  show execHoldSelfTestStage fails len s = _
  rw [execHoldSelfTestStage, runHoldSelfTestStage, State.after_next, if_neg (by simp [h])]
  dsimp only
  rw [if_pos (by simp [hnone]), State.drain_of_stopped _ rfl]
  rfl

/-- Outside a hold its stages do nothing but empty the boundary buffers. -/
theorem exec_holdStages_of_none (h : s.lane.hold = none) (reports : BitVec 3) (agree : Bool) (fails : BitVec 3) (len : Nat) :
    exec (.holdCheckerStage reports len) s = .next s.drain ∧ exec (.holdReplayStage agree len) s = .next s.drain ∧
    exec (.holdSelfTestStage fails len) s = .next s.drain := by
  refine ⟨?_, ?_, ?_⟩
  · show execHoldCheckerStage reports len s = _
    rw [execHoldCheckerStage, runHoldCheckerStage, State.after_next, if_pos (by simp [h])]
  · show execHoldReplayStage agree len s = _
    rw [execHoldReplayStage, runHoldReplayStage, State.after_next, if_pos (by simp [h])]
  · show execHoldSelfTestStage fails len s = _
    rw [execHoldSelfTestStage, runHoldSelfTestStage, State.after_next, if_pos (by simp [h])]

end

/-- Of three voting lanes a report of one names that one. -/
theorem State.among_of_single {s : State} (hvote : s.lane.vote = 7) (l : Fin 3) :
    s.among (BitVec.ofNat 3 (2 ^ l.val)) = [l.val] ∧ s.voters.length = 3 := by
  have hvotes : s.votes = fun l => (7 : BitVec 3).getLsbD l := funext fun l => by rw [State.votes, hvote]
  rw [State.among, State.voters, hvotes]
  revert l
  decide

/-- The lanes that a row of R292 names are about to be isolated, and the hold is over. -/
def State.settling (s : State) (res : Nat) (iso : List Nat) : State := s.modLane fun x => { x with hold := none, holdRes := res, settled := some iso }

theorem State.settle_eq (s : State) (res len : Nat) (iso : List Nat) :
    s.settle res len iso = (iso.foldl (fun t l => t.isolateLane l) (s.settling res iso)).holdEnd len := rfl

/-- The checker stage isolates one of three lanes, and the hold ends (R292). -/
theorem State.settle_single {s : State} (hs : s.lane.switching = false ∧ s.lane.govStop = false ∧ s.glb.warmBusy = false) (hvote : s.lane.vote = 7)
    {l : Fin 3} (hperm : s.lane.perm.getLsbD l = false) (hjoin : s.lane.joinCyc.get 0 l = 0) (hnone : s.lane.boundary = [])
    (htick : s.lane.tickHeld = 0) (len : Nat) : ∃ x, HoldEnds len { s with lane := x } (s.settle 0 len [l.val]).drain ∧
    x.hold = none ∧ x.holdRes = 0 ∧ x.vote = mask3 7 l false ∧ x.settled = some [l.val] := by
  obtain ⟨step, src, start, att, join, hisolated⟩ := State.isolateLane_eq (s := s.settling 0 [l.val]) hperm hjoin
  rw [State.settle_eq, List.foldl_cons, List.foldl_nil, hisolated]
  have hend (f : Lane → Lane) := State.holdEnd_drain (s := (s.settling 0 [l.val]).modLane f)
  refine ⟨_, hend _ ⟨rfl, ?_⟩ ?_ ?_ len, rfl, rfl, ?_, rfl⟩
  · exact hs
  · exact htick
  · exact hnone
  · exact (congrArg (fun v => mask3 v l false) hvote :)

/-- Settles O32: a stage isolates what it names, and the end of a hold with nothing held is `State.holdEnd_drain`. -/
theorem chuckHoldsSettle : Obligations.ChuckHoldsSettle := by
  unfold Obligations.ChuckHoldsSettle
  intro s hlive hgov hswitch hwarm
  refine ⟨fun hnone hvote => ?begins, fun three hhold => exec_chuckHold_of_held hhold three, fun rep len hhold halike => ?undecided,
    fun l len hhold hvote hperm hjoin hnone htick => ?isolates, fun len hhold => ?differs, fun len hhold hnone htick => ?agrees,
    fun fails len hhold halike => ?stops, fun rep agree fails len hnone => exec_holdStages_of_none hnone rep agree fails len⟩
  case begins =>
    have honly := s.chuckBegun_only
    have hrails : (s.chuckBegun.traceExt fun _ src _ => src == 7).rails = s.holdRails.rails :=
      by rw [State.traceExt_only, honly]
    refine ⟨_, exec_chuckHold_of_three hlive hgov hnone hwarm hvote, (State.traceExt_lane ..).trans s.chuckBegun_lane, fun r hr => ?_,
      State.traceExt_of_only honly _, fun b _ hb => ?_⟩
    · rw [State.rail_of_rails hrails r]
      exact s.holdRails_hold hr
    · have htrace : s.chuckBegun.trace b = s.trace b := by rw [honly]; rfl
      rw [State.traceExt_trace_of_unarmed _ _ (by rw [htrace]; exact hb), htrace]
  case undecided =>
    rw [exec_holdCheckerStage_of_hold hhold, if_pos (by rcases halike with h | h <;> simp [h])]
    exact congrArg Host.Outcome.next (State.drain_of_held rfl)
  case isolates =>
    obtain ⟨hamong, hvoters⟩ := State.among_of_single hvote l
    have hexec := exec_holdCheckerStage_of_hold hhold (BitVec.ofNat 3 (2 ^ l.val)) len
    rw [hamong, hvoters, if_neg (by simp)] at hexec
    obtain ⟨x, hend, hnohold, hres, hleft, hsettled⟩ := State.settle_single ⟨hswitch, hgov, hwarm⟩ hvote hperm hjoin hnone htick len
    have hline : pulsed (256 + l) = false ∧ 256 + l.val ≠ 259 := ⟨pulsed_eq_false (by omega) (by omega), by omega⟩
    refine ⟨_, hexec, ?_⟩
    generalize (s.settle 0 len [l.val]).drain = t at hend
    have hlane := hend.lane
    refine ⟨(congrArg Lane.hold hlane :).trans hnohold, (congrArg Lane.holdRes hlane :).trans hres, (congrArg Lane.holdLen hlane :),
      (congrArg Lane.vote hlane :).trans hleft, hend.cyc, ?_, hend.rails, hend.outside⟩
    · rw [hend.src, show State.lane _ = x from rfl, hsettled]
      exact State.settleNote_line _ hline.1 hline.2
  case differs =>
    rw [exec_holdReplayStage_of_hold hhold]
    exact congrArg Host.Outcome.next (State.drain_of_held rfl)
  case agrees =>
    have hend := State.holdEnd_drain (s := s.modLane fun x => { x with hold := none, holdRes := 1, settled := some [] })
      ⟨rfl, hswitch, hgov, hwarm⟩ htick hnone len
    exact ⟨_, exec_holdReplayStage_of_hold hhold true len, hend.lane, hend.cyc, hend.rails, hend.outside⟩
  case stops =>
    obtain ⟨hlane, hheld, hout⟩ := State.governStop_undecided (.pulseHold s) (fun r hr => State.pulseSrc_st s 259 0 (Nat.lt_trans hr (by decide))) len
    refine ⟨_, exec_holdSelfTestStage_of_alike hhold halike len, ?_⟩
    exact ⟨(congrArg Lane.govStop hlane :), (congrArg Lane.holdRes hlane :), (congrArg Lane.hold hlane :), (congrArg Lane.holdLen hlane :),
      (congrArg Lane.vote hlane :), hheld, hout⟩

end Sys2Proof.Machine
end

section
/-! PROOFS. O33: clock failures, the switches that they begin and the end of a switch (R291, R300 to R303, R505). -/

namespace Sys2Proof.Machine

/-! A clock switch begins (R301, R302). -/

section
variable (s : State) (src : Nat)

/-- A switch begins as a hold does, with the lanes' record in the state x that the fault has left. -/
theorem State.switchBegin_eq (x : Lane) : State.switchBegin { s with lane := x } src =
    { s with lane := { x with switching := true, returning := src == 0, swSrc := src, holdRes := 0, holdCause := if src = 0 then 4 else 3, holdCnt := satAdd 0xFFFF x.holdCnt 1 }, rails := (State.holdRails { s with lane := x }).rails, glb := { s.glb with warmTick := false } } := by
  rw [State.switchBegin, State.holdBegin_eq, State.modLane]

theorem State.switchBegin_switching (x : Lane) : (State.switchBegin { s with lane := x } src).lane.switching = true := by
  rw [State.switchBegin_eq]

/-- At the beginning of a switch the rails that are not OFF hold. -/
theorem State.switchBegin_hold (x : Lane) {r : Nat} (hr : r < 40) :
    ((State.switchBegin { s with lane := x } src).rail r).hold = (!s.isIn r [.off, .absent] || (s.rail r).hold) := by
  have hrails : (State.switchBegin { s with lane := x } src).rails = (State.holdRails { s with lane := x }).rails := by rw [State.switchBegin_eq]
  rw [State.rail_of_rails hrails r]
  exact State.holdRails_hold { s with lane := x } hr

theorem State.switchBegin_only (x : Lane) : State.switchBegin { s with lane := x } src =
    { s with lane := (State.switchBegin { s with lane := x } src).lane, rails := (State.switchBegin { s with lane := x } src).rails, glb := { s.glb with warmTick := false } } := by
  rw [State.switchBegin_eq]

end

/-! Sources of the clock that fail, and that lock again (R300, R302). -/

section
variable {s : State}

theorem exec_crystalStop_of_runs (hs : s.lanesRun) : exec .crystalStop s =
    .next (if s.maySwitch then State.switchBegin { s with lane := { s.lane with xtalOk := false } } 265
      else (s.modLane fun x => { x with xtalOk := false }).assertSrc 265 0) := by
  rw [show exec .crystalStop s = _ from State.arrive_runs hs _ _, runCrystalStop, State.crystalStep]
  dsimp only
  split
  · exact congrArg Host.Outcome.next (if_pos (State.switchBegin_switching s 265 _))
  · exact congrArg Host.Outcome.next (if_neg (by simp [hs.2.1]))

theorem exec_pllLockLoss_of_run (hs : s.lanesRun) (hrun : s.glb.mode = .run) : exec (.pllLockLoss false) s =
    .next (if s.maySwitch then State.switchBegin { s with lane := { s.lane with pllaLock := false } } 263
      else (s.modLane fun x => { x with pllaLock := false }).assertSrc 263 0) := by
  rw [show exec (.pllLockLoss false) s = _ from State.arrive_runs hs _ _, runPllLockLoss, if_neg (by simp [hrun]), State.pllLossStep]
  dsimp only
  rw [if_neg Bool.false_ne_true]
  split
  · exact congrArg Host.Outcome.next (if_pos (State.switchBegin_switching s 263 _))
  · exact congrArg Host.Outcome.next (if_neg (by simp [hs.2.1]))

theorem exec_pllLockLoss_of_pllB (hs : s.lanesRun) (hrun : s.glb.mode = .run) : exec (.pllLockLoss true) s =
    .next ((s.modLane fun x => { x with pllbLock := false }).assertSrc 264 0) := by
  rw [show exec (.pllLockLoss true) s = _ from State.arrive_runs hs _ _, runPllLockLoss, if_neg (by simp [hrun])]
  exact congrArg Host.Outcome.next (if_neg (by simp [State.pllLossStep, hs.2.1]))

theorem exec_pllRelock_of_run (hs : s.lanesRun) (hrun : s.glb.mode = .run) (b : Bool) :
    exec (.pllRelock b) s = .next ((s.pllLockStep b).releaseSrc (if b then 264 else 263)) := by
  rw [show exec (.pllRelock b) s = _ from State.arrive_runs hs _ _, runPllRelock, if_neg (by simp [hrun])]
  rfl

/-- The return to PLL A is due: RUN on PLL B for no lasting cause, with PLL A locked to a good crystal (R302). -/
theorem exec_pllReturn_of_due (hs : s.lanesRun) (hrun : s.glb.mode = .run) (hret : s.imb Img.clkRet = true) (hsrc : s.lane.clkSrc = 1)
    (hlock : s.lane.pllaLock = true) (hxtal : s.lane.xtalOk = true) (hperm : s.lane.pllbPerm = false) :
    exec .pllReturn s = .next (State.switchBegin { s with lane := s.lane } 0) := by
  show execPllReturn s = _
  rw [execPllReturn, if_pos (by simp [hrun, hret, hsrc, hlock, hxtal, hperm, hs.2.1])]

theorem exec_pllReturn_of_off (hret : s.imb Img.clkRet = false) : exec .pllReturn s = .next s := by
  show execPllReturn s = _
  rw [execPllReturn, if_neg (by simp [hret])]

/-- A source out of range begins no switch in RUN (R300, R303). -/
theorem exec_clockOutOfRange_of_run (hs : s.lanesRun) (hrun : s.glb.mode = .run) (c : ClkSrc) :
    exec (.clockOutOfRange c) s = .next ((s.rangeStep c).rangeNote c) := by
  have hidle : ¬(s.rangeStep c).lane.switching = true := by
    cases c <;> simp [State.rangeStep, hrun, hs.2.1]
  rw [show exec (.clockOutOfRange c) s = _ from State.arrive_runs hs _ _, runClockOutOfRange]
  exact congrArg Host.Outcome.next (if_neg hidle)

theorem State.rangeStep_rc_of_run (hrun : s.glb.mode = .run) : s.rangeStep .rc = s.modLane fun x => { x with rcOk := false } :=
  if_neg (by simp [hrun])

theorem exec_x32Stop_of_ready (hs : s.ready) : exec .x32Stop s = .next (s.x32Step.assertSrc 266 0).osfNote := by
  rw [show exec .x32Stop s = _ from State.arrive_runs hs.1 _ _, runX32Stop, if_pos hs.2]
  rfl

variable (s)

/-- RTC_OSF asks for STALE at most (R499, R500). -/
theorem State.osfNote_only : s.osfNote = { s with pipe := s.osfNote.pipe } := by
  unfold State.osfNote
  split
  · exact State.offer_only (by decide) ..
  · rfl

/-- A clock's source that asserts beside a change of the lanes' record. -/
theorem State.modLane_assertSrc (f : Lane → Lane) {n : Nat} (h : pulsed n = false) :
    (((s.modLane f).assertSrc n 0).src n).line = true ∧ ((s.modLane f).assertSrc n 0).outside = { s.outside with lane := f s.lane } :=
  ⟨State.assertSrc_line _ _ _ h, State.assertSrc_outside ..⟩

/-- A clock's source that releases beside a change of the lanes' record. -/
theorem State.modLane_releaseSrc (f : Lane → Lane) {n : Nat} (h : pulsed n = false) :
    (((s.modLane f).releaseSrc n).src n).line = false ∧ ((s.modLane f).releaseSrc n).outside = { s.outside with lane := f s.lane } :=
  ⟨State.releaseSrc_line _ _ h, State.releaseSrc_outside ..⟩

end

/-! The end of a switch (R291, R301, R302). -/

section
variable {s : State}

/-- The core has moved to PLL B, or back to PLL A (R301, R302). -/
def State.switchDone (s : State) : State :=
  s.modLane fun x => { x with switching := false, returning := false, switched := true, clkSrc := if s.lane.returning then 0 else 1, pllbPerm := x.pllbPerm || (!s.lane.returning && !s.imb Img.clkRet) }

theorem exec_clockSwitchDone_of_run (hrun : s.glb.mode = .run) (h : s.lane.switching = true) (len : Nat) :
    exec (.clockSwitchDone len) s = .next (s.switchDone.holdEnd len).drain := by
  show execClockSwitchDone len s = _
  rw [execClockSwitchDone, runClockSwitchDone, State.after_next, if_neg (by simp [h])]
  dsimp only
  rw [hrun, show (Mode.run == Mode.parked) = false from rfl, Bool.not_false, Bool.and_true, if_neg Bool.false_ne_true]
  rfl

theorem exec_clockSwitchDone_of_idle (h : s.lane.switching = false) (len : Nat) : exec (.clockSwitchDone len) s = .next s.drain := by
  show execClockSwitchDone len s = _
  rw [execClockSwitchDone, runClockSwitchDone, State.after_next, if_pos (by simp [h])]

/-- With the records of an ended switch its source asserts, whatever a settled chuck hold adds (R301). -/
theorem State.endNotes_line (s : State) (settled : Option (List Nat)) (h : pulsed s.lane.swSrc = false) (h0 : s.lane.swSrc ≠ 0)
    (hne : s.lane.swSrc ≠ 259) : ((s.endNotes settled true).src s.lane.swSrc).line = true := by
  have hswitch := s.switchNote_line h h0
  cases settled with
  | none => exact hswitch
  | some iso => exact (Records.settleNote _ iso).stays _ h hne hswitch

end

/-- Settles O33: a switch begins as `State.switchBegin_eq` says, and its end with nothing held is `State.holdEnd_drain`. -/
theorem clocksSwitchAndReturn : Obligations.ClocksSwitchAndReturn := by
  unfold Obligations.ClocksSwitchAndReturn
  refine ⟨fun s hs hrun => ⟨?switches, fun hmay => ?crystal, fun hmay => ?pllA, ?pllB, ?relocksA, ?relocksB,
    fun hret hsrc hlock hxtal hperm => ?returns, exec_pllReturn_of_off, ?xtal, ?rc, ?wdosc, ?x32⟩,
    fun s len hlive hrun hgov hnone hwarm => ⟨fun hswitch hheld htick => ?ends, fun hidle => exec_clockSwitchDone_of_idle hidle len⟩⟩
  case switches =>
    rintro c (rfl | rfl) hmay
    · refine ⟨_, (exec_crystalStop_of_runs hs.1).trans (congrArg Host.Outcome.next (if_pos hmay)), ?_,
        fun r hr => State.switchBegin_hold s 265 _ hr, State.switchBegin_only s 265 _⟩
      rw [State.switchBegin_eq]
      simp only [if_true]
      rfl
    · refine ⟨_, (exec_pllLockLoss_of_run hs.1 hrun).trans (congrArg Host.Outcome.next (if_pos hmay)), ?_,
        fun r hr => State.switchBegin_hold s 263 _ hr, State.switchBegin_only s 263 _⟩
      rw [State.switchBegin_eq]
      simp only [reduceCtorEq, if_false]
      rfl
  case crystal =>
    exact ⟨_, (exec_crystalStop_of_runs hs.1).trans (congrArg Host.Outcome.next (if_neg (by simp [hmay]))), State.modLane_assertSrc s _ rfl⟩
  case pllA =>
    exact ⟨_, (exec_pllLockLoss_of_run hs.1 hrun).trans (congrArg Host.Outcome.next (if_neg (by simp [hmay]))), State.modLane_assertSrc s _ rfl⟩
  case pllB => exact ⟨_, exec_pllLockLoss_of_pllB hs.1 hrun, State.modLane_assertSrc s _ rfl⟩
  case relocksA => exact ⟨_, exec_pllRelock_of_run hs.1 hrun false, State.modLane_releaseSrc s _ rfl⟩
  case relocksB => exact ⟨_, exec_pllRelock_of_run hs.1 hrun true, State.modLane_releaseSrc s _ rfl⟩
  case returns =>
    refine ⟨_, exec_pllReturn_of_due hs.1 hrun hret hsrc hlock hxtal hperm, ?_, State.switchBegin_only s 0 s.lane⟩
    rw [State.switchBegin_eq]
    rfl
  case xtal => exact ⟨_, exec_clockOutOfRange_of_run hs.1 hrun .xtal, State.modLane_assertSrc s _ rfl⟩
  case rc =>
    refine ⟨_, exec_clockOutOfRange_of_run hs.1 hrun .rc, ?_⟩
    rw [State.rangeStep_rc_of_run hrun]
    exact State.modLane_assertSrc s _ rfl
  case wdosc => exact ⟨_, exec_clockOutOfRange_of_run hs.1 hrun .wdosc, State.modLane_assertSrc s _ rfl⟩
  case x32 =>
    have hline := State.assertSrc_line s.x32Step 266 0 rfl
    have hout := State.assertSrc_outside s.x32Step 266 0
    refine ⟨_, exec_x32Stop_of_ready hs, ?_⟩
    generalize s.x32Step.assertSrc 266 0 = u at hline hout
    rw [State.osfNote_only]
    have hrtc : u.rtc = { s.rtc with stopped := true, osf := true } := (congrArg State.rtc hout :)
    refine ⟨hline, hrtc, ?_⟩
    refine (show State.outside _ = u.outside from rfl).trans ?_
    rw [hout, show State.rtc _ = _ from hrtc]
    rfl
  case ends =>
    have hend := State.holdEnd_drain (s := s.switchDone) ⟨hnone, rfl, hgov, hwarm⟩ htick hheld len
    refine ⟨_, exec_clockSwitchDone_of_run hrun hswitch len, hend.lane, hend.cyc, hend.rails, fun hsrc => ?_, hend.outside⟩
    have hnumber : pulsed s.lane.swSrc = false ∧ s.lane.swSrc ≠ 0 ∧ s.lane.swSrc ≠ 259 := by
      rcases hsrc with h | h <;> rw [h] <;> decide
    rw [hend.src]
    exact State.endNotes_line (s.switchDone.rested len) s.lane.settled hnumber.1 hnumber.2.1 hnumber.2.2

end Sys2Proof.Machine
end

section
/-! PROOFS. O14: park entry and the return from PARKED (R14, R303, R340 to R344, R350). -/

namespace Sys2Proof.Machine

/-! What the measurement, the meters and the gauge do at park entry and at a wake (R410, R422, R432, R483). -/

/-- From s to t the measurement blocks and the gauge alone change, and a request of the gauge may wait. -/
def OnlyMeasures (s t : State) : Prop := t = { s with adc := t.adc, thm := t.thm, gau := t.gau, pipe := t.pipe }

theorem OnlyMeasures.refl (s : State) : OnlyMeasures s s := rfl

theorem OnlyMeasures.parts {s t : State} (h : OnlyMeasures s t) :
    ∃ adc thm gau pipe, t = { s with adc := adc, thm := thm, gau := gau, pipe := pipe } := ⟨t.adc, t.thm, t.gau, t.pipe, h⟩

theorem OnlyMeasures.trans {a b c : State} (h : OnlyMeasures a b) (k : OnlyMeasures b c) : OnlyMeasures a c := by
  rw [OnlyMeasures] at h k ⊢
  rw [k, h]

theorem OnlyMeasures.ite {a b c : State} {p : Prop} [Decidable p] (h : OnlyMeasures a b) (k : OnlyMeasures a c) :
    OnlyMeasures a (if p then b else c) := by
  split <;> assumption

theorem OnlyMeasures.foldl {α : Type} {f : State → α → State} (h : ∀ t a, OnlyMeasures t (f t a)) (l : List α) (s : State) :
    OnlyMeasures s (l.foldl f s) :=
  List.foldlRecOn (motive := OnlyMeasures s) l f (.refl s) fun t ht a _ => ht.trans (h t a)

section
variable (s : State)

theorem OnlyMeasures.loopRequest (li : Nat) (st : EState) (reqr : Nat) : OnlyMeasures s (s.loopRequest li st reqr) := by
  rw [OnlyMeasures, State.loopRequest_only]

theorem OnlyMeasures.modAdc (f : Adc → Adc) : OnlyMeasures s (s.modAdc f) := rfl

theorem OnlyMeasures.modThm (f : Thm → Thm) : OnlyMeasures s (s.modThm f) := rfl

theorem OnlyMeasures.modGau (f : Gau → Gau) : OnlyMeasures s (s.modGau f) := rfl

theorem OnlyMeasures.gaugeWake : OnlyMeasures s s.gaugeWake := by
  unfold State.gaugeWake
  exact .ite ((OnlyMeasures.modGau s _).trans (.loopRequest ..)) (.refl s)

theorem OnlyMeasures.seqRestart (each : Bool) : OnlyMeasures s (s.seqRestart each) := by
  unfold State.seqRestart
  exact .foldl (fun t _ => .modAdc t _) _ s

/-- The parked schedules begin in the measurement blocks and the gauge alone. -/
theorem OnlyMeasures.measurePark : OnlyMeasures s s.measurePark := by
  unfold State.measurePark
  extract_lets parked judged stopped exempt metered slowed
  have hjudged : OnlyMeasures s judged := .ite (.refl s) (.foldl (fun t _ => .ite (.refl t) (.modThm t _)) _ s)
  have hstopped : OnlyMeasures judged stopped := .foldl (fun t _ => .modAdc t _) _ _
  have hexempt : OnlyMeasures stopped exempt := .foldl (fun t _ => .modAdc t _) _ _
  have hmetered : OnlyMeasures exempt metered := .foldl (fun t _ => .modAdc t _) _ _
  have hslowed : OnlyMeasures metered slowed := .foldl (fun t _ => .ite (.modThm t _) (.refl t)) _ _
  exact hjudged.trans <| hstopped.trans <| hexempt.trans <| hmetered.trans <| hslowed.trans <|
    .ite (.modGau slowed _) (.ite ((OnlyMeasures.modGau slowed _).trans (.loopRequest ..)) (.refl slowed))

end

/-- From s to t the measurement blocks and the gauge change, and the sources of the slices alone may move. -/
structure Remeasures (s t : State) : Prop where
  outside : t.outside = { s.outside with adc := t.adc, thm := t.thm, gau := t.gau }
  lines : ∀ m, pulsed m = false → m < 384 → (t.src m).line = (s.src m).line

theorem Remeasures.of_only {s t : State} (h : OnlyMeasures s t) : Remeasures s t := by
  rw [OnlyMeasures] at h
  refine ⟨?_, fun m _ _ => ?_⟩ <;> rw [h] <;> rfl

theorem Remeasures.refl (s : State) : Remeasures s s := .of_only (.refl s)

theorem Remeasures.trans {a b c : State} (h : Remeasures a b) (k : Remeasures b c) : Remeasures a c :=
  ⟨by rw [k.outside, h.outside], fun m hm hlt => (k.lines m hm hlt).trans (h.lines m hm hlt)⟩

theorem Remeasures.foldl {α : Type} {f : State → α → State} (h : ∀ t a, Remeasures t (f t a)) (l : List α) (s : State) :
    Remeasures s (l.foldl f s) :=
  List.foldlRecOn (motive := Remeasures s) l f (.refl s) fun t ht a _ => ht.trans (h t a)

section
variable (s : State)

theorem Remeasures.assertSrc {n : Nat} (h : 384 ≤ n) (cause : Nat) : Remeasures s (s.assertSrc n cause) := by
  have hout := State.assertSrc_outside s n cause
  refine ⟨?_, fun m hm hlt => by rw [Stirs.assertOther _ _ _ _ hm, if_neg (by omega)]⟩
  have hadc : (s.assertSrc n cause).adc = s.adc := (congrArg State.adc hout :)
  have hthm : (s.assertSrc n cause).thm = s.thm := (congrArg State.thm hout :)
  have hgau : (s.assertSrc n cause).gau = s.gau := (congrArg State.gau hout :)
  rw [hadc, hthm, hgau]
  exact hout

theorem Remeasures.retireSlice (k : Nat) : Remeasures s (s.retireSlice k) :=
  (Remeasures.of_only (.modAdc s _)).trans (.assertSrc _ (Nat.le_add_right 384 k) 0)

theorem Remeasures.calibrateAll (cals : List (Int × Nat)) : Remeasures s (s.calibrateAll cals) := by
  unfold State.calibrateAll
  extract_lets live calibrated usable pos thm empty filled
  have hcalibrated : Remeasures s calibrated := by
    refine .foldl (fun t k => ?_) live s
    split
    · split
      · exact .of_only rfl
      · exact .retireSlice t k
    · exact .refl t
  exact hcalibrated.trans (.of_only rfl)

theorem Remeasures.ite {a b c : State} {p : Prop} [Decidable p] (h : Remeasures a b) (k : Remeasures a c) : Remeasures a (if p then b else c) := by
  split <;> assumption

end

/-! Park entry (R340, R350). -/

section
variable (s : State)

/-- The source of eyelet e asserts if it is UP (R350). -/
def State.eyeLost (s : State) (e : Nat) : State := if (s.eye e).st = .up then s.assertSrc (320 + 3 * e) 0 else s

/-- The sources of the eyelets that are UP assert (R350). -/
def State.eyesLost (s : State) : State := (List.range 4).foldl State.eyeLost s

/-- An eyelet that is off keeps its counts and its place in the tree (R350). -/
def Eyelet.off (x : Eyelet) : Eyelet := { crc := x.crc, retx := x.retx, rtt := x.rtt, crcWin := x.crcWin, crcStart := x.crcStart, child := x.child }

/-- The eyelets turn off (R350). -/
def State.eyesDown (s : State) : State := (List.range 4).foldl (fun s e => s.modEye e Eyelet.off) s

/-- The lanes run from RC, or else from the crystal, at a tenth of the rate (R303, R340). -/
def State.slowed (s : State) : State :=
  let s := s.modLane fun x => { x with clkSrc := if x.rcOk then 2 else 3, pllaLock := false, pllbLock := false }
  let s := s.clockStep.modGlb fun g => { g with mode := .parked, parkCnt := satAdd 0xFFFF g.parkCnt 1 }
  { s with tickAt := s.cyc + (s.tickAt - s.cyc + 9) / 10 }

/-- PARK has been taken in: the parked schedules begin (R340, R341). -/
def State.parkTaken (s : State) : State := s.measurePark.modGlb fun g => { g with parkPend := false, parkTick := false }

theorem State.slowed_only : ∃ lane glb tickAt, s.slowed = { s with lane := lane, glb := glb, tickAt := tickAt } := ⟨_, _, _, rfl⟩

theorem State.slowed_mode : s.slowed.glb.mode = .parked := rfl

theorem State.slowed_lane : s.slowed.lane = { s.lane with clkSrc := if s.lane.rcOk then 2 else 3, pllaLock := false, pllbLock := false } := rfl

theorem State.slowed_glb : s.slowed.glb =
    { s.glb with mode := .parked, parkCnt := satAdd 0xFFFF s.glb.parkCnt 1, modeCyc := s.cyc, modeTime := s.time } := rfl

theorem State.slowed_tickAt : s.slowed.tickAt = s.cyc + (s.tickAt - s.cyc + 9) / 10 := rfl

theorem State.eyesDown_only : s.eyesDown = { s with lace := s.eyesDown.lace } :=
  List.foldlRecOn (motive := fun t : State => t = { s with lace := t.lace }) _ _ rfl fun t ht e _ => by rw [State.modEye, State.modLace, ht]

theorem State.eyesDown_eye {e : Nat} (he : e < 4) : s.eyesDown.eye e = (s.eye e).off := by
  show ((((s.modEye 0 Eyelet.off).modEye 1 Eyelet.off).modEye 2 Eyelet.off).modEye 3 Eyelet.off).eye e = _
  interval_cases e <;> simp [State.modEye_eye_at]

theorem State.eyeLost_records (e : Nat) : Records s (s.eyeLost e) := .ite (.assertSrc ..) (.refl s)

theorem State.eyesLost_records : Records s s.eyesLost := .foldl State.eyeLost_records _ s

theorem State.eyesLost_of_none (h : ∀ e, e < 4 → (s.eye e).st ≠ .up) : s.eyesLost = s :=
  List.foldlRecOn (motive := fun t => t = s) _ _ rfl fun t ht e he => by
    subst ht
    exact if_neg (h e (List.mem_range.1 he))

theorem State.eye_of_lace {s t : State} (h : t.lace = s.lace) (e : Nat) : t.eye e = s.eye e := by rw [State.eye, State.eye, h]

theorem State.eye_of_outside {s t : State} (h : t.outside = s.outside) (e : Nat) : t.eye e = s.eye e :=
  State.eye_of_lace (congrArg State.lace h :) e

theorem State.img_of_outside {s t : State} (h : t.outside = s.outside) : t.img = s.img := (congrArg State.img h :)

theorem State.rails_of_outside {s t : State} (h : t.outside = s.outside) : t.rails = s.rails := (congrArg State.rails h :)

theorem State.foldl_eyeLost_line (l : List Nat) {e : Nat} (he : e < 4) (hmem : e ∈ l) (hup : (s.eye e).st = .up) :
    ((l.foldl State.eyeLost s).src (320 + 3 * e)).line = true := by
  have hsource : pulsed (320 + 3 * e) = false := pulsed_eq_false (by omega) (by omega)
  induction l generalizing s with
  | nil => cases hmem
  | cons q l ih =>
    rw [List.foldl_cons]
    by_cases hq : q = e
    · subst hq
      refine (Records.foldl State.eyeLost_records l _).stays _ hsource (by omega) ?_
      rw [State.eyeLost, if_pos hup, State.assertSrc_line _ _ _ hsource]
    · refine ih _ ((List.mem_cons.1 hmem).resolve_left (Ne.symm hq)) ?_
      rw [State.eye_of_outside (s.eyeLost_records q).outside]
      exact hup

/-- Park entry's parked schedules begin in the measurement blocks and the gauge. -/
theorem State.parkTaken_only : ∃ adc thm gau pipe, s.parkTaken =
    { s with adc := adc, thm := thm, gau := gau, pipe := pipe, glb := { s.glb with parkPend := false, parkTick := false } } := by
  obtain ⟨adc, thm, gau, pipe, hmeasure⟩ := (OnlyMeasures.measurePark s).parts
  refine ⟨adc, thm, gau, pipe, ?_⟩
  rw [State.parkTaken, hmeasure, State.modGlb]

theorem State.parkTaken_eye (e : Nat) : s.parkTaken.eye e = s.eye e := by
  obtain ⟨adc, thm, gau, pipe, htaken⟩ := s.parkTaken_only
  exact State.eye_of_lace (by rw [htaken]) e

variable {s}

/-- The source of each eyelet that was UP asserts, and stays so while those after it follow. -/
theorem State.eyesLost_line {e : Nat} (he : e < 4) (hup : (s.eye e).st = .up) : (s.eyesLost.src (320 + 3 * e)).line = true :=
  State.foldl_eyeLost_line s _ he (List.mem_range.2 he) hup

/-- Park entry is done (R340, R350). -/
def State.parked (s : State) : State := s.parkTaken.eyesLost.eyesDown.slowed

/-- At park entry the lanes, the clocks and the eyelets leave what the sources' records leave. -/
theorem State.parked_only (s : State) : ∃ lane glb tickAt, s.parked =
    { s.parkTaken.eyesLost with lace := s.parkTaken.eyesLost.eyesDown.lace, lane := lane, glb := glb, tickAt := tickAt } := by
  obtain ⟨lane, glb, tickAt, hslowed⟩ := s.parkTaken.eyesLost.eyesDown.slowed_only
  refine ⟨lane, glb, tickAt, ?_⟩
  rw [State.parked, hslowed, State.eyesDown_only]

theorem State.parked_srcs (s : State) : s.parked.srcs = s.parkTaken.eyesLost.srcs := by
  obtain ⟨lane, glb, tickAt, hparked⟩ := s.parked_only
  rw [hparked]

theorem State.parked_mode (s : State) : s.parked.glb.mode = .parked := State.slowed_mode _

theorem State.parked_img (s : State) : s.parked.img = s.img := by
  obtain ⟨lane, glb, tickAt, hparked⟩ := s.parked_only
  obtain ⟨adc, thm, gau, pipe, htaken⟩ := s.parkTaken_only
  rw [hparked, State.img_of_outside (State.eyesLost_records _).outside, htaken]

theorem State.parked_rails (s : State) : s.parked.rails = s.rails := by
  obtain ⟨lane, glb, tickAt, hparked⟩ := s.parked_only
  obtain ⟨adc, thm, gau, pipe, htaken⟩ := s.parkTaken_only
  rw [hparked, State.rails_of_outside (State.eyesLost_records _).outside, htaken]

theorem State.parked_eye (s : State) {e : Nat} (he : e < 4) : s.parked.eye e = (s.eye e).off := by
  obtain ⟨lane, glb, tickAt, hparked⟩ := s.parked_only
  have hlace : s.parked.lace = s.parkTaken.eyesLost.eyesDown.lace := by rw [hparked]
  rw [State.eye_of_lace hlace, State.eyesDown_eye _ he, State.eye_of_outside (State.eyesLost_records _).outside, State.parkTaken_eye]

theorem State.parked_line {e : Nat} (he : e < 4) (hup : (s.eye e).st = .up) : (s.parked.src (320 + 3 * e)).line = true := by
  rw [State.src_of_srcs s.parked_srcs, State.eyesLost_line he (by rw [State.parkTaken_eye, hup])]

/-- With no eyelet UP no source changes. -/
theorem State.parked_of_none (h : ∀ e, e < 4 → (s.eye e).st ≠ .up) : ∃ adc thm gau pipe lace, s.parked =
    State.slowed { s with adc := adc, thm := thm, gau := gau, pipe := pipe, lace := lace, glb := { s.glb with parkPend := false, parkTick := false } } := by
  have hnone (e : Nat) (he : e < 4) : (s.parkTaken.eye e).st ≠ .up := by
    rw [State.parkTaken_eye]
    exact h e he
  obtain ⟨adc, thm, gau, pipe, htaken⟩ := s.parkTaken_only
  refine ⟨adc, thm, gau, pipe, s.parkTaken.eyesDown.lace, ?_⟩
  rw [State.parked, State.eyesLost_of_none _ hnone, State.eyesDown_only]
  generalize s.parkTaken.eyesDown.lace = lace
  rw [htaken]

theorem exec_parkEntry_of_due (hs : s.lanesRun) (hpend : s.glb.parkPend = true) (htick : s.glb.parkTick = true) (hrun : s.glb.mode = .run)
    (hmay : s.mayPark = true) : exec .parkEntry s = .next s.parked := by
  rw [show exec .parkEntry s = _ from State.arrive_runs hs _ _, runParkEntry, if_neg (by simp [hpend, htick, hrun, hmay, hs.2.2.1])]
  rfl

theorem exec_parkEntry_of_busy (hs : s.lanesRun) (hmay : s.mayPark = false) : exec .parkEntry s = .next s := by
  rw [show exec .parkEntry s = _ from State.arrive_runs hs _ _, runParkEntry, if_pos (by simp [hmay])]

end

/-! The return to RUN (R342, R343). -/

section
variable (s : State)

/-- The lanes run from PLL A or B at the full rate again, with the wake condition code noted (R342, R343). -/
def State.woken (s : State) (onA : Bool) (code : Nat) : State :=
  let ret := s.imb Img.clkRet
  let auto := s.imb Img.wakeAutoF
  let s := s.modLane fun x => { x with clkSrc := if onA && !x.pllbPerm then 0 else 1, pllaLock := onA, pllbLock := true, pllbPerm := x.pllbPerm || (!onA && !ret) }
  s.clockStep.modGlb fun g => { g with mode := .run, waking := none, wakeSrc := code, wakeAuto := auto }

/-- The measurement begins again (R343, R405, R410), and the gauge with it (R483, R486), long after park entry or not. -/
def State.remeasured (s : State) (cals : List (Int × Nat)) (long : Bool) : State :=
  let s := (s.calibrateAll cals).seqRestart false
  let s := if s.gau.hibPark then s.gaugeWake else s
  if long && s.gauRuns then s.modGau fun g => { g with restDue := true, sumI := 0, sumV := 0, sums := 0 } else s

/-- The Lace takes in full sets again, and the tick grid keeps its length in time (R340, R342). -/
def State.quickened (s : State) : State :=
  let ep := s.led.epoch
  let s := s.modLace fun l => { l with fullSet := l.mySlot != 0, grantEp := ep, noMarker := 0 }
  { s with tickAt := s.cyc + 10 * (s.tickAt - s.cyc) }

theorem State.quickened_eq : s.quickened =
    { s with lace := { s.lace with fullSet := s.lace.mySlot != 0, grantEp := s.led.epoch, noMarker := 0 }, tickAt := s.cyc + 10 * (s.tickAt - s.cyc) } := rfl

theorem State.remeasured_remeasures (cals : List (Int × Nat)) (long : Bool) : Remeasures s (s.remeasured cals long) := by
  unfold State.remeasured
  extract_lets restarted gauged
  have hrestarted : Remeasures s restarted := (Remeasures.calibrateAll s cals).trans (.of_only (.seqRestart ..))
  have hgauged : Remeasures restarted gauged := .ite (.of_only (.gaugeWake _)) (.refl _)
  exact hrestarted.trans (hgauged.trans (.ite (.of_only (.modGau _ _)) (.refl _)))

variable {s}

theorem exec_wake_of_noted (hs : s.lanesRun) (hparked : s.glb.mode = .parked) {code k : Nat} (hwake : s.glb.waking = some (code, k)) (a : Bool)
    (cals : List (Int × Nat)) : ∃ long, exec (.wake a cals) s =
    .next ((((s.woken (a && s.lane.xtalOk) code).followSrc 263 0 (!(a && s.lane.xtalOk))).remeasured cals long).quickened) := by
  refine ⟨decide (s.im Img.gauRestT * 1000000 * usTime ≤ s.time - s.glb.modeTime), ?_⟩
  rw [show exec (.wake a cals) s = _ from State.arrive_runs hs _ _, runWake, hwake]
  dsimp only
  rw [if_neg (by simp [hparked, hs.2.2.1])]
  rfl

theorem exec_wake_of_none (hs : s.lanesRun) (hwake : s.glb.waking = none) (a : Bool) (cals : List (Int × Nat)) :
    exec (.wake a cals) s = .next s := by
  rw [show exec (.wake a cals) s = _ from State.arrive_runs hs _ _, runWake, hwake]

theorem State.followSrc_line (s : State) (n cause : Nat) (on : Bool) (h : pulsed n = false) : ((s.followSrc n cause on).src n).line = on := by
  cases on with
  | true => exact State.assertSrc_line _ _ _ h
  | false => exact State.releaseSrc_line _ _ h

/-- The measurement begins again after the wake and FS263 has taken its level: the lanes and the clocks stay as the wake left them. -/
theorem State.remeasured_woken (s : State) (onA : Bool) (code : Nat) (cals : List (Int × Nat)) (long : Bool) :
    ∃ t, ((s.woken onA code).followSrc 263 0 (!onA)).remeasured cals long = t ∧ (t.src 263).line = (!onA) ∧
      t.outside = { (s.woken onA code).outside with adc := t.adc, thm := t.thm, gau := t.gau } := by
  have hline := State.followSrc_line (s.woken onA code) 263 0 (!onA) rfl
  have hagain := State.remeasured_remeasures ((s.woken onA code).followSrc 263 0 (!onA)) cals long
  exact ⟨_, rfl, (hagain.lines 263 rfl (by decide)).trans hline, by rw [hagain.outside, State.followSrc_outside]⟩

end

/-- Settles O14: park entry is the parked schedules, the eyelets' records and the slow clock in turn; a wake, the same way back. -/
theorem parkedAndBack : Obligations.ParkedAndBack := by
  unfold Obligations.ParkedAndBack
  intro s hs
  refine ⟨fun hpend htick hrun hmay hdown => ?quiet, fun hpend htick hrun hmay => ?loses, exec_parkEntry_of_busy hs,
    fun a l code k hparked hwake => ?wakes, fun a l hwake => exec_wake_of_none hs hwake a l⟩
  case quiet =>
    refine ⟨_, exec_parkEntry_of_due hs hpend htick hrun hmay, ?_⟩
    have heye (e : Nat) (he : e < 4) : (s.parked.eye e).st = .down := by rw [State.parked_eye s he, Eyelet.off]
    obtain ⟨adc, thm, gau, pipe, lace, hparked⟩ := State.parked_of_none hdown
    rw [hparked] at heye ⊢
    refine ⟨?_, ?_, heye, ?_, ?_⟩
    · rw [State.slowed_glb]
      rfl
    · exact State.slowed_lane _
    · rw [State.slowed_tickAt]
    · obtain ⟨lane, glb, tickAt, hslowed⟩ := State.slowed_only { s with adc := adc, thm := thm, gau := gau, pipe := pipe, lace := lace, glb := { s.glb with parkPend := false, parkTick := false } }
      rw [hslowed]
  case loses =>
    refine ⟨_, exec_parkEntry_of_due hs hpend htick hrun hmay, s.parked_mode, s.parked_img, s.parked_rails, fun e he => ?_⟩
    rw [State.parked_eye s he]
    exact ⟨rfl, rfl, rfl, State.parked_line he⟩
  case wakes =>
    obtain ⟨long, hexec⟩ := exec_wake_of_noted hs hparked hwake a l
    refine ⟨_, hexec, ?_⟩
    generalize (a && s.lane.xtalOk) = onA
    obtain ⟨again, hagain, hline, hout⟩ := State.remeasured_woken s onA code l long
    rw [hagain, State.quickened_eq]
    have hcyc : again.cyc = s.cyc := (congrArg State.cyc hout :)
    have htickAt : again.tickAt = s.tickAt := (congrArg State.tickAt hout :)
    have hglb : again.glb.mode = .run ∧ again.glb.wakeSrc = code := ⟨(congrArg (fun x => x.glb.mode) hout :), (congrArg (fun x => x.glb.wakeSrc) hout :)⟩
    have hlane : again.lane = (s.woken onA code).lane := (congrArg State.lane hout :)
    have hslot : again.lace.mySlot = s.lace.mySlot := (congrArg (fun x => x.lace.mySlot) hout :)
    have himg : again.img = s.img := (congrArg State.img hout :)
    have hrails : again.rails = s.rails := (congrArg State.rails hout :)
    dsimp only
    rw [hcyc, htickAt, hslot, hlane]
    exact ⟨hglb.1, hglb.2, rfl, rfl, rfl, rfl, rfl, hline, himg, hrails⟩

end Sys2Proof.Machine
end

section
/-! PROOFS. O13: the steps of a warm start, what waits meanwhile, and a chuck hold that abandons or pauses it (R333 to R338, R590, R606,
R610). -/

namespace Sys2Proof.Machine

/-! Which step of a warm start is due (R334, R337). -/

section
variable {s : State} {k t : Nat}

theorem State.warmDue_of_now (hwarm : s.glb.warmBusy = true) (hheld : s.lane.held = false) (hgov : s.lane.govStop = false)
    (hstage : s.glb.warmStage = k) (hcyc : s.glb.warmAt + min t s.glb.warmFor ≤ s.cyc) : s.warmDue k t = true := by
  simp [State.warmDue, hwarm, hheld, hgov, hstage, hcyc]

theorem State.warmDue_of_stage (h : s.glb.warmStage ≠ k) : s.warmDue k t = false := by
  simp [State.warmDue, h]

theorem State.warmDue_of_early (h : s.cyc < s.glb.warmAt + min t s.glb.warmFor) : s.warmDue k t = false := by
  simp [State.warmDue, h]

theorem State.warmDue_of_held (h : s.lane.held = true) : s.warmDue k t = false := by
  simp [State.warmDue, h]

/-- With no step due a warm start goes on as it is. -/
theorem State.warmRun_of_none (h0 : s.warmDue 0 1500 = false) (h1 : s.warmDue 1 2750 = false) (h2 : s.warmDue 2 3500 = false)
    (h3 : s.warmDue 3 3750 = false) : s.warmRun = s := by
  simp [State.warmRun, h0, h1, h2, h3]

end

/-! What steps 3 to 6 change. -/

section
variable (s : State)

/-- Step 3 moves the update block alone, and that only for an activated FIRMWARE package (R590). -/
theorem State.warmCode_eq : s.warmCode =
    { s with upd := (if s.warmActs 1 then s.bankSwap else s).upd, glb := { s.glb with warmStage := 1 } } := by
  unfold State.warmCode
  split <;> rfl

theorem State.warmCode_bank : s.warmCode.upd.bank = if s.warmActs 1 then !s.upd.bank else s.upd.bank := by
  rw [State.warmCode_eq]
  dsimp only
  split <;> rfl

/-- From s to t sections of the new image are adopted: the image, its notes, the loops' transfers and the metering alone change. -/
def OnlyAdopts (s t : State) : Prop :=
  t = { s with img := t.img, lathe := t.lathe, adc := t.adc, glb := { s.glb with coldSect := t.glb.coldSect, adoptSect := t.glb.adoptSect } }

theorem OnlyAdopts.refl : OnlyAdopts s s := rfl

theorem OnlyAdopts.trans {a b c : State} (h : OnlyAdopts a b) (k : OnlyAdopts b c) : OnlyAdopts a c := by
  rw [OnlyAdopts] at h k ⊢
  rw [k, h]

theorem OnlyAdopts.ite {a b c : State} {p : Prop} [Decidable p] (h : OnlyAdopts a b) (k : OnlyAdopts a c) :
    OnlyAdopts a (if p then b else c) := by
  split <;> assumption

theorem OnlyAdopts.foldl {α : Type} {f : State → α → State} (h : ∀ t a, OnlyAdopts t (f t a)) (l : List α) : OnlyAdopts s (l.foldl f s) :=
  List.foldlRecOn (motive := OnlyAdopts s) l f (.refl s) fun t ht a _ => ht.trans (h t a)

theorem OnlyAdopts.adopt (k : Nat) : OnlyAdopts s (s.adopt k) := rfl

theorem OnlyAdopts.modLoopSt (r : Nat) (f : LoopSt → LoopSt) : OnlyAdopts s (s.modLoopSt r f) := rfl

theorem OnlyAdopts.modMeter (m : Nat) (f : Meter → Meter) : OnlyAdopts s (s.modMeter m f) := rfl

theorem OnlyAdopts.loopsAdopt : OnlyAdopts s s.loopsAdopt :=
  .foldl s (fun t r => .ite (.modLoopSt t r _) (.refl t)) _

theorem OnlyAdopts.adcAdopt : OnlyAdopts s s.adcAdopt :=
  .foldl s (fun t m => .ite (.refl t) (.modMeter t m _)) _

theorem OnlyAdopts.adoptAll : OnlyAdopts s s.adoptAll := by
  unfold State.adoptAll
  extract_lets l adopted looped
  have hadopted : OnlyAdopts s adopted := .foldl s (fun t k => .adopt t k) l
  have hlooped : OnlyAdopts s looped := hadopted.trans (.ite (.loopsAdopt _) (.refl _))
  exact hlooped.trans (.ite (.adcAdopt _) (.refl _))

/-- Step 4 adopts sections, or no section, and is noted (R610). -/
theorem OnlyAdopts.warmAdopt : OnlyAdopts (s.modGlb fun g => { g with warmStage := 2 }) s.warmAdopt := by
  unfold State.warmAdopt
  extract_lets noted
  exact OnlyAdopts.trans (b := noted) rfl (.ite (.adoptAll noted) (.refl noted))

/-- After step 4 the adoptable sections of an activated CONFIG package are the new image's, and the rest is as it was (R610). -/
theorem State.warmAdopt_img_get (a : Nat) : s.warmAdopt.img.get 0 a =
    if s.warmActs 2 && s.adoptable.any (fun k => (sectionWords k).contains a) then s.newImg.get 0 a else s.img.get 0 a := by
  unfold State.warmAdopt
  extract_lets noted
  have hacts : noted.warmActs 2 = s.warmActs 2 := rfl
  rw [hacts]
  cases s.warmActs 2 with
  | true => exact State.adoptAll_img_get noted a
  | false => rfl

/-- Rail y is rail x apart from its dwell counts (R150). -/
def Rail.redwelt (x y : Rail) : Prop := y = { x with dwellUp := y.dwellUp, dwellDn := y.dwellDn }

theorem State.restartDwell_redwelt (q r : Nat) : (s.rail r).redwelt ((s.restartDwell q).rail r) := by
  rw [State.restartDwell, State.modRail_rail_at]
  split
  · next h => rw [h]; rfl
  · rfl

/-- The restart of the counts leaves all but the loops and the rails (R335). -/
theorem State.countsRestart_only : s.countsRestart = { s with loops := s.countsRestart.loops, rails := s.countsRestart.rails } := by
  unfold State.countsRestart
  extract_lets cleared
  have hcleared : cleared = { s with loops := cleared.loops } :=
    List.foldlRecOn (motive := fun t : State => t = { s with loops := t.loops }) _ _ rfl fun t ht _ _ => by rw [State.modLoop, ht]
  refine List.foldlRecOn (motive := fun t : State => t = { s with loops := t.loops, rails := t.rails }) _ _ ?_ fun t ht _ _ => ?_
  · rw [hcleared]
  · rw [State.restartDwell, State.modRail, ht]

theorem State.countsRestart_rail (r : Nat) : (s.rail r).redwelt (s.countsRestart.rail r) := by
  unfold State.countsRestart
  extract_lets cleared
  have hcleared : cleared.rail r = s.rail r :=
    List.foldlRecOn (motive := fun t : State => t.rail r = s.rail r) _ _ rfl fun t ht _ _ => ht
  rw [← hcleared]
  refine List.foldlRecOn (motive := fun t : State => (cleared.rail r).redwelt (t.rail r)) _ _ rfl fun t ht q _ => ?_
  have hq := t.restartDwell_redwelt q r
  rw [Rail.redwelt] at ht hq ⊢
  rw [hq, ht]

/-- The records that step 6 of a warm start for a configuration makes in GLB (R347). -/
def Glb.warmEnded (g : Glb) (cls : Nat) : Glb :=
  { g with warmCnt := satAdd 4095 g.warmCnt 1, warmLen := g.warmFor, warmCause := if cls = 2 then 2 else 0, warmBusy := false, warmStage := 0, warmIs := 0 }

variable {s}

/-- Step 6 with no activation behind it and the measurement section not adopted (R335). -/
theorem State.warmEnd_of_adoption (hact : s.glb.warmIs = 2) (hsect : s.glb.adoptSect.getLsbD 6 = false) :
    s.warmEnd = (s.countsRestart.modGlb fun g => g.warmEnded s.pkgClass).raiseEvt 216 (reqrSource 475) := by
  have hbit : s.glb.warmIs.getLsbD 0 = false := by rw [hact]; rfl
  have hglb : s.countsRestart.glb = s.glb := by rw [State.countsRestart_only]
  simp only [State.warmEnd, Glb.warmEnded, State.modGlb_glb, hbit, hglb, hsect, Bool.false_eq_true, if_false, Nat.zero_add]

/-- Step 6 of a warm start for a configuration: the counts restart, and beyond what the event makes the records in GLB alone change
(R335, R347). -/
theorem State.warmEnd_outside (hact : s.glb.warmIs = 2) (hsect : s.glb.adoptSect.getLsbD 6 = false) : s.warmEnd.outside =
    { s.outside with loops := s.countsRestart.loops, rails := s.countsRestart.rails, glb := s.outside.glb.warmEnded s.pkgClass } := by
  have honly := s.countsRestart_only
  rw [State.warmEnd_of_adoption hact hsect, State.raiseEvt_outside]
  generalize s.countsRestart = counted at honly ⊢
  rw [honly]
  rfl

theorem State.warmEnd_rail (hact : s.glb.warmIs = 2) (hsect : s.glb.adoptSect.getLsbD 6 = false) (r : Nat) :
    (s.rail r).redwelt (s.warmEnd.rail r) := by
  have hrails : s.warmEnd.rails = s.countsRestart.rails := (congrArg State.rails (State.warmEnd_outside hact hsect) :)
  rw [State.rail_of_rails hrails]
  exact s.countsRestart_rail r

end

/-! What a step of the block does while a warm start is in progress. -/

theorem step_of_idle {s t : State} (hempty : s.pending = []) (ht : s.idle = t) : step s = .next t := by
  simp [step, hempty, ht]

section
variable {s : State}

/-- The steps of a warm start wait for their times, and in a hold for its end (R334, R337). -/
theorem State.idle_of_waits
    (h : s.lane.held = true ∨ (s.glb.warmStage = 0 ∧ s.cyc + 1 < s.glb.warmAt + min 1500 s.glb.warmFor) ∨
      (s.glb.warmStage = 1 ∧ s.cyc + 1 < s.glb.warmAt + min 2750 s.glb.warmFor) ∨
      (s.glb.warmStage = 2 ∧ s.cyc + 1 < s.glb.warmAt + min 3500 s.glb.warmFor) ∨
      (s.glb.warmStage = 3 ∧ s.cyc + 1 < s.glb.warmAt + s.glb.warmFor ∧ s.glb.warmFor ≤ 3750)) :
    s.idle = { s with cyc := s.cyc + 1 } := by
  have hother {k t : Nat} (hk : s.glb.warmStage ≠ k) : ({ s with cyc := s.cyc + 1 } : State).warmDue k t = false := State.warmDue_of_stage hk
  have hearly {k t : Nat} (ht : s.cyc + 1 < s.glb.warmAt + min t s.glb.warmFor) : ({ s with cyc := s.cyc + 1 } : State).warmDue k t = false :=
    State.warmDue_of_early ht
  rcases h with hheld | ⟨hk, ht⟩ | ⟨hk, ht⟩ | ⟨hk, ht⟩ | ⟨hk, ht, hfor⟩
  · have hpaused {k t : Nat} : ({ s with cyc := s.cyc + 1 } : State).warmDue k t = false := State.warmDue_of_held hheld
    exact State.warmRun_of_none hpaused hpaused hpaused hpaused
  · exact State.warmRun_of_none (hearly ht) (hother (by omega)) (hother (by omega)) (hother (by omega))
  · exact State.warmRun_of_none (hother (by omega)) (hearly ht) (hother (by omega)) (hother (by omega))
  · exact State.warmRun_of_none (hother (by omega)) (hother (by omega)) (hearly ht) (hother (by omega))
  · exact State.warmRun_of_none (hother (by omega)) (hother (by omega)) (hother (by omega)) (hearly (by omega))

section
variable (hwarm : s.glb.warmBusy = true) (hheld : s.lane.held = false) (hgov : s.lane.govStop = false) (hfor : s.glb.warmFor = 3750)
include hwarm hheld hgov hfor

theorem State.warmRun_of_code (hstage : s.glb.warmStage = 0) (hcyc : s.cyc = s.glb.warmAt + 1500) : s.warmRun = s.warmCode := by
  have hdue : s.warmDue 0 1500 = true := State.warmDue_of_now hwarm hheld hgov hstage (by omega)
  have hearly : s.warmCode.warmDue 1 2750 = false := by
    rw [State.warmCode_eq]
    exact State.warmDue_of_early (show s.cyc < s.glb.warmAt + min 2750 s.glb.warmFor by omega)
  have hlater {k t : Nat} (hk : 1 ≠ k) : s.warmCode.warmDue k t = false := State.warmDue_of_stage hk
  simp [State.warmRun, hdue, hearly, hlater]

theorem State.warmRun_of_adopt (hstage : s.glb.warmStage = 1) (hcyc : s.cyc = s.glb.warmAt + 2750) : s.warmRun = s.warmAdopt := by
  have hfirst : s.warmDue 0 1500 = false := State.warmDue_of_stage (by omega)
  have hdue : s.warmDue 1 2750 = true := State.warmDue_of_now hwarm hheld hgov hstage (by omega)
  have honly := OnlyAdopts.warmAdopt s
  have hearly : s.warmAdopt.warmDue 2 3500 = false := by
    rw [honly]
    exact State.warmDue_of_early (show s.cyc < s.glb.warmAt + min 3500 s.glb.warmFor by omega)
  have hlast : s.warmAdopt.warmDue 3 3750 = false := by
    rw [honly]
    exact State.warmDue_of_stage (show 2 ≠ 3 by decide)
  simp [State.warmRun, hfirst, hdue, hearly, hlast]

theorem State.warmRun_of_check (hstage : s.glb.warmStage = 2) (hcyc : s.cyc = s.glb.warmAt + 3500) : s.warmRun = s.warmCheck := by
  have hfirst : s.warmDue 0 1500 = false := State.warmDue_of_stage (by omega)
  have hsecond : s.warmDue 1 2750 = false := State.warmDue_of_stage (by omega)
  have hdue : s.warmDue 2 3500 = true := State.warmDue_of_now hwarm hheld hgov hstage (by omega)
  have hearly : s.warmCheck.warmDue 3 3750 = false :=
    State.warmDue_of_early (show s.cyc < s.glb.warmAt + min 3750 s.glb.warmFor by omega)
  simp [State.warmRun, hfirst, hsecond, hdue, hearly]

/-- Step 6 with nothing held leaves no arrival's time behind (R336). -/
theorem State.warmRun_of_end (hstage : s.glb.warmStage = 3) (hcyc : s.cyc = s.glb.warmAt + 3750) (htick : s.lane.tickHeld = 0)
    (hnone : s.lane.boundary = []) : s.warmRun = s.warmEnd.modGlb fun g => { g with lineAt := none } := by
  have hother {k t : Nat} (hk : k ≠ 3) : s.warmDue k t = false := State.warmDue_of_stage (by omega)
  have hdue : s.warmDue 3 3750 = true := State.warmDue_of_now hwarm hheld hgov hstage (by omega)
  have hlane : s.warmEnd.lane = s.lane := State.warmEnd_lane s
  have hend : s.warmRun = s.warmEnd.heldTicks.takeHeld true := by
    simp [State.warmRun, hother, hdue]
  rw [hend, State.heldTicks_of_none (by rw [hlane, htick]), State.takeHeld_of_none (by rw [hlane, hnone])]

end

/-! What arrives meanwhile: it waits, a tick is counted, and a chuck hold abandons or pauses the warm start (R334, R336, R337). -/

theorem exec_warmStart_of_due (hs : s.lanesRun) (htick : s.glb.warmTick = true) (hpend : s.glb.warmPend ≠ 0) (hrun : s.glb.mode = .run)
    (w : WarmIn) : exec (.warmStart w) s = .next (s.modGlb fun g =>
      { g with warmBusy := true, warmTick := false, warmPend := 0, warmIs := s.glb.warmPend, warmStage := 0, warmAt := s.cyc, warmFor := min 3750 w.len }) := by
  have hheld := hs.held
  obtain ⟨-, -, hgov, -⟩ := hs
  show execWarmStart w s = _
  rw [execWarmStart, if_neg (by simp [htick, hrun, hheld, hgov, show ¬s.glb.warmPend = 0#2 from hpend])]
  rfl

/-- An arrival during a warm start waits in the boundary buffers, with its time (R334). -/
theorem State.arrive_of_warm (hwarm : s.glb.warmBusy = true) (hgov : s.lane.govStop = false) (c : Instr)
    (o : Host.Outcome State Fault Refusal) :
    s.arrive c o = .next ((s.hardware c).modLane fun x => { x with boundary := addHeld x.boundary s.time c }) := by
  rw [State.arrive, if_neg (by simp [hgov]), if_pos (by simp [State.stalled, hwarm])]

theorem exec_epochTick_of_warm (hlive : s.live = true) (hwarm : s.glb.warmBusy = true) (hgov : s.lane.govStop = false)
    (hbefore : s.tickAt < s.glb.warmAt + s.glb.warmFor) :
    exec .epochTick s = .next (s.modLane fun x => { x with tickHeld := x.tickHeld + 1 }) := by
  have hgoes : s.warmUntil s.tickAt = s := by
    rw [State.warmUntil]
    exact if_neg (by simp [hbefore])
  show execEpochTick s = _
  simp [execEpochTick, hgoes, hlive, hgov, State.stalled, hwarm]

/-- Three lanes vote and none has a majority: a chuck hold begins (R289, R337). -/
theorem exec_chuckHold_of_voters (hlive : s.live = true) (hnone : s.lane.hold = none) (hgov : s.lane.govStop = false)
    (hvoters : 3 ≤ s.voters.length) (three : Bool) : runsTo (.chuckHold three) s fun t =>
    t.lane.hold = some .checker ∧ t.glb = { s.warmAbandon.glb with warmTick := false } := by
  have htwo : ¬s.voters.length < 2 := by omega
  have hthree : ¬s.voters.length < 3 := by omega
  have hbegins : ¬(!s.live || s.lane.hold.isSome || s.lane.govStop || decide (s.voters.length < 2) || (three && decide (s.voters.length < 3))) = true := by
    simp [hlive, hnone, hgov, htwo, hthree]
  refine ⟨_, congrArg Host.Outcome.next (if_neg hbegins), ?_, ?_⟩
  · rw [State.traceExt_lane]
    rfl
  · rw [State.traceExt_only, State.holdBegin_eq]
    rfl

/-- Before step 3 a warm start is abandoned, and it stays pending (R337). -/
theorem State.warmAbandon_glb_of_first (hwarm : s.glb.warmBusy = true) (hstage : s.glb.warmStage = 0) :
    s.warmAbandon.glb = { s.glb with warmBusy := false, warmPend := s.glb.warmPend ||| s.glb.warmIs, warmIs := 0 } := by
  rw [State.warmAbandon, if_pos (by simp [hwarm, hstage])]
  rfl

theorem State.warmAbandon_of_later (hstage : s.glb.warmStage ≠ 0) : s.warmAbandon = s := by
  rw [State.warmAbandon, if_neg (by simp [hstage])]

end

/-- Settles O13: each core cycle runs the one step that is due, an arrival waits, and a chuck hold begins from the state that
`State.warmAbandon` leaves. -/
theorem warmStartsRun : Obligations.WarmStartsRun := by
  unfold Obligations.WarmStartsRun
  intro s
  refine ⟨fun w htick hpend hrun hs => exec_warmStart_of_due hs htick hpend hrun w,
    fun r hwarm hgov => State.arrive_of_warm hwarm hgov _ _,
    fun hlive hwarm hgov hbefore => exec_epochTick_of_warm hlive hwarm hgov hbefore,
    fun hempty _ hwaits => step_of_idle hempty (State.idle_of_waits hwaits),
    fun hempty hwarm hheld hgov hfor => ⟨fun hstage hcyc => ?code, fun hstage hcyc => ?adopt, fun hstage hcyc => ?check,
      fun hstage hcyc htick hnone hcause hsect => ?ends⟩,
    fun three hlive hnone hgov hvoters hwarm => ?holds⟩
  case code =>
    refine ⟨_, step_of_idle hempty (State.warmRun_of_code hwarm hheld hgov hfor hstage hcyc),
      State.warmCode_bank _, ?_, ?_⟩
    · rw [State.warmCode_eq]
    · rw [State.warmCode_eq]
  case adopt =>
    have honly := OnlyAdopts.warmAdopt { s with cyc := s.cyc + 1 }
    refine ⟨_, step_of_idle hempty (State.warmRun_of_adopt hwarm hheld hgov hfor hstage hcyc),
      ?_, ?_, fun a => State.warmAdopt_img_get _ a⟩
    · rw [honly]; rfl
    · rw [honly]; rfl
  case check =>
    have hat : s.glb.warmAt + min 3500 s.glb.warmFor = s.cyc + 1 := by omega
    rw [step_of_idle hempty (State.warmRun_of_check hwarm hheld hgov hfor hstage hcyc), ← hat]
    rfl
  case ends =>
    have hrun := State.warmRun_of_end (s := { s with cyc := s.cyc + 1 }) hwarm hheld hgov hfor hstage hcyc htick hnone
    have hout := State.warmEnd_outside (s := { s with cyc := s.cyc + 1 }) hcause hsect
    refine ⟨_, step_of_idle hempty hrun, (congrArg (fun x => x.glb.warmBusy) hout :),
      (congrArg (fun x => x.glb.warmCnt) hout :), (congrArg (fun x => x.glb.warmLen) hout :).trans hfor, (congrArg (fun x => x.glb.mode) hout :),
      (congrArg State.img hout :), (congrArg State.upd hout :), fun r => ?_⟩
    have hrail := State.warmEnd_rail (s := { s with cyc := s.cyc + 1 }) hcause hsect r
    exact ⟨(congrArg Rail.en hrail :), (congrArg Rail.running hrail :), (congrArg Rail.acc hrail :), (congrArg Rail.target hrail :)⟩
  case holds =>
    obtain ⟨t, hexec, hhold, hglb⟩ := exec_chuckHold_of_voters hlive hnone hgov hvoters three
    refine ⟨t, hexec, hhold, ?_⟩
    rw [hglb]
    refine ⟨rfl, fun hfirst => ?_, fun hlater => ?_⟩
    · rw [State.warmAbandon_glb_of_first hwarm hfirst]
      exact ⟨rfl, rfl⟩
    · rw [State.warmAbandon_of_later hlater]
      exact ⟨hwarm, rfl⟩

end Sys2Proof.Machine
end

section
/-! PROOFS. O40: a value that polling replaces at port 7 is counted in ADC_PUB_DROP (R399, R417), which is none of the parts that the
statement lets change. -/

namespace Sys2Proof.Machine

/-- Device 0 has one item, a status word that three poll periods have not refreshed, and its last value still waits at port 7. -/
def staleWaiting : State :=
  { img := [(Img.twb1DUsed.addr 0, BitVec.ofNat 32 (2 ^ Img.twb1DUsed.lo)), (Img.twb1IType.addr 0, BitVec.ofNat 32 (5 * 2 ^ Img.twb1IType.lo))],
    glb := { mode := .run }, tickAt := 16, led := { epoch := 5, pubEpoch := 4 },
    foreign := [(0, { miss := [(0, 3)] })],
    pipe := { offers := [(7, [{ ep := liForeign 0, kind := .publish, cls := 5, reqr := 0x29, val2 := 1 }])] } }

/-- The STALE value of the fourth period takes the place of the one that waits. -/
theorem staleWaiting_poll_drops : (staleWaiting.after (exec (.foreignPoll 0) staleWaiting)).adc.pubDrop = 1 := by
  decide +kernel

/-- Refutes O40: a poll period that publishes an item STALE while an earlier value of it waits at port 7 replaces that value and counts
it in ADC_PUB_DROP. The statement's clause of the poll period lets the devices, the pipeline and the Lace link alone change. -/
theorem not_foreignDevicesArePolled : ¬ Obligations.ForeignDevicesArePolled := by
  unfold Obligations.ForeignDevicesArePolled
  intro h
  have hready : staleWaiting.ready := ⟨⟨rfl, rfl, rfl, rfl⟩, rfl⟩
  obtain ⟨hpoll, -⟩ := h staleWaiting 0 hready
  obtain ⟨t, ht, -, -, -, -, -, hframe⟩ := hpoll (by decide +kernel)
  have hkept : t.adc = staleWaiting.adc := (congrArg State.adc hframe :)
  have hdrops := staleWaiting_poll_drops
  rw [ht, State.after_next, hkept] at hdrops
  exact absurd hdrops (by decide)

end Sys2Proof.Machine
end

section
/-! PROOFS. The states of the eyelets: HELLOs that leave, an eyelet that goes DOWN with the slots behind it, and a HELLO that is received
(R350, R355, R356, R377, R381, R388). -/

namespace Sys2Proof.Machine

/-! Frames and HELLOs leave the state of every eyelet and the parent as they are. -/

theorem Eyelet.putFrame_st (x : Eyelet) (f : Frame) : (x.putFrame f).st = x.st := rfl

theorem Eyelet.pump_st (n : Nat) (x : Eyelet) : (x.pump n).st = x.st := by
  induction n generalizing x with
  | zero => rfl
  | succ n ih =>
    rw [Eyelet.pump]
    split
    · rw [ih, Eyelet.putFrame_st]
    · rfl

/-- From s the Lace link alone has moved, and in it neither the parent nor the state of an eyelet. -/
structure KeepsLinks (s t : State) : Prop where
  only : t = { s with lace := t.lace }
  parent : t.lace.parent = s.lace.parent
  st : ∀ e, (t.eye e).st = (s.eye e).st

theorem KeepsLinks.refl (s : State) : KeepsLinks s s := ⟨rfl, rfl, fun _ => rfl⟩

theorem KeepsLinks.trans {a b c : State} (h : KeepsLinks a b) (k : KeepsLinks b c) : KeepsLinks a c :=
  ⟨State.only_lace_trans h.only k.only, k.parent.trans h.parent, fun e => (k.st e).trans (h.st e)⟩

theorem KeepsLinks.ite {a b c : State} {p : Prop} [Decidable p] (h : KeepsLinks a b) (k : KeepsLinks a c) :
    KeepsLinks a (if p then b else c) := by
  split <;> assumption

theorem KeepsLinks.foldl {α : Type} {f : State → α → State} (h : ∀ s a, KeepsLinks s (f s a)) (l : List α) (s : State) :
    KeepsLinks s (l.foldl f s) :=
  List.foldlRecOn (motive := fun t => KeepsLinks s t) l f (.refl s) fun t ht a _ => ht.trans (h t a)

theorem KeepsLinks.modSlot (s : State) (k : Nat) (f : SlotRec → SlotRec) : KeepsLinks s (s.modSlot k f) := ⟨rfl, rfl, fun _ => rfl⟩

theorem KeepsLinks.modEye (s : State) (e : Nat) {f : Eyelet → Eyelet} (h : (f (s.eye e)).st = (s.eye e).st) : KeepsLinks s (s.modEye e f) := by
  refine ⟨rfl, rfl, fun j => ?_⟩
  rw [State.modEye_eye_at]
  split
  · next hj => rw [h, hj]
  · rfl

theorem KeepsLinks.sendFrame (s : State) (e : Nat) (f : Frame) : KeepsLinks s (s.sendFrame e f) :=
  .ite (.modEye s e (Eyelet.pump_st ..)) (.refl s)

theorem KeepsLinks.helloOut (s : State) (e : Nat) : KeepsLinks s (s.helloOut e) := .ite (.modEye s e rfl) (.refl s)

theorem KeepsLinks.helloAll (s : State) : KeepsLinks s s.helloAll := .foldl KeepsLinks.helloOut _ s

/-- Slots that can no longer be reached move slot records and send a report (R377). -/
theorem KeepsLinks.slotsLost (s : State) (l : List Nat) : KeepsLinks s (s.slotsLost l) := by
  unfold State.slotsLost
  refine .ite (.foldl (fun s sl => .ite (.modSlot ..) (.refl s)) l s) (.ite (.refl s) ?_)
  extract_lets m t
  have ht : KeepsLinks s t := .foldl (fun s sl => .ite (.refl s) (.modSlot ..)) l s
  split
  · exact ht.trans (.sendFrame ..)
  · exact ht

theorem KeepsLinks.src {s t : State} (h : KeepsLinks s t) (n : Nat) : t.src n = s.src n := (congrArg (fun x => State.src x n) h.only :)

theorem KeepsLinks.outside {s t : State} (h : KeepsLinks s t) : t.outside = { s.outside with lace := t.lace } :=
  (congrArg State.outside h.only).trans rfl

/-! HELLOs that leave (R355, R356). -/

section
variable {s : State} {e : Nat}

theorem State.modEye_eye_ne {j : Nat} (h : j ≠ e) (f : Eyelet → Eyelet) : (s.modEye e f).eye j = s.eye j := by
  rw [State.modEye_eye_at, if_neg (Ne.symm h)]

/-- An eyelet that has sent a HELLO (R350). -/
def Eyelet.greeting (x : Eyelet) (h : Hello) : Eyelet := { x with sent := h.stamp :: x.sent.filter (· ≠ h.stamp), hello := some h }

/-- An eyelet whose receiver has locked (R350). -/
def Eyelet.training (x : Eyelet) : Eyelet := { x with st := .train }

theorem State.helloOut_of_on (hon : s.laceOn e = true) (hst : (s.eye e).st ≠ .down) :
    s.helloOut e = s.modEye e fun x => x.greeting (s.helloOf e) := by
  rw [State.helloOut, hon, bne_iff_ne.2 hst]
  rfl

theorem State.helloOut_of_down (hst : (s.eye e).st = .down) : s.helloOut e = s := by
  rw [State.helloOut, hst, bne_self_eq_false, Bool.and_false]
  rfl

/-- A HELLO shows nothing of an eyelet but the last HELLO that it received. -/
theorem State.helloOf_modEye {f : Eyelet → Eyelet} (hlast : (f (s.eye e)).last = (s.eye e).last)
    (harr : (f (s.eye e)).lastArr = (s.eye e).lastArr) :
    (s.modEye e f).helloOf e = s.helloOf e := by
  have hlasts : ∀ j, ((s.modEye e f).eye j).last = (s.eye j).last := fun j => by
    rw [State.modEye_eye_at]
    split
    · next hj => rw [hlast, hj]
    · rfl
  have htook : (s.modEye e f).rootTook = s.rootTook := by
    simp only [State.rootTook, hlasts]
    rfl
  simp only [State.helloOf, htook, State.modEye_eye, hlast, harr]
  rfl

end

/-! An eyelet that goes DOWN (R350, R377, R381). -/

/-- An eyelet DOWN: its counters and its delay stay, and it stays a child eyelet while a parked slot lies behind it (R361, R390). -/
def Eyelet.dropped (x : Eyelet) (way : Bool) : Eyelet :=
  { st := .down, crc := x.crc, retx := x.retx, rtt := x.rtt, crcWin := x.crcWin, crcStart := x.crcStart, idleUntil := x.idleUntil,
    child := x.child && way }

/-- The state in which eyelet e alone has gone DOWN. -/
def State.eyeDropped (s : State) (e : Nat) : State :=
  s.modEye e fun x => x.dropped ((s.slotsVia e).any fun sl => (s.slotRec sl).st == .parked)

section
variable {s : State} {e : Nat}

theorem State.eyeDropped_st (s : State) (e : Nat) : ((s.eyeDropped e).eye e).st = .down := by
  rw [State.eyeDropped, State.modEye_eye]
  rfl

theorem State.eyeDown_of_down (hst : (s.eye e).st = .down) : s.eyeDown e = s := if_pos hst

/-- An UP eyelet asserts its source FS320 + 3e, and the slots behind it are lost. -/
theorem State.eyeDown_of_up (hst : (s.eye e).st = .up) (hp : s.lace.parent ≠ some e) :
    s.eyeDown e = ((s.eyeDropped e).assertSrc (320 + 3 * e) 0).slotsLost (((s.eyeDropped e).assertSrc (320 + 3 * e) 0).slotsVia e) := by
  unfold State.eyeDown
  simp only [hst, beq_false_of_ne hp]
  rfl

/-- The parent eyelet takes the parent with it. -/
theorem State.eyeDown_of_parent (hst : (s.eye e).st = .up) (hp : s.lace.parent = some e) :
    s.eyeDown e = (s.loseParent.eyeDropped e).assertSrc (320 + 3 * e) 0 := by
  unfold State.eyeDown
  simp only [hst, hp, beq_self_eq_true]
  rfl

/-- A training eyelet asserts nothing. -/
theorem State.eyeDown_of_train (hst : (s.eye e).st = .train) (hp : s.lace.parent ≠ some e) :
    s.eyeDown e = (s.eyeDropped e).slotsLost ((s.eyeDropped e).slotsVia e) := by
  unfold State.eyeDown
  simp only [hst, beq_false_of_ne hp]
  rfl

/-! A HELLO that is received (R355, R356, R365, R388). -/

/-- An eyelet that has received a HELLO; one that echoes a HELLO of its own measures the round trip (R356). -/
def Eyelet.heard (x : Eyelet) (h : Hello) (arr : BitVec 16) : Eyelet :=
  { x with peer := h.uid, last := some h, lastArr := arr, rtt := if x.sent.contains h.echo then (arr - h.echo - h.turn).toNat else x.rtt }

/-- An eyelet between two roots carries no frames (R388). -/
def Eyelet.goForeign (x : Eyelet) : Eyelet := { x with st := .foreign, txQ := [], unacked := [] }

/-- Eyelet e has received an echo and is UP: its source clears (R350, assumption 67). -/
def State.echoed (s : State) (e : Nat) (h : Hello) (arr : BitVec 16) : State :=
  ((s.modEye e fun x => x.heard h arr).modEye e Eyelet.goUp).releaseSrc (320 + 3 * e)

/-- This unit takes its hop count and its root from the HELLO on its parent eyelet (R365). -/
def State.ledBy (s : State) (h : Hello) : State :=
  s.modLace fun l => { l with
    hop := if h.hop.toNat = 255 then 255 else h.hop.toNat + 1
    rootUid := if h.hop.toNat = 255 then l.rootUid else h.rootUid }

theorem State.echoed_eye (s : State) (e : Nat) (h : Hello) (arr : BitVec 16) : (s.echoed e h arr).eye e = ((s.eye e).heard h arr).goUp := by
  rw [State.echoed, State.releaseSrc_eye_keep, State.modEye_eye, State.modEye_eye]

theorem State.echoed_eye_ne (s : State) {j : Nat} (hj : j ≠ e) (h : Hello) (arr : BitVec 16) : (s.echoed e h arr).eye j = s.eye j := by
  rw [State.echoed, State.releaseSrc_eye_keep, State.modEye_eye_ne hj, State.modEye_eye_ne hj]

theorem State.echoed_outside (s : State) (e : Nat) (h : Hello) (arr : BitVec 16) :
    (s.echoed e h arr).outside = { s.outside with lace := (s.echoed e h arr).lace } := by
  rw [State.echoed, State.releaseSrc_outside, State.releaseSrc_lace]
  rfl

theorem State.ledBy_eye (s : State) (h : Hello) (j : Nat) : (s.ledBy h).eye j = s.eye j := rfl

end

/-! The commands of the eyelets while the lanes run and the block governs. -/

section
variable {s : State} {e : Fin 4} (h : s.ready) (hon : s.laceOn e = true)
include h

theorem exec_hello_of_ready (m : Hello) (arr : BitVec 16) : exec (.hello e m arr) s = runHello e m arr s := State.arrive_runs h.1 _ _

theorem exec_helloSend_of_ready : exec (.helloSend e) s = .next (s.helloOut e) := State.arrive_runs h.1 _ _

theorem exec_eyeletLock_of_ready : exec (.eyeletLock e) s =
    .next (if s.laceOn e && (s.eye e).st == .down then (s.modEye e Eyelet.training).helloOut e else s) := State.arrive_runs h.1 _ _

theorem exec_eyeletLockLoss_of_ready : exec (.eyeletLockLoss e) s = .next (if s.laceOn e then s.eyeDown e else s) := State.arrive_runs h.1 _ _

theorem exec_helloTimeout_of_ready : exec (.helloTimeout e) s =
    .next (if s.laceOn e && ((s.eye e).st == .up || (s.eye e).st == .foreign) then s.eyeDown e else s) := State.arrive_runs h.1 _ _

/-- Nothing is lost on an eyelet that is DOWN, and it sends no HELLO. -/
theorem exec_eyelet_of_down (hst : (s.eye e).st = .down) {c : Instr} (hc : c = .eyeletLockLoss e ∨ c = .helloTimeout e ∨ c = .helloSend e) :
    exec c s = .next s := by
  rcases hc with rfl | rfl | rfl
  · rw [exec_eyeletLockLoss_of_ready h, State.eyeDown_of_down hst, ite_self]
  · rw [exec_helloTimeout_of_ready h, State.eyeDown_of_down hst, ite_self]
  · rw [exec_helloSend_of_ready h, State.helloOut_of_down hst]

/-- A training eyelet waits for an echo without a limit. -/
theorem exec_helloTimeout_of_train (hst : (s.eye e).st = .train) : exec (.helloTimeout e) s = .next s := by
  have hwaits : ((s.eye e).st == .up || (s.eye e).st == .foreign) = false := by rw [hst]; rfl
  rw [exec_helloTimeout_of_ready h, hwaits, Bool.and_false, if_neg Bool.false_ne_true]

theorem exec_hello_of_down (hst : (s.eye e).st = .down) (m : Hello) (arr : BitVec 16) : exec (.hello e m arr) s = .next s := by
  rw [exec_hello_of_ready h, runHello]
  simp only [hst, beq_self_eq_true, Bool.or_true, if_true]

include hon

/-- A lost lock and a silent peer take an UP eyelet DOWN alike (R350). -/
theorem exec_eyeletLost_of_up (hst : (s.eye e).st = .up) {c : Instr} (hc : c = .eyeletLockLoss e ∨ c = .helloTimeout e) :
    exec c s = .next (s.eyeDown e) := by
  rcases hc with rfl | rfl
  · rw [exec_eyeletLockLoss_of_ready h, if_pos hon]
  · rw [exec_helloTimeout_of_ready h, hon, hst]
    rfl

/-- An eyelet whose receiver locks trains, and sends its HELLO (R350, R356). -/
theorem exec_eyeletLock_of_down (hst : (s.eye e).st = .down) :
    exec (.eyeletLock e) s = .next ((s.modEye e Eyelet.training).modEye e fun x => x.greeting (s.helloOf e)) := by
  have htrain : ((s.modEye e Eyelet.training).eye e).st ≠ .down := by
    rw [State.modEye_eye]
    exact EyeState.noConfusion
  have hsends := State.helloOut_of_on (s := s.modEye e Eyelet.training) hon htrain
  rw [State.helloOf_modEye (f := Eyelet.training) rfl rfl] at hsends
  rw [exec_eyeletLock_of_ready h, hon, hst]
  exact congrArg Host.Outcome.next hsends

/-- What a HELLO does on an eyelet that is not DOWN, by the state that its reception leaves. -/
theorem exec_hello_of_on (hst : (s.eye e).st ≠ .down) (m : Hello) (arr : BitVec 16) {t : State}
    (ht : t = if (s.eye e).st = .train && (s.eye e).sent.contains m.echo then s.echoed e m arr else s.modEye e fun x => x.heard m arr) :
    exec (.hello e m arr) s = .next (
      if (t.eye e).st = .up && m.hop.toNat != 255 && t.lace.hop != 255 && m.rootUid != t.lace.rootUid then
        (t.modEye e Eyelet.goForeign).assertSrc 334 0
      else if (t.eye e).st = .foreign then t
      else if t.lace.parent = some e.val then
        if t.lace.hop != (t.ledBy m).lace.hop || ((s.eye e).last.any fun k => k.takeover) != m.takeover then (t.ledBy m).helloAll else t.ledBy m
      else if t.isDomainHead && (t.eye e).st == .up && (t.eye e).child && decide (t.tickNumber 0 < m.epoch.toNat) then t.raiseAbove m.epoch.toNat
      else t) := by
  have hguard : (!s.laceOn e || (s.eye e).st == .down) = false := by
    rw [hon, beq_false_of_ne hst]
    rfl
  subst ht
  rw [exec_hello_of_ready h, runHello]
  simp only [hguard, Bool.false_eq_true, if_false]
  rfl

/-- An echo takes a training eyelet UP; a domain head may raise its numbering too (R350, R368). -/
theorem exec_hello_of_echo {m : Hello} (hst : (s.eye e).st = .train) (hecho : (s.eye e).sent.contains m.echo = true)
    (hp : s.lace.parent ≠ some e.val) (hhop : s.lace.hop = 255) (arr : BitVec 16) :
    runsTo (.hello e m arr) s fun t =>
      t = { s.echoed e m arr with lace := t.lace } ∧ t.lace.eyes = (s.echoed e m arr).lace.eyes := by
  have hlace : (s.echoed e m arr).lace = ((s.modEye e fun x => x.heard m arr).modEye e Eyelet.goUp).lace := State.releaseSrc_lace _ _
  have hrun := exec_hello_of_on h hon (by rw [hst]; decide) m arr (t := s.echoed e m arr) (by rw [hst, hecho]; rfl)
  have hup : ((s.echoed e m arr).eye e).st = .up := by
    rw [State.echoed_eye]
    rfl
  have hfree : ((s.echoed e m arr).lace.hop != 255) = false := by
    rw [hlace, bne_eq_false_iff_eq]
    exact hhop
  have hother : (s.echoed e m arr).lace.parent ≠ some e.val := by
    rw [hlace]
    exact hp
  simp only [hup, hfree, hother, decide_true, Bool.and_false, Bool.false_and, Bool.false_eq_true, if_false, reduceCtorEq] at hrun
  refine ⟨_, hrun, ?_⟩
  split
  · exact ⟨rfl, rfl⟩
  · exact ⟨rfl, rfl⟩

/-- A HELLO of another root makes an UP eyelet FOREIGN and asserts FS334 (R388). -/
theorem exec_hello_of_otherRoot {m : Hello} (hst : (s.eye e).st = .up) (hhop : m.hop ≠ 255) (hown : s.lace.hop ≠ 255)
    (hroot : m.rootUid ≠ s.lace.rootUid) (arr : BitVec 16) :
    exec (.hello e m arr) s = .next (((s.modEye e fun x => x.heard m arr).modEye e Eyelet.goForeign).assertSrc 334 0) := by
  have hrun := exec_hello_of_on h hon (by rw [hst]; decide) m arr (t := s.modEye e fun x => x.heard m arr) (by rw [hst]; rfl)
  have hshown : m.hop.toNat ≠ 255 := fun heq => hhop (BitVec.eq_of_toNat_eq heq)
  rw [hrun, State.modEye_eye, if_pos]
  simp only [Bool.and_eq_true, decide_eq_true_eq, bne_iff_ne]
  exact ⟨⟨⟨hst, hshown⟩, hown⟩, hroot⟩

/-- A HELLO of the own root on the parent eyelet gives this unit its hop count and its root; where what it shows changes, every eyelet
sends its HELLO (R356, R365). -/
theorem exec_hello_of_parent {m : Hello} (hst : (s.eye e).st = .up) (hp : s.lace.parent = some e.val)
    (hsame : m.hop = 255 ∨ s.lace.hop = 255 ∨ m.rootUid = s.lace.rootUid) (arr : BitVec 16) :
    runsTo (.hello e m arr) s fun t =>
      KeepsLinks ((s.modEye e fun x => x.heard m arr).ledBy m) t ∧
      t.lace = { ((s.modEye e fun x => x.heard m arr).ledBy m).lace with eyes := t.lace.eyes } := by
  have hrun := exec_hello_of_on h hon (by rw [hst]; decide) m arr (t := s.modEye e fun x => x.heard m arr) (by rw [hst]; rfl)
  have hup : ((s.modEye e fun x => x.heard m arr).eye e).st = .up := by
    rw [State.modEye_eye]
    exact hst
  have hone : ¬((((s.modEye e fun x => x.heard m arr).eye e).st = .up && m.hop.toNat != 255 &&
      s.lace.hop != 255 && m.rootUid != s.lace.rootUid) = true) := by
    simp only [Bool.and_eq_true, bne_iff_ne]
    rintro ⟨⟨⟨-, hshown⟩, hown⟩, hroot⟩
    rcases hsame with hm | hl | hr
    · exact hshown (congrArg BitVec.toNat hm)
    · exact hown hl
    · exact hroot hr
  have hnear : ((s.modEye e fun x => x.heard m arr).eye e).st ≠ .foreign := by
    rw [hup]
    decide
  refine ⟨_, hrun.trans (congrArg Host.Outcome.next ((if_neg hone).trans ((if_neg hnear).trans (if_pos hp)))), ?_⟩
  split
  · exact ⟨.helloAll _, State.helloAll_lace _⟩
  · exact ⟨.refl _, rfl⟩

end

/-- Settles O35: each condition of an eyelet, by the state that it finds the eyelet in and by whether it is the parent eyelet. -/
theorem eyeletsChangeState : Obligations.EyeletsChangeState := by
  unfold Obligations.EyeletsChangeState
  intro s e h hon
  have hsrc : ∀ k : Fin 4, pulsed (320 + 3 * k.val) = false := by decide
  refine ⟨fun hst => ?locks, fun hst => ?locked, fun c hc hst hp => ?down, fun c hc hst hp hen => ?parentDown, fun hst hp => ?trainDown,
    fun c hc hst => exec_eyelet_of_down h hst hc, fun hst => ?sends, fun m arr hst => exec_hello_of_down h hst m arr,
    fun m arr hst hecho hp hhop => ?up, fun m arr hst hhop hown hroot => ?foreign, fun m arr hst hp hsame => ?parent⟩
  case locks =>
    refine ⟨_, exec_eyeletLock_of_down h hon hst, ?_, fun j hj => ?_, rfl⟩
    · rw [State.modEye_eye, State.modEye_eye]
      rfl
    · rw [State.modEye_eye_ne hj, State.modEye_eye_ne hj]
  case locked =>
    rw [exec_eyeletLock_of_ready h, beq_false_of_ne hst, Bool.and_false, if_neg Bool.false_ne_true]
  case down =>
    have hrun := exec_eyeletLost_of_up h hon hst hc
    rw [State.eyeDown_of_up hst hp] at hrun
    have hkeeps := KeepsLinks.slotsLost ((s.eyeDropped e).assertSrc (320 + 3 * e) 0) (((s.eyeDropped e).assertSrc (320 + 3 * e) 0).slotsVia e)
    refine ⟨_, hrun, ?_, ?_, ?_, ?_⟩
    · rw [hkeeps.st, State.assertSrc_eye_keep, State.eyeDropped_st]
    · rw [hkeeps.src, State.assertSrc_line _ _ _ (hsrc e)]
    · rw [hkeeps.parent, State.assertSrc_lace]
      rfl
    · rw [hkeeps.outside, State.assertSrc_outside]
      rfl
  case parentDown =>
    have hrun := exec_eyeletLost_of_up h hon hst hc
    rw [State.eyeDown_of_parent hst hp] at hrun
    have hlace : ((s.loseParent.eyeDropped e).assertSrc (320 + 3 * e) 0).lace = (s.loseParent.eyeDropped e).lace := State.assertSrc_lace ..
    have hlost := State.loseParent_lace hp hen
    refine ⟨_, hrun, ?_, State.assertSrc_line _ _ _ (hsrc e), ?_, ?_, ?_, ?_, ?_⟩
    · rw [State.assertSrc_eye_keep, State.eyeDropped_st]
    · rw [Stirs.assertOther _ _ _ _ (by decide), if_neg (by omega)]
      exact State.loseParent_line hp hen
    · rw [hlace]
      exact (congrArg Lace.parent hlost :)
    · rw [hlace]
      exact (congrArg Lace.mySlot hlost :)
    · rw [hlace]
      exact (congrArg Lace.hop hlost :)
    · rw [hlace, State.assertSrc_outside]
      exact (congrArg (fun x : State => { x with lace := (s.loseParent.eyeDropped e).lace }) (State.loseParent_outside hp hen) :)
  case trainDown =>
    have hkeeps := KeepsLinks.slotsLost (s.eyeDropped e) ((s.eyeDropped e).slotsVia e)
    have hrun := exec_eyeletLockLoss_of_ready (e := e) h
    rw [if_pos hon, State.eyeDown_of_train hst hp] at hrun
    refine ⟨exec_helloTimeout_of_train h hst, _, hrun, ?_, (congrArg State.srcs hkeeps.only :), hkeeps.only⟩
    rw [hkeeps.st, State.eyeDropped_st]
  case sends =>
    have hrun := exec_helloSend_of_ready (e := e) h
    rw [State.helloOut_of_on hon hst] at hrun
    exact ⟨_, hrun, State.modEye_eye .., fun j hj => State.modEye_eye_ne hj _, rfl⟩
  case up =>
    obtain ⟨t, hrun, honly, heyes⟩ := exec_hello_of_echo h hon hst hecho hp hhop arr
    have heye : ∀ j, t.eye j = (s.echoed e m arr).eye j := fun j => by rw [State.eye, State.eye, heyes]
    have hself : t.eye e = ((s.eye e).heard m arr).goUp := (heye e).trans (State.echoed_eye ..)
    have hline : t.src (320 + 3 * e) = (s.echoed e m arr).src (320 + 3 * e) := (congrArg (fun x => State.src x (320 + 3 * e)) honly :)
    refine ⟨t, hrun, ?_, ?_, ?_, ?_, ?_, ?_, ?_, ?_, fun j hj => (heye j).trans (State.echoed_eye_ne s hj m arr), ?_⟩
    iterate 6 rw [hself]; rfl
    · rw [hself]
      exact if_pos hecho
    · rw [hline]
      exact State.releaseSrc_line _ _ (hsrc e)
    · refine (congrArg State.outside honly).trans ?_
      exact (congrArg (fun x : State => { x with lace := t.lace }) (State.echoed_outside s e m arr) :)
  case foreign =>
    have heye : ∀ j, (((s.modEye e fun x => x.heard m arr).modEye e Eyelet.goForeign).assertSrc 334 0).eye j =
        ((s.modEye e fun x => x.heard m arr).modEye e Eyelet.goForeign).eye j := State.assertSrc_eye_keep _ _ _
    refine ⟨_, exec_hello_of_otherRoot h hon hst hhop hown hroot arr, ?_, ?_, ?_, State.assertSrc_line _ _ _ (by decide), ?_, fun j hj => ?_, ?_⟩
    iterate 3 rw [heye, State.modEye_eye]; rfl
    · rw [State.assertSrc_lace]
      rfl
    · rw [heye, State.modEye_eye_ne hj, State.modEye_eye_ne hj]
    · rw [State.assertSrc_outside, State.assertSrc_lace]
      rfl
  case parent =>
    obtain ⟨t, hrun, hkeeps, hlace⟩ := exec_hello_of_parent h hon hst hp hsame arr
    have hshown : m.hop.toNat = 255 ↔ m.hop = 255 := BitVec.toNat_inj (y := 255)
    refine ⟨t, hrun, ?_, ?_, ?_, ?_⟩
    · rw [hlace]
      exact if_congr hshown rfl rfl
    · rw [hlace]
      exact if_congr hshown rfl rfl
    · rw [hkeeps.st, State.ledBy_eye, State.modEye_eye]
      exact hst
    · exact State.only_lace_trans rfl hkeeps.only

end Sys2Proof.Machine
end

section
/-! PROOFS. O36: LINK frames, frames that are sent again, discards and the wait for credit (R353, R355, R357, R359). -/

namespace Sys2Proof.Machine

/-! LINK frames (R355, R357). -/

/-- The credit limits that a LINK frame carries. -/
def linkLimits (credits : List Byte) : Tbl Nat := (List.range 4).foldl (fun t c => t.set 0 c (credits.getD c 0).toNat) []

theorem linkLimits_get (credits : List Byte) {c : Nat} (hc : c < 4) : (linkLimits credits).get 0 c = (credits.getD c 0).toNat := by
  have hcases : c = 0 ∨ c = 1 ∨ c = 2 ∨ c = 3 := by omega
  simp only [linkLimits, List.range, List.range.loop, List.foldl_cons, List.foldl_nil, Tbl.get_set]
  rcases hcases with rfl | rfl | rfl | rfl <;> rfl

/-- An acknowledgement of the oldest frame drops that frame alone. -/
theorem Eyelet.acked_of_oldest {x : Eyelet} {ack : BitVec 8} {f : Frame} {rest : List (BitVec 8 × Frame)} (h : x.unacked = (ack, f) :: rest) :
    x.acked ack = { x with unacked := rest } := by
  simp only [Eyelet.acked, h, List.any_cons, beq_self_eq_true, Bool.true_or, if_true, List.dropWhile_cons, bne_self_eq_false, Bool.false_eq_true,
    if_false, List.drop_succ_cons, List.drop_zero]

theorem Eyelet.pump_of_empty {x : Eyelet} (h : x.txQ = []) (n : Nat) : x.pump n = x := by
  cases n with
  | zero => rfl
  | succ n =>
    have hpick : x.pick = none := by simp [Eyelet.pick, h]
    rw [Eyelet.pump, hpick]

theorem Eyelet.starved_of_empty {x : Eyelet} (h : x.txQ = []) (c : Nat) : x.starved c = false := by
  rw [Eyelet.starved, h, List.any_nil, Bool.and_false]

/-- On NAK the unacknowledged frames are sent again. -/
def Eyelet.answered (x : Eyelet) (nak : Bool) : Eyelet := if nak then x.resend else x

theorem Eyelet.answered_eq (x : Eyelet) (nak : Bool) :
    x.answered nak = { x with retx := x.retx + if nak then BitVec.ofNat 32 x.unacked.length else 0 } := by
  cases nak with
  | true => rfl
  | false =>
    have hnone : x.retx + (if false = true then BitVec.ofNat 32 x.unacked.length else 0) = x.retx := BitVec.add_zero _
    rw [hnone]
    rfl

/-- An eyelet that has received a LINK frame: what it acknowledges goes, a NAK repeats the rest, and what has credit leaves. -/
def Eyelet.linked (x : Eyelet) (ack : Byte) (nak : Bool) (credits : List Byte) : Eyelet :=
  let y := (x.acked ack).answered nak
  { y with limits := linkLimits credits }.pump (y.txQ.length + 1)

/-- With the oldest frame acknowledged and nothing waiting. -/
theorem Eyelet.linked_of_oldest {x : Eyelet} {ack : BitVec 8} {f : Frame} {rest : List (BitVec 8 × Frame)} (hq : x.txQ = [])
    (h : x.unacked = (ack, f) :: rest) (nak : Bool) (credits : List Byte) : x.linked ack nak credits =
      { x with unacked := rest, limits := linkLimits credits, retx := x.retx + if nak then BitVec.ofNat 32 rest.length else 0 } := by
  rw [Eyelet.linked, Eyelet.acked_of_oldest h, Eyelet.answered_eq]
  exact Eyelet.pump_of_empty (x := { x with
    unacked := rest, limits := linkLimits credits, retx := x.retx + if nak then BitVec.ofNat 32 rest.length else 0 }) hq _

/-! Discarded frames (R353). -/

/-- An eyelet that has discarded a frame: the count of a window of 1 s goes on or begins anew. -/
def Eyelet.discarded (x : Eyelet) (now : Nat) : Eyelet :=
  if x.crcWin = 0 || decide (x.crcStart + 1000000 * usTime ≤ now) then { x with crc := x.crc + 1, crcWin := 1, crcStart := now }
  else { x with crc := x.crc + 1, crcWin := x.crcWin + 1 }

theorem Eyelet.discarded_of_first {x : Eyelet} (h : x.crcWin = 0) (now : Nat) :
    x.discarded now = { x with crc := x.crc + 1, crcWin := 1, crcStart := now } := by
  rw [Eyelet.discarded, h]
  rfl

theorem Eyelet.discarded_of_running {x : Eyelet} {now : Nat} (h : x.crcWin ≠ 0) (hnow : now < x.crcStart + 1000000 * usTime) :
    x.discarded now = { x with crc := x.crc + 1, crcWin := x.crcWin + 1 } := by
  rw [Eyelet.discarded, decide_eq_false h, decide_eq_false (Nat.not_le.2 hnow)]
  rfl

/-! The commands while the lanes run and the block governs. -/

section
variable {s : State} {e : Fin 4} (h : s.ready)
include h

theorem exec_linkSend_of_ready : exec (.linkSend e) s = .next (if s.laceOn e && ((s.eye e).st == .up || (s.eye e).st == .foreign) then
    s.modEye e fun x => { x with
      links := x.links + 1, granted := s.grantNow e, nak := false
      link := some (x.rxSeq - 1, x.nak, (List.range 4).map fun c => (s.grantNow e).get 0 c) }
    else s) := State.arrive_runs h.1 _ _

theorem exec_link_of_ready (ack : Byte) (nak : Bool) (cr : List Byte) :
    exec (.link e ack nak cr) s = .next (if s.laceOn e && (s.eye e).st == .up then
    let t := s.modEye e fun x => x.linked ack nak cr
    if (List.range 4).any (t.eye e).starved then t else t.releaseSrc (322 + 3 * e)
    else s) := State.arrive_runs h.1 _ _

theorem exec_sequenceReject_of_ready : exec (.sequenceReject e) s =
    .next (if s.laceOn e && (s.eye e).st == .up then s.modEye e fun x => { x with nak := true } else s) := State.arrive_runs h.1 _ _

theorem exec_resendTimeout_of_ready : exec (.resendTimeout e) s =
    .next (if s.laceOn e && (s.eye e).st == .up then s.modEye e Eyelet.resend else s) := State.arrive_runs h.1 _ _

theorem exec_creditTimeout_of_ready (c : Fin 4) : exec (.creditTimeout e c) s =
    .next (if s.laceOn e && (s.eye e).st == .up && (s.eye e).starved c then s.assertSrc (322 + 3 * e) 0 else s) := State.arrive_runs h.1 _ _

/-- A discarded frame is counted, and FS321 + 3e follows the count against its threshold. -/
theorem exec_frameDiscard_of_on (hon : s.laceOn e = true) {y : Eyelet} (hy : (s.eye e).discarded s.time = y) : runsTo (.frameDiscard e) s fun t =>
    t.eye e = y ∧ (t.src (321 + 3 * e)).line = decide (s.im Img.laceCrcThr e < y.crcWin) ∧ (∀ j, j ≠ e.val → t.eye j = s.eye j) ∧
      t.outside = { s.outside with lace := t.lace } := by
  have hline : ∀ k : Fin 4, pulsed (321 + 3 * k.val) = false := by decide
  have hrun : exec (.frameDiscard e) s = .next ((s.modEye e fun x => x.discarded s.time).followSrc (321 + 3 * e) 0
      (decide (s.im Img.laceCrcThr e < ((s.modEye e fun x => x.discarded s.time).eye e).crcWin))) := by
    rw [show exec (.frameDiscard e) s = _ from State.arrive_runs h.1 _ _, runFrameDiscard, if_pos hon]
    rfl
  rw [State.modEye_eye, hy] at hrun
  refine ⟨_, hrun, ?_, State.followSrc_line _ _ _ _ (hline e), fun j hj => ?_, ?_⟩
  · rw [State.followSrc_eye_keep, State.modEye_eye, hy]
  · rw [State.followSrc_eye_keep, State.modEye_eye_ne hj]
  · rw [State.followSrc_outside, State.followSrc_lace]
    rfl

/-- A LINK frame that leaves nothing waiting ends the wait for credit. -/
theorem exec_link_of_oldest (hon : s.laceOn e = true) (hst : (s.eye e).st = .up) (hq : (s.eye e).txQ = []) {ack : BitVec 8} {f : Frame}
    {rest : List (BitVec 8 × Frame)} (hold : (s.eye e).unacked = (ack, f) :: rest) (nak : Bool) (cr : List Byte) :
    exec (.link e ack nak cr) s = .next ((s.modEye e fun x => x.linked ack nak cr).releaseSrc (322 + 3 * e)) := by
  have hempty : ((s.eye e).linked ack nak cr).txQ = [] := by
    rw [Eyelet.linked_of_oldest hq hold]
    exact hq
  have hfed : (List.range 4).any ((s.eye e).linked ack nak cr).starved = false :=
    List.any_eq_false.2 fun c _ => by rw [Eyelet.starved_of_empty hempty]; exact Bool.false_ne_true
  rw [exec_link_of_ready h, hon, hst]
  dsimp only
  rw [State.modEye_eye, hfed]
  rfl

end

/-- Settles O36: each condition of a link by the eyelet that it leaves and by the source that follows it. -/
theorem linksCountAndResend : Obligations.LinksCountAndResend := by
  unfold Obligations.LinksCountAndResend
  intro s e h hon
  have hwait : ∀ k : Fin 4, pulsed (322 + 3 * k.val) = false := by decide
  refine ⟨fun hst => ?sends, fun ack f rest nak cr hst hq hold => ?received,
    fun hwin => exec_frameDiscard_of_on h hon (Eyelet.discarded_of_first hwin s.time),
    fun hwin hnow => exec_frameDiscard_of_on h hon (Eyelet.discarded_of_running hwin hnow), fun hst => ?rejects,
    fun hst => ?resends, fun c hst hstarved => ?starves, fun c hfed => ?fed, fun hst => ?silent⟩
  case sends =>
    have hcarries : ((s.eye e).st == .up || (s.eye e).st == .foreign) = true := by
      rcases hst with hst | hst <;> rw [hst] <;> rfl
    rw [exec_linkSend_of_ready h, hon, hcarries, Bool.true_and, if_pos rfl]
  case received =>
    have heye : ((s.modEye e fun x => x.linked ack nak cr).releaseSrc (322 + 3 * e)).eye e =
        { s.eye e with unacked := rest, limits := linkLimits cr, retx := (s.eye e).retx + if nak then BitVec.ofNat 32 rest.length else 0 } := by
      rw [State.releaseSrc_eye_keep, State.modEye_eye, Eyelet.linked_of_oldest hq hold]
    refine ⟨_, exec_link_of_oldest h hon hst hq hold nak cr, ?_, ?_, fun c hc => ?_, State.releaseSrc_line _ _ (hwait e), fun j hj => ?_, ?_⟩
    · rw [heye]
    · rw [heye]
    · rw [heye]
      exact linkLimits_get cr hc
    · rw [State.releaseSrc_eye_keep, State.modEye_eye_ne hj]
    · rw [State.releaseSrc_outside, State.releaseSrc_lace]
      rfl
  case rejects =>
    rw [exec_sequenceReject_of_ready h, hon, hst, Bool.true_and, beq_self_eq_true, if_pos rfl]
  case resends =>
    rw [exec_resendTimeout_of_ready h, hon, hst, Bool.true_and, beq_self_eq_true, if_pos rfl]
    rfl
  case starves =>
    have hrun := exec_creditTimeout_of_ready (e := e) h c
    rw [hon, hst, hstarved, Bool.true_and, beq_self_eq_true, Bool.true_and, if_pos rfl] at hrun
    exact ⟨_, hrun, State.assertSrc_line _ _ _ (hwait e), State.assertSrc_outside ..⟩
  case fed =>
    rw [exec_creditTimeout_of_ready h, hfed, Bool.and_false, if_neg Bool.false_ne_true]
  case silent =>
    have hquiet : (s.laceOn e && (s.eye e).st == .up) = false := by rw [beq_false_of_ne hst, Bool.and_false]
    refine ⟨fun c => ?_, ?_, ?_, fun ack nak cr => ?_⟩
    · rw [exec_creditTimeout_of_ready h, hquiet, Bool.false_and, if_neg Bool.false_ne_true]
    · rw [exec_sequenceReject_of_ready h, hquiet, if_neg Bool.false_ne_true]
    · rw [exec_resendTimeout_of_ready h, hquiet, if_neg Bool.false_ne_true]
    · rw [exec_link_of_ready h, hquiet, if_neg Bool.false_ne_true]

end Sys2Proof.Machine
end

section
/-! PROOFS. O7, O10: what a step leaves of the one-time memory, of the image and of the waiting commands. Programming turns bits from
0 to 1 alone (R565), a start and an adoption write whole words of the image (R603), and no command touches the queue. -/

namespace Sys2Proof.Machine

/-! Bits that stay set. -/

theorem bits_within_trans {w : Nat} {a b c : BitVec w} (h : a &&& b = a) (k : b &&& c = b) : a &&& c = a := by
  rw [← h, BitVec.and_assoc, k]

/-- Every bit of word x is a bit of word y. -/
def OtpWord.within (x y : OtpWord) : Prop := x.data &&& y.data = x.data ∧ x.chk &&& y.chk = x.chk

theorem OtpWord.within.refl (x : OtpWord) : x.within x := ⟨BitVec.and_self, BitVec.and_self⟩

theorem OtpWord.within.trans {x y z : OtpWord} (h : x.within y) (k : y.within z) : x.within z :=
  ⟨bits_within_trans h.1 k.1, bits_within_trans h.2 k.2⟩

theorem OtpWord.within_setBit (x : OtpWord) (b : Nat) : x.within (x.setBit b) := by
  have habsorb {w : Nat} (a c : BitVec w) : a &&& (a ||| c) = a := by
    ext i hi
    simp +contextual
  unfold OtpWord.setBit
  split
  · exact ⟨habsorb _ _, BitVec.and_self⟩
  · exact ⟨BitVec.and_self, habsorb _ _⟩

/-! What a part of a step leaves of the memories. -/

/-- From s to t no bit of the one-time memory clears, both memories keep their canonical form and the queue stays. -/
structure KeepsMemories (s t : State) : Prop where
  bits : ∀ w, (s.otpWord w).within (t.otpWord w)
  words : Tbl.wf ({} : OtpWord) s.otp.words = true → Tbl.wf ({} : OtpWord) t.otp.words = true
  img : Tbl.wf (0 : Word) s.img = true → Tbl.wf (0 : Word) t.img = true
  pending : t.pending = s.pending

theorem KeepsMemories.trans {a b c : State} (h : KeepsMemories a b) (k : KeepsMemories b c) : KeepsMemories a c :=
  ⟨fun w => (h.bits w).trans (k.bits w), k.words ∘ h.words, k.img ∘ h.img, k.pending.trans h.pending⟩

/-- With the one-time memory left alone, the image alone decides. -/
theorem KeepsMemories.of_img {s t : State} (hotp : t.otp.words = s.otp.words) (hpending : t.pending = s.pending)
    (himg : Tbl.wf (0 : Word) s.img = true → Tbl.wf (0 : Word) t.img = true) : KeepsMemories s t := by
  refine ⟨fun w => ?_, fun h => by rwa [hotp], himg, hpending⟩
  rw [State.otpWord, State.otpWord, hotp]
  exact .refl _

theorem KeepsMemories.of_still {s t : State} (h : t.fixed.1 = s.fixed.1) : KeepsMemories s t :=
  have himg : t.img = s.img := (congrArg (fun x => x.2.1) h :)
  .of_img (congrArg (fun x => x.2.2.1) h :) (congrArg (fun x => x.2.2.2) h :) fun hs => himg ▸ hs

theorem KeepsMemories.of_fixed {s t : State} (h : t.fixed = s.fixed) : KeepsMemories s t := .of_still (congrArg Prod.fst h)

theorem KeepsMemories.of_imgQueue {s t : State} (hotp : t.otp.words = s.otp.words) (h : t.imgQueue = s.imgQueue) : KeepsMemories s t :=
  .of_img hotp (congrArg Prod.snd h :) fun hs => (State.img_of_imgQueue h).symm ▸ hs

theorem KeepsMemories.refl (s : State) : KeepsMemories s s := .of_fixed rfl

theorem KeepsMemories.foldl {α : Type} {f : State → α → State} (h : ∀ t a, KeepsMemories t (f t a)) (l : List α) (s : State) :
    KeepsMemories s (l.foldl f s) :=
  List.foldlRecOn (motive := KeepsMemories s) l f (.refl s) fun t ht a _ => ht.trans (h t a)

theorem KeepsMemories.ite {a b c : State} {p : Prop} [Decidable p] (h : KeepsMemories a b) (k : KeepsMemories a c) :
    KeepsMemories a (if p then b else c) := by
  split <;> assumption

/-- A pulse sets one bit of one word (R573). -/
theorem KeepsMemories.setBit (s : State) (w b : Nat) : KeepsMemories s (s.setOtpWord w ((s.otpWord w).setBit b)) := by
  refine ⟨fun k => ?_, Tbl.set_wf _ _ _ _, id, rfl⟩
  have hword : (s.setOtpWord w ((s.otpWord w).setBit b)).otpWord k = if w = k then (s.otpWord w).setBit b else s.otpWord k :=
    Tbl.get_set ..
  rw [hword]
  split
  · next h => exact h ▸ OtpWord.within_setBit _ b
  · exact .refl _

/-! What the lanes take out of the boundary buffers. -/

theorem runOtpPulseDone_keepsMemories (reads1 : Bool) (s : State) : KeepsMemories s (s.after (runOtpPulseDone reads1 s)) := by
  unfold runOtpPulseDone
  rw [State.after_next]
  split
  · exact .refl s
  · next w b rest _ =>
    split
    · extract_lets burnt left
      have hleft : KeepsMemories s left := (KeepsMemories.setBit s w b).trans (.of_fixed rfl)
      exact .ite (hleft.trans (.of_fixed (State.otpStop_fixed left))) (hleft.trans (.of_fixed (State.otpAdvance_fixed left)))
    · have hstop : KeepsMemories s s.otpStop := .of_fixed (State.otpStop_fixed s)
      refine .ite (hstop.trans (.of_fixed ?_)) (.ite hstop (.of_fixed rfl))
      exact State.pulseSrc_fixed _ _ _

theorem runEpochMarker_words (e : Fin 4) (m : Marker) (s : State) : (s.after (runEpochMarker e m s)).otp.words = s.otp.words := by
  unfold runEpochMarker
  rw [State.after_next]
  extract_lets n lead d cycles raise ahead t ok taken
  have hfresh : taken.fresh.2.otp.words = s.otp.words := (congrArg (fun x => x.1.2.2.1) (State.fresh_fixed taken) :)
  split
  · rfl
  · split
    · rfl
    · split
      · rfl
      · split
        · rfl
        · dsimp only
          split <;> exact hfresh

theorem State.otp_of_outside {s t : State} (h : t.outside = s.outside) : t.otp = s.otp := (congrArg State.otp h :)

theorem State.parked_otp (s : State) : s.parked.otp = s.otp := by
  obtain ⟨lane, glb, tickAt, hparked⟩ := s.parked_only
  obtain ⟨adc, thm, gau, pipe, htaken⟩ := s.parkTaken_only
  rw [hparked, State.otp_of_outside (State.eyesLost_records _).outside, htaken]

theorem runParkEntry_eq (s : State) : runParkEntry s =
    .next (if !s.glb.parkPend || !s.glb.parkTick || s.glb.mode != .run || s.lane.govStop || !s.mayPark then s else s.parked) := rfl

theorem runParkEntry_otp (s : State) : (s.after (runParkEntry s)).otp = s.otp := by
  rw [runParkEntry_eq, State.after_next]
  split
  · rfl
  · exact s.parked_otp

theorem runWake_of_noted {s : State} {code n : Nat} (h : s.glb.waking = some (code, n)) (l : Bool) (k : List (Int × Nat)) : runWake l k s =
    .next (if s.glb.mode != .parked || s.lane.govStop then s
      else (((s.woken (l && s.lane.xtalOk) code).followSrc 263 0 (!(l && s.lane.xtalOk))).remeasured k
        (decide (s.im Img.gauRestT * 1000000 * usTime ≤ s.time - s.glb.modeTime))).quickened) := by
  rw [runWake, h]
  rfl

theorem runWake_otp (l : Bool) (k : List (Int × Nat)) (s : State) : (s.after (runWake l k s)).otp = s.otp := by
  cases h : s.glb.waking with
  | none =>
    rw [runWake, h]
    rfl
  | some x =>
    rw [runWake_of_noted h, State.after_next]
    split
    · rfl
    · obtain ⟨again, hagain, -, hout⟩ := State.remeasured_woken s (l && s.lane.xtalOk) x.1 k
        (decide (s.im Img.gauRestT * 1000000 * usTime ≤ s.time - s.glb.modeTime))
      have hotp : again.otp = s.otp := (congrArg State.otp hout :)
      rw [hagain, State.quickened_eq]
      exact hotp

/-- Of what waits in the boundary buffers only a pulse's end changes the one-time memory. -/
theorem runHeld_keepsMemories (c : Instr) (s : State) : KeepsMemories s (s.after (runHeld c s)) := by
  by_cases hb : ∃ b, c = .otpPulseDone b
  · obtain ⟨b, rfl⟩ := hb; exact runOtpPulseDone_keepsMemories b s
  refine .of_imgQueue ?_ (runHeld_imgQueue c s)
  by_cases hm : ∃ e m, c = .epochMarker e m
  · obtain ⟨e, m, rfl⟩ := hm; exact runEpochMarker_words e m s
  by_cases hp : c = .parkEntry
  · subst hp; exact congrArg Otp.words (runParkEntry_otp s)
  by_cases hw : ∃ l k, c = .wake l k
  · obtain ⟨l, k, rfl⟩ := hw; exact congrArg Otp.words (runWake_otp l k s)
  exact congrArg (fun x => x.1.2.2.1)
    (runHeld_fixed c s (fun b h => hb ⟨b, h⟩) (fun e m h => hm ⟨e, m, h⟩) hp fun l k h => hw ⟨l, k, h⟩)

/-- A command that reaches the lanes, or waits for them, keeps what its effect keeps. -/
theorem KeepsMemories.arrive {s : State} {o : Host.Outcome State Fault Refusal} (h : KeepsMemories s (s.after o)) (c : Instr) :
    KeepsMemories s (s.after (s.arrive c o)) := by
  have hw : KeepsMemories s (s.hardware c) := .of_fixed (State.hardware_fixed s c)
  unfold State.arrive
  split
  · split
    · exact h
    · exact hw
  · split
    · exact hw.trans (.of_fixed rfl)
    · exact h

theorem KeepsMemories.modGlb (s : State) (f : Glb → Glb) : KeepsMemories s (s.modGlb f) := .of_imgQueue rfl rfl

theorem KeepsMemories.modLane (s : State) (f : Lane → Lane) : KeepsMemories s (s.modLane f) := .of_imgQueue rfl rfl

theorem KeepsMemories.takeOne (warm : Bool) (s : State) (x : Nat × Instr) : KeepsMemories s (s.takeOne warm x) :=
  (KeepsMemories.modGlb s _).trans (.arrive (runHeld_keepsMemories x.2 _) x.2)

theorem KeepsMemories.takeHeld (s : State) (warm : Bool) : KeepsMemories s (s.takeHeld warm) := by
  rw [State.takeHeld_eq]
  exact ((KeepsMemories.modLane s _).trans (.foldl (.takeOne warm) _ _)).trans (.modGlb _ _)

theorem KeepsMemories.drain (s : State) : KeepsMemories s s.drain := by
  unfold State.drain
  exact .ite (.refl s) (.ite (.of_fixed (State.releaseRails_fixed s))
    (.ite (.takeHeld s false) ((KeepsMemories.takeHeld s false).trans (.of_fixed (State.releaseRails_fixed _)))))

/-! The end of a chuck hold or of a clock switch. -/

theorem KeepsMemories.with_cyc (s : State) (n : Nat) : KeepsMemories s { s with cyc := n } := .of_imgQueue rfl rfl

theorem KeepsMemories.holdEnd (s : State) (len : Nat) : KeepsMemories s (s.holdEnd len) := by
  unfold State.holdEnd
  extract_lets a b
  have ha : KeepsMemories s a := (KeepsMemories.with_cyc s _).trans (.of_fixed (State.holdNote_fixed _ len))
  have hb : KeepsMemories a b := .ite (.modGlb a _) (.of_still (State.heldTicks_still a))
  split
  · exact .refl s
  · split
    · exact ha.trans (.modLane a _)
    · dsimp only
      have hc : KeepsMemories b (b.modLane fun x => { x with settled := none, switched := false }) := .modLane b _
      have hd := ((ha.trans hb).trans hc).trans (.ite (p := b.lane.switched = true) (.of_fixed (State.switchNote_fixed _)) (.refl _))
      split
      · exact hd.trans (.of_fixed (State.settleNote_fixed _ _))
      · exact hd

theorem KeepsMemories.settle (s : State) (res len : Nat) (iso : List Nat) : KeepsMemories s (s.settle res len iso) := by
  unfold State.settle
  exact ((KeepsMemories.modLane s _).trans (.of_fixed (foldl_fixed _ State.isolateLane_fixed iso _))).trans (.holdEnd _ len)

theorem runHoldCheckerStage_keepsMemories (r : BitVec 3) (len : Nat) (s : State) :
    KeepsMemories s (s.after (runHoldCheckerStage r len s)) := by
  unfold runHoldCheckerStage
  exact .ite (.refl s) (.ite (.modLane s _) (.settle ..))

theorem runHoldReplayStage_keepsMemories (agree : Bool) (len : Nat) (s : State) :
    KeepsMemories s (s.after (runHoldReplayStage agree len s)) := by
  unfold runHoldReplayStage
  exact .ite (.refl s) (.ite (.settle ..) (.modLane s _))

theorem runHoldSelfTestStage_keepsMemories (f : BitVec 3) (len : Nat) (s : State) :
    KeepsMemories s (s.after (runHoldSelfTestStage f len s)) := by
  unfold runHoldSelfTestStage
  refine .ite (.refl s) (.ite (.of_fixed ?_) (.settle ..))
  rw [State.governStop_fixed, State.holdNote_fixed, State.modLane_fixed, State.pulseSrc_fixed]

theorem runClockSwitchDone_keepsMemories (len : Nat) (s : State) : KeepsMemories s (s.after (runClockSwitchDone len s)) := by
  unfold runClockSwitchDone
  exact .ite (.refl s) ((KeepsMemories.modLane s _).trans (.holdEnd _ len))

/-! The steps of a warm start, and the tick that they come before. -/

/-- Writes of entries keep the canonical form. -/
theorem Tbl.foldl_set_wf {α β : Type} [DecidableEq α] (d : α) (k : β → Nat) (v : β → α) (l : List β) {t : Tbl α} (h : Tbl.wf d t = true) :
    Tbl.wf d (l.foldl (fun t x => t.set d (k x) (v x)) t) = true :=
  List.foldlRecOn (motive := fun t => Tbl.wf d t = true) l _ h fun t ht x _ => Tbl.set_wf d (v x) t (k x) ht

/-- Taking section k into use writes its words into the image (R610). -/
theorem KeepsMemories.adopt (s : State) (k : Nat) : KeepsMemories s (s.adopt k) :=
  .of_img rfl rfl (Tbl.foldl_set_wf 0 id (fun a => s.newImg.get 0 a) (sectionWords k))

theorem KeepsMemories.adoptAll (s : State) : KeepsMemories s s.adoptAll := by
  unfold State.adoptAll
  extract_lets l adopted looped
  have hadopted : KeepsMemories s adopted := .foldl .adopt l s
  have hlooped : KeepsMemories adopted looped := .ite (.of_fixed (State.loopsAdopt_fixed _)) (.refl _)
  exact (hadopted.trans hlooped).trans (.ite (.of_fixed (State.adcAdopt_fixed _)) (.refl _))

theorem KeepsMemories.warmAdopt (s : State) : KeepsMemories s s.warmAdopt := by
  unfold State.warmAdopt
  exact .ite ((KeepsMemories.modGlb s _).trans (.adoptAll _)) (.modGlb s _)

theorem KeepsMemories.warmRun (s : State) : KeepsMemories s s.warmRun := by
  unfold State.warmRun
  extract_lets coded adopted checked
  have hcoded : KeepsMemories s coded := .ite (.of_fixed (State.warmCode_fixed s)) (.refl s)
  have hadopted : KeepsMemories coded adopted := .ite (.warmAdopt coded) (.refl coded)
  have hchecked : KeepsMemories adopted checked := .ite (.of_fixed (State.warmCheck_fixed adopted)) (.refl adopted)
  have hended : KeepsMemories checked (checked.warmEnd.heldTicks.takeHeld true) :=
    ((KeepsMemories.of_fixed (State.warmEnd_fixed checked)).trans (.of_still (State.heldTicks_still _))).trans (.takeHeld _ true)
  exact ((hcoded.trans hadopted).trans hchecked).trans (.ite hended (.refl checked))

theorem KeepsMemories.idle (s : State) : KeepsMemories s s.idle := (KeepsMemories.with_cyc s _).trans (.warmRun _)

theorem execEpochTick_keepsMemories (s : State) : KeepsMemories s (s.after (execEpochTick s)) := by
  unfold execEpochTick
  rw [State.after_next]
  extract_lets a
  have ha : KeepsMemories s a := by
    unfold a State.warmUntil
    exact .ite ((KeepsMemories.with_cyc s _).trans (.warmRun _)) (.refl s)
  exact .ite ha (.ite (ha.trans (.modLane a _)) (ha.trans (.of_still (State.tickNow_still a))))

/-! The starts and stops. -/

/-- A restart leaves the one-time words and the queue and empties the image (R317). -/
theorem KeepsMemories.restart (s : State) (m : Mode) : KeepsMemories s (s.restart m) := .of_img rfl rfl fun _ => rfl

theorem execVholdStart_keepsMemories (s : State) : KeepsMemories s (s.after (execVholdStart s)) := by
  unfold execVholdStart
  exact .ite (.restart s _) (.refl s)

theorem execVholdBrownOut_keepsMemories (s : State) : KeepsMemories s (s.after (execVholdBrownOut s)) := by
  unfold execVholdBrownOut
  exact .ite (.refl s) (.restart s _)

theorem execPorstNLow_keepsMemories (s : State) : KeepsMemories s (s.after (execPorstNLow s)) := by
  unfold execPorstNLow
  exact (KeepsMemories.modGlb s _).trans (.ite (.refl _) (.restart _ _))

theorem execPorstNRelease_keepsMemories (s : State) : KeepsMemories s (s.after (execPorstNRelease s)) := by
  unfold execPorstNRelease
  exact (KeepsMemories.modGlb s _).trans (.ite (.restart _ _) (.refl _))

theorem execRecoveryColdStart_keepsMemories (s : State) : KeepsMemories s (s.after (execRecoveryColdStart s)) := by
  unfold execRecoveryColdStart
  exact .ite ((KeepsMemories.restart s _).trans (.modGlb _ _)) (.refl s)

/-- A copy's words are set one by one in an empty table (R603). -/
theorem imgWords_wf (l : List Byte) : Tbl.wf (0 : Word) (imgWords l) = true :=
  List.foldlRecOn (motive := fun t => Tbl.wf (0 : Word) t = true) _ _ rfl fun _ ht _ _ => Tbl.foldl_set_wf 0 Prod.fst Prod.snd _ ht

theorem KeepsMemories.startFrom (s : State) (e : StartEnv) (ok : BitVec 3) (n : Nat) (l : List Byte) : KeepsMemories s (s.startFrom e ok n l) := by
  have h := State.startFrom_founded s e ok n l
  have himg : (s.startFrom e ok n l).img = imgWords l := congrArg Prod.fst h
  exact .of_img (congrArg (fun x => x.2.1) h :) (congrArg (fun x => x.2.2.1) h :) fun _ => himg ▸ imgWords_wf l

theorem execColdStart_keepsMemories (e : StartEnv) (s : State) : KeepsMemories s (s.after (execColdStart e s)) := by
  unfold execColdStart
  rw [State.after_next]
  refine .ite (.refl s) (.ite (.modGlb s _) ?_)
  extract_lets ok patch tested
  have htested : KeepsMemories s tested := .modGlb s _
  refine .ite (htested.trans (.modGlb _ _)) ?_
  split
  · exact (htested.trans (.modGlb _ _)).trans (.modLane _ _)
  · exact htested.trans (.startFrom _ e ok _ _)

/-! Every command. -/

theorem exec_keepsMemories (c : Instr) (s : State) : KeepsMemories s (s.after (exec c s)) := by
  by_cases hm : movesFixed c = false
  · exact .of_fixed (exec_fixed c s hm)
  cases c with
  | vholdStart => exact execVholdStart_keepsMemories s
  | vholdBrownOut => exact execVholdBrownOut_keepsMemories s
  | porstNLow => exact execPorstNLow_keepsMemories s
  | porstNRelease => exact execPorstNRelease_keepsMemories s
  | coldStart e => exact execColdStart_keepsMemories e s
  | recoveryColdStart => exact execRecoveryColdStart_keepsMemories s
  | parkEntry => exact .arrive (runHeld_keepsMemories .parkEntry s) _
  | wake l k => exact .arrive (runHeld_keepsMemories (.wake l k) s) _
  | epochTick => exact execEpochTick_keepsMemories s
  | holdCheckerStage r len => exact (runHoldCheckerStage_keepsMemories r len s).trans (.drain _)
  | holdReplayStage a len => exact (runHoldReplayStage_keepsMemories a len s).trans (.drain _)
  | holdSelfTestStage f len => exact (runHoldSelfTestStage_keepsMemories f len s).trans (.drain _)
  | clockSwitchDone len => exact (runClockSwitchDone_keepsMemories len s).trans (.drain _)
  | epochMarker e m => exact .arrive (runHeld_keepsMemories (.epochMarker e m) s) _
  | otpPulseDone b => exact .arrive (runHeld_keepsMemories (.otpPulseDone b) s) _
  | _ => exact absurd rfl hm

/-- A step is a command on the state with the queue's rest, or an idle cycle. -/
theorem step_keepsMemories {s t : State} (h : step s = .next t) : ∃ q, KeepsMemories { s with pending := q } t := by
  unfold step at h
  split at h
  · cases h
    exact ⟨s.pending, .idle s⟩
  · next c rest _ =>
    have hexec := exec_keepsMemories c { s with pending := rest }
    rw [h] at hexec
    exact ⟨rest, hexec⟩

/-- Settles O7: only the end of a pulse writes a one-time word, and it sets one bit of it. -/
theorem oneTimeBitsStaySet : Obligations.OneTimeBitsStaySet := by
  unfold Obligations.OneTimeBitsStaySet
  intro s t hstep w
  obtain ⟨q, hkeeps⟩ := step_keepsMemories hstep
  exact hkeeps.bits w

/-- Settles O10: every write of a memory is a write of single entries, or of none at a restart, and only the step itself takes a command
out of the queue. -/
theorem memoriesStayCanonical : Obligations.MemoriesStayCanonical := by
  unfold Obligations.MemoriesStayCanonical
  refine ⟨fun s t hs hstep => ?step, fun c s t hexec => ?queue⟩
  case step =>
    obtain ⟨q, hkeeps⟩ := step_keepsMemories hstep
    exact ⟨hkeeps.words hs.1, hkeeps.img hs.2⟩
  case queue =>
    have hkeeps := exec_keepsMemories c s
    rw [hexec] at hkeeps
    exact hkeeps.pending

end Sys2Proof.Machine
end

section
/-! PROOFS. O41: a metering result of channel M0 counts charge for the gauge, whose low warning notes its interrupt bit as set in this
core cycle (R418, R468, R476, R489), which is none of the parts that the statement lets change. -/

namespace Sys2Proof.Machine

/-- Metering channel M0 is in use and the gauge runs with an empty pack whose low warning is still to come. -/
def emptyPack : State :=
  { img := [(Img.adcMtrUsed.addr 0, BitVec.ofNat 32 (2 ^ Img.adcMtrUsed.lo)), (Img.chgShuntM.addr 0, BitVec.ofNat 32 (2 ^ Img.chgShuntM.lo)),
            (Img.gauUsed.addr 0, BitVec.ofNat 32 (2 ^ Img.gauUsed.lo))],
    glb := { mode := .run }, tickAt := 16, gau := { pres := true, q := 1 } }

/-- The result of 0 leaves the state of charge at 0, and the warning is given. -/
theorem emptyPack_result_warns : (emptyPack.after (exec (.meteringResult 0 0) emptyPack)).setAt ≠ [] := by
  decide +kernel

/-- Refutes O41: a result of M0 at or below the low warning's threshold sets GAU_INT_F bit 1 and notes the core cycle in which it was set
(R489). The statement's clause of the metering result lets the measurement bank and the gauge alone change. -/
theorem not_slicesMetersAndSequencers : ¬ Obligations.SlicesMetersAndSequencers := by
  unfold Obligations.SlicesMetersAndSequencers
  intro h
  have hready : emptyPack.ready := ⟨⟨rfl, rfl, rfl, rfl⟩, rfl⟩
  obtain ⟨hresult, -⟩ := h.2 emptyPack 0 hready (by decide +kernel)
  obtain ⟨t, ht, -, -, -, -, -, hframe, -⟩ := hresult 0 rfl rfl
  have hkept : t.setAt = [] := (congrArg State.setAt hframe :)
  have hwarns := emptyPack_result_warns
  rw [ht, State.after_next] at hwarns
  exact hwarns hkept

end Sys2Proof.Machine
end

section
/-! PROOFS. O43: a zone that is published STALE replaces its value that still waits at port 7, which is counted in ADC_PUB_DROP (R417,
R428, R429). The statement does not list that count among the parts that change. -/

namespace Sys2Proof.Machine

/-- Zone 0 has no valid member, and its last value still waits at port 7. -/
def zoneWaiting : State :=
  { img := [(Img.thmZUsed.addr 0, BitVec.ofNat 32 (2 ^ Img.thmZUsed.lo))],
    glb := { mode := .run }, tickAt := 16, thm := { zones := [(0, { stalePub := false })] },
    pipe := { offers := [(7, [{ ep := liZone 0, kind := .publish, cls := 5, reqr := 0x27, val2 := 1 }])] } }

/-- The STALE value takes the place of the one that waits. -/
theorem zoneWaiting_evaluation_drops : (zoneWaiting.after (exec (.zoneEvaluation 0) zoneWaiting)).adc.pubDrop = 1 := by
  decide +kernel

/-- Refutes O43: an evaluation that publishes a zone STALE while an earlier value of it waits at port 7 replaces that value and counts it
in ADC_PUB_DROP. The statement's clause of a zone with too few valid members lets the thermal block and the gauge alone change. -/
theorem not_temperaturesAndZones : ¬ Obligations.TemperaturesAndZones := by
  unfold Obligations.TemperaturesAndZones
  intro h
  have hready : zoneWaiting.ready := ⟨⟨rfl, rfl, rfl, rfl⟩, rfl⟩
  obtain ⟨-, -, -, -, -, -, hfew, -⟩ := h zoneWaiting hready
  obtain ⟨t, ht, -, -, -, -, -, -, hframe⟩ := hfew 0 (by decide +kernel) (by decide +kernel)
  have hkept : t.adc = zoneWaiting.adc := (congrArg State.adc hframe :)
  have hdrops := zoneWaiting_evaluation_drops
  rw [ht, State.after_next, hkept] at hdrops
  exact absurd hdrops (by decide)

end Sys2Proof.Machine
end

section
/-! PROOFS. O50: a cycle of the oscillator ends FS266 (R300), also under a halt that keeps the clock itself. -/

namespace Sys2Proof.Machine

/-- The clock is halted, and FS266 still stands from an oscillator that had stopped. -/
def haltedAfterStop : State := { rtc := { halt := true }, srcs := [(266, { line := true })] }

/-- A cycle of the oscillator ends FS266. -/
theorem haltedAfterStop_cycle_releases : ((haltedAfterStop.after (exec .rtcIncrement haltedAfterStop)).src 266).line = false := by
  decide +kernel

/-- Refutes O50: a cycle of a halted clock's oscillator ends FS266 where its line still stands. The statement says that such a cycle
changes nothing. -/
theorem not_clockCountsAndHalts : ¬ Obligations.ClockCountsAndHalts := by
  unfold Obligations.ClockCountsAndHalts
  intro h
  obtain ⟨-, hhalted, -⟩ := h
  have hreleases := haltedAfterStop_cycle_releases
  rw [hhalted haltedAfterStop rfl rfl rfl rfl, State.after_next] at hreleases
  exact absurd hreleases (by decide)

end Sys2Proof.Machine
end

section
/-! PROOFS. O56: REC_CLR completes a flush that has begun before it clears the ring (R537), so that the CLEAR record comes behind the
records of that flush. -/

namespace Sys2Proof.Machine

/-- One record is buffered, a flush has been asked for, and the authorisation to clear the ring is armed at TWB0. -/
def flushAsked : State :=
  { glb := { mode := .run }, tickAt := 16, host := { twb0 := { armed := some (0x11, 0, 0) } },
    recd := { trigger := true, buf := [{ ty := 1, pf := false, seq := 0, epoch := 0, frac := 0, sec := 0, payload := [], bad := false }] } }

/-- The flush's record takes the first number, the CLEAR record the second. -/
theorem flushAsked_clear_numbers : (flushAsked.after (exec (.recorderClear .twb0 0) flushAsked)).recd.seqNext = 2 := by
  decide +kernel

/-- Refutes O56: with a flush asked for, REC_CLR writes the buffered record into the ring before it clears it, and two numbers are used.
The statement's clause of the clear gives the CLEAR record the next number. -/
theorem not_recorderReadsAndFlushes : ¬ Obligations.RecorderReadsAndFlushes := by
  unfold Obligations.RecorderReadsAndFlushes
  intro h
  have hready : flushAsked.ready := ⟨⟨rfl, rfl, rfl, rfl⟩, rfl⟩
  obtain ⟨-, -, -, -, -, -, -, -, -, -, -, -, -, -, -, -, -, -, -, hclear⟩ := h flushAsked .twb0 hready
  obtain ⟨t, ht, -, -, hnext, -⟩ := hclear.2 0 0 0 rfl rfl rfl rfl rfl
  have hnumbers := flushAsked_clear_numbers
  rw [ht, State.after_next, hnext] at hnumbers
  exact absurd hnumbers (by decide)

end Sys2Proof.Machine
end

section
/-! PROOFS. O1: a step is the front command on the queue's rest, or one idle core cycle (assumption 15). -/

namespace Sys2Proof.Machine

/-- Outside a warm start no step of one comes due, and an idle cycle passes alone. -/
theorem State.idle_of_no_warm {s : State} (h : s.glb.warmBusy = false) : s.idle = { s with cyc := s.cyc + 1 } := by
  have hdue (k t : Nat) : State.warmDue { s with cyc := s.cyc + 1 } k t = false := by
    rw [State.warmDue, h]
    rfl
  exact State.warmRun_of_none (hdue 0 1500) (hdue 1 2750) (hdue 2 3500) (hdue 3 3750)

/-- Settles O1: the equation of `step` for each form of the queue. -/
theorem stepRunsTheFrontCommand : Obligations.StepRunsTheFrontCommand := by
  unfold Obligations.StepRunsTheFrontCommand
  refine ⟨fun s c rest hqueue => ?_, fun s hempty => step_of_idle hempty rfl, fun s hempty hwarm =>
    step_of_idle hempty (State.idle_of_no_warm hwarm)⟩
  rw [step, hqueue]

end Sys2Proof.Machine
end

section
/-! PROOFS. O4: the reset of the backup domain (R491), which the hardware carries out at once and the lanes hear of (R290, R499). -/

namespace Sys2Proof.Machine

/-- What the reset leaves in the backup domain. -/
def Rtc.wasReset (r : Rtc) : Prop := r.time = 0 ∧ r.osf = true ∧ r.bor = true ∧ r.bkup = [] ∧ r.trim = 0 ∧ r.almEn = 0

theorem State.backupStep_wasReset (s : State) : s.backupStep.rtc.wasReset := by
  have hsec : s.backupStep.rtc.sec = 0 := rfl
  have hfrac : s.backupStep.rtc.frac = 0 := rfl
  have htime : s.backupStep.rtc.time = 0 := by rw [Rtc.time, hsec, hfrac]; decide
  exact ⟨htime, rfl, rfl, rfl, rfl, rfl⟩

theorem State.backupStep_only (s : State) : s.backupStep = { s with rtc := s.backupStep.rtc, setAt := s.backupStep.setAt } := rfl

theorem State.osfNote_of_not_live {s : State} (h : s.live = false) : s.osfNote = s := by
  rw [State.osfNote, h]
  rfl

/-- With the lanes free the reset is the hardware's part alone (governing stopped), or that and the note. -/
theorem exec_backupReset_cases (s : State) : ∃ t, exec .backupReset s = .next t ∧ t.rtc = s.backupStep.rtc ∧
    (s.stalled = false → t = s.backupStep ∨ t = s.backupStep.osfNote) := by
  have hexec : exec .backupReset s = s.arrive .backupReset (.next s.backupStep.osfNote) := rfl
  have hnote : s.backupStep.osfNote.rtc = s.backupStep.rtc := by rw [State.osfNote_only]
  rw [hexec, State.arrive]
  split
  · exact ⟨_, rfl, rfl, fun _ => .inl rfl⟩
  · split
    · next hstalled => exact ⟨_, rfl, rfl, fun h => absurd (h.symm.trans hstalled) Bool.false_ne_true⟩
    · exact ⟨_, rfl, hnote, fun _ => .inr rfl⟩

/-- Settles O4: the backup domain is as `State.backupStep` leaves it, and with the lanes free a request is all that may follow. -/
theorem backupDomainResets : Obligations.BackupDomainResets := by
  unfold Obligations.BackupDomainResets
  intro s
  obtain ⟨t, ht, hrtc, hfree⟩ := exec_backupReset_cases s
  obtain ⟨htime, hosf, hbor, hbkup, htrim, halm⟩ := s.backupStep_wasReset
  rw [← hrtc] at htime hosf hbor hbkup htrim halm
  refine ⟨t, ht, htime, hosf, hbor, hbkup, htrim, halm, fun hstalled => ?outside, fun hstalled hlive => ?still⟩
  case outside =>
    rcases hfree hstalled with rfl | rfl
    · rfl
    · rw [State.osfNote_only]
      rfl
  case still =>
    rcases hfree hstalled with rfl | rfl
    · rfl
    · rw [State.osfNote_of_not_live (show s.backupStep.live = false from hlive)]
      rfl

end Sys2Proof.Machine
end

section
/-! PROOFS. O42: a sequencer's result, its channel, its thermal input, and the result queue (R411 to R416, R424). -/

namespace Sys2Proof.Machine

section
variable (s : State)

/-! The result queue: only the measurement's record changes, and FS402 with it (R413 to R415). -/

/-- The measurement's record when word w finds a queue of 16,384 entries: the entry is dropped, or the oldest one makes room. -/
def State.rqFull (s : State) (w : Word) : Adc :=
  if s.imb Img.adcRqMode then { s.adc with rqDrop := s.adc.rqDrop + 1, rqOvf := true, rq := s.adc.rq.drop 1 ++ [w], bankTag := (s.adc.bankTag + 1) % 63 }
  else { s.adc with rqDrop := s.adc.rqDrop + 1, rqOvf := true }

theorem State.rqFull_length (w : Word) (hfull : s.adc.rq.length = 16384) : (s.rqFull w).rq.length = 16384 := by
  rw [State.rqFull]
  split
  · simp [hfull]
  · exact hfull

/-- A word enters a queue with room, or finds it full; then FS402 asserts, if it did not stand. -/
theorem State.rqPut_cases (c : Nat) (clip avg : Bool) (data : Nat) : ∃ w, if s.adc.rq.length < 16384 then
      s.rqPut c clip avg data = s.modAdc fun a => { a with rq := a.rq ++ [w], bankTag := (a.bankTag + 1) % 63 }
    else s.rqPut c clip avg data = (if (s.src 402).line then { s with adc := s.rqFull w }
      else (State.assertSrc { s with adc := s.rqFull w } 402 0).raiseEvt 228 (reqrSource 402)) := by
  refine ⟨wordOf (placeAt c 31 24 + placeAt (b2n clip) 23 23 + placeAt (b2n avg) 22 22 + placeAt s.adc.bankTag 21 16 + placeAt data 15 0), ?_⟩
  have hdepth : Config.rqDepth = 16384 := rfl
  rw [State.rqPut, hdepth]
  split
  · next hroom => rw [if_pos (by simpa using hroom)]
  · next hfull =>
    rw [if_neg (by simpa using hfull), State.rqFull]
    dsimp only
    cases hmode : s.imb Img.adcRqMode
    all_goals
      rw [show (s.modAdc fun a => { a with rqDrop := a.rqDrop + 1, rqOvf := true }).imb Img.adcRqMode = _ from hmode]
      rfl

theorem State.rqPut_keeps (c : Nat) (clip avg : Bool) (data : Nat) :
    (s.adc.rq.length ≤ 16384 → (s.rqPut c clip avg data).adc.rq.length ≤ 16384) ∧
    (s.rqPut c clip avg data).outside = { s.outside with adc := (s.rqPut c clip avg data).adc } ∧ (s.rqPut c clip avg data).thm = s.thm := by
  obtain ⟨w, hput⟩ := s.rqPut_cases c clip avg data
  by_cases hroom : s.adc.rq.length < 16384
  case pos =>
    rw [if_pos hroom] at hput
    rw [hput]
    exact ⟨fun _ => by simp only [State.modAdc, List.length_append, List.length_singleton]; omega, rfl, rfl⟩
  case neg =>
    rw [if_neg hroom] at hput
    have hout : (s.rqPut c clip avg data).outside = { s.outside with adc := s.rqFull w } := by
      rw [hput]
      split
      · rfl
      · rw [State.raiseEvt_outside, State.assertSrc_outside]; rfl
    have hadc : (s.rqPut c clip avg data).adc = s.rqFull w := (congrArg State.adc hout :)
    rw [hadc]
    exact ⟨fun hlen => Nat.le_of_eq (s.rqFull_length w (by omega)), hout, (congrArg State.thm hout :)⟩

theorem State.rqCheck_of_clear (h : (s.src 402).line = false) : s.rqCheck = s := if_neg (by simp [h])

theorem State.rqCheck_of_room (h : (s.src 402).line = true) (hroom : s.adc.rq.length < Config.rqDepth) : s.rqCheck = s.releaseSrc 402 :=
  if_pos (by simp [h, hroom])

/-! An NTC's result (R411, R424, R425). -/

theorem State.ntcResult_thm (q src : Nat) (x : Int) : s.ntcResult q src x = { s with thm := (s.ntcResult q src x).thm } := by
  unfold State.ntcResult
  dsimp only
  split <;> rfl

theorem State.ntcResult_of_other {q : Nat} (h : s.imb Img.adcSeqThm q = false) (src : Nat) (x : Int) : s.ntcResult q src x = s :=
  if_neg (by simp [h])

/-- An NTC's ratio within its limits, of the thermal sequencer: the input is valid with its temperature, and no other one moves. -/
theorem State.ntcResult_of_valid {q src : Nat} {x : Int} (h : s.imb Img.adcSeqThm q = true) (hlo : 0x60 ≤ src) (hhi : src < 0x6F)
    (hvalid : ratioValid x.toNat = true) :
    ((s.ntcResult q src x).thmIn (src - 48)).valid = true ∧
    ((s.ntcResult q src x).thmIn (src - 48)).t = ntcMilliC x.toNat (10 * s.im Img.thmNtcR25 (src - 96)) (s.im Img.thmNtcBeta (src - 96)) ∧
    ∀ n, n ≠ src - 48 → (s.ntcResult q src x).thmIn n = s.thmIn n := by
  have hin : 48 + (src - 96) = src - 48 := by omega
  have hof : src - 48 - 48 = src - 96 := by omega
  have hpack : s.packInput (src - 48) = false := by
    rw [State.packInput, show (src - 48 == 63) = false from beq_false_of_ne (by omega), Bool.false_and]
  have hsets : s.ntcResult q src x = (s.modThm fun y => { y with ins := y.ins.set {} (src - 48) { s.thmIn (src - 48) with ratio := some x.toNat } }).setThmIn
      (src - 48) (some (ntcMilliC x.toNat (10 * s.im Img.thmNtcR25 (src - 96)) (s.im Img.thmNtcBeta (src - 96)))) := by
    rw [State.ntcResult, hin, hpack, if_pos (by simp [h, hlo, Nat.le_of_lt hhi])]
    show State.setThmIn _ _ (s.ratioValue (src - 48) x.toNat) = _
    rw [State.ratioValue, if_pos hvalid, hof]
  rw [hsets]
  refine ⟨?_, ?_, fun n hn => ?_⟩
  · simp [State.setThmIn, State.thmIn]
  · simp [State.setThmIn, State.thmIn]
  · simp [State.setThmIn, State.thmIn, Tbl.get_set, Ne.symm hn]

/-! A sequencer's result (R412, R416). -/

variable {s}

/-- The value of an awaited result: the derived source's, or the sum of its corrected codes. -/
def State.resultOf (s : State) (codes : List Nat) (d : Nat × Int × List Nat) : Int :=
  if srcDerived (s.chSrc (s.seqEntry d.1).ch) then d.2.1
  else resultX (srcDiff (s.chSrc (s.seqEntry d.1).ch)) (s.seqEntry d.1).rep (s.correctCodes d.2.2 codes)

/-- A result's value is out of range of one of its codes (R412). -/
def State.resultClips (s : State) (codes : List Nat) (d : Nat × Int × List Nat) : Bool :=
  !srcDerived (s.chSrc (s.seqEntry d.1).ch) && (s.correctCodes d.2.2 codes).any (fun v => v == 0 || v == 16383)

/-- The channel and the sequencer of an awaited result d with it. -/
def State.channelTakes (s : State) (q : Nat) (codes : List Nat) (d : Nat × Int × List Nat) (rest : List (Nat × Int × List Nat)) : State :=
  (s.modAseq q fun y => { y with due := rest }).modChan (s.seqEntry d.1).ch fun y =>
    { y with val := s.chValue (s.seqEntry d.1).ch (s.resultOf codes d), clip := s.resultClips codes d, new := true, fresh := true, exempt := false }

/-- The thermal input of an awaited result with it, too. -/
def State.resultTakes (s : State) (q : Nat) (codes : List Nat) (d : Nat × Int × List Nat) (rest : List (Nat × Int × List Nat)) : State :=
  (s.channelTakes q codes d rest).ntcResult q (s.chSrc (s.seqEntry d.1).ch) (s.resultOf codes d)

theorem exec_conversionResult_of_awaited (h : s.lanesRun) {q : Fin 8} {d : Nat × Int × List Nat} {rest} (hdue : (s.aseq q).due = d :: rest) (codes : List Nat) :
    exec (.conversionResult q codes) s = .next (if s.im Img.adcChQfmt (s.seqEntry d.1).ch = 0 then s.resultTakes q codes d rest
      else (s.resultTakes q codes d rest).rqPut (s.seqEntry d.1).ch (s.resultClips codes d) ((s.seqEntry d.1).rep != 0)
        (queueData (s.chSrc (s.seqEntry d.1).ch) (s.im Img.adcChQfmt (s.seqEntry d.1).ch) (s.seqEntry d.1).rep
          (srcDiff (s.chSrc (s.seqEntry d.1).ch)) (s.correctCodes d.2.2 codes) (s.resultOf codes d))) := by
  have himg : (s.resultTakes q codes d rest).img = s.img := by rw [State.resultTakes, State.ntcResult_thm]; rfl
  have hqfmt (c : Nat) : (s.resultTakes q codes d rest).im Img.adcChQfmt c = s.im Img.adcChQfmt c := by rw [State.im, himg]; rfl
  rw [show exec (.conversionResult q codes) s = _ from State.arrive_runs h _ _, runConversionResult, hdue]
  show Host.Outcome.next (if (s.resultTakes q codes d rest).im Img.adcChQfmt (s.seqEntry d.1).ch = 0 then s.resultTakes q codes d rest else _) = _
  rw [← hqfmt]
  rfl

theorem exec_conversionResult_of_none (h : s.lanesRun) {q : Fin 8} (hdue : (s.aseq q).due = []) (codes : List Nat) :
    exec (.conversionResult q codes) s = .next s := by
  rw [show exec (.conversionResult q codes) s = _ from State.arrive_runs h _ _, runConversionResult, hdue]

/-- A taken result changes the measurement's record and, through its NTC, the thermal inputs. -/
theorem State.resultTakes_only (q : Nat) (codes : List Nat) (d : Nat × Int × List Nat) (rest) :
    s.resultTakes q codes d rest = { s with adc := (s.channelTakes q codes d rest).adc, thm := (s.resultTakes q codes d rest).thm } := by
  conv_lhs => rw [State.resultTakes, State.ntcResult_thm]
  rfl

/-- What a result in the channel leaves of the queue, the sequencers and the channels. -/
theorem State.channelTakes_adc (q : Nat) (codes : List Nat) (d : Nat × Int × List Nat) (rest) :
    (s.channelTakes q codes d rest).adc.rq = s.adc.rq ∧ ((s.channelTakes q codes d rest).aseq q).due = rest ∧
    (∀ r, r ≠ q → (s.channelTakes q codes d rest).aseq r = s.aseq r) ∧
    (∀ c, c ≠ (s.seqEntry d.1).ch → (s.channelTakes q codes d rest).chanOf c = s.chanOf c) := by
  have hseq (r : Nat) : (s.channelTakes q codes d rest).aseq r = (s.modAseq q fun y => { y with due := rest }).aseq r := rfl
  refine ⟨rfl, ?_, fun r hr => ?_, fun c hc => ?_⟩
  · rw [hseq, State.modAseq_aseq]
  · rw [hseq, State.modAseq_aseq_at, if_neg (Ne.symm hr)]
  · rw [State.channelTakes, State.modChan_chanOf_at, if_neg (Ne.symm hc)]
    rfl

theorem State.channelTakes_chan (q : Nat) (codes : List Nat) (d : Nat × Int × List Nat) (rest) :
    ((s.channelTakes q codes d rest).chanOf (s.seqEntry d.1).ch).new = true ∧ ((s.channelTakes q codes d rest).chanOf (s.seqEntry d.1).ch).fresh = true ∧
    ((s.channelTakes q codes d rest).chanOf (s.seqEntry d.1).ch).val = s.chValue (s.seqEntry d.1).ch (s.resultOf codes d) := by
  refine ⟨?_, ?_, ?_⟩ <;> simp [State.channelTakes]

/-- Every result keeps to the measurement's record and the thermal inputs, and the queue to its 16,384 entries. -/
theorem exec_conversionResult_keeps (h : s.lanesRun) (q : Fin 8) (codes : List Nat) : ∃ t, exec (.conversionResult q codes) s = .next t ∧
    (s.adc.rq.length ≤ 16384 → t.adc.rq.length ≤ 16384) ∧ t.outside = { s.outside with adc := t.adc, thm := t.thm } ∧
    ∀ d rest, (s.aseq q).due = d :: rest → t.thm = (s.resultTakes q codes d rest).thm := by
  cases hdue : (s.aseq q).due with
  | nil => exact ⟨s, exec_conversionResult_of_none h hdue codes, id, rfl, fun _ _ hd => nomatch hd⟩
  | cons d rest =>
    have honly := State.resultTakes_only (s := s) q codes d rest
    have hrq : (s.resultTakes q codes d rest).adc.rq = s.adc.rq := by rw [honly]; rfl
    have hout : (s.resultTakes q codes d rest).outside =
        { s.outside with adc := (s.resultTakes q codes d rest).adc, thm := (s.resultTakes q codes d rest).thm } := by rw [honly]; rfl
    refine ⟨_, exec_conversionResult_of_awaited h hdue codes, ?_⟩
    split
    · refine ⟨fun hlen => hrq ▸ hlen, hout, fun _ _ hd => ?_⟩
      cases hd
      rfl
    · obtain ⟨hlen, hput, hthm⟩ := State.rqPut_keeps (s.resultTakes q codes d rest) (s.seqEntry d.1).ch (s.resultClips codes d) ((s.seqEntry d.1).rep != 0)
        (queueData (s.chSrc (s.seqEntry d.1).ch) (s.im Img.adcChQfmt (s.seqEntry d.1).ch) (s.seqEntry d.1).rep
          (srcDiff (s.chSrc (s.seqEntry d.1).ch)) (s.correctCodes d.2.2 codes) (s.resultOf codes d))
      rw [hrq] at hlen
      refine ⟨hlen, ?_, fun _ _ hd => ?_⟩
      · rw [hthm, hput, hout]
      · cases hd
        exact hthm

end

/-- Settles O42: a result by `State.resultTakes`, its queue entry by `State.rqPut_keeps`, the pop and the flush by the queue's form. -/
theorem resultsQueueAndPop : Obligations.ResultsQueueAndPop := by
  unfold Obligations.ResultsQueueAndPop
  intro s h
  refine ⟨fun q codes i v slices rest hdue hq => ?channel, fun q codes i v slices rest hdue hthm hlo hhi hvalid => ?thermal, fun q codes hlen => ?bounded,
    fun i w rest hrq hclear => ?pops, fun i hrq => ?empty, fun hlive hclear => ?flushes, fun hlive hline => ?ends⟩
  case channel =>
    have hexec := exec_conversionResult_of_awaited h hdue codes
    rw [if_pos hq] at hexec
    obtain ⟨hqueue, hsdue, hseqs, hchans⟩ := State.channelTakes_adc (s := s) q codes (i, v, slices) rest
    obtain ⟨hnew, hfresh, hval⟩ := State.channelTakes_chan (s := s) q codes (i, v, slices) rest
    have honly := State.resultTakes_only (s := s) q codes (i, v, slices) rest
    have hadc : (s.resultTakes q codes (i, v, slices) rest).adc = (s.channelTakes q codes (i, v, slices) rest).adc := by rw [honly]
    have hseq (r : Nat) : (s.resultTakes q codes (i, v, slices) rest).aseq r = (s.channelTakes q codes (i, v, slices) rest).aseq r := by
      rw [State.aseq, hadc, State.aseq]
    have hchan (c : Nat) : (s.resultTakes q codes (i, v, slices) rest).chanOf c = (s.channelTakes q codes (i, v, slices) rest).chanOf c := by
      rw [State.chanOf, hadc, State.chanOf]
    refine ⟨_, hexec, (congrArg AdcSeq.due (hseq q)).trans hsdue, (congrArg Chan.new (hchan _)).trans hnew, (congrArg Chan.fresh (hchan _)).trans hfresh,
      (congrArg Chan.val (hchan _)).trans hval, fun r hr => (hseq r).trans (hseqs r hr), fun c hc => (hchan c).trans (hchans c hc), ?_, fun hother => ?_, ?_⟩
    · rw [hadc, hqueue]
    · rw [State.resultTakes, State.ntcResult_of_other (s.channelTakes q codes (i, v, slices) rest) hother]
      rfl
    · rw [hadc]
      exact honly
  case thermal =>
    obtain ⟨t, ht, -, hout, hkeeps⟩ := exec_conversionResult_keeps h q codes
    have hder : srcDerived (s.chSrc (s.seqEntry i).ch) = false := by
      have hhi' : s.chSrc (s.seqEntry i).ch < 111 := hhi
      simp only [srcDerived, Bool.or_eq_false_iff, Bool.and_eq_false_iff, decide_eq_false_iff_not, beq_eq_false_iff_ne]
      omega
    have hdiff : srcDiff (s.chSrc (s.seqEntry i).ch) = false := by
      have hhi' : s.chSrc (s.seqEntry i).ch < 111 := hhi
      simp only [srcDiff, Bool.or_eq_false_iff, Bool.and_eq_false_iff, decide_eq_false_iff_not]
      omega
    have hx : s.resultOf codes (i, v, slices) = resultX false (s.seqEntry i).rep (s.correctCodes slices codes) := by
      rw [State.resultOf, hder, if_neg Bool.false_ne_true, hdiff]
    obtain ⟨hval, htemp, hne⟩ := State.ntcResult_of_valid (s.channelTakes q codes (i, v, slices) rest) (q := q) (src := s.chSrc (s.seqEntry i).ch)
      (x := s.resultOf codes (i, v, slices)) hthm hlo hhi (by rw [hx]; exact hvalid)
    have hin (n : Nat) : t.thmIn n = (s.resultTakes q codes (i, v, slices) rest).thmIn n := by
      rw [State.thmIn, hkeeps _ _ hdue, State.thmIn]
    refine ⟨t, ht, ?_, ?_, fun n hn => (hin n).trans (hne n hn), hout⟩
    · rw [hin]
      exact hval
    · rw [hin, ← hx]
      exact htemp
  case bounded =>
    obtain ⟨t, ht, hkeep, hout, -⟩ := exec_conversionResult_keeps h q codes
    exact ⟨t, ht, hkeep hlen, hout⟩
  case pops =>
    rw [show exec (.resultQueuePop i) s = _ from State.arrive_runs h _ _, runResultQueuePop, State.rqPop, hrq]
    exact congrArg (fun t : State => Host.Outcome.next (t.answer i [w])) (State.rqCheck_of_clear _ hclear)
  case empty =>
    rw [show exec (.resultQueuePop i) s = _ from State.arrive_runs h _ _, runResultQueuePop, State.rqPop, hrq]
    rfl
  case flushes =>
    rw [show exec .adcRqFlush s = _ from State.arrive_runs h _ _, runAdcRqFlush, if_pos hlive, State.rqFlush]
    exact congrArg Host.Outcome.next (State.rqCheck_of_clear _ hclear)
  case ends =>
    have hflush : s.rqFlush = (s.modAdc fun a => { a with rq := [] }).releaseSrc 402 := State.rqCheck_of_room _ hline (show 0 < Config.rqDepth by decide)
    have hout : s.rqFlush.outside = { s.outside with adc := { s.adc with rq := [] } } := by rw [hflush, State.releaseSrc_outside]; rfl
    have hadc : s.rqFlush.adc = { s.adc with rq := [] } := (congrArg State.adc hout :)
    refine ⟨s.rqFlush, ?_, hadc, ?_, ?_⟩
    · rw [show exec .adcRqFlush s = _ from State.arrive_runs h _ _, runAdcRqFlush, if_pos hlive]
    · rw [hflush, State.releaseSrc_line _ _ (by decide)]
    · rw [hadc, hout]

end Sys2Proof.Machine
end

section
/-! PROOFS. O45: sources of the charger, their selection and tracking (R441, R444, R446, R453). -/

namespace Sys2Proof.Machine

section
variable {s : State}

/-! Source pairs (R441, R446). -/

theorem exec_sourceSwitchOn_of_pending (h : s.lanesRun) {src : Bool} (hto : s.chg.switchTo = some src) : exec .sourceSwitchOn s =
    .next (s.modChg fun c => { c with solOn := src, netOn := !src, switchTo := none, conv := c.mode != 0, rampAt := some s.time }) := by
  rw [show exec .sourceSwitchOn s = _ from State.arrive_runs h _ _, runSourceSwitchOn, hto]

/-- The charger's record when an input is cut off for its over-voltage. -/
def Chg.cutOff (c : Chg) (net : Bool) : Chg :=
  { c with ovOff := c.ovOff ||| (if net then 2 else 1), solOn := c.solOn && net, netOn := c.netOn && !net, source := if c.source == some (!net) then none else c.source,
           switchTo := if c.switchTo == some (!net) then none else c.switchTo, conv := c.conv && !(c.source == some (!net)) && !(net && c.mode == 6) }

theorem exec_sourceOvervoltage_of_live (h : s.lanesRun) (hlive : s.chgLive = true) (net : Bool) :
    exec (.sourceOvervoltage net) s = .next ((s.modChg fun c => c.cutOff net).assertSrc (if net then 423 else 422) 0) := by
  rw [show exec (.sourceOvervoltage net) s = _ from State.arrive_runs h _ _, runSourceOvervoltage, if_neg (by simp [hlive])]
  rfl

theorem Chg.cutOff_ovOff (c : Chg) (net : Bool) : (c.cutOff net).ovOff.getLsbD (if net then 1 else 0) = true := by
  cases net <;> simp [Chg.cutOff]

theorem Chg.cutOff_pair (c : Chg) (net : Bool) : (if net then (c.cutOff net).netOn else (c.cutOff net).solOn) = false := by
  cases net <;> simp [Chg.cutOff]

theorem Chg.cutOff_source (c : Chg) (net : Bool) : (c.cutOff net).source ≠ some (!net) := by
  simp only [Chg.cutOff, beq_iff_eq]
  split
  · exact Option.some_ne_none _ ∘ Eq.symm
  · assumption

theorem Chg.cutOff_conv {c : Chg} {net : Bool} (h : c.source = some (!net)) : (c.cutOff net).conv = false := by
  simp [Chg.cutOff, h]

/-! The 1 ms selection (R444). -/

theorem State.ovRelease_of_none (h : s.chg.ovOff = 0) (m : SourceMeas) : s.ovRelease m = s := by
  simp [State.ovRelease, h]

theorem State.chgHold_outside (s : State) :
    s.chgHold.outside = s.outside ∨ s.chgHold.outside = { s.outside with chg := s.chargerStop.chg } := by
  unfold State.chgHold
  split
  · exact .inr (State.loopRequest_outside ..)
  · split
    · exact .inr rfl
    · exact .inl rfl

/-- With the inputs as they are measured now. -/
def State.measures (s : State) (m : SourceMeas) : State := s.modChg fun c => { c with meas := m }

/-- No source: both pairs off, the converter at rest. -/
def State.noSource (s : State) : State :=
  s.modChg fun c => { c with solOn := false, netOn := false, source := none, switchTo := none, conv := false, trkUp := none }

/-- A charger that may select, with no over-voltage: what the selection does by its outcome. -/
theorem exec_sourceSelect_of_live (h : s.lanesRun) (hlive : s.chgLive = true) (hrev : s.reversing = false) (hov : s.chg.ovOff = 0) (m : SourceMeas) :
    exec (.sourceSelect m) s = .next (match s.chgSelect m with
      | none => if s.chg.mode = 5 then (s.measures m).noSource.chargerStop.loopRequest liCharger .off 0x22 else (s.measures m).noSource.chgHold
      | some src =>
        if s.chg.source = some src then s.measures m
        else if s.chg.solOn || s.chg.netOn then
          (s.measures m).modChg fun c => { c with solOn := false, netOn := false, source := some src, switchTo := some src, conv := false, trkUp := none, lowSteps := 0 }
        else if s.chg.switchTo.isSome then (s.measures m).modChg fun c => { c with source := some src, switchTo := some src, trkUp := none, lowSteps := 0 }
        else (s.measures m).modChg fun c => { c with solOn := src, netOn := !src, source := some src, trkUp := none, lowSteps := 0 }) := by
  have hrelease : (s.modChg fun c => { c with meas := m }).ovRelease m = s.measures m := State.ovRelease_of_none (s := s.measures m) hov m
  have hselect : (s.measures m).chgSelect m = s.chgSelect m := rfl
  rw [show exec (.sourceSelect m) s = _ from State.arrive_runs h _ _, runSourceSelect, if_neg (by simp [hlive]), hrelease]
  dsimp only
  rw [if_neg (by rw [show (s.measures m).reversing = _ from hrev]; exact Bool.false_ne_true), hselect]
  cases s.chgSelect m with
  | none => rfl
  | some src => rfl

/-- Without a source the converter stops, whether the charger was in supply mode or in a charge. -/
theorem exec_sourceSelect_of_none (h : s.lanesRun) (hlive : s.chgLive = true) (hrev : s.reversing = false) (hov : s.chg.ovOff = 0) {m : SourceMeas}
    (hnone : s.chgSelect m = none) : ∃ t, exec (.sourceSelect m) s = .next t ∧
    (t.outside = { s.outside with chg := (s.measures m).noSource.chg } ∨ t.outside = { s.outside with chg := (s.measures m).noSource.chargerStop.chg }) := by
  have hexec := exec_sourceSelect_of_live h hlive hrev hov m
  rw [hnone] at hexec
  refine ⟨_, hexec, ?_⟩
  dsimp only
  split
  · exact .inr (State.loopRequest_outside ..)
  · exact State.chgHold_outside _

/-! Tracking (R453). -/

/-- The charger's record after a step with a mean output power and a current, in the direction up. -/
def State.tracked (s : State) (pMean iOut : Nat) (up : Bool) : State :=
  s.modChg fun c => { c with pout := pMean, iout := iOut, lowSteps := if pMean < 100 * s.im Img.chgSolPmin then min 10 (c.lowSteps + 1) else 0, trkUp := some up }

/-- The limit that a step asks for: one step on from the limit in force, in its direction. -/
def State.trackReq (s : State) (up : Bool) : Req :=
  { ep := liCharger, kind := .limit, cls := 5, reqr := 0x22,
    val := wordOfInt (if up then s.chg.limTrk + ((10 * s.im Img.chgTrkStep : Nat) : Int) else max 0 (s.chg.limTrk - ((10 * s.im Img.chgTrkStep : Nat) : Int))) }

theorem exec_trackingStep_of_tracks (h : s.lanesRun) (hlive : s.chgLive = true) (htracks : s.tracks = true) {u : Bool} (hup : s.chg.trkUp = some u)
    (pMean iOut : Nat) : exec (.trackingStep pMean iOut) s =
      .next ((s.tracked pMean iOut (if s.chg.pout < pMean then u else !u)).offer 6 [s.trackReq (if s.chg.pout < pMean then u else !u)]) := by
  rw [show exec (.trackingStep pMean iOut) s = _ from State.arrive_runs h _ _, runTrackingStep, if_neg (by simp [hlive, htracks])]
  simp only [State.modChg, hup, decide_eq_true_eq, Option.isNone_some, Bool.false_eq_true, if_false]
  rfl

end

/-- Settles O45: the cut-off by its record, the selection by its outcome, tracking by its step. -/
theorem chargerSourcesAndTracking : Obligations.ChargerSourcesAndTracking := by
  unfold Obligations.ChargerSourcesAndTracking
  refine ⟨fun s h => ⟨fun src hto => exec_sourceSwitchOn_of_pending h hto, fun net hlive => ?overvoltage⟩, fun s m h hlive hrev hov => ?selects,
    fun s pMean iOut u h hlive htracks hup => ?tracks⟩
  case overvoltage =>
    have hout := State.assertSrc_outside (s.modChg fun c => c.cutOff net) (if net then 423 else 422) 0
    have hchg : ((s.modChg fun c => c.cutOff net).assertSrc (if net then 423 else 422) 0).chg = s.chg.cutOff net := (congrArg State.chg hout :)
    refine ⟨_, exec_sourceOvervoltage_of_live h hlive net, ?_, ?_, ?_, fun hsrc => ?_, ?_, ?_⟩
    · rw [hchg, Chg.cutOff_ovOff]
    · rw [hchg, Chg.cutOff_pair]
    · rw [hchg]
      exact Chg.cutOff_source _ _
    · rw [hchg, Chg.cutOff_conv hsrc]
    · exact State.assertSrc_line _ _ _ (by cases net <;> decide)
    · rw [hchg, hout]
      rfl
  case selects =>
    have hexec := exec_sourceSelect_of_live h hlive hrev hov m
    refine ⟨fun hnone => ?none, fun src hsel hsame => ?same, fun src hsel hother hsol hnet hto => ?first, fun src hsel hother hon => ?changes⟩
    case none =>
      obtain ⟨t, ht, hout⟩ := exec_sourceSelect_of_none h hlive hrev hov hnone
      refine ⟨t, ht, ?_⟩
      rcases hout with hout | hout
      all_goals
        have hchg : t.chg = _ := (congrArg State.chg hout :)
        rw [hout, hchg]
        exact ⟨rfl, rfl, rfl, rfl, rfl, rfl, rfl⟩
    case same =>
      rw [hsel] at hexec
      exact hexec.trans (congrArg Host.Outcome.next (if_pos hsame))
    case first =>
      rw [hsel] at hexec
      dsimp only at hexec
      rw [if_neg hother, hsol, hnet, hto] at hexec
      exact hexec
    case changes =>
      rw [hsel] at hexec
      dsimp only at hexec
      rw [if_neg hother, if_pos hon] at hexec
      exact hexec
  case tracks =>
    have honly := State.offer_only (port := 6) (by decide) (s.tracked pMean iOut (if s.chg.pout < pMean then u else !u)) [s.trackReq (if s.chg.pout < pMean then u else !u)]
    have hasks := State.offer_mem (s.tracked pMean iOut (if s.chg.pout < pMean then u else !u)) 6 [s.trackReq (if s.chg.pout < pMean then u else !u)]
    refine ⟨_, exec_trackingStep_of_tracks h hlive htracks hup pMean iOut, ?_, hasks, ?_⟩
    · rw [honly]
      rfl
    · rw [honly]
      rfl

end Sys2Proof.Machine
end

section
/-! PROOFS. What the gauge does of its own: references, warnings and the end of a learning cycle change the gauge and its interrupt
bits alone, and ask for the gauge's state at port 6 (R471 to R480). -/

namespace Sys2Proof.Machine

/-- From s to t the gauge and the times of its interrupt bits alone change outside the collector's reach; committed states and the
requests of other loops stay. -/
structure GaugeMoves (s t : State) : Prop where
  outside : t.outside = { s.outside with gau := t.gau, setAt := t.setAt }
  asks : ∀ r, r.ep ≠ liGauge → s.asks 6 r → t.asks 6 r
  st : ∀ id, id < 0x550 → t.st id = s.st id

theorem GaugeMoves.refl (s : State) : GaugeMoves s s := ⟨rfl, fun _ _ h => h, fun _ _ => rfl⟩

theorem GaugeMoves.trans {a b c : State} (h : GaugeMoves a b) (k : GaugeMoves b c) : GaugeMoves a c :=
  ⟨by rw [k.outside, h.outside], fun r hr hask => k.asks r hr (h.asks r hr hask), fun id hid => (k.st id hid).trans (h.st id hid)⟩

theorem GaugeMoves.ite {a b c : State} {p : Prop} [Decidable p] (h : GaugeMoves a b) (k : GaugeMoves a c) : GaugeMoves a (if p then b else c) := by
  split <;> assumption

theorem GaugeMoves.chg {s t : State} (h : GaugeMoves s t) : t.chg = s.chg := (congrArg State.chg h.outside :)

section
variable (s : State)

theorem GaugeMoves.modGau (f : Gau → Gau) : GaugeMoves s (s.modGau f) := ⟨rfl, fun _ _ h => h, fun _ _ => rfl⟩

theorem GaugeMoves.setNow (k : Sticky) : GaugeMoves s (s.setNow k) := ⟨rfl, fun _ _ h => h, fun _ _ => rfl⟩

/-- A move that leaves the gauge itself. -/
structure GaugeStill (s t : State) : Prop extends GaugeMoves s t where
  gau : t.gau = s.gau

variable {s} in
theorem GaugeStill.trans {t u : State} (h : GaugeStill s t) (k : GaugeStill t u) : GaugeStill s u := ⟨h.toGaugeMoves.trans k.toGaugeMoves, k.gau.trans h.gau⟩

theorem GaugeStill.refl : GaugeStill s s := ⟨.refl s, rfl⟩

variable {s} in
theorem GaugeStill.ite {b c : State} {p : Prop} [Decidable p] (h : GaugeStill s b) (k : GaugeStill s c) : GaugeStill s (if p then b else c) := by
  split <;> assumption

variable {s} in
/-- What leaves all outside the collector, the waiting requests of the loops and the states below the groups. -/
theorem GaugeStill.of_outside {t : State} (h : t.outside = s.outside) (hasks : ∀ r, s.asks 6 r → t.asks 6 r) (hst : ∀ id, id < 0x550 → t.st id = s.st id) :
    GaugeStill s t := by
  have hgau : t.gau = s.gau := (congrArg State.gau h :)
  have hset : t.setAt = s.setAt := (congrArg State.setAt h :)
  refine ⟨⟨?_, fun r _ => hasks r, hst⟩, hgau⟩
  rw [hgau, hset]
  exact h

theorem GaugeStill.setNow (k : Sticky) : GaugeStill s (s.setNow k) := ⟨⟨rfl, fun _ _ h => h, fun _ _ => rfl⟩, rfl⟩

/-- A loop's requests are none of a fault's reaction, so that no source replaces them. -/
theorem stays_of_loop (l : List Req) : stays (6, l) := fun h => absurd h (by decide : ¬(6 = 1))

theorem GaugeStill.assertSrc (n cause : Nat) : GaugeStill s (s.assertSrc n cause) :=
  .of_outside (State.assertSrc_outside ..) (fun _ h => State.assertSrc_offers _ _ _ h (stays_of_loop _)) fun _ hid => State.assertSrc_st _ _ _ hid

theorem GaugeStill.releaseSrc (n : Nat) : GaugeStill s (s.releaseSrc n) :=
  .of_outside (State.releaseSrc_outside ..) (fun _ h => State.releaseSrc_offers _ _ h (stays_of_loop _)) fun _ hid => State.releaseSrc_st _ _ hid

theorem GaugeStill.raiseEvt (e reqr : Nat) : GaugeStill s (s.raiseEvt e reqr) :=
  .of_outside (State.raiseEvt_outside ..) (fun _ h => State.raiseEvt_offers _ _ _ h (stays_of_loop _)) fun _ hid => State.raiseEvt_st _ _ _ hid

/-- A loop's request replaces none of another endpoint (R89). -/
theorem State.loopRequest_asks_other (li : Nat) (st : EState) (reqr : Nat) {r : Req} (hr : r.ep ≠ li) (h : s.asks 6 r) : (s.loopRequest li st reqr).asks 6 r := by
  have hep : (r.ep == li) = false := beq_false_of_ne hr
  rw [State.loopRequest, State.offer, if_pos (Or.inl rfl)]
  dsimp only
  rw [if_pos (by simp)]
  exact List.mem_append_left _ (List.mem_filter.2 ⟨h, by simp [stateReq, hep]⟩)

theorem GaugeStill.loopRequest (st : EState) (reqr : Nat) : GaugeStill s (s.loopRequest liGauge st reqr) := by
  refine ⟨⟨?_, fun r hr h => State.loopRequest_asks_other s _ _ _ hr h, fun id _ => ?_⟩, ?_⟩
  · rw [State.loopRequest_only]; rfl
  · rw [State.loopRequest_only]; rfl
  · rw [State.loopRequest_only]

theorem GaugeStill.gaugeFlags : GaugeStill s s.gaugeFlags := .loopRequest s _ _

/-! The end of a learning cycle (R478). -/

theorem State.learnEnd_of_none (h : s.gau.learn = none) : s.learnEnd = s := if_pos (by rw [h]; rfl)

theorem State.learnEnd_of_some (h : s.gau.learn.isSome = true) : s.learnEnd = (s.modGau fun g => { g with learn := none }).gaugeFlags :=
  if_neg (by simpa [Option.isSome_iff_ne_none] using h)

/-- The end of a learning cycle is the gauge's alone. -/
theorem State.learnEnd_only : s.learnEnd = { s with gau := { s.gau with learn := none }, pipe := s.learnEnd.pipe } := by
  cases hlearn : s.gau.learn with
  | none =>
    have hkeep : { s.gau with learn := none } = s.gau := by rw [← hlearn]
    rw [State.learnEnd_of_none s hlearn, hkeep]
  | some l =>
    rw [State.learnEnd_of_some s (by rw [hlearn]; rfl), State.gaugeFlags, State.loopRequest_only]
    rfl

theorem GaugeMoves.learnEnd : GaugeMoves s s.learnEnd := by
  unfold State.learnEnd
  exact .ite (.refl s) ((GaugeMoves.modGau s _).trans (GaugeStill.gaugeFlags _).toGaugeMoves)

/-! A clean reference (R471, R473, R475, R484). -/

/-- The state of charge and its uncertainty are set; the age, staleness and disagreement end. -/
def Gau.referred (g : Gau) (si : Int) (unc : Nat) : Gau :=
  { g with si := si, unc := unc * Config.uncUnit, refAge := 0, stale := false, disagree := false, intF := g.intF ||| 8 }

/-- Sources end and requests follow a reference, which leave the gauge as it set it. -/
theorem State.gaugeReference_still (si : Int) (unc : Nat) : GaugeStill (s.modGau fun g => g.referred si unc) (s.gaugeReference si unc) := by
  unfold State.gaugeReference
  extract_lets dis set aged agreed flagged
  have hset : GaugeStill (s.modGau fun g => g.referred si unc) set := .setNow _ _
  have haged : GaugeStill set aged := .ite (.releaseSrc ..) (.refl _)
  have hagreed : GaugeStill aged agreed := .ite (.releaseSrc ..) (.refl _)
  have hflagged : GaugeStill agreed flagged := .ite (.gaugeFlags _) (.refl _)
  exact hset.trans <| haged.trans <| hagreed.trans <| hflagged.trans <| .ite (.refl _) (.loopRequest ..)

theorem GaugeMoves.gaugeReference (si : Int) (unc : Nat) : GaugeMoves s (s.gaugeReference si unc) :=
  (GaugeMoves.modGau s _).trans (s.gaugeReference_still si unc).toGaugeMoves

theorem State.gaugeReference_gau (si : Int) (unc : Nat) : (s.gaugeReference si unc).gau = s.gau.referred si unc :=
  (s.gaugeReference_still si unc).gau

/-! The warnings (R475, R476). -/

/-- The charge has risen by the hysteresis above empty. -/
def State.refilled (s : State) : Bool := decide (((s.im Img.gauWarnHys * 10 * 65536 : Nat) : Int) ≤ s.gau.sr)

/-- The empty flag ends at its hysteresis, and FS434 with it. -/
def State.emptyEnds (s : State) : State :=
  if s.gau.empty && s.refilled then (s.modGau fun g => { g with empty := false }).releaseSrc 434 else s

/-- The low flag begins or ends, and FS435 with it. -/
def State.lowWarn (s : State) (begins ends : Bool) : State :=
  if begins then (((s.modGau fun g => { g with low := true, intF := g.intF ||| 2 }).setNow (.gauge 1)).assertSrc 435 0).raiseEvt 239 0x24
  else if ends then (s.modGau fun g => { g with low := false }).releaseSrc 435
  else s

theorem State.gaugeWarn_eq : ∃ begins ends, s.gaugeWarn = s.emptyEnds.lowWarn begins ends := ⟨_, _, rfl⟩

theorem State.emptyEnds_still : GaugeStill (s.modGau fun g => { g with empty := s.gau.empty && !s.refilled }) s.emptyEnds := by
  unfold State.emptyEnds
  split
  · next hends =>
    have hempty : (s.gau.empty && !s.refilled) = false := by simp_all
    rw [hempty]
    exact .releaseSrc _ 434
  · next hstays =>
    have hempty : (s.gau.empty && !s.refilled) = s.gau.empty := by
      cases hem : s.gau.empty <;> simp_all
    have hkeep : (s.modGau fun g => { g with empty := s.gau.empty && !s.refilled }) = s := by
      rw [State.modGau, hempty]
    rw [hkeep]
    exact .refl s

/-- The low flag and its interrupt bit alone move in the gauge. -/
theorem State.lowWarn_still (begins ends : Bool) : ∃ low intF, GaugeStill (s.modGau fun g => { g with low := low, intF := intF }) (s.lowWarn begins ends) := by
  unfold State.lowWarn
  split
  · exact ⟨_, _, ((GaugeStill.setNow _ _).trans (.assertSrc ..)).trans (.raiseEvt ..)⟩
  · split
    · exact ⟨_, _, .releaseSrc _ 435⟩
    · exact ⟨_, _, .refl s⟩

/-- The warnings move their two flags and the interrupt bits of the gauge. -/
theorem State.gaugeWarn_moves : GaugeMoves s s.gaugeWarn ∧
    ∃ low intF, s.gaugeWarn.gau = { s.gau with empty := s.gau.empty && !s.refilled, low := low, intF := intF } := by
  obtain ⟨begins, ends, hwarn⟩ := s.gaugeWarn_eq
  obtain ⟨low, intF, hlow⟩ := s.emptyEnds.lowWarn_still begins ends
  have hempty := s.emptyEnds_still
  rw [hwarn]
  refine ⟨(GaugeMoves.modGau s _).trans <| hempty.toGaugeMoves.trans <| (GaugeMoves.modGau _ _).trans hlow.toGaugeMoves, low, intF, ?_⟩
  rw [hlow.gau]
  show { s.emptyEnds.gau with low := low, intF := intF } = _
  rw [hempty.gau]
  rfl

/-- Short of the hysteresis FS434 stays asserted. -/
theorem State.gaugeWarn_line (h : (s.src 434).line = true) (hfill : s.refilled = false) : (s.gaugeWarn.src 434).line = true := by
  obtain ⟨begins, ends, hwarn⟩ := s.gaugeWarn_eq
  have hempty : s.emptyEnds = s := if_neg (by simp [hfill])
  rw [hwarn, hempty]
  unfold State.lowWarn
  split
  · rw [(Stirs.raiseEvt _ _ _).lines _ (by decide), Stirs.assertOther _ _ _ _ (by decide)]
    exact h
  · split
    · rw [(Stirs.releaseSrc _ _).lines _ (by decide), State.modSrc_src_ne _ _ _ _ (by decide)]
      exact h
    · exact h

end

end Sys2Proof.Machine
end

section
/-! PROOFS. O46: the phases of a charge, its end and its safety timer (R447, R448, R454). -/

namespace Sys2Proof.Machine

section
variable {s : State}

/-! An evaluation of V (R447). -/

/-- The charger evaluates V in a charge of its own: no order in force, no watched condition, the band as it was. -/
structure State.ChargeRuns (s : State) : Prop where
  live : s.chgLive = true
  reversing : s.reversing = false
  sinking : s.sinking = false
  may : s.chgMay = true
  band : s.chg.bandNow = s.thm.band
  timerEq : (s.src 416).line = false
  timerAbs : (s.src 417).line = false
  overvoltage : (s.src 418).line = false
  undervoltage : (s.src 425).line = false
  seen : s.seenSt liCharger = s.st liCharger

/-- The evaluation has noted V. -/
def State.evaluates (s : State) (v : Nat) : State := s.modChg fun c => { c with ivr := false, vpack := v }

theorem State.chgSources_of_clear (h416 : (s.src 416).line = false) (h417 : (s.src 417).line = false) (h418 : (s.src 418).line = false)
    (h425 : (s.src 425).line = false) (v : Nat) : s.chgSources v = s := by
  simp [State.chgSources, h416, h417, h418, h425]

theorem exec_chargeEvaluation_of_runs (h : s.lanesRun) (hc : s.ChargeRuns) (hmode : s.chg.mode ≠ 5) (v : Nat) :
    exec (.chargeEvaluation v false) s = .next ((s.evaluates v).chgPhases v) := by
  have hnoted : (s.modChg fun c => { c with bandNow := s.thm.band, ivr := false && c.conv, vpack := v }) = s.evaluates v := by
    rw [State.evaluates, ← hc.band]
    rfl
  have hsources : (s.evaluates v).chgSources v = s.evaluates v := State.chgSources_of_clear (s := s.evaluates v) hc.timerEq hc.timerAbs hc.overvoltage hc.undervoltage v
  rw [show exec (.chargeEvaluation v false) s = _ from State.arrive_runs h _ _, runChargeEvaluation, if_neg (by simp [hc.live]), hnoted, hsources]
  refine congrArg Host.Outcome.next ((if_neg ?_).trans ((if_neg ?_).trans (if_neg hmode)))
  · rw [show (s.evaluates v).reversing = s.reversing from rfl, hc.reversing]
    exact Bool.false_ne_true
  · rw [show (s.evaluates v).sinking = s.sinking from rfl, hc.sinking]
    exact Bool.false_ne_true

theorem State.not_paused_of_may (h : s.chgMay = true) : s.chgPaused = false := by
  simp_all [State.chgMay]

/-- STARTING: the phase goes on, and the converter runs; mode 3 asks for ON. -/
theorem State.chgPhases_of_starting (hmay : s.chgMay = true) (hseen : s.seenSt liCharger = s.st liCharger) (hst : s.st liCharger = .starting) {v : Nat}
    (hmode : (s.phaseStep v).mode ≠ 3) : s.chgPhases v = s.modChg fun _ => { s.phaseStep v with conv := true } := by
  rw [State.chgPhases, hseen, if_neg (by simp), hst]
  dsimp only
  rw [if_neg (by simp [State.not_paused_of_may hmay]), if_neg (by simp [hmay])]
  exact if_neg hmode

/-- Mode 1: ten evaluations in a row at CHG_VTRK or above enter mode 2 (R447). -/
theorem State.phaseStep_of_trickle (hmode : s.chg.mode = 1) (v : Nat) : s.phaseStep v =
    if s.cellsMv (s.im Img.chgVtrk) ≤ v then (if s.chg.evals = 9 then { s.chg with mode := 2, evals := 0 } else { s.chg with evals := s.chg.evals + 1 })
    else { s.chg with evals := 0 } := by
  rw [State.phaseStep]
  dsimp only
  rw [hmode]
  rfl

/-- ON in mode 3 at V_CV, with no derating: mode 4 (R447). -/
theorem State.chgPhases_of_full (hmay : s.chgMay = true) (hseen : s.seenSt liCharger = s.st liCharger) (hst : s.st liCharger = .on) {v : Nat}
    (hmode : s.chg.mode = 3) (hfull : s.vcv ≤ v) (hderates : s.chgDerates = false) :
    s.chgPhases v = s.modChg fun c => { c with mode := 4, conv := true } := by
  have hphase : (s.modChg fun c => if c.mode < 3 then { c with mode := 3, conv := true } else { c with conv := true }) = s.modChg fun c => { c with conv := true } := by
    rw [State.modChg, if_neg (by omega), State.modChg]
  have hstep : ((s.modChg fun c => { c with conv := true }).modChg fun _ => (s.modChg fun c => { c with conv := true }).phaseStep v) =
      s.modChg fun c => { c with mode := 4, conv := true } := by
    rw [State.phaseStep, show (s.modChg fun c => { c with conv := true }).chg.mode = 3 from hmode]
    exact congrArg (fun c : Chg => { s with chg := c }) (if_pos hfull)
  rw [State.chgPhases, hseen, if_neg (by simp), hst]
  dsimp only
  rw [if_neg (by simp [State.not_paused_of_may hmay]), if_neg (by simp [hmay]), hphase, hstep]
  rw [show (s.modChg fun c => { c with mode := 4, conv := true }).chgDerates = s.chgDerates from rfl,
    show (s.modChg fun c => { c with mode := 4, conv := true }).st liCharger = s.st liCharger from rfl, hderates, hst]
  rfl

/-! The end of a charge, and the next one (R447, R448). -/

/-- A terminated charge: the converter at rest, the end noted, OFF asked for; the gauge then takes its reference (R471). -/
def State.charged (s : State) : State :=
  ((s.chargerStop.modChg fun c => { c with terminated := true }).raiseEvt 233 0x22).loopRequest liCharger .off 0x22

theorem GaugeMoves.gaugeTerminated (s : State) : GaugeMoves s s.gaugeTerminated := by
  unfold State.gaugeTerminated
  extract_lets referred was begins learning
  have hlearning : GaugeMoves s learning := (GaugeMoves.gaugeReference s _ _).trans (.modGau _ _)
  exact .ite (.refl s) (.ite hlearning (hlearning.trans (GaugeStill.gaugeFlags _).toGaugeMoves))

theorem State.charged_chg (s : State) : s.charged.chg = { s.chg with conv := false, mode := 0, ivr := false, terminated := true } := by
  rw [State.charged, State.loopRequest_chg, State.raiseEvt_chg]
  rfl

theorem State.charged_asks (s : State) : s.charged.asks 6 (stateReq liCharger .off 5 0x22) := State.loopRequest_asks ..

theorem exec_chargeTermination_of_full (h : s.lanesRun) (hlive : s.chgLive = true) (hmode : s.chg.mode = 4) (hcharging : s.chgCharging = true)
    (hsinking : s.sinking = false) : exec .chargeTermination s = .next s.charged.gaugeTerminated := by
  have hquiet : ((s.chargerStop.modChg fun c => { c with terminated := true }).raiseEvt 233 0x22).sinking = false := by
    rw [State.sinking, State.raiseEvt_lace]
    exact hsinking
  rw [show exec .chargeTermination s = _ from State.arrive_runs h _ _, runChargeTermination, if_pos (by simp [hlive, hmode, hcharging])]
  dsimp only
  rw [hquiet, if_neg Bool.false_ne_true, State.charged]

theorem exec_rechargeStart_of_ready (h : s.lanesRun) (hlive : s.chgLive = true) (hst : s.st liCharger = .off) (hterm : s.chg.terminated = true)
    (hrun : s.chg.run = true) (hsource : s.chg.source.isSome = true) (hto : s.chg.switchTo = none) (hpack : s.chg.present = true) :
    exec .rechargeStart s = .next ((s.modChg fun c => { c with terminated := false }).loopRequest liCharger .starting 0x22) := by
  rw [show exec .rechargeStart s = _ from State.arrive_runs h _ _, runRechargeStart, if_pos (by simp [hlive, hst, hterm, hrun])]
  exact congrArg Host.Outcome.next (if_pos (by simp [State.chgReady, State.modChg, hsource, hto, hpack]))

/-! The safety timer (R454). -/

/-- The equivalent count's step: the current's share of CHG_ICC, in units of 2^-16 ticks, at least an eighth and at most a whole. -/
def timerRise (i icc : Nat) : Nat := max 8192 (min 65536 (i * 65536 / icc))

theorem timerRise_le (i icc : Nat) : timerRise i icc ≤ 65536 := by
  unfold timerRise
  omega

theorem exec_safetyTimerUpdate_of_short (h : s.lanesRun) (hlive : s.chgLive = true) (hinto : s.intoPack = true) (hicc : 0 < s.im Img.chgIcc)
    (heq : s.chg.tmrEq + 65536 < s.im Img.chgTmrMin * 6000 * 65536) (habs : s.chg.tmrAbs + 1 < 3 * (s.im Img.chgTmrMin * 6000))
    (hmax : s.chg.tmrAbs < 0xFFFFFFFF) (i : Nat) : exec (.safetyTimerUpdate i) s =
      .next (s.modChg fun c => { c with iout := i, tmrEq := c.tmrEq + timerRise i (10 * s.im Img.chgIcc), tmrAbs := c.tmrAbs + 1 }) := by
  have hcount : satAdd 0xFFFFFFFF s.chg.tmrAbs 1 = s.chg.tmrAbs + 1 := by
    unfold satAdd
    omega
  have hrise := timerRise_le i (10 * s.im Img.chgIcc)
  have hstep : (if 10 * s.im Img.chgIcc = 0 then 65536 else max 8192 (min 65536 (i * 65536 / (10 * s.im Img.chgIcc)))) = timerRise i (10 * s.im Img.chgIcc) :=
    if_neg (by omega)
  rw [show exec (.safetyTimerUpdate i) s = _ from State.arrive_runs h _ _, runSafetyTimerUpdate, if_neg (by simp [hlive]), if_neg (by simp [hinto])]
  dsimp only [State.modChg]
  rw [hstep, hcount]
  have hlim : State.im { s with chg := { s.chg with iout := i, tmrEq := s.chg.tmrEq + timerRise i (10 * s.im Img.chgIcc), tmrAbs := s.chg.tmrAbs + 1 } } Img.chgTmrMin = s.im Img.chgTmrMin := rfl
  rw [hlim, decide_eq_false (by omega), decide_eq_false (by omega)]
  rfl

end

/-- Settles O46: the evaluations by phase, the end of a charge, the timer. -/
theorem chargeRunsItsPhases : Obligations.ChargeRunsItsPhases := by
  unfold Obligations.ChargeRunsItsPhases
  refine ⟨fun s v h hlive hrev hsink hmay hband h416 h417 h418 h425 hseen => ?phases, fun s h hlive =>
    ⟨fun hmode hcharging hsink => ?ends, fun hst hterm hrun hsource hto hpack _ _ => ?recharges⟩,
    fun s i h hlive hinto hicc heq habs hmax => exec_safetyTimerUpdate_of_short h hlive hinto hicc heq habs hmax i⟩
  case phases =>
    have hc : s.ChargeRuns := ⟨hlive, hrev, hsink, hmay, hband, h416, h417, h418, h425, hseen⟩
    refine ⟨fun hst hmode hv hlast => ?tenth, fun hst hmode hv hearly => ?counts, fun hst hmode hv => ?anew, fun hst hder hmode hv => ?full⟩
    case tenth =>
      have hstep : (s.evaluates v).phaseStep v = { (s.evaluates v).chg with mode := 2, evals := 0 } :=
        (State.phaseStep_of_trickle (s := s.evaluates v) hmode v).trans ((if_pos hv).trans (if_pos hlast))
      rw [exec_chargeEvaluation_of_runs h hc (by omega), State.chgPhases_of_starting (s := s.evaluates v) hmay hseen hst
        (by rw [hstep]; exact show 2 ≠ 3 by decide), hstep]
      rfl
    case counts =>
      have hstep : (s.evaluates v).phaseStep v = { (s.evaluates v).chg with evals := s.chg.evals + 1 } :=
        (State.phaseStep_of_trickle (s := s.evaluates v) hmode v).trans ((if_pos hv).trans (if_neg hearly))
      rw [exec_chargeEvaluation_of_runs h hc (by omega), State.chgPhases_of_starting (s := s.evaluates v) hmay hseen hst
        (by rw [hstep]; exact fun h3 => absurd (hmode.symm.trans h3) (by decide)), hstep]
      rfl
    case anew =>
      have hstep : (s.evaluates v).phaseStep v = { (s.evaluates v).chg with evals := 0 } :=
        (State.phaseStep_of_trickle (s := s.evaluates v) hmode v).trans (if_neg (Nat.not_le.2 hv))
      rw [exec_chargeEvaluation_of_runs h hc (by omega), State.chgPhases_of_starting (s := s.evaluates v) hmay hseen hst
        (by rw [hstep]; exact fun h3 => absurd (hmode.symm.trans h3) (by decide)), hstep]
      rfl
    case full =>
      rw [exec_chargeEvaluation_of_runs h hc (by omega), State.chgPhases_of_full (s := s.evaluates v) hmay hseen hst hmode hv hder]
      rfl
  case ends =>
    have hmoves := GaugeMoves.gaugeTerminated s.charged
    refine ⟨_, exec_chargeTermination_of_full h hlive hmode hcharging hsink, ?_, hmoves.asks (stateReq liCharger .off 5 0x22) (by decide) s.charged_asks⟩
    rw [hmoves.chg, State.charged_chg]
  case recharges =>
    have honly := State.loopRequest_only (s.modChg fun c => { c with terminated := false }) liCharger .starting 0x22
    refine ⟨_, exec_rechargeStart_of_ready h hlive hst hterm hrun hsource hto hpack, ?_, State.loopRequest_asks .., ?_⟩
    · rw [honly]; rfl
    · rw [honly]; rfl

end Sys2Proof.Machine
end

section
/-! PROOFS. O47: pack conversions, removal and insertion (R443, R456 to R458). -/

namespace Sys2Proof.Machine

section
variable {s : State}

/-! A pack conversion (R443). -/

/-- The temperature of the pack after a conversion: the old one when the ratio is not valid. -/
def State.packTemp (s : State) (ntc : Nat) : Int :=
  if ratioValid ntc then ntcMilliC ntc (10 * s.im Img.chgPntcR25) (s.im Img.chgPntcBeta) else s.chg.ntcT

/-- The pack as a conversion finds it. -/
def State.packSeen (s : State) (idMv ntc : Nat) : State :=
  s.modChg fun c => { c with idMv := idMv, ntc := ntc, ntcT := s.packTemp ntc, present := decide (idMv < 2000) && ratioValid ntc && !c.removed }

theorem exec_packConversion_of_live (h : s.lanesRun) (hlive : s.chgLive = true) (idMv ntc : Nat) : exec (.packConversion idMv ntc) s =
    .next (if s.imb Img.thmNtc15Pack then (s.packSeen idMv ntc).setThmIn 63 (if ratioValid ntc then some (s.packTemp ntc) else none) else s.packSeen idMv ntc) := by
  rw [show exec (.packConversion idMv ntc) s = _ from State.arrive_runs h _ _, runPackConversion, if_neg (by simp [hlive])]
  rfl

theorem State.setThmIn_only (s : State) (n : Nat) (x : Option Int) : s.setThmIn n x = { s with thm := (s.setThmIn n x).thm } := rfl

/-! Removal (R456, R457). -/

theorem State.energyStop_of_none (h : s.lace.energy = none) (named : Bool) : s.energyStop named = s := if_pos (by rw [h]; rfl)

/-- The selection of a source rests on the image, the order in force, the over-voltages and the source in use (R444). -/
theorem State.chgSelect_congr {t : State} (himg : t.img = s.img) (hlace : t.lace = s.lace) (hov : t.chg.ovOff = s.chg.ovOff)
    (hsource : t.chg.source = s.chg.source) (hlow : t.chg.lowSteps = s.chg.lowSteps) (m : SourceMeas) : t.chgSelect m = s.chgSelect m := by
  unfold State.chgSelect State.sinking State.imb State.im
  rw [himg, hlace, hov, hsource, hlow]

/-- The charger's record once the pack is gone: at rest, its timers from 0 and the removal counted. -/
def Chg.packGone (c : Chg) : Chg :=
  { c with tmrEq := 0, tmrAbs := 0, conv := false, mode := 0, ivr := false, removed := true, present := false, hot := false, remCnt := satAdd 0xFFFF c.remCnt 1 }

/-- Supply mode from a source: at once where its pair is on, else by a change of source (R456). -/
def Chg.supplied (c : Chg) (src : Bool) : Chg :=
  if c.source = some src ∧ (if src then c.solOn else c.netOn) = true then { c with mode := 5, conv := true }
  else { c with mode := 5, conv := false, solOn := false, netOn := false, source := some src, switchTo := some src }

theorem Chg.supplied_of_on {c : Chg} {src : Bool} (h : c.source = some src) (hon : (if src then c.solOn else c.netOn) = true) :
    c.supplied src = { c with mode := 5, conv := true } := if_pos ⟨h, hon⟩

theorem Chg.supplied_of_other {c : Chg} {src : Bool} (h : c.source ≠ some src) :
    c.supplied src = { c with mode := 5, conv := false, solOn := false, netOn := false, source := some src, switchTo := some src } :=
  if_neg fun hboth => h hboth.1

theorem Chg.supplied_only (c : Chg) (src : Bool) : c.supplied src =
    { c with mode := 5, conv := (c.supplied src).conv, solOn := (c.supplied src).solOn, netOn := (c.supplied src).netOn, source := some src,
             switchTo := (c.supplied src).switchTo } := by
  by_cases hsource : c.source = some src
  · by_cases hon : (if src then c.solOn else c.netOn) = true
    · rw [Chg.supplied_of_on hsource hon, ← hsource]
    · rw [Chg.supplied, if_neg fun hboth => hon hboth.2]
  · rw [Chg.supplied_of_other hsource]

/-- The removal as the charger, the collector and the gauge note it. -/
def State.packTaken (s : State) : State :=
  (((s.modChg Chg.packGone).assertSrc 420 0).raiseEvt 234 (reqrSource 420)).gaugeRemoved

theorem State.gaugeRemoved_outside (s : State) : s.gaugeRemoved.outside = { s.outside with gau := s.gaugeRemoved.gau } := by
  rw [State.gaugeRemoved, State.learnEnd_only]
  rfl

theorem State.packTaken_outside (s : State) : s.packTaken.outside = { s.outside with chg := s.chg.packGone, gau := s.packTaken.gau } := by
  have hnote : (((s.modChg Chg.packGone).assertSrc 420 0).raiseEvt 234 (reqrSource 420)).outside = { s.outside with chg := s.chg.packGone } := by
    rw [State.raiseEvt_outside, State.assertSrc_outside]
    rfl
  unfold State.packTaken
  conv_lhs => rw [State.gaugeRemoved_outside, hnote]

theorem State.packTaken_chg (s : State) : s.packTaken.chg = s.chg.packGone := (congrArg State.chg s.packTaken_outside :)

theorem State.packTaken_line (s : State) : (s.packTaken.src 420).line = true := by
  have hnote : (((((s.modChg Chg.packGone).assertSrc 420 0).raiseEvt 234 (reqrSource 420))).src 420).line = true := by
    rw [(Stirs.raiseEvt _ _ _).lines _ (by decide)]
    exact State.assertSrc_line _ _ _ (by decide)
  rw [State.packTaken, State.gaugeRemoved, State.learnEnd_only]
  exact hnote

theorem State.packTaken_st (s : State) : s.packTaken.st liCharger = s.st liCharger := by
  have hnote : (((s.modChg Chg.packGone).assertSrc 420 0).raiseEvt 234 (reqrSource 420)).st liCharger = s.st liCharger := by
    rw [State.raiseEvt_st _ _ _ (by decide), State.assertSrc_st _ _ _ (by decide)]
    rfl
  rw [State.packTaken, State.gaugeRemoved, State.learnEnd_only]
  exact hnote

theorem State.packTaken_select (s : State) : s.packTaken.chgSelect s.packTaken.chg.meas = s.chgSelect s.chg.meas := by
  have hout := s.packTaken_outside
  have himg : s.packTaken.img = s.img := (congrArg State.img hout :)
  have hlace : s.packTaken.lace = s.lace := (congrArg State.lace hout :)
  have hchg := s.packTaken_chg
  rw [show s.packTaken.chg.meas = s.chg.meas by rw [hchg]; rfl]
  exact State.chgSelect_congr himg hlace (by rw [hchg]; rfl) (by rw [hchg]; rfl) (by rw [hchg]; rfl) _

/-- The charger of state st after a removal: supply from the selected source, or OFF (R456, R457). -/
def State.unpacked (s : State) (st : EState) : State :=
  match s.chgSelect s.chg.meas with
  | some src => (s.modChg fun c => c.supplied src).loopRequest liCharger .active 0x22
  | none => if st = .off then s else s.loopRequest liCharger .off 0x22

/-- A removal with no order in force, of a charger that is not LATCHED_OFF: supply from the selected source, or OFF. -/
theorem exec_packRemoval_of_idle (h : s.lanesRun) (hlive : s.chgLive = true) (horder : s.lace.energy = none) (hpack : s.chg.removed = false)
    (hst : s.st liCharger ≠ .latchedOff) : exec .packRemoval s = .next (s.packTaken.unpacked (s.st liCharger)) := by
  rw [show exec .packRemoval s = _ from State.arrive_runs h _ _, runPackRemoval, if_neg (by simp [hlive, hpack]), State.energyStop_of_none horder]
  show Host.Outcome.next (match s.packTaken.st liCharger with | .latchedOff => s.packTaken | st => s.packTaken.unpacked st) = _
  rw [State.packTaken_st]
  split
  · next hlatched => exact absurd hlatched hst
  · rfl

/-- The charger's record before an insertion: at rest, its timers from 0 (R458). -/
def Chg.packBack (c : Chg) (idMv : Nat) : Chg :=
  { c with tmrEq := 0, tmrAbs := 0, conv := false, mode := 0, ivr := false, removed := false, present := true, idMv := idMv, terminated := false }

/-! Insertion (R458). -/

/-- The insertion as the charger and the collector note it. -/
def State.packGiven (s : State) (idMv : Nat) : State := ((s.modChg fun c => c.packBack idMv).raiseEvt 232 0x22).releaseSrc 420

theorem State.packGiven_outside (s : State) (idMv : Nat) : (s.packGiven idMv).outside = { s.outside with chg := s.chg.packBack idMv } := by
  rw [State.packGiven, State.releaseSrc_outside, State.raiseEvt_outside]
  rfl

theorem State.packGiven_st (s : State) (idMv : Nat) : (s.packGiven idMv).st liCharger = s.st liCharger := by
  rw [State.packGiven, State.releaseSrc_st _ _ (by decide), State.raiseEvt_st _ _ _ (by decide)]
  rfl

/-- A charger in supply mode, or LATCHED_OFF, goes OFF (R458). -/
def State.resupplied (s : State) : State :=
  if s.st liCharger = .active ∨ s.st liCharger = .latchedOff then s.loopRequest liCharger .off 0x22 else s

theorem exec_packInsertion_of_latched (h : s.lanesRun) (hlive : s.chgLive = true) (hpack : s.chg.removed = true) (hst : s.st liCharger = .latchedOff)
    (hgauge : s.imb Img.gauUsed = false) (idMv : Nat) : exec (.packInsertion idMv) s = .next ((s.packGiven idMv).loopRequest liCharger .off 0x22) := by
  have hoff : (s.packGiven idMv).resupplied = (s.packGiven idMv).loopRequest liCharger .off 0x22 := if_pos (.inr ((s.packGiven_st idMv).trans hst))
  have hused : ((s.packGiven idMv).loopRequest liCharger .off 0x22).imb Img.gauUsed = false := by
    rw [State.loopRequest_imb, State.packGiven, State.releaseSrc_imb, State.raiseEvt_imb]
    exact hgauge
  rw [show exec (.packInsertion idMv) s = _ from State.arrive_runs h _ _, runPackInsertion, if_neg (by simp [hlive, hpack])]
  show Host.Outcome.next (if (s.packGiven idMv).resupplied.imb Img.gauUsed then (s.packGiven idMv).resupplied.gaugeBind idMv else (s.packGiven idMv).resupplied) = _
  rw [hoff, hused, if_neg Bool.false_ne_true]

end

/-- Settles O47: a conversion, a removal by the source that is selected, an insertion. -/
theorem packsComeAndGo : Obligations.PacksComeAndGo := by
  unfold Obligations.PacksComeAndGo
  refine ⟨fun s idMv ntc h hlive => ⟨_, exec_packConversion_of_live h hlive idMv ntc, ?converts⟩, fun s h hlive horder =>
    ⟨fun hpack hst hsel => ?supplies, fun hpack hst hoff hnone => ?stops, fun hpack hst hgauge idMv => ?inserts⟩⟩
  case converts =>
    have hpresent : (s.packSeen idMv ntc).chg.present = true ↔ idMv < 2000 ∧ ratioValid ntc = true ∧ s.chg.removed = false := by
      simp [State.packSeen, State.modChg, and_assoc]
    have htemp (hinvalid : ratioValid ntc = false) : (s.packSeen idMv ntc).chg.ntcT = s.chg.ntcT :=
      if_neg (by simp [hinvalid])
    split
    · exact ⟨rfl, rfl, hpresent, htemp, rfl⟩
    · exact ⟨rfl, rfl, hpresent, htemp, rfl⟩
  case supplies =>
    obtain ⟨src, hsrc⟩ := Option.isSome_iff_exists.1 hsel
    have hexec := exec_packRemoval_of_idle h hlive horder hpack hst
    rw [State.unpacked, State.packTaken_select, hsrc] at hexec
    rw [hsrc]
    have honly := State.loopRequest_only (s.packTaken.modChg fun c => c.supplied src) liCharger .active 0x22
    have hchg : ((s.packTaken.modChg fun c => c.supplied src).loopRequest liCharger .active 0x22).chg = s.chg.packGone.supplied src := by
      rw [honly, ← State.packTaken_chg]
      rfl
    have hgau : ((s.packTaken.modChg fun c => c.supplied src).loopRequest liCharger .active 0x22).gau = s.packTaken.gau := by rw [honly]; rfl
    refine ⟨_, hexec, ?_, fun hsame hsol hnet => ?_, fun hother => ?_, ?_, State.loopRequest_asks .., ?_⟩
    · rw [hchg]
      exact Chg.supplied_only _ src
    · have hon : (if src then s.chg.packGone.solOn else s.chg.packGone.netOn) = true := by
        cases src
        · exact hnet rfl
        · exact hsol rfl
      rw [hchg, Chg.supplied_of_on (c := s.chg.packGone) hsame hon]
      exact ⟨rfl, rfl, rfl, rfl⟩
    · rw [hchg, Chg.supplied_of_other (c := s.chg.packGone) hother]
      exact ⟨rfl, rfl, rfl, rfl⟩
    · rw [State.loopRequest_src_keep]
      exact s.packTaken_line
    · have hout := s.packTaken_outside
      rw [hchg, hgau, State.loopRequest_outside, ← State.packTaken_chg]
      exact congrArg (fun t : State => { t with chg := s.packTaken.chg.supplied src }) hout
  case stops =>
    have hexec := exec_packRemoval_of_idle h hlive horder hpack hst
    rw [State.unpacked, State.packTaken_select, hnone] at hexec
    dsimp only at hexec
    rw [if_neg hoff] at hexec
    have honly := State.loopRequest_only s.packTaken liCharger .off 0x22
    have hchg : (s.packTaken.loopRequest liCharger .off 0x22).chg = s.chg.packGone := by rw [honly]; exact s.packTaken_chg
    have hgau : (s.packTaken.loopRequest liCharger .off 0x22).gau = s.packTaken.gau := by rw [honly]
    refine ⟨_, hexec, hchg, ?_, State.loopRequest_asks .., ?_⟩
    · rw [State.loopRequest_src_keep, s.packTaken_line]
    · rw [hchg, hgau, State.loopRequest_outside, s.packTaken_outside]
  case inserts =>
    have honly := State.loopRequest_only (s.packGiven idMv) liCharger .off 0x22
    have hgiven := s.packGiven_outside idMv
    have hchg : ((s.packGiven idMv).loopRequest liCharger .off 0x22).chg = s.chg.packBack idMv := by
      rw [honly]
      exact (congrArg State.chg hgiven :)
    refine ⟨_, exec_packInsertion_of_latched h hlive hpack hst hgauge idMv, hchg, ?_, State.loopRequest_asks .., ?_⟩
    · rw [State.loopRequest_src_keep]
      exact State.releaseSrc_line _ _ (by decide)
    · rw [hchg, State.loopRequest_outside, hgiven]

end Sys2Proof.Machine
end

section
/-! PROOFS. O48: model steps and evaluations of the gauge (R469, R470, R472 to R474, R482). -/

namespace Sys2Proof.Machine

section
variable {s : State}

/-! A model step (R469, R470, R472, R473). -/

/-- A clamp of the observer, and the freeze that it may bring, leave the gauge's record. -/
theorem State.observerClamp_keeps (s : State) : s.observerClamp.outside = { s.outside with loops := s.observerClamp.loops } := by
  have hclamp : (s.loopClamp 257).2.outside = { s.outside with loops := (s.loopClamp 257).2.loops } := by
    unfold State.loopClamp
    dsimp only
    split <;> rfl
  unfold State.observerClamp
  generalize s.loopClamp 257 = p at hclamp ⊢
  obtain ⟨freezes, u⟩ := p
  dsimp only at hclamp ⊢
  split
  · have hout : ((u.commitFlags liGauge 5 0x24 (flagMask fFROZEN) 0).raiseEvt 238 0x24).outside = u.outside := by
      rw [State.raiseEvt_outside, State.commitFlags, State.commit_only]
      rfl
    have hloops : ((u.commitFlags liGauge 5 0x24 (flagMask fFROZEN) 0).raiseEvt 238 0x24).loops = u.loops := (congrArg State.loops hout :)
    rw [hloops, hout]
    exact hclamp
  · exact hclamp

/-- The two voltages of the model after a time dt (R469). -/
def State.relaxed1 (s : State) (dt : Nat) : Int :=
  relax s.gau.v1 (expNeg32 (10 * dt) (s.im Img.gauTau1 s.thm.band)) s.gau.iMa (s.im Img.gauR1 s.thm.band)

def State.relaxed2 (s : State) (dt : Nat) : Int :=
  relax s.gau.v2 (expNeg32 dt (s.im Img.gauTau2 s.thm.band)) s.gau.iMa (s.im Img.gauR2 s.thm.band)

/-- The residual of the model (R470). -/
def State.modelError (s : State) (dt : Nat) : Int :=
  s.gau.vCell * 65536 - (s.ocvAt s.thm.band s.gau.si + dropOf s.gau.iMa (s.im Img.gauR0 s.thm.band) + s.relaxed1 dt + s.relaxed2 dt)

/-- The observer's correction before its clamp, and whether it is clamped (R470). -/
def State.correction (s : State) (dt : Nat) : Int := (s.modelError dt * s.im Img.gauObsK).fdiv 10000

def State.clamps (s : State) (dt : Nat) : Bool :=
  !(s.loop 257).frozen && decide (((s.im Img.gauObsMax * 65536 / 100 : Nat) : Int) < ((s.correction dt).natAbs : Int))

/-- S_i after the observer's correction (R470). -/
def State.observed (s : State) (dt : Nat) : Int :=
  let mx : Int := ((s.im Img.gauObsMax * 65536 / 100 : Nat) : Int)
  if (s.loop 257).frozen then s.gau.si else clampInt 0 socFull (s.gau.si + clampInt (-mx) mx (s.correction dt))

/-- S_r on its way to S_i (R470). -/
def State.converged (s : State) (dt : Nat) : Int :=
  let cv : Int := ((s.im Img.gauConv * dt * 65536 : Nat) : Int)
  clampInt 0 socFull (s.gau.sr + clampInt (-cv) cv (s.observed dt - s.gau.sr))

/-- The gauge after a model step of dt seconds (R469, R470, R472, R473). -/
def State.modelStepped (s : State) (dt : Nat) : State :=
  s.modGau fun g => { g with v1 := s.relaxed1 dt, v2 := s.relaxed2 dt, resid := clampInt (-32768) 32767 (roundUp (s.modelError dt) 65536), si := s.observed dt, sr := s.converged dt, refAge := satAdd 0xFFFFFFFF g.refAge dt, unc := min (10000 * Config.uncUnit) (g.unc + 163840 * dt * s.im Img.gauURate), learn := g.learn.map fun l => (l.1, l.2.1, l.2.2 + dt) }

theorem exec_gaugeModelStep_of_runs (h : s.lanesRun) (hg : s.gauRuns = true) {dt : Nat} (hdt : dt = if s.gau.hib then 60 else 1) :
    exec (.gaugeModelStep s.gau.hib) s = .next (if s.clamps dt then (s.modelStepped dt).observerClamp else s.modelStepped dt).gaugeWarn := by
  subst hdt
  rw [show exec (.gaugeModelStep s.gau.hib) s = _ from State.arrive_runs h _ _, runGaugeModelStep, if_neg (by simp [hg])]
  rfl

/-- A step and its warning, with a clamp of the observer or without. -/
theorem State.stepWarn_moves {t : State} (ht : t.outside = { s.outside with gau := t.gau, loops := t.loops }) :
    t.gaugeWarn.outside = { s.outside with gau := t.gaugeWarn.gau, loops := t.gaugeWarn.loops, setAt := t.gaugeWarn.setAt } := by
  have hwarn := t.gaugeWarn_moves.1.outside
  have hloops : t.gaugeWarn.loops = t.loops := (congrArg State.loops hwarn :)
  rw [hloops]
  conv_lhs => rw [hwarn]
  rw [ht]

/-! An evaluation (R474, R482). -/

/-- The means of 10 ms are taken (R466). -/
def State.meansTaken (s : State) (i v : Int) : State :=
  let s := s.modGau fun g => { g with iMa := i, vCell := v, sumI := 0, sumV := 0, sums := 0, restDue := false, rest := g.rest && decide (i.natAbs ≤ s.im Img.gauRestI) }
  s.modGau fun g => { g with vc := clampInt (-32768) 65535 (roundUp s.vComp 65536) }

/-- The compensated voltage of the means. -/
theorem State.meansTaken_vComp (s : State) (i v : Int) : (s.meansTaken i v).vComp = v * 65536 - dropOf i (s.im Img.gauR0 s.thm.band) := rfl

/-- The first evaluation of a pack sets its charge from the open-circuit voltage (R482). -/
def State.bound (s : State) (soc : Int) : State :=
  s.modGau fun g => { g with binding := false, si := soc, sr := soc, unc := 500 * Config.uncUnit, refAge := 0, stale := false }

theorem exec_gaugeEvaluation_of_absent (h : s.ready) (hused : s.imb Img.gauUsed = true) (hpack : s.gau.pres = false) {i v : Int} (hm : s.gaugeMeans = (i, v)) :
    exec .gaugeEvaluation s = .next (s.meansTaken i v) := by
  rw [show exec .gaugeEvaluation s = _ from State.arrive_runs h.1 _ _, runGaugeEvaluation, if_neg (by simp [h.2, hused]), hm]
  exact congrArg Host.Outcome.next (if_pos (by simpa using hpack))

theorem exec_gaugeEvaluation_of_binding (h : s.ready) (hused : s.imb Img.gauUsed = true) (hpack : s.gau.pres = true) (hbind : s.gau.binding = true)
    {i v : Int} (hm : s.gaugeMeans = (i, v)) : exec .gaugeEvaluation s =
      .next (let t := ((s.meansTaken i v).bound (s.socAt s.thm.band (v * 65536 - dropOf i (s.im Img.gauR0 s.thm.band)))).gaugeWarn
        if t.st liGauge = .off then t.loopRequest liGauge .stale 0x24 else t) := by
  rw [show exec .gaugeEvaluation s = _ from State.arrive_runs h.1 _ _, runGaugeEvaluation, if_neg (by simp [h.2, hused]), hm]
  refine congrArg Host.Outcome.next ((if_neg (by simpa using hpack)).trans ((if_pos ?_).trans ?_))
  · exact hbind
  · rfl

/-- Empty is reached: both charges are 0, and FS434 asserts with the interrupt bit (R474). -/
def State.emptied (s : State) : State :=
  (((s.modGau fun g => { g with si := 0, sr := 0, empty := true }).modGau fun g => { g with intF := g.intF ||| 1 }).setNow (.gauge 0)).assertSrc 434 0

theorem State.emptied_gau (s : State) : s.emptied.gau = { s.gau with si := 0, sr := 0, empty := true, intF := s.gau.intF ||| 1 } :=
  (GaugeStill.assertSrc ..).gau

theorem State.emptied_moves (s : State) : GaugeMoves s s.emptied :=
  (GaugeMoves.modGau s _).trans <| (GaugeMoves.modGau _ _).trans <| (GaugeStill.setNow _ _).toGaugeMoves.trans (GaugeStill.assertSrc ..).toGaugeMoves

theorem State.emptied_refilled (hhys : 0 < s.im Img.gauWarnHys) : s.emptied.refilled = false := by
  have hsr : s.emptied.gau.sr = 0 := congrArg Gau.sr s.emptied_gau
  have hlimit : s.emptied.im Img.gauWarnHys = s.im Img.gauWarnHys := State.assertSrc_im ..
  rw [State.refilled, hsr, hlimit]
  exact decide_eq_false (by omega)

/-- Empty found for the first time, with no learning cycle and no energy order to end. -/
theorem State.gaugeEmpty_of_reached (hv : s.vComp ≤ 65536 * (s.im Img.gauVEmpty : Nat)) (hfirst : s.gau.empty = false) (hlearn : s.gau.learn = none)
    (horder : s.lace.energy = none) : s.gaugeEmpty = s.emptied := by
  have hlast : s.emptied.learnResult = s.emptied := by
    have hnone : s.emptied.gau.learn = none := by rw [State.emptied_gau]; exact hlearn
    rw [State.learnResult, hnone]
  have hkeeps : s.emptied.lace.energy = none := by
    rw [show s.emptied.lace = s.lace from (congrArg State.lace s.emptied_moves.outside :)]
    exact horder
  rw [State.gaugeEmpty, if_pos hv]
  dsimp only
  rw [hfirst, if_neg Bool.false_ne_true]
  show (match (State.learnResult s.emptied).lace.energy with | some o => _ | none => State.learnResult s.emptied) = _
  rw [hlast, hkeeps]

theorem exec_gaugeEvaluation_of_empty (h : s.ready) (hused : s.imb Img.gauUsed = true) (hpack : s.gau.pres = true) (hbind : s.gau.binding = false)
    (hfirst : s.gau.empty = false) (hlearn : s.gau.learn = none) (hrest : s.gau.restDue = false) (horder : s.lace.energy = none) {i v : Int}
    (hm : s.gaugeMeans = (i, v)) (hv : v * 65536 - dropOf i (s.im Img.gauR0 s.thm.band) ≤ 65536 * (s.im Img.gauVEmpty : Nat)) :
    exec .gaugeEvaluation s = .next (s.meansTaken i v).emptied.gaugeWarn := by
  have hreached : (s.meansTaken i v).gaugeEmpty = (s.meansTaken i v).emptied := State.gaugeEmpty_of_reached hv hfirst hlearn horder
  have hnone : (s.meansTaken i v).emptied.gau.learn = none := by rw [State.emptied_gau]; exact hlearn
  rw [show exec .gaugeEvaluation s = _ from State.arrive_runs h.1 _ _, runGaugeEvaluation, if_neg (by simp [h.2, hused]), hm]
  refine congrArg Host.Outcome.next ((if_neg (by simpa using hpack)).trans ((if_neg (show ¬s.gau.binding = true by simp [hbind])).trans ?_))
  simp only [hrest, Bool.false_and, Bool.false_eq_true, if_false]
  show State.gaugeWarn (match (State.gaugeEmpty (s.meansTaken i v)).gau.learn with | some _ => _ | none => State.gaugeEmpty (s.meansTaken i v)) = _
  rw [hreached, hnone]

end

/-- Settles O48: a model step by `State.modelStepped`, an evaluation by what its pack and its voltage make of it. -/
theorem gaugeStepsAndEvaluates : Obligations.GaugeStepsAndEvaluates := by
  unfold Obligations.GaugeStepsAndEvaluates
  intro s
  refine ⟨fun h hg dt hdt => ?steps, fun h hused hpack i v hm => ?absent, fun h hused hpack hbind i v hm => ?binds,
    fun h hused hpack hbind hfirst hlearn hrest horder i v hm hv hhys => ?empties⟩
  case steps =>
    obtain ⟨t, hexec, hgau, hout⟩ : ∃ t : State, exec (.gaugeModelStep s.gau.hib) s = .next t.gaugeWarn ∧ t.gau = (s.modelStepped dt).gau ∧
        t.outside = { s.outside with gau := t.gau, loops := t.loops } := by
      refine ⟨_, exec_gaugeModelStep_of_runs h hg hdt, ?_⟩
      split
      · have hclamp := State.observerClamp_keeps (s.modelStepped dt)
        have hkeep : (s.modelStepped dt).observerClamp.gau = (s.modelStepped dt).gau := (congrArg State.gau hclamp :)
        rw [hkeep, hclamp]
        exact ⟨rfl, rfl⟩
      · exact ⟨rfl, rfl⟩
    obtain ⟨-, low, intF, hwarn⟩ := t.gaugeWarn_moves
    rw [hgau] at hwarn
    refine ⟨_, hexec, ?_, ?_, ?_, ?_, ?_, ?_, fun hfrozen => ?_, State.stepWarn_moves hout⟩
    · rw [hwarn]; rfl
    · rw [hwarn]; rfl
    · rw [hwarn]; rfl
    · rw [hwarn]; rfl
    · rw [hwarn]
      exact le_clampInt 0 socFull _
    · rw [hwarn]
      exact clampInt_le (by decide) _
    · rw [hwarn]
      exact if_pos hfrozen
  case absent => exact ⟨_, exec_gaugeEvaluation_of_absent h hused hpack hm, rfl, rfl, rfl, rfl, rfl⟩
  case binds =>
    obtain ⟨hmoves, low, intF, hgau⟩ := State.gaugeWarn_moves ((s.meansTaken i v).bound (s.socAt s.thm.band (v * 65536 - dropOf i (s.im Img.gauR0 s.thm.band))))
    have hst : State.st (State.gaugeWarn _) liGauge = s.st liGauge := hmoves.st liGauge (by decide)
    refine ⟨_, exec_gaugeEvaluation_of_binding h hused hpack hbind hm, ?_⟩
    generalize State.gaugeWarn _ = t at hmoves hgau hst ⊢
    have hstill : GaugeStill t (if t.st liGauge = .off then t.loopRequest liGauge .stale 0x24 else t) := .ite (.loopRequest ..) (.refl t)
    refine ⟨?_, ?_, ?_, ?_, ?_, ?_, ?_, ?_, ?_, fun hoff => ?_, ((GaugeMoves.modGau _ _).trans (hmoves.trans hstill.toGaugeMoves)).outside⟩
    case refine_10 =>
      dsimp only
      rw [if_pos (hst.trans hoff)]
      exact State.loopRequest_asks ..
    all_goals
      dsimp only
      rw [hstill.gau, hgau]
      rfl
  case empties =>
    obtain ⟨hmoves, low, intF, hgau⟩ := State.gaugeWarn_moves (s.meansTaken i v).emptied
    have hempty := State.emptied_gau (s.meansTaken i v)
    have hfill : (s.meansTaken i v).emptied.refilled = false := State.emptied_refilled hhys
    refine ⟨_, exec_gaugeEvaluation_of_empty h hused hpack hbind hfirst hlearn hrest horder hm hv, ?_, ?_, ?_, ?_, ?_⟩
    · rw [hgau, hempty]
    · rw [hgau, hempty]
    · rw [hgau, hempty, hfill]
      rfl
    · exact State.gaugeWarn_line _ (State.assertSrc_line _ _ _ (by decide)) hfill
    · exact ((State.emptied_moves _).trans hmoves).outside

end Sys2Proof.Machine
end

section
/-! PROOFS. O49: references, the longest learning cycle, hibernation and saves of the gauge (R471, R473, R478, R483, R485). -/

namespace Sys2Proof.Machine

section
variable {s : State}

/-! What the commands are while the gauge runs. -/

theorem State.gauRuns_iff : s.gauRuns = true ↔ s.live = true ∧ s.imb Img.gauUsed = true ∧ s.gau.pres = true := by
  simp [State.gauRuns, and_assoc]

theorem exec_cleanReference_of_rest (h : s.lanesRun) (hg : s.gauRuns = true) (hrest : s.gau.iMa.natAbs ≤ s.im Img.gauRestI) :
    exec .cleanReference s = .next ((s.modGau fun g => { g with v1 := 0, v2 := 0, rest := true }).gaugeReference (s.socAt s.thm.band (s.gau.vCell * 65536)) 100) := by
  rw [show exec .cleanReference s = _ from State.arrive_runs h _ _, runCleanReference, if_neg (by simp [hg, Nat.not_lt.2 hrest])]
  rfl

/-- The reference has become stale. -/
def State.staleNoted (s : State) : State := ((s.modGau fun g => { g with stale := true }).assertSrc 432 0).raiseEvt 235 0x24

theorem State.staleNoted_still (s : State) : GaugeStill (s.modGau fun g => { g with stale := true }) s.staleNoted :=
  (GaugeStill.assertSrc ..).trans (.raiseEvt ..)

theorem State.staleNoted_gau (s : State) : s.staleNoted.gau = { s.gau with stale := true } := s.staleNoted_still.gau

theorem State.staleNoted_outside (s : State) : s.staleNoted.outside = { s.outside with gau := { s.gau with stale := true } } := by
  rw [State.staleNoted, State.raiseEvt_outside, State.assertSrc_outside]
  rfl

theorem State.staleNoted_line (s : State) : (s.staleNoted.src 432).line = true := by
  rw [State.staleNoted, (Stirs.raiseEvt _ _ _).lines _ (by decide)]
  exact State.assertSrc_line _ _ _ (by decide)

theorem exec_referenceStale_of_aged (h : s.lanesRun) (hg : s.gauRuns = true) (hfresh : s.gau.stale = false) (hage : 259200 ≤ s.gau.refAge)
    (hhib : s.gau.hib = false) (hvalid : s.st liGauge = .valid) :
    exec .referenceStale s = .next (s.staleNoted.loopRequest liGauge .stale 0x24) := by
  have hgau := s.staleNoted_gau
  have hkeeps : (s.staleNoted.gau.hib || s.staleNoted.st liGauge != .valid) = false := by
    rw [hgau, s.staleNoted_still.st liGauge (by decide), show State.st (s.modGau _) liGauge = _ from hvalid]
    simpa using hhib
  rw [show exec .referenceStale s = _ from State.arrive_runs h _ _, runReferenceStale, if_neg (by simp [hg, hfresh, hage])]
  exact congrArg Host.Outcome.next (if_neg (by rw [← State.staleNoted, hkeeps]; exact Bool.false_ne_true))

theorem exec_learningTimeout_of_due (h : s.lanesRun) (hg : s.gauRuns = true) {ql qin : Int} {tt : Nat} (hlearn : s.gau.learn = some (ql, qin, tt))
    (hdue : 86400 * s.im Img.gauLrnTmax ≤ tt) : exec .learningTimeout s = .next s.learnEnd := by
  rw [show exec .learningTimeout s = _ from State.arrive_runs h _ _, runLearningTimeout, hlearn]
  exact congrArg Host.Outcome.next (if_pos (by simp [hg, hdue]))

theorem exec_hibernationEnter_of_valid (h : s.lanesRun) (hg : s.gauRuns = true) (hhib : s.gau.hib = false) (hbind : s.gau.binding = false)
    (hvalid : s.st liGauge = .valid) : exec .hibernationEnter s = .next ((s.modGau fun g => { g with hib := true }).loopRequest liGauge .held 0x24) := by
  rw [show exec .hibernationEnter s = _ from State.arrive_runs h _ _, runHibernationEnter, if_pos (by simp [hg, hhib, hbind, hvalid])]

theorem exec_hibernationExit_of_hib (h : s.lanesRun) (hg : s.gauRuns = true) (hhib : s.gau.hib = true) (hpark : s.gau.hibPark = false) :
    exec .hibernationExit s = .next ((s.modGau fun g => { g with hib := false, hibPark := false }).loopRequest liGauge (if s.gau.stale then .stale else .valid) 0x24) := by
  rw [show exec .hibernationExit s = _ from State.arrive_runs h _ _, runHibernationExit, if_pos (by simp [hg, hpark]), State.gaugeWake, if_pos hhib]
  rfl

theorem exec_gaugeSave_of_runs (h : s.lanesRun) (hg : s.gauRuns = true) : exec .gaugeSave s = .next s.gaugeStore := by
  obtain ⟨hlive, hused, -⟩ := State.gauRuns_iff.1 hg
  rw [show exec .gaugeSave s = _ from State.arrive_runs h _ _, runGaugeSave, if_pos (by simp [hlive, hused])]

end

/-- A request of the gauge beside a change of the gauge's record. -/
theorem State.modGau_loopRequest (s : State) (f : Gau → Gau) (st : EState) :
    ((s.modGau f).loopRequest liGauge st 0x24).gau = f s.gau ∧ ((s.modGau f).loopRequest liGauge st 0x24).asks 6 (stateReq liGauge st 5 0x24) ∧
    (s.modGau f).loopRequest liGauge st 0x24 =
      { s with gau := ((s.modGau f).loopRequest liGauge st 0x24).gau, pipe := ((s.modGau f).loopRequest liGauge st 0x24).pipe } := by
  have honly := State.loopRequest_only (s.modGau f) liGauge st 0x24
  refine ⟨by rw [honly]; rfl, State.loopRequest_asks .., ?_⟩
  conv_lhs => rw [honly]
  rw [honly]
  rfl

/-- Settles O49, command by command. -/
theorem gaugeReferencesAndRests : Obligations.GaugeReferencesAndRests := by
  unfold Obligations.GaugeReferencesAndRests
  intro s h hg
  refine ⟨fun hrest => ?clean, fun hfresh hage hhib hvalid => ?stale, fun ql qin tt hlearn hdue => ?learning, fun hhib hbind hvalid => ?enters,
    fun hhib hpark => ?leaves, exec_gaugeSave_of_runs h hg⟩
  case clean =>
    have hmoves := GaugeMoves.gaugeReference (s.modGau fun g => { g with v1 := 0, v2 := 0, rest := true }) (s.socAt s.thm.band (s.gau.vCell * 65536)) 100
    have hgau := State.gaugeReference_gau (s.modGau fun g => { g with v1 := 0, v2 := 0, rest := true }) (s.socAt s.thm.band (s.gau.vCell * 65536)) 100
    refine ⟨_, exec_cleanReference_of_rest h hg hrest, ?_, ?_, ?_, ?_, ?_, ?_, ?_, ?_, hmoves.outside⟩
    all_goals
      rw [hgau]
      rfl
  case stale =>
    have honly := State.loopRequest_only s.staleNoted liGauge .stale 0x24
    have hgau : (s.staleNoted.loopRequest liGauge .stale 0x24).gau = { s.gau with stale := true } := by rw [honly]; exact s.staleNoted_gau
    refine ⟨_, exec_referenceStale_of_aged h hg hfresh hage hhib hvalid, hgau, ?_, State.loopRequest_asks .., ?_⟩
    · rw [State.loopRequest_src_keep, State.staleNoted_line]
    · rw [hgau, State.loopRequest_outside, State.staleNoted_outside]
  case learning =>
    refine ⟨_, exec_learningTimeout_of_due h hg hlearn hdue, ?_⟩
    rw [State.learnEnd_of_some s (by rw [hlearn]; rfl)]
    exact State.modGau_loopRequest s _ _
  case enters => exact ⟨_, exec_hibernationEnter_of_valid h hg hhib hbind hvalid, State.modGau_loopRequest s _ _⟩
  case leaves => exact ⟨_, exec_hibernationExit_of_hib h hg hhib hpark, State.modGau_loopRequest s _ _⟩

end Sys2Proof.Machine
end

section
/-! PROOFS. O51: reads, loads and halt writes of the clock (R497, R498, R500, R501, R559). -/

namespace Sys2Proof.Machine

section
variable {s : State} {i : Iface}

/-! What the commands are while the lanes run and the block governs. -/

theorem exec_rtcFracRead_of_ready (h : s.ready) :
    exec (.rtcFracRead i) s = .next (s.modIface i fun x => { x with rtcLatch := s.rtc.sec.toNat, reply := [wordOf s.rtc.frac.toNat] }) := by
  rw [show exec (.rtcFracRead i) s = _ from State.arrive_runs h.1 _ _, runRtcFracRead, if_pos h.2]
  cases i <;> rfl

theorem exec_rtcSetGo_of_ready (h : s.ready) : exec (.rtcSetGo i) s = .next (s.rtcGo i) := by
  rw [show exec (.rtcSetGo i) s = _ from State.arrive_runs h.1 _ _, runRtcSetGo, if_pos h.2]

theorem exec_rtcHaltWrite_of_ready (h : s.ready) (v : Bool) : exec (.rtcHaltWrite i v) s =
    .next (s.hostRaise i [{ stateReq liRtc (if v then .held else .valid) 4 (reqrIface i) with tag := (s.iface i).lastTag + 1 }]) := by
  rw [show exec (.rtcHaltWrite i v) s = _ from State.arrive_runs h.1 _ _, runRtcHaltWrite, State.rtcHaltReq, State.govern, h.2, if_neg (by decide)]
  rfl

/-- With room a request waits at the interface's port, and the pipeline and the interface alone change (R91, R559). -/
theorem State.hostRaise_raises (r : Req) (hroom : 1 ≤ s.p4Free) :
    ((s.hostRaise i [r]).iface i).lastTag = r.tag ∧ (s.hostRaise i [r]).asks (ifacePort i) r ∧
    s.hostRaise i [r] = { s with pipe := (s.hostRaise i [r]).pipe, host := (s.hostRaise i [r]).host } := by
  rw [State.hostRaise_of_room r hroom]
  refine ⟨?_, State.offer_mem .., State.only_pipe_host (State.modIface_only ..) (State.offer_only (ifacePort_ne_seven i) ..)⟩
  rw [State.iface_of_host (State.offer_host (ifacePort_ne_seven i) _ _), State.modIface_iface]

/-! The load (R498, R500). -/

/-- The clock with the set registers in it. -/
def State.clockSet (s : State) (f : BitVec 16) (sec : BitVec 48) : State :=
  s.modRtc fun r => { r with frac := f, sec := sec, busy := none, osf := false, trimCyc := none }

/-- The loaded clock's entry is committed VALID, and HELD waits for the next epoch under RTC_HALT. -/
def State.clockCommit (s : State) (i : Iface) : State :=
  (s.commit liRtc { st := some .valid, val := some s.rtcValue, cls := 4, reqr := reqrIface i }).modRtc fun r => { r with heldNext := if r.halt then some i else none }

theorem exec_rtcLoad_of_busy (h : s.lanesRun) {f : BitVec 16} {sec : BitVec 48} (hbusy : s.rtc.busy = some (f, sec, i)) :
    exec .rtcLoad s = .next (if s.live && s.st liRtc == .stale then (s.clockSet f sec).clockCommit i else s.clockSet f sec) := by
  rw [show exec .rtcLoad s = _ from State.arrive_runs h _ _, runRtcLoad, hbusy]
  rfl

theorem State.clockCommit_led (s : State) (i : Iface) : s.clockCommit i = { s with rtc := { s.rtc with heldNext := if s.rtc.halt then some i else none }, led := (s.clockCommit i).led } := by
  rw [State.clockCommit, State.commit_only]
  rfl

/-- With room in the ledger the entry shows the loaded seconds. -/
theorem State.clockCommit_stored (s : State) (i : Iface) (hstale : (s.stored liRtc).st = .stale) (hroom : s.led.cmtNow < 3840) :
    ((s.clockCommit i).stored liRtc).st = .valid ∧ ((s.clockCommit i).stored liRtc).val = s.rtcValue := by
  have hput : (s.clockCommit i).stored liRtc = s.entryAfter liRtc { st := some .valid, val := some s.rtcValue, cls := 4, reqr := reqrIface i } :=
    (State.commit_stored s liRtc _ liRtc).trans (if_pos ⟨rfl, by rw [hstale]; decide, Ledger.room_of_soft hroom _⟩)
  rw [hput]
  exact ⟨rfl, rfl⟩

end

/-- Settles O51: each command as it is while the lanes run; the load splits on the entry's state. -/
theorem clockIsReadLoadedAndHalted : Obligations.ClockIsReadLoadedAndHalted := by
  unfold Obligations.ClockIsReadLoadedAndHalted
  refine ⟨fun s i h => exec_rtcFracRead_of_ready h, fun s => ⟨fun i h hfree => ?go, fun i h hbusy => ?ignored, fun f sec i h hbusy => ?load⟩,
    fun s i v h hroom => ?halt⟩
  case go => rw [exec_rtcSetGo_of_ready h, State.rtcGo, hfree]; rfl
  case ignored => rw [exec_rtcSetGo_of_ready h, State.rtcGo, if_pos (Option.isSome_iff_ne_none.2 hbusy)]
  case load =>
    refine ⟨_, exec_rtcLoad_of_busy h hbusy, ?_⟩
    split
    · next hcommits =>
      obtain ⟨-, hstale⟩ : s.live = true ∧ s.st liRtc = .stale := by simpa using hcommits
      have hstored := State.clockCommit_stored (s.clockSet f sec) i
      rw [State.clockCommit_led] at hstored ⊢
      exact ⟨rfl, rfl, rfl, rfl, rfl, rfl, rfl, rfl, rfl, rfl, rfl, rfl, rfl, rfl, fun _ hst _ hnow => hstored hst hnow, fun hst => absurd hstale hst⟩
    · next hkeeps =>
      exact ⟨rfl, rfl, rfl, rfl, rfl, rfl, rfl, rfl, rfl, rfl, rfl, rfl, rfl, rfl, fun hst _ hlive _ => absurd (by simp [hst, hlive]) hkeeps, fun _ => rfl⟩
  case halt =>
    obtain ⟨htag, hasks, honly⟩ := State.hostRaise_raises (i := i) { stateReq liRtc (if v then .held else .valid) 4 (reqrIface i) with tag := (s.iface i).lastTag + 1 } hroom
    exact ⟨_, exec_rtcHaltWrite_of_ready h v, (congrArg State.rtc honly :), htag, hasks, honly⟩

end Sys2Proof.Machine
end

section
/-! PROOFS. O52: watchdog writes, ticks and reset pulses (R507, R508, R512, R513). -/

namespace Sys2Proof.Machine

section
variable {s : State} {w : Fin 8}

/-! Writes (R507). -/

theorem exec_wdgKey_of_ready (h : s.ready) (hused : s.imb Img.wdgUsed w = true) (i : Iface) (key : Word) :
    exec (.wdgKey i w key) s = .next (s.modWdg w fun x => { x with writes := x.writes ++ [.key key] }) := by
  rw [show exec (.wdgKey i w key) s = _ from State.arrive_runs h.1 _ _, runWdgKey, if_pos h.2, State.wdgWrite, if_pos hused]

theorem exec_wdgCheckin_of_ready (h : s.ready) (hused : s.imb Img.wdgUsed w = true) (i : Iface) (bits : BitVec 16) :
    exec (.wdgCheckin i w bits) s = .next (s.modWdg w fun x => { x with writes := x.writes ++ [.checkin bits] }) := by
  rw [show exec (.wdgCheckin i w bits) s = _ from State.arrive_runs h.1 _ _, runWdgCheckin, if_pos h.2, State.wdgWrite, if_pos hused]

theorem exec_wdgPeriodNew_of_ready (h : s.ready) (hused : s.imb Img.wdgUsed w = true) (i : Iface) (p : BitVec 16) :
    exec (.wdgPeriodNew i w p) s = .next (s.modWdg w fun x => { x with writes := x.writes ++ [.period p] }) := by
  rw [show exec (.wdgPeriodNew i w p) s = _ from State.arrive_runs h.1 _ _, runWdgPeriodNew, if_pos h.2, State.wdgWrite, if_pos hused]

/-! A tick with no write waiting (R508, R512). -/

/-- A watchdog that counts: ACTIVE on its good oscillator, neither pausing nor in its pulse, with no write waiting. -/
structure State.WdgCounts (s : State) (w : Fin 8) : Prop where
  osc : s.lane.wdoscOk = true
  active : (s.wdg w).active = true
  pulse : (s.wdg w).pulse = false
  paused : (s.wdg w).paused = false
  pause : s.wdgMustPause w = false
  writes : (s.wdg w).writes = []

/-- Watchdog w one tick on. -/
def State.wdgCounted (s : State) (w : Nat) : State := s.modWdg w fun x => { x with n := x.n + 1 }

theorem State.wdgCounted_wdg (s : State) (w : Nat) : (s.wdgCounted w).wdg w = { s.wdg w with n := (s.wdg w).n + 1 } :=
  (State.modWdg_wdg_at ..).trans (if_pos rfl)

theorem State.wdgCounted_wdgP (s : State) (w : Nat) : (s.wdgCounted w).wdgP w = s.wdgP w := by
  rw [State.wdgP, State.wdgCounted_wdg]
  rfl

theorem State.judgeWrites_of_none {t : State} {w : Nat} (h : (t.wdg w).writes = []) : t.judgeWrites w = t.modWdg w fun x => { x with writes := [] } := by
  rw [State.judgeWrites, h]
  rfl

theorem State.dropWrites_of_none {t : State} {w : Nat} (h : (t.wdg w).writes = []) : t.dropWrites w = t.modWdg w fun x => { x with writes := [] } := by
  rw [State.dropWrites, h]
  rfl

theorem exec_watchdogTick_of_counts (h : s.ready) (hused : s.imb Img.wdgUsed w = true) (hw : s.WdgCounts w) :
    exec (.watchdogTick w) s = .next (if s.wdgP w ≤ (s.wdg w).n + 1 then (s.wdgCounted w).wdgExpire w else (s.wdgCounted w).judgeWrites w) := by
  rw [show exec (.watchdogTick w) s = _ from State.arrive_runs h.1 _ _, runWatchdogTick, if_neg (by simp [h.2, hused]), if_pos hw.osc]
  dsimp only
  rw [if_neg (by simp [hw.active, hw.pulse]), if_neg (by simp [hw.pause]), if_neg (by simp [hw.paused])]
  show Host.Outcome.next (if (s.wdgCounted w).wdgP w ≤ ((s.wdgCounted w).wdg w).n then _ else _) = _
  rw [State.wdgCounted_wdgP, State.wdgCounted_wdg]
  rfl

/-- The counted watchdog w at the end of its period, before its source and its request (R512). -/
def State.wdgExpired (s : State) (w : Nat) : State :=
  ((s.wdgCounted w).modWdg w fun x => { x with writes := [] }).modWdg w fun x =>
    { x with pulse := true, checkin := 0, expCnt := satAdd 0xFFFF x.expCnt 1, n := s.wdgP w }

theorem State.wdgExpired_wdg (s : State) (w : Nat) : (s.wdgExpired w).wdg w =
    { s.wdg w with n := s.wdgP w, pulse := true, checkin := 0, writes := [], expCnt := satAdd 0xFFFF (s.wdg w).expCnt 1 } := by
  simp [State.wdgExpired, State.wdgCounted]

theorem State.wdgExpired_ne (s : State) {w j : Nat} (h : j ≠ w) : (s.wdgExpired w).wdg j = s.wdg j := by
  simp [State.wdgExpired, State.wdgCounted, State.modWdg_wdg_ne, h]

theorem State.wdgExpire_of_none (h : (s.wdg w).writes = []) : (s.wdgCounted w).wdgExpire w =
    ((s.wdgExpired w).assertSrc (448 + w) 0).offer 1 [stateReq (liWdg w) .failed 1 (reqrSource (448 + w))] := by
  have hdrop : (s.wdgCounted w).dropWrites w = (s.wdgCounted w).modWdg w fun x => { x with writes := [] } :=
    State.dropWrites_of_none (by rw [State.wdgCounted_wdg]; exact h)
  rw [State.wdgExpire, hdrop, State.wdgCounted_wdgP]
  rfl

/-! The end of a pulse (R513). -/

/-- Watchdog w at the beginning of a first period. -/
def State.wdgRestarted (s : State) (w : Nat) : State := s.modWdg w fun x => { x with pulse := false, n := 0, first := true, checkin := 0 }

theorem exec_resetPulseEnd_of_pulse (h : s.lanesRun) (hpulse : (s.wdg w).pulse = true) : exec (.resetPulseEnd w) s =
    .next (((s.wdgRestarted w).releaseSrc (448 + w)).offer 1 [stateReq (liWdg w) .active 1 (reqrSource (448 + w))]) := by
  rw [show exec (.resetPulseEnd w) s = _ from State.arrive_runs h _ _, runResetPulseEnd, if_neg (by simp [hpulse])]
  rfl

/-! A watchdog's source changes, and a request follows at port 1 (R512, R513). -/

theorem pulsed_wdgSource (w : Fin 8) : pulsed (448 + w) = false := pulsed_eq_false (by omega) (by omega)

/-- Outside the collector's reach a source and a request leave what the change u of the watchdogs has made. -/
theorem State.wdgNote_keeps {u t : State} (hu : u = { s with wdgs := u.wdgs }) (ht : t.outside = u.outside) (r : Req) :
    (t.offer 1 [r]).wdgs = u.wdgs ∧ (t.offer 1 [r]).outside = { s.outside with wdgs := (t.offer 1 [r]).wdgs } := by
  have hout : (t.offer 1 [r]).outside = u.outside := (State.offer_outside (by decide) ..).trans ht
  have hwdgs : (t.offer 1 [r]).wdgs = u.wdgs := (congrArg State.wdgs hout :)
  refine ⟨hwdgs, ?_⟩
  rw [hout, hwdgs, hu]
  rfl

/-- The line of the source is left by the request. -/
theorem State.offer_line (s : State) (r : Req) (n : Nat) : ((s.offer 1 [r]).src n).line = (s.src n).line := by
  rw [State.offer_only (by decide)]
  rfl

theorem State.wdg_of_wdgs {t : State} (h : t.wdgs = s.wdgs) (j : Nat) : t.wdg j = s.wdg j := by
  rw [State.wdg, h, State.wdg]

end

/-- Settles O52: writes wait; a tick counts or expires; the pulse ends. -/
theorem watchdogsWaitCountAndPulse : Obligations.WatchdogsWaitCountAndPulse := by
  unfold Obligations.WatchdogsWaitCountAndPulse
  refine ⟨fun s i w h hused => ⟨fun key => exec_wdgKey_of_ready h hused i key, fun bits => exec_wdgCheckin_of_ready h hused i bits,
    fun p => exec_wdgPeriodNew_of_ready h hused i p⟩, fun s w h hused hosc hactive hpulse hpaused hpause hwrites => ?ticks, fun s w h hpulse => ?ends⟩
  case ticks =>
    have hw : s.WdgCounts w := ⟨hosc, hactive, hpulse, hpaused, hpause, hwrites⟩
    have htick := exec_watchdogTick_of_counts h hused hw
    refine ⟨fun hgoes => ?counts, fun hends => ?expires⟩
    case counts =>
      rw [if_neg (Nat.not_le.2 hgoes), State.judgeWrites_of_none (by rw [State.wdgCounted_wdg]; exact hwrites)] at htick
      refine ⟨_, htick, ?_, fun v hv => ?_, rfl⟩
      · rw [State.modWdg_wdg_at, if_pos rfl, State.wdgCounted_wdg, ← hwrites]
      · rw [State.modWdg_wdg_ne _ _ _ _ hv, State.wdgCounted, State.modWdg_wdg_ne _ _ _ _ hv]
    case expires =>
      rw [if_pos hends, State.wdgExpire_of_none hwrites] at htick
      obtain ⟨hwdgs, hout⟩ := State.wdgNote_keeps (s := s) (u := s.wdgExpired w) rfl (State.assertSrc_outside ..)
        (stateReq (liWdg w) .failed 1 (reqrSource (448 + w)))
      refine ⟨_, htick, ?_, ?_, State.offer_mem .., fun v hv => ?_, hout⟩
      · rw [State.wdg_of_wdgs hwdgs, State.wdgExpired_wdg]
      · rw [State.offer_line, State.assertSrc_line _ _ _ (pulsed_wdgSource w)]
      · rw [State.wdg_of_wdgs hwdgs, State.wdgExpired_ne s hv]
  case ends =>
    obtain ⟨hwdgs, hout⟩ := State.wdgNote_keeps (s := s) (u := s.wdgRestarted w) rfl (State.releaseSrc_outside ..)
      (stateReq (liWdg w) .active 1 (reqrSource (448 + w)))
    refine ⟨_, exec_resetPulseEnd_of_pulse h hpulse, ?_, ?_, State.offer_mem .., fun v hv => ?_, hout⟩
    · rw [State.wdg_of_wdgs hwdgs, State.wdgRestarted, State.modWdg_wdg_at, if_pos rfl]
    · rw [State.offer_line, State.releaseSrc_line _ _ (pulsed_wdgSource w)]
    · rw [State.wdg_of_wdgs hwdgs, State.wdgRestarted, State.modWdg_wdg_ne _ _ _ _ hv]

end Sys2Proof.Machine
end

section
/-! PROOFS. O54: token checks and load sessions (R578, R579, R583, R584, R586). -/

namespace Sys2Proof.Machine

section
variable {s : State} {i : Iface} {src : Src}

/-! Tokens (R578, R579). -/

theorem exec_tokenVerify_of_ready (h : s.ready) : exec (.tokenVerify i) s = .next (s.modIface i fun x => { x with authBusy := true }) := by
  rw [show exec (.tokenVerify i) s = _ from State.arrive_runs h.1 _ _, runTokenVerify, if_pos h.2, State.tokenStart]

/-- The check ends with a new nonce. -/
def State.tokenChecked (s : State) (i : Iface) : State :=
  s.fresh.2.fresh.2.modIface i fun x => { x with authBusy := false, nonceLo := s.fresh.1, nonceHi := s.fresh.2.fresh.1 }

theorem exec_tokenCheckDone_of_pass (h : s.ready) (hbusy : (s.iface i).authBusy = true) (hpass : s.tokenPasses i = true) :
    exec (.tokenCheckDone i) s = .next ((s.tokenChecked i).fresh.2.modIface i fun x =>
      { x with armed := some (numAt (s.iface i).authBytes 0 2, wordOf (numAt (s.iface i).authBytes 20 4), numAt (s.iface i).authBytes 2 1), ticket := (s.tokenChecked i).fresh.1 }) := by
  rw [show exec (.tokenCheckDone i) s = _ from State.arrive_runs h.1 _ _, runTokenCheckDone, if_neg (by simp [hbusy])]
  exact congrArg Host.Outcome.next (if_pos hpass)

theorem exec_tokenCheckDone_of_fail (h : s.ready) (hbusy : (s.iface i).authBusy = true) (hpass : s.tokenPasses i = false) :
    exec (.tokenCheckDone i) s = .next (((s.tokenChecked i).modIface i fun x => { x with authFail := true }).setNow (.authFail (i == .spi))) := by
  rw [show exec (.tokenCheckDone i) s = _ from State.arrive_runs h.1 _ _, runTokenCheckDone, if_neg (by simp [hbusy])]
  exact congrArg Host.Outcome.next (if_neg (by simp [hpass]))

theorem exec_tokenCheckDone_of_idle (h : s.ready) (hbusy : (s.iface i).authBusy = false) : exec (.tokenCheckDone i) s = .next s := by
  rw [show exec (.tokenCheckDone i) s = _ from State.arrive_runs h.1 _ _, runTokenCheckDone, if_pos (by simp [hbusy])]

theorem exec_authExpire_of_ready (h : s.ready) : exec (.authExpire i) s = .next (s.modIface i fun x => { x with armed := none }) :=
  State.arrive_runs h.1 _ _

/-! Sessions (R583, R584, R586). -/

theorem exec_openSession_of_ready (h : s.ready) : exec (.openSession src) s = .next (s.updOpen src) := by
  rw [show exec (.openSession src) s = _ from State.arrive_runs h.1 _ _, runOpenSession, if_pos h.2]

/-- An idle session opens for any source, unless the unit is RETIRED or its owner has locked it. -/
theorem State.updOpen_of_idle (hst : s.upd.st = .idle) (hlc : s.lifecycle ≠ 4) (hlock : s.upd.lock = false) : s.updOpen src =
    s.modUpd fun u => { u with st := .loading, owner := src, banks := u.banks.set {} (b2n (!u.bank)) {}, blocks := [], blkBuf := [], blkIdx := 0, copied := 0 } :=
  if_neg (by simp [State.notOwner, hst, hlc, hlock])

theorem State.updOpen_of_refused (h : s.upd.lock = true ∨ s.lifecycle = 4 ∨ s.notOwner src = true) : s.updOpen src = s.updReject :=
  if_pos (by rcases h with h | h | h <;> simp [h])

theorem exec_blockIndex_of_ready (h : s.ready) (k : BitVec 9) : exec (.blockIndex i k) s =
    .next (if s.mayLoad (Iface.src i) then s.modUpd fun u => { u with blkIdx := k.toNat, blkBuf := [] } else s) := State.arrive_runs h.1 _ _

theorem exec_blockData_of_ready (h : s.ready) (w : Word) : exec (.blockData i w) s =
    .next (if s.mayLoad (Iface.src i) && s.upd.blkBuf.length < 4096 then s.modUpd fun u => { u with blkBuf := u.blkBuf ++ leBytes 4 w.toNat } else s) :=
  State.arrive_runs h.1 _ _

theorem exec_blockCrc_of_ready (h : s.ready) (crc : Word) : exec (.blockCrc i crc) s =
    .next (if s.mayLoad (Iface.src i) then s.storeBlock s.upd.blkBuf crc.toNat else s) := State.arrive_runs h.1 _ _

theorem exec_verify_of_ready (h : s.ready) : exec (.verify src) s = .next (s.updVerify src) := by
  rw [show exec (.verify src) s = _ from State.arrive_runs h.1 _ _, runVerify, if_pos h.2]

end

/-- Settles O54: tokens by the end of their check, sessions by command. -/
theorem tokensAndSessions : Obligations.TokensAndSessions := by
  unfold Obligations.TokensAndSessions
  refine ⟨fun s i h => ⟨exec_tokenVerify_of_ready h, fun hbusy hpass => ?passes, fun hbusy hpass => ?fails, exec_tokenCheckDone_of_idle h, exec_authExpire_of_ready h⟩,
    fun s i src h => ⟨fun hst hlc hlock => ?opens, fun hrefused => ?refuses, fun k hmay => ?index, fun w hmay hroom => ?data, fun crc hmay hmatch _ _ => ?stores,
      fun crc hmay hbad => ?discards, fun hmay => ?ignores, fun hst howner => ?verifies, fun hst => ?early⟩⟩
  case passes =>
    refine ⟨_, exec_tokenCheckDone_of_pass h hbusy hpass, ?_, ?_, ?_, ?_, ?_⟩
    all_goals cases i <;> rfl
  case fails =>
    refine ⟨_, exec_tokenCheckDone_of_fail h hbusy hpass, ?_, ?_, ?_, ?_, ?_⟩
    all_goals cases i <;> rfl
  case opens => exact ⟨_, (exec_openSession_of_ready h).trans (congrArg _ (State.updOpen_of_idle hst hlc hlock)), rfl, rfl, rfl, rfl, rfl, rfl, rfl⟩
  case refuses =>
    rw [exec_openSession_of_ready h, State.updOpen_of_refused hrefused]
    rfl
  case index => rw [exec_blockIndex_of_ready h, if_pos hmay]
  case data => rw [exec_blockData_of_ready h, if_pos (by simp [hmay, hroom])]
  case stores =>
    rw [exec_blockCrc_of_ready h, if_pos hmay]
    exact congrArg Host.Outcome.next (if_pos hmatch)
  case discards =>
    have hbad' : s.storeBlock s.upd.blkBuf crc.toNat = (s.modUpd fun u => { u with blkBuf := [] }).pulseSrc 467 s.upd.blkIdx := if_neg hbad
    have hout := State.pulseSrc_outside (s.modUpd fun u => { u with blkBuf := [] }) 467 s.upd.blkIdx
    have hupd : ((s.modUpd fun u => { u with blkBuf := [] }).pulseSrc 467 s.upd.blkIdx).upd = { s.upd with blkBuf := [] } := (congrArg State.upd hout :)
    refine ⟨_, (exec_blockCrc_of_ready h crc).trans (congrArg _ ((if_pos hmay).trans hbad')), hupd, State.releaseSrc_line _ _ (by decide), ?_⟩
    rw [hupd, hout]
    rfl
  case ignores =>
    refine ⟨fun k => ?_, fun w => ?_, fun crc => ?_⟩
    · rw [exec_blockIndex_of_ready h, if_neg (by simp [hmay])]
    · rw [exec_blockData_of_ready h, if_neg (by simp [hmay])]
    · rw [exec_blockCrc_of_ready h, if_neg (by simp [hmay])]
  case verifies =>
    rw [exec_verify_of_ready h]
    exact congrArg Host.Outcome.next (if_neg (by simp [State.notOwner, hst, howner]))
  case early =>
    rw [exec_verify_of_ready h]
    exact congrArg Host.Outcome.next (if_pos (by simp [hst]))

end Sys2Proof.Machine
end

section
/-! PROOFS. O55: the checks of a package, its copy, activation and abort, the owner's lock and remote commands (R585 to R591). -/

namespace Sys2Proof.Machine

/-! The checks (R586). -/

/-- A row of R586 or R607 that fails is reported by FS467, FS468 or FS469. -/
def CheckRow (o : Option Nat) : Prop := ∀ n, o = some n → n = 467 ∨ n = 468 ∨ n = 469

theorem CheckRow.fails {n : Nat} (h : n = 467 ∨ n = 468 ∨ n = 469) : CheckRow (some n) := fun _ hm => Option.some.inj hm ▸ h

theorem CheckRow.passes : CheckRow none := fun _ hm => nomatch hm

theorem CheckRow.ite {p : Prop} [Decidable p] {a b : Option Nat} (ha : CheckRow a) (hb : CheckRow b) : CheckRow (if p then a else b) := by
  split <;> assumption

theorem CheckRow.crc : CheckRow (some 467) := .fails (.inl rfl)
theorem CheckRow.key : CheckRow (some 468) := .fails (.inr (.inl rfl))
theorem CheckRow.version : CheckRow (some 469) := .fails (.inr (.inr rfl))

section
variable {s : State} {src : Src} {i : Iface}

theorem State.judgeImage_row (l : List Byte) : CheckRow (s.judgeImage l) :=
  .ite .crc <| .ite .key <| .ite .version <| .ite .crc .passes

theorem State.pkgFault_row : CheckRow s.pkgFault := by
  unfold State.pkgFault
  exact .ite .key <| .ite .key <| .ite .version <| .ite .version <| .ite .crc <| .ite .key <| .ite (State.judgeImage_row _) .passes

/-- What the end of the checks makes of the session. -/
def State.judged (s : State) (fault : Option Nat) : State :=
  fault.elim (if s.pkgClass = 3 then s.updReady else s.modUpd fun u => { u with st := .copying })
    fun n => (s.modUpd fun u => { u with st := .idle }).pulseSrc n 0

theorem exec_verifyDone_of_broken (h : s.ready) (hst : s.upd.st = .verifying) (hwhole : s.pkgWhole = false) :
    exec .verifyDone s = .next ((s.modUpd fun u => { u with st := .loading, rej := true }).setNow .updRej) := by
  rw [show exec .verifyDone s = _ from State.arrive_runs h.1 _ _, runVerifyDone, if_neg (by simp [hst]), if_pos (by simp [hwhole])]

theorem exec_verifyDone_of_whole (h : s.ready) (hst : s.upd.st = .verifying) (hwhole : s.pkgWhole = true) :
    exec .verifyDone s = .next (s.judged s.pkgFault) := by
  rw [show exec .verifyDone s = _ from State.arrive_runs h.1 _ _, runVerifyDone, if_neg (by simp [hst]), if_neg (by simp [hwhole])]
  cases s.pkgFault with
  | none => rfl
  | some n => rfl

/-! The copy (R587). -/

theorem State.updReady_outside (s : State) : s.updReady.outside = { s.outside with upd := { s.upd with st := .ready } } := by
  rw [State.updReady, State.raiseEvt_outside, State.pulseSrc_outside]
  rfl

theorem State.updReady_line {n : Nat} (hn : pulsed n = false) (hne : n ≠ 476) : (s.updReady.src n).line = (s.src n).line := by
  rw [State.updReady, (Stirs.raiseEvt _ _ _).lines _ hn, State.pulseSrc, (Stirs.releaseSrc _ _).lines _ hn, State.modSrc_src_ne _ _ _ _ hne,
    Stirs.assertOther _ _ _ _ hn, if_neg (Ne.symm hne)]
  rfl

theorem exec_copyDone_of_other (h : s.ready) (hst : s.upd.st = .copying) (hcls : s.pkgClass ≠ 2) (f : CopyFail) :
    exec (.copyDone f) s = .next s.updReady := by
  rw [show exec (.copyDone f) s = _ from State.arrive_runs h.1 _ _]
  exact congrArg Host.Outcome.next ((if_neg (by simp [hst])).trans (if_neg hcls))

theorem exec_copyDone_of_lost (h : s.ready) (hst : s.upd.st = .copying) (hcls : s.pkgClass = 2) :
    exec (.copyDone .copyB) s = .next (s.copyFailed 474) := by
  rw [show exec (.copyDone .copyB) s = _ from State.arrive_runs h.1 _ _]
  exact congrArg Host.Outcome.next ((if_neg (by simp [hst])).trans (if_pos hcls))

/-- Both copies of a configuration are written, and FS474 and FS473 end. -/
def State.copied (s : State) : State := ((s.modUpd fun u => { u with copied := 3 }).releaseSrc 474).releaseSrc 473

/-- The staged configuration and the sections in which it differs. -/
def State.staged (s : State) : State :=
  State.modGlb { s.copied with newImg := imgWords s.pkgPayload } fun g => { g with coldSect := sectDiff s.copied.img (imgWords s.pkgPayload) }

theorem exec_copyDone_of_copied (h : s.ready) (hst : s.upd.st = .copying) (hcls : s.pkgClass = 2) :
    exec (.copyDone .none) s = .next s.staged.updReady := by
  rw [show exec (.copyDone .none) s = _ from State.arrive_runs h.1 _ _]
  exact congrArg Host.Outcome.next ((if_neg (by simp [hst])).trans (if_pos hcls))

theorem State.copied_outside (s : State) : s.copied.outside = { s.outside with upd := { s.upd with copied := 3 } } := by
  rw [State.copied, State.releaseSrc_outside, State.releaseSrc_outside]
  rfl

theorem State.staged_outside (s : State) : s.staged.outside =
    { s.outside with upd := { s.upd with copied := 3 }, newImg := imgWords s.pkgPayload, glb := { s.outside.glb with coldSect := s.staged.glb.coldSect } } := by
  have hcopied := s.copied_outside
  unfold State.staged
  generalize s.copied = t at hcopied ⊢
  generalize sectDiff t.img (imgWords s.pkgPayload) = sections
  generalize imgWords s.pkgPayload = words
  show { t.outside with newImg := words, glb := { t.outside.glb with coldSect := sections } } = _
  rw [hcopied]
  rfl

theorem State.staged_src (s : State) (n : Nat) : s.staged.src n = s.copied.src n := by
  unfold State.staged
  generalize s.copied = t
  generalize sectDiff t.img (imgWords s.pkgPayload) = sections
  generalize imgWords s.pkgPayload = words
  rfl

theorem State.copied_line {n : Nat} (h : n = 473 ∨ n = 474) : (s.copied.src n).line = false := by
  rcases h with rfl | rfl
  · exact State.releaseSrc_line _ _ (by decide)
  · rw [State.copied, (Stirs.releaseSrc _ _).lines _ (by decide), State.modSrc_src_ne _ _ _ _ (by decide)]
    exact State.releaseSrc_line _ _ (by decide)

/-! Activation and abort (R583, R589, R590). -/

theorem exec_activate_of_ready (h : s.ready) : exec (.activate src) s = .next (s.updActivate src) := by
  rw [show exec (.activate src) s = _ from State.arrive_runs h.1 _ _, runActivate, if_pos h.2]

theorem State.updActivate_of_cause {c : Nat} (hst : s.upd.st = .ready) (howner : s.upd.owner = src) (hcause : s.actCause = some c) :
    s.updActivate src = s.actRefuse c := by
  rw [State.updActivate, if_neg (by simp [State.notOwner, hst, howner]), hcause]

/-- The session waits for its warm start. -/
def State.activated (s : State) : State := (s.modUpd fun u => { u with st := .pending }).raiseEvt 249 (reqrSource 476)

theorem State.activated_outside (s : State) : s.activated.outside = { s.outside with upd := { s.upd with st := .pending } } := State.raiseEvt_outside ..

theorem State.updActivate_of_free (hst : s.upd.st = .ready) (howner : s.upd.owner = src) (hcause : s.actCause = none) (hcls : s.pkgClass ≠ 3) :
    s.updActivate src = s.activated.modGlb fun g => { g with warmPend := g.warmPend ||| 1 } := by
  have hkeeps : s.activated.pkgClass = s.pkgClass := by
    rw [State.pkgClass, State.pkgHead, show s.activated.upd = { s.upd with st := .pending } from (congrArg State.upd s.activated_outside :)]
    rfl
  rw [State.updActivate, if_neg (by simp [State.notOwner, hst, howner]), hcause]
  exact if_neg (by rw [← State.activated, hkeeps]; exact hcls)

theorem State.updActivate_of_other (hst : s.upd.st ≠ .ready) : s.updActivate src = s.updReject := if_pos (by simp [hst])

theorem exec_abort_of_owner (h : s.ready) (howner : s.upd.st = .idle ∨ s.upd.owner = src) : exec (.abort src) s =
    .next (((s.modGlb fun g => { g with warmPend := g.warmPend &&& 2 }).modOtp fun o => { o with activation := none, patchLeft := [] }).modUpd fun u => { u with st := .idle }) := by
  rw [show exec (.abort src) s = _ from State.arrive_runs h.1 _ _, runAbort, if_pos h.2]
  exact congrArg Host.Outcome.next (if_neg (by rcases howner with h | h <;> simp [State.notOwner, h]))

/-! The owner's lock (R577, R591). -/

theorem exec_lock_of_ready (h : s.ready) : exec (.lock i) s = .next (s.updLock i true) := by
  rw [show exec (.lock i) s = _ from State.arrive_runs h.1 _ _, runLock, if_pos h.2]

theorem exec_unlock_of_ready (h : s.ready) : exec (.unlock i) s = .next (s.updLock i false) := by
  rw [show exec (.unlock i) s = _ from State.arrive_runs h.1 _ _, runUnlock, if_pos h.2]

theorem State.updLock_of_armed {on : Bool} {k : Nat} (harmed : (s.iface i).armed = some (if on then 0x21 else 0x22, 0, k)) :
    s.updLock i on = (s.modIface i fun x => { x with armed := none }).modUpd fun u => { u with lock := on } := by
  rw [State.updLock, State.useAuth, harmed]
  dsimp only
  rw [if_pos ⟨rfl, rfl⟩]

theorem State.updLock_of_none {on : Bool} (harmed : (s.iface i).armed = none) : s.updLock i on = s.updReject := by
  rw [State.updLock, State.useAuth, harmed]

/-! Remote commands (R584, R585). -/

theorem exec_remoteStage_of_ready (h : s.ready) (sl : Fin 64) : exec (.remoteStage i sl) s = .next (s.remStage sl) := by
  rw [show exec (.remoteStage i sl) s = _ from State.arrive_runs h.1 _ _, runRemoteStage, if_pos h.2]

theorem State.remStage_of_member {sl : Nat} (hsl : sl ≠ 0) (hhead : s.isDomainHead = false) : s.remStage sl = s.modUpd fun u => { u with remSlot := sl } := by
  have hmember : (s.modUpd fun u => { u with remSlot := sl }).isDomainHead = false := hhead
  rw [State.remStage, if_neg hsl]
  exact if_neg (by simp [hmember])

/-- A remote command is 3, ACTIVATE, or 4, ABORT. -/
theorem exec_remote_of_ready (h : s.ready) {c : Instr} {k : Nat} (hc : (c = .remoteActivate i ∧ k = 3) ∨ (c = .remoteAbort i ∧ k = 4)) :
    exec c s = .next (s.remCmd k) := by
  rcases hc with ⟨rfl, rfl⟩ | ⟨rfl, rfl⟩
  · rw [show exec (.remoteActivate i) s = _ from State.arrive_runs h.1 _ _, runRemoteActivate, if_pos h.2]
  · rw [show exec (.remoteAbort i) s = _ from State.arrive_runs h.1 _ _, runRemoteAbort, if_pos h.2]

theorem State.remCmd_of_head (hhead : s.isDomainHead = true) (hslot : s.upd.remSlot ≠ 0) (k : Nat) : s.remCmd k = s.remoteCmd s.upd.remSlot k :=
  if_pos (by simp [hhead, hslot])

theorem State.remCmd_of_member (hhead : s.isDomainHead = false) (k : Nat) : s.remCmd k = s := if_neg (by simp [hhead])

end

/-- Settles O55, command by command. -/
theorem packagesAreChecked : Obligations.PackagesAreChecked := by
  unfold Obligations.PackagesAreChecked
  intro s src i h
  refine ⟨exec_verifyDone_of_broken h, fun n hst hwhole hfault => ?fault, fun hst hwhole hfault hcls => ?passes, fun f hst hcls => ?copiesOther,
    fun hst hcls => ?lost, fun hst hcls => ?copies, fun c hst howner hcause => ?refused, fun hst howner hcause hcls => ?activates,
    fun hst => ?early, fun howner => ⟨_, exec_abort_of_owner h howner, rfl, rfl, rfl, rfl, rfl⟩, fun k harmed => ?locks, fun k harmed => ?unlocks, fun harmed => ?unarmed, ?slot0,
    fun sl hsl hhead => ?member, fun c k e hc hhead hslot he hup hq f hf hsend => ?remote, fun hhead => ?notHead⟩
  case fault =>
    have hn : pulsed n = false := by rcases State.pkgFault_row n hfault with rfl | rfl | rfl <;> decide
    have hout := State.pulseSrc_outside (s.modUpd fun u => { u with st := .idle }) n 0
    have hupd : ((s.modUpd fun u => { u with st := .idle }).pulseSrc n 0).upd = { s.upd with st := .idle } := (congrArg State.upd hout :)
    refine ⟨_, (exec_verifyDone_of_whole h hst hwhole).trans (by rw [hfault]; rfl), hupd, State.releaseSrc_line _ _ hn, ?_⟩
    rw [hupd, hout]
    rfl
  case passes =>
    rw [exec_verifyDone_of_whole h hst hwhole, hfault]
    exact congrArg Host.Outcome.next (if_neg hcls)
  case copiesOther =>
    have hout := s.updReady_outside
    have hupd : s.updReady.upd = { s.upd with st := .ready } := (congrArg State.upd hout :)
    exact ⟨_, exec_copyDone_of_other h hst hcls f, hupd, by rw [hupd, hout]⟩
  case lost =>
    have hout : (s.copyFailed 474).outside = { s.outside with upd := { s.upd with st := .idle } } := State.assertSrc_outside ..
    have hupd : (s.copyFailed 474).upd = { s.upd with st := .idle } := (congrArg State.upd hout :)
    exact ⟨_, exec_copyDone_of_lost h hst hcls, hupd, State.assertSrc_line _ _ _ (by decide), (congrArg State.newImg hout :), by rw [hupd, hout]⟩
  case copies =>
    have hout : s.staged.updReady.outside = { s.staged.outside with upd := { s.staged.upd with st := .ready } } := State.updReady_outside _
    have hline {n : Nat} (hn : n = 473 ∨ n = 474) : (s.staged.updReady.src n).line = false := by
      rw [State.updReady_line (by rcases hn with rfl | rfl <;> decide) (by omega)]
      rw [State.staged_src, State.copied_line hn]
    have hstaged := s.staged_outside
    have hupd : s.staged.upd = { s.upd with copied := 3 } := (congrArg State.upd hstaged :)
    refine ⟨_, exec_copyDone_of_copied h hst hcls, ?_⟩
    have h473 := hline (.inl rfl)
    have h474 := hline (.inr rfl)
    generalize s.staged.updReady = t at hout h473 h474 ⊢
    generalize s.staged = u at hout hstaged hupd
    generalize imgWords s.pkgPayload = words at hstaged ⊢
    have hcold : t.glb.coldSect = u.glb.coldSect := (congrArg (fun x => x.glb.coldSect) hout :)
    rw [hstaged, hupd, ← hcold] at hout
    have hst' : t.upd = { s.upd with copied := 3, st := .ready } := (congrArg State.upd hout :)
    have hnew : t.newImg = words := (congrArg State.newImg hout :)
    refine ⟨congrArg Upd.st hst', hnew, h473, h474, ?_⟩
    rw [hst', hnew]
    exact hout
  case refused =>
    have hout : (s.actRefuse c).outside = { s.outside with upd := { s.upd with st := .ready, refCause := c } } := State.pulseSrc_outside ..
    have hupd : (s.actRefuse c).upd = { s.upd with st := .ready, refCause := c } := (congrArg State.upd hout :)
    refine ⟨_, (exec_activate_of_ready h).trans (congrArg _ (State.updActivate_of_cause hst howner hcause)), ?_, by rw [hupd, hout]⟩
    rw [hupd, ← hst]
  case activates =>
    have hout := s.activated_outside
    refine ⟨_, (exec_activate_of_ready h).trans (congrArg _ (State.updActivate_of_free hst howner hcause hcls)), ?_⟩
    generalize s.activated = t at hout ⊢
    have hupd : t.upd = { s.upd with st := .pending } := (congrArg State.upd hout :)
    have hwarm : t.glb.warmPend = s.glb.warmPend := (congrArg (fun x => x.glb.warmPend) hout :)
    have hotp : t.otp = s.otp := (congrArg State.otp hout :)
    refine ⟨hupd, congrArg (· ||| 1) hwarm, hotp, ?_⟩
    show { t.outside with glb := { t.outside.glb with warmPend := t.glb.warmPend ||| 1 } } = _
    rw [hout]
    exact congrArg (fun u => { s.outside with upd := u, glb := { s.outside.glb with warmPend := t.glb.warmPend ||| 1 } }) hupd.symm
  case early =>
    rw [exec_activate_of_ready h, State.updActivate_of_other hst]
    rfl
  case locks => rw [exec_lock_of_ready h, State.updLock_of_armed (on := true) harmed]
  case unlocks => rw [exec_unlock_of_ready h, State.updLock_of_armed (on := false) harmed]
  case unarmed =>
    refine ⟨?_, ?_⟩
    · rw [exec_lock_of_ready h, State.updLock_of_none harmed]; rfl
    · rw [exec_unlock_of_ready h, State.updLock_of_none harmed]; rfl
  case slot0 => exact exec_remoteStage_of_ready h 0
  case member => rw [exec_remoteStage_of_ready h, State.remStage_of_member hsl hhead]
  case remote =>
    subst he hf
    refine ⟨_, (exec_remote_of_ready h hc).trans (congrArg _ (State.remCmd_of_head hhead hslot k)), ?_, ?_, fun j hj => State.sendFrame_eye_ne s _ hj _, State.sendFrame_only s _ _⟩
    · exact congrArg Eyelet.unacked (State.sendFrame_eye_of_credit s hup hq hsend)
    · exact (congrArg Eyelet.txQ (State.sendFrame_eye_of_credit s hup hq hsend)).trans hq
  case notHead => exact ⟨(exec_remote_of_ready h (.inl ⟨rfl, rfl⟩)).trans (congrArg _ (State.remCmd_of_member hhead 3)),
      (exec_remote_of_ready h (.inr ⟨rfl, rfl⟩)).trans (congrArg _ (State.remCmd_of_member hhead 4))⟩

end Sys2Proof.Machine
end

section
/-! PROOFS. O57: what PMBus reads answer while the block governs (R546, R549, R551). -/

namespace Sys2Proof.Machine

section
variable {s : State} {c : Instr} {l : List Byte}

theorem State.pmRead_of_live (hlive : s.live = true) (l : List Byte) : s.pmRead l = s.pmBytes l := by
  rw [State.pmRead, State.served_of_live hlive]

/-- A command whose effect is a read answers its bytes and changes nothing else. -/
theorem exec_of_pmRead (h : s.ready) (hread : exec c s = s.arrive c (.next (s.pmRead l))) : exec c s = .next (s.pmBytes l) := by
  rw [hread, State.arrive_runs h.1, State.pmRead_of_live h.2]

theorem exec_operation_read (h : s.ready) : exec (.operation .read) s = .next (s.pmBytes [if (s.st s.host.page).alive then 0x80 else 0x00]) := by
  have hbytes : leBytes 1 (if (s.st s.host.page).alive then 0x80 else 0x00) = [if (s.st s.host.page).alive then 0x80 else 0x00] := by
    split <;> rfl
  rw [← hbytes]
  exact exec_of_pmRead h rfl

/-- With no completion waiting 16 bytes of 0 are read (R549). -/
theorem exec_mfrQcpl_of_empty (h : s.ready) (hnone : s.host.twb0.cplFifo = []) : exec .mfrQcpl s = .next (s.pmBytes (16 :: List.replicate 16 0)) := by
  rw [show exec .mfrQcpl s = _ from State.arrive_runs h.1 _ _, runMfrQcpl, State.served_of_live h.2]
  dsimp only
  rw [hnone, List.isEmpty_nil, if_pos rfl, State.pmBlock_of_live h.2]
  rfl

end

/-- Settles O57, command by command. -/
theorem pmbusReadsAnswer : Obligations.PmbusReadsAnswer := by
  unfold Obligations.PmbusReadsAnswer
  intro s c l h hc
  have hexec : exec c s = .next (s.pmBytes l) := by
    rcases hc with ⟨rfl, rfl⟩ | ⟨rfl, rfl⟩ | ⟨rfl, rfl⟩ | ⟨rfl, rfl⟩ | ⟨rfl, rfl⟩ | ⟨rfl, rfl⟩ | ⟨rfl, rfl⟩ | ⟨rfl, rfl⟩ | ⟨rfl, rfl⟩ | ⟨rfl, rfl⟩ |
      ⟨rfl, rfl⟩ | ⟨rfl, rfl⟩ | ⟨rfl, rfl⟩ | ⟨rfl, rfl⟩ | ⟨rfl, rfl⟩ | ⟨rfl, rfl⟩ | ⟨rfl, rfl⟩ | ⟨rfl, rfl⟩ | ⟨rfl, hnone, rfl⟩
    iterate 8 · exact exec_of_pmRead h rfl
    · exact exec_operation_read h
    iterate 9 · exact exec_of_pmRead h rfl
    · exact exec_mfrQcpl_of_empty h hnone
  exact ⟨_, hexec, rfl, rfl, rfl⟩

end Sys2Proof.Machine
end

section
/-! PROOFS. O58: PMBus writes and what refuses them (R542, R544, R546 to R551, R559). -/

namespace Sys2Proof.Machine

section
variable {s : State} {p : Pec} {c : Instr}

/-! A write, by its PEC and its protection level (R544, R548). -/

theorem State.pmWrite_of_permitted (hlive : s.live = true) (hpec : s.pecBad p = false) {levels : List Nat} (hlevel : levels.contains s.host.wp = true)
    (act : State → State) : s.pmWrite p levels act = act (s.pmBytes []) := by
  rw [State.pmWrite, if_neg (by simp [State.served_of_live hlive])]
  dsimp only
  rw [show (s.pmBytes []).pecBad p = false from hpec, if_neg Bool.false_ne_true, show (s.pmBytes []).host.wp = s.host.wp from rfl, hlevel]
  rfl

theorem State.pmWrite_of_pec (hlive : s.live = true) (hpec : s.pecBad p = true) (levels : List Nat) (act : State → State) :
    s.pmWrite p levels act = ((s.pmBytes []).cmlSet 0x20).modHost fun h => { h with pec := satAdd 255 h.pec 1 } := by
  rw [State.pmWrite, if_neg (by simp [State.served_of_live hlive])]
  exact if_pos hpec

theorem State.pmWrite_of_level (hlive : s.live = true) (hpec : s.pecBad p = false) {levels : List Nat} (hlevel : levels.contains s.host.wp = false)
    (act : State → State) : s.pmWrite p levels act = (s.pmBytes []).cmlSet 0x40 := by
  rw [State.pmWrite, if_neg (by simp [State.served_of_live hlive])]
  dsimp only
  rw [show (s.pmBytes []).pecBad p = false from hpec, if_neg Bool.false_ne_true, show (s.pmBytes []).host.wp = s.host.wp from rfl, hlevel]
  rfl

/-- A command whose effect is a write has it, once it is permitted. -/
theorem exec_of_pmWrite (h : s.ready) (hpec : s.pecBad p = false) {levels : List Nat} {act : State → State}
    (hwrite : exec c s = s.arrive c (.next (s.pmWrite p levels act))) (hlevel : levels.contains s.host.wp = true) {t : State} (hact : act (s.pmBytes []) = t) :
    exec c s = .next t := by
  rw [hwrite, State.arrive_runs h.1, State.pmWrite_of_permitted h.2 hpec hlevel, hact]

theorem exec_page_write (h : s.ready) (hpec : s.pecBad p = false) (hwp : s.host.wp = 0) (v : Nat) : exec (.page (.write v p)) s =
    .next (if v < 40 then (s.pmBytes []).modHost fun h => { h with page := v } else (s.pmBytes []).cmlSet 0x40) :=
  exec_of_pmWrite h hpec rfl (by rw [hwp]; decide) rfl

theorem exec_writeProtect_write (h : s.ready) (hpec : s.pecBad p = false) (hwp : s.host.wp = 0) (v : Nat) : exec (.writeProtect (.write v p)) s =
    .next (if wpAll.contains v then (s.pmBytes []).modHost fun h => { h with wp := v } else (s.pmBytes []).cmlSet 0x40) :=
  exec_of_pmWrite h hpec rfl (by rw [hwp]; decide) rfl

/-! Requests (R546, R559). -/

/-- A governing write raises one P4 request with the tag after the interface's last. -/
theorem State.govern_of_live (hlive : s.live = true) (i : Iface) (r : Req) :
    (s.govern i r).2 = s.hostRaise i [{ r with cls := 4, reqr := reqrIface i, tag := (s.iface i).lastTag + 1, bnd := false }] := by
  rw [State.govern, hlive]
  rfl

/-- The write's answer is empty, and a request waits at port 4. -/
theorem State.pmBytes_raises (r : Req) (hroom : 1 ≤ s.p4Free) :
    ((s.pmBytes []).hostRaise .twb0 [r]).asks (ifacePort .twb0) r ∧ ((s.pmBytes []).hostRaise .twb0 [r]).host.twb0.lastTag = r.tag ∧
    ((s.pmBytes []).hostRaise .twb0 [r]).led = s.led ∧
    (s.pmBytes []).hostRaise .twb0 [r] = { s with pipe := ((s.pmBytes []).hostRaise .twb0 [r]).pipe, host := ((s.pmBytes []).hostRaise .twb0 [r]).host } := by
  obtain ⟨htag, hasks, honly⟩ := State.hostRaise_raises (s := s.pmBytes []) (i := .twb0) r hroom
  exact ⟨hasks, htag, (congrArg State.led honly :), honly⟩

theorem exec_operation_write (h : s.ready) (hpec : s.pecBad p = false) (hwp : s.host.wp = 0) {v : Nat} {st : EState}
    (hv : (v = 0x80 ∧ st = .on) ∨ ((v = 0x40 ∨ v = 0x00) ∧ st = .off)) : exec (.operation (.write v p)) s =
      .next ((s.pmBytes []).hostRaise .twb0 [{ stateReq s.host.page st 4 (reqrIface .twb0) with tag := s.host.twb0.lastTag + 1 }]) := by
  have hgovern := State.govern_of_live (s := s.pmBytes []) h.2 .twb0 (stateReq s.host.page st 4 0x40)
  refine exec_of_pmWrite h hpec rfl (by rw [hwp]; decide) (Eq.trans ?_ hgovern)
  rcases hv with ⟨rfl, rfl⟩ | ⟨rfl | rfl, rfl⟩
  · rfl
  · rfl
  · rfl

theorem exec_voutCommand_write (h : s.ready) (hpec : s.pecBad p = false) (hwp : s.host.wp = 0) (v : Nat) : exec (.voutCommand (.write v p)) s =
    .next ((s.pmBytes []).hostRaise .twb0
      [{ ep := s.host.page, kind := .setpoint, val := wordOf ((2000 * v + 4096) / 8192), cls := 4, reqr := reqrIface .twb0, tag := s.host.twb0.lastTag + 1 }]) :=
  exec_of_pmWrite h hpec rfl (by rw [hwp]; decide) (State.govern_of_live (s := s.pmBytes []) h.2 .twb0 _)

/-! Register words and requests (R549, R550). -/

/-- The request words of MFR_QREQ stand in their registers. -/
def State.reqWords (s : State) (b c d : Word) : State := (s.pmBytes []).modIface .twb0 fun x => { x with w1 := b, w2 := c, w3 := d }

theorem exec_mfrQreq_of_permitted (h : s.ready) (hpec : s.pecBad p = false) (hwp : wpAll.contains s.host.wp = true) (a b c d : Word) :
    exec (.mfrQreq [a, b, c, d] p) s = exec (.requestSubmit .twb0 a) (s.reqWords b c d) :=
  (exec_of_pmWrite h hpec rfl hwp rfl).trans (State.arrive_runs (s := s.reqWords b c d) h.1 _ _).symm

theorem exec_mfrQreq_raises (h : s.ready) (hpec : s.pecBad p = false) (hwp : wpAll.contains s.host.wp = true) {a b c d : Word} {r : Req}
    (hr : r = (s.reqWords b c d).hostReq .twb0 a) (hb : r.bnd = false) : exec (.mfrQreq [a, b, c, d] p) s = .next ((s.reqWords b c d).hostRaise .twb0 [r]) := by
  subst hr
  rw [exec_mfrQreq_of_permitted h hpec hwp, exec_requestSubmit_of_ready (s := s.reqWords b c d) h hb]

theorem exec_mfrQwrite_of_one (h : s.ready) (hpec : s.pecBad p = false) (hwp : wpAll.contains s.host.wp = true) {addr : BitVec 24}
    (w : Word) : exec (.mfrQwrite addr [w] p) s = .next ((s.pmBytes []).regWrite .twb0 addr.toNat w) := by
  have hone : (addrRun addr.toNat 1 false).zip [w] = [(addr.toNat, w)] := by rw [addrRun_one addr.isLt]; rfl
  refine exec_of_pmWrite h hpec rfl hwp ?_
  show (s.pmBytes []).writeWords .twb0 ((addrRun addr.toNat 1 false).zip [w]) = _
  rw [hone, State.writeWords_one]

/-- A command outside the tables: a write is not acknowledged, a read gives 0xFF, and STATUS_CML bit 7 is set (R547). -/
theorem exec_invalidCommand_of_ready (h : s.ready) (isWrite : Bool) : exec (.invalidCommand isWrite) s =
    .next ((if isWrite then s.modIface .twb0 fun x => { x with replyBytes := [], nacked := true } else s.pmBytes [0xFF#8]).cmlSet 0x80) := by
  rw [show exec (.invalidCommand isWrite) s = _ from State.arrive_runs h.1 _ _, runInvalidCommand, State.served_of_live h.2]

/-- A write whose PEC fails sets STATUS_CML bit 5 and is counted (R544). -/
theorem exec_of_pec (h : s.ready) (hpec : s.pecBad p = true) {levels : List Nat} {act : State → State}
    (hwrite : exec c s = s.arrive c (.next (s.pmWrite p levels act))) :
    exec c s = .next (((s.pmBytes []).cmlSet 0x20).modHost fun h => { h with pec := satAdd 255 h.pec 1 }) := by
  rw [hwrite, State.arrive_runs h.1, State.pmWrite_of_pec h.2 hpec]

/-- A write that its protection level forbids sets STATUS_CML bit 6 (R548). -/
theorem exec_of_level (h : s.ready) (hpec : s.pecBad p = false) {levels : List Nat} {act : State → State}
    (hwrite : exec c s = s.arrive c (.next (s.pmWrite p levels act))) (hlevel : levels.contains s.host.wp = false) :
    exec c s = .next ((s.pmBytes []).cmlSet 0x40) := by
  rw [hwrite, State.arrive_runs h.1, State.pmWrite_of_level h.2 hpec hlevel]

/-- Of the whole state, only the host fields change where a PEC fails. -/
theorem exec_of_pec_only (h : s.ready) (hpec : s.pecBad p = true) {levels : List Nat} {act : State → State}
    (hwrite : exec c s = s.arrive c (.next (s.pmWrite p levels act))) : runsTo c s fun t =>
    t.host.cml = s.host.cml ||| 0x20 ∧ t.host.pec = satAdd 255 s.host.pec 1 ∧ t.host.page = s.host.page ∧ t.host.wp = s.host.wp ∧ t = { s with host := t.host } :=
  ⟨_, exec_of_pec h hpec hwrite, rfl, rfl, rfl, rfl, rfl⟩

/-- Writing the words and the tag of a request changes the host fields alone. -/
theorem State.reqWords_tag_only (b c d : Word) (tag : BitVec 8) : (s.reqWords b c d).modIface .twb0 (fun x => { x with lastTag := tag }) =
    { s with host := ((s.reqWords b c d).modIface .twb0 fun x => { x with lastTag := tag }).host } := rfl

/-- MFR_QREQ raises its request at port 4 while that has room (R550, R559). -/
theorem runsTo_mfrQreq_of_room (h : s.ready) (hpec : s.pecBad p = false) (hwp : wpAll.contains s.host.wp = true) {a b c d : Word} {r : Req}
    (hr : r = (s.reqWords b c d).hostReq .twb0 a) (hb : r.bnd = false) (hroom : 1 ≤ s.p4Free) : runsTo (.mfrQreq [a, b, c, d] p) s fun t =>
      t.asks (ifacePort .twb0) r ∧ t.host.twb0.lastTag = r.tag ∧ t.host.twb0.w1 = b ∧ t.host.twb0.w2 = c ∧ t.host.twb0.w3 = d ∧
      t.host.twb0.reqRej = s.host.twb0.reqRej ∧ t.host.spi = s.host.spi ∧ t = { s with pipe := t.pipe, host := t.host } := by
  have hexec := exec_mfrQreq_raises h hpec hwp hr hb
  rw [State.hostRaise_of_room (s := s.reqWords b c d) r hroom] at hexec
  have honly := State.offer_only (ifacePort_ne_seven .twb0) ((s.reqWords b c d).modIface .twb0 fun x => { x with lastTag := r.tag }) [r]
  have hhost : (((s.reqWords b c d).modIface .twb0 fun x => { x with lastTag := r.tag }).offer (ifacePort .twb0) [r]).host =
    ((s.reqWords b c d).modIface .twb0 fun x => { x with lastTag := r.tag }).host := (congrArg State.host honly :)
  refine ⟨_, hexec, State.offer_mem .., ?_, ?_, ?_, ?_, ?_, ?_, State.only_pipe_host (State.reqWords_tag_only b c d r.tag) honly⟩
  all_goals
    rw [hhost]
    rfl

/-- MFR_QREQ is refused, and sets REQ_REJ of its interface, while port 4 has no room (R559). -/
theorem runsTo_mfrQreq_of_full (h : s.ready) (hpec : s.pecBad p = false) (hwp : wpAll.contains s.host.wp = true) {a b c d : Word} {r : Req}
    (hr : r = (s.reqWords b c d).hostReq .twb0 a) (hb : r.bnd = false) (hfull : s.p4Free = 0) : runsTo (.mfrQreq [a, b, c, d] p) s fun t =>
      t.host.twb0.reqRej = true ∧ t.host.spi = s.host.spi ∧ t = { s with host := t.host } := by
  have hexec := exec_mfrQreq_raises h hpec hwp hr hb
  rw [State.hostRaise_of_full (s := s.reqWords b c d) r hfull] at hexec
  have hrej : ((s.reqWords b c d).refused91 .twb0).host.twb0.reqRej = true := rfl
  have hspi : ((s.reqWords b c d).refused91 .twb0).host.spi = s.host.spi := rfl
  have honly : (s.reqWords b c d).refused91 .twb0 = { s with host := ((s.reqWords b c d).refused91 .twb0).host } := State.refused91_only
  exact ⟨_, hexec, hrej, hspi, honly⟩

end

/-- Settles O58: each write by what permits or refuses it. -/
theorem pmbusWritesAct : Obligations.PmbusWritesAct := by
  unfold Obligations.PmbusWritesAct
  intro s p h
  refine ⟨fun hpec hwp => ⟨fun v hv => ?page, fun v hv => ?noPage, fun v hv => ?protect, fun v st hv hroom => ?operation, fun v hroom => ?vout, ?clear,
      fun addr w _ => exec_mfrQwrite_of_one h hpec (by rw [hwp]; decide) w, exec_mfrQreq_of_permitted h hpec (by rw [hwp]; decide)⟩,
    fun hpec hwp a b c d r hr hb => ⟨runsTo_mfrQreq_of_room h hpec hwp hr hb, runsTo_mfrQreq_of_full h hpec hwp hr hb⟩, fun hpec c hc => ?badPec, fun hpec hwp c hc => ?badLevel, ?invalidWrite, ?invalidRead, ?timeout⟩
  case page => rw [exec_page_write h hpec hwp, if_pos hv]
  case noPage => rw [exec_page_write h hpec hwp, if_neg (Nat.not_lt.2 hv)]
  case protect => rw [exec_writeProtect_write h hpec hwp, if_pos hv]
  case operation => exact ⟨_, exec_operation_write h hpec hwp hv, State.pmBytes_raises _ hroom⟩
  case vout =>
    obtain ⟨hasks, -, hled, honly⟩ := State.pmBytes_raises
      { ep := s.host.page, kind := .setpoint, val := wordOf ((2000 * v + 4096) / 8192), cls := 4, reqr := reqrIface .twb0, tag := s.host.twb0.lastTag + 1 } hroom
    exact ⟨_, exec_voutCommand_write h hpec hwp v, hasks, hled, honly⟩
  case clear => exact exec_of_pmWrite h hpec rfl (by rw [hwp]; decide) rfl
  case badPec =>
    rcases hc with ⟨v, rfl⟩ | ⟨v, rfl⟩ | ⟨v, rfl⟩ | ⟨v, rfl⟩ | rfl | ⟨a, ws, rfl⟩ | ⟨ws, rfl⟩
    all_goals exact exec_of_pec_only h hpec rfl
  case badLevel =>
    rcases hc with ⟨v, rfl⟩ | ⟨v, rfl⟩ | ⟨v, rfl⟩ | rfl
    all_goals exact exec_of_level h hpec rfl (by rw [hwp]; decide)
  case invalidWrite => exact ⟨_, exec_invalidCommand_of_ready h true, rfl, rfl, rfl⟩
  case invalidRead => exact ⟨_, exec_invalidCommand_of_ready h false, rfl, rfl, rfl⟩
  case timeout =>
    rw [show exec .twb0Timeout s = _ from State.arrive_runs h.1 _ _, runTwb0Timeout, State.served_of_live h.2, if_neg nofun]

end Sys2Proof.Machine
end
